-- ==== Sys2Proof/Word.lean ====
section
/-! DEFINITION. The word types of the ZA6408 model: register words, bytes, agent IDs, and the numbers that name a
thread slot. -/

namespace Sys2Proof

/-- A 32-bit register word (R8). -/
abbrev W32 := BitVec 32
/-- A 64-bit word: TB time (R85) and the statistics counters (R17). -/
abbrev W64 := BitVec 64
/-- One byte. -/
abbrev Byte := BitVec 8
/-- A 12-bit agent ID (R26, Table 0-6). -/
abbrev Agent := BitVec 12
/-- A thread slot: 0 to 511 are slot `k % 8` of lock core `k / 8`; 512 to 515 are warden slots 0 to 3
(R26, R554). -/
abbrev SlotId := Fin 516
/-- A register code of an instruction word (Table 7-2). -/
abbrev RegCode := BitVec 5

end Sys2Proof
end

