-- ==== Sys2Proof/Syntax.lean ====
section
/-! DEFINITION. The commands of the block: one constructor for each row of spec/opcode_table.json. Commands of the ZLC
family carry the slot that issues them and the fields of their instruction word (Table 7-1). -/

namespace Sys2Proof


/-- The commands. -/
inductive Instr where
  /-- REGISTER_WRITE (R16): A write to a register field that has no step of its own takes effect now or goes to its shadow for the next turn, and later writes win. -/
  | registerWrite (ag : Agent) (a v : W32)
  /-- RC_READ (R10): A read of an RC field returns its value and clears the field, and a hardware update in the same instant applies after the clear. -/
  | rcRead (ag : Agent) (a : W32)
  /-- COUNTER_LOW_READ (R17): A read of a split counter's low cell returns bits 31:0 and copies bits 63:32 into the reading agent's latch. -/
  | counterLowRead (ag : Agent) (a : W32)
  /-- COUNTER_HIGH_READ (R18): A read of a split counter's high cell returns the reading agent's latch. -/
  | counterHighRead (ag : Agent) (a : W32)
  /-- HOST_BAR0_SUBWORD_READ (R20): A host read of 1 or 2 bytes from BAR0 returns the addressed bytes, with the side effects of a full 32-bit read. -/
  | hostBar0SubwordRead (off : BitVec 25) (two : Bool)
  /-- HOST_BAR0_SUBWORD_WRITE (R21): A host write of 1 or 2 bytes to BAR0 is dropped and logged. -/
  | hostBar0SubwordWrite (off : BitVec 25) (two : Bool) (v : BitVec 16)
  /-- HOST_BAR0_QWORD_ACCESS (R22): A host 8-byte BAR0 access is performed as two 32-bit accesses, lower address first, and is not atomic. -/
  | hostBar0QwordAccess (off : BitVec 25) (write : Bool) (v : W64)
  /-- PRE_READY_REQUEST (R71): A memory, I/O or message request that arrives before S20 completes with Unsupported Request, or is dropped if posted, and changes no state. -/
  | preReadyRequest (posted : Bool) (bar : Option (Bool × BitVec 28))
  /-- PRE_READY_CONFIG_REQUEST (R69): A configuration request that arrives before S20 completes with Configuration Request Retry Status. -/
  | preReadyConfigRequest
  /-- VIN_GOOD (R67): S01 completes once VIN rises above its rising threshold, unless TEST is high. -/
  | vinGood (test : Bool)
  /-- REGULATORS (R607): S02 starts the rails in order and checks each one, or fails with REG_FAULT. -/
  | regulators (vfsel : Bool) (bad : Option (Fin 8))
  /-- REGULATOR_RETRY (R67): After a fault at S02, the device retries the regulator start every 100 ms until the rails pass. -/
  | regulatorRetry (vfsel : Bool) (bad : Option (Fin 8))
  /-- ALWAYS_ON (R67): S03 releases the always-on domain, powers PD79, starts CK01 and samples DRSPD. -/
  | alwaysOn (drspd : BitVec 2)
  /-- OTP_AND_LIFE_CYCLE (R584): S04 reads the fuses and decides the life-cycle state, or fails with OTP_INVALID. -/
  | otpAndLifeCycle (bad : Option (BitVec 16))
  /-- BATTERY_DOMAIN_AND_TAMPER (R567): S05 reads the battery domain and the tamper record, and checks the CRC of the root secret. -/
  | batteryDomainAndTamper
  /-- WARDEN_ROM_SELF_TEST (R67): S06 hashes the warden ROM and tests the crypto engines. -/
  | wardenRomSelfTest (bad : Option (Fin 4))
  /-- FLASH_AND_UPDATE_RECORD (R601): S07 starts the flash, reads the update record and the start log, opens this start's log entry and handles trial and pending records. -/
  | flashAndUpdateRecord (bad : Option (BitVec 16))
  /-- IMAGE_SELECT_AND_VERIFY (R55): S08 selects a bank and runs image checks 0x01 to 0x08. -/
  | imageSelectAndVerify
  /-- SHAPE_LOAD (R55): S09 runs checks 0x09 to 0x12 and loads every section of the shape image. -/
  | shapeLoad
  /-- SRAM_REPAIR_AND_INITIALISATION (R67): S10 applies the repair fuses and zeroes every on-chip SRAM. -/
  | sramRepairAndInitialisation (bad : Option (BitVec 16))
  /-- TIMEBASE_PLL (R67): S11 locks the PLL, starts CK00 and sets TB time to 0. -/
  | timebasePll (lock : Bool)
  /-- DRAM_A_TRAINING (R404): S12 trains or replays channel A with its fallbacks, then starts the ECC zero fill. -/
  | dramATraining (bad : Option (Fin 6)) (replay slow differs two : Bool)
  /-- DRAM_B_TRAINING (R404): S13 trains or replays channel B with its fallbacks, then starts the ECC zero fill. -/
  | dramBTraining (bad : Option (Fin 6)) (replay slow differs two : Bool)
  /-- SERDES_CALIBRATION (R67): S14 calibrates each lane whose port MODE is not 0. -/
  | serdesCalibration (bad : Option (Fin 8))
  /-- PCIE_LINK (R67): S15 completes when the link has reached L0 and S14 has completed. -/
  | pcieLink
  /-- CORE_SELF_TEST_AND_QUARANTINE (R79): S16 self-tests every pound core and applies quarantine and spare replacement. -/
  | coreSelfTestAndQuarantine (bad : Option (Fin 64))
  /-- GOVERNOR_CALIBRATION (R617): S17 measures the replica delays, builds the calibration table and sets VCORE from POWER. -/
  | governorCalibration (cal : List (List (BitVec 16))) (bad : Option (Fin 64))
  /-- TABLE_INITIALISATION (R67): S18 clears T0 to T2 and loads their seeds and policies. -/
  | tableInitialisation (bad : Option (Fin 3))
  /-- SECURE_WORLD_START (R555): S19 loads the warden image, starts the DRBG and starts the secure watchdog. -/
  | secureWorldStart (bad : Option (BitVec 16))
  /-- READY (R84): S20 loads TOP_CAPS, enables the interfaces, starts the cycle timer and sets DEV_READY and DEGRADED. -/
  | ready (us : W32) (vinmin tjmax : BitVec 16)
  /-- START_STEP_TIMEOUT (R68): A start step that has not completed within 1.5 times its maximum time fails with STEP_TIMEOUT. -/
  | startStepTimeout
  /-- INTERNAL_RESTART (R78): 10 ms after a failed step, the device restarts from S04 and applies the fallbacks of Table 3-6. -/
  | internalRestart
  /-- POWER_ON_RESET (R73): VIN below its falling threshold, or first power, resets the device and begins a start at S01. -/
  | powerOnReset (vbat : Bool)
  /-- PERST_ASSERT (R639): A filtered PERST# assertion ends any start in progress, takes the link down and holds the device. -/
  | perstAssert
  /-- PERST_RELEASE (R73): Release of PERST# begins a start at S04 and begins link training. -/
  | perstRelease
  /-- SOFT_RESET (R76): A keyed write of BOOT_CTRL.SOFT_RESET takes the link down and begins a start at S04. -/
  | softReset (ag : Agent) (v : W32)
  /-- RETRY_ALL (R79): A keyed write of BOOT_CTRL.RETRY_ALL clears every kept fallback at the next start. -/
  | retryAll (ag : Agent) (v : W32)
  /-- SECURE_WATCHDOG_RESET (R580): A second watchdog expiry without a kick causes a chip reset of kind 3. -/
  | secureWatchdogReset
  /-- FUNCTION_LEVEL_RESET (R489): An FLR, a hot reset or a link down after S20 stops the mailbox and DMA and begins tenant and manager teardown. -/
  | functionLevelReset (link : Bool)
  /-- FLR_COMPLETE (R489): Once the outstanding reads have drained, the FLR destroys the tenants, resets MSI-X and the windows, raises EV584 and resumes. -/
  | flrComplete
  /-- SHP_APPLY (R57): A write of SHP_CTRL.APPLY checks the writer and the region, then starts checking the delta image. -/
  | shpApply (ag : Agent)
  /-- SHP_ABANDON (R57): A write of SHP_CTRL.ABANDON ends a delta before turn A and frees its joining cores and programs. -/
  | shpAbandon (ag : Agent)
  /-- DELTA_CHECK_DONE (R59): The delta check ends: on a pass the state moves to PREPARING, and on a failure the check code and status are recorded. -/
  | deltaCheckDone
  /-- DELTA_PREPARE_DONE (R64): Preparation of the joining cores ends: the state moves to ARMED, or the delta is abandoned if a self-test failed. -/
  | deltaPrepareDone (bad : Option (Fin 64))
  /-- RESHAPE_DRAIN_TIMEOUT (R62): Frames of the old fabric still in flight 64 turns after turn A are dropped with TIMEOUT. -/
  | reshapeDrainTimeout
  /-- TURN (R100): The cycle timer reaches the next cycle start and every armed swap group copies its shadow in one instant. -/
  | turn
  /-- TURN_FENCE_BEGIN (R105): 500 ns before the turn, the fence begins and later turn-swapped writes and arms are held. -/
  | turnFenceBegin
  /-- HELD_WRITES_APPLY (R106): Writes held in the fence are applied in arrival order directly after the turn. -/
  | heldWritesApply
  /-- CORRECTION_EDGE (R87): The rate accumulator crosses a whole nanosecond, so TB time advances by 0 or 2, deferred past a cycle start. -/
  | correctionEdge
  /-- TB_RATE_WRITE (R86): A write of TB_RATE sets the rate correction from the next edge, or is refused outside ±500 ppm. -/
  | tbRateWrite (ag : Agent) (v : W32)
  /-- TB_PERIOD_WRITE (R93): A write of TB_PERIOD arms group 0 with a new period, or is refused when zero or out of range. -/
  | tbPeriodWrite (ag : Agent) (v : W32)
  /-- TB_PHASE_WRITE (R95): A write of TB_PHASE arms a one-shot adjustment of the next cycle's length. -/
  | tbPhaseWrite (ag : Agent) (v : W32)
  /-- STEP_ARM (R90): A write of TB_STEP_HI captures both halves as the step and arms group 1. -/
  | stepArm (ag : Agent) (v : W32)
  /-- SNAPSHOT_TAKE (R89): TB_SNAP_CTRL.TAKE captures TB time, the cycle number and the offset into the writer's private snapshot. -/
  | snapshotTake (ag : Agent)
  /-- TB_NOW_READ (R88): A read of TB_NOW_LO returns TB time and latches its high half for the agent. -/
  | tbNowRead (ag : Agent)
  /-- SHADOW_READBACK (R104): A read of TB_SHRB_DATA returns the shadow of the register named by the agent's TB_SHRB_ADDR, with no side effects. -/
  | shadowReadback (ag : Agent)
  /-- ARM_GROUPS (R99): A write of TB_ARM arms the named EXPLICIT groups, subject to rights, verification and the fence. -/
  | armGroups (ag : Agent) (v : W32)
  /-- DISARM_GROUPS (R102): A write of TB_DISARM disarms the named groups and reloads their shadows from the live values. -/
  | disarmGroups (ag : Agent) (v : W32)
  /-- FRAME_ARRIVAL (R372): A frame starts to enter its port's ingress FIFO, evicting or being dropped if it does not fit. -/
  | frameArrival (p : Fin 8) (bytes : List (BitVec 8))
  /-- FRAME_ADMISSION (R113): A frame's header window is present and a ticket and buffer are free, so it is classified, looked up and posted to its ENTRY pound. -/
  | frameAdmission (p : Fin 8)
  /-- ARRIVAL_TOKEN_HOLD_EXPIRY (R118): A refused arrival post still refused after its 200 ns hold drops the frame with REFUSED_CAPACITY. -/
  | arrivalTokenHoldExpiry (p : Fin 10)
  /-- FRAME_FCS_RECEIVED (R371): The last byte of a received frame arrives: the FCS is checked, runts are dropped, and FCS_DONE and FCS_BAD are set. -/
  | frameFcsReceived (p : Fin 8) (asm : Bool)
  /-- FRAME_OVERSIZE (R371): The byte beyond MAXFRAME arrives and the frame is dropped, or stomped if any of it has left. -/
  | frameOversize (p : Fin 8)
  /-- LOOKUP_RESULT (R319): A sequencer lookup answers and its result and epoch are copied into the frame record. -/
  | lookupResult (k : Fin 1024) (n : Fin 3)
  /-- SEND_CTL (R120): An OUT to SEND_CTL takes a ticket and enters the frame named by SEND_BUF into the towpath from port 9. -/
  | sendCtl (w : SlotId) (v : W32)
  /-- VERDICT_ROUTE (R122): A verdict with ACTION ROUTE posts the frame to ROUTE[r] or hands it to the towpath, dropping it if the route is unused. -/
  | verdictRoute (w : SlotId) (rest : BitVec 30)
  /-- VERDICT_DROP (R122): A verdict with ACTION DROP ends the frame and drops it with its DCODE. -/
  | verdictDrop (w : SlotId) (rest : BitVec 30)
  /-- VERDICT_CONSUME_KEEP (R124): A verdict with ACTION CONSUME_KEEP ends the frame and passes its buffer to the committing slot's owner entry. -/
  | verdictConsumeKeep (w : SlotId) (rest : BitVec 30)
  /-- VERDICT_CONSUME_FREE (R124): A verdict with ACTION CONSUME_FREE ends the frame and frees its buffer. -/
  | verdictConsumeFree (w : SlotId) (rest : BitVec 30)
  /-- TOWPATH_RELEASE (R126): The oldest unreleased frame of an order domain becomes eligible and is handed to its egress queues. -/
  | towpathRelease (p : Fin 10) (c : Fin 4)
  /-- EGRESS_FCS_REACHED (R138): An egress port reaches the FCS of a run-ahead frame whose flight is incomplete, and the frame is stomped. -/
  | egressFcsReached (p : Fin 8)
  /-- CLASSMAP_WRITE (R115): A write of FLT_CLASSMAP sets the class mapping, or is refused whole if it names C0. -/
  | classmapWrite (ag : Agent) (v : W32)
  /-- DROP_LOG_RESIZE (R141): A write of FLT_DLOG_CTRL.CELLS discards the log and takes new cells from the basin. -/
  | dropLogResize (ag : Agent) (cells : BitVec 8)
  /-- ADD (R188): rd ← ra + rb, with the flags set. -/
  | add (w : SlotId) (rd ra rb : RegCode)
  /-- ADDC (R188): rd ← ra + rb + C, with the flags set. -/
  | addc (w : SlotId) (rd ra rb : RegCode)
  /-- SUB (R190): rd ← ra − rb, with C meaning no borrow. -/
  | sub (w : SlotId) (rd ra rb : RegCode)
  /-- SUBC (R190): rd ← ra − rb − (1 − C). -/
  | subc (w : SlotId) (rd ra rb : RegCode)
  /-- AND (R188): rd ← ra AND rb. -/
  | andR (w : SlotId) (rd ra rb : RegCode)
  /-- OR (R188): rd ← ra OR rb. -/
  | orR (w : SlotId) (rd ra rb : RegCode)
  /-- XOR (R188): rd ← ra XOR rb. -/
  | xor (w : SlotId) (rd ra rb : RegCode)
  /-- ANDN (R188): rd ← ra AND NOT rb. -/
  | andn (w : SlotId) (rd ra rb : RegCode)
  /-- SHL (R191): Shift left by rb[4:0]. -/
  | shl (w : SlotId) (rd ra rb : RegCode)
  /-- SHR (R191): Logical shift right by rb[4:0]. -/
  | shr (w : SlotId) (rd ra rb : RegCode)
  /-- SAR (R191): Arithmetic shift right by rb[4:0]. -/
  | sar (w : SlotId) (rd ra rb : RegCode)
  /-- ROR (R191): Rotate right by rb[4:0]. -/
  | ror (w : SlotId) (rd ra rb : RegCode)
  /-- SHLI (R191): Shift left by aux. -/
  | shli (w : SlotId) (rd ra : RegCode) (sh : BitVec 5)
  /-- SHRI (R191): Logical shift right by aux. -/
  | shri (w : SlotId) (rd ra : RegCode) (sh : BitVec 5)
  /-- SARI (R191): Arithmetic shift right by aux. -/
  | sari (w : SlotId) (rd ra : RegCode) (sh : BitVec 5)
  /-- RORI (R191): Rotate right by aux. -/
  | rori (w : SlotId) (rd ra : RegCode) (sh : BitVec 5)
  /-- MUL (R188): rd ← low 32 bits of ra × rb, at distance 2. -/
  | mul (w : SlotId) (rd ra rb : RegCode)
  /-- MULH (R188): rd ← high 32 bits of the signed product. -/
  | mulh (w : SlotId) (rd ra rb : RegCode)
  /-- MULHU (R188): rd ← high 32 bits of the unsigned product. -/
  | mulhu (w : SlotId) (rd ra rb : RegCode)
  /-- CMP (R190): Sets the flags from ra − rb. -/
  | cmp (w : SlotId) (ra rb : RegCode)
  /-- TST (R188): Sets the flags from ra AND rb. -/
  | tst (w : SlotId) (ra rb : RegCode)
  /-- CLZ (R188): rd ← count of leading zeros of ra. -/
  | clz (w : SlotId) (rd ra : RegCode)
  /-- ADDI (R188): rd ← ra + sext(imm16). -/
  | addi (w : SlotId) (rd ra : RegCode) (imm : BitVec 16)
  /-- ANDI (R188): rd ← ra AND zext(imm16). -/
  | andi (w : SlotId) (rd ra : RegCode) (imm : BitVec 16)
  /-- ORI (R188): rd ← ra OR zext(imm16). -/
  | ori (w : SlotId) (rd ra : RegCode) (imm : BitVec 16)
  /-- XORI (R188): rd ← ra XOR zext(imm16). -/
  | xori (w : SlotId) (rd ra : RegCode) (imm : BitVec 16)
  /-- CMPI (R190): Sets the flags from ra − sext(imm16). -/
  | cmpi (w : SlotId) (ra : RegCode) (imm : BitVec 16)
  /-- LUI (R188): rd ← imm16 << 16. -/
  | lui (w : SlotId) (rd : RegCode) (imm : BitVec 16)
  /-- LD (R173): A zero-extended load, checked at its first and last byte, which holds outside D-RAM. -/
  | ld (w : SlotId) (rd rb : RegCode) (mode size : BitVec 2) (imm : BitVec 12)
  /-- LDS (R173): A sign-extended load, as LD. -/
  | lds (w : SlotId) (rd rb : RegCode) (mode size : BitVec 2) (imm : BitVec 12)
  /-- ST (R164): A region-checked store, posted to the store queue outside D-RAM and subject to the edit horizon in the basin. -/
  | st (w : SlotId) (rd rb : RegCode) (mode size : BitVec 2) (imm : BitVec 12)
  /-- ALIAS_CLAIM (R445): A claim-alias store with v[31:30] 0b00 claims a free word for the storing agent and tag. -/
  | aliasClaim (w : SlotId) (rs rb : RegCode) (disp : BitVec 12)
  /-- ALIAS_RELEASE (R445): A claim-alias store with v[31:30] 0b10 frees a word that the storer holds. -/
  | aliasRelease (w : SlotId) (rs rb : RegCode) (disp : BitVec 12)
  /-- POSTED_STORE_PERFORMED (R166): A posted store leaves the store queue and is performed at its target. -/
  | postedStorePerformed (w : SlotId) (k : Fin 4)
  /-- HOLD_COMPLETE (R217): A held access, helper-unit request or mirror access completes, and the pending writes land before the next issue. -/
  | holdComplete (w : SlotId)
  /-- AMO_FADD (R200): Atomic fetch-add on shared SRAM or DRAM. -/
  | amoFadd (w : SlotId) (rd rb ra : RegCode) (size : BitVec 2)
  /-- AMO_SWAP (R200): Atomic swap. -/
  | amoSwap (w : SlotId) (rd rb ra : RegCode) (size : BitVec 2)
  /-- AMO_CAS (R200): Atomic compare-and-swap, with Z reporting the store. -/
  | amoCas (w : SlotId) (rd rb ra : RegCode) (size : BitVec 2)
  /-- AMO_MIN (R200): Atomic signed minimum. -/
  | amoMin (w : SlotId) (rd rb ra : RegCode) (size : BitVec 2)
  /-- AMO_MAX (R200): Atomic signed maximum. -/
  | amoMax (w : SlotId) (rd rb ra : RegCode) (size : BitVec 2)
  /-- AMO_MINU (R200): Atomic unsigned minimum. -/
  | amoMinu (w : SlotId) (rd rb ra : RegCode) (size : BitVec 2)
  /-- AMO_MAXU (R200): Atomic unsigned maximum. -/
  | amoMaxu (w : SlotId) (rd rb ra : RegCode) (size : BitVec 2)
  /-- AMO_WADD (R200): Atomic 128-bit add. -/
  | amoWadd (w : SlotId) (rd rb ra : RegCode)
  /-- SYNC (R169): Holds until every earlier store of the thread has been performed. -/
  | sync (w : SlotId)
  /-- NOP (R183): No operation. -/
  | nop (w : SlotId)
  /-- ILD (R155): Loads one I-space word. -/
  | ild (w : SlotId) (rd ra : RegCode) (imm : BitVec 16)
  /-- IN (R201): Reads an IO word, locally or through the block mirror, and sets OSTAT. -/
  | inIo (w : SlotId) (r : RegCode) (word : BitVec 21)
  /-- OUT (R201): Writes an IO word, locally or through the block mirror, and sets OSTAT. -/
  | outIo (w : SlotId) (r : RegCode) (word : BitVec 21)
  /-- INX (R201): IN at address ra + sext(imm16). -/
  | inx (w : SlotId) (rd ra : RegCode) (imm : BitVec 16)
  /-- OUTX (R201): OUT at address ra + sext(imm16). -/
  | outx (w : SlotId) (rd ra : RegCode) (imm : BitVec 16)
  /-- BCC (R192): A conditional branch that issues one predicted shadow and resolves at distance 2. -/
  | bcc (w : SlotId) (cond : BitVec 4) (hint : BitVec 2) (off : BitVec 16)
  /-- JMP (R183): Jumps to an absolute word address. -/
  | jmp (w : SlotId) (word : BitVec 13)
  /-- CALL (R194): Pushes the return address and jumps, trapping in TRAP mode at depth 8. -/
  | call (w : SlotId) (word : BitVec 13)
  /-- JMPR (R193): Jumps to ra. -/
  | jmpr (w : SlotId) (ra : RegCode)
  /-- CALLR (R194): Pushes the return address and jumps to ra. -/
  | callr (w : SlotId) (ra : RegCode)
  /-- RET (R194): Pops the return stack into pc, trapping at depth 0. -/
  | ret (w : SlotId)
  /-- ENTER (R195): Moves to the next register window, trapping on overflow. -/
  | enter (w : SlotId)
  /-- LEAVE (R195): Moves to the previous register window, trapping on underflow. -/
  | leave (w : SlotId)
  /-- TRAP (R198): Raises software trap vector 8 + k. -/
  | trap (w : SlotId) (k : BitVec 3)
  /-- TEXIT (R197): Leaves the trap window and continues at ra. -/
  | texit (w : SlotId) (ra : RegCode)
  /-- RDS (R150): Reads a special register. -/
  | rds (w : SlotId) (rd : RegCode) (sr : BitVec 5)
  /-- WRS (R150): Writes a special register, subject to the restrictions outside T. -/
  | wrs (w : SlotId) (sr : BitVec 5) (ra : RegCode)
  /-- RSPUSH (R239): Pushes an entry onto the return stack, in T only. -/
  | rspush (w : SlotId) (ra : RegCode)
  /-- RSPOP (R239): Pops the return stack into rd, in T only. -/
  | rspop (w : SlotId) (rd : RegCode)
  /-- TAKE (R202): Releases the slot and blocks the thread under its standing wait set. -/
  | take (w : SlotId)
  /-- WAIT (R203): Checks and blocks the thread on a wait set of 0 to 4 tags. -/
  | wait (w : SlotId) (ra rb : RegCode) (n : BitVec 3)
  /-- GIVE (R204): Posts a token to a tag after a release, reporting a refusal in OSTAT. -/
  | give (w : SlotId) (ra rb : RegCode)
  /-- CRC (R188): Advances a CRC over 1, 2 or 4 bytes. -/
  | crc (w : SlotId) (rd ra rb : RegCode) (count : BitVec 2) (ieee : Bool)
  /-- BFXU (R205): Extracts a bit field, zero-extended. -/
  | bfxu (w : SlotId) (rd ra : RegCode) (pos lenm1 : BitVec 5)
  /-- BFXS (R205): Extracts a bit field, sign-extended. -/
  | bfxs (w : SlotId) (rd ra : RegCode) (pos lenm1 : BitVec 5)
  /-- BFI (R205): Inserts a bit field. -/
  | bfi (w : SlotId) (rd ra : RegCode) (pos lenm1 : BitVec 5)
  /-- MACS (R188): Multiply-accumulate with shift and saturation, setting SAT. -/
  | macs (w : SlotId) (rd ra rb : RegCode) (sh : BitVec 5) (round : Bool)
  /-- CSEL_SEL (R205): Selects ra or rb by a condition. -/
  | cselSel (w : SlotId) (rd ra rb : RegCode) (cond : BitVec 4)
  /-- CSEL_MINMAX (R205): Selects the minimum or maximum of ra and rb. -/
  | cselMinmax (w : SlotId) (rd ra rb : RegCode) (op : BitVec 2)
  /-- DCE (R206): Delta-encodes ra against rb, with C set on escape. -/
  | dce (w : SlotId) (rd ra rb : RegCode) (table : BitVec 2)
  /-- DCD (R206): Delta-decodes a code, trapping on an invalid word. -/
  | dcd (w : SlotId) (rd ra rb : RegCode) (table : BitVec 2)
  /-- DIVS (R209): Signed divide in the helper cluster. -/
  | divs (w : SlotId) (rd ra rb : RegCode)
  /-- DIVU (R207): Unsigned divide in the helper cluster. -/
  | divu (w : SlotId) (rd ra rb : RegCode)
  /-- DIVQ (R207): Q16.16 divide with saturation. -/
  | divq (w : SlotId) (rd ra rb : RegCode)
  /-- SQRTU (R207): Unsigned integer square root. -/
  | sqrtu (w : SlotId) (rd ra : RegCode)
  /-- SQRTQ (R207): Q16.16 square root. -/
  | sqrtq (w : SlotId) (rd ra : RegCode)
  /-- HASH (R208): Returns the two table hashes of a key in D-RAM. -/
  | hash (w : SlotId) (rd ra : RegCode) (table : BitVec 2)
  /-- LKUP (R230): Submits a table lookup, holding until it is accepted within the bound of outstanding lookups. -/
  | lkup (w : SlotId) (ra rb : RegCode) (table : BitVec 2)
  /-- LKUP_RESULT (R322): A submitted lookup completes and posts its result token. -/
  | lkupResult (k : Nat)
  /-- FSUB (R495): Submits a sample to a fulling stream, closing the chunk when it is full. -/
  | fsub (w : SlotId) (ra rb : RegCode)
  /-- SPRD (R231): Submits a predictor request with a reserved result entry. -/
  | sprd (w : SlotId) (ra rb : RegCode)
  /-- LK_CREATE (R256): An OUT to LK_CREATE queues a creation request in the slot's request queue. -/
  | lkCreate (w : SlotId) (addr : BitVec 32)
  /-- THREAD_CREATE (R255): The lockkeeper performs a creation request and posts a reply with the handle or a refusal. -/
  | threadCreate (w : SlotId)
  /-- LK_EXIT (R257): An OUT to LK_EXIT ends the thread and queues its exit. -/
  | lkExit (w : SlotId) (v : BitVec 32)
  /-- THREAD_EXIT (R257): The lockkeeper posts the exit token and frees the thread number. -/
  | threadExit (n : Fin 2064)
  /-- LK_ABORT (R259): An OUT to LK_ABORT queues an abort of a handle with a reply tag. -/
  | lkAbort (w : SlotId) (v : BitVec 32)
  /-- LKP_ABORT (R258): A manager write of LKP_ABORT aborts a thread by handle. -/
  | lkpAbort (ag : Agent) (handle : BitVec 16)
  /-- LK_WAITTMO (R266): An OUT to LK_WAITTMO sets the timeout of the thread's next WAIT. -/
  | lkWaittmo (w : SlotId) (v : BitVec 32)
  /-- LK_PRIO (R260): An OUT to LK_PRIO changes the thread's PRIO from its next match. -/
  | lkPrio (w : SlotId) (v : BitVec 32)
  /-- LK_TMARM (R268): An OUT to LK_TMARM arms a timer with a reserved entry for the tag named in LK_TMTAG. -/
  | lkTmarm (w : SlotId) (delay : BitVec 32)
  /-- TIMER_EXPIRY (R268): An armed timer reaches its deadline and posts its token. -/
  | timerExpiry (k : Fin 256)
  /-- WAIT_TIMEOUT (R267): A wait reaches its timeout and the thread becomes ready with TIMEOUT. -/
  | waitTimeout (n : Fin 2064)
  /-- DISPATCH (R264): A dispatch context finishes loading into a slot, and the thread's first instruction issues. -/
  | dispatch (program : Fin 33)
  /-- SAVE_AREA_PRESENT (R264): The thread's save area arrives in the background, and instructions held for it proceed. -/
  | saveAreaPresent (w : SlotId)
  /-- CORE_QUARANTINE (R269): A parity error, a rotation stall of 10 µs or a command quarantines a core, stopping its slots and switching its domain OFF. -/
  | coreQuarantine (core : Fin 64) (reason : Fin 3)
  /-- LKP_QCMD_QUARANTINE (R274): LKP_QCMD with OP 1 quarantines a core, unless this would leave a pound without cores. -/
  | lkpQcmdQuarantine (ag : Agent) (core : Fin 64)
  /-- LKP_QCMD_RETURN (R273): LKP_QCMD with OP 2 starts the return of a quarantined core. -/
  | lkpQcmdReturn (ag : Agent) (core : Fin 64)
  /-- CORE_RETURN_PREPARED (R272): A returning core finishes its load and self-test, enters SHADOW and arms group 18, or is quarantined again. -/
  | coreReturnPrepared (pass : Bool)
  /-- CONTEXT_FILL_COMPLETE (R276): A pager miss completes and makes the context present, satisfying its CONTEXT condition. -/
  | contextFillComplete (ctx : BitVec 12) (bad : Bool)
  /-- ALLOC (R293): Allocates a buffer from the smallest fitting pool, with fall-through. -/
  | alloc (ag : Agent) (size : BitVec 14)
  /-- ALLOCP (R293): Allocates from a named pool only. -/
  | allocp (ag : Agent) (pool : BitVec 3)
  /-- ALLOCC (R294): Allocates a linked chain of COUNT cells, or none. -/
  | allocc (ag : Agent) (count : BitVec 9)
  /-- ALLOCB (R304): Allocates a berth. -/
  | allocb (ag : Agent)
  /-- FREE (R295): Frees an element or a chain held by the requester, detecting double and foreign frees. -/
  | free (ag : Agent) (buf : BitVec 23)
  /-- CHAIN_CELL_RETURN (R299): A freed chain's remaining cells return to the cell stack one by one in the background. -/
  | chainCellReturn
  /-- XFER (R296): Moves an element to another owner entry. -/
  | xfer (ag : Agent) (buf : BitVec 23)
  /-- CHAIN (R297): Appends a chain to a tail cell. -/
  | chain (ag : Agent) (tail : BitVec 23)
  /-- SPLIT (R297): Cuts a chain after a cell and returns the new head. -/
  | split (ag : Agent) (cell : BitVec 23)
  /-- NEXT (R297): Returns the next cell of a chain. -/
  | next (ag : Agent) (cell : BitVec 23)
  /-- SPILL (R306): Starts copying a pool buffer to a DRAM spill slot and returns a handle. -/
  | spill (ag : Agent) (buf : BitVec 23)
  /-- SPILL_COPY_DONE (R306): A spill copy ends and its buffer returns to its stack. -/
  | spillCopyDone (k : Nat)
  /-- FILL (R307): Allocates a buffer for a spill handle and starts copying the slot into it. -/
  | fill (ag : Agent) (handle : BitVec 19)
  /-- FILL_COPY_DONE (R307): A fill copy ends, frees the slot and posts the completion token. -/
  | fillCopyDone (k : Nat)
  /-- FILL_TOKEN_RETRY (R308): A refused FILL completion token is posted again every 1 µs. -/
  | fillTokenRetry
  /-- RECLAIM (R309): Frees everything charged to an owner index. -/
  | reclaim (ag : Agent) (idx : BitVec 6)
  /-- TABLE_ADD (R327): Inserts or replaces an entry by cuckoo placement, failing under the table's policy. -/
  | tableAdd (ag : Agent) (table : BitVec 2) (token : Bool) (tag : BitVec 16)
  /-- TABLE_DEL (R330): Removes an entry, advances the epoch and moves stash entries back into buckets. -/
  | tableDel (ag : Agent) (table : BitVec 2) (token : Bool) (tag : BitVec 16)
  /-- TABLE_FENCE (R331): Snapshots the tickets in flight for later completion. -/
  | tableFence (ag : Agent) (table : BitVec 2) (token : Bool) (tag : BitVec 16)
  /-- FENCE_COMPLETE (R331): Every frame of a FENCE snapshot has gone, so the FENCE completes. -/
  | fenceComplete
  /-- TABLE_FLUSH (R326): Removes all entries, or the learned entries on the selected ports. -/
  | tableFlush (ag : Agent) (table : BitVec 2) (token : Bool) (tag : BitVec 16)
  /-- TABLE_REHASH (R339): Starts migrating the table to new seeds. -/
  | tableRehash (ag : Agent) (table : BitVec 2) (token : Bool) (tag : BitVec 16)
  /-- REHASH_COMPLETE (R339): Every entry lies under the target seeds, which become the seeds in effect. -/
  | rehashComplete (n : Fin 3)
  /-- REHASH_FAIL (R340): An entry cannot be placed, so the table migrates back to the old seeds and the command completes with REFUSED_CAPACITY. -/
  | rehashFail (n : Fin 3)
  /-- TABLE_READ (R326): Reads an entry into TBL_RD0 to TBL_RD3. -/
  | tableRead (ag : Agent) (table : BitVec 2) (token : Bool) (tag : BitVec 16)
  /-- TABLE_TOKEN_RETRY (R325): A refused command completion token is retried every 1 µs. -/
  | tableTokenRetry
  /-- LEARN_INSERT (R336): A queued learn request is performed as an ADD by agent 0x600. -/
  | learnInsert
  /-- AGEING_SWEEP (R337): The lengthsman sweeps T0 once each period, deleting aged entries and clearing HIT. -/
  | ageingSweep
  /-- BRG_COMMIT (R352): Copies a partner's slot payload from its context into the bound cargo slot. -/
  | brgCommit (ag : Agent) (v : W32)
  /-- COMMIT_COPY_DONE (R353): A commit whose context was read from DRAM finishes its copy, or finds the seal passed. -/
  | commitCopyDone (ag : Agent)
  /-- BARGE_SEAL (R354): At GATE − LEAD a barge is sealed: late slots are filled STALE, the tag is appended and the barge goes to the towpath. -/
  | bargeSeal (n : Fin 16)
  /-- INBOUND_CHECK (R357): After its FCS, a CYCLIC_IN barge is checked and its check status written before FCS_DONE is set. -/
  | inboundCheck (k : Fin 1024)
  /-- RECEIVE_WINDOW_CLOSE (R358): At a port's window close, every expected partner is evaluated for presence or loss. -/
  | receiveWindowClose (p : Fin 8)
  /-- ADMIT (R361): Allocates a partner ID, adds T2 and arms the binding. -/
  | admitPartner (ag : Agent)
  /-- WELCOME (R363): Sends a WELCOME barge to a joining or active partner. -/
  | welcome (ag : Agent)
  /-- RELEASE (R333): Releases a partner: LEAVING state, T2 delete into cooling, binding removed at the next turn. -/
  | release (ag : Agent)
  /-- BIND (R362): Arms a new binding and EXPECT for the next turn. -/
  | bind (ag : Agent)
  /-- PARTNER_READ (R362): Reads a directory entry into BRG_DIR0 and BRG_DIR1. -/
  | partnerRead (ag : Agent)
  /-- PORT_LINK_UP (R369): A port's link comes up, or is held down on half duplex or a speed mismatch, and starts its return count. -/
  | portLinkUp (p : Fin 8) (speed : Fin 3) (halfDup : Bool)
  /-- PORT_RETURN_COUNT (R400): After 1 ms of link up with ADMIN_DOWN 0, the port controller arms group 19. -/
  | portReturnCount (p : Fin 8)
  /-- PORT_LEAVE_SERVICE (R399): A link loss lasting 1 µs, or ADMIN_DOWN, takes the port out of service and flushes its queues and FIFO. -/
  | portLeaveService (p : Fin 8)
  /-- PAUSE_RECEIVED (R377): A received PAUSE stops new frame starts on the paused queues for pause_time. -/
  | pauseReceived (p : Fin 8) (quanta : BitVec 16)
  /-- PAUSE_EXPIRY (R377): The pause time runs out and the paused queues may start frames again. -/
  | pauseExpiry (p : Fin 8)
  /-- PAUSEQ_WRITE (R378): A write of PRT_PAUSEQn sets the PAUSE queues, or is refused if it names an express queue. -/
  | pauseqWrite (ag : Agent) (p : Fin 8) (v : W32)
  /-- GATE_ENTRY_BEGIN (R381): A gate control list entry begins and applies its gate states and hold operation. -/
  | gateEntryBegin (p : Fin 8)
  /-- EGRESS_FRAME_START (R379): A port starts the head frame of the highest allowed queue under its gate, preemption and PAUSE. -/
  | egressFrameStart (p : Fin 8)
  /-- FRAGMENT_PREEMPT (R388): A preemptable frame is cut at its earliest allowed point when express traffic, a gate close or a hold requires it. -/
  | fragmentPreempt (p : Fin 8)
  /-- EGRESS_FRAME_SENT (R128): A port finishes sending a frame, and its buffer is freed after the last port. -/
  | egressFrameSent (p : Fin 8)
  /-- VERIFY_FRAME_SEND (R385): A preemption verify frame is sent every 10 ms, and verification fails after three without a response. -/
  | verifyFrameSend (p : Fin 8)
  /-- VERIFY_RESPONSE (R385): A successful verify response sets PREACT. -/
  | verifyResponse (p : Fin 8)
  /-- TSPOP (R393): A read of PRT_TSPOPp_0 pops a stamp record into the reader's private copy. -/
  | tspop (ag : Agent) (p : Fin 9)
  /-- MDIO_WRITE (R397): Starts an MDIO write transaction. -/
  | mdioWrite (ag : Agent) (b : Fin 2) (phy reg : BitVec 5) (cl45 token : Bool) (data : BitVec 16)
  /-- MDIO_READ (R397): Starts an MDIO read transaction. -/
  | mdioRead (ag : Agent) (b : Fin 2) (phy reg : BitVec 5) (cl45 token : Bool)
  /-- MDIO_ADDRESS (R397): Starts a Clause 45 address transaction. -/
  | mdioAddress (ag : Agent) (b : Fin 2) (phy reg : BitVec 5) (token : Bool) (data : BitVec 16)
  /-- MDIO_READ_INCREMENT (R397): Starts a Clause 45 read with post-increment. -/
  | mdioReadIncrement (ag : Agent) (b : Fin 2) (phy reg : BitVec 5) (token : Bool)
  /-- MDIO_COMPLETE (R397): An MDIO transaction ends, stores its data and optionally posts a token. -/
  | mdioComplete (b : Fin 2) (data : BitVec 16)
  /-- DRAM_REQUEST_START (R413): A channel starts the next request chosen under ROWHIT or CLASS rules. -/
  | dramRequestStart (x : Fin 2)
  /-- DRAM_REQUEST_COMPLETE (R416): A DRAM request is performed and completes to its requester. -/
  | dramRequestComplete (x : Fin 2) (ecc : Fin 3)
  /-- REQUEST_PROMOTION (R414): A class-c request reaches its age limit and is promoted to class 0. -/
  | requestPromotion (x : Fin 2) (k : Fin 64)
  /-- REFRESH_PER_BANK (R417): A per-bank refresh is sent to an idle bank, or the bank's debt rises. -/
  | refreshPerBank (x : Fin 2) (bank : Fin 16)
  /-- FORCED_REFRESH (R418): A bank whose debt reaches 8 is closed and refreshed at once. -/
  | forcedRefresh (x : Fin 2) (bank : Fin 16)
  /-- MR4_POLL (R419): Every 4 ms MR4 is read and the refresh rate is set. -/
  | mr4Poll (x : Fin 2) (rate : Fin 3) (hot : Bool)
  /-- ZQ_CALIBRATION_START (R406): A periodic ZQ calibration start is issued to each rank. -/
  | zqCalibrationStart (x : Fin 2)
  /-- ZQ_LATCH (R406): 1 µs later, the ZQ result is latched or discarded. -/
  | zqLatch (x : Fin 2) (inRange : Bool)
  /-- SELF_REFRESH_AUTO_ENTRY (R420): After SRIDLE µs of idle, the channel enters SR_AUTO. -/
  | selfRefreshAutoEntry (x : Fin 2)
  /-- SELF_REFRESH_EXIT (R420): A request wakes a channel from SR_AUTO. -/
  | selfRefreshExit (x : Fin 2)
  /-- SR_ENTER (R421): DRC_SRx CMD ENTER stops admission and drains the queue toward SR_HELD. -/
  | srEnter (ag : Agent) (x : Fin 2) (mask : BitVec 16)
  /-- SR_HELD_ENTERED (R423): The drained channel enters self-refresh with its mask, and regions in masked segments are lost. -/
  | srHeldEntered (x : Fin 2)
  /-- SR_EXIT (R424): DRC_SRx CMD EXIT begins the exit from SR_HELD. -/
  | srExit (ag : Agent) (x : Fin 2)
  /-- SR_EXIT_COMPLETE (R424): The exit completes and the channel returns to service, with lost ECC regions filled. -/
  | srExitComplete (x : Fin 2)
  /-- ZERO_FILL_COMPLETE (R430): An ECC zero fill ends and its region's waiting requests proceed. -/
  | zeroFillComplete (x : Fin 2) (r : Fin 32)
  /-- SCRUB_READ (R431): The patrol scrub reads the next granule at its rate. -/
  | scrubRead (x : Fin 2) (ecc : Fin 3)
  /-- SEMAPHORE_CLAIM (R435): A write of SAU_SEMn claims a semaphore under Table 15-1. -/
  | semaphoreClaim (ag : Agent) (n : Fin 512) (v : W32)
  /-- SEMAPHORE_RELEASE (R437): SAU_RELn with OP 1 frees a semaphore that the writer owns. -/
  | semaphoreRelease (ag : Agent) (n : Fin 512)
  /-- SEMAPHORE_ACKNOWLEDGE (R437): SAU_RELn with OP 2 clears ABANDONED and keeps the semaphore held. -/
  | semaphoreAcknowledge (ag : Agent) (n : Fin 512)
  /-- FORCE_RELEASE (R444): A write of SAU_FORCE frees a semaphore as ABANDONED and clears DEAD. -/
  | forceRelease (ag : Agent) (n : Fin 512)
  /-- GROUP_WRITE (R441): A write of SAU_GRPg changes a group's rights or policy. -/
  | groupWrite (ag : Agent) (g : Fin 32) (v : W32)
  /-- WATCH_ARM (R448): SAU_WCTLw with ARM 1 arms a watch slot, firing at once if its condition already holds. -/
  | watchArm (ag : Agent) (k : Fin 64) (v : W32)
  /-- WATCH_DISARM (R448): SAU_WCTLw with ARM 0 disarms a watch slot. -/
  | watchDisarm (ag : Agent) (k : Fin 64) (v : W32)
  /-- WATCH_TOKEN_RETRY (R449): A refused watch token is retried every 1 µs. -/
  | watchTokenRetry
  /-- HOST_ATOMIC_FADD (R452): Host atomic fetch-add via SAU_ACMD. -/
  | hostAtomicFadd (ag : Agent) (size : BitVec 2)
  /-- HOST_ATOMIC_SWAP (R452): Host atomic swap. -/
  | hostAtomicSwap (ag : Agent) (size : BitVec 2)
  /-- HOST_ATOMIC_CAS (R452): Host atomic compare-and-swap. -/
  | hostAtomicCas (ag : Agent) (size : BitVec 2)
  /-- HOST_ATOMIC_MIN (R452): Host atomic signed minimum. -/
  | hostAtomicMin (ag : Agent) (size : BitVec 2)
  /-- HOST_ATOMIC_MAX (R452): Host atomic signed maximum. -/
  | hostAtomicMax (ag : Agent) (size : BitVec 2)
  /-- HOST_ATOMIC_MINU (R452): Host atomic unsigned minimum. -/
  | hostAtomicMinu (ag : Agent) (size : BitVec 2)
  /-- HOST_ATOMIC_MAXU (R452): Host atomic unsigned maximum. -/
  | hostAtomicMaxu (ag : Agent) (size : BitVec 2)
  /-- HOST_ATOMIC_WADD (R452): Host atomic 128-bit add. -/
  | hostAtomicWadd (ag : Agent) (size : BitVec 2)
  /-- BAR2_READ (R459): A host BAR2 read through a window, checked against the permitted regions. -/
  | bar2Read (off : BitVec 28) (n : Fin 9)
  /-- BAR2_WRITE (R459): A host BAR2 write through a window, checked against the permitted regions and staging locks. -/
  | bar2Write (off : BitVec 28) (bytes : List (BitVec 8))
  /-- MAILBOX_DOORBELL (R463): A write of TNT_MDB.TAIL makes mailbox entries ready for the device to read. -/
  | mailboxDoorbell (v : W32)
  /-- MAILBOX_ENTRY_READ_FAIL (R463): A mailbox entry read fails or times out and is recorded in TNT_MSTAT. -/
  | mailboxEntryReadFail (timeout : Bool)
  /-- MAILBOX_NOP (R463): The mailbox NOP command completes. -/
  | mailboxNop
  /-- TENANT_CREATE (R466): Makes a present tenant CREATED with a new generation. -/
  | tenantCreate
  /-- TENANT_RESET (R481): Makes a tenant RESETTING and drains its reads. -/
  | tenantReset
  /-- TENANT_SELF_RESET (R484): A keyed write of TNT_TCTL.RESET resets the tenant itself. -/
  | tenantSelfReset (t : Fin 32) (v : W32)
  /-- TENANT_RESET_COMPLETE (R481): After the reads drain, the generation increments, the queue pairs are destroyed, the agent dies and the tenant is CREATED. -/
  | tenantResetComplete (t : Fin 32)
  /-- TENANT_DESTROY (R485): Resets the tenant, clears its host windows and makes it ABSENT. -/
  | tenantDestroy
  /-- HOSTWIN_SET (R464): Sets a tenant host window for later DMA. -/
  | hostwinSet
  /-- QP_CREATE (R470): Creates a queue pair. -/
  | qpCreate
  /-- QP_DESTROY (R465): Stops and destroys a queue pair without completing its descriptors. -/
  | qpDestroy
  /-- MAILBOX_STATUS (R463): Returns a tenant's state, queue pairs and generation. -/
  | mailboxStatus
  /-- SQ_DOORBELL (R468): A write of TNT_SQDBq makes descriptors ready. -/
  | sqDoorbell (t : Fin 32) (q : Fin 32) (v : W32)
  /-- CQ_DOORBELL (R469): A write of TNT_CQDBq frees CQ entries and optionally arms an interrupt. -/
  | cqDoorbell (t : Fin 32) (q : Fin 32) (v : W32)
  /-- DESCRIPTOR_NOP (R471): A NOP descriptor completes after its checks. -/
  | descriptorNop (t : Fin 32) (q : Fin 4)
  /-- COPY_IN (R471): Copies host memory into the tenant's DREGION. -/
  | copyIn (t : Fin 32) (q : Fin 4)
  /-- COPY_OUT (R471): Copies the tenant's DREGION to host memory. -/
  | copyOut (t : Fin 32) (q : Fin 4)
  /-- TX (R476): Reads a host frame into a buffer for admission from port 8. -/
  | tx (t : Fin 32) (q : Fin 4)
  /-- HOST_TX_ADMIT (R476): A host frame's last byte arrives and the frame is admitted from port 8 with FCS_DONE. -/
  | hostTxAdmit (t : Fin 32) (q : Fin 4) (k : Fin 8)
  /-- TX_WAIT_EXPIRY (R475): A TX still without a ticket or buffer after TNT_TXWAIT completes with REFUSED_CAPACITY. -/
  | txWaitExpiry (t : Fin 32) (q : Fin 4) (k : Fin 8)
  /-- RX (R477): Posts a host receive buffer for frames. -/
  | rx (t : Fin 32) (q : Fin 4)
  /-- SEND (R479): Moves a host message into a cell chain for firmware and posts its token. -/
  | send (t : Fin 32) (q : Fin 4)
  /-- RECV (R480): Posts a host receive buffer for firmware messages. -/
  | recv (t : Fin 32) (q : Fin 4)
  /-- DESCRIPTOR_COMPLETE (R474): A completion is written to the CQ if its generation is current, then an armed MSI-X is sent. -/
  | descriptorComplete (t : Fin 32) (q : Fin 4) (posted : Bool)
  /-- HOST_FRAME_DELIVER (R477): A frame released to the host is written into the next RX buffer and completes it. -/
  | hostFrameDeliver (t : Fin 32) (q : Fin 4)
  /-- POST (R480): A thread sends a cell-chain message to a tenant RECV buffer. -/
  | post (ag : Agent)
  /-- DMA_READ_TIMEOUT (R457): A device read times out and its descriptor or command completes with TIMEOUT. -/
  | dmaReadTimeout (t : Fin 32) (q : Fin 4)
  /-- STREAM_ARM (R494): FUL_SCTLs.ARM checks and arms a fulling stream. -/
  | streamArm (ag : Agent) (n : Fin 64)
  /-- STREAM_DISARM (R497): Closes the chunk in progress and disarms the stream. -/
  | streamDisarm (ag : Agent) (n : Fin 64)
  /-- STREAM_RESTART (R502): Closes the chunk in progress. -/
  | streamRestart (ag : Agent) (n : Fin 64)
  /-- CHUNK_CELL_OUTPUT (R504): A closed chunk is written to a cell chain, moved to its owner and announced by token, or dropped. -/
  | chunkCellOutput (n : Fin 64)
  /-- CHUNK_RING_OUTPUT (R505): A closed chunk is written into its DRAM ring and advances RPOS, or is dropped. -/
  | chunkRingOutput (n : Fin 64)
  /-- CHUNK_TOKEN_RETRY (R504): A refused chunk token is retried every 1 µs. -/
  | chunkTokenRetry
  /-- TIME_ARM (R507): A write of STB_THIn arms a strobe fire at an absolute time. -/
  | timeArm (ag : Agent) (n : Fin 16) (hi : W32)
  /-- STROBE_DISARM (R508): STB_CTLn.DISARM removes a pending fire unless it is under 20 ns away. -/
  | strobeDisarm (ag : Agent) (n : Fin 16)
  /-- STROBE_FIRE (R509): TB time reaches F and the strobe pulses or marks, records F and signals. -/
  | strobeFire (n : Fin 16)
  /-- STROBE_PULSE_END (R511): WIDTH ns after a fire, the pin returns to idle. -/
  | strobePulseEnd (n : Fin 16)
  /-- PREDICT (R512): A predictor request computes the crossing time and submits a predicted strobe arm. -/
  | predict (k : Nat)
  /-- RESIDUAL (R515): A predictor request compares a new sample with the strobe's model and reports r and Δt. -/
  | residual (k : Nat)
  /-- CAPTURE_EDGE (R517): A capture input level holds for FILT ns and the edge is stamped into the FIFO. -/
  | captureEdge (n : Fin 16) (rise : Bool)
  /-- CAPTURE_POP (R519): A read of STB_CPOPn_0 pops a capture record into the reader's copy. -/
  | capturePop (ag : Agent) (n : Fin 16)
  /-- CAPTURE_EDGE_CONFIG (R518): A write of STB_CCFGn.EDGE empties the FIFO and restarts SEQ. -/
  | captureEdgeConfig (ag : Agent) (n : Fin 16) (v : W32)
  /-- SHIFT_TX_PUSH (R524): A write of SHF_TXn pushes a word onto the transmit FIFO. -/
  | shiftTxPush (ag : Agent) (n : Fin 24) (v : W32)
  /-- SHIFT_RX_POP (R524): A read of SHF_RXn pops a word from the receive FIFO. -/
  | shiftRxPop (ag : Agent) (n : Fin 24)
  /-- SHIFT_START (R526): A write of SHF_STARTn makes a transfer pending, or completes at once for LEN 0. -/
  | shiftStart (ag : Agent) (n : Fin 24) (v : W32)
  /-- SHIFT_ABORT (R529): SHF_CHCTLn.ABORT aborts the transfer and restarts the channel at its entry. -/
  | shiftAbort (ag : Agent) (n : Fin 24)
  /-- SHIFT_DISABLE (R529): Clearing ENABLE aborts and stops the channel. -/
  | shiftDisable (ag : Agent) (n : Fin 24) (v : W32)
  /-- SHIFT_ENABLE (R529): Setting ENABLE starts the channel at its entry in the active bank. -/
  | shiftEnable (ag : Agent) (n : Fin 24) (v : W32)
  /-- SHIFT_STALL_TIMEOUT (R525): A stall lasting SHF_STALLn µs aborts the channel with TIMEOUT. -/
  | shiftStallTimeout (n : Fin 24)
  /-- SHIFT_TOKEN_RETRY (R528): A refused completion token is retried every 1 µs. -/
  | shiftTokenRetry
  /-- YIELD (R528): Ends a transfer in progress, waits for a start and switches bank if a swap is pending. -/
  | yield (n : Fin 24)
  /-- PIN (R521): Sets pin output enables and levels. -/
  | pin (n : Fin 24)
  /-- SHIFT (R530): Shifts N bits under clocked or NOCLK timing. -/
  | shift (n : Fin 24)
  /-- SHIFT_COMPLETE (R530): A SHIFT reaches its last clock edge or sample and completes. -/
  | shiftComplete (n : Fin 24) (din : W32) (startBit stopBit : Bool)
  /-- LDX (R525): Loads X from the FIFO, the immediate or L, stalling on an empty FIFO. -/
  | ldx (n : Fin 24)
  /-- PUSH (R525): Pushes Y, S, F or the immediate onto the receive FIFO, stalling when it is full. -/
  | push (n : Fin 24)
  /-- DELAY (R523): Waits until issue + IMM. -/
  | delay (n : Fin 24)
  /-- DELAY_EXPIRY (R523): A DELAY wait ends and T is set. -/
  | delayExpiry (n : Fin 24)
  /-- WAITT (R523): Waits until a cycle offset. -/
  | waitt (n : Fin 24)
  /-- WAITT_EXPIRY (R523): A WAITT wait ends and T is set. -/
  | waittExpiry (n : Fin 24)
  /-- WAITE (R523): Waits for a pin edge with a timeout. -/
  | waite (n : Fin 24)
  /-- WAITE_EDGE (R523): The awaited edge arrives and T takes its time. -/
  | waiteEdge (n : Fin 24)
  /-- WAITE_TIMEOUT (R523): The WAITE timeout expires, TO is set and execution continues at TARGET. -/
  | waiteTimeout (n : Fin 24)
  /-- SETL (R523): Sets L. -/
  | setl (n : Fin 24)
  /-- DJNZ (R523): Decrements L and branches while it is non-zero. -/
  | djnz (n : Fin 24)
  /-- MICRO_JMP (R523): Microcode jump. -/
  | microJmp (n : Fin 24)
  /-- JB (R523): Branches on a bit of Y or F. -/
  | jb (n : Fin 24)
  /-- DONE (R528): Ends the transfer with a status and code, and posts the token. -/
  | done (n : Fin 24)
  /-- MICRO_NOP (R523): Microcode no operation. -/
  | microNop (n : Fin 24)
  /-- MICROCODE_WRITE (R533): A write of SHF_UDATA_HI stores a microinstruction into the shadow bank. -/
  | microcodeWrite (ag : Agent) (v : W32)
  /-- BANK_VERIFY (R534): SHF_BANKCTL.VERIFY starts verifying the shadow bank. -/
  | bankVerify (ag : Agent) (words : BitVec 12)
  /-- BANK_VERIFY_DONE (R534): Verification ends and sets VERIFIED or VSTAT. -/
  | bankVerifyDone
  /-- ROUTE_WRITE (R543): A write of EVR_ROUTEe is checked and changes the source's route. -/
  | routeWrite (ag : Agent) (e : Fin 768) (v : W32)
  /-- PEND_CLEAR (R545): A W1C write to EVR_PEND clears pending bits within the writer's rights. -/
  | pendClear (ag : Agent) (k : Fin 24) (v : W32)
  /-- EVENT_TOKEN_RETRY (R541): A refused event token is retried every 1 µs. -/
  | eventTokenRetry
  /-- EVTOUT_PULSE_END (R551): An EVTOUT pulse ends WIDTH ns after its last delivery. -/
  | evtoutPulseEnd (p : Fin 4)
  /-- LOAD_ROOT (R559): Loads the root secret into the key register. -/
  | loadRoot (k : Fin 4) (blk : BitVec 12)
  /-- LOAD_MEM (R559): Loads 32 bytes of memory into the key register. -/
  | loadMem (k : Fin 4) (blk : BitVec 12)
  /-- KDF (R561): Derives a key into the key register under SP 800-108. -/
  | kdf (k : Fin 4) (blk : BitVec 12)
  /-- KDF_OUT (R561): Derives a key into memory. -/
  | kdfOut (k : Fin 4) (blk : BitVec 12)
  /-- UNWRAP (R560): Decrypts a wrapped key into the key register. -/
  | unwrap (k : Fin 4) (blk : BitVec 12)
  /-- ECB_ENCRYPT (R559): AES-ECB encryption under the key register. -/
  | ecbEncrypt (k : Fin 4) (blk : BitVec 12)
  /-- ECB_DECRYPT (R559): AES-ECB decryption under the key register. -/
  | ecbDecrypt (k : Fin 4) (blk : BitVec 12)
  /-- CTR (R559): AES-CTR under the key register. -/
  | ctr (k : Fin 4) (blk : BitVec 12)
  /-- CMAC (R559): AES-CMAC under the key register. -/
  | cmac (k : Fin 4) (blk : BitVec 12)
  /-- SIGN (R559): ECDSA P-256 signature with a DRBG nonce. -/
  | sign (k : Fin 4) (blk : BitVec 12)
  /-- PUBKEY (R559): Computes the public key of the key register. -/
  | pubkey (k : Fin 4) (blk : BitVec 12)
  /-- CLEAR (R559): Clears the key register. -/
  | clear (k : Fin 4) (blk : BitVec 12)
  /-- SHA_256 (R559): SHA-256 digest. -/
  | sha256 (k : Fin 4) (blk : BitVec 12)
  /-- SHA_384 (R559): SHA-384 digest. -/
  | sha384 (k : Fin 4) (blk : BitVec 12)
  /-- VERIFY (R559): ECDSA signature verification. -/
  | verify (k : Fin 4) (blk : BitVec 12)
  /-- TAG_WINDOW_CLOSE (R563): The cycle's tag window closes and a token goes to SEC_KWTAG. -/
  | tagWindowClose
  /-- SECURE_HOLD_WRITE (R556): A warden write of a SEC_HOLD register sets the hold bits of domains or islands. -/
  | secureHoldWrite (w k : Fin 4) (v : W32)
  /-- INSTALL (R569): SEC_ROOTCTL INSTALL copies a root secret into a keyless device. -/
  | install (k : Fin 4) (addr : BitVec 12)
  /-- GENERATE (R569): SEC_ROOTCTL GENERATE fills the root with DRBG output. -/
  | generate (k : Fin 4)
  /-- TAMPER_DETECT (R570): A tamper source zeroes the root and writes the tamper record, with further response while VIN is present. -/
  | tamperDetect (source : Fin 8) (seconds : W32) (vin : Bool)
  /-- RNG_REQ (R575): An OUT to RNG_REQ queues a random-word request for a tag. -/
  | rngReq (w : SlotId) (v : W32)
  /-- RANDOM_SERVE (R575): The head request is served from the DRBG FIFO with a token. -/
  | randomServe
  /-- RANDOM_TIMEOUT (R576): An unserved request times out with NO_ENTROPY. -/
  | randomTimeout (k : Fin 64)
  /-- ENTROPY_FAILURE (R577): A health test fails: output stops, the FIFO is discarded, and at the third failure the source latches FAILED. -/
  | entropyFailure
  /-- ENTROPY_STARTUP_COMPLETE (R574): The start-up test and seeding end and the DRBG resumes output. -/
  | entropyStartupComplete
  /-- WATCHDOG_KICK (R579): A keyed write of SEC_WDKICK restarts the watchdog period. -/
  | watchdogKick (k : Fin 4) (v : W32)
  /-- WATCHDOG_EXPIRY (R580): A first watchdog expiry raises EV729 and resets the warden. -/
  | watchdogExpiry
  /-- WARDEN_RESET (R581): A keyed write of SEC_WRESET resets the warden and clears the key register. -/
  | wardenReset (k : Fin 4) (v : W32)
  /-- WARDEN_STATUS (R582): Mailbox STATUS, answered by hardware with SEC_NSTAT. -/
  | wardenStatus (ag : Agent) (seq : BitVec 16)
  /-- RANDOM (R582): Mailbox RANDOM, answered by hardware with 1 to 8 words. -/
  | random (ag : Agent) (seq : BitVec 16)
  /-- MAILBOX_FORWARD (R582): A firmware-defined mailbox command is posted to the warden's tag. -/
  | mailboxForward (ag : Agent) (op : BitVec 8) (seq : BitVec 16)
  /-- MAILBOX_DONE (R582): A warden write of SEC_MDONE completes the pending request. -/
  | mailboxDone (k : Fin 4) (v : W32)
  /-- MAILBOX_TIMEOUT (R583): A request not completed within 100 ms completes with TIMEOUT. -/
  | mailboxTimeout
  /-- CHALLENGE (R588): Returns a fresh DRBG nonce and the unit identity. -/
  | challenge (ag : Agent) (seq : BitVec 16) (tap : Bool)
  /-- NONCE_EXPIRY (R588): The nonce ends 600 s after it was issued. -/
  | nonceExpiry
  /-- LCS_REQUEST (R589): Checks a signed request and ends the nonce. -/
  | lcsRequest (ag : Agent) (seq : BitVec 16) (tap : Bool) (bytes : List (BitVec 8))
  /-- TRANSITION (R591): A valid TRANSITION request zeroes the root where required, burns the fuses and responds. -/
  | transition (keysOk : Bool) (got : BitVec 3)
  /-- TRANSITION_WIPE (R591): After the response, the ANALYSIS or SCRAP wipe list is erased and a soft reset follows. -/
  | transitionWipe
  /-- DEBUG_GRANT (R596): A valid DEBUG request grants its scope for DURATION seconds. -/
  | debugGrant
  /-- DEBUG_REVOKE (R596): Ends the grant in effect. -/
  | debugRevoke (ag : Agent) (seq : BitVec 16)
  /-- DEBUG_GRANT_EXPIRY (R596): The grant's time runs out. -/
  | debugGrantExpiry
  /-- UPD_BEGIN (R603): Starts a download to a bank. -/
  | updBegin (ag : Agent) (seq : BitVec 16)
  /-- UPD_DATA (R603): Erases, programs and reads back one chunk of the image. -/
  | updData (ag : Agent) (seq : BitVec 16) (good : Bool)
  /-- UPD_VERIFY (R603): Runs checks 0x01 to 0x08 on the target bank. -/
  | updVerify (ag : Agent) (seq : BitVec 16)
  /-- UPD_ACTIVATE (R603): Makes the verified target bank active in TRIAL. -/
  | updActivate (ag : Agent) (seq : BitVec 16)
  /-- UPD_CONFIRM (R604): Confirms the trial and advances the anti-rollback counter. -/
  | updConfirm (ag : Agent) (seq : BitVec 16)
  /-- UPD_ABORT (R603): Aborts a download or a trial. -/
  | updAbort (ag : Agent) (seq : BitVec 16)
  /-- UPD_STATUS (R603): Returns the update status words. -/
  | updStatus (ag : Agent) (seq : BitVec 16)
  /-- SCRAP_RAW (R586): The debug TAP SCRAP_RAW instruction moves a RAW unit to SCRAP. -/
  | scrapRaw (v : W32) (got : BitVec 3)
  /-- OTP_PROG (R587): Programs UNIT_ID or key-hash slot 0 or 1 in RAW. -/
  | otpProg (target : BitVec 8) (v : BitVec 256)
  /-- NMEM (R597): A debug TAP BAR0 read or write as agent 0x500. -/
  | nmem (a : BitVec 24) (write : Bool) (v : W32)
  /-- NCORE_HALT (R597): Halts a lock-core thread slot. -/
  | ncoreHalt (core : BitVec 6) (slot : BitVec 3) (code : BitVec 5)
  /-- NCORE_STEP (R597): Steps a halted lock-core slot. -/
  | ncoreStep (core : BitVec 6) (slot : BitVec 3) (code : BitVec 5)
  /-- NCORE_RESUME (R597): Resumes a halted lock-core slot. -/
  | ncoreResume (core : BitVec 6) (slot : BitVec 3) (code : BitVec 5)
  /-- SMEM (R597): A debug TAP access to the security island registers. -/
  | smem (a : BitVec 24) (write : Bool) (v : W32)
  /-- SCORE_HALT (R597): Halts a warden slot. -/
  | scoreHalt (slot : Fin 4) (code : BitVec 5)
  /-- SCORE_STEP (R597): Steps a halted warden slot. -/
  | scoreStep (slot : Fin 4) (code : BitVec 5)
  /-- SCORE_RESUME (R597): Resumes a halted warden slot. -/
  | scoreResume (slot : Fin 4) (code : BitVec 5)
  /-- DEBUG_IDCODE (R648): Returns the debug TAP identification code. -/
  | debugIdcode
  /-- EXTEST (R647): Boundary-scan EXTEST drives the pins from the boundary register. -/
  | extest (cells : BitVec 358)
  /-- INTEST (R647): Boundary-scan INTEST. -/
  | intest (cells : BitVec 358)
  /-- SAMPLE_PRELOAD (R647): Boundary-scan SAMPLE/PRELOAD. -/
  | samplePreload (pins cells : BitVec 358)
  /-- IDCODE (R647): Returns the boundary-scan IDCODE. -/
  | idcode
  /-- CLAMP (R647): Boundary-scan CLAMP. -/
  | clamp
  /-- HIGHZ (R647): Boundary-scan HIGHZ. -/
  | highz
  /-- BYPASS (R647): Selects the 1-bit bypass register. -/
  | bypass (debug : Bool)
  /-- DOMAIN_ON (R612): A PWR_PDREQ request to switch a domain ON. -/
  | domainOn (ag : Agent) (d : BitVec 7)
  /-- DOMAIN_RETAIN (R612): A PWR_PDREQ request to switch a domain to RETAIN. -/
  | domainRetain (ag : Agent) (d : BitVec 7)
  /-- DOMAIN_OFF (R612): A PWR_PDREQ request to switch a domain OFF. -/
  | domainOff (ag : Agent) (d : BitVec 7)
  /-- DOMAIN_SWITCH_COMPLETE (R615): A domain finishes switching, in queue order of at most 4 at once, and reaches its new state. -/
  | domainSwitchComplete (d : Fin 84) (replay : Bool)
  /-- CLOCK_GATE (R616): A write of PWR_CKREQ gates or ungates clocked islands, subject to their conditions. -/
  | clockGate (ag : Agent) (v : W32)
  /-- GOVERNOR_DECISION (R618): At the decision instant the governor chooses VCORE for the next cycle and arms group 20. -/
  | governorDecision (pm : List (BitVec 10)) (rpl : List (BitVec 16))
  /-- TEMPERATURE_SAMPLE (R623): Every 100 µs the sensors report, raising warning and throttle conditions. -/
  | temperatureSample (tj : List (BitVec 12))
  /-- THERMAL_RECOVERY (R624): After a shutdown, Tj falls below 100 °C and a power-on reset follows. -/
  | thermalRecovery
  /-- RAIL_SAMPLE (R625): Every 1 µs each rail monitor samples, flagging out-of-limit rails and the VIN warning. -/
  | railSample (mv : List (BitVec 16)) (settled : Bool)
  /-- UNDEFINED_INSTRUCTION (R185): A thread issues a word whose opcode, func, field or register code is undefined, including 0x0000_0000 and opcodes 0x2C to 0x3F, and raises the UNDEF trap. -/
  | undefinedInstruction (w : SlotId) (word : BitVec 32)
  /-- CONFIGURATION_WRITE (R456): A host configuration write after S20 changes Bus Master Enable or Memory Space Enable, which stops or allows device requests and BAR access. -/
  | configurationWrite (busMaster memSpace msixEnable msixMask : Bool)
  /-- LINK_LOSS_DURING_BRING_UP (R69): A hot reset or link loss before S20 makes S15 repeat from Detect while the completed steps stand. -/
  | linkLossDuringBringUp
  /-- SR_AUTO_EXIT_COMPLETE (R420): A channel woken from SR_AUTO completes its exit within 1.5 µs, becomes ACTIVE and serves the waiting request. -/
  | srAutoExitComplete (x : Fin 2)
  /-- LANE_RECALIBRATION_COMPLETE (R614): A lane group returned to ON finishes recalibrating its lanes within 10 ms, after which its ports may return to service. -/
  | laneRecalibrationComplete (hi : Bool)
  /-- ENTROPY_FAILURE_COUNT_RESET (R578): The entropy failure count returns to 0 once 65 536 samples pass after a successful start-up test. -/
  | entropyFailureCountReset
  /-- TEST_LOGIC_RESET (R647): TRST# low or the TMS sequence puts both TAPs in Test-Logic-Reset, which ends EXTEST and returns the pins to their functions. -/
  | testLogicReset
  deriving DecidableEq, Repr

end Sys2Proof
end

