-- ==== Sys2Proof/Decode.lean ====
section
/-! DEFINITION. The commands that spec/opcode_table.json spells by bits: none, for no row gives any. -/

namespace Sys2Proof

/-- The command that a word of the opcode table spells. The table gives bits to no row: every command comes from outside as it
is. -/
def decodeTableWord (_nbits _w : Nat) : Option Instr := none

end Sys2Proof
end

