-- ==== Sys2Proof/Config.lean ====
section
/-! DEFINITION. What the spec leaves open or takes from other standards: constants without a body, so that no proof
can lean on a value of theirs. Free values are applied to a plain counter of the state; the functions of FIPS and NIST
standards (R2) are applied to their operands. -/

namespace Sys2Proof.Config

/-- DESIGN CHOICE (safe; assumption 6). The `k`-th free 32-bit value: what the spec leaves undefined or unstated. -/
opaque freeWord : Nat → W32
/-- DESIGN CHOICE (safe; assumption 6). A free byte of the memory a channel lost, by its address and the loss count. -/
opaque freeByte : Nat → Nat → Byte
/-- DESIGN CHOICE (safe; assumption 6). The device's own Ethernet source address, which the spec does not give. -/
opaque deviceMac : BitVec 48
/-- SHA-256 of a byte string (FIPS 180-4), 32 bytes as a number, first byte most significant (assumption 7). -/
opaque sha256 : List Byte → BitVec 256
/-- SHA-384 of a byte string (FIPS 180-4) (assumption 7). -/
opaque sha384 : List Byte → BitVec 384
/-- AES-256 encryption of one block under a key (FIPS 197) (assumption 7). -/
opaque aesEnc : BitVec 256 → BitVec 128 → BitVec 128
/-- AES-256 decryption of one block under a key (FIPS 197) (assumption 7). -/
opaque aesDec : BitVec 256 → BitVec 128 → BitVec 128
/-- AES-256-CMAC of a byte string (SP 800-38B) (assumption 7). -/
opaque cmac : BitVec 256 → List Byte → BitVec 128
/-- ECDSA P-256 verification: digest, public key X and Y, r and s (FIPS 186) (assumption 7). -/
opaque ecdsaVerify : BitVec 256 → BitVec 512 → BitVec 512 → Bool
/-- ECDSA P-256 signature of a digest under d with nonce k: r then s (FIPS 186) (assumption 7). -/
opaque ecdsaSign : BitVec 256 → BitVec 256 → BitVec 256 → BitVec 512
/-- The public key d·G of P-256: X then Y (FIPS 186) (assumption 7). -/
opaque ecdsaPub : BitVec 256 → BitVec 512
/-- The `k`-th 256-bit output of the CTR_DRBG (SP 800-90A) (assumption 7). -/
opaque drbg : Nat → BitVec 256
/-- The order n of the P-256 group (FIPS 186). -/
def p256Order : Nat := 0xFFFFFFFF00000000FFFFFFFFFFFFFFFFBCE6FAADA7179E84F3B9CAC2FC632551

end Sys2Proof.Config
end

