-- ==== Sys2Proof/Machine/Bits.lean ====
section
/-! DEFINITION. Bit fields, byte order and small number helpers that every block uses. -/

namespace Sys2Proof.Machine

/-- Bits [hi:lo] of a register word as a number. -/
def bits (w : W32) (hi lo : Nat) : Nat := (w.toNat >>> lo) % 2 ^ (hi + 1 - lo)

/-- Bit `i` of a register word. -/
def bit (w : W32) (i : Nat) : Bool := w.getLsbD i

/-- The mask of bits [hi:lo]. -/
def maskOf (hi lo : Nat) : W32 := BitVec.ofNat 32 ((2 ^ (hi + 1 - lo) - 1) <<< lo)

/-- `w` with bits [hi:lo] set to `v` (its low bits). -/
def setBits (w : W32) (hi lo : Nat) (v : Nat) : W32 :=
  (w &&& ~~~ maskOf hi lo) ||| (BitVec.ofNat 32 (v <<< lo) &&& maskOf hi lo)

/-- `w` with bit `i` set to `b`. -/
def setBit (w : W32) (i : Nat) (b : Bool) : W32 := setBits w i i (if b then 1 else 0)

/-- A Bool as one bit. -/
def b2n (b : Bool) : Nat := if b then 1 else 0

/-- A word of fields: each is a value shifted to its place. -/
def w32 (v : Nat) : W32 := BitVec.ofNat 32 v

/-- Bits [31:0] of a 64-bit word. -/
def lo32 (v : W64) : W32 := v.setWidth 32

/-- Bits [63:32] of a 64-bit word. -/
def hi32 (v : W64) : W32 := (v >>> 32).setWidth 32

/-- The 64-bit word with the halves `h` and `l`. -/
def cat64 (h l : W32) : W64 := h ++ l

/-- Little-endian bytes of `v`, `n` of them (R4). -/
def leBytes : Nat → Nat → List Byte
  | 0, _ => []
  | n + 1, v => BitVec.ofNat 8 v :: leBytes n (v / 256)

/-- The number that a list of little-endian bytes holds (R4). -/
def leNat : List Byte → Nat
  | [] => 0
  | b :: rest => b.toNat + 256 * leNat rest

/-- Most-significant-first bytes of `v`, `n` of them (R5). -/
def beBytes (n v : Nat) : List Byte := (leBytes n v).reverse

/-- The number that a list of most-significant-first bytes holds (R5). -/
def beNat (bs : List Byte) : Nat := leNat bs.reverse

/-- Sign extension of the low `n` bits of `v` as an integer. -/
def sextNat (n v : Nat) : Int :=
  if v % 2 ^ n < 2 ^ (n - 1) then (v % 2 ^ n : Nat) else ((v % 2 ^ n : Nat) : Int) - (2 ^ n : Nat)

/-- The low 32 bits of an integer. -/
def wInt (i : Int) : W32 := BitVec.ofInt 32 i

/-- One reflected CRC step over a bit. -/
def crcBit (poly c : W32) : W32 := if c.getLsbD 0 then (c >>> 1) ^^^ poly else c >>> 1

/-- `n` reflected CRC steps. -/
def crcBits : Nat → W32 → W32 → W32
  | 0, _, c => c
  | n + 1, poly, c => crcBits n poly (crcBit poly c)

/-- A reflected CRC advanced over one byte (Table 7-10). -/
def crcByte (poly c : W32) (b : Byte) : W32 := crcBits 8 poly (c ^^^ b.setWidth 32)

/-- A reflected CRC advanced over bytes, first byte first. -/
def crcBytes (poly : W32) : W32 → List Byte → W32
  | c, [] => c
  | c, b :: rest => crcBytes poly (crcByte poly c b) rest

/-- The polynomial of CRC-32C (Table 7-10). -/
def poly32c : W32 := 0x82F63B78#32
/-- The polynomial of IEEE 802.3 (Table 7-10). -/
def poly8023 : W32 := 0xEDB88320#32

/-- CRC-32C of a byte string with the seed 0xFFFF_FFFF and the final inversion (section 7.7, Edges). -/
def crc32c (bs : List Byte) : W32 := ~~~ (crcBytes poly32c 0xFFFFFFFF#32 bs)

/-- The Ethernet FCS of a byte string (section 7.7, Edges). -/
def fcs32 (bs : List Byte) : W32 := ~~~ (crcBytes poly8023 0xFFFFFFFF#32 bs)

/-- The numbers `lo`, `lo + 1`, … (`n` of them). -/
def rangeFrom : Nat → Nat → List Nat
  | 0, _ => []
  | n + 1, lo => lo :: rangeFrom n (lo + 1)

/-- The sum of a list. -/
def sumNat (l : List Nat) : Nat := l.foldl (· + ·) 0

/-- The `k`-th entry of a list, or `d` beyond its end. -/
def nth {α : Type} (l : List α) (k : Nat) (d : α) : α := l.getD k d

/-- Round up to a multiple of `m`. -/
def roundUp (v m : Nat) : Nat := (v + m - 1) / m * m

end Sys2Proof.Machine
end

