-- ==== Sys2Proof/Machine/RegMap.lean ====
section
/-! DEFINITION. The address of every register (R8: slot × 0x1_0000 + offset; Table 0-7), as `A.<register>`, for an
array of registers a function of its index, and the value each register holds after reset. Warden IO registers are kept
at 0x8000_0000 onwards. -/

namespace Sys2Proof.Machine.A

/-- TOP_ID (spec/00, Registers of this chapter). -/
def topId : Nat := 0x0
/-- TOP_CAPS (spec/01, Registers of this chapter). -/
def topCaps : Nat := 0x4
/-- SHP_STAT (spec/02, Registers of this chapter). -/
def shpStat : Nat := 0x40000
/-- SHP_CTRL (spec/02, Registers of this chapter). -/
def shpCtrl : Nat := 0x40004
/-- SHP_LOADERR (spec/02, Registers of this chapter). -/
def shpLoaderr : Nat := 0x40008
/-- SHP_ERROFF (spec/02, Registers of this chapter). -/
def shpErroff : Nat := 0x4000c
/-- SHP_DELTA_ADDR (spec/02, Registers of this chapter). -/
def shpDeltaAddr : Nat := 0x40010
/-- SHP_DELTA_LEN (spec/02, Registers of this chapter). -/
def shpDeltaLen : Nat := 0x40014
/-- SHP_TURN_A (spec/02, Registers of this chapter). -/
def shpTurnA : Nat := 0x40018
/-- SHP_TURN_B (spec/02, Registers of this chapter). -/
def shpTurnB : Nat := 0x4001c
/-- SHP_BUILD (spec/02, Registers of this chapter). -/
def shpBuild : Nat := 0x40020
/-- SHP_SECVER (spec/02, Registers of this chapter). -/
def shpSecver : Nat := 0x40024
/-- SHP_DIGEST0 to SHP_DIGEST7 (spec/02, Registers of this chapter). -/
def shpDigest (n : Nat) : Nat := 0x40040 + 0x4 * n
/-- BOOT_STAT (spec/03, Registers of this chapter). -/
def bootStat : Nat := 0x160000
/-- BOOT_CAUSE (spec/03, Registers of this chapter). -/
def bootCause : Nat := 0x160004
/-- BOOT_FALLBACK (spec/03, Registers of this chapter). -/
def bootFallback : Nat := 0x160008
/-- BOOT_QUAR0 to BOOT_QUAR1 (spec/03, Registers of this chapter). -/
def bootQuar (n : Nat) : Nat := 0x16000c + 0x4 * n
/-- BOOT_CTRL (spec/03, Registers of this chapter). -/
def bootCtrl : Nat := 0x160014
/-- BOOT_ELAPSED (spec/03, Registers of this chapter). -/
def bootElapsed : Nat := 0x160018
/-- BOOT_LOG0 to BOOT_LOG255 (spec/03, Registers of this chapter). -/
def bootLog (n : Nat) : Nat := 0x160400 + 0x4 * n
/-- TB_NOW_LO (spec/04, Registers of this chapter). -/
def tbNowLo : Nat := 0x30000
/-- TB_NOW_HI (spec/04, Registers of this chapter). -/
def tbNowHi : Nat := 0x30004
/-- TB_CYCLE (spec/04, Registers of this chapter). -/
def tbCycle : Nat := 0x30008
/-- TB_OFFSET (spec/04, Registers of this chapter). -/
def tbOffset : Nat := 0x3000c
/-- TB_CYCSTART_LO (spec/04, Registers of this chapter). -/
def tbCycstartLo : Nat := 0x30010
/-- TB_CYCSTART_HI (spec/04, Registers of this chapter). -/
def tbCycstartHi : Nat := 0x30014
/-- TB_PERIOD (spec/04, Registers of this chapter). -/
def tbPeriod : Nat := 0x30018
/-- TB_PHASE (spec/04, Registers of this chapter). -/
def tbPhase : Nat := 0x3001c
/-- TB_RATE (spec/04, Registers of this chapter). -/
def tbRate : Nat := 0x30020
/-- TB_STEP_LO (spec/04, Registers of this chapter). -/
def tbStepLo : Nat := 0x30024
/-- TB_STEP_HI (spec/04, Registers of this chapter). -/
def tbStepHi : Nat := 0x30028
/-- TB_TURNSTAT (spec/04, Registers of this chapter). -/
def tbTurnstat : Nat := 0x3002c
/-- TB_ARM (spec/04, Registers of this chapter). -/
def tbArm : Nat := 0x30030
/-- TB_DISARM (spec/04, Registers of this chapter). -/
def tbDisarm : Nat := 0x30034
/-- TB_ARMED (spec/04, Registers of this chapter). -/
def tbArmed : Nat := 0x30038
/-- TB_SWAPPED (spec/04, Registers of this chapter). -/
def tbSwapped : Nat := 0x3003c
/-- TB_SHRB_ADDR (spec/04, Registers of this chapter). -/
def tbShrbAddr : Nat := 0x30040
/-- TB_SHRB_DATA (spec/04, Registers of this chapter). -/
def tbShrbData : Nat := 0x30044
/-- TB_SNAP_CTRL (spec/04, Registers of this chapter). -/
def tbSnapCtrl : Nat := 0x30048
/-- TB_SNAP_LO (spec/04, Registers of this chapter). -/
def tbSnapLo : Nat := 0x3004c
/-- TB_SNAP_HI (spec/04, Registers of this chapter). -/
def tbSnapHi : Nat := 0x30050
/-- TB_SNAP_CYCLE (spec/04, Registers of this chapter). -/
def tbSnapCycle : Nat := 0x30054
/-- TB_SNAP_OFFSET (spec/04, Registers of this chapter). -/
def tbSnapOffset : Nat := 0x30058
/-- TB_TTAG0 to TB_TTAG15 (spec/04, Registers of this chapter). -/
def tbTtag (n : Nat) : Nat := 0x30080 + 0x4 * n
/-- FLT_CTRL (spec/05, Registers of this chapter). -/
def fltCtrl : Nat := 0x60000
/-- FLT_CLASSMAP (spec/05, Registers of this chapter). -/
def fltClassmap : Nat := 0x60004
/-- FLT_AGE (spec/05, Registers of this chapter). -/
def fltAge : Nat := 0x60008
/-- FLT_TKT_C01 (spec/05, Registers of this chapter). -/
def fltTktC01 : Nat := 0x60010
/-- FLT_TKT_C23 (spec/05, Registers of this chapter). -/
def fltTktC23 : Nat := 0x60014
/-- FLT_TKT_PEAK (spec/05, Registers of this chapter). -/
def fltTktPeak : Nat := 0x60018
/-- FLT_FINISH (spec/05, Registers of this chapter). -/
def fltFinish : Nat := 0x6001c
/-- FLT_FINPREV (spec/05, Registers of this chapter). -/
def fltFinprev : Nat := 0x60020
/-- FLT_ARRTAG0 to FLT_ARRTAG15 (spec/05, Registers of this chapter). -/
def fltArrtag (n : Nat) : Nat := 0x60040 + 0x4 * n
/-- FLT_DLOG_CTRL (spec/05, Registers of this chapter). -/
def fltDlogCtrl : Nat := 0x60100
/-- FLT_DLOG_WR (spec/05, Registers of this chapter). -/
def fltDlogWr : Nat := 0x60104
/-- FLT_DLOG_RD (spec/05, Registers of this chapter). -/
def fltDlogRd : Nat := 0x6010c
/-- FLT_DLOG_HELD (spec/05, Registers of this chapter). -/
def fltDlogHeld : Nat := 0x60110
/-- FLT_DLOG_REC0 to FLT_DLOG_REC7 (spec/05, Registers of this chapter). -/
def fltDlogRec (n : Nat) : Nat := 0x60120 + 0x4 * n
/-- LKP_TOKSTAT (spec/09, Registers of this chapter). -/
def lkpTokstat : Nat := 0x70000
/-- LKP_THRSTAT (spec/09, Registers of this chapter). -/
def lkpThrstat : Nat := 0x70004
/-- LKP_CTRL (spec/09, Registers of this chapter). -/
def lkpCtrl : Nat := 0x70008
/-- LKP_QCMD (spec/09, Registers of this chapter). -/
def lkpQcmd : Nat := 0x7000c
/-- LKP_QUAR0 to LKP_QUAR1 (spec/09, Registers of this chapter). -/
def lkpQuar (n : Nat) : Nat := 0x70010 + 0x4 * n
/-- LKP_QLAST (spec/09, Registers of this chapter). -/
def lkpQlast : Nat := 0x70018
/-- LKP_RETURN (spec/09, Registers of this chapter). -/
def lkpReturn : Nat := 0x7001c
/-- LKP_ABORT (spec/09, Registers of this chapter). -/
def lkpAbort : Nat := 0x70020
/-- LKP_PFBASE (spec/09, Registers of this chapter). -/
def lkpPfbase : Nat := 0x70024
/-- LKP_PAGESTAT (spec/09, Registers of this chapter). -/
def lkpPagestat : Nat := 0x70028
/-- LKP_MISSSTAT (spec/09, Registers of this chapter). -/
def lkpMissstat : Nat := 0x7002c
/-- BSN_CMD (spec/10, Registers of this chapter). -/
def bsnCmd : Nat := 0x80000
/-- BSN_ARG (spec/10, Registers of this chapter). -/
def bsnArg : Nat := 0x80004
/-- BSN_RESULT (spec/10, Registers of this chapter). -/
def bsnResult : Nat := 0x80008
/-- BSN_RESULT2 (spec/10, Registers of this chapter). -/
def bsnResult2 : Nat := 0x8000c
/-- BSN_CTRL (spec/10, Registers of this chapter). -/
def bsnCtrl : Nat := 0x80010
/-- BSN_BERTHRES (spec/10, Registers of this chapter). -/
def bsnBerthres : Nat := 0x80014
/-- BSN_RESV0 to BSN_RESV5 (spec/10, Registers of this chapter). -/
def bsnResv (n : Nat) : Nat := 0x80060 + 0x4 * n
/-- BSN_LOW0 to BSN_LOW7 (spec/10, Registers of this chapter). -/
def bsnLow (n : Nat) : Nat := 0x80080 + 0x4 * n
/-- BSN_FREE0 to BSN_FREE7 (spec/10, Registers of this chapter). -/
def bsnFree (n : Nat) : Nat := 0x80020 + 0x4 * n
/-- BSN_BASE0 to BSN_BASE7 (spec/10, Registers of this chapter). -/
def bsnBase (n : Nat) : Nat := 0x80040 + 0x4 * n
/-- BSN_OSEL (spec/10, Registers of this chapter). -/
def bsnOsel : Nat := 0x800a0
/-- BSN_OHOLD0 to BSN_OHOLD2 (spec/10, Registers of this chapter). -/
def bsnOhold (n : Nat) : Nat := 0x800a4 + 0x4 * n
/-- BSN_OHOLD3 (spec/10, Registers of this chapter). -/
def bsnOhold3 : Nat := 0x800b0
/-- BSN_OHOLD4 (spec/10, Registers of this chapter). -/
def bsnOhold4 : Nat := 0x800b4
/-- BSN_OAGENT (spec/10, Registers of this chapter). -/
def bsnOagent : Nat := 0x800b8
/-- BSN_OCELL (spec/10, Registers of this chapter). -/
def bsnOcell : Nat := 0x800bc
/-- BSN_ERR (spec/10, Registers of this chapter). -/
def bsnErr : Nat := 0x800c0
/-- BSN_ERRBUF (spec/10, Registers of this chapter). -/
def bsnErrbuf : Nat := 0x800c4
/-- BSN_SPILLSLOTS (spec/10, Registers of this chapter). -/
def bsnSpillslots : Nat := 0x800d0
/-- BSN_SPILLFREE (spec/10, Registers of this chapter). -/
def bsnSpillfree : Nat := 0x800d4
/-- TBL_KEY0 to TBL_KEY2 (spec/11, Registers of this chapter). -/
def tblKey (n : Nat) : Nat := 0x90000 + 0x4 * n
/-- TBL_RES (spec/11, Registers of this chapter). -/
def tblRes : Nat := 0x9000c
/-- TBL_AUX0 (spec/11, Registers of this chapter). -/
def tblAux0 : Nat := 0x90010
/-- TBL_AUX1 (spec/11, Registers of this chapter). -/
def tblAux1 : Nat := 0x90014
/-- TBL_CMD (spec/11, Registers of this chapter). -/
def tblCmd : Nat := 0x90018
/-- TBL_SEQ (spec/11, Registers of this chapter). -/
def tblSeq : Nat := 0x9001c
/-- TBL_LAST (spec/11, Registers of this chapter). -/
def tblLast : Nat := 0x90020
/-- TBL_RD0 to TBL_RD3 (spec/11, Registers of this chapter). -/
def tblRd (n : Nat) : Nat := 0x90030 + 0x4 * n
/-- TBL_CTRL (spec/11, Registers of this chapter). -/
def tblCtrl : Nat := 0x90100
/-- TBL_FLOOD0 to TBL_FLOOD9 (spec/11, Registers of this chapter). -/
def tblFlood (n : Nat) : Nat := 0x90110 + 0x4 * n
/-- TBL_EPOCH0 to TBL_EPOCH2 (spec/11, Registers of this chapter). -/
def tblEpoch (n : Nat) : Nat := 0x90140 + 0x4 * n
/-- TBL_STAT0 to TBL_STAT2 (spec/11, Registers of this chapter). -/
def tblStat (n : Nat) : Nat := 0x90150 + 0x4 * n
/-- TBL_POLICY (spec/11, Registers of this chapter). -/
def tblPolicy : Nat := 0x90160
/-- TBL_SEEDA0 to TBL_SEEDA2 (spec/11, Registers of this chapter). -/
def tblSeeda (n : Nat) : Nat := 0x90170 + 0x4 * n
/-- TBL_SEEDB0 to TBL_SEEDB2 (spec/11, Registers of this chapter). -/
def tblSeedb (n : Nat) : Nat := 0x90180 + 0x4 * n
/-- TBL_AGE (spec/11, Registers of this chapter). -/
def tblAge : Nat := 0x90190
/-- TBL_QSTAT (spec/11, Registers of this chapter). -/
def tblQstat : Nat := 0x90194
/-- BRG_CTRL (spec/12, Registers of this chapter). -/
def brgCtrl : Nat := 0xa0000
/-- BRG_LOSSTAG (spec/12, Registers of this chapter). -/
def brgLosstag : Nat := 0xa0004
/-- BRG_STAT (spec/12, Registers of this chapter). -/
def brgStat : Nat := 0xa0008
/-- BRG_CMD (spec/12, Registers of this chapter). -/
def brgCmd : Nat := 0xa0010
/-- BRG_ARG0 to BRG_ARG3 (spec/12, Registers of this chapter). -/
def brgArg (n : Nat) : Nat := 0xa0014 + 0x4 * n
/-- BRG_RESULT (spec/12, Registers of this chapter). -/
def brgResult : Nat := 0xa0024
/-- BRG_DIR0 (spec/12, Registers of this chapter). -/
def brgDir0 : Nat := 0xa0028
/-- BRG_DIR1 (spec/12, Registers of this chapter). -/
def brgDir1 : Nat := 0xa002c
/-- BRG_COMMIT (spec/12, Registers of this chapter). -/
def brgCommit : Nat := 0xa0030
/-- BRG_ICFG0 to BRG_ICFG7 (spec/12, Registers of this chapter). -/
def brgIcfg (n : Nat) : Nat := 0xa0080 + 0x10 * n
/-- BRG_IOPEN0 to BRG_IOPEN7 (spec/12, Registers of this chapter). -/
def brgIopen (n : Nat) : Nat := 0xa0084 + 0x10 * n
/-- BRG_ICLOSE0 to BRG_ICLOSE7 (spec/12, Registers of this chapter). -/
def brgIclose (n : Nat) : Nat := 0xa0088 + 0x10 * n
/-- BRG_OCFG0 to BRG_OCFG7 (spec/12, Registers of this chapter). -/
def brgOcfg (n : Nat) : Nat := 0xa0100 + 0x20 * n
/-- BRG_OFIRST0 to BRG_OFIRST7 (spec/12, Registers of this chapter). -/
def brgOfirst (n : Nat) : Nat := 0xa0104 + 0x20 * n
/-- BRG_OGATE0 to BRG_OGATE7 (spec/12, Registers of this chapter). -/
def brgOgate (n : Nat) : Nat := 0xa0108 + 0x20 * n
/-- BRG_ODALO0 to BRG_ODALO7 (spec/12, Registers of this chapter). -/
def brgOdalo (n : Nat) : Nat := 0xa010c + 0x20 * n
/-- BRG_ODAHI0 to BRG_ODAHI7 (spec/12, Registers of this chapter). -/
def brgOdahi (n : Nat) : Nat := 0xa0110 + 0x20 * n
/-- BRG_OVLAN0 to BRG_OVLAN7 (spec/12, Registers of this chapter). -/
def brgOvlan (n : Nat) : Nat := 0xa0114 + 0x20 * n
/-- BRG_OBUF0 to BRG_OBUF7 (spec/12, Registers of this chapter). -/
def brgObuf (n : Nat) : Nat := 0xa0118 + 0x20 * n
/-- BRG_OSTAT0 to BRG_OSTAT7 (spec/12, Registers of this chapter). -/
def brgOstat (n : Nat) : Nat := 0xa011c + 0x20 * n
/-- BRG_OSLOT0 to BRG_OSLOT1023 (spec/12, Registers of this chapter). -/
def brgOslot (n : Nat) : Nat := 0xa1000 + 0x4 * n
/-- PRT_MDIO_CMD0 to PRT_MDIO_CMD3 (spec/13, Registers of this chapter). -/
def prtMdioCmd (n : Nat) : Nat := 0xb0000 + 0x10 * n
/-- PRT_MDIO_STAT0 to PRT_MDIO_STAT3 (spec/13, Registers of this chapter). -/
def prtMdioStat (n : Nat) : Nat := 0xb0004 + 0x10 * n
/-- PRT_MDIO_CFG0 to PRT_MDIO_CFG3 (spec/13, Registers of this chapter). -/
def prtMdioCfg (n : Nat) : Nat := 0xb0008 + 0x10 * n
/-- PRT_TSTAG (spec/13, Registers of this chapter). -/
def prtTstag : Nat := 0xb0040
/-- PRT_TSPOP_00 to PRT_TSPOP_08 (spec/13, Registers of this chapter). -/
def prtTspop0 (n : Nat) : Nat := 0xb0080 + 0x10 * n
/-- PRT_TSPOP_10 to PRT_TSPOP_18 (spec/13, Registers of this chapter). -/
def prtTspop1 (n : Nat) : Nat := 0xb0084 + 0x10 * n
/-- PRT_TSPOP_20 to PRT_TSPOP_28 (spec/13, Registers of this chapter). -/
def prtTspop2 (n : Nat) : Nat := 0xb0088 + 0x10 * n
/-- PRT_TSPOP_30 to PRT_TSPOP_38 (spec/13, Registers of this chapter). -/
def prtTspop3 (n : Nat) : Nat := 0xb008c + 0x10 * n
/-- PRT_CTRL0 to PRT_CTRL7 (spec/13, Registers of this chapter). -/
def prtCtrl (n : Nat) : Nat := 0xb1000 + 0x800 * n
/-- PRT_STAT0 to PRT_STAT7 (spec/13, Registers of this chapter). -/
def prtStat (n : Nat) : Nat := 0xb1004 + 0x800 * n
/-- PRT_PAUSEQ0 to PRT_PAUSEQ7 (spec/13, Registers of this chapter). -/
def prtPauseq (n : Nat) : Nat := 0xb1008 + 0x800 * n
/-- PRT_EXPRESS0 to PRT_EXPRESS7 (spec/13, Registers of this chapter). -/
def prtExpress (n : Nat) : Nat := 0xb100c + 0x800 * n
/-- PRT_RXCORR0 to PRT_RXCORR7 (spec/13, Registers of this chapter). -/
def prtRxcorr (n : Nat) : Nat := 0xb1010 + 0x800 * n
/-- PRT_TXCORR0 to PRT_TXCORR7 (spec/13, Registers of this chapter). -/
def prtTxcorr (n : Nat) : Nat := 0xb1014 + 0x800 * n
/-- PRT_GCLLEN0 (spec/13, Registers of this chapter). -/
def prtGcllen0 : Nat := 0xb1018
/-- PRT_GCLLEN1 (spec/13, Registers of this chapter). -/
def prtGcllen1 : Nat := 0xb1818
/-- PRT_GCLLEN2 (spec/13, Registers of this chapter). -/
def prtGcllen2 : Nat := 0xb2018
/-- PRT_GCLLEN3 (spec/13, Registers of this chapter). -/
def prtGcllen3 : Nat := 0xb2818
/-- PRT_GCLLEN4 (spec/13, Registers of this chapter). -/
def prtGcllen4 : Nat := 0xb3018
/-- PRT_GCLLEN5 (spec/13, Registers of this chapter). -/
def prtGcllen5 : Nat := 0xb3818
/-- PRT_GCLLEN6 (spec/13, Registers of this chapter). -/
def prtGcllen6 : Nat := 0xb4018
/-- PRT_GCLLEN7 (spec/13, Registers of this chapter). -/
def prtGcllen7 : Nat := 0xb4818
/-- PRT_GCL00 to PRT_GCL0127 (spec/13, Registers of this chapter). -/
def prtGcl0 (n : Nat) : Nat := 0xb1100 + 0x4 * n
/-- PRT_GCL10 to PRT_GCL1127 (spec/13, Registers of this chapter). -/
def prtGcl1 (n : Nat) : Nat := 0xb1900 + 0x4 * n
/-- PRT_GCL20 to PRT_GCL2127 (spec/13, Registers of this chapter). -/
def prtGcl2 (n : Nat) : Nat := 0xb2100 + 0x4 * n
/-- PRT_GCL30 to PRT_GCL3127 (spec/13, Registers of this chapter). -/
def prtGcl3 (n : Nat) : Nat := 0xb2900 + 0x4 * n
/-- PRT_GCL40 to PRT_GCL4127 (spec/13, Registers of this chapter). -/
def prtGcl4 (n : Nat) : Nat := 0xb3100 + 0x4 * n
/-- PRT_GCL50 to PRT_GCL5127 (spec/13, Registers of this chapter). -/
def prtGcl5 (n : Nat) : Nat := 0xb3900 + 0x4 * n
/-- PRT_GCL60 to PRT_GCL6127 (spec/13, Registers of this chapter). -/
def prtGcl6 (n : Nat) : Nat := 0xb4100 + 0x4 * n
/-- PRT_GCL70 to PRT_GCL7127 (spec/13, Registers of this chapter). -/
def prtGcl7 (n : Nat) : Nat := 0xb4900 + 0x4 * n
/-- DRC_CTRL0 to DRC_CTRL1 (spec/14, Registers of this chapter). -/
def drcCtrl (n : Nat) : Nat := 0xc0000 + 0x400 * n
/-- DRC_STAT0 to DRC_STAT1 (spec/14, Registers of this chapter). -/
def drcStat (n : Nat) : Nat := 0xc0004 + 0x400 * n
/-- DRC_AGELIM10 to DRC_AGELIM11 (spec/14, Registers of this chapter). -/
def drcAgelim1 (n : Nat) : Nat := 0xc0010 + 0x400 * n
/-- DRC_AGELIM20 to DRC_AGELIM21 (spec/14, Registers of this chapter). -/
def drcAgelim2 (n : Nat) : Nat := 0xc0014 + 0x400 * n
/-- DRC_AGELIM30 to DRC_AGELIM31 (spec/14, Registers of this chapter). -/
def drcAgelim3 (n : Nat) : Nat := 0xc0018 + 0x400 * n
/-- DRC_SR0 to DRC_SR1 (spec/14, Registers of this chapter). -/
def drcSr (n : Nat) : Nat := 0xc0020 + 0x400 * n
/-- DRC_ZQ0 to DRC_ZQ1 (spec/14, Registers of this chapter). -/
def drcZq (n : Nat) : Nat := 0xc002c + 0x400 * n
/-- DRC_POISON0 to DRC_POISON1 (spec/14, Registers of this chapter). -/
def drcPoison (n : Nat) : Nat := 0xc0030 + 0x400 * n
/-- DRC_SCRUB0 to DRC_SCRUB1 (spec/14, Registers of this chapter). -/
def drcScrub (n : Nat) : Nat := 0xc0034 + 0x400 * n
/-- DRC_LOST (spec/14, Registers of this chapter). -/
def drcLost : Nat := 0xc0800
/-- DRC_AGSTAT (spec/14, Registers of this chapter). -/
def drcAgstat : Nat := 0xc0804
/-- SAU_SEM0 to SAU_SEM511 (spec/15, Registers of this chapter). -/
def sauSem (n : Nat) : Nat := 0xd0000 + 0x4 * n
/-- SAU_REL0 to SAU_REL511 (spec/15, Registers of this chapter). -/
def sauRel (n : Nat) : Nat := 0xd0800 + 0x4 * n
/-- SAU_TAG0 to SAU_TAG511 (spec/15, Registers of this chapter). -/
def sauTag (n : Nat) : Nat := 0xd1000 + 0x4 * n
/-- SAU_GRP0 to SAU_GRP31 (spec/15, Registers of this chapter). -/
def sauGrp (n : Nat) : Nat := 0xd1800 + 0x4 * n
/-- SAU_FORCE (spec/15, Registers of this chapter). -/
def sauForce : Nat := 0xd1880
/-- SAU_DEATH (spec/15, Registers of this chapter). -/
def sauDeath : Nat := 0xd1884
/-- SAU_STUCK0 to SAU_STUCK15 (spec/15, Registers of this chapter). -/
def sauStuck (n : Nat) : Nat := 0xd1900 + 0x4 * n
/-- SAU_WTGT0 to SAU_WTGT63 (spec/15, Registers of this chapter). -/
def sauWtgt (n : Nat) : Nat := 0xd2000 + 0x10 * n
/-- SAU_WCTL0 to SAU_WCTL63 (spec/15, Registers of this chapter). -/
def sauWctl (n : Nat) : Nat := 0xd2004 + 0x10 * n
/-- SAU_WVAL0 to SAU_WVAL63 (spec/15, Registers of this chapter). -/
def sauWval (n : Nat) : Nat := 0xd2008 + 0x10 * n
/-- SAU_WSTAT0 to SAU_WSTAT63 (spec/15, Registers of this chapter). -/
def sauWstat (n : Nat) : Nat := 0xd200c + 0x10 * n
/-- SAU_WFIRED0 to SAU_WFIRED1 (spec/15, Registers of this chapter). -/
def sauWfired (n : Nat) : Nat := 0xd2400 + 0x4 * n
/-- SAU_ATGT (spec/15, Registers of this chapter). -/
def sauAtgt : Nat := 0xd2800
/-- SAU_AADDR (spec/15, Registers of this chapter). -/
def sauAaddr : Nat := 0xd2804
/-- SAU_AOPD0 to SAU_AOPD3 (spec/15, Registers of this chapter). -/
def sauAopd (n : Nat) : Nat := 0xd2810 + 0x4 * n
/-- SAU_ACMD (spec/15, Registers of this chapter). -/
def sauAcmd : Nat := 0xd2820
/-- SAU_ARES0 to SAU_ARES3 (spec/15, Registers of this chapter). -/
def sauAres (n : Nat) : Nat := 0xd2830 + 0x4 * n
/-- SAU_ASTAT (spec/15, Registers of this chapter). -/
def sauAstat : Nat := 0xd2840
/-- TNT_MBASE_LO (spec/16, Registers of this chapter). -/
def tntMbaseLo : Nat := 0xe0000
/-- TNT_MBASE_HI (spec/16, Registers of this chapter). -/
def tntMbaseHi : Nat := 0xe0004
/-- TNT_MCFG (spec/16, Registers of this chapter). -/
def tntMcfg : Nat := 0xe0008
/-- TNT_MDB (spec/16, Registers of this chapter). -/
def tntMdb : Nat := 0xe000c
/-- TNT_MHEAD (spec/16, Registers of this chapter). -/
def tntMhead : Nat := 0xe0010
/-- TNT_MSTAT (spec/16, Registers of this chapter). -/
def tntMstat : Nat := 0xe0014
/-- TNT_HERR0 (spec/16, Registers of this chapter). -/
def tntHerr0 : Nat := 0xe0020
/-- TNT_HERR1 (spec/16, Registers of this chapter). -/
def tntHerr1 : Nat := 0xe0024
/-- TNT_TXWAIT (spec/16, Registers of this chapter). -/
def tntTxwait : Nat := 0xe0030
/-- TNT_B2WIN0 to TNT_B2WIN15 (spec/16, Registers of this chapter). -/
def tntB2win (n : Nat) : Nat := 0xe0040 + 0x4 * n
/-- TNT_TSTAT0 to TNT_TSTAT31 (spec/16, Registers of this chapter). -/
def tntTstat (n : Nat) : Nat := 0xe0100 + 0x4 * n
/-- TNT_FARG0 to TNT_FARG6 (spec/16, Registers of this chapter). -/
def tntFarg (n : Nat) : Nat := 0xe0200 + 0x4 * n
/-- TNT_FCMD (spec/16, Registers of this chapter). -/
def tntFcmd : Nat := 0xe021c
/-- FUL_SCFG0 to FUL_SCFG63 (spec/17, Registers of this chapter). -/
def fulScfg (n : Nat) : Nat := 0xf0000 + 0x20 * n
/-- FUL_SOWN0 to FUL_SOWN63 (spec/17, Registers of this chapter). -/
def fulSown (n : Nat) : Nat := 0xf0004 + 0x20 * n
/-- FUL_SCHUNK0 to FUL_SCHUNK63 (spec/17, Registers of this chapter). -/
def fulSchunk (n : Nat) : Nat := 0xf0008 + 0x20 * n
/-- FUL_SCTL0 to FUL_SCTL63 (spec/17, Registers of this chapter). -/
def fulSctl (n : Nat) : Nat := 0xf000c + 0x20 * n
/-- FUL_SSTAT0 to FUL_SSTAT63 (spec/17, Registers of this chapter). -/
def fulSstat (n : Nat) : Nat := 0xf0010 + 0x20 * n
/-- FUL_SSEQ0 to FUL_SSEQ63 (spec/17, Registers of this chapter). -/
def fulSseq (n : Nat) : Nat := 0xf0014 + 0x20 * n
/-- FUL_RPOS0 to FUL_RPOS31 (spec/17, Registers of this chapter). -/
def fulRpos (n : Nat) : Nat := 0xf0800 + 0x4 * n
/-- FUL_RWRAP0 to FUL_RWRAP31 (spec/17, Registers of this chapter). -/
def fulRwrap (n : Nat) : Nat := 0xf0880 + 0x4 * n
/-- STB_CFG0 to STB_CFG15 (spec/17, Registers of this chapter). -/
def stbCfg (n : Nat) : Nat := 0x100000 + 0x40 * n
/-- STB_WIDTH0 to STB_WIDTH15 (spec/17, Registers of this chapter). -/
def stbWidth (n : Nat) : Nat := 0x100004 + 0x40 * n
/-- STB_TLO0 to STB_TLO15 (spec/17, Registers of this chapter). -/
def stbTlo (n : Nat) : Nat := 0x100008 + 0x40 * n
/-- STB_THI0 to STB_THI15 (spec/17, Registers of this chapter). -/
def stbThi (n : Nat) : Nat := 0x10000c + 0x40 * n
/-- STB_CTL0 to STB_CTL15 (spec/17, Registers of this chapter). -/
def stbCtl (n : Nat) : Nat := 0x100010 + 0x40 * n
/-- STB_STAT0 to STB_STAT15 (spec/17, Registers of this chapter). -/
def stbStat (n : Nat) : Nat := 0x100014 + 0x40 * n
/-- STB_PENDLO0 to STB_PENDLO15 (spec/17, Registers of this chapter). -/
def stbPendlo (n : Nat) : Nat := 0x100018 + 0x40 * n
/-- STB_PENDHI0 to STB_PENDHI15 (spec/17, Registers of this chapter). -/
def stbPendhi (n : Nat) : Nat := 0x10001c + 0x40 * n
/-- STB_LASTLO0 to STB_LASTLO15 (spec/17, Registers of this chapter). -/
def stbLastlo (n : Nat) : Nat := 0x100020 + 0x40 * n
/-- STB_LASTHI0 to STB_LASTHI15 (spec/17, Registers of this chapter). -/
def stbLasthi (n : Nat) : Nat := 0x100024 + 0x40 * n
/-- STB_TAU0 to STB_TAU15 (spec/17, Registers of this chapter). -/
def stbTau (n : Nat) : Nat := 0x100028 + 0x40 * n
/-- STB_RESPOS0 to STB_RESPOS15 (spec/17, Registers of this chapter). -/
def stbRespos (n : Nat) : Nat := 0x10002c + 0x40 * n
/-- STB_RESTIME0 to STB_RESTIME15 (spec/17, Registers of this chapter). -/
def stbRestime (n : Nat) : Nat := 0x100030 + 0x40 * n
/-- STB_RESLIM0 to STB_RESLIM15 (spec/17, Registers of this chapter). -/
def stbReslim (n : Nat) : Nat := 0x100034 + 0x40 * n
/-- STB_CCFG0 to STB_CCFG15 (spec/17, Registers of this chapter). -/
def stbCcfg (n : Nat) : Nat := 0x100400 + 0x20 * n
/-- STB_CCORR0 to STB_CCORR15 (spec/17, Registers of this chapter). -/
def stbCcorr (n : Nat) : Nat := 0x100404 + 0x20 * n
/-- STB_CPOP_00 to STB_CPOP_015 (spec/17, Registers of this chapter). -/
def stbCpop0 (n : Nat) : Nat := 0x100408 + 0x20 * n
/-- STB_CPOP_10 to STB_CPOP_115 (spec/17, Registers of this chapter). -/
def stbCpop1 (n : Nat) : Nat := 0x10040c + 0x20 * n
/-- STB_CPOP_20 to STB_CPOP_215 (spec/17, Registers of this chapter). -/
def stbCpop2 (n : Nat) : Nat := 0x100410 + 0x20 * n
/-- STB_CSTAT0 to STB_CSTAT15 (spec/17, Registers of this chapter). -/
def stbCstat (n : Nat) : Nat := 0x100414 + 0x20 * n
/-- SHF_CHCTL0 to SHF_CHCTL23 (spec/18, Registers of this chapter). -/
def shfChctl (n : Nat) : Nat := 0x110000 + 0x40 * n
/-- SHF_AUTOLEN0 to SHF_AUTOLEN23 (spec/18, Registers of this chapter). -/
def shfAutolen (n : Nat) : Nat := 0x110004 + 0x40 * n
/-- SHF_START0 to SHF_START23 (spec/18, Registers of this chapter). -/
def shfStart (n : Nat) : Nat := 0x110008 + 0x40 * n
/-- SHF_TX0 to SHF_TX23 (spec/18, Registers of this chapter). -/
def shfTx (n : Nat) : Nat := 0x11000c + 0x40 * n
/-- SHF_RX0 to SHF_RX23 (spec/18, Registers of this chapter). -/
def shfRx (n : Nat) : Nat := 0x110010 + 0x40 * n
/-- SHF_STAT0 to SHF_STAT23 (spec/18, Registers of this chapter). -/
def shfStat (n : Nat) : Nat := 0x110014 + 0x40 * n
/-- SHF_PC0 to SHF_PC23 (spec/18, Registers of this chapter). -/
def shfPc (n : Nat) : Nat := 0x110018 + 0x40 * n
/-- SHF_STALL0 to SHF_STALL23 (spec/18, Registers of this chapter). -/
def shfStall (n : Nat) : Nat := 0x11001c + 0x40 * n
/-- SHF_ENTRY0 to SHF_ENTRY23 (spec/18, Registers of this chapter). -/
def shfEntry (n : Nat) : Nat := 0x110020 + 0x40 * n
/-- SHF_SDLY0 to SHF_SDLY23 (spec/18, Registers of this chapter). -/
def shfSdly (n : Nat) : Nat := 0x110024 + 0x40 * n
/-- SHF_UADDR (spec/18, Registers of this chapter). -/
def shfUaddr : Nat := 0x110800
/-- SHF_UDATA_LO (spec/18, Registers of this chapter). -/
def shfUdataLo : Nat := 0x110804
/-- SHF_UDATA_HI (spec/18, Registers of this chapter). -/
def shfUdataHi : Nat := 0x110808
/-- SHF_BANKCTL (spec/18, Registers of this chapter). -/
def shfBankctl : Nat := 0x11080c
/-- SHF_BANKCRC (spec/18, Registers of this chapter). -/
def shfBankcrc : Nat := 0x110810
/-- SHF_BANKSTAT (spec/18, Registers of this chapter). -/
def shfBankstat : Nat := 0x110814
/-- SHF_DRAIN (spec/18, Registers of this chapter). -/
def shfDrain : Nat := 0x110818
/-- SHF_WSTAT (spec/18, Registers of this chapter). -/
def shfWstat : Nat := 0x11081c
/-- EVR_ROUTE0 to EVR_ROUTE767 (spec/19, Registers of this chapter). -/
def evrRoute (n : Nat) : Nat := 0x120000 + 0x4 * n
/-- EVR_PEND0 to EVR_PEND23 (spec/19, Registers of this chapter). -/
def evrPend (n : Nat) : Nat := 0x120c00 + 0x4 * n
/-- EVR_PINCFG0 to EVR_PINCFG3 (spec/19, Registers of this chapter). -/
def evrPincfg (n : Nat) : Nat := 0x120d00 + 0x4 * n
/-- EVR_SECNOTE (spec/19, Registers of this chapter). -/
def evrSecnote : Nat := 0x120d20
/-- EVR_COUNT0 to EVR_COUNT767 (spec/19, Registers of this chapter). -/
def evrCount (n : Nat) : Nat := 0x121000 + 0x4 * n
/-- SEC_NSTAT (spec/20, Registers of this chapter). -/
def secNstat : Nat := 0x130000
/-- SEC_NHOLDPD0 to SEC_NHOLDPD2 (spec/20, Registers of this chapter). -/
def secNholdpd (n : Nat) : Nat := 0x130004 + 0x4 * n
/-- SEC_NHOLDCK (spec/20, Registers of this chapter). -/
def secNholdck : Nat := 0x130010
/-- SEC_MREQ0 to SEC_MREQ7 (spec/20, Registers of this chapter). -/
def secMreq (n : Nat) : Nat := 0x130020 + 0x4 * n
/-- SEC_MCMD (spec/20, Registers of this chapter). -/
def secMcmd : Nat := 0x130040
/-- SEC_MSTAT (spec/20, Registers of this chapter). -/
def secMstat : Nat := 0x130044
/-- SEC_MRSP0 to SEC_MRSP7 (spec/20, Registers of this chapter). -/
def secMrsp (n : Nat) : Nat := 0x130060 + 0x4 * n
/-- LCS_STATE (spec/21, Registers of this chapter). -/
def lcsState : Nat := 0x140000
/-- LCS_UID_LO (spec/21, Registers of this chapter). -/
def lcsUidLo : Nat := 0x140004
/-- LCS_UID_HI (spec/21, Registers of this chapter). -/
def lcsUidHi : Nat := 0x140008
/-- LCS_DEBUG (spec/21, Registers of this chapter). -/
def lcsDebug : Nat := 0x14000c
/-- LCS_ARB (spec/21, Registers of this chapter). -/
def lcsArb : Nat := 0x140010
/-- UPD_STAT (spec/21, Registers of this chapter). -/
def updStat : Nat := 0x150000
/-- UPD_RXOFF (spec/21, Registers of this chapter). -/
def updRxoff : Nat := 0x150004
/-- UPD_RXLEN (spec/21, Registers of this chapter). -/
def updRxlen : Nat := 0x150008
/-- UPD_SECVER (spec/21, Registers of this chapter). -/
def updSecver : Nat := 0x15000c
/-- UPD_SEQ (spec/21, Registers of this chapter). -/
def updSeq : Nat := 0x150010
/-- UPD_CHECK (spec/21, Registers of this chapter). -/
def updCheck : Nat := 0x150014
/-- PWR_PDREQ (spec/22, Registers of this chapter). -/
def pwrPdreq : Nat := 0x10000
/-- PWR_PDSTAT0 to PWR_PDSTAT5 (spec/22, Registers of this chapter). -/
def pwrPdstat (n : Nat) : Nat := 0x10010 + 0x4 * n
/-- PWR_CKREQ (spec/22, Registers of this chapter). -/
def pwrCkreq : Nat := 0x10030
/-- PWR_CKSTAT (spec/22, Registers of this chapter). -/
def pwrCkstat : Nat := 0x10034
/-- PWR_GOVCTL (spec/22, Registers of this chapter). -/
def pwrGovctl : Nat := 0x10040
/-- PWR_GOVHYST (spec/22, Registers of this chapter). -/
def pwrGovhyst : Nat := 0x10044
/-- PWR_DEADLINE (spec/22, Registers of this chapter). -/
def pwrDeadline : Nat := 0x10048
/-- PWR_MARGIN (spec/22, Registers of this chapter). -/
def pwrMargin : Nat := 0x1004c
/-- PWR_VCLIM (spec/22, Registers of this chapter). -/
def pwrVclim : Nat := 0x10050
/-- PWR_VCORE (spec/22, Registers of this chapter). -/
def pwrVcore : Nat := 0x10054
/-- PWR_GOVFIN (spec/22, Registers of this chapter). -/
def pwrGovfin : Nat := 0x10058
/-- PWR_GOVSTAT (spec/22, Registers of this chapter). -/
def pwrGovstat : Nat := 0x1005c
/-- PWR_SHUTREC (spec/22, Registers of this chapter). -/
def pwrShutrec : Nat := 0x10060
/-- MON_TEMP0 to MON_TEMP11 (spec/22, Registers of this chapter). -/
def monTemp (n : Nat) : Nat := 0x20000 + 0x4 * n
/-- MON_TJMAX (spec/22, Registers of this chapter). -/
def monTjmax : Nat := 0x20030
/-- MON_THERM (spec/22, Registers of this chapter). -/
def monTherm : Nat := 0x20034
/-- MON_RAIL0 to MON_RAIL7 (spec/22, Registers of this chapter). -/
def monRail (n : Nat) : Nat := 0x20040 + 0x4 * n
/-- MON_PM0 to MON_PM63 (spec/22, Registers of this chapter). -/
def monPm (n : Nat) : Nat := 0x20100 + 0x4 * n
/-- MON_RPL0 to MON_RPL63 (spec/22, Registers of this chapter). -/
def monRpl (n : Nat) : Nat := 0x20200 + 0x4 * n
/-- SEC_KOP (spec/20, Registers of this chapter). -/
def secKop : Nat := 0x80000000
/-- SEC_KSTAT (spec/20, Registers of this chapter). -/
def secKstat : Nat := 0x80000004
/-- SEC_KCYCLE (spec/20, Registers of this chapter). -/
def secKcycle : Nat := 0x80000008
/-- SEC_KSCHED (spec/20, Registers of this chapter). -/
def secKsched : Nat := 0x8000000c
/-- SEC_KWTAG (spec/20, Registers of this chapter). -/
def secKwtag : Nat := 0x80000010
/-- SEC_MTAG (spec/20, Registers of this chapter). -/
def secMtag : Nat := 0x80000014
/-- SEC_HOLDPD0 to SEC_HOLDPD2 (spec/20, Registers of this chapter). -/
def secHoldpd (n : Nat) : Nat := 0x80000020 + 0x4 * n
/-- SEC_HOLDCK (spec/20, Registers of this chapter). -/
def secHoldck : Nat := 0x8000002c
/-- SEC_ROOTCTL (spec/20, Registers of this chapter). -/
def secRootctl : Nat := 0x80000040
/-- SEC_TAMPCFG (spec/20, Registers of this chapter). -/
def secTampcfg : Nat := 0x80000050
/-- SEC_TAMPREC (spec/20, Registers of this chapter). -/
def secTamprec : Nat := 0x80000054
/-- SEC_TAMPTIME (spec/20, Registers of this chapter). -/
def secTamptime : Nat := 0x80000058
/-- SEC_RNGSTAT (spec/20, Registers of this chapter). -/
def secRngstat : Nat := 0x80000060
/-- SEC_WDCFG (spec/20, Registers of this chapter). -/
def secWdcfg : Nat := 0x80000070
/-- SEC_WDKICK (spec/20, Registers of this chapter). -/
def secWdkick : Nat := 0x80000074
/-- SEC_WRESET (spec/20, Registers of this chapter). -/
def secWreset : Nat := 0x80000078
/-- SEC_MIN0 to SEC_MIN7 (spec/20, Registers of this chapter). -/
def secMin (n : Nat) : Nat := 0x80000090 + 0x4 * n
/-- SEC_MOUT0 to SEC_MOUT7 (spec/20, Registers of this chapter). -/
def secMout (n : Nat) : Nat := 0x800000b0 + 0x4 * n
/-- SEC_MDONE (spec/20, Registers of this chapter). -/
def secMdone : Nat := 0x800000d0
/-- SEC_WDWIN (spec/20, Registers of this chapter). -/
def secWdwin : Nat := 0x800000e0

end Sys2Proof.Machine.A

namespace Sys2Proof.Machine

/-- `a` is one of `count` registers from `base` at `stride`. -/
def inArr (a base stride count : Nat) : Bool :=
  decide (base ≤ a) && decide ((a - base) % stride = 0) && decide ((a - base) / stride < count)

/-- The value of the register with key `k` after reset (the spec's reset column; zero where nothing else is stated).
A register that exists once for each agent has the key (agent + 1) × 2^32 + address. -/
def regReset (k : Nat) : W32 :=
  let a := k % 0x100000000
  if a = 0x0 then 0x6408b000#32
  else if a = 0x40014 then 0x00000200#32
  else if a = 0x160004 then 0x00000001#32
  else if a = 0x3002c then 0x000000ff#32
  else if a = 0x60004 then 0x00025aaf#32
  else if a = 0x60008 then 0x00000004#32
  else if a = 0x60100 then 0x00000040#32
  else if a = 0x70008 then 0x0e000001#32
  else if a = 0x80014 then 0x00000001#32
  else if inArr a 0x80060 0x4 6 = true then 0x00000001#32
  else if inArr a 0x80080 0x4 8 = true then 0x00000001#32
  else if a = 0x800bc then 0x0000ffff#32
  else if a = 0x90020 then 0x0000ffff#32
  else if inArr a 0x90110 0x4 10 = true then 0x000000ff#32
  else if a = 0x90190 then 0x0000ffff#32
  else if a = 0xa0000 then 0x01904003#32
  else if inArr a 0xa0118 0x20 16 = true then 0x007fffff#32
  else if inArr a 0xb0008 0x10 2 = true then 0x00000063#32
  else if inArr a 0xb100c 0x800 8 = true then 0x000000c0#32
  else if inArr a 0xc0000 0x400 2 = true then 0xffff0800#32
  else if inArr a 0xc0010 0x400 2 = true then 0x00000fa0#32
  else if inArr a 0xc0014 0x400 2 = true then 0x00003e80#32
  else if inArr a 0xc0018 0x400 2 = true then 0x0000fa00#32
  else if inArr a 0xc002c 0x400 2 = true then 0x00000020#32
  else if inArr a 0xc0034 0x400 2 = true then 0x00001000#32
  else if inArr a 0xd1800 0x4 32 = true then 0x0000ffff#32
  else if a = 0xe0030 then 0x00000064#32
  else if inArr a 0xf0008 0x20 64 = true then 0x00000100#32
  else if inArr a 0x100034 0x40 16 = true then 0x7fffffff#32
  else if inArr a 0x11001c 0x40 24 = true then 0x00000040#32
  else if inArr a 0x120d00 0x4 4 = true then 0x0003e800#32
  else if a = 0x10040 then 0x01000000#32
  else if a = 0x10044 then 0x000001f4#32
  else if a = 0x10050 then 0x03840258#32
  else if a = 0x10054 then 0x03200320#32
  else if a = 0x20034 then 0x02bc786e#32
  else if a = 0x80000070 then 0x00000064#32
  else 0#32

end Sys2Proof.Machine
end

