-- ==== Sys2Proof/Machine/Map.lean ====
section
/-! DEFINITION. Sparse maps: a list of (key, value) pairs in one canonical form. Keys rise strictly, and no entry
equals what an unlisted key reads as, so that equal maps are equal lists. -/

namespace Sys2Proof.Machine

/-- A sparse map from numbers. -/
abbrev SMap (α : Type) := List (Nat × α)

/-- The value of key `k`; an unlisted key reads `d k`. -/
def SMap.get {α : Type} (d : Nat → α) (m : SMap α) (k : Nat) : α :=
  match m with
  | [] => d k
  | (j, v) :: rest => if j = k then v else SMap.get d rest k

/-- Every entry but those of key `k`. -/
def SMap.erase {α : Type} (m : SMap α) (k : Nat) : SMap α :=
  match m with
  | [] => []
  | (j, v) :: rest => if j = k then SMap.erase rest k else (j, v) :: SMap.erase rest k

/-- Place (k, v) before the first larger key. -/
def SMap.place {α : Type} (m : SMap α) (k : Nat) (v : α) : SMap α :=
  match m with
  | [] => [(k, v)]
  | (j, u) :: rest => if k < j then (k, v) :: (j, u) :: rest else (j, u) :: SMap.place rest k v

/-- The map with key `k` holding `v`; a value equal to the unlisted one removes the entry. -/
def SMap.set {α : Type} [DecidableEq α] (d : Nat → α) (m : SMap α) (k : Nat) (v : α) : SMap α :=
  if v = d k then SMap.erase m k else SMap.place (SMap.erase m k) k v

/-- Keys rise strictly from above `lo`, and no entry equals the unlisted value. -/
def SMap.wfFrom {α : Type} [DecidableEq α] (d : Nat → α) (lo : Nat) (m : SMap α) : Bool :=
  match m with
  | [] => true
  | (j, v) :: rest => decide (lo ≤ j) && decide (v ≠ d j) && SMap.wfFrom d (j + 1) rest

/-- The canonical form. -/
def SMap.wf {α : Type} [DecidableEq α] (d : Nat → α) (m : SMap α) : Bool :=
  SMap.wfFrom d 0 m

/-- The keys whose entry satisfies `p`, in ascending order. -/
def SMap.keysWhere {α : Type} (p : Nat → α → Bool) (m : SMap α) : List Nat :=
  match m with
  | [] => []
  | (j, v) :: rest => if p j v then j :: SMap.keysWhere p rest else SMap.keysWhere p rest

end Sys2Proof.Machine
end

