-- ==== Sys2Proof/Machine/State.lean ====
section
/-! DEFINITION. The state of the block: every register, queue, table, memory and mode the spec gives it, as plain data,
with the queue of waiting commands, and the state right after reset. -/

namespace Sys2Proof.Machine

/-! ### Status codes (Table 0-5) -/

/-- The status codes of Table 0-5. -/
inductive Status where
  | ok | delayed | refusedCapacity | refusedRights | refusedSecure | refusedNotReady | refusedRange
  | staleGeneration | staleEpoch | abandoned | noEntropy | healthFail | stomped | unitRefused | windowDouble
  | zeroLength | timeout
  deriving DecidableEq, Repr

/-! ### Tokens, threads and slots (chapters 06 to 09) -/

/-- A token of the matching store: a value and a status; `turn` marks a turn token (R111). -/
structure Token where
  value : W32
  status : Status
  turn : Bool
  deriving DecidableEq, Repr

/-- Where a result of an instruction goes: a physical register, bits of flags, or a special register (Table 8-1). -/
inductive WTarget where
  | reg (p : Nat)
  | flags (mask : W32)
  | wcur
  | wlive
  | rsp
  deriving DecidableEq, Repr

/-- A write that has not landed yet (R215). -/
structure PWrite where
  tgt : WTarget
  val : W32
  deriving DecidableEq, Repr

/-- What a wrongly predicted branch leaves for its shadow (R219, R220): where the resolved path goes (`none` where it goes
outside I-space), the branch's own address and its raw target. -/
structure Shadow where
  target : Option W32
  pcB : W32
  raw : W32
  deriving DecidableEq, Repr

/-- A submission to the helper cluster that waits to be accepted (R230, R231). -/
inductive UnitReq where
  | lkup (table : Nat) (key : List Byte) (tag : Nat)
  | sprd (req : List Byte) (tag : Nat)
  deriving DecidableEq, Repr

/-- A held slot (section 6.1): the writes that land when the hold ends, or a submission not yet accepted; the address and
SIZE code of a load from outside the core, whether that load was poisoned (R428), and whether a helper cluster serves the hold. -/
structure Hold where
  writes : List PWrite
  submit : Option UnitReq
  addr : Option (W32 × Nat)
  poisoned : Bool
  cluster : Bool
  deriving DecidableEq, Repr

/-- A posted store in a slot's store queue (section 6.5): memory key of the first byte and the bytes. -/
structure PStore where
  key : Nat
  bytes : List Byte
  deriving DecidableEq, Repr

/-- A request in a slot's 2-entry request queue (R256): a record address, a handle with the requester and a reply tag, or a
timer's tag and delay. -/
inductive LkReq where
  | create (addr : W32)
  | abort (thread : Nat) (handle : Nat) (tag : Nat)
  | timer (tag : Nat) (delay : Nat)
  deriving DecidableEq, Repr

/-- The thread register set (section 6.2). Physical registers: rotating window `n` has its locals w0–w7 at
`12 n` to `12 n + 7` and its outgoing w12–w15 at `12 n + 8` to `12 n + 11`; its w8–w11 are the outgoing registers
of window `n - 1` (R148). T has 48 to 63 (R149), and g1–g7 lie at 65 to 71. -/
structure Ctx where
  regs : SMap W32
  pc : W32
  win : BitVec 2
  inT : Bool
  wlive : BitVec 4
  rsTrap : Bool
  rs : List W32
  flags : W32
  deriving DecidableEq, Repr

/-- One hardware thread slot with its core-local ports (chapters 05, 06, 08, 09, 20). -/
structure Slot where
  thread : Option Nat
  ctx : Ctx
  late : List PWrite
  shadow : Option Shadow
  held : Option Hold
  stores : List PStore
  reqs : List LkReq
  sendBuf : W32
  waitTmo : W32
  tmTag : Option Nat
  tokval : List W32
  tokstat : W32
  wake : W32
  faultAddr : W32
  faultInfo : W32
  faultPc : W32
  dcCount : W32
  winsel : BitVec 2
  unitDetail : W32
  unitArg : W32
  rngTmo : W32
  halted : Bool
  stepOne : Bool
  saveWait : Bool
  deriving DecidableEq, Repr

/-- Where a software thread stands (section 9.2 to 9.4). -/
inductive ThState where
  | free
  | waiting
  | ready
  | running (slot : Nat)
  | exiting (status : Status) (value : Nat)
  deriving DecidableEq, Repr

/-- A software thread as the lockkeeper keeps it (section 9.3): number 0 to 2047 for the flight, 2048 to 2063 for the
warden (Table 20-2). `ctx` is the state written back at its last block (R263, R270); `waitTmo` is a LK_WAITTMO that no WAIT has
consumed, and `nextPrio` a PRIO for the next match (R260, R266). -/
structure Thread where
  st : ThState
  gen : BitVec 5
  program : Nat
  prio : Nat
  floor : Nat
  stand : List Nat
  standTmo : Nat
  exitTag : Nat
  waitSet : List Nat
  waitSeq : Nat
  deadline : Option Nat
  tokens : List Token
  nTags : Nat
  timedOut : Bool
  rollback : Bool
  ostat : Status
  frame : Option Nat
  pins : List Nat
  ctx : Ctx
  waitTmo : W32
  nextPrio : Option Nat
  deriving DecidableEq, Repr

/-- An armed timer (R268). -/
structure Timer where
  tag : Nat
  deadline : Nat
  deriving DecidableEq, Repr

/-- What holds a context line (R275). -/
inductive LineHold where
  | demand (thread : Nat)
  | prefetch (cycle : W32)
  deriving DecidableEq, Repr

/-- A line of the partner half of the context cache (R275): the oldest use stands first in the list of lines. `used` says
that a thread has matched its context since its prefetch hold began (R278). -/
structure Line where
  ctx : Nat
  pins : Nat
  holds : List LineHold
  dirty : Bool
  used : Bool
  deriving DecidableEq, Repr

/-- A pager miss (R276, R277). -/
structure Miss where
  ctx : Nat
  hold : LineHold
  deriving DecidableEq, Repr

/-- The return of a core that is being prepared (R272). -/
structure CoreReturn where
  core : Nat
  state : Nat
  deriving DecidableEq, Repr

/-- The lockkeeper (chapter 09). Tags of the warden's own matching store are numbered from 0x1_0000 (Table 20-2). -/
structure Lk where
  toks : SMap (List Token)
  reserved : Nat
  wReserved : Nat
  threads : SMap Thread
  ready : List Nat
  seq : Nat
  timers : List Timer
  lines : List Line
  misses : List Miss
  missQ : List Miss
  ret : Option CoreReturn
  retQ : List Nat
  deriving DecidableEq, Repr

/-! ### The shape image in effect (chapter 02) -/

/-- A pound entry of FABRIC (Table 2-6). -/
structure PoundCfg where
  pound : Nat
  control : Bool
  program : Nat
  dramWin : Nat
  regMask : W32
  cores : BitVec 64
  route : List Nat
  prioBase : Nat
  deriving DecidableEq, Repr

/-- FABRIC (Table 2-5). -/
structure Fabric where
  pounds : List PoundCfg
  entry : List Nat
  period : Nat
  deriving DecidableEq, Repr

/-- A pool of MEMORY: SIZE and COUNT (Table 2-7). -/
structure PoolCfg where
  size : Nat
  count : Nat
  deriving DecidableEq, Repr

/-- An owner entry of MEMORY (Table 2-7). -/
structure OwnerCfg where
  agent : Nat
  poolMask : BitVec 8
  ceiling : List Nat
  deriving DecidableEq, Repr

/-- A shared-SRAM region (Table 2-7). -/
structure SRegion where
  base : Nat
  length : Nat
  kind : Nat
  read : BitVec 16
  write : BitVec 16
  deriving DecidableEq, Repr

/-- A DRAM region (Table 2-7); BASE and LENGTH in MiB. -/
structure DRegion where
  channel : Nat
  ecc : Bool
  secure : Bool
  tenantVisible : Bool
  cls : Nat
  kind : Nat
  base : Nat
  length : Nat
  deriving DecidableEq, Repr

/-- MEMORY (Table 2-7). -/
structure MemCfg where
  pools : List PoolCfg
  cells : Nat
  berths : Nat
  berthSize : Nat
  densA : Nat
  densB : Nat
  owners : List OwnerCfg
  sregions : List SRegion
  dregions : List DRegion
  deriving DecidableEq, Repr

/-- A TABLES entry (Table 2-8). -/
structure TableCfg where
  size : Nat
  seedA : W32
  seedB : W32
  policy : Nat
  age : Nat
  deriving DecidableEq, Repr

/-- A PORTS entry (Table 2-9). -/
structure PortCfg where
  mode : Nat
  speed : Nat
  preempt : Bool
  pauseC3 : Bool
  stamp : Bool
  mdio : Nat
  phy : Nat
  maxFrame : Nat
  pcpMap : W32
  pvid : Nat
  deriving DecidableEq, Repr

/-- A PROGRAMS entry with its images (Table 2-10). -/
structure ProgCfg where
  index : Nat
  level : Nat
  entry : Nat
  iimage : List Byte
  dimage : List Byte
  crc : W32
  deriving DecidableEq, Repr

/-- A channel entry of SHIFT. -/
structure ShiftCh where
  enable : Bool
  entry : Nat
  stall : Nat
  deriving DecidableEq, Repr

/-- SHIFT. -/
structure ShiftCfg where
  vfio : Nat
  channels : List ShiftCh
  code : List W64
  deriving DecidableEq, Repr

/-- POWER. `domains` holds 2 bits for each domain. -/
structure PowerCfg where
  deadline : Nat
  margin : Nat
  vcInit : Nat
  vcMin : Nat
  vcMax : Nat
  domains : List Nat
  deriving DecidableEq, Repr

/-- A TENANTS entry. -/
structure TenantCfg where
  present : Bool
  qpairs : Nat
  vbase : Nat
  vcount : Nat
  dregion : Nat
  semGroups : W32
  deriving DecidableEq, Repr

/-- SECURE after decryption. -/
structure SecureCfg where
  ssBase : Nat
  ssLen : Nat
  sdregion : Nat
  holdPd : List W32
  holdCk : W32
  semGroups : W32
  routes : List W32
  wardenI : List Byte
  wardenD : List Byte
  deriving DecidableEq, Repr

/-! ### Cores, the timebase, events and the flight (chapters 03 to 06, 19) -/

/-- The state of a lock core in the fabric (sections 2.4, 6, 9.6). -/
inductive CoreSt where
  | spare | member | shadow | quarantined
  deriving DecidableEq, Repr

/-- A lock core: its state, the pound entry it serves, and, during a live reshape, whether it joins or leaves. -/
structure Core where
  st : CoreSt
  cfg : Option PoundCfg
  joins : Option PoundCfg
  leaves : Bool
  deriving DecidableEq, Repr

/-- A write or an arm held in the turn fence (R106). -/
inductive Held where
  | write (ag : Agent) (addr : Nat) (v : W32)
  | hwArm (group : Nat)
  deriving DecidableEq, Repr

/-- The timebase and the cycle timer (chapter 04). `acc` is the rate accumulator in units of 2^-40 ns (R86);
`prevStart` is the start of
the cycle before; `started` and `cycRun` say whether CK00 runs (S11) and whether cycle 0 has begun (R92). -/
structure Tb where
  started : Bool
  now : W64
  acc : Int
  skipDue : Bool
  timer : Bool
  cycRun : Bool
  cycStart : W64
  prevStart : W64
  cycLen : Nat
  fence : Bool
  held : List Held
  deriving DecidableEq, Repr

/-- The event router (chapter 19): tokens being retried with their values (R541), sources delivered in this cycle
(R539), and EVTOUT pulses with their end times (R551). -/
structure Evr where
  retry : List (Nat × W32)
  delivered : List Nat
  pulse : SMap (Option Nat)
  deriving DecidableEq, Repr

/-- The frame record of a ticket (Table 5-1). -/
structure FrameRec where
  port : Nat
  cls : Nat
  runahead : Bool
  fcsDone : Bool
  fcsBad : Bool
  stomp : Bool
  tagged : Bool
  redispatched : Bool
  standing : Bool
  seq : BitVec 16
  len : Nat
  buf : W32
  admitAt : W64
  res : List W32
  epoch : List (BitVec 16)
  lk : List Nat
  hostq : Byte
  egress : BitVec 16
  queue : Nat
  lastPound : Nat
  verdict : W32
  vlan : BitVec 16
  etype : BitVec 16
  l3off : Nat
  scratch : List W32
  deriving DecidableEq, Repr

/-- What a T0 source lookup left with a frame (R334): a learn request, or a refresh, of a key. -/
structure Learn where
  key : List Byte
  port : Nat
  refresh : Bool
  deriving DecidableEq, Repr

/-- A frame in flight: its record and what the flight keeps beside it. `wire` is the whole frame, FCS included, and
`t0` the time of its first byte; `checking` says that its FCS has arrived and an inbound check is still due (R357); `shared` says that its ticket came from the shared ones (R116); `pound` is the pound it waits in or was taken
from and `prevPound` the LAST_POUND before; `fab` numbers the fabric that serves it; `first` says that no verdict has
been committed; `ahead` that run-ahead was granted (R135); `gen` its domain's generation (R131) and `ord` its place in
admission order; `hold` the start of a token hold (R118); `eg` its entry among the released frames; `early`
says that the host DMA holds the ticket and the frame is not admitted yet (R476). -/
structure Frame where
  fr : FrameRec
  wire : List Byte
  t0 : Nat
  checking : Bool
  shared : Bool
  admitCycle : W32
  pound : Option Nat
  prevPound : Nat
  fab : Nat
  first : Bool
  complete : Bool
  ahead : Bool
  released : Bool
  gen : Nat
  ord : Nat
  hold : Option Nat
  learn : Option Learn
  eg : Option Nat
  early : Bool
  deriving DecidableEq, Repr

/-- A released frame at the egress (R126, R139): `ports` have not finished with it, `begun` have started it; `owned`
says that its buffer is freed after the last of them; `toHost` that the host still waits for it; `stomp` that it ends
with an inverted FCS; `desc` the descriptor of a barge. -/
structure EgFrame where
  ticket : Option Nat
  buf : Nat
  len : Nat
  fin : Bool
  cls : Nat
  queue : Nat
  ports : BitVec 16
  begun : BitVec 16
  stomp : Bool
  owned : Bool
  toHost : Bool
  tkt : Nat
  inPort : Nat
  hostq : Nat
  deriving DecidableEq, Repr

/-- A frame in a port's ingress FIFO, or still being received (R117, R371): `bytes` is the whole frame as it will
arrive, `fin` says that its last byte has, `ticket` is set once it is admitted, `gone`
once it has been dropped, and `t0` is the time of its first byte. -/
structure RxFrame where
  bytes : List Byte
  cls : Nat
  ticket : Option Nat
  gone : Bool
  fin : Bool
  t0 : Nat
  deriving DecidableEq, Repr

/-- A frame that a port has sent: port, bytes from the destination address, and whether its FCS was valid. -/
structure WireOut where
  port : Nat
  bytes : List Byte
  good : Bool
  deriving DecidableEq, Repr

/-- The flight (chapter 05). `rx` is the ingress FIFO of each port, `seqNext` the next SEQ of each order domain, `gen`
the generation of each port's domains, `eg` the released frames, `sent` what the ports have sent, oldest first, `fabGen`
numbers the fabrics, `logCells` are the cells of the drop log and `logBase` the first record that can still be in
it. -/
structure Flt where
  frames : SMap (Option Frame)
  rx : SMap (List RxFrame)
  seqNext : SMap (BitVec 16)
  gen : SMap Nat
  ordNext : Nat
  eg : SMap (Option EgFrame)
  egNext : Nat
  sent : List WireOut
  fabGen : Nat
  logCells : List Nat
  logBase : Nat
  deriving DecidableEq, Repr

/-- What the last command answered to its sender; `unsupported` says that the access completed as Unsupported Request and
`retry` that it completed with Configuration Request Retry Status
(R456). -/
structure Reply where
  status : Status
  value : W64
  unsupported : Bool
  retry : Bool
  deriving DecidableEq, Repr

/-- The MSI-X table and what the router sent on it (R486, R542): enable, function mask, vectors unmasked and pending,
and the messages sent, oldest first. -/
structure Msix where
  enable : Bool
  fmask : Bool
  unmasked : SMap Bool
  pend : SMap Bool
  sent : List Nat
  deriving DecidableEq, Repr

/-- A delta image on its way (section 2.4): where it lies and what it parsed to. -/
structure Delta where
  addr : Nat
  len : Nat
  fabric : Option Fabric
  programs : Option (List ProgCfg)
  owners : Option (List OwnerCfg)
  events : Option (List W32)
  power : Option PowerCfg
  secver : W32
  build : W32
  digest : BitVec 256
  deriving DecidableEq, Repr

/-- The shape in effect (chapter 02). `old` is the fabric that frames admitted before turn A still follow, `drain` the
turns left of R62, `slot` the cycle of turn A. -/
structure Shp where
  fabric : Fabric
  old : Option Fabric
  memory : MemCfg
  tables : List TableCfg
  ports : List PortCfg
  programs : List ProgCfg
  oldPrograms : List ProgCfg
  shift : ShiftCfg
  power : PowerCfg
  mgrVectors : Nat
  tenants : List TenantCfg
  secure : SecureCfg
  digest : BitVec 256
  loaded : Bool
  full : Bool
  delta : Option Delta
  turnA : W32
  lockBase : Nat
  lockLen : Nat
  deriving DecidableEq, Repr

/-! ### DRAM, semaphores (chapters 14, 15) -/

/-- A DRAM request in a channel queue (section 14.3). `addr` is the channel byte address; `locked` marks the locked pair
of an atomic operation (R411). -/
structure DramReq where
  agent : Agent
  cls : Nat
  addr : Nat
  len : Nat
  write : Bool
  locked : Bool
  entry : Nat
  promoted : Bool
  deriving DecidableEq, Repr

/-- A DRAM channel (chapter 14). Open `rows` and refresh `debt` are kept by rank × 8 + bank; `epoch` counts the losses
of each rank × 8 + segment; `mask` is the segment mask that the last CMD ENTER latched. -/
structure DramCh where
  queue : List DramReq
  waiting : List DramReq
  active : List DramReq
  hits : Nat
  rows : SMap (Option Nat)
  debt : SMap Nat
  fills : List Nat
  poison : List Nat
  epoch : SMap Nat
  zq : Bool
  idleSince : Nat
  entering : Bool
  exiting : Bool
  mask : Nat
  scrubPos : Nat
  deriving DecidableEq, Repr

/-- A token whose post was refused and is retried every 1 µs: what it belongs to, the tag, the value and the status, and
whether a retry has been made. -/
structure Retry where
  src : Nat
  tag : Nat
  value : W32
  status : Status
  retried : Bool
  deriving DecidableEq, Repr

/-- The semaphore and atomic unit beside its registers: watch tokens being retried (R449). -/
structure Sau where
  retry : List Retry
  deriving DecidableEq, Repr

/-! ### The basin (chapter 10) -/

/-- A FILL copy in progress (R307): its slot, the buffer's pointer and pool, the completion tag and the agent; `cancelled`
by a RECLAIM. -/
structure FillCopy where
  slot : Nat
  ptr : Nat
  pool : Nat
  tag : Nat
  agent : Agent
  cancelled : Bool
  deriving DecidableEq, Repr

/-- The basin. A free stack is the pointers that were freed, newest first, above the elements never taken yet, from
number `fresh` upwards (R284). `tags`, `links` and `heads` are kept by pointer (R285); `spillRec` gives the owner entry
and pool of each held spill slot (R306); `returning` is the cells of freed chains still to be pushed (R299). -/
structure Bsn where
  freed : SMap (List Nat)
  fresh : SMap Nat
  tags : SMap Nat
  links : SMap Nat
  heads : SMap Bool
  returning : List Nat
  cellCeil : SMap Nat
  spillFreed : List Nat
  spillFresh : Nat
  spillRec : SMap (Option (Nat × Nat))
  spills : List (Nat × Nat)
  fills : List FillCopy
  retry : List Retry
  deriving DecidableEq, Repr

/-! ### The exact-match tables (chapter 11) -/

/-- A queued table command with its staging registers (R324). -/
structure TblCmd where
  op : Nat
  table : Nat
  key : List Byte
  res : W32
  aux0 : W32
  aux1 : W32
  agent : Agent
  seq : Nat
  token : Bool
  tag : Nat
  deriving DecidableEq, Repr

/-- A FENCE in progress (R331): the tickets it still waits for, its command, or for an internal FENCE the partner IDs
that cool behind it (R333). -/
structure Fence where
  tickets : List Nat
  cmd : Option TblCmd
  ids : List Nat
  deriving DecidableEq, Repr

/-- A partner ID that cools: turns since its deletion, and whether its FENCE has completed (R333). -/
structure Cooling where
  id : Nat
  turns : Nat
  fenced : Bool
  deriving DecidableEq, Repr

/-- A rehash in progress: its table, target seeds and command (R339). -/
structure Rehash where
  table : Nat
  seedA : W32
  seedB : W32
  cmd : TblCmd
  deriving DecidableEq, Repr

/-- The table engine beside its registers and table SRAM: the command queue, the next sequence number, the FENCEs, the
partner-ID map (0 free, 1 in use; cooling IDs stand in `cooling`), the rehashes, the learn queue and the tokens being
retried. -/
structure Tbl where
  queue : List TblCmd
  seq : Nat
  fences : List Fence
  used : List Nat
  cooling : List Cooling
  rehash : List Rehash
  learn : List Learn
  retry : List Retry
  deriving DecidableEq, Repr

/-! ### The Ethernet ports (chapter 13) -/

/-- A transmission in progress: the egress entry, its queue, the time of the first byte of the current
fragment and of the frame, and the
bytes that earlier fragments carried. -/
structure Sending where
  eg : Nat
  queue : Nat
  t0 : Nat
  first : Nat
  sent : Nat
  deriving DecidableEq, Repr

/-- A port beside its registers: the egress queues, the frame being sent, a preempted remainder, the hold of R389, the
end of a pause (R377), the start of the link-up count (R400) and whether the port waits for group 19, the verify frames
sent (R385), whether an MDIO or assembly fault is under way, and the stamp FIFO. -/
structure PortSt where
  queues : SMap (List Nat)
  sending : Option Sending
  cut : Option Sending
  hold : Bool
  pauseEnd : Option Nat
  upSince : Option Nat
  returning : Bool
  verify : Nat
  stamps : List (List W32)
  deriving DecidableEq, Repr

/-- An MDIO transaction in progress (R397): the command word. -/
structure Mdio where
  cmd : W32
  deriving DecidableEq, Repr

/-- The ports: 0 to 7, and 8 for the host's stamps; the two MDIO buses. -/
structure Prt where
  ports : SMap PortSt
  mdio : SMap (Option Mdio)
  deriving DecidableEq, Repr

/-! ### Barges and partners (chapter 12) -/

/-- A partner directory entry (section 12.6): state 0 free, 1 JOINING, 2 ACTIVE, 3 LEAVING; `sa` is its source address;
`join` the first cycle of its binding; `present` whether it is present in the current cycle (R358). -/
structure Partner where
  st : Nat
  port : Nat
  sa : List Byte
  expect : Bool
  bind : Option (Nat × Nat)
  oseq : Nat
  loss : Nat
  join : W32
  present : Bool
  cookie : Nat
  deriving DecidableEq, Repr

/-- A binding change that waits for group 15: partner, binding, EXPECT, and whether the entry is released (R362). -/
structure BindChange where
  pid : Nat
  bind : Option (Nat × Nat)
  expect : Bool
  release : Bool
  deriving DecidableEq, Repr

/-- The content of a cargo slot as last sent (R344, R354). -/
structure Cargo where
  pid : Nat
  len : Nat
  seq : Nat
  coded : Bool
  bytes : List Byte
  deriving DecidableEq, Repr

/-- A commit whose context copy has not ended (R353). -/
structure Commit where
  agent : Agent
  word : W32
  deriving DecidableEq, Repr

/-- An outbound descriptor in the current cycle: its berth, whether it wants one, whether it is enabled in this cycle,
whether it has sealed, the slots committed since the turn, and the berth of the next cycle with whether one is wanted. -/
structure OutBarge where
  berth : Option Nat
  want : Bool
  live : Bool
  sealed : Bool
  fresh : List Nat
  next : Option Nat
  wantNext : Bool
  deriving DecidableEq, Repr

/-- The barge engine beside its registers. `freeIds` is the free-ID stack, top first (R361), `bseq`
the next BSEQ of each descriptor, `cargo` is kept by slot-table entry. -/
structure Brg where
  dir : SMap Partner
  freeIds : List Nat
  changes : List BindChange
  heldChanges : List BindChange
  cargo : SMap (Option Cargo)
  out : SMap OutBarge
  commits : List Commit
  closed : List Nat
  bseq : SMap Nat
  deriving DecidableEq, Repr

/-! ### The secure world (chapter 20) -/

/-- What a SIGN in progress signs: d, the digest, and where the signature goes in D-space (Table 20-4). -/
structure SignReq where
  d : BitVec 256
  digest : BitVec 256
  dst : Nat
  deriving DecidableEq, Repr

/-- A request for random words (R575): kind 0 RNG_REQ, 1 mailbox RANDOM, 2 GENERATE, 3 SIGN; its agent, tag, words and the
instant of its timeout. -/
structure RngReq where
  kind : Nat
  agent : Agent
  tag : Nat
  words : Nat
  deadline : Nat
  sign : Option SignReq
  deriving DecidableEq, Repr

/-- The security island beside its registers: KEY of the key register (R559), the root secret of the battery domain with
its CRC (R567), the random queue and the words drawn from the DRBG (R575), the end of the watchdog period, 0 before S19, and
whether one has expired (R579, R580), the instant at which a pending mailbox request times out (R583), the nonce of
CHALLENGE with its end (R588), and a tamper detection made without VIN whose events are still due (R571). -/
structure Sec where
  key : BitVec 256
  root : BitVec 256
  rootCrc : W32
  queue : List RngReq
  drawn : Nat
  wdEnd : Nat
  wdExpired : Bool
  mboxEnd : Nat
  nonce : Option (BitVec 128 × Nat)
  lateTamper : Bool
  deriving DecidableEq, Repr


/-! ### Power (chapter 22) -/

/-- A domain switch that has begun or waits (R615): its domain, the state it leaves and the state it goes to. -/
structure PdSwitch where
  dom : Nat
  was : Nat
  target : Nat
  deriving DecidableEq, Repr

/-- Power beside its registers: the switches in request order, the calibration table D[t][v] at 64 t + v / 10 mV - 60
(R617), whether the governor has decided in this cycle (R618), the conditions of R623, whether a thermal shutdown holds
the device (R624), and the lane groups that still recalibrate (R614). -/
structure Pwr where
  queue : List PdSwitch
  cal : SMap Nat
  decided : Bool
  warned : Bool
  throttled : Bool
  shut : Bool
  laneWait : List Nat
  deriving DecidableEq, Repr


/-! ### The helper clusters (section 8.4) -/

/-- A lookup outstanding in a helper cluster (R230): its quadrant, table, key and result tag. -/
structure LkupOut where
  quad : Nat
  table : Nat
  key : List Byte
  tag : Nat
  deriving DecidableEq, Repr

/-- A predictor request accepted by a helper cluster (R231): its quadrant, the 32-byte request, the tag and the agent. -/
structure SprdOut where
  quad : Nat
  req : List Byte
  tag : Nat
  agent : Agent
  deriving DecidableEq, Repr

/-- The requests that the helper clusters have accepted and not answered. -/
structure Uni where
  lookups : List LkupOut
  preds : List SprdOut
  deriving DecidableEq, Repr


/-! ### The host link, tenants and queue pairs (chapter 16) -/

/-- A host window of a tenant: BASE, LENGTH and FLAGS, bit 0 EN, bit 1 DEV_READ, bit 2 DEV_WRITE (Table 16-5). -/
structure HostWin where
  base : Nat
  len : Nat
  flags : Nat
  deriving DecidableEq, Repr

/-- Where a started descriptor stands: a TX waits for a ticket or buffer since an instant, a TX is being read under a ticket
into a buffer, a TX has been admitted under a ticket with its place in admission order (`late` says that it waited), or
the descriptor has its status and the bytes it moved (R472, R475, R476). -/
inductive DescSt where
  | txWait (since : Nat)
  | txRead (ticket : Nat) (shared : Bool) (buf : Nat) (late : Bool)
  | txSent (ticket ord : Nat) (late : Bool)
  | done (st : Status) (moved : Nat)
  deriving DecidableEq, Repr

/-- A started descriptor whose completion is not written yet (Table 16-8). `dram` is the channel and byte of a copy. -/
structure Desc where
  cid : Nat
  gen : Nat
  len : Nat
  haddr : Nat
  aux : Nat
  sqhead : Nat
  promoted : Bool
  dram : Option (Nat × Nat)
  st : DescSt
  deriving DecidableEq, Repr

/-- A posted RX or RECV buffer (Table 16-9). -/
structure RxBuf where
  cid : Nat
  gen : Nat
  len : Nat
  haddr : Nat
  sqhead : Nat
  deriving DecidableEq, Repr

/-- A released frame that waits for an RX buffer: its egress entry and the RESULT words of its completion (R477). -/
structure HostFrame where
  eg : Nat
  result : List W32
  deriving DecidableEq, Repr

/-- A completion to write (Table 16-10). -/
structure Cpl where
  cid : Nat
  status : Status
  notice : Bool
  promoted : Bool
  gen : Nat
  sqhead : Nat
  len : Nat
  result : List W32
  deriving DecidableEq, Repr

/-- A queue pair. `sqHead` is the device's SQ head, `cqTail` the next CQ entry it writes with PHASE `phase`, `unread` the
entries the tenant has not freed, `prog` the descriptors started and not completed, `posted` the RX or RECV buffers,
`fifo` the frames that wait (R477) and `filled` the completions of accepted POSTs, each with the data that could not be written yet and its address (R480,
R456). -/
structure Qp where
  frame : Bool
  vector : Nat
  msgtag : Nat
  fwowner : Nat
  sqBase : Nat
  cqBase : Nat
  sqSize : Nat
  cqSize : Nat
  sqHead : Nat
  cqTail : Nat
  phase : Bool
  unread : Nat
  prog : List Desc
  posted : List RxBuf
  fifo : List HostFrame
  filled : List (Cpl × Nat × List Byte)
  deriving DecidableEq, Repr

/-- A tenant beside its registers: its 8 host windows, its queue pairs, and the resets under way, oldest first: `true` is
one that the mailbox asked for (R481). -/
structure Tenant where
  wins : List HostWin
  qps : SMap (Option Qp)
  resets : List Bool
  deriving DecidableEq, Repr

/-- The host link beside its registers: Bus Master and Memory Space Enable (R456), a mailbox entry that could not be read and
waits for the next TNT_MDB write, a command in progress (R463), and a function level reset in progress (R489). -/
structure Tnt where
  tenants : SMap Tenant
  busMaster : Bool
  memSpace : Bool
  stopped : Bool
  busy : Bool
  flr : Bool
  deriving DecidableEq, Repr



/-! ### Fulling, strobes and captures (chapter 17) -/

/-- A chunk of a stream: its configuration (FUL_SCFGs and FUL_SOWNs when it opened), header fields, payload bits, the
reference of the next code (R499, R500), and for DECIMATE the block in progress: the code of its first sample, that sample, its
minimum, its maximum and its samples (R501). `closed` is its place in the order of closing (R506). -/
structure Chunk where
  cfg : W32
  own : W32
  seq : W32
  first : W64
  last : W64
  count : Nat
  cycle : W32
  code : List Bool
  escapes : Nat
  ref : Int
  blkCode : List Bool
  blkFirst : Int
  blkMin : Int
  blkMax : Int
  blkLen : Nat
  closed : Nat
  deriving DecidableEq, Repr

/-- A stream beside its registers: the chunk that fills, the closed chunk in the other staging buffer, and whether a chunk was
dropped since the last one written (R503). -/
structure Stream where
  fill : Option Chunk
  out : Option Chunk
  gap : Bool
  deriving DecidableEq, Repr

/-- A chunk token whose post was refused (R504): stream, tag, value, the OWNER of the chain, and whether a retry has been
made. -/
structure ChunkTok where
  stream : Nat
  tag : Nat
  value : W32
  owner : Nat
  retried : Bool
  deriving DecidableEq, Repr

/-- The fulling engine beside its registers. -/
structure Ful where
  streams : SMap Stream
  retry : List ChunkTok
  order : Nat
  deriving DecidableEq, Repr

/-- A pending fire (section 17.4). -/
structure Fire where
  due : W64
  width : Nat
  predicted : Bool
  deriving DecidableEq, Repr

/-- The model of a strobe (R514): P0, V, A and the absolute T0. -/
structure Model where
  p0 : W32
  v : W32
  a : W32
  t0 : Int
  deriving DecidableEq, Repr

/-- A strobe beside its registers: the pending fire, the end of the pulse in progress, and its model. -/
structure Strobe where
  pend : Option Fire
  busy : Option W64
  model : Option Model
  deriving DecidableEq, Repr

/-- A capture input: its accepted level, the edges counted since EDGE was written, and its FIFO (R517, R518). -/
structure Capture where
  level : Bool
  seq : Nat
  fifo : List (List W32)
  deriving DecidableEq, Repr

/-- Strobes and captures. -/
structure Stb where
  strobes : SMap Strobe
  captures : SMap Capture
  deriving DecidableEq, Repr



/-! ### The shift engine (chapter 18) -/

/-- What a channel is doing: stopped, ready to issue its next microinstruction, waiting in YIELD, in a DELAY or WAITT until an
instant, in a WAITE with its pin, edge, deadline and TARGET, in a SHIFT with its word, start, completion and S, or stalled
since an instant on an LDX or a PUSH of a value (R522, R523, R525). -/
inductive ShfMode where
  | stopped
  | ready
  | yielding
  | delay (stop : W64)
  | waitt (stop : W64)
  | waite (pin : Nat) (rise : Bool) (deadline : Option W64) (target : Nat)
  | shifting (word : W64) (start : W64) (stop : W64) (mark : W64)
  | stallTx (since : W64)
  | stallRx (since : W64) (value : W32)
  deriving DecidableEq, Repr

/-- A shift channel beside its registers (section 18.2): X, Y, L, T, S, F, the drivers and levels of its pins, its FIFOs, the
start that is pending and the transfer in progress (LEN and tag), where it runs, and the instant at which its last
microinstruction completed. -/
structure ShfChan where
  x : W32
  y : W32
  l : BitVec 16
  t : W64
  s : W64
  ferr : Bool
  tmo : Bool
  late : Bool
  oe : BitVec 4
  level : BitVec 4
  tx : List W32
  rx : List W32
  pend : Option (Nat × Nat)
  xfer : Option (Nat × Nat)
  pc : Nat
  bank : Nat
  mode : ShfMode
  done : W64
  deriving DecidableEq, Repr

/-- The shift engine beside its registers: the channels, the two banks (bank × 2048 + address), a bank verification in
progress (WORDS and its end), and completion tokens being retried. -/
structure Shf where
  chans : SMap ShfChan
  code : SMap W64
  verify : Option (Nat × W64)
  retry : List Retry
  deriving DecidableEq, Repr




/-! ### Life-cycle, update and the JTAG port (chapters 21, 23) -/

/-- The fuses (chapter 21): the state groups F2 to F6 of three bits each (R584), UNIT_ID, the key-hash slots 0 to 3, all
zero when unprovisioned (R587), and the anti-rollback counter (R602). -/
structure Otp where
  groups : List (BitVec 3)
  uid : Option W64
  keys : List (BitVec 256)
  arb : Nat
  deriving DecidableEq, Repr

/-- A signed request that has passed R589 and is not performed yet (Table 21-3); `tap` says that it came through the debug
TAP (R598). -/
structure LcsReq where
  kind : Nat
  arg : Nat
  duration : Nat
  extra : List Byte
  tap : Bool
  deriving DecidableEq, Repr

/-- Life-cycle and debug beside their registers: the fuses, an accepted request, the debug grant in effect with its end
(R596), the target state of a wipe that is due (R591), and the status bytes that the debug TAP shifts out for REQUEST and
OTP_PROG (Table 23-16). -/
structure Lcs where
  otp : Otp
  accepted : Option LcsReq
  grant : Option (Nat × Nat)
  wipe : Option Nat
  tapStatus : Nat
  otpStatus : Nat
  deriving DecidableEq, Repr

/-- The boundary-scan TAP (R647): the instruction in effect, the boundary register, and what it captured from the pins last; and
the instruction of the debug TAP. -/
structure Jtag where
  scanIr : Nat
  scanReg : BitVec 358
  scanOut : BitVec 358
  debugIr : Nat
  deriving DecidableEq, Repr


/-! ### Bring-up (chapter 3) -/

/-- A failed step (R78): step, cause, DETAIL, and the STEPS word and the reset kind of its start. -/
structure Failure where
  step : Nat
  cause : Nat
  detail : Nat
  steps : W32
  kind : Nat
  deriving DecidableEq, Repr

/-- The start controller beside its registers. `running`: a start is in progress, `step` its last completed step; `limp`;
`held`: PERST# is asserted; `halted` (R83); `l0`: the link has reached L0; `failed`: the step that has failed and whose
restart follows; `early`: a failure held in the always-on domain, and `s07Fails` the count of
consecutive failures at S07 (section 3.4, Edges); `entry`: the flash key of this start's log entry; `bank`: the bank that S08
verified; `fallback` and `quar`: the fallbacks and
quarantines that are kept (R79); `vfsel` and `drspd`: the straps as sampled (R628); `train`: the channels for which training
values are stored; `retry`: RETRY_ALL has been written; `base`: the newest SEQ when it took effect, from which R81 counts;
`bankFail`: the bank that failed in the start before (Table 3-6); `noLog`: S07 failed in this limp start (R83); `fellBack`: a trial fell back
at this S07 (R601). -/
structure Boot where
  running : Bool
  step : Nat
  limp : Bool
  held : Bool
  halted : Bool
  l0 : Bool
  failed : Option Failure
  early : Option Failure
  s07Fails : Nat
  entry : Option Nat
  bank : Option Nat
  fallback : W32
  quar : BitVec 64
  vfsel : Bool
  drspd : Nat
  train : List Nat
  retry : Bool
  base : Option W32
  bankFail : Option Nat
  noLog : Bool
  fellBack : Bool
  deriving DecidableEq, Repr



/-! ### The state -/

/-- The state of the block. -/
structure State where
  regs : SMap W32
  shadow : SMap (Option W32)
  ctr : SMap W64
  latch : SMap W32
  mem : List Host.Cell
  slots : SMap Slot
  cores : SMap Core
  lk : Lk
  tb : Tb
  evr : Evr
  msix : Msix
  shp : Shp
  flt : Flt
  drc : SMap DramCh
  sau : Sau
  bsn : Bsn
  tbl : Tbl
  prt : Prt
  brg : Brg
  sec : Sec
  lcs : Lcs
  jtag : Jtag
  boot : Boot
  pwr : Pwr
  uni : Uni
  tnt : Tnt
  ful : Ful
  shf : Shf
  stb : Stb
  free : Nat
  once : List Nat
  reply : Reply
  pending : List Instr
  deriving DecidableEq, Repr

/-- What stops the machine. No command of the table ends in a fault, so none is declared by the spec. -/
inductive Fault where
  /-- Never raised by a meaning: the spec names no condition that stops the block (safe). -/
  | none
  deriving DecidableEq, Repr

/-- What the model refuses. -/
inductive Refusal where
  /-- Raised by the dispatch for a command without a meaning (safe). -/
  | notModelled (mnemonic : String)
  deriving DecidableEq, Repr

/-- The register set of a new thread (Table 6-3). -/
def Ctx.init : Ctx :=
  { regs := [], pc := 0#32, win := 0#2, inT := false, wlive := 1#4, rsTrap := false, rs := [], flags := 0#32 }

/-- An idle slot. -/
def Slot.init : Slot :=
  { thread := none, ctx := Ctx.init, late := [], shadow := none, held := none, stores := [], reqs := [],
    sendBuf := 0#32, waitTmo := 0#32, tmTag := none, tokval := [0#32, 0#32, 0#32, 0#32], tokstat := 0#32,
    wake := 0#32, faultAddr := 0#32, faultInfo := 0#32, faultPc := 0#32, dcCount := 0#32, winsel := 0#2,
    unitDetail := 0#32, unitArg := 0#32, rngTmo := 0x3E8#32, halted := false, stepOne := false, saveWait := false }

/-- A thread number that is free. -/
def Thread.init : Thread :=
  { st := .free, gen := 0#5, program := 0, prio := 0, floor := 0, stand := [], standTmo := 0, exitTag := 0,
    waitSet := [], waitSeq := 0, deadline := none, tokens := [], nTags := 0, timedOut := false, rollback := false,
    ostat := .ok, frame := none, pins := [], ctx := Ctx.init, waitTmo := 0#32, nextPrio := none }

/-- A core that belongs to no pound (R44). -/
def Core.init : Core := { st := .spare, cfg := none, joins := none, leaves := false }

/-- A DRAM channel with nothing queued. -/
def DramCh.init : DramCh :=
  { queue := [], waiting := [], active := [], hits := 0, rows := [], debt := [], fills := [], poison := [],
    epoch := [], zq := false, idleSince := 0, entering := false, exiting := false, mask := 0,
    scrubPos := 0 }

/-- A stream with nothing staged. -/
def Stream.init : Stream := { fill := none, out := none, gap := false }

/-- A strobe with nothing pending. -/
def Strobe.init : Strobe := { pend := none, busy := none, model := none }

/-- A capture input with no record. -/
def Capture.init : Capture := { level := false, seq := 0, fifo := [] }

/-- A channel that is stopped. -/
def ShfChan.init : ShfChan :=
  { x := 0#32, y := 0#32, l := 0#16, t := 0#64, s := 0#64, ferr := false, tmo := false, late := false, oe := 0#4,
    level := 0#4, tx := [], rx := [], pend := none, xfer := none, pc := 0, bank := 0, mode := .stopped, done := 0#64 }

/-- A host window that is off. -/
def HostWin.off : HostWin := { base := 0, len := 0, flags := 0 }

/-- A tenant without host windows and queue pairs. -/
def Tenant.init : Tenant :=
  { wins := [HostWin.off, HostWin.off, HostWin.off, HostWin.off, HostWin.off, HostWin.off, HostWin.off, HostWin.off],
    qps := [], resets := [] }

/-- A port with nothing queued. -/
def PortSt.init : PortSt :=
  { queues := [], sending := none, cut := none, hold := false, pauseEnd := none, upSince := none, returning := false,
    verify := 0, stamps := [] }

/-- A free partner ID. -/
def Partner.init : Partner :=
  { st := 0, port := 0, sa := [], expect := false, bind := none, oseq := 0, loss := 0, join := 0#32, present := false,
    cookie := 0 }

/-- A descriptor with nothing built. -/
def OutBarge.init : OutBarge := { berth := none, want := false, live := false, sealed := false, fresh := [],
                                  next := none, wantNext := false }

/-- What a byte of memory that nothing has written reads as: 0xFF in the erased flash, a free value in DRAM whose
content was lost (keys from 2^48 to 2^64), 0 elsewhere (assumption 5). -/
def memDefault (k : Nat) : Byte :=
  if k / 0x100000000 = 6 then 0xFF#8
  else if 0x1000000000000 ≤ k ∧ k < 0x10000000000000000 then Config.freeByte (k / 0x1000000000000) k
  else 0#8

/-- The memory is in its canonical form. -/
abbrev Memory.wf (m : List Host.Cell) : Bool := SMap.wf memDefault m

/-- The state right after reset. -/
def State.reset : State :=
  { regs := [], shadow := [], ctr := [], latch := [], mem := [], slots := [], cores := [],
    lk := { toks := [], reserved := 0, wReserved := 0, threads := [], ready := [], seq := 0, timers := [],
            lines := [], misses := [], missQ := [], ret := none, retQ := [] },
    tb := { started := false, now := 0#64, acc := 0, skipDue := false, timer := false, cycRun := false,
            cycStart := 0#64, prevStart := 0#64, cycLen := 0, fence := false, held := [] },
    evr := { retry := [], delivered := [], pulse := [] },
    msix := { enable := false, fmask := false, unmasked := [], pend := [], sent := [] },
    shp := { fabric := { pounds := [], entry := [], period := 0 }, old := none,
             memory := { pools := [], cells := 0, berths := 0, berthSize := 0, densA := 0, densB := 0, owners := [],
                         sregions := [], dregions := [] },
             tables := [], ports := [], programs := [], oldPrograms := [],
             shift := { vfio := 0, channels := [], code := [] },
             power := { deadline := 0, margin := 0, vcInit := 0, vcMin := 0, vcMax := 0, domains := [] },
             mgrVectors := 0, tenants := [],
             secure := { ssBase := 0, ssLen := 0, sdregion := 0, holdPd := [], holdCk := 0#32, semGroups := 0#32,
                         routes := [], wardenI := [], wardenD := [] },
             digest := 0#256, loaded := false, full := false, delta := none, turnA := 0#32, lockBase := 0,
             lockLen := 0 },
    flt := { frames := [], rx := [], seqNext := [], gen := [], ordNext := 0, eg := [], egNext := 0, sent := [],
             fabGen := 0, logCells := [], logBase := 0 },
    tbl := { queue := [], seq := 0, fences := [], used := [], cooling := [], rehash := [], learn := [], retry := [] },
    prt := { ports := [], mdio := [] },
    brg := { dir := [], freeIds := [], changes := [], heldChanges := [], cargo := [], out := [], commits := [],
             closed := [], bseq := [] },
    sec := { key := 0#256, root := 0#256, rootCrc := 0x8A9136AA#32, queue := [], drawn := 0, wdEnd := 0, wdExpired := false,
             mboxEnd := 0, nonce := none, lateTamper := false },
    lcs := { otp := { groups := [0#3, 0#3, 0#3, 0#3, 0#3], uid := none, keys := [0#256, 0#256, 0#256, 0#256], arb := 0 },
             accepted := none, grant := none, wipe := none, tapStatus := 0, otpStatus := 0 },
    jtag := { scanIr := 2, scanReg := 0#358, scanOut := 0#358, debugIr := 1 },
    boot := { running := true, step := 0, limp := false, held := false, halted := false, l0 := false, failed := none,
              early := none, s07Fails := 0, entry := none, bank := none, fallback := 0#32, quar := 0#64, vfsel := false,
              drspd := 0, train := [], retry := false, base := none, bankFail := none, noLog := false, fellBack := false },
    pwr := { queue := [], cal := [], decided := false, warned := false, throttled := false, shut := false,
             laneWait := [] },
    uni := { lookups := [], preds := [] },
    ful := { streams := [], retry := [], order := 0 }, stb := { strobes := [], captures := [] },
    shf := { chans := [], code := [], verify := none, retry := [] },
    tnt := { tenants := [], busMaster := false, memSpace := false, stopped := false, busy := false, flr := false },
    drc := [], sau := { retry := [] },
    bsn := { freed := [], fresh := [], tags := [], links := [], heads := [], returning := [], cellCeil := [],
             spillFreed := [], spillFresh := 0, spillRec := [], spills := [], fills := [], retry := [] },
    free := 0, once := [], reply := { status := .ok, value := 0#64, unsupported := false, retry := false }, pending := [] }

end Sys2Proof.Machine
end

