-- ==== Sys2Proof/Machine/Ops.lean ====
section
/-! DEFINITION. The named operations every block shares: registers, counters, memory, time, the matching store with its
matching rule, events and their delivery. -/

namespace Sys2Proof.Machine

/-! ### Status codes, registers and counters -/

/-- The 8-bit code of a status (Table 0-5). -/
def Status.code : Status → Nat
  | .ok => 0x00
  | .delayed => 0x01
  | .refusedCapacity => 0x10
  | .refusedRights => 0x11
  | .refusedSecure => 0x12
  | .refusedNotReady => 0x13
  | .refusedRange => 0x14
  | .staleGeneration => 0x20
  | .staleEpoch => 0x21
  | .abandoned => 0x30
  | .noEntropy => 0x31
  | .healthFail => 0x32
  | .stomped => 0x40
  | .unitRefused => 0x41
  | .windowDouble => 0x42
  | .zeroLength => 0x50
  | .timeout => 0x60

/-- The register with key `a`: a BAR0 address, an island address, or a per-agent key. -/
def State.reg (s : State) (a : Nat) : W32 := SMap.get regReset s.regs a

/-- The state with register `a` holding `v`. -/
def State.setReg (s : State) (a : Nat) (v : W32) : State := { s with regs := SMap.set regReset s.regs a v }

/-- Bits [hi:lo] of register `a`. -/
def State.fld (s : State) (a hi lo : Nat) : Nat := bits (s.reg a) hi lo

/-- The state with bits [hi:lo] of register `a` set to `v`. -/
def State.setFld (s : State) (a hi lo v : Nat) : State := s.setReg a (setBits (s.reg a) hi lo v)

/-- The key of agent `ag`'s own copy of a register that exists once for each agent. -/
def agKey (ag : Agent) (a : Nat) : Nat := (ag.toNat + 1) * 0x100000000 + a

/-- A 64-bit statistics counter, named by the BAR0 address of its low cell (R17). -/
def State.counter (s : State) (a : Nat) : W64 := SMap.get (fun _ => 0#64) s.ctr a

/-- Counter `a` advanced by `n`. -/
def State.countBy (s : State) (a n : Nat) : State :=
  { s with ctr := SMap.set (fun _ => 0#64) s.ctr a (s.counter a + BitVec.ofNat 64 n) }

/-- Counter `a` advanced by one. -/
def State.count (s : State) (a : Nat) : State := s.countBy a 1

/-- What the command answers to its sender. -/
def State.answer (s : State) (st : Status) (v : W64) : State := { s with reply := { status := st, value := v, unsupported := false, retry := false } }

/-- A status as the command's answer, with no value. -/
def State.status (s : State) (st : Status) : State := s.answer st 0#64

/-- A free value (assumption 6) and the state with the free counter advanced. -/
def State.fresh (s : State) : W32 × State := (Config.freeWord s.free, { s with free := s.free + 1 })

/-! ### Agents (Table 0-6) -/

/-- The manager's agent ID. -/
def agManager : Agent := 0x500#12

/-- The agent ID of a slot (R26). -/
def slotAgent (w : SlotId) : Agent :=
  if w.val < 512 then BitVec.ofNat 12 (w.val + 1) else BitVec.ofNat 12 (0x7F0 + (w.val - 512))

/-- A warden slot's ID (R552). -/
def isWarden (a : Agent) : Bool := decide (0x7F0 ≤ a.toNat ∧ a.toNat ≤ 0x7F3)

/-- A thread slot's ID. -/
def isThread (a : Agent) : Bool := decide (1 ≤ a.toNat ∧ a.toNat ≤ 0x200)

/-- A tenant's ID. -/
def isTenant (a : Agent) : Bool := decide (0x400 ≤ a.toNat ∧ a.toNat ≤ 0x41F)

/-- The core of a thread-slot ID (section 0.7). -/
def agentCore (a : Agent) : Nat := (a.toNat - 1) / 8

/-! ### Memory

One list of bytes holds every memory of the device, each space at its own keys. -/

/-- Core `c`'s D-RAM; 64 is the warden's (Table 6-4, Table 20-2). -/
def kDram (c : Nat) : Nat := 0x100000000 + c * 0x10000
/-- Core `c`'s I-RAM; 64 is the warden's. -/
def kIram (c : Nat) : Nat := 0x200000000 + c * 0x10000
/-- Shared SRAM, 4 MiB. -/
def kShared : Nat := 0x300000000
/-- Table SRAM, 2 MiB. -/
def kTable : Nat := 0x400000000
/-- The basin packet buffer, 6 MiB. -/
def kBasin : Nat := 0x500000000
/-- The embedded flash, 8 MiB: bank A, bank B, data area. -/
def kFlash : Nat := 0x600000000
/-- The warden's image store, 16 KiB (R555). -/
def kImageStore : Nat := 0x700000000
/-- The program copy area's content lies in shared SRAM (R47). DRAM channel `x`. -/
def kDramCh (x : Nat) : Nat := 0x1000000000 + x * 0x100000000
/-- Host memory by bus address. -/
def kHost : Nat := 0x10000000000000000

/-- The byte at key `k`. -/
def State.readByte (s : State) (k : Nat) : Byte := SMap.get memDefault s.mem k

/-- The state with byte `k` written. -/
def State.writeByte (s : State) (k : Nat) (v : Byte) : State := { s with mem := SMap.set memDefault s.mem k v }

/-- `n` bytes from key `k`. -/
def State.readBytes (s : State) (k n : Nat) : List Byte := (rangeFrom n k).map s.readByte

/-- A memory with bytes written from key `k`. -/
def memWrite (m : List Host.Cell) (k : Nat) : List Byte → List Host.Cell
  | [] => m
  | b :: rest => memWrite (SMap.set memDefault m k b) (k + 1) rest

/-- The state with bytes written from key `k`. -/
def State.writeBytes (s : State) (k : Nat) (bs : List Byte) : State := { s with mem := memWrite s.mem k bs }

/-- A little-endian number of `n` bytes at key `k` (R4). -/
def State.readLE (s : State) (k n : Nat) : Nat := leNat (s.readBytes k n)

/-- The state with a little-endian number of `n` bytes written at key `k`. -/
def State.writeLE (s : State) (k n v : Nat) : State := s.writeBytes k (leBytes n v)

/-! ### Time (chapter 04) -/

/-- TB time as a number. -/
def State.time (s : State) : Nat := s.tb.now.toNat

/-- TB time moved on to `t`, if it is not past it: a command that names an event with an instant happens at that
instant or later (assumption 3). -/
def State.advance (s : State) (t : Nat) : State :=
  if s.time < t then { s with tb := { s.tb with now := BitVec.ofNat 64 t } } else s

/-- The cycle number (R97). -/
def State.cycle (s : State) : W32 := s.reg A.tbCycle

/-- TB time minus the current cycle start (TB_OFFSET). -/
def State.offset (s : State) : Nat := (s.tb.now - s.tb.cycStart).toNat

/-! ### Threads, slots, cores and frames -/

/-- Slot `w`. -/
def State.slot (s : State) (w : Nat) : Slot := SMap.get (fun _ => Slot.init) s.slots w

/-- The state with slot `w` replaced. -/
def State.setSlot (s : State) (w : Nat) (x : Slot) : State :=
  { s with slots := SMap.set (fun _ => Slot.init) s.slots w x }

/-- Core `c`. -/
def State.core (s : State) (c : Nat) : Core := SMap.get (fun _ => Core.init) s.cores c

/-- The state with core `c` replaced. -/
def State.setCore (s : State) (c : Nat) (x : Core) : State :=
  { s with cores := SMap.set (fun _ => Core.init) s.cores c x }

/-- Software thread `n`. -/
def State.thread (s : State) (n : Nat) : Thread := SMap.get (fun _ => Thread.init) s.lk.threads n

/-- The state with software thread `n` replaced. -/
def State.setThread (s : State) (n : Nat) (x : Thread) : State :=
  { s with lk := { s.lk with threads := SMap.set (fun _ => Thread.init) s.lk.threads n x } }

/-- The frame with ticket `k`, if one is in flight. -/
def State.frame (s : State) (k : Nat) : Option Frame := SMap.get (fun _ => none) s.flt.frames k

/-- The state with the frame of ticket `k` replaced. -/
def State.setFrame (s : State) (k : Nat) (x : Option Frame) : State :=
  { s with flt := { s.flt with frames := SMap.set (fun _ => none) s.flt.frames k x } }

/-- The software threads that live, in ascending number. -/
def State.living (s : State) : List Nat := SMap.keysWhere (fun _ t => decide (t.st ≠ .free)) s.lk.threads

/-! ### Tags and tokens (section 9.1) -/

/-- The kinds of tag (Table 9-1; Table 20-2 for the warden's store, numbered from 0x1_0000). -/
inductive TagKind where
  | null | lookups | complete | arrival | context | own | general | warden | reserved
  deriving DecidableEq, Repr

/-- The kind of a tag. -/
def tagKind (t : Nat) : TagKind :=
  if t = 0 then .null
  else if t = 2 then .lookups
  else if t = 3 then .complete
  else if 0x10 ≤ t ∧ t ≤ 0x1F then .arrival
  else if 0x1000 ≤ t ∧ t ≤ 0x1FFF then .context
  else if 0x2000 ≤ t ∧ t ≤ 0x3FFF then .own
  else if 0x4000 ≤ t ∧ t ≤ 0xFFFF then .general
  else if 0x10001 ≤ t ∧ t ≤ 0x100FF then .warden
  else .reserved

/-- A tag whose tokens are queued: it is not a condition (section 9.1). -/
def isTokenTag (t : Nat) : Bool :=
  match tagKind t with
  | .arrival | .own | .general | .warden => true
  | _ => false

/-- A tag that any poster may post to (Table 9-1). -/
def isPostable (t : Nat) : Bool :=
  match tagKind t with
  | .own | .general | .warden => true
  | _ => false

/-- The thread that an own tag belongs to (Table 9-1). -/
def ownThread (t : Nat) : Nat := (t - 0x2000) / 4

/-- The queue of tokens on a tag, oldest first (R245). -/
def State.tokens (s : State) (t : Nat) : List Token := SMap.get (fun _ => []) s.lk.toks t

/-- The state with a tag's queue replaced. -/
def State.setTokens (s : State) (t : Nat) (q : List Token) : State :=
  { s with lk := { s.lk with toks := SMap.set (fun _ => []) s.lk.toks t q } }

/-- The entries a thread's matched tokens and current frame keep (R251, R281). -/
def Thread.kept (t : Thread) : Nat :=
  (if t.tokens = [] then 0 else (t.waitSet.filter isTokenTag).length) +
    (if t.frame.isSome && !(decide (t.tokens ≠ []) && t.waitSet.any (fun g => decide (tagKind g = .arrival))) then 1
     else 0)

/-- Entries of the main matching store that hold or keep a token (LKP_TOKSTAT.USED). -/
def State.usedMain (s : State) : Nat :=
  sumNat ((s.lk.toks.filter (fun p => decide (p.1 < 0x10000))).map (fun p => p.2.length)) +
    sumNat ((s.lk.threads.filter (fun p => decide (p.1 < 2048))).map (fun p => p.2.kept))

/-- Entries of the warden's matching store that hold or keep a token. -/
def State.usedWarden (s : State) : Nat :=
  sumNat ((s.lk.toks.filter (fun p => decide (0x10000 ≤ p.1))).map (fun p => p.2.length)) +
    sumNat ((s.lk.threads.filter (fun p => decide (2048 ≤ p.1))).map (fun p => p.2.kept))

/-- Entries reserved for enabled turn-token tags that hold no turn token (R110). -/
def State.turnFree (s : State) : Nat :=
  ((rangeFrom 16 0).filter (fun n =>
    let r := s.reg (A.tbTtag n)
    bit r 31 && !(s.tokens (bits r 15 0)).any (·.turn))).length

/-- RESERVED of the main matching store. -/
def State.reservedMain (s : State) : Nat := s.lk.reserved + s.turnFree

/-- An unreserved entry is free in the store that tag `t` belongs to (R246, Table 20-2). -/
def State.entryFree (s : State) (t : Nat) : Bool :=
  if t < 0x10000 then decide (s.usedMain + s.reservedMain < 4096) else decide (s.usedWarden + s.lk.wReserved < 256)

/-- Reserve an entry in the store of tag `t` (R247). -/
def State.reserve (s : State) (t : Nat) : State :=
  if t < 0x10000 then { s with lk := { s.lk with reserved := s.lk.reserved + 1 } }
  else { s with lk := { s.lk with wReserved := s.lk.wReserved + 1 } }

/-- Give a reserved entry back. -/
def State.unreserve (s : State) (t : Nat) : State :=
  if t < 0x10000 then { s with lk := { s.lk with reserved := s.lk.reserved - 1 } }
  else { s with lk := { s.lk with wReserved := s.lk.wReserved - 1 } }

/-! ### Matching (section 9.2) -/

/-- A context is present in the cache (Table 9-1, CONTEXT). -/
def State.present (s : State) (c : Nat) : Bool := s.lk.lines.any (fun l => decide (l.ctx = c))

/-- The frame condition of a tag holds for the frame of ticket `k` (Table 9-1, R250). -/
def State.frameCond (s : State) (t : Nat) (k : Option Nat) : Bool :=
  match tagKind t with
  | .lookups =>
    match k.bind s.frame with
    | some f => f.fr.lk.all (fun v => decide (v ≠ 3))
    | none => false
  | .complete =>
    match k.bind s.frame with
    | some f => f.fr.fcsDone
    | none => false
  | _ => true

/-- Every frame condition of a wait set holds for ticket `k`. -/
def State.frameConds (s : State) (ws : List Nat) (k : Option Nat) : Bool := ws.all (fun t => s.frameCond t k)

/-- Take the tokens of a wait set from the queues, oldest first; the arrival token is the one with value `arr`. `none`
when some queue is too short (R248, R250). -/
def takeTokens (arr : Option W32) (m : SMap (List Token)) : List Nat → Option (List Token × SMap (List Token))
  | [] => some ([], m)
  | t :: rest =>
    if isTokenTag t then
      let q := SMap.get (fun _ => []) m t
      let pick := if tagKind t = .arrival then q.find? (fun k => decide (some k.value = arr)) else q.head?
      match pick with
      | none => none
      | some k =>
        match takeTokens arr (SMap.set (fun _ => []) m t (q.erase k)) rest with
        | none => none
        | some (ks, m') => some (k :: ks, m')
    else
      match takeTokens arr m rest with
      | none => none
      | some (ks, m') => some ({ value := 0#32, status := .ok, turn := false } :: ks, m')

/-- Cores of the fabric in effect before turn A still serve a pound (section 2.4). -/
def State.oldCores (s : State) (pound : Option Nat) : Bool :=
  (rangeFrom 64 0).any (fun c =>
    let x := s.core c
    decide (x.st = .member) && x.joins.isNone && x.cfg.isSome && decide (x.cfg.map (·.pound) = pound))

/-- Core `c` may take work on frame `f`: between turn A and turn B joining cores serve the new fabric only and leaving cores
the old one only, and a pound without old cores hands its old frames to its new ones (section 2.4). -/
def State.coreFits (s : State) (c : Nat) (f : Frame) : Bool :=
  s.shp.old.isNone ||
    (if f.fab = s.flt.fabGen then !(s.core c).leaves else (s.core c).joins.isNone || !s.oldCores f.pound)

/-- The cores in service that run a program. -/
def State.progCores (s : State) (prog : Nat) : List Nat :=
  (rangeFrom 64 0).filter (fun c =>
    decide ((s.core c).st = .member) && decide ((s.core c).cfg.map (·.program) = some prog))

/-- A thread of a program may take the frame of ticket `k`. -/
def State.servable (s : State) (prog k : Nat) : Bool :=
  s.shp.old.isNone ||
    (match s.frame k with
     | none => true
     | some f => (s.progCores prog).any (fun c => s.coreFits c f))

/-- The arrival token a wait set of a program's thread would match: the oldest whose frame meets the frame conditions
(R250). -/
def State.pickArrival (s : State) (prog : Nat) (ws : List Nat) : Option W32 :=
  match ws.find? (fun t => decide (tagKind t = .arrival)) with
  | none => none
  | some t => ((s.tokens t).find? (fun k =>
      s.servable prog k.value.toNat && s.frameConds ws (some k.value.toNat))).map (·.value)

/-- The frame that the frame conditions of a thread's wait set refer to (R250). -/
def State.condFrame (s : State) (t : Thread) : Option Nat :=
  if t.waitSet.any (fun g => decide (tagKind g = .arrival)) then (s.pickArrival t.program t.waitSet).map (·.toNat)
  else t.frame

/-- The context lines with the line of context `c` pinned once more and moved to the most recent place (R275). -/
def pinLine (c : Nat) (ls : List Line) : List Line :=
  match ls.find? (fun l => decide (l.ctx = c)) with
  | none => ls
  | some l => ls.filter (fun x => decide (x.ctx ≠ c)) ++ [{ l with pins := l.pins + 1, used := true }]

/-- The context lines with one pin of context `c` released. -/
def unpinLine (c : Nat) (ls : List Line) : List Line :=
  ls.map (fun l => if l.ctx = c then { l with pins := l.pins - 1 } else l)

/-- The context lines without the demand hold of thread `n` (R276). -/
def releaseDemand (n : Nat) (ls : List Line) : List Line :=
  ls.map (fun l => { l with holds := l.holds.filter (fun h => decide (h ≠ .demand n)) })

/-- The contexts that a wait set names. -/
def contextsOf (ws : List Nat) : List Nat :=
  (ws.filter (fun t => decide (tagKind t = .context))).map (fun t => t - 0x1000)

/-- The wait set of thread `n` is satisfied: what matching takes (R248). -/
def State.satisfied (s : State) (t : Thread) : Option (List Token × SMap (List Token)) :=
  if (contextsOf t.waitSet).all s.present && s.frameConds t.waitSet (s.condFrame t) then
    takeTokens (s.pickArrival t.program t.waitSet) s.lk.toks t.waitSet
  else none

/-- Match thread `n`: its tokens are taken, its contexts pinned, its frame set, and it joins its ready list
(R248, R251, R261). -/
def State.matchThread (s : State) (n : Nat) (ks : List Token) (m : SMap (List Token)) : State :=
  let t := s.thread n
  let cs := contextsOf t.waitSet
  let frame := if t.waitSet.any (fun g => decide (tagKind g = .arrival)) then s.condFrame t else t.frame
  let bad := ks.find? (fun k => decide (k.status ≠ .ok))
  let t' : Thread :=
    { t with st := .ready, prio := t.nextPrio.getD t.prio, nextPrio := none, tokens := ks, nTags := t.waitSet.length,
             timedOut := false, deadline := none, ostat := (bad.map (·.status)).getD .ok,
             frame := frame, pins := cs }
  let ls := releaseDemand n (cs.foldl (fun l c => pinLine c l) s.lk.lines)
  let s1 := { s with lk := { s.lk with toks := m, lines := ls, ready := s.lk.ready ++ [n] } }
  (s1.setThread n t').count 0x70100

/-- The effective priority of a thread (R260). -/
def Thread.effPrio (t : Thread) : Nat := max t.prio t.floor

/-- Thread `a` is considered before thread `b` in matching (R252). -/
def State.waitsBefore (s : State) (a b : Nat) : Bool :=
  let x := s.thread a
  let y := s.thread b
  if x.effPrio ≠ y.effPrio then decide (y.effPrio < x.effPrio)
  else if x.waitSeq ≠ y.waitSeq then decide (x.waitSeq < y.waitSeq)
  else decide (a ≤ b)

/-- The waiting threads whose set is satisfied. -/
def State.matchable (s : State) : List Nat :=
  SMap.keysWhere (fun _ t => decide (t.st = .waiting) && (s.satisfied t).isSome) s.lk.threads

/-- The first of a list of threads in the order of R252. -/
def State.firstWaiter (s : State) (l : List Nat) : Option Nat :=
  l.foldl (fun acc n =>
    match acc with
    | none => some n
    | some b => if s.waitsBefore n b then some n else some b) none

/-- Match threads, one after another in the order of R252, until no waiting thread's set is satisfied. -/
def matchLoop : Nat → State → State
  | 0, s => s
  | fuel + 1, s =>
    match s.firstWaiter s.matchable with
    | none => s
    | some n =>
      match s.satisfied (s.thread n) with
      | none => s
      | some (ks, m) => matchLoop fuel (s.matchThread n ks m)

/-- Match every thread that can be matched (R252). -/
def State.matching (s : State) : State := matchLoop (s.living.length + 1) s

/-- Queue a token on a tag and match. -/
def State.enqueue (s : State) (t : Nat) (k : Token) : State := (s.setTokens t (s.tokens t ++ [k])).matching

/-! ### Events (chapter 19) -/

/-- The tenant that owns an MSI-X vector, if a tenant does (R52). -/
def State.vectorTenant (s : State) (v : Nat) : Option Nat :=
  ((rangeFrom s.shp.tenants.length 0).zip s.shp.tenants).findSome? (fun p =>
    if p.2.present && decide (p.2.vbase ≤ v) && decide (v < p.2.vbase + p.2.vcount) then some p.1 else none)

/-- A tenant is CREATED (TNT_TSTATt.STATE). -/
def State.tenantCreated (s : State) (t : Nat) : Bool := decide (s.fld (A.tntTstat t) 1 0 = 1)

/-- One MSI-X message on a vector: discarded for a tenant that is not CREATED, held pending on a masked vector or
while Bus Master Enable is 0 (R456, R486, R542). -/
def State.sendMsix (s : State) (v : Nat) : State :=
  let gone := match s.vectorTenant v with
    | some t => !s.tenantCreated t
    | none => false
  if gone then s.count 0x120E18
  else if s.tnt.busMaster && s.msix.enable && !s.msix.fmask && SMap.get (fun _ => false) s.msix.unmasked v then
    { s with msix := { s.msix with sent := s.msix.sent ++ [v] } }
  else { s with msix := { s.msix with pend := SMap.set (fun _ => false) s.msix.pend v true } }

/-- Post a token without raising events: refused when no unreserved entry is free (R246). -/
def State.postQuiet (s : State) (t : Nat) (v : W32) (st : Status) : Status × State :=
  if !isPostable t then (.refusedRange, s)
  else if !s.entryFree t then (.refusedCapacity, s.count 0x70110)
  else (.ok, s.enqueue t { value := v, status := st, turn := false })

/-- The token value of an event (Table 19-5). -/
def State.eventValue (s : State) (e : Nat) : W32 := w32 (e + (s.cycle.toNat % 0x10000) * 0x10000)

/-- Deliver event `e` to the tag `t`; a refused token is retried (R541). -/
def State.deliverToken (s : State) (e t : Nat) : State :=
  if s.evr.retry.any (fun p => decide (p.1 = e)) then s
  else
    match s.postQuiet t (s.eventValue e) .ok with
    | (.refusedCapacity, s') => { s' with evr := { s'.evr with retry := s'.evr.retry ++ [(e, s.eventValue e)] } }
    | (_, s') => s'.count 0x120E08

/-- Deliver event `e` to EVTOUT pin `p`: a pulse in MODE 1 (R551); in MODE 0 the level follows the pending bits. -/
def State.deliverPin (s : State) (p : Nat) : State :=
  let c := s.reg (A.evrPincfg p)
  let s1 := s.count 0x120E08
  if bit c 0 then
    { s1 with evr := { s1.evr with pulse := SMap.set (fun _ => none) s1.evr.pulse p (some (s.time + bits c 27 8)) } }
  else s1

/-- Deliver event `e` under its route (Table 19-5). -/
def State.deliver (s : State) (e : Nat) : State :=
  let r := s.reg (A.evrRoute e)
  let tgt := bits r 31 16
  let s0 := { s with evr := { s.evr with delivered := s.evr.delivered ++ [e] } }
  match bits r 7 0 with
  | 1 => s0.deliverToken e tgt
  | 2 => (s0.sendMsix tgt).count 0x120E08
  | 3 => s0.deliverToken e (0x10000 + tgt % 0x100)
  | 4 => s0.deliverPin tgt
  | _ => s0

/-- Record a raise of event `e`: its pending bit, its count and EVR_RAISED (R539). -/
def State.recordRaise (s : State) (e : Nat) : State :=
  let p := A.evrPend (e / 32)
  let c := A.evrCount e
  ((s.setReg p (setBit (s.reg p) (e % 32) true)).setReg c
    (setBits (s.reg c) 15 0 (min 0xFFFF (s.fld c 15 0 + 1)))).count 0x120E00

/-- Event `e` is delivered at a raise: not masked, not coalesced after a delivery in this cycle, and routed (R539); a secure
source has no route while the warden does not run (section 19.3, Edges). -/
def State.delivers (s : State) (e : Nat) : Bool :=
  let r := s.reg (A.evrRoute e)
  !bit r 8 && !(bit r 9 && s.evr.delivered.contains e) && decide (bits r 7 0 ≠ 0) &&
    !(decide (720 ≤ e ∧ e ≤ 751) && !bit (s.reg A.secNstat) 4)

/-- Raise an event without its consequences for other events. -/
def State.raiseOne (s : State) (e : Nat) : State :=
  let s1 := s.recordRaise e
  if s1.delivers e then s1.deliver e else s1

/-- An event is mirrored to the normal world (R548). -/
def State.mirrored (s : State) (e : Nat) : Bool :=
  decide (720 ≤ e ∧ e ≤ 751) && bit (s.reg (A.evrRoute e)) 10

/-- Raise event `e`; a mirrored secure event also sets EVR_SECNOTE and raises EV764 (R539, R548). -/
def State.raiseMirror (s : State) (e : Nat) : State :=
  let s1 := s.raiseOne e
  if s.mirrored e then
    (s1.setReg A.evrSecnote (setBit (s1.reg A.evrSecnote) (e - 720) true)).raiseOne 764
  else s1

/-- Raise event `e` unless it has been raised so in this cycle already. -/
def State.raiseFirst0 (s : State) (e : Nat) : State :=
  if s.once.contains e then s else State.raiseMirror { s with once := s.once ++ [e] } e

/-- What the counts of the matching store add to a raise or a post: EV384 at the first refusal of a cycle (R246) and
EV385 when USED + RESERVED first exceeds TOKWARN in a cycle (R281). `before` is LKP_POSTREF before it. -/
def State.tokenWatch (s : State) (before : W64) : State :=
  let s1 := if s.counter 0x70110 ≠ before then s.raiseFirst0 384 else s
  if s1.fld A.lkpCtrl 28 16 < s1.usedMain + s1.reservedMain then s1.raiseFirst0 385 else s1

/-- Raise event `e` (R539). -/
def State.raise (s : State) (e : Nat) : State := (s.raiseMirror e).tokenWatch (s.counter 0x70110)

/-- Raise event `e` at its first occurrence in the cycle. -/
def State.raiseFirst (s : State) (e : Nat) : State :=
  if s.once.contains e then s else State.raise { s with once := s.once ++ [e] } e

/-- Post a token to a tag: OK, or the refusal that R244 or R246 gives. -/
def State.post (s : State) (t : Nat) (v : W32) (st : Status) : Status × State :=
  let r := s.postQuiet t v st
  (r.1, r.2.tokenWatch (s.counter 0x70110))

/-- Post a token for which an entry was reserved: it is never refused (R247). -/
def State.postReserved (s : State) (t : Nat) (v : W32) (st : Status) : State :=
  ((s.unreserve t).enqueue t { value := v, status := st, turn := false }).tokenWatch (s.counter 0x70110)

/-- Post an arrival token: by the ingress sequencer and by verdicts only (Table 9-1). -/
def State.postArrival (s : State) (pound ticket : Nat) : Status × State :=
  let t := 0x10 + pound
  if !s.entryFree t then
    (.refusedCapacity, State.tokenWatch (s.count 0x70110) (s.counter 0x70110))
  else (.ok, (s.enqueue t { value := w32 ticket, status := .ok, turn := false }).tokenWatch (s.counter 0x70110))

/-- Pin `p` of EVTOUT is active (R550, R551). -/
def State.evtout (s : State) (p : Nat) : Bool :=
  if bit (s.reg (A.evrPincfg p)) 0 then
    match SMap.get (fun _ => none) s.evr.pulse p with
    | some t => decide (s.time < t)
    | none => false
  else (rangeFrom 768 0).any (fun e =>
    let r := s.reg (A.evrRoute e)
    decide (bits r 7 0 = 4) && decide (bits r 31 16 = p) && !bit r 8 && bit (s.reg (A.evrPend (e / 32))) (e % 32))

/-! ### Refused accesses -/

/-- Log a refused host access: the BAR offset, the reason, the BAR and direction, and the agent (R461). -/
def State.logHost (s : State) (off : Nat) (st : Status) (bar2 write : Bool) (ag : Agent) : State :=
  let h := s.reg A.tntHerr1
  let s1 :=
    if bit h 31 then s.setReg A.tntHerr1 (setBits h 29 22 (min 255 (bits h 29 22 + 1)))
    else (s.setReg A.tntHerr0 (w32 off)).setReg A.tntHerr1
      (w32 (0x80000000 + ag.toNat * 0x400 + b2n write * 0x200 + b2n bar2 * 0x100 + st.code))
  s1.raiseFirst 579

/-- The BAR0 offset at which agent `ag` writes register `a`: a tenant reaches the SAU block through its window
(Table 16-7). -/
def hostOffset (ag : Agent) (a : Nat) : Nat :=
  if isTenant ag && decide (0xD0000 ≤ a ∧ a < 0xD3000) then
    0x1000000 + (ag.toNat - 0x400) * 0x10000 + 0x4000 + (a - 0xD0000)
  else a

/-- A command of agent `ag` on register `a` is refused with `st`: a host write is logged (R461), for a tenant in its TNT_TERR
too; a thread learns the status in OSTAT (R180). -/
def State.refuse (s : State) (ag : Agent) (a : Nat) (st : Status) : State :=
  let off := hostOffset ag a
  let s1 := if isTenant ag then
      s.setReg (0x1000000 + (ag.toNat - 0x400) * 0x10000 + 0x108) (w32 (off % 0x10000 + st.code * 0x10000))
    else s
  (if ag = agManager || isTenant ag then s1.logHost off st false true ag else s1).status st

/-- The host's agents: the manager and the tenants. -/
def isHost (a : Agent) : Bool := decide (a = agManager) || isTenant a

/-- The manager or a warden slot. -/
def isBoss (a : Agent) : Bool := decide (a = agManager) || isWarden a

/-- The pound entry that the core of a thread slot serves. -/
def State.poundOf (s : State) (a : Agent) : Option PoundCfg :=
  if isThread a then (s.core (agentCore a)).cfg else none

/-- The number of the pound that the core of a thread slot serves. -/
def State.poundNo (s : State) (a : Agent) : Option Nat := (s.poundOf a).map (·.pound)

/-- Block slot `b` is within an agent's reach: by REG_MASK for a thread (R178), by the tenant window for a tenant
(R467); hardware agents issue no register access. -/
def State.reaches (s : State) (a : Agent) (b : Nat) : Bool :=
  if isThread a then
    match s.poundOf a with
    | some p => bit p.regMask b
    | none => false
  else if isTenant a then s.tenantCreated (a.toNat - 0x400) && decide (b = 0x0D ∨ b = 0x0E)
  else isBoss a

/-- The status of an access by an agent that does not reach a block: a tenant's window drops what it gets while the tenant is
not CREATED (R467). -/
def reachStatus (s : State) (ag : Agent) : Status :=
  if isTenant ag && !s.tenantCreated (ag.toNat - 0x400) then .refusedNotReady else .refusedRights

/-- Post a token; `later` says what a refusal for want of an entry leaves behind. -/
def State.postOr (s : State) (t : Nat) (v : W32) (st : Status) (later : State → State) : State :=
  match s.post t v st with
  | (.refusedCapacity, s') => later s'
  | (_, s') => s'

/-- Post a refused token again; the caller raises its event when the retry is the first. -/
def State.repost (s : State) (r : Retry) : Bool × State :=
  let p := s.post r.tag r.value r.status
  (decide (p.1 ≠ .refusedCapacity), p.2)

/-- Retry the tokens of a list in order; those refused again stay. The Bool says that some retry was a first one. -/
def repostAll : List Retry → State → Bool × List Retry × State
  | [], s => (false, [], s)
  | r :: rest, s =>
    let p := s.repost r
    let q := repostAll rest p.2
    (!r.retried || q.1, (if p.1 then q.2.1 else { r with retried := true } :: q.2.1), q.2.2)

/-! ### The turn groups (section 4.3) -/

/-- The shadow of register `a`: its pending value, or the live one (R101, R104). -/
def State.shadowOf (s : State) (a : Nat) : W32 := (SMap.get (fun _ => none) s.shadow a).getD (s.reg a)

/-- The state with the shadow of register `a` set. -/
def State.setShadow (s : State) (a : Nat) (v : W32) : State :=
  { s with shadow := SMap.set (fun _ => none) s.shadow a (some v) }

/-- Group `g` is armed (R98). -/
def State.groupArmed (s : State) (g : Nat) : Bool := bit (s.reg A.tbArmed) g

/-- Arm group `g` now. -/
def State.armNow (s : State) (g : Nat) : State := s.setReg A.tbArmed (setBit (s.reg A.tbArmed) g true)

/-- Record a write delayed by the fence (R107). -/
def State.noteDelayed (s : State) (g : Nat) : State :=
  let a := A.tbTurnstat
  let s1 := (s.setFld a 7 0 g).setFld a 15 8 (min 255 (s.fld a 15 8 + 1))
  s1.raiseFirst 760

/-- An arm by a hardware agent: held inside the fence (R99, R106). -/
def State.hwArm (s : State) (g : Nat) : State :=
  if s.tb.fence then
    State.noteDelayed { s with tb := { s.tb with held := s.tb.held ++ [.hwArm g] } } g
  else s.armNow g

end Sys2Proof.Machine
end

