-- ==== Sys2Proof/Machine/Operands.lean ====
section
/-! DEFINITION. The operand forms of ZLC: register codes and the physical registers they name, pairs and quads, special
registers, signed immediates, and the landing of pending writes (sections 6.2, 7.1, 8.1). -/

namespace Sys2Proof.Machine

/-! ### Register names (R148, R149, R184) -/

/-- The physical register of wk in rotating window `n` (R148). -/
def windowReg (n k : Nat) : Nat :=
  if k < 8 then 12 * n + k else if k < 12 then 12 * ((n + 3) % 4) + k else 12 * n + (k - 4)

/-- The physical register that a code names in a thread; `none` is g0 (Table 7-2, R149). -/
def Ctx.phys (x : Ctx) (code : Nat) : Option Nat :=
  if code < 16 then some (if x.inT then 48 + code else windowReg x.win.toNat code)
  else if code = 16 then none
  else some (64 + (code - 16))

/-- A physical register. -/
def Ctx.preg (x : Ctx) (p : Nat) : W32 := SMap.get (fun _ => 0#32) x.regs p

/-- The thread with a physical register set. -/
def Ctx.setPreg (x : Ctx) (p : Nat) (v : W32) : Ctx := { x with regs := SMap.set (fun _ => 0#32) x.regs p v }

/-- The value of the register that a code names; g0 reads 0. -/
def Ctx.rd (x : Ctx) (c : RegCode) : W32 :=
  match x.phys c.toNat with
  | some p => x.preg p
  | none => 0#32

/-- The write of a value to the register that a code names; a write to g0 is discarded. -/
def Ctx.dst (x : Ctx) (c : RegCode) (v : W32) : List PWrite :=
  match x.phys c.toNat with
  | some p => [{ tgt := .reg p, val := v }]
  | none => []

/-- The number in the register pair or quad that starts at a code, `n` registers, the lowest least significant (R184). -/
def Ctx.rdMulti (x : Ctx) (c : RegCode) : Nat → Nat
  | 0 => 0
  | n + 1 => (x.rd c).toNat + 0x100000000 * x.rdMulti (c + 1#5) n

/-- The writes of a number to `n` registers from a code (R184). -/
def Ctx.dstMulti (x : Ctx) (c : RegCode) : Nat → Nat → List PWrite
  | 0, _ => []
  | n + 1, v => x.dst c (w32 v) ++ x.dstMulti (c + 1#5) n (v / 0x100000000)

/-- A listed register code (R184). -/
def regOk (c : RegCode) : Bool := decide (c.toNat < 24)

/-- A code that may start `n` registers (R184). -/
def multiOk (c : RegCode) (n : Nat) : Bool := regOk c && decide (c.toNat % n = 0)

/-- A signed immediate as a word. -/
def simm {n : Nat} (i : BitVec n) : W32 := i.signExtend 32

/-- An unsigned immediate as a word. -/
def uimm {n : Nat} (i : BitVec n) : W32 := i.setWidth 32

/-! ### Special registers (Table 6-3) -/

/-- wcur as a word. -/
def Ctx.wcurWord (x : Ctx) : W32 := w32 (x.win.toNat + 4 * b2n x.inT)

/-- rsp as a word: DEPTH and MODE. -/
def Ctx.rspWord (x : Ctx) : W32 := w32 (x.rs.length + 0x100 * b2n x.rsTrap)

/-- The bits of flags that exist: C 0, V 1, Z 2, N 3, SAT 4, OSTAT 8 to 15. -/
def flagsMask : W32 := 0xFF1F#32

/-! ### Landing (R215 to R218) -/

/-- Return-stack entries that a change of DEPTH by WRS leaves open (assumption 6). -/
def freeEntries : Nat → Nat → List W32
  | 0, _ => []
  | n + 1, k => (Config.freeWord k &&& 0x7FFC#32) :: freeEntries n (k + 1)

/-- One pending write lands in a thread; the number counts the free values used. -/
def landOne (x : Ctx × Nat) (w : PWrite) : Ctx × Nat :=
  match w.tgt with
  | .reg p => (x.1.setPreg p w.val, x.2)
  | .flags m => ({ x.1 with flags := (x.1.flags &&& ~~~m) ||| (w.val &&& m) }, x.2)
  | .wcur => ({ x.1 with win := BitVec.ofNat 2 (bits w.val 1 0) }, x.2)
  | .wlive => ({ x.1 with wlive := BitVec.ofNat 4 (bits w.val 3 0) }, x.2)
  | .rsp =>
    let d := min 8 (bits w.val 3 0)
    if d = x.1.rs.length then ({ x.1 with rsTrap := bit w.val 8 }, x.2)
    else ({ x.1 with rsTrap := bit w.val 8, rs := freeEntries d x.2 }, x.2 + d)

/-- Pending writes land in program order. -/
def landList (ws : List PWrite) (x : Ctx × Nat) : Ctx × Nat := ws.foldl landOne x

/-- Writes of slot `w` land now, after nothing else. -/
def State.land (s : State) (w : Nat) (ws : List PWrite) : State :=
  let p := landList ws ((s.slot w).ctx, s.free)
  State.setSlot { s with free := p.2 } w { s.slot w with ctx := p.1 }

/-- Every pending write of slot `w` lands (R217). -/
def State.landAll (s : State) (w : Nat) : State :=
  let s1 := s.land w (s.slot w).late
  s1.setSlot w { s1.slot w with late := [] }

/-- The instruction in slot `w` completes: the pending writes of the one before land, then its writes at distance 1; its
writes at distance 2 stay pending; the thread goes on at `next` (R215). -/
def State.retire (s : State) (w : Nat) (d1 d2 : List PWrite) (next : W32) : State :=
  let s1 := s.land w ((s.slot w).late ++ d1)
  let x := s1.slot w
  s1.setSlot w { x with late := d2, ctx := { x.ctx with pc := next } }

/-- The instruction in slot `w` holds: its writes land when the hold ends (R217). -/
def State.hold (s : State) (w : Nat) (ws : List PWrite) (submit : Option UnitReq) (addr : Option (W32 × Nat)) (cluster : Bool)
    (next : W32) : State :=
  let x := s.slot w
  s.setSlot w { x with held := some { writes := ws, submit := submit, addr := addr, poisoned := false,
                                      cluster := cluster },
                       ctx := { x.ctx with pc := next } }

/-- The core of slot `w`; the warden's is 64. -/
def slotCore (w : Nat) : Nat := w / 8

/-- The pound entry that slot `w`'s core serves. -/
def State.slotPound (s : State) (w : Nat) : Option PoundCfg := (s.core (slotCore w)).cfg

/-- The helper cluster of slot `w` (CORE_INFO.QUADRANT). -/
def slotQuad (w : Nat) : Nat := slotCore w / 16

end Sys2Proof.Machine
end

