-- ==== Sys2Proof/Machine/Flags.lean ====
section
/-! DEFINITION. The flag computations of ZLC (Table 7-3): each gives a result with the flags it sets, as a value under a
mask; C 0, V 1, Z 2, N 3, SAT 4. -/

namespace Sys2Proof.Machine

/-- The result of an instruction with its flags: `fl` holds the flags that `mask` names. -/
structure Alu where
  val : W32
  fl : W32
  mask : W32
  deriving DecidableEq, Repr

/-- N and Z of a result. -/
def nzFlags (r : W32) : Nat := 4 * b2n (decide (r = 0#32)) + 8 * b2n r.msb

/-- Flags as a word from C and V with N and Z of a result. -/
def allFlags (r : W32) (c v : Bool) : W32 := w32 (b2n c + 2 * b2n v + nzFlags r)

/-- Addition with a carry in: all four flags (Table 7-3). -/
def aluAdd (a b : W32) (cin : Bool) : Alu :=
  let sum := a.toNat + b.toNat + b2n cin
  let r := w32 sum
  let exact := a.toInt + b.toInt + (b2n cin : Int)
  { val := r, fl := allFlags r (decide (2 ^ 32 ≤ sum)) (decide (r.toInt ≠ exact)), mask := 0xF#32 }

/-- Subtraction: C is 1 when no borrow occurs (R190). `cin` is C for SUBC and true otherwise. -/
def aluSub (a b : W32) (cin : Bool) : Alu := aluAdd a (~~~b) cin

/-- Logic: N and Z of the result, V cleared, C unchanged. -/
def aluLogic (r : W32) : Alu := { val := r, fl := w32 (nzFlags r), mask := 0xE#32 }

/-- Multiplication: N and Z of the result. -/
def aluMul (r : W32) : Alu := { val := r, fl := w32 (nzFlags r), mask := 0xC#32 }

/-- A shift with the last bit shifted out; for count 0 C is unchanged (R191). -/
def aluShift (r : W32) (n : Nat) (out : Bool) : Alu :=
  if n = 0 then { val := r, fl := w32 (nzFlags r), mask := 0xE#32 }
  else { val := r, fl := allFlags r out false, mask := 0xF#32 }

/-- SHL by 0 to 31. -/
def aluShl (a : W32) (n : Nat) : Alu := aluShift (a <<< n) n (bit a (32 - n))
/-- SHR by 0 to 31. -/
def aluShr (a : W32) (n : Nat) : Alu := aluShift (a >>> n) n (bit a (n - 1))
/-- SAR by 0 to 31. -/
def aluSar (a : W32) (n : Nat) : Alu := aluShift (a.sshiftRight n) n (bit a (n - 1))
/-- ROR by 0 to 31. -/
def aluRor (a : W32) (n : Nat) : Alu := aluShift (a.rotateRight n) n (bit a (n - 1))

/-- A result that changes no flag. -/
def aluPlain (r : W32) : Alu := { val := r, fl := 0#32, mask := 0#32 }

/-- The writes of an ALU result to the register of a code. -/
def Ctx.aluWrites (x : Ctx) (rd : RegCode) (a : Alu) : List PWrite :=
  x.dst rd a.val ++ (if a.mask = 0#32 then [] else [{ tgt := .flags a.mask, val := a.fl }])

/-- The write of the C flag alone. -/
def cWrite (c : Bool) : PWrite := { tgt := .flags 1#32, val := w32 (b2n c) }
/-- The write of the Z flag alone (CAS). -/
def zWrite (z : Bool) : PWrite := { tgt := .flags 4#32, val := w32 (4 * b2n z) }
/-- SAT is set when a result was clipped; it is sticky. -/
def satWrites (sat : Bool) : List PWrite := if sat then [{ tgt := .flags 0x10#32, val := 0x10#32 }] else []
/-- The write of OSTAT. -/
def ostatWrite (st : Status) : PWrite := { tgt := .flags 0xFF00#32, val := w32 (st.code * 0x100) }

/-- The condition `cond` of Table 7-6 under flags `f`; 15 is undefined. -/
def condHolds (cond : Nat) (f : W32) : Bool :=
  let c := bit f 0
  let v := bit f 1
  let z := bit f 2
  let n := bit f 3
  match cond with
  | 0 => z
  | 1 => !z
  | 2 => c
  | 3 => !c
  | 4 => n
  | 5 => !n
  | 6 => v
  | 7 => !v
  | 8 => c && !z
  | 9 => !c || z
  | 10 => n == v
  | 11 => n != v
  | 12 => !z && n == v
  | 13 => z || n != v
  | _ => true

end Sys2Proof.Machine
end

