-- ==== Sys2Proof/Machine/Power.lean ====
section
/-! DEFINITION. Power domains (chapter 22, section 22.2): their states, the queue of switches and the registers that each
domain governs. -/

namespace Sys2Proof.Machine

/-- The state of domain `d` as PWR_PDSTAT shows it: 0 OFF, 1 RETAIN, 2 ON, 3 SWITCHING (R610). -/
def State.pdState (s : State) (d : Nat) : Nat := s.fld (A.pwrPdstat (d / 16)) (2 * (d % 16) + 1) (2 * (d % 16))

/-- The state with PWR_PDSTAT showing state `v` for domain `d`. -/
def State.setPd (s : State) (d v : Nat) : State := s.setFld (A.pwrPdstat (d / 16)) (2 * (d % 16) + 1) (2 * (d % 16)) v

/-- Domain `d` is ON. -/
def State.pdOn (s : State) (d : Nat) : Bool := decide (s.pdState d = 2)

/-- The domain that governs the register at a BAR0 address (Table 22-4). -/
def regDomain (a : Nat) : Option Nat :=
  match a / 0x10000 with
  | 0x07 => some 80
  | 0x08 => some 71
  | 0x09 => some 68
  | 0x0B => if 0xB1000 ≤ a ∧ a < 0xB5000 then some (if a < 0xB3000 then 77 else 78) else none
  | 0x0C => if a < 0xC0400 then some 75 else if a < 0xC0800 then some 76 else none
  | 0x0E => some 79
  | 0x0F => some 69
  | 0x11 => some 70
  | _ => none

/-- The register at an address does not answer: its domain is not ON (R611). -/
def State.regOff (s : State) (a : Nat) : Bool :=
  match regDomain a with
  | some d => !s.pdOn d
  | none => false

/-- The state that domain `d` will have when every switch begun or waiting has completed. -/
def State.pdTarget (s : State) (d : Nat) : Nat :=
  match s.pwr.queue.reverse.find? (fun x => decide (x.dom = d)) with
  | some x => x.target
  | none => s.pdState d

/-- A switch of domain `d` joins the queue; the domain reads SWITCHING (R610, R615). -/
def State.pdSwitch (s : State) (d target : Nat) : State :=
  let x : PdSwitch := { dom := d, was := s.pdTarget d, target := target }
  State.setPd { s with pwr := { s.pwr with queue := s.pwr.queue ++ [x] } } d 3

/-- A switch that hardware makes on its own account: no rule of Table 22-5 and no hold applies (R615). -/
def State.hwSwitch (s : State) (d target : Nat) : State :=
  if s.pdTarget d = target then s else s.pdSwitch d target

/-- A switch powers its domain up from OFF (R615). -/
def PdSwitch.up (x : PdSwitch) : Bool := decide (x.was = 0) && decide (x.target ≠ 0)

/-- Switch `k` of the queue is in progress: it waits for no earlier switch of its domain, and at most 4 domains are
powered up at once (R615). -/
def State.switching (s : State) (k : Nat) : Bool :=
  match s.pwr.queue[k]? with
  | none => false
  | some x =>
    let before := s.pwr.queue.take k
    !before.any (fun y => decide (y.dom = x.dom)) && (!x.up || decide ((before.filter PdSwitch.up).length < 4))

end Sys2Proof.Machine
end

