-- ==== Sys2Proof/Machine/Tnt.lean ====
section
/-! DEFINITION. The host link's shared operations (chapter 16): tenants and their windows, queue pairs, completions,
notices, the waiting frames of a queue pair, and the responses of the mailbox. -/

namespace Sys2Proof.Machine

/-- The address of offset `o` of tenant `t`'s window (Table 16-3). -/
def tntWin (t o : Nat) : Nat := 0x1000000 + t * 0x10000 + o

/-- Tenant `t`. -/
def State.tenant (s : State) (t : Nat) : Tenant := SMap.get (fun _ => Tenant.init) s.tnt.tenants t

/-- The state with tenant `t` replaced. -/
def State.setTenant (s : State) (t : Nat) (x : Tenant) : State :=
  { s with tnt := { s.tnt with tenants := SMap.set (fun _ => Tenant.init) s.tnt.tenants t x } }

/-- Queue pair `q` of tenant `t`, if it exists. -/
def State.qp (s : State) (t q : Nat) : Option Qp := SMap.get (fun _ => none) (s.tenant t).qps q

/-- The state with queue pair `q` of tenant `t` replaced; TNT_TSTATt.QP shows whether it exists. -/
def State.setQp (s : State) (t q : Nat) (x : Option Qp) : State :=
  let y := s.tenant t
  (s.setTenant t { y with qps := SMap.set (fun _ => none) y.qps q x }).setFld (A.tntTstat t) (4 + q) (4 + q) (b2n x.isSome)

/-- The TENANTS entry of tenant `t`. -/
def State.tenantCfg (s : State) (t : Nat) : TenantCfg :=
  (s.shp.tenants[t]?).getD { present := false, qpairs := 0, vbase := 0, vcount := 0, dregion := 0, semGroups := 0#32 }

/-- The state of tenant `t`: 0 ABSENT, 1 CREATED, 2 RESETTING. -/
def State.tenantState (s : State) (t : Nat) : Nat := s.fld (A.tntTstat t) 1 0

/-- Tenant `t` changes state, with EV608 + t (Table 16-14). -/
def State.setTenantState (s : State) (t v : Nat) : State :=
  if s.tenantState t = v then s else (s.setFld (A.tntTstat t) 1 0 v).raise (608 + t)

/-- The generation of tenant `t` (R466). -/
def State.tenantGen (s : State) (t : Nat) : Nat := s.fld (A.tntTstat t) 31 16

/-- The next generation of tenant `t`, which skips 0 (R466). -/
def State.nextGen (s : State) (t : Nat) : State :=
  let g := (s.tenantGen t + 1) % 0x10000
  s.setFld (A.tntTstat t) 31 16 (if g = 0 then 1 else g)

/-- Counter `i` of chapter 16 by `n`: the sum and, for counters 0 to 4, the tenant's own. -/
def State.tntCount (s : State) (t i n : Nat) : State :=
  (s.countBy (0xE0400 + 8 * i) n).countBy (tntWin t (0x200 + 8 * i)) n

/-- Queue pair `q` of tenant `t` is in error. -/
def State.qpError (s : State) (t q : Nat) : Bool := bit (s.reg (A.tntTstat t)) (8 + q)

/-- Queue pair `q` of tenant `t` enters error and stops, with EV581 (section 16.4, Edges). -/
def State.failQp (s : State) (t q : Nat) : State :=
  if s.qpError t q then s else (s.setFld (A.tntTstat t) (8 + q) (8 + q) 1).raise 581

/-- `n` bytes of host memory from `a` lie in one enabled window of tenant `t` with the flag bit `f`: 1 DEV_READ,
2 DEV_WRITE (R471). -/
def State.hostWindow (s : State) (t f a n : Nat) : Bool :=
  (s.tenant t).wins.any (fun w => decide (w.flags % 2 = 1) && decide ((w.flags >>> f) % 2 = 1) && decide (w.base ≤ a) &&
    decide (a + n ≤ w.base + w.len))

/-- A dropped write of tenant `t` to window offset `o` (TNT_TERR). -/
def State.logTerr (s : State) (t o : Nat) (st : Status) : State :=
  (s.setReg (tntWin t 0x108) (w32 (o + st.code * 0x10000))).status st

/-- The device may issue requests on the link (R456, R489). -/
def State.linkUp (s : State) : Bool := s.tnt.busMaster && !s.tnt.flr

/-! ### Completions (Table 16-10) -/

/-- The 32 bytes of a completion entry. -/
def cplBytes (c : Cpl) (phase : Bool) (cycle : W32) : List Byte :=
  leBytes 2 c.cid ++ leBytes 1 c.status.code ++ leBytes 1 (b2n phase + 2 * b2n c.promoted + 4 * b2n c.notice) ++
    leBytes 2 c.gen ++ leBytes 2 c.sqhead ++ leBytes 4 c.len ++ leBytes 4 cycle.toNat ++
    (rangeFrom 4 0).flatMap (fun i => leBytes 4 (nth c.result i 0#32).toNat)

/-- A completion can be written or discarded now: an entry is free, or the queue is disabled (R469, Table 16-6). -/
def Qp.room (x : Qp) : Bool := decide (x.cqSize = 0) || decide (x.unread < x.cqSize)

/-- The one MSI-X message that an armed CQ asked for (R469, R488). -/
def State.armedMsix (s : State) (t q : Nat) : State :=
  let a := tntWin t (8 * q + 4)
  if bit (s.reg a) 31 then
    match s.qp t q with
    | some x => (s.setFld a 31 31 0).sendMsix ((s.tenantCfg t).vbase + x.vector)
    | none => s
  else s

/-- Write a completion to the CQ of queue pair `q`: a stale one and one for a disabled CQ are discarded; a CQ that no
window reaches puts the queue pair into error (R469, R470, R474, R486). -/
def State.writeCpl (s : State) (t q : Nat) (c : Cpl) : State :=
  match s.qp t q with
  | none => s
  | some x =>
    if c.gen ≠ s.tenantGen t then (s.tntCount t 3 1).raiseFirst 580
    else if x.cqSize = 0 then s.tntCount t 4 1
    else
      let a := x.cqBase + 32 * x.cqTail
      if !s.hostWindow t 2 a 32 then s.failQp t q
      else
        let n := (x.cqTail + 1) % x.cqSize
        let y : Qp := { x with cqTail := n, phase := if n = 0 then !x.phase else x.phase, unread := x.unread + 1 }
        ((s.writeBytes (kHost + a) (cplBytes c x.phase s.cycle)).setQp t q (some y)).armedMsix t q

/-- A REGION_LOST notice to the CQ of queue pair `q`; a full CQ discards it (section 16.5). -/
def State.notice (s : State) (t q : Nat) : State :=
  match s.qp t q with
  | none => s
  | some x =>
    if x.room && !s.qpError t q then
      s.writeCpl t q { cid := 0xFFFF, status := .ok, notice := true, promoted := false, gen := s.tenantGen t,
                       sqhead := x.sqHead, len := 0, result := [1#32] }
    else s.tntCount t 4 1

/-- Each tenant whose DREGION is among the lost ones learns it (R423, section 16.5). -/
def State.regionLost (s : State) (lost : List Nat) : State :=
  (rangeFrom 32 0).foldl (fun u t =>
    if (u.tenantCfg t).present && lost.contains (u.tenantCfg t).dregion then
      (rangeFrom 4 0).foldl (fun v q => v.notice t q) (u.setFld (A.tntTstat t) 2 2 1)
    else u) s

/-- Change the started copies that touch byte `c` of channel `x`. -/
def State.mapCopies (s : State) (x c : Nat) (f : Desc → Desc) : State :=
  let mark := fun (d : Desc) =>
    match d.dram with
    | some (k, a) => if k = x ∧ a ≤ c ∧ c < a + d.len then f d else d
    | none => d
  let tenants := s.tnt.tenants.map (fun p => (p.1, { p.2 with qps := p.2.qps.map (fun r =>
    (r.1, r.2.map (fun (y : Qp) => { y with prog := y.prog.map mark }))) }))
  { s with tnt := { s.tnt with tenants := tenants } }

/-- A DRAM request of the host DMA was promoted: the descriptors it belongs to carry the flag (R415). -/
def State.promoteCopies (s : State) (x c : Nat) : State := s.mapCopies x c (fun d => { d with promoted := true })

/-- A DRAM read of the host DMA found an uncorrectable error: the descriptor completes with REFUSED_RANGE (R428). -/
def State.refuseCopies (s : State) (x c : Nat) : State :=
  s.mapCopies x c (fun d => { d with st := .done .refusedRange 0 })

/-! ### Frames to the host (R477, R478) -/

/-- The tenant and queue pair of a HOSTQ byte, when they can receive frames. -/
def State.frameQp (s : State) (hostq : Nat) : Option (Nat × Nat × Qp) :=
  let t := hostq % 32
  let q := hostq / 32 % 4
  if s.tenantState t = 0 then none
  else
    match s.qp t q with
    | some x => if x.frame then some (t, q, x) else none
    | none => none

/-- A released frame joins the FIFO of its queue pair: `true`, or it is counted and lost (R477, R478). -/
def State.queueHost (s : State) (e hostq : Nat) (result : List W32) (live : Nat → Bool) : Bool × State :=
  match s.frameQp hostq with
  | none => (false, (s.count 0xE0428).raiseFirst 583)
  | some (t, q, x) =>
    if 32 ≤ (x.fifo.filter (fun f => live f.eg)).length then (false, s.tntCount t 2 1)
    else (true, s.setQp t q (some { x with fifo := x.fifo ++ [{ eg := e, result := result }] }))

end Sys2Proof.Machine
end

