-- ==== Sys2Proof/Machine/Drc.lean ====
section
/-! DEFINITION. The DRAM controller (chapter 14): the address map, the channel queues and their choice rule, refresh,
self-refresh, inline ECC, and the DRAM part of every region check. -/

namespace Sys2Proof.Machine

/-- Channel `x`. -/
def State.ch (s : State) (x : Nat) : DramCh := SMap.get (fun _ => DramCh.init) s.drc x

/-- The state with channel `x` replaced. -/
def State.setCh (s : State) (x : Nat) (c : DramCh) : State :=
  { s with drc := SMap.set (fun _ => DramCh.init) s.drc x c }

/-- Channel `x` is in service (TOP_CAPS.DRAM, section 14.8). -/
def State.chInService (s : State) (x : Nat) : Bool := bit (s.reg A.topCaps) (16 + x)

/-- The state code DRC_STATx.STATE: 0 OUT, 1 ACTIVE, 2 SR_AUTO, 3 SR_HELD, 4 FILLING. -/
def State.chState (s : State) (x : Nat) : Nat := s.fld (A.drcStat x) 2 0

/-- The size in bytes that DENSITY code `d` gives (Table 2-7). -/
def densityBytes (d : Nat) : Nat :=
  match d with
  | 1 => 0x20000000
  | 2 => 0x40000000
  | 3 => 0x80000000
  | 4 => 0x100000000
  | _ => 0

/-- The rank size S of channel `x` (R402). -/
def State.rankSize (s : State) (x : Nat) : Nat :=
  densityBytes (s.fld (A.drcStat x) 8 6) / (1 + s.fld (A.drcStat x) 5 5)

/-- Rank × 8 + bank of channel byte address `c` (R402). -/
def State.bankOf (s : State) (x c : Nat) : Nat :=
  let sz := s.rankSize x
  (if c < sz then 0 else 8) + ((if sz = 0 then c else c % sz) / 0x800) % 8

/-- Row of channel byte address `c` (R402). -/
def State.rowOf (s : State) (x c : Nat) : Nat :=
  let sz := s.rankSize x
  ((if sz = 0 then c else c % sz) / 0x4000) % 0x20000

/-- Rank × 8 + segment of channel byte address `c` (R421). -/
def State.segOf (s : State) (x c : Nat) : Nat :=
  let sz := s.rankSize x
  if sz = 0 then 0 else (if c < sz then 0 else 8) + (c % sz) / (sz / 8)

/-- The memory key of byte `c` of channel `x`: each loss of its segment gives it a new content (R425). -/
def State.dramKey (s : State) (x c : Nat) : Nat :=
  kDramCh x + c + SMap.get (fun _ => 0) (s.ch x).epoch (s.segOf x c) * 0x1000000000000

/-- The bytes of a region that are addressable: seven eighths with inline ECC (R426). -/
def DRegion.bytes (r : DRegion) : Nat :=
  if r.ecc then r.length * 0x100000 / 8 * 7 else r.length * 0x100000

/-- Region `r` holds the bytes `c` to `c + n - 1` of channel `x`. -/
def DRegion.holds (r : DRegion) (x c n : Nat) : Bool :=
  decide (r.channel = x) && decide (r.base * 0x100000 ≤ c) && decide (c + n ≤ r.base * 0x100000 + r.bytes)

/-- The DREGION that wholly holds an access of `n` bytes at byte `c` of channel `x` (R159). -/
def State.dregion (s : State) (x c n : Nat) : Option DRegion := s.shp.memory.dregions.find? (fun r => r.holds x c n)

/-- An access touches a poisoned granule (R428). -/
def State.poisoned (s : State) (x c n : Nat) : Bool :=
  (s.ch x).poison.any (fun g => decide (c < g + 8) && decide (g < c + n))

/-- The region rule for DRAM: the channel is in service and one DREGION holds the access (R159, R432); a secure region
is refused to the normal world; a read of a poisoned granule is refused (R428). -/
def State.dramCheck (s : State) (x c n : Nat) (read secure : Bool) : Status :=
  if !s.chInService x then .refusedRange
  else
    match s.dregion x c n with
    | none => .refusedRange
    | some r =>
      if r.secure && !secure then .refusedSecure
      else if read && s.poisoned x c n then .refusedRange
      else .ok

/-- `n` bytes at byte `c` of channel `x`. -/
def State.dramRead (s : State) (x c n : Nat) : List Byte := (rangeFrom n c).map (fun a => s.readByte (s.dramKey x a))

/-- A store clears the poison of each granule it covers wholly (R429). -/
def clearPoison (l : List Nat) (c n : Nat) : List Nat := l.filter (fun g => !(decide (c ≤ g) && decide (g + 8 ≤ c + n)))

/-- Bytes stored from byte `c` of channel `x`. -/
def State.dramWrite (s : State) (x c : Nat) (bs : List Byte) : State :=
  let s1 := { s with mem := ((rangeFrom bs.length 0).zip bs).foldl
                      (fun m (p : Nat × Byte) => SMap.set memDefault m (s.dramKey x (c + p.1)) p.2) s.mem }
  s1.setCh x { s1.ch x with poison := clearPoison (s1.ch x).poison c bs.length }

/-- Event k of channel x (Table 14-6). -/
def drcEvent (x k : Nat) : Nat := 512 + 16 * x + k

/-- Counter i of channel x. -/
def drcCtr (x i : Nat) : Nat := 0xC0100 + x * 0x400 + 8 * i

/-- A request enters the queue of channel `x`, or waits outside it while 64 are queued (R408). The bytes themselves move
at the entry: two requests that touch a common byte are performed in queue order (R410; assumption 12). -/
def State.dramEnter (s : State) (x : Nat) (ag : Agent) (cls c n : Nat) (write locked : Bool) : State :=
  let r : DramReq :=
    { agent := ag, cls := cls, addr := c, len := n, write := write, locked := locked, entry := s.time, promoted := false }
  let h := s.ch x
  if h.queue.length < 64 then
    (s.setCh x { h with queue := h.queue ++ [r] }).setFld (A.drcStat x) 22 16 (h.queue.length + 1)
  else ((s.setCh x { h with waiting := h.waiting ++ [r] }).count (drcCtr x 7)).raiseFirst (drcEvent x 12)

/-- The context whose cache line serves an access, when one does (R160, R279). -/
def State.cachedAt (s : State) (x c n : Nat) : Option Nat :=
  match s.dregion x c n with
  | some r =>
    let k := (c - r.base * 0x100000) / 512
    if r.kind = 1 ∧ s.present k = true then some k else none
  | none => none

/-- The line of a context is used; a store makes it dirty (R275). -/
def State.touchLine (s : State) (k : Nat) (write : Bool) : State :=
  match s.lk.lines.find? (fun l => decide (l.ctx = k)) with
  | some l => { s with lk := { s.lk with lines := s.lk.lines.filter (fun y => decide (y.ctx ≠ k)) ++
      [{ l with dirty := l.dirty || write }] } }
  | none => s

/-- The service class of an access to channel `x`: class 0 in the context store (R159, R160, R409). -/
def State.dramClass (s : State) (x c n : Nat) : Nat :=
  match s.dregion x c n with
  | some r => if r.kind = 1 then 0 else r.cls
  | none => 3

/-- An access of an agent to channel `x`: the cache serves it where the line is present (R279), otherwise a request
enters the queue. -/
def State.dramAccess (s : State) (x : Nat) (ag : Agent) (c n : Nat) (write locked : Bool) : State :=
  match s.cachedAt x c n with
  | some k => s.touchLine k write
  | none => s.dramEnter x ag (s.dramClass x c n) c n write locked

/-- A request is a row hit (R402). -/
def State.rowHit (s : State) (x : Nat) (r : DramReq) : Bool :=
  decide (SMap.get (fun _ => none) (s.ch x).rows (s.bankOf x r.addr) = some (s.rowOf x r.addr))

/-- A bank whose debt has reached 8 starts no request before its refresh (R418). -/
def State.bankBlocked (s : State) (x : Nat) (r : DramReq) : Bool :=
  decide (8 ≤ SMap.get (fun _ => 0) (s.ch x).debt (s.bankOf x r.addr))

/-- A request must wait for an earlier one: a common byte, or two stores of one agent (R410). -/
def mustFollow (a b : DramReq) : Bool :=
  (decide (a.addr < b.addr + b.len) && decide (b.addr < a.addr + a.len)) ||
    (a.write && b.write && decide (a.agent = b.agent))

/-- The requests that may start: none before them must go first, their region is not filling, their bank not blocked. -/
def State.startable (s : State) (x : Nat) : List DramReq → List DramReq → List DramReq
  | _, [] => []
  | before, r :: rest =>
    let filling := (s.ch x).fills.any (fun i =>
      match s.shp.memory.dregions[i]? with
      | some d => d.holds x r.addr r.len
      | none => false)
    if before.any (fun b => mustFollow b r) || filling || s.bankBlocked x r then s.startable x (before ++ [r]) rest
    else r :: s.startable x (before ++ [r]) rest

/-- The class a request is chosen under: a promoted request counts as class 0 (R414). -/
def DramReq.effClass (r : DramReq) : Nat := if r.promoted then 0 else r.cls

/-- The oldest row hit of a list, or its oldest request; after HITLIM hits past an older request, the oldest (R412). -/
def State.pickRow (s : State) (x : Nat) (l : List DramReq) : Option DramReq :=
  match l with
  | [] => none
  | o :: _ =>
    if s.fld (A.drcCtrl x) 11 8 ≤ (s.ch x).hits then some o
    else
      match l.find? (s.rowHit x) with
      | some h => some h
      | none => some o

/-- The request that the channel starts next (R412, R413). -/
def State.pickRequest (s : State) (x : Nat) : Option DramReq :=
  let l := s.startable x [] (s.ch x).queue
  if bit (s.reg (A.drcCtrl x)) 0 then
    let low := l.foldl (fun m r => min m r.effClass) 4
    s.pickRow x (l.filter (fun r => decide (r.effClass = low)))
  else s.pickRow x l

/-- DRAM_REQUEST_START: the chosen request leaves the queue and opens its row; a waiting request enters (R408, R412). -/
def execDramRequestStart (x : Fin 2) (s : State) : Host.Outcome State Fault Refusal :=
  match s.pickRequest x with
  | none => .next s
  | some r =>
    let h := s.ch x
    let hit := s.rowHit x r
    let passed := decide (h.queue.head? ≠ some r)
    let q := h.queue.erase r ++ h.waiting.take 1
    let h' : DramCh :=
      { h with queue := q, waiting := h.waiting.drop 1, active := h.active ++ [r],
               hits := if hit && passed then h.hits + 1 else 0,
               rows := SMap.set (fun _ => none) h.rows (s.bankOf x r.addr) (some (s.rowOf x r.addr)) }
    let s1 := (s.setCh x h').setFld (A.drcStat x) 22 16 q.length
    .next (if hit then s1.count (drcCtr x 2) else s1)

/-- Poison the granule of channel byte `c` (R428). -/
def State.poisonAt (s : State) (x c : Nat) : State :=
  let g := c / 8 * 8
  let h := s.ch x
  let s1 := s.setCh x { h with poison := if h.poison.contains g then h.poison else h.poison ++ [g] }
  (((s1.count (drcCtr x 6)).setReg (A.drcPoison x) (w32 (g / 8))).raise (drcEvent x 3))

/-- A single-bit error is corrected (R427). -/
def State.correctAt (s : State) (x : Nat) : State := (s.count (drcCtr x 5)).raiseFirst (drcEvent x 2)

/-- Byte `c` of channel `x` lies in the addressable part of a region with inline ECC (R427). -/
def State.eccAt (s : State) (x c : Nat) : Bool := s.shp.memory.dregions.any (fun r => r.ecc && r.holds x c 1)

/-- The slot that agent `ag` names. -/
def agentSlot (ag : Agent) : Option Nat :=
  if isThread ag then some (ag.toNat - 1) else if isWarden ag then some (512 + (ag.toNat - 0x7F0)) else none

/-- A read that found an uncorrectable error is refused to its requester: a held thread load faults when its hold
ends (R428). -/
def State.refuseRead (s : State) (ag : Agent) : State :=
  match agentSlot ag with
  | none => s
  | some w =>
    match (s.slot w).held with
    | none => s
    | some h => s.setSlot w { s.slot w with held := some { h with poisoned := true } }

/-- DRAM_REQUEST_COMPLETE: the oldest started request completes to its requester; `ecc` is what the read of a region
with inline ECC found: 0 no error, 1 a single-bit error, 2 an uncorrectable error (R415, R427, R428). -/
def execDramRequestComplete (x : Fin 2) (ecc : Fin 3) (s : State) : Host.Outcome State Fault Refusal :=
  match (s.ch x).active with
  | [] => .next s
  | r :: rest =>
    let s1 := (s.setCh x { s.ch x with active := rest, idleSince := s.time }).count (drcCtr x (if r.write then 1 else 0))
    let k := agKey r.agent A.drcAgstat
    let s2 := s1.setReg k (setBits (setBits (s1.reg k) 8 8 (b2n r.promoted)) 7 0
      (if r.promoted then min 255 (s1.fld k 7 0 + 1) else s1.fld k 7 0))
    let s2 := if r.locked && isHost r.agent then s2.setFld (agKey r.agent A.sauAstat) 9 9 (b2n r.promoted) else s2
    .next (if r.write || !s.eccAt x r.addr then s2
      else if ecc = 1 then s2.correctAt x
      else if ecc = 2 then (if r.agent = 0x606#12 then (s2.poisonAt x r.addr).refuseCopies x r.addr
        else (s2.poisonAt x r.addr).refuseRead r.agent)
      else s2)

/-- The age limit of class `c` on channel `x` (R414). -/
def State.ageLimit (s : State) (x c : Nat) : Nat :=
  match c with
  | 1 => s.fld (A.drcAgelim1 x) 23 0
  | 2 => s.fld (A.drcAgelim2 x) 23 0
  | _ => s.fld (A.drcAgelim3 x) 23 0

/-- REQUEST_PROMOTION: queued request `k` of class 1 or more reaches its age limit in CLASS mode (R414, R415). -/
def execRequestPromotion (x : Fin 2) (k : Fin 64) (s : State) : Host.Outcome State Fault Refusal :=
  match (s.ch x).queue[k.val]? with
  | none => .next s
  | some r =>
    if !bit (s.reg (A.drcCtrl x)) 0 || decide (r.cls = 0) || r.promoted then .next s
    else
      let s1 := s.advance (r.entry + s.ageLimit x r.cls)
      let s2 := s1.setCh x { s1.ch x with queue := (s1.ch x).queue.set k.val { r with promoted := true } }
      let s3 := if r.agent = 0x606#12 then s2.promoteCopies x r.addr else s2
      .next ((s3.count (drcCtr x 3)).raiseFirst (drcEvent x 4))

/-- REFRESH_PER_BANK: the bank is refreshed and its row closed if no request for it is queued; otherwise its debt rises
(R417, R418). -/
def execRefreshPerBank (x : Fin 2) (bank : Fin 16) (s : State) : Host.Outcome State Fault Refusal :=
  let h := s.ch x
  let d := SMap.get (fun _ => 0) h.debt bank.val
  if h.queue.any (fun r => decide (s.bankOf x r.addr = bank.val)) then
    .next (s.setCh x { h with debt := SMap.set (fun _ => 0) h.debt bank.val (min 8 (d + 1)) })
  else
    .next (s.setCh x { h with debt := SMap.set (fun _ => 0) h.debt bank.val (d - 1),
                              rows := SMap.set (fun _ => none) h.rows bank.val none })

/-- FORCED_REFRESH: a bank whose debt has reached 8 is closed and refreshed at once (R418). -/
def execForcedRefresh (x : Fin 2) (bank : Fin 16) (s : State) : Host.Outcome State Fault Refusal :=
  let h := s.ch x
  let d := SMap.get (fun _ => 0) h.debt bank.val
  if d < 8 then .next s
  else
    let s1 := s.setCh x { h with debt := SMap.set (fun _ => 0) h.debt bank.val (d - 1),
                                 rows := SMap.set (fun _ => none) h.rows bank.val none }
    .next ((s1.count (drcCtr x 4)).raiseFirst (drcEvent x 5))

/-- MR4_POLL: the refresh rate follows MR4 (0 1×, 1 2×, 2 4×); above the operating limit it stays at 4× (R419). -/
def execMr4Poll (x : Fin 2) (rate : Fin 3) (hot : Bool) (s : State) : Host.Outcome State Fault Refusal :=
  let r := if hot then 2 else rate.val
  let s1 := s.setFld (A.drcStat x) 12 11 r
  let s2 := if s.fld (A.drcStat x) 12 11 = r then s1 else s1.raise (drcEvent x 6)
  .next (if hot then s2.raise (drcEvent x 7) else s2)

/-- ZQ_CALIBRATION_START: a calibration start is issued to each rank of a channel in service (R406). -/
def execZqCalibrationStart (x : Fin 2) (s : State) : Host.Outcome State Fault Refusal :=
  if s.chInService x then .next (s.setCh x { s.ch x with zq := true }) else .next s

/-- ZQ_LATCH: the result is latched, or discarded when it lies outside the memory's range (R406). -/
def execZqLatch (x : Fin 2) (inRange : Bool) (s : State) : Host.Outcome State Fault Refusal :=
  if (s.ch x).zq then
    let s1 := s.setCh x { s.ch x with zq := false }
    .next (if inRange then s1 else s1.raise (drcEvent x 13))
  else .next s

/-- SELF_REFRESH_AUTO_ENTRY: after SRIDLE µs with an empty queue the channel enters SR_AUTO (R420). -/
def execSelfRefreshAutoEntry (x : Fin 2) (s : State) : Host.Outcome State Fault Refusal :=
  let idle := s.fld (A.drcCtrl x) 31 16
  if s.chState x = 1 ∧ (s.ch x).queue = [] ∧ (s.ch x).active = [] ∧ idle ≠ 0xFFFF then
    .next (((s.advance ((s.ch x).idleSince + idle * 1000)).setFld (A.drcStat x) 2 0 2).raise (drcEvent x 8))
  else .next s

/-- SELF_REFRESH_EXIT: a request wakes a channel from SR_AUTO (R420). -/
def execSelfRefreshExit (x : Fin 2) (s : State) : Host.Outcome State Fault Refusal :=
  if s.chState x = 2 ∧ (s.ch x).queue ≠ [] then .next (s.setCh x { s.ch x with exiting := true }) else .next s

/-- SR_AUTO_EXIT_COMPLETE: the woken channel becomes ACTIVE and serves the waiting request; the debts return to 0
(R420, section 14.5 Edges). -/
def execSrAutoExitComplete (x : Fin 2) (s : State) : Host.Outcome State Fault Refusal :=
  if s.chState x = 2 ∧ (s.ch x).exiting = true then
    .next (((s.setCh x { s.ch x with exiting := false, debt := [] }).setFld (A.drcStat x) 2 0 1).raise (drcEvent x 9))
  else .next s

/-- The bytes of channel `x` from `lo` to below `hi` overlap a masked segment (R421). -/
def State.maskCovers (s : State) (x mask lo hi : Nat) : Bool :=
  let sz := s.rankSize x
  (rangeFrom 16 0).any (fun g =>
    decide ((mask >>> g) % 2 = 1) &&
      decide (lo < (g / 8) * sz + (g % 8 + 1) * (sz / 8)) && decide ((g / 8) * sz + (g % 8) * (sz / 8) < hi))

/-- A DREGION overlaps a masked segment. -/
def State.regionMasked (s : State) (x mask : Nat) (r : DRegion) : Bool :=
  decide (r.channel = x) && s.maskCovers x mask (r.base * 0x100000) ((r.base + r.length) * 0x100000)

/-- What refuses a CMD ENTER (R422). -/
def State.srEnterStatus (s : State) (x mask : Nat) : Status :=
  if s.shp.memory.dregions.any (fun r => decide (r.kind = 1) && decide (r.channel = x)) then .refusedRights
  else if s.shp.memory.dregions.any (fun r => r.secure && s.regionMasked x mask r) then .refusedSecure
  else if s.chState x ≠ 1 ∧ s.chState x ≠ 2 then .refusedNotReady
  else .ok

/-- SR_ENTER: CMD ENTER with a segment mask stops admission; the channel is out of service from here (R421, R422). -/
def execSrEnter (ag : Agent) (x : Fin 2) (mask : BitVec 16) (s : State) : Host.Outcome State Fault Refusal :=
  if !isBoss ag then .next (s.refuse ag (A.drcSr x) .refusedRights)
  else if s.regOff (A.drcSr x) then .next (s.refuse ag (A.drcSr x) .refusedNotReady)
  else
    let st := s.srEnterStatus x mask.toNat
    let s1 := s.setFld (A.drcSr x) 31 24 st.code
    if st = .ok then
      let s2 := s1.setFld (A.drcSr x) 23 8 mask.toNat
      let s3 := s2.setReg A.topCaps (setBit (s2.reg A.topCaps) (16 + x) false)
      .next (((s3.setCh x { s3.ch x with entering := true, mask := mask.toNat }).raise (drcEvent x 1)).status .ok)
    else .next (s1.status st)

/-- The numbers of the DREGIONs that satisfy `p`. -/
def State.regionsWhere (s : State) (p : DRegion → Bool) : List Nat :=
  (rangeFrom s.shp.memory.dregions.length 0).filter (fun i =>
    match s.shp.memory.dregions[i]? with
    | some r => p r
    | none => false)

/-- Bits set in a word for each number of a list. -/
def setAll (w : W32) (l : List Nat) : W32 := l.foldl (fun a i => setBit a i true) w

/-- New contents for each masked segment (R425). -/
def loseSegments (mask : Nat) (e : SMap Nat) : SMap Nat :=
  (rangeFrom 16 0).foldl (fun m g =>
    if (mask >>> g) % 2 = 1 then SMap.set (fun _ => 0) m g (SMap.get (fun _ => 0) m g + 1) else m) e

/-- SR_HELD_ENTERED: the drained channel enters self-refresh with its mask, and every region in a masked segment is
lost (R421, R423). -/
def execSrHeldEntered (x : Fin 2) (s : State) : Host.Outcome State Fault Refusal :=
  let h := s.ch x
  if h.entering = true ∧ h.queue = [] ∧ h.active = [] then
    let mask := h.mask
    let lost := s.regionsWhere (s.regionMasked x mask)
    let s1 := (s.setCh x { h with entering := false, epoch := loseSegments mask h.epoch }).setFld (A.drcStat x) 2 0 3
    let s2 := s1.setReg A.drcLost (setAll (s1.reg A.drcLost) lost)
    let s3 := s2.raise (drcEvent x 8)
    .next (if lost = [] then s3 else (s3.regionLost lost).raise (drcEvent x 10))
  else .next s

/-- SR_EXIT: CMD EXIT begins the exit from SR_HELD (R424). -/
def execSrExit (ag : Agent) (x : Fin 2) (s : State) : Host.Outcome State Fault Refusal :=
  if !isBoss ag then .next (s.refuse ag (A.drcSr x) .refusedRights)
  else if s.regOff (A.drcSr x) then .next (s.refuse ag (A.drcSr x) .refusedNotReady)
  else
    let st : Status := if s.chState x = 3 then .ok else .refusedNotReady
    let s1 := s.setFld (A.drcSr x) 31 24 st.code
    if st = .ok then .next ((s1.setCh x { s1.ch x with exiting := true }).status .ok)
    else .next (s1.status st)

/-- Lost trace rings start again at offset 0, and the next chunk of each stream carries GAP (section 17.3, Edges). -/
def State.ringsLost (s : State) (lost : List Nat) : State :=
  let rings := lost.filter (fun i => match s.shp.memory.dregions[i]? with
    | some r => decide (r.kind = 4)
    | none => false)
  if rings = [] then s
  else
    let s1 := rings.foldl (fun u i => (u.setReg (A.fulRpos i) 0#32).setReg (A.fulRwrap i) 0#32) s
    { s1 with ful := { s1.ful with streams := (rangeFrom 64 0).foldl (fun m k =>
        let x := SMap.get (fun _ => Stream.init) m k
        SMap.set (fun _ => Stream.init) m k { x with gap := true }) s1.ful.streams } }

/-- SR_EXIT_COMPLETE: the channel returns to service; its lost regions with inline ECC are filled first (R424). -/
def execSrExitComplete (x : Fin 2) (s : State) : Host.Outcome State Fault Refusal :=
  let h := s.ch x
  if s.chState x = 3 ∧ h.exiting = true ∧ s.regOff (A.drcSr x) = false then
    let mask := h.mask
    let fills := s.regionsWhere (fun r => r.ecc && s.regionMasked x mask r)
    let s1 := s.setCh x { h with exiting := false, debt := [], fills := h.fills ++ fills, idleSince := s.time }
    let s2 := s1.setFld (A.drcStat x) 2 0 (if h.fills ++ fills = [] then 1 else 4)
    .next (((s2.setReg A.topCaps (setBit (s2.reg A.topCaps) (16 + x) true)).ringsLost
      (s.regionsWhere (s.regionMasked x mask))).raise (drcEvent x 9))
  else .next s

/-- Zero bytes over `n` bytes from byte `c` of channel `x` (R430). -/
def State.zeroDram (s : State) (x c : Nat) : Nat → State
  | 0 => s
  | n + 1 => (s.writeByte (s.dramKey x (c + n)) 0#8).zeroDram x c n

/-- ZERO_FILL_COMPLETE: the fill of DREGION `r` ends; its poison is gone and its requests proceed (R430). -/
def execZeroFillComplete (x : Fin 2) (r : Fin 32) (s : State) : Host.Outcome State Fault Refusal :=
  let h := s.ch x
  match h.fills.contains r.val, s.shp.memory.dregions[r.val]? with
  | true, some d =>
    let s1 := s.zeroDram x (d.base * 0x100000) d.bytes
    let rest := h.fills.erase r.val
    let s2 := s1.setCh x { h with fills := rest, poison := clearPoison h.poison (d.base * 0x100000) d.bytes }
    .next (if rest = [] then
        (if s.chState x = 4 then s2.setFld (A.drcStat x) 2 0 1 else s2).raise (drcEvent x 11)
      else s2)
  | _, _ => .next s

/-- The addressable bytes of the ECC regions of channel `x`, and the channel byte address of byte `p` among them. -/
def eccByte (x : Nat) : List DRegion → Nat → Option Nat
  | [], _ => none
  | r :: rest, p =>
    if r.ecc && decide (r.channel = x) then
      (if p < r.bytes then some (r.base * 0x100000 + p) else eccByte x rest (p - r.bytes))
    else eccByte x rest p

/-- SCRUB_READ: the patrol scrub reads its next granule and corrects or poisons it; `ecc` as in
DRAM_REQUEST_COMPLETE (R431). -/
def execScrubRead (x : Fin 2) (ecc : Fin 3) (s : State) : Host.Outcome State Fault Refusal :=
  if bit (s.reg (A.drcScrub x)) 0 && s.chInService x then
    let h := s.ch x
    match eccByte x s.shp.memory.dregions h.scrubPos with
    | none => .next (s.setCh x { h with scrubPos := 0 })
    | some c =>
      let s1 := s.setCh x { h with scrubPos := h.scrubPos + 8 }
      .next (if ecc = 1 then s1.correctAt x else if ecc = 2 then s1.poisonAt x c else s1)
  else .next s

end Sys2Proof.Machine
end

