-- ==== Sys2Proof/Machine/Regions.lean ====
section
/-! DEFINITION. Region checks of shared SRAM, stores to shared SRAM with the watch slots that observe them, and the
atomic operations (chapter 06, section 6.6; chapter 15, sections 15.5 and 15.6). -/

namespace Sys2Proof.Machine

/-- The SREGION that wholly holds an access of `n` bytes at offset `o`. -/
def State.sregion (s : State) (o n : Nat) : Option SRegion :=
  s.shp.memory.sregions.find? (fun r => decide (r.base ≤ o) && decide (o + n ≤ r.base + r.length))

/-- An access touches the secure shared-SRAM partition (R157). -/
def State.secureSram (s : State) (o n : Nat) : Bool :=
  decide (s.shp.secure.ssBase < o + n) && decide (o < s.shp.secure.ssBase + s.shp.secure.ssLen)

/-- Why a thread of pound `p` may not access shared SRAM: 0 it may, 1 RANGE, 2 RIGHTS, 3 SECURE (Tables 6-4 and 6-8,
R157, R177). -/
def State.sramKind (s : State) (p o n : Nat) (load store : Bool) : Nat :=
  if s.secureSram o n then 3
  else
    match s.sregion o n with
    | none => 1
    | some r => if (load && !r.read.getLsbD p) || (store && !r.write.getLsbD p) then 2 else 0

/-- Shared SRAM that the manager sees (R459). -/
def State.sramVisible (s : State) (o n : Nat) : Bool :=
  match s.sregion o n with
  | some r => decide (r.kind = 2)
  | none => false

/-- Agent `ag` may read the shared-SRAM bytes (R448, R453, R157; a warden slot reads all of it). -/
def State.sramReadable (s : State) (ag : Agent) (o n : Nat) : Bool :=
  if isWarden ag then true
  else if ag = agManager then s.sramVisible o n
  else
    match s.poundNo ag with
    | some p => decide (s.sramKind p o n true false = 0)
    | none => false

/-! ### Watch slots (section 15.5) -/

/-- The condition of watch slot `w` for a target that holds `v`; `changed` says that it has just changed (R449). -/
def State.watchHolds (s : State) (w : Nat) (v : W32) (changed : Bool) : Bool :=
  let c := s.reg (A.sauWctl w)
  match bits c 17 16 with
  | 0 => decide (bits v 11 0 = 0)
  | 1 => changed
  | _ => decide (v = s.reg (A.sauWval w))

/-- Watch slot `w` fires with the target's value `v` (R449). -/
def State.watchFire (s : State) (w : Nat) (v : W32) : State :=
  let c := s.reg (A.sauWctl w)
  let f := A.sauWfired (w / 32)
  let s1 := ((s.setReg (A.sauWctl w) (setBit c 31 false)).setReg f (setBit (s.reg f) (w % 32) true)).count 0xD2918
  let s2 :=
    if bit c 18 then
      s1.postOr (bits c 15 0) v .ok (fun t => { t with sau := { t.sau with retry := t.sau.retry ++
        [{ src := w, tag := bits c 15 0, value := v, status := .ok, retried := false }] } })
    else s1
  if bit c 19 then s2.raise (552 + w / 8) else s2

/-- A target has changed from `old` to `new`: each armed watch slot of a list that watches it and whose condition holds
fires (R449). `tgt` is the WTGT word of the target. -/
def watchChange (tgt old new : W32) : List Nat → State → State
  | [], s => s
  | w :: rest, s =>
    let hit := bit (s.reg (A.sauWctl w)) 31 && decide (s.reg (A.sauWtgt w) = tgt) && decide (old ≠ new) &&
      s.watchHolds w new true
    watchChange tgt old new rest (if hit then s.watchFire w new else s)

/-- The WTGT word of a shared-SRAM word (KIND 1). -/
def wordTarget (o : Nat) : W32 := w32 (o / 4 * 4 + 1)

/-- The WTGT word of a semaphore (KIND 0). -/
def semTarget (n : Nat) : W32 := w32 (n * 4)

/-- The armed watch slots. -/
def State.armedWatches (s : State) : List Nat := (rangeFrom 64 0).filter (fun w => bit (s.reg (A.sauWctl w)) 31)

/-- Tell the watch slots of the changes of a list of shared-SRAM words, given with their old values. -/
def watchWords (ws : List Nat) : List (Nat × W32) → State → State
  | [], s => s
  | (o, old) :: rest, s => watchWords ws rest (watchChange (wordTarget o) old (w32 (s.readLE (kShared + o) 4)) ws s)

/-- A store of `n` bytes at `o` touches the staging region that a delta has locked (R58). -/
def State.sramLocked (s : State) (o n : Nat) : Bool :=
  decide (s.shp.lockBase < o + n) && decide (o < s.shp.lockBase + s.shp.lockLen)

/-- Store bytes at shared-SRAM offset `o`: every path that changes a watched word counts (R449); a store to a locked staging
region is dropped (R58). -/
def State.sramWrite (s : State) (o : Nat) (bs : List Byte) : State :=
  let ws := s.armedWatches
  let s1 := s.writeBytes (kShared + o) bs
  if s.sramLocked o bs.length then s
  else if ws = [] then s1
  else
    let words := ((rangeFrom (bs.length / 4 + 2) 0).map (fun i => (o / 4 + i) * 4)).filter (fun a => decide (a < o + bs.length))
    watchWords ws (words.map (fun a => (a, w32 (s.readLE (kShared + a) 4)))) s1

/-! ### Atomic operations (Tables 7-8 and 15-4) -/

/-- The new value of an atomic operation on an `n`-bit word `m` with operand `x` and compare value `c`. -/
def atomicNew (func n m x c : Nat) : Nat :=
  match func with
  | 0 | 7 => (m + x) % 2 ^ n
  | 1 => x
  | 2 => if m = c then x else m
  | 3 => if sextNat n x < sextNat n m then x else m
  | 4 => if sextNat n m < sextNat n x then x else m
  | 5 => min m x
  | _ => max m x

/-- FUNC and SIZE form an operation of Table 15-4; SIZE codes are those of Table 7-8. -/
def atomicSized (func size : Nat) : Bool :=
  if func = 7 then decide (size = 2) else decide (func < 7) && decide (size < 2)

/-- Bytes of an atomic SIZE code. -/
def atomicBytes (size : Nat) : Nat := 4 * 2 ^ size

/-- An atomic operation on shared SRAM: the old value and the state after it (R451). -/
def State.sramAtomic (s : State) (o func n x c : Nat) : Nat × State :=
  let m := s.readLE (kShared + o) n
  (m, s.sramWrite o (leBytes n (atomicNew func (8 * n) m x c)))

/-- An atomic operation on channel `ch`: a locked read and write (R411). -/
def State.dramAtomic (s : State) (ch a func n x c : Nat) (ag : Agent) : Nat × State :=
  let m := leNat (s.dramRead ch a n)
  (m, (s.dramAccess ch ag a n true true).dramWrite ch a (leBytes n (atomicNew func (8 * n) m x c)))

end Sys2Proof.Machine
end

