-- ==== Sys2Proof/Machine/Sau.lean ====
section
/-! DEFINITION. The semaphore and atomic unit (chapter 15): claims, releases, owner death, watch slots and the host
atomic operations. -/

namespace Sys2Proof.Machine

/-! ### Rights (Table 15-2) -/

/-- A hardware agent (Table 0-6). -/
def isHardware (a : Agent) : Bool := decide (0x600 ≤ a.toNat ∧ a.toNat ≤ 0x60F)

/-- Group `g` is secure (R440). -/
def State.groupSecure (s : State) (g : Nat) : Bool := bit (s.reg (A.sauGrp g)) 20

/-- The right of an agent to group `g`: OK, or the status that refuses it (Table 15-2). -/
def State.groupRight (s : State) (ag : Agent) (g : Nat) : Status :=
  if isHardware ag then .refusedRights
  else if isWarden ag then (if s.groupSecure g then .ok else .refusedRights)
  else if s.groupSecure g then .refusedSecure
  else if ag = agManager then .ok
  else if isTenant ag then
    match s.shp.tenants[ag.toNat - 0x400]? with
    | some t => if bit t.semGroups g then .ok else .refusedRights
    | none => .refusedRights
  else
    match s.poundNo ag with
    | some p => if bit (s.reg (A.sauGrp g)) p then .ok else .refusedRights
    | none => .refusedRights

/-- Refuse an access for want of rights: EV547 once in each cycle, and EV548 for a secure group (R440). -/
def State.refuseGroup (s : State) (ag : Agent) (a : Nat) (st : Status) : State :=
  let s1 := (s.refuse ag a st).raiseFirst 547
  if st = .refusedSecure then s1.raise 548 else s1

/-! ### Semaphores (section 15.1) -/

/-- OWNER of semaphore `n`; 0 means free (R434). -/
def State.semOwner (s : State) (n : Nat) : Nat := s.fld (A.sauSem n) 11 0

/-- Semaphore `n` is DEAD. -/
def State.semDead (s : State) (n : Nat) : Bool := bit (s.reg (A.sauSem n)) 13

/-- Agent `ag` owns semaphore `n` (R436). -/
def State.semOwned (s : State) (ag : Agent) (n : Nat) : Bool :=
  decide (s.semOwner n = ag.toNat) && !s.semDead n

/-- The state with the state word and the tags of semaphore `n` replaced; the watch slots see the change. -/
def State.setSem (s : State) (n : Nat) (v tags : W32) : State :=
  watchChange (semTarget n) (s.reg (A.sauSem n)) v s.armedWatches
    ((s.setReg (A.sauSem n) v).setReg (A.sauTag n) tags)

/-- What a claim finds and does (Table 15-1). -/
def State.claim (s : State) (ag : Agent) (n : Nat) (tag : Nat) : Status × State :=
  let w := s.reg (A.sauSem n)
  if s.semOwner n = 0 ∧ s.semDead n = false then
    (if bit w 12 then .abandoned else .ok,
      (s.setSem n (setBits w 11 0 ag.toNat) (setBits (s.reg (A.sauTag n)) 15 0 tag)).count 0xD2900)
  else if s.semOwned ag n then (.ok, s)
  else (.refusedNotReady, s.count 0xD2908)

/-- SEMAPHORE_CLAIM: a write of SAU_SEMn by `ag` (R435, R438, R440). -/
def execSemaphoreClaim (ag : Agent) (n : Fin 512) (v : W32) (s : State) : Host.Outcome State Fault Refusal :=
  let a := A.sauSem n
  if !s.reaches ag 0x0D && !isHardware ag then .next (s.refuse ag a (reachStatus s ag))
  else
    let st := s.groupRight ag (n / 16)
    if st = .ok then
      let p := s.claim ag n (bits v 15 0)
      .next (p.2.status p.1)
    else .next ((s.count 0xD2908).refuseGroup ag a st)

/-- SEMAPHORE_RELEASE: SAU_RELn with OP 1; only the owner releases (R437). -/
def execSemaphoreRelease (ag : Agent) (n : Fin 512) (s : State) : Host.Outcome State Fault Refusal :=
  if s.semOwned ag n then .next ((s.setSem n 0#32 0#32).status .ok)
  else .next (s.refuse ag (A.sauRel n) .refusedRights)

/-- SEMAPHORE_ACKNOWLEDGE: SAU_RELn with OP 2; ABANDONED and LAST become 0 and the semaphore stays held (R437). -/
def execSemaphoreAcknowledge (ag : Agent) (n : Fin 512) (s : State) : Host.Outcome State Fault Refusal :=
  if s.semOwned ag n then
    .next ((s.setSem n (w32 ag.toNat) (setBits (s.reg (A.sauTag n)) 31 16 0)).status .ok)
  else .next (s.refuse ag (A.sauRel n) .refusedRights)

/-- An agent may force-release and write the groups of semaphore group `g` (R441, R444). -/
def State.groupMaster (s : State) (ag : Agent) (g : Nat) : Bool :=
  if s.groupSecure g then isWarden ag else decide (ag = agManager)

/-- A semaphore freed as ABANDONED from its owner (R442, R444). -/
def State.abandon (s : State) (n : Nat) : State :=
  s.setSem n (w32 (0x1000 + s.semOwner n * 0x10000)) (w32 (s.fld (A.sauTag n) 15 0 * 0x10000))

/-- FORCE_RELEASE: a write of semaphore `n` to SAU_FORCE (R444). -/
def execForceRelease (ag : Agent) (n : Fin 512) (s : State) : Host.Outcome State Fault Refusal :=
  let st : Status :=
    if !s.groupMaster ag (n / 16) then .refusedRights
    else if s.semOwner n = 0 then .refusedNotReady
    else .ok
  let s1 := s.setFld A.sauForce 31 24 st.code
  let k := A.sauStuck (n / 32)
  if st = .ok then
    .next ((((s1.abandon n).setReg k (setBit (s1.reg k) (n % 32) false)).raise 546).status .ok)
  else if st = .refusedRights then .next (s1.refuse ag A.sauForce st)
  else .next (s1.status st)

/-- GROUP_WRITE: a write of SAU_GRPg changes POUNDS and POLICY (R441). -/
def execGroupWrite (ag : Agent) (g : Fin 32) (v : W32) (s : State) : Host.Outcome State Fault Refusal :=
  let a := A.sauGrp g
  if s.groupMaster ag g then
    .next ((s.setReg a (setBits (setBits (s.reg a) 15 0 (bits v 15 0)) 21 21 (bits v 21 21))).status .ok)
  else .next (s.refuse ag a .refusedRights)

/-! ### Owner death (section 15.3) -/

/-- One semaphore of a dead agent follows its group's policy (R442, R443). -/
def State.semDeath (s : State) (ag : Agent) (event n : Nat) : State :=
  let d := w32 (n + event * 0x200 + ag.toNat * 0x1000)
  let s1 := (s.setReg A.sauDeath d).count 0xD2910
  let k := A.sauStuck (n / 32)
  if bit (s.reg (A.sauGrp (n / 16))) 21 then
    ((s1.setSem n (setBit (s1.reg (A.sauSem n)) 13 true) (s1.reg (A.sauTag n))).setReg k
      (setBit (s1.reg k) (n % 32) true)).raise 545
  else (s1.abandon n).raise 544

/-- Agent `ag` dies at event `event` of SAU_DEATH.EVENT: each semaphore it holds follows its policy (Table 15-3). -/
def State.agentDies (s : State) (ag : Agent) (event : Nat) : State :=
  ((rangeFrom 512 0).filter (fun n => s.semOwned ag n)).foldl (fun t n => t.semDeath ag event n) s

/-- The watch slots armed by an agent are disarmed without firing (R450). -/
def State.disarmAgent (s : State) (ag : Agent) : State :=
  (s.armedWatches.filter (fun w => decide (s.fld (A.sauWstat w) 11 0 = ag.toNat))).foldl
    (fun t w => t.setFld (A.sauWctl w) 31 31 0) s

/-! ### Watch slots (section 15.5) -/

/-- What refuses the arm of a watch slot (R448, R31). -/
def State.watchArmStatus (s : State) (ag : Agent) (w : Nat) (v : W32) : Status :=
  let t := s.reg (A.sauWtgt w)
  if bit (s.reg (A.sauWctl w)) 31 && decide (s.fld (A.sauWstat w) 11 0 ≠ ag.toNat) && !isBoss ag then .refusedNotReady
  else if bits v 17 16 = 3 then .refusedRange
  else if !bit t 0 then
    (if bits t 21 2 < 512 then s.groupRight ag (bits t 21 2 / 16) else .refusedRange)
  else if isTenant ag then .refusedRights
  else if s.sramReadable ag (bits t 21 2 * 4) 4 then .ok
  else .refusedRange

/-- The value of the target of watch slot `w`. -/
def State.watchTarget (s : State) (w : Nat) : W32 :=
  let t := s.reg (A.sauWtgt w)
  if bit t 0 then w32 (s.readLE (kShared + bits t 21 2 * 4) 4) else s.reg (A.sauSem (bits t 21 2))

/-- WATCH_ARM: SAU_WCTLw with ARM 1 (R448); a condition that already holds fires the slot at once (R449). -/
def execWatchArm (ag : Agent) (w : Fin 64) (v : W32) (s : State) : Host.Outcome State Fault Refusal :=
  if !s.reaches ag 0x0D then .next (s.refuse ag (A.sauWctl w) (reachStatus s ag))
  else
    let st := s.watchArmStatus ag w v
    let s1 := s.setFld (A.sauWstat w) 31 24 st.code
    if st = .ok then
      let s2 := (s1.setReg (A.sauWctl w) (w32 (bits v 19 0 + 0x80000000))).setFld (A.sauWstat w) 11 0 ag.toNat
      let x := s2.watchTarget w
      .next ((if s2.watchHolds w x false then s2.watchFire w x else s2).status .ok)
    else if st = .refusedRights ∨ st = .refusedSecure then .next (s1.refuse ag (A.sauWctl w) st)
    else .next (s1.status st)

/-- WATCH_DISARM: SAU_WCTLw with ARM 0 writes the fields and disarms the slot (R448); another agent's armed slot is left
alone unless the manager or a warden slot writes. -/
def execWatchDisarm (ag : Agent) (w : Fin 64) (v : W32) (s : State) : Host.Outcome State Fault Refusal :=
  if !s.reaches ag 0x0D then .next (s.refuse ag (A.sauWctl w) (reachStatus s ag))
  else if bit (s.reg (A.sauWctl w)) 31 && decide (s.fld (A.sauWstat w) 11 0 ≠ ag.toNat) && !isBoss ag then
    .next ((s.setFld (A.sauWstat w) 31 24 Status.refusedNotReady.code).status .refusedNotReady)
  else .next ((s.setReg (A.sauWctl w) (w32 (bits v 19 0))).status .ok)

/-- WATCH_TOKEN_RETRY: the refused watch tokens are posted again; the first retry of one raises EV549 (R449). -/
def execWatchTokenRetry (s : State) : Host.Outcome State Fault Refusal :=
  let p := repostAll s.sau.retry s
  let s1 := { p.2.2 with sau := { p.2.2.sau with retry := p.2.1 } }
  .next (if p.1 then s1.raise 549 else s1)

/-! ### Host atomic operations (section 15.6) -/

/-- A number of 64 or 128 bits in the agent's words of a register array, lower word first. -/
def State.agWords (s : State) (ag : Agent) (a : Nat → Nat) (first n : Nat) : Nat :=
  leNat ((rangeFrom n first).flatMap (fun i => leBytes 4 (s.reg (agKey ag (a i))).toNat))

/-- Where a host atomic operation acts: shared SRAM at an offset (`none`), or a channel and its byte (R453); refused
otherwise. -/
def State.atomicTarget (s : State) (ag : Agent) (n : Nat) : Option (Option Nat × Nat) :=
  let a := (s.reg (agKey ag A.sauAaddr)).toNat
  if a % n ≠ 0 then none
  else if isTenant ag then
    match s.shp.tenants[ag.toNat - 0x400]? with
    | none => none
    | some t =>
      match s.shp.memory.dregions[t.dregion]? with
      | none => none
      | some r =>
        if t.present && r.tenantVisible && decide (a + n ≤ r.bytes) && s.chInService r.channel then
          some (some r.channel, r.base * 0x100000 + a)
        else none
  else
    match s.fld (agKey ag A.sauAtgt) 1 0 with
    | 0 => if s.sramVisible a n then some (none, a) else none
    | 1 => if s.dramCheck 0 a n false false = .ok then some (some 0, a) else none
    | 2 => if s.dramCheck 1 a n false false = .ok then some (some 1, a) else none
    | _ => none

/-- The state with a number stored in the agent's ARES words. -/
def State.setAres (s : State) (ag : Agent) (v : Nat) : State :=
  (rangeFrom 4 0).foldl (fun t i => t.setReg (agKey ag (A.sauAres i)) (w32 (v / 0x100000000 ^ i))) s

/-- A write of SAU_ACMD with FUNC and SIZE by the manager or a tenant (R452, R453). -/
def State.hostAtomic (s : State) (ag : Agent) (func size : Nat) : State :=
  let n := atomicBytes size
  let refused := fun (st : Status) =>
    ((s.setReg (agKey ag A.sauAstat) (w32 st.code)).raiseFirst 550).status st
  if !isHost ag then refused .refusedRights
  else if isTenant ag && !s.tenantCreated (ag.toNat - 0x400) then s.refuse ag A.sauAcmd .refusedNotReady
  else if !atomicSized func size then refused .refusedRange
  else
    match s.atomicTarget ag n with
    | none => refused .refusedRange
    | some (ch, a) =>
      let x := s.agWords ag A.sauAopd 0 (n / 4)
      let c := s.agWords ag A.sauAopd 2 (min 2 (n / 4))
      let bad := match ch with
        | some k => s.poisoned k a n
        | none => false
      if bad then refused .refusedRange
      else
        let p := match ch with
          | none => s.sramAtomic a func n x c
          | some k => s.dramAtomic k a func n x c ag
        let stored := decide (func = 2) && decide (p.1 = c)
        (((p.2.setAres ag p.1).setReg (agKey ag A.sauAstat) (w32 (b2n stored * 0x100))).count 0xD2920).status .ok

/-- HOST_ATOMIC_FADD (R452). -/
def execHostAtomicFadd (ag : Agent) (size : BitVec 2) (s : State) : Host.Outcome State Fault Refusal :=
  .next (s.hostAtomic ag 0 size.toNat)
/-- HOST_ATOMIC_SWAP (R452). -/
def execHostAtomicSwap (ag : Agent) (size : BitVec 2) (s : State) : Host.Outcome State Fault Refusal :=
  .next (s.hostAtomic ag 1 size.toNat)
/-- HOST_ATOMIC_CAS (R452). -/
def execHostAtomicCas (ag : Agent) (size : BitVec 2) (s : State) : Host.Outcome State Fault Refusal :=
  .next (s.hostAtomic ag 2 size.toNat)
/-- HOST_ATOMIC_MIN (R452). -/
def execHostAtomicMin (ag : Agent) (size : BitVec 2) (s : State) : Host.Outcome State Fault Refusal :=
  .next (s.hostAtomic ag 3 size.toNat)
/-- HOST_ATOMIC_MAX (R452). -/
def execHostAtomicMax (ag : Agent) (size : BitVec 2) (s : State) : Host.Outcome State Fault Refusal :=
  .next (s.hostAtomic ag 4 size.toNat)
/-- HOST_ATOMIC_MINU (R452). -/
def execHostAtomicMinu (ag : Agent) (size : BitVec 2) (s : State) : Host.Outcome State Fault Refusal :=
  .next (s.hostAtomic ag 5 size.toNat)
/-- HOST_ATOMIC_MAXU (R452). -/
def execHostAtomicMaxu (ag : Agent) (size : BitVec 2) (s : State) : Host.Outcome State Fault Refusal :=
  .next (s.hostAtomic ag 6 size.toNat)
/-- HOST_ATOMIC_WADD (R452). -/
def execHostAtomicWadd (ag : Agent) (size : BitVec 2) (s : State) : Host.Outcome State Fault Refusal :=
  .next (s.hostAtomic ag 7 size.toNat)

end Sys2Proof.Machine
end

