-- ==== Sys2Proof/Machine/Layout.lean ====
section
/-! DEFINITION. The layout of outbound barges (sections 12.1 to 12.3): descriptors, slot offsets and the frame that the
engine writes around a barge. -/

namespace Sys2Proof.Machine

/-- COUNT of descriptor `n`, from a view of the registers. -/
def descCount (r : Nat → W32) (n : Nat) : Nat := bits (r (A.brgOcfg n)) 31 24

/-- FIRST of descriptor `n`. -/
def descFirst (r : Nat → W32) (n : Nat) : Nat := bits (r (A.brgOfirst n)) 9 0

/-- Descriptor `n` is enabled. -/
def descOn (r : Nat → W32) (n : Nat) : Bool := bit (r (A.brgOcfg n)) 0

/-- TAGGED of descriptor `n`. -/
def descTagged (r : Nat → W32) (n : Nat) : Bool := bit (r (A.brgOcfg n)) 1

/-- CAP of slot `k` of descriptor `n`. -/
def slotCap (r : Nat → W32) (n k : Nat) : Nat := bits (r (A.brgOslot (descFirst r n + k))) 7 0

/-- Offset of slot `k` of descriptor `n` from the first byte after the EtherType (section 12.2). -/
def slotOffset (r : Nat → W32) (n k : Nat) : Nat := 0x10 + sumNat ((rangeFrom k 0).map (fun j => 4 + slotCap r n j))

/-- LENGTH of the barge of descriptor `n` (Table 12-2). -/
def descLength (r : Nat → W32) (n : Nat) : Nat := slotOffset r n (descCount r n) + 8 * b2n (descTagged r n)

/-- The frame of descriptor `n` carries an IEEE 802.1Q tag. -/
def descVlan (r : Nat → W32) (n : Nat) : Bool := bit (r (A.brgOvlan n)) 15

/-- Offset of the first byte after the EtherType. -/
def descHdr (r : Nat → W32) (n : Nat) : Nat := if descVlan r n then 18 else 14

/-- Bytes of the frame, pad and FCS included (Table 12-1). -/
def descFrame (r : Nat → W32) (n : Nat) : Nat := max 64 (descHdr r n + descLength r n + 4)

/-- DA of descriptor `n`: byte 0 in [7:0] of BRG_ODALOn. -/
def descDa (r : Nat → W32) (n : Nat) : List Byte := leBytes 4 (r (A.brgOdalo n)).toNat ++ leBytes 2 (bits (r (A.brgOdahi n)) 15 0)

/-- The device's source address, which the spec does not give (assumption 6). -/
def deviceSa : List Byte := beBytes 6 Config.deviceMac.toNat

/-- The bytes of the frame before its FCS as the engine writes them at the turn: the header, and every slot and pad byte
zero; CYCLE, BSEQ and AUX follow at the seal (R341, R351). -/
def bargeFrame (r : Nat → W32) (n : Nat) : List Byte :=
  let tag := if descVlan r n then
      beBytes 2 0x8100 ++ beBytes 2 (bits (r (A.brgOvlan n)) 14 12 * 0x2000 + bits (r (A.brgOvlan n)) 11 0)
    else []
  let pre := descDa r n ++ deviceSa ++ tag ++ beBytes 2 0x88B5 ++ beBytes 1 0x11 ++ beBytes 1 (b2n (descTagged r n)) ++
    beBytes 2 (descLength r n) ++ beBytes 6 0 ++ beBytes 1 (bits (r (A.brgOcfg n)) 23 16) ++
    beBytes 1 (descCount r n) ++ beBytes 4 0
  pre ++ List.replicate (descFrame r n - 4 - pre.length) 0#8

/-- Descriptor `n` in this cycle. -/
def State.out (s : State) (n : Nat) : OutBarge := SMap.get (fun _ => OutBarge.init) s.brg.out n

/-- The state with descriptor `n` replaced. -/
def State.setOut (s : State) (n : Nat) (o : OutBarge) : State :=
  { s with brg := { s.brg with out := SMap.set (fun _ => OutBarge.init) s.brg.out n o } }

end Sys2Proof.Machine
end

