-- ==== Sys2Proof/Machine/Basin.lean ====
section
/-! DEFINITION. The basin (chapter 10): areas and buffer words, owner entries with their holdings and ceilings, the free
stacks, and the operations that its commands and the sequencer share. -/

namespace Sys2Proof.Machine

/-! ### Areas and buffer words (section 10.1) -/

/-- The end word (R283). -/
def endWord : Nat := 0x7FFFFF

/-- The link value that ends a chain (R285). -/
def endLink : Nat := 0xFFFFF

/-- The tag of a free element (R285). -/
def tagFree : Nat := 0x3D
/-- The tag of a buffer that the basin holds during a spill. -/
def tagBasin : Nat := 0x3E
/-- The orphan account. -/
def tagOrphan : Nat := 0x3F

/-- Elements of area `a`: 0–5 pools, 6 cells, 7 berths (R282). -/
def State.areaCount (s : State) (a : Nat) : Nat :=
  match a with
  | 6 => s.shp.memory.cells
  | 7 => s.shp.memory.berths
  | _ => ((s.shp.memory.pools[a]?).map (·.count)).getD 0

/-- Bytes of an element of area `a`. -/
def State.areaSize (s : State) (a : Nat) : Nat :=
  match a with
  | 6 => 64
  | 7 => s.shp.memory.berthSize
  | _ => ((s.shp.memory.pools[a]?).map (·.size)).getD 0

/-- Units of 64 bytes in an element of area `a`. -/
def State.areaUnits (s : State) (a : Nat) : Nat := s.areaSize a / 64

/-- First pointer of area `a` (R282): berths, then P0 to P5, then cells. -/
def State.areaBase (s : State) (a : Nat) : Nat :=
  let b := s.areaCount 7 * s.areaUnits 7
  match a with
  | 7 => 0
  | _ => b + sumNat ((rangeFrom (min a 6) 0).map (fun i => s.areaCount i * s.areaUnits i))

/-- The area of a buffer word's kind (Table 5-1). -/
def areaOfKind (k : Nat) : Nat :=
  match k with
  | 6 => 7
  | 7 => 6
  | _ => k

/-- The kind of an area. -/
def kindOfArea (a : Nat) : Nat := areaOfKind a

/-- The buffer word of the element of area `a` at pointer `p`. -/
def bufWord (a p : Nat) : Nat := p + kindOfArea a * 0x100000

/-- The pointer of a buffer word. -/
def bufPtr (w : Nat) : Nat := w % 0x100000

/-- The area of a buffer word. -/
def bufArea (w : Nat) : Nat := areaOfKind (w / 0x100000 % 8)

/-- A buffer word is valid: its pointer is the first unit of an element of its area (R283). -/
def State.validBuf (s : State) (w : Nat) : Bool :=
  let a := bufArea w
  let p := bufPtr w
  let u := s.areaUnits a
  decide (w < 0x800000 ∧ w ≠ endWord ∧ 0 < u ∧ s.areaBase a ≤ p ∧ p < s.areaBase a + s.areaCount a * u ∧
    (p - s.areaBase a) % u = 0)

/-- The tag of the element at pointer `p` (R285). -/
def State.bufTag (s : State) (p : Nat) : Nat := SMap.get (fun _ => tagFree) s.bsn.tags p

/-- The state with a tag set. -/
def State.setTag (s : State) (p t : Nat) : State :=
  { s with bsn := { s.bsn with tags := SMap.set (fun _ => tagFree) s.bsn.tags p t } }

/-- The link of the cell at pointer `p` (R285). -/
def State.cellLink (s : State) (p : Nat) : Nat := SMap.get (fun _ => endLink) s.bsn.links p

/-- The state with a cell's link set. -/
def State.setLink (s : State) (p l : Nat) : State :=
  { s with bsn := { s.bsn with links := SMap.set (fun _ => endLink) s.bsn.links p l } }

/-- The HEAD bit of the cell at pointer `p`. -/
def State.cellHead (s : State) (p : Nat) : Bool := SMap.get (fun _ => false) s.bsn.heads p

/-- The state with a cell's HEAD bit set. -/
def State.setHead (s : State) (p : Nat) (h : Bool) : State :=
  { s with bsn := { s.bsn with heads := SMap.set (fun _ => false) s.bsn.heads p h } }

/-- Elements of area `a` never taken since the stacks were built. -/
def State.areaFresh (s : State) (a : Nat) : Nat := SMap.get (fun _ => 0) s.bsn.fresh a

/-- The freed pointers of area `a`, newest first. -/
def State.areaFreed (s : State) (a : Nat) : List Nat := SMap.get (fun _ => []) s.bsn.freed a

/-- Free elements of area `a` (BSN_FREEn). -/
def State.areaFree (s : State) (a : Nat) : Nat := (s.areaFreed a).length + (s.areaCount a - s.areaFresh a)

/-- The cells of a chain from pointer `p`, head first. -/
def State.chainFrom (s : State) : Nat → Nat → List Nat
  | 0, _ => []
  | fuel + 1, p => if p = endLink then [] else p :: s.chainFrom fuel (s.cellLink p)

/-- The cells of the chain with head `p`. -/
def State.chain (s : State) (p : Nat) : List Nat := s.chainFrom (s.areaCount 6) p

/-- The bytes of buffer `w`: a pool's SIZE, BERTH_SIZE, or 64 for each cell of the chain (R120). -/
def State.bufBytes (s : State) (w : Nat) : Nat :=
  if bufArea w = 6 then 64 * (s.chain (bufPtr w)).length else s.areaSize (bufArea w)

/-- The memory key of byte `i` of buffer `w`. -/
def State.bufKey (s : State) (w i : Nat) : Nat :=
  if bufArea w = 6 then kBasin + nth (s.chain (bufPtr w)) (i / 64) 0 * 64 + i % 64 else kBasin + bufPtr w * 64 + i

/-- `n` bytes of buffer `w` from byte `i`. -/
def State.bufRead (s : State) (w i n : Nat) : List Byte := (rangeFrom n i).map (fun k => s.readByte (s.bufKey w k))

/-- Bytes written into buffer `w` from byte `i`. -/
def State.bufWrite (s : State) (w i : Nat) (bs : List Byte) : State :=
  let m := ((rangeFrom bs.length i).zip bs).foldl
    (fun m (p : Nat × Byte) => SMap.set memDefault m (s.bufKey w p.1) p.2) s.mem
  { s with mem := m }

/-! ### Owner entries (section 10.2) -/

/-- The index of the owner entry with an AGENT value. -/
def State.entryNamed (s : State) (a : Nat) : Option Nat :=
  (rangeFrom s.shp.memory.owners.length 0).find? (fun i =>
    match s.shp.memory.owners[i]? with
    | some o => decide (o.agent = a)
    | none => false)

/-- The owner entry that agent value `v` is charged to (R286). -/
def State.entryOf (s : State) (v : Nat) : Option Nat :=
  match s.entryNamed v with
  | some e => some e
  | none =>
    if v < 0x1000 then
      match s.poundNo (BitVec.ofNat 12 v) with
      | some p => s.entryNamed (0x1000 + p)
      | none => none
    else none

/-- Owner entry `e`. -/
def State.owner (s : State) (e : Nat) : OwnerCfg :=
  (s.shp.memory.owners[e]?).getD { agent := 0, poolMask := 0#8, ceiling := [] }

/-- What entry `e` holds in area `a` (R288). -/
def State.holding (s : State) (e a : Nat) : Nat :=
  (s.bsn.tags.filter (fun p => decide (p.2 = e) && s.validBuf (bufWord a p.1))).length

/-- The ceiling of entry `e` in pool `p`, if it has one. -/
def State.ceiling (s : State) (e p : Nat) : Option Nat :=
  let c := nth (s.owner e).ceiling p 0xFFFF
  if c = 0xFFFF then none else some c

/-- BSN_OCELL of entry `e`. -/
def State.cellCeiling (s : State) (e : Nat) : Nat := SMap.get (fun _ => 0xFFFF) s.bsn.cellCeil e

/-- EV400 + a when the free count of area `a` fell from `before` below its watermark (Table 10-5). -/
def State.lowWater (s : State) (a before : Nat) : State :=
  let r := s.reg (A.bsnLow a)
  if bit r 16 && decide (bits r 15 0 ≤ before) && decide (s.areaFree a < bits r 15 0) then s.raise (400 + a) else s

/-- Take the top element of area `a` for entry `e` (R284). -/
def State.takeElem (s : State) (a e : Nat) : Option (Nat × State) :=
  let before := s.areaFree a
  match s.areaFreed a with
  | p :: rest =>
    let s1 := { s with bsn := { s.bsn with freed := SMap.set (fun _ => []) s.bsn.freed a rest } }
    some (p, ((s1.setTag p e).count (0x80100 + 8 * a)).lowWater a before)
  | [] =>
    if s.areaFresh a < s.areaCount a then
      let p := s.areaBase a + s.areaFresh a * s.areaUnits a
      let s1 := { s with bsn := { s.bsn with fresh := SMap.set (fun _ => 0) s.bsn.fresh a (s.areaFresh a + 1) } }
      some (p, ((s1.setTag p e).count (0x80100 + 8 * a)).lowWater a before)
    else none

/-- Push the element at pointer `p` of area `a` onto its free stack. -/
def State.pushFree (s : State) (a p : Nat) : State :=
  let s1 := s.setTag p tagFree
  { s1 with bsn := { s1.bsn with freed := SMap.set (fun _ => []) s1.bsn.freed a (p :: s1.areaFreed a) } }

/-- Descriptor `n` of this cycle still wants a berth. -/
def OutBarge.wants (o : OutBarge) : Bool := o.live && o.want && o.berth.isNone && !o.sealed

/-- A berth `w` for descriptor `n`: a barge of this cycle gets its frame, otherwise it is kept for the next (R351). -/
def State.holdBerth (s : State) (n w : Nat) : State :=
  let o := s.out n
  if o.wants then
    ((s.setOut n { o with berth := some w }).setReg (A.brgObuf n) (w32 w)).writeBytes (kBasin + bufPtr w * 64)
      (bargeFrame s.reg n)
  else s.setOut n { o with next := some w }

/-- The first descriptor that still wants a berth takes a free one, as agent 0x604 (R351). -/
def State.giveBerth (s : State) : State :=
  match (rangeFrom 16 0).find? (fun n => (s.out n).wants || ((s.out n).wantNext && (s.out n).next.isNone)),
      s.entryOf 0x604 with
  | some n, some e =>
    match s.takeElem 7 e with
    | some (p, s1) => s1.holdBerth n (bufWord 7 p)
    | none => s
  | _, _ => s

/-- The element at pointer `p` of area `a` is freed; a freed berth goes to a barge that waits for one (R351). -/
def State.pushElem (s : State) (a p : Nat) : State :=
  let s1 := s.pushFree a p
  if a = 7 then s1.giveBerth else s1

/-- An allocation that found its area empty: EV409 once in each cycle. -/
def State.noteEmpty (s : State) : State := s.raiseFirst 409

/-- An allocation refused at a ceiling: EV408 once in each cycle. -/
def State.noteCeiling (s : State) : State := s.raiseFirst 408

/-- A sequencer allocation for a class treats pool `p` as empty under its reserve (R290). `none` is any other agent. -/
def State.poolHeld (s : State) (p : Nat) (cls : Option Nat) : Bool :=
  let r := s.reg (A.bsnResv p)
  match cls with
  | some c => decide (2 ≤ c) && bit r 16 && decide (s.areaFree p ≤ bits r 15 0)
  | none => false

/-- Pool `p` is present and in entry `e`'s mask. -/
def State.poolUsable (s : State) (e p : Nat) : Bool := decide (0 < s.areaCount p) && (s.owner e).poolMask.getLsbD p

/-- Allocate from a list of pools in order, falling through an empty pool when `fall` says so (R288, R293). -/
def State.allocFrom (s : State) (e : Nat) (cls : Option Nat) (fall : Bool) : List Nat → Status × Nat × State
  | [] => (.refusedCapacity, 0, s)
  | p :: rest =>
    let full := match s.ceiling e p with
      | some c => decide (c ≤ s.holding e p)
      | none => false
    if full then (.refusedCapacity, 0, s.noteCeiling)
    else
      match (if s.poolHeld p cls then none else s.takeElem p e) with
      | some (q, s1) => (.ok, bufWord p q, s1)
      | none =>
        if fall && bit (s.reg A.bsnCtrl) p then s.noteEmpty.allocFrom e cls fall rest
        else (.refusedCapacity, 0, s.noteEmpty)

/-- ALLOC of `size` bytes for entry `e` (R293). -/
def State.allocSize (s : State) (e size : Nat) (cls : Option Nat) : Status × Nat × State :=
  s.allocFrom e cls true ((rangeFrom 6 0).filter (fun p => s.poolUsable e p && decide (size ≤ s.areaSize p)))

/-- Take a berth for entry `e`; the sequencer leaves the reserve (R290, R304). -/
def State.allocBerth (s : State) (e : Nat) (sequencer : Bool) : Status × Nat × State :=
  let r := s.reg A.bsnBerthres
  if sequencer && bit r 16 && decide (s.areaFree 7 ≤ bits r 15 0) then (.refusedCapacity, 0, s.noteEmpty)
  else
    match s.takeElem 7 e with
    | some (p, s1) => (.ok, bufWord 7 p, s1)
    | none => (.refusedCapacity, 0, s.noteEmpty)

/-- Take `n` cells for entry `e` in pop order, linked, before the chain that starts at `tail` (R294). -/
def State.takeCells (s : State) (e : Nat) : Nat → List Nat × State
  | 0 => ([], s)
  | n + 1 =>
    match s.takeElem 6 e with
    | none => ([], s)
    | some (p, s1) =>
      let r := s1.takeCells e n
      (p :: r.1, r.2)

/-- Link a list of cells into one chain, HEAD set on the first only (R294). -/
def State.linkCells (s : State) (first : Bool) : List Nat → State
  | [] => s
  | [p] => (s.setLink p endLink).setHead p first
  | p :: q :: rest => (((s.setLink p q).setHead p first)).linkCells false (q :: rest)

/-- A chain of `n` cells for entry `e`, or none: head, tail and the state (R288, R294). -/
def State.allocChain (s : State) (e n : Nat) : Status × Nat × Nat × State :=
  let c := s.cellCeiling e
  if decide (c ≠ 0xFFFF) && decide (c < s.holding e 6 + n) then (.refusedCapacity, 0, 0, s.noteCeiling)
  else if s.areaFree 6 < n then (.refusedCapacity, 0, 0, s.noteEmpty)
  else
    let r := s.takeCells e n
    (.ok, r.1.headD 0, r.1.getLastD 0, r.2.linkCells true r.1)

/-- Free buffer `w`: an element returns at once; a chain returns its head, and its other cells wait in the
background (R295, R299). -/
def State.freeBuf (s : State) (w : Nat) : State :=
  if bufArea w = 6 then
    let cs := s.chain (bufPtr w)
    let s1 := (s.pushElem 6 (bufPtr w)).setHead (bufPtr w) false
    { s1 with bsn := { s1.bsn with returning := s1.bsn.returning ++ cs.drop 1 } }
  else s.pushElem (bufArea w) (bufPtr w)

/-- Retag a buffer, berth or whole chain (R296). -/
def State.moveBuf (s : State) (w e : Nat) : State :=
  if bufArea w = 6 then (s.chain (bufPtr w)).foldl (fun t p => t.setTag p e) s else s.setTag (bufPtr w) e

/-- A frame's buffer passes to the entry of `ag`, or to the orphan account with EV412 (R302). -/
def State.keepBuf (s : State) (w : Nat) (ag : Agent) : State :=
  match s.entryOf ag.toNat with
  | some e => s.moveBuf w e
  | none => (s.moveBuf w tagOrphan).raise 412

/-! ### Commands (section 10.3) -/

/-- The result of a command of `ag`: status, word and second word (R292). -/
def State.bsnDone (s : State) (ag : Agent) (st : Status) (w w2 : Nat) : State :=
  let r := if st = .ok then w else 0
  let s1 := (s.setReg (agKey ag A.bsnResult) (w32 (r + st.code * 0x1000000))).setReg (agKey ag A.bsnResult2)
    (w32 (if st = .ok then w2 else 0))
  (match st with
   | .refusedCapacity => s1.count 0x80140
   | .refusedRights => s1.count 0x80148
   | _ => s1).answer st (BitVec.ofNat 64 r)

/-- Record a refusal in BSN_ERR and BSN_ERRBUF (R295, R308). -/
def State.bsnError (s : State) (ag : Agent) (st : Status) (op w : Nat) : State :=
  (s.setReg A.bsnErr (w32 (st.code + op * 0x100 + ag.toNat * 0x10000))).setReg A.bsnErrbuf (w32 w)

/-- ALLOC (R293). Under the limp shape every allocation is refused with REFUSED_CAPACITY (chapter 10, Standing). -/
def State.bsnAlloc (s : State) (ag : Agent) (size : Nat) : State :=
  if size = 0 then s.bsnDone ag .zeroLength 0 0
  else if 10240 < size then s.bsnDone ag .refusedRange 0 0
  else if s.boot.limp then s.bsnDone ag .refusedCapacity 0 0
  else
    match s.entryOf ag.toNat with
    | none => s.bsnDone ag .refusedRights 0 0
    | some e =>
      let r := s.allocSize e size none
      r.2.2.bsnDone ag r.1 r.2.1 0

/-- ALLOCP (R293). -/
def State.bsnAllocP (s : State) (ag : Agent) (pool : Nat) : State :=
  if 6 ≤ pool ∨ (s.areaCount pool = 0 ∧ s.boot.limp = false) then s.bsnDone ag .refusedRange 0 0
  else if s.boot.limp then s.bsnDone ag .refusedCapacity 0 0
  else
    match s.entryOf ag.toNat with
    | none => s.bsnDone ag .refusedRights 0 0
    | some e =>
      if (s.owner e).poolMask.getLsbD pool then
        let r := s.allocFrom e none false [pool]
        r.2.2.bsnDone ag r.1 r.2.1 0
      else s.bsnDone ag .refusedRights 0 0

/-- ALLOCC (R294). -/
def State.bsnAllocC (s : State) (ag : Agent) (n : Nat) : State :=
  if n = 0 then s.bsnDone ag .zeroLength 0 0
  else if 256 < n then s.bsnDone ag .refusedRange 0 0
  else if s.boot.limp then s.bsnDone ag .refusedCapacity 0 0
  else
    match s.entryOf ag.toNat with
    | none => s.bsnDone ag .refusedRights 0 0
    | some e =>
      if (s.owner e).poolMask.getLsbD 6 then
        let r := s.allocChain e n
        r.2.2.2.bsnDone ag r.1 (bufWord 6 r.2.1) (bufWord 6 r.2.2.1)
      else s.bsnDone ag .refusedRights 0 0

/-- ALLOCB: the sequencer, the barge engine and thread slots that have an entry (R287, R304). -/
def State.bsnAllocB (s : State) (ag : Agent) : State :=
  if s.boot.limp then s.bsnDone ag .refusedCapacity 0 0
  else if isThread ag || decide (ag = 0x600#12) || decide (ag = 0x604#12) then
    match s.entryOf ag.toNat with
    | none => s.bsnDone ag .refusedRights 0 0
    | some e =>
      let r := s.allocBerth e (decide (ag = 0x600#12))
      r.2.2.bsnDone ag r.1 r.2.1 0
  else s.bsnDone ag .refusedRights 0 0

/-- FREE (R295). -/
def State.bsnFree (s : State) (ag : Agent) (w : Nat) : State :=
  if !s.validBuf w then s.bsnDone ag .refusedRange 0 0
  else
    let t := s.bufTag (bufPtr w)
    if t = tagFree then
      ((((s.count 0x80150).bsnError ag .refusedNotReady 5 w).raise 410)).bsnDone ag .refusedNotReady 0 0
    else if some t ≠ s.entryOf ag.toNat then
      ((((s.count 0x80158).bsnError ag .refusedRights 5 w).raise 411)).bsnDone ag .refusedRights 0 0
    else if bufArea w = 6 && !s.cellHead (bufPtr w) then s.bsnDone ag .refusedRange 0 0
    else (s.freeBuf w).bsnDone ag .ok 0 0

/-- XFER to the entry that BSN_ARG names (R296). -/
def State.bsnXfer (s : State) (ag : Agent) (w : Nat) : State :=
  if !s.validBuf w || (decide (bufArea w = 6) && !s.cellHead (bufPtr w)) then s.bsnDone ag .refusedRange 0 0
  else if some (s.bufTag (bufPtr w)) ≠ s.entryOf ag.toNat then s.bsnDone ag .refusedRights 0 0
  else
    match s.entryOf (s.fld (agKey ag A.bsnArg) 15 0) with
    | none => s.bsnDone ag .refusedRights 0 0
    | some e =>
      if bufArea w = 7 || (s.owner e).poolMask.getLsbD (bufArea w) then (s.moveBuf w e).bsnDone ag .ok 0 0
      else s.bsnDone ag .refusedRights 0 0

/-- CHAIN: append the chain whose head BSN_ARG names to a tail cell (R297). -/
def State.bsnChain (s : State) (ag : Agent) (w : Nat) : State :=
  let h := s.fld (agKey ag A.bsnArg) 22 0
  let me := s.entryOf ag.toNat
  if !s.validBuf w || !s.validBuf h || decide (bufArea w ≠ 6) || decide (bufArea h ≠ 6) then
    s.bsnDone ag .refusedRange 0 0
  else if s.cellLink (bufPtr w) ≠ endLink then s.bsnDone ag .refusedNotReady 0 0
  else if some (s.bufTag (bufPtr w)) ≠ me ∨ some (s.bufTag (bufPtr h)) ≠ me then s.bsnDone ag .refusedRights 0 0
  else if !s.cellHead (bufPtr h) then s.bsnDone ag .refusedRange 0 0
  else ((s.setLink (bufPtr w) (bufPtr h)).setHead (bufPtr h) false).bsnDone ag .ok 0 0

/-- The buffer word of a link. -/
def linkWord (l : Nat) : Nat := if l = endLink then endWord else bufWord 6 l

/-- SPLIT: cut a chain after a cell (R297). -/
def State.bsnSplit (s : State) (ag : Agent) (w : Nat) : State :=
  if !s.validBuf w || decide (bufArea w ≠ 6) then s.bsnDone ag .refusedRange 0 0
  else if some (s.bufTag (bufPtr w)) ≠ s.entryOf ag.toNat then s.bsnDone ag .refusedRights 0 0
  else
    let l := s.cellLink (bufPtr w)
    let s1 := s.setLink (bufPtr w) endLink
    (if l = endLink then s1 else s1.setHead l true).bsnDone ag .ok (linkWord l) 0

/-- NEXT: read a cell's link (R297). -/
def State.bsnNext (s : State) (ag : Agent) (w : Nat) : State :=
  if !s.validBuf w || decide (bufArea w ≠ 6) then s.bsnDone ag .refusedRange 0 0
  else if some (s.bufTag (bufPtr w)) ≠ s.entryOf ag.toNat then s.bsnDone ag .refusedRights 0 0
  else s.bsnDone ag .ok (linkWord (s.cellLink (bufPtr w))) 0

/-! ### Spill (section 10.5) -/

/-- The spill region (R305). -/
def State.spillRegion (s : State) : Option DRegion := s.shp.memory.dregions.find? (fun r => decide (r.kind = 2))

/-- The spill slot size: the SIZE of the largest present pool (R305). -/
def State.spillSize (s : State) : Nat :=
  ((rangeFrom 6 0).filter (fun p => decide (0 < s.areaCount p))).foldl (fun m p => max m (s.areaSize p)) 0

/-- Spill slots of the region (R305). -/
def State.spillSlots (s : State) : Nat :=
  match s.spillRegion with
  | some r => if s.spillSize = 0 then 0 else min 65536 (r.bytes / s.spillSize)
  | none => 0

/-- Free spill slots (BSN_SPILLFREE). -/
def State.spillFree (s : State) : Nat := s.bsn.spillFreed.length + (s.spillSlots - s.bsn.spillFresh)

/-- The spill region is in service. -/
def State.spillReady (s : State) : Bool :=
  match s.spillRegion with
  | some r => s.chInService r.channel
  | none => false

/-- Channel and byte of a spill slot. -/
def State.spillAt (s : State) (slot : Nat) : Nat × Nat :=
  match s.spillRegion with
  | some r => (r.channel, r.base * 0x100000 + slot * s.spillSize)
  | none => (0, 0)

/-- Push a spill slot onto its stack. -/
def State.pushSpill (s : State) (slot : Nat) : State :=
  { s with bsn := { s.bsn with spillFreed := slot :: s.bsn.spillFreed } }

/-- Take a spill slot from its stack. -/
def State.takeSpill (s : State) : Option (Nat × State) :=
  match s.bsn.spillFreed with
  | k :: rest => some (k, { s with bsn := { s.bsn with spillFreed := rest } })
  | [] =>
    if s.bsn.spillFresh < s.spillSlots then
      some (s.bsn.spillFresh, { s with bsn := { s.bsn with spillFresh := s.bsn.spillFresh + 1 } })
    else none

/-- The state with the record of a spill slot set. -/
def State.setSpillRec (s : State) (k : Nat) (r : Option (Nat × Nat)) : State :=
  { s with bsn := { s.bsn with spillRec := SMap.set (fun _ => none) s.bsn.spillRec k r } }

/-- SPILL (R305, R306). -/
def State.bsnSpill (s : State) (ag : Agent) (w : Nat) : State :=
  if !s.validBuf w || decide (6 ≤ bufArea w) then s.bsnDone ag .refusedRange 0 0
  else if !s.spillReady then s.bsnDone ag .refusedNotReady 0 0
  else
    match s.entryOf ag.toNat with
    | none => s.bsnDone ag .refusedRights 0 0
    | some e =>
      if s.bufTag (bufPtr w) ≠ e then s.bsnDone ag .refusedRights 0 0
      else
        match s.takeSpill with
        | none => (s.raise 413).bsnDone ag .refusedCapacity 0 0
        | some (k, s1) =>
          let s2 := (s1.setTag (bufPtr w) tagBasin).setSpillRec k (some (e, bufArea w))
          (({ s2 with bsn := { s2.bsn with spills := s2.bsn.spills ++ [(bufPtr w, k)] } }).count 0x80160).bsnDone ag .ok
            (k + bufArea w * 0x10000) 0

/-- A spill copy ends: the content is in the slot and the buffer returns to its stack (R306). -/
def State.spillDone (s : State) (p k : Nat) : State :=
  let s1 := { s with bsn := { s.bsn with spills := s.bsn.spills.erase (p, k) } }
  let pool := ((rangeFrom 6 0).find? (fun a => s.validBuf (bufWord a p))).getD 0
  let at' := s.spillAt k
  let s2 := (s1.dramWrite at'.1 at'.2 (s1.readBytes (kBasin + p * 64) (s.areaSize pool))).pushElem pool p
  if (SMap.get (fun _ => none) s.bsn.spillRec k).isNone && !s.bsn.fills.any (fun f => decide (f.slot = k)) then
    s2.pushSpill k
  else s2

/-- FILL (R305, R307). -/
def State.bsnFill (s : State) (ag : Agent) (h : Nat) : State :=
  let k := h % 0x10000
  let pool := h / 0x10000 % 8
  if !s.spillReady then s.bsnDone ag .refusedNotReady 0 0
  else
    match SMap.get (fun _ => none) s.bsn.spillRec k with
    | none => s.bsnDone ag .refusedRange 0 0
    | some (e, p) =>
      if p ≠ pool then s.bsnDone ag .refusedRange 0 0
      else if some e ≠ s.entryOf ag.toNat then s.bsnDone ag .refusedRights 0 0
      else if !(s.owner e).poolMask.getLsbD pool then s.bsnDone ag .refusedRights 0 0
      else
        let r := s.allocFrom e none false [pool]
        if r.1 = .ok then
          let s1 := r.2.2.setSpillRec k none
          let f : FillCopy := { slot := k, ptr := bufPtr r.2.1, pool := pool, tag := s.fld (agKey ag A.bsnArg) 15 0,
                                agent := ag, cancelled := false }
          (({ s1 with bsn := { s1.bsn with fills := s1.bsn.fills ++ [f] } }).count 0x80168).bsnDone ag .ok r.2.1 0
        else r.2.2.bsnDone ag r.1 0 0

/-- Bytes of a spill slot up to the first poisoned granule, and whether all of them could be read (section 10.5). -/
def State.spillBytes (s : State) (k n : Nat) : Bool × List Byte :=
  let a := s.spillAt k
  let good := ((rangeFrom (n / 8) 0).takeWhile (fun i => !s.poisoned a.1 (a.2 + 8 * i) 8)).length * 8
  (decide (good = n), s.dramRead a.1 a.2 good)

/-- A fill copy ends: the buffer holds the content, the slot is free and the token is posted (R307, R308). -/
def State.fillDone (s : State) (f : FillCopy) : State :=
  let s1 := { s with bsn := { s.bsn with fills := s.bsn.fills.erase f } }
  let b := s1.spillBytes f.slot (s1.areaSize f.pool)
  let s2 := (s1.writeBytes (kBasin + f.ptr * 64) b.2).pushSpill f.slot
  if f.cancelled then s2.pushElem f.pool f.ptr
  else
    let w := bufWord f.pool f.ptr
    let st : Status := if b.1 then .ok else .refusedRange
    if !isPostable f.tag then s2.bsnError f.agent .refusedRange 11 w
    else
      s2.postOr f.tag (w32 w) st (fun t => { t with bsn := { t.bsn with retry := t.bsn.retry ++
        [{ src := f.slot, tag := f.tag, value := w32 w, status := st, retried := false }] } })

/-! ### Reclaim (section 10.6) -/

/-- Free the elements of a list of pointers with their areas. -/
def State.pushAll (s : State) : List (Nat × Nat) → State
  | [] => s
  | (a, p) :: rest =>
    let s1 := s.pushElem a p
    ((if a = 6 then (s1.setHead p false).setLink p endLink else s1)).pushAll rest

/-- The area that holds an element at pointer `p`. -/
def State.areaAt (s : State) (p : Nat) : Nat := ((rangeFrom 8 0).find? (fun a => s.validBuf (bufWord a p))).getD 0

/-- Spill slots held by entry `e`. -/
def State.spillHeld (s : State) (e : Nat) : List Nat :=
  SMap.keysWhere (fun _ r => decide (r.map (·.1) = some e)) s.bsn.spillRec

/-- Every element, chain and spill slot charged to index `e` is freed (R309); buffers of a running FILL follow when the
copy ends. -/
def State.reclaim (s : State) (e : Nat) : State :=
  let running := (s.bsn.fills.filter (fun f => decide (s.bufTag f.ptr = e))).map (·.ptr)
  let ps := (SMap.keysWhere (fun _ t => decide (t = e)) s.bsn.tags).filter (fun p => !running.contains p)
  let s1 := s.pushAll (ps.map (fun p => (s.areaAt p, p)))
  let s2 := { s1 with bsn := { s1.bsn with
    fills := s1.bsn.fills.map (fun f => if running.contains f.ptr then { f with cancelled := true } else f),
    returning := s1.bsn.returning.filter (fun p => !ps.contains p) } }
  (s.spillHeld e).foldl (fun t k =>
    let t1 := t.setSpillRec k none
    if t1.bsn.spills.any (fun x => decide (x.2 = k)) then t1 else t1.pushSpill k) s2

/-- A RECLAIM of the fulling engine's entry cancels its retried tokens: each chunk counts as dropped (section 17.3,
Edges). -/
def State.cancelChunks (s : State) : State :=
  let s1 := s.countBy 0xF0910 s.ful.retry.length
  { s1 with ful := { s1.ful with retry := [], streams := s1.ful.retry.foldl (fun m k =>
      let x := SMap.get (fun _ => Stream.init) m k.stream
      SMap.set (fun _ => Stream.init) m k.stream { x with gap := true }) s1.ful.streams } }

/-- RECLAIM of an owner index (R309). -/
def State.bsnReclaim (s : State) (ag : Agent) (e : Nat) : State :=
  if !isBoss ag then s.bsnDone ag .refusedRights 0 0
  else if 48 ≤ e ∧ e ≠ tagOrphan then s.bsnDone ag .refusedRange 0 0
  else if s.entryNamed 0x600 = some e then s.bsnDone ag .refusedRights 0 0
  else ((if s.entryNamed 0x603 = some e then s.cancelChunks else s).reclaim e).bsnDone ag .ok 0 0

/-- Holdings move to the entries of new owners with the same AGENT, or to the orphan account with EV412 (R312). -/
def State.rehold (s : State) (new : List OwnerCfg) : State :=
  let target := fun (t : Nat) =>
    if t < 48 then
      ((rangeFrom new.length 0).find? (fun i =>
        match new[i]? with
        | some o => decide (o.agent = (s.owner t).agent)
        | none => false)).getD tagOrphan
    else t
  let tags := s.bsn.tags.map (fun p => (p.1, target p.2))
  let recs := s.bsn.spillRec.map (fun p => (p.1, p.2.map (fun r => (target r.1, r.2))))
  let lost := s.bsn.tags.any (fun p => decide (p.2 < 48) && decide (target p.2 = tagOrphan)) ||
    s.bsn.spillRec.any (fun p => (p.2.map (fun r => decide (r.1 < 48) && decide (target r.1 = tagOrphan))).getD false)
  let ceil := (rangeFrom 48 0).foldl (fun m e =>
    if e < s.shp.memory.owners.length then
      (if target e = tagOrphan then m else SMap.set (fun _ => 0xFFFF) m (target e) (s.cellCeiling e))
    else m) ([] : SMap Nat)
  let s1 := { s with bsn := { s.bsn with tags := tags, spillRec := recs, cellCeil := ceil } }
  let s2 := { s1 with shp := { s1.shp with memory := { s1.shp.memory with owners := new } } }
  if lost then s2.raise 412 else s2

end Sys2Proof.Machine
end

