-- ==== Sys2Proof/Machine/Tables.lean ====
section
/-! DEFINITION. The exact-match tables (chapter 11): hashing, lookups, cuckoo placement, the command queue, epochs,
FENCE, partner-ID cooling, learning, ageing and rehash. Entries lie in table SRAM (Table 11-1). -/

namespace Sys2Proof.Machine

/-! ### Construction (section 11.1) -/

/-- Entries of table `n`; 0 when it is absent. -/
def State.tblSize (s : State) (n : Nat) : Nat := ((s.shp.tables[n]?).map (·.size)).getD 0

/-- Bytes of an entry (Table 11-1). -/
def entryBytes (n : Nat) : Nat := if n = 1 then 32 else 16

/-- Bytes of a key (R315). -/
def keyBytes (n : Nat) : Nat :=
  match n with
  | 0 => 8
  | 1 => 11
  | _ => 7

/-- Offset of the result word in an entry (Table 11-2). -/
def resOff (n : Nat) : Nat := if n = 1 then 12 else 8

/-- Offset of the CTL word in an entry. -/
def ctlOff (n : Nat) : Nat := if n = 1 then 24 else 12

/-- Memory key of place `p` of table `n`: bucket × 4 + slot, then the 16 stash entries (Table 11-1). -/
def State.placeKey (s : State) (n p : Nat) : Nat :=
  let stash := match n with
    | 0 => 0x110000
    | 1 => 0x110100
    | _ => 0x110300
  if p < s.tblSize n then kTable + n * 0x80000 + p * entryBytes n
  else kTable + stash + (p - s.tblSize n) * entryBytes n

/-- The key bytes of place `p`. -/
def State.placeKeyOf (s : State) (n p : Nat) : List Byte := s.readBytes (s.placeKey n p) (keyBytes n)

/-- A 32-bit word of place `p` at offset `o`. -/
def State.placeWord (s : State) (n p o : Nat) : W32 := w32 (s.readLE (s.placeKey n p + o) 4)

/-- The CTL word of place `p`: VALID [0], AGED [1], HIT [2], LEARNED [3]. -/
def State.placeCtl (s : State) (n p : Nat) : W32 := s.placeWord n p (ctlOff n)

/-- Place `p` is free. -/
def State.placeFree (s : State) (n p : Nat) : Bool := !bit (s.placeCtl n p) 0

/-- The seed pairs a key may lie under: the seeds in effect and, during a rehash, the target (R339). -/
def State.seedPairs (s : State) (n : Nat) : List (W32 × W32) :=
  (s.reg (A.tblSeeda n), s.reg (A.tblSeedb n)) ::
    (s.tbl.rehash.filter (fun r => decide (r.table = n))).map (fun r => (r.seedA, r.seedB))

/-- The seeds that ADD places under and HASH returns: the target during a rehash (R339). -/
def State.placeSeeds (s : State) (n : Nat) : W32 × W32 :=
  match s.tbl.rehash.find? (fun r => decide (r.table = n)) with
  | some r => (r.seedA, r.seedB)
  | none => (s.reg (A.tblSeeda n), s.reg (A.tblSeedb n))

/-- The hash of a key under a seed: CRC-32C with no final inversion (R314). -/
def keyHash (seed : W32) (key : List Byte) : W32 := crcBytes poly32c seed key

/-- The two buckets of a key under a seed pair (R314). -/
def State.buckets (s : State) (n : Nat) (sd : W32 × W32) (key : List Byte) : Nat × Nat :=
  let m := s.tblSize n / 4
  let a := (keyHash sd.1 key).toNat % m
  let b := (keyHash sd.2 key).toNat % m
  (a, if b = a then a ^^^ 1 else b)

/-- The places of a bucket. -/
def slotsOf (b : Nat) : List Nat := [4 * b, 4 * b + 1, 4 * b + 2, 4 * b + 3]

/-- The places of the stash. -/
def State.stashPlaces (s : State) (n : Nat) : List Nat := rangeFrom 16 (s.tblSize n)

/-- The places where a key may lie (R315, R339). -/
def State.placesOf (s : State) (n : Nat) (key : List Byte) : List Nat :=
  (s.seedPairs n).flatMap (fun sd => slotsOf (s.buckets n sd key).1 ++ slotsOf (s.buckets n sd key).2) ++ s.stashPlaces n

/-- The place that holds a key, if it is present (R315). -/
def State.tblFind (s : State) (n : Nat) (key : List Byte) : Option Nat :=
  if s.tblSize n = 0 then none
  else (s.placesOf n key).find? (fun p => !s.placeFree n p && decide (s.placeKeyOf n p = key))

/-- The result word of place `p`. -/
def State.placeRes (s : State) (n p : Nat) : W32 := s.placeWord n p (resOff n)

/-- The T1 standing word of place `p`. -/
def State.placeStanding (s : State) (p : Nat) : W32 := s.placeWord 1 p 16

/-- The T1 SIZEHINT of place `p`. -/
def State.placeHint (s : State) (p : Nat) : Nat := s.readLE (s.placeKey 1 p + 20) 2

/-- The epoch of table `n` (R330). -/
def State.epoch (s : State) (n : Nat) : Nat := s.fld (A.tblEpoch n) 15 0

/-- The epoch advances by 1 (R330). -/
def State.bumpEpoch (s : State) (n : Nat) : State := s.setFld (A.tblEpoch n) 15 0 (s.epoch n + 1)

/-- Port `p` is in service (PRT_STATp.INSVC). -/
def State.inService (s : State) (p : Nat) : Bool := decide (p < 8) && bit (s.reg (A.prtStat p)) 1

/-- The ports 0–7 in service as a mask, with the host's bit 8 (R321). -/
def State.liveMask (s : State) : Nat :=
  sumNat ((rangeFrom 8 0).map (fun p => if s.inService p then 2 ^ p else 0)) + 0x100

/-! ### Lookups (section 11.2) -/

/-- The miss word of table `n` for a frame from port `p` (R320); `none` is an LKUP, which has no ingress port. -/
def State.missWord (s : State) (n : Nat) (p : Option Nat) : W32 :=
  let flood := match p with
    | some k => if n = 0 then (s.reg (A.tblFlood k)).toNat &&& s.liveMask &&& (0x1FF - 2 ^ k % 0x200) else 0
    | none => 0
  w32 (0x80000000 + flood + (if s.tblSize n = 0 then 0x40000000 else 0))

/-- A lookup counts (Table of counters, TBL_LOOKUPn and TBL_HITn). -/
def State.countLookup (s : State) (n : Nat) (hit : Bool) : State :=
  let s1 := s.count (0x90200 + 8 * n)
  if hit then s1.count (0x90218 + 8 * n) else s1

/-- The result word copied at a hit: a T0 result loses the ports out of service (R321). -/
def State.hitWord (s : State) (n p : Nat) : W32 :=
  let r := s.placeRes n p
  if n = 0 then setBits r 8 0 (bits r 8 0 &&& s.liveMask) else r

/-- A lookup for a frame from port `p`: result word, LKSTAT (0 miss, 1 hit, 2 absent) and place (R319, R320). -/
def State.tblLookup (s : State) (n : Nat) (key : List Byte) (p : Option Nat) : W32 × Nat × Option Nat :=
  if s.tblSize n = 0 then (s.missWord n p, 2, none)
  else
    match s.tblFind n key with
    | some q => (s.hitWord n q, 1, some q)
    | none => (s.missWord n p, 0, none)

/-! ### Placement (R327) -/

/-- Write an entry of table `n` at place `p`. -/
def State.putEntry (s : State) (n p : Nat) (bs : List Byte) : State := s.writeBytes (s.placeKey n p) bs

/-- The bytes of the entry at place `p`. -/
def State.entryAt (s : State) (n p : Nat) : List Byte := s.readBytes (s.placeKey n p) (entryBytes n)

/-- Make place `p` invalid: all zero (R316). -/
def State.zeroEntry (s : State) (n p : Nat) : State := s.putEntry n p (List.replicate (entryBytes n) 0#8)

/-- Move the entry at `p` to `q`, leaving `p` invalid. -/
def State.moveEntry (s : State) (n p q : Nat) : State := (s.putEntry n q (s.entryAt n p)).zeroEntry n p

/-- The lowest free place of a list. -/
def State.freeIn (s : State) (n : Nat) (l : List Nat) : Option Nat := l.find? (s.placeFree n)

/-- The other bucket of the key at place `p` under a seed pair. -/
def State.otherBucket (s : State) (n : Nat) (sd : W32 × W32) (p : Nat) : Nat :=
  let b := s.buckets n sd (s.placeKeyOf n p)
  if b.1 = p / 4 then b.2 else b.1

/-- Breadth-first search for a chain of moves that ends in a free slot: the queue holds paths, last place first; at most
128 buckets are read and 32 moves made (R327). The answer lists the chain from its free end back to the root. -/
def State.moveChain (s : State) (n : Nat) (sd : W32 × W32) : Nat → List (List Nat) → List Nat → Option (List Nat)
  | 0, _, _ => none
  | fuel + 1, paths, read =>
    match paths with
    | [] => none
    | path :: rest =>
      let b := s.otherBucket n sd (path.headD 0)
      if read.contains b then s.moveChain n sd fuel rest read
      else if 128 ≤ read.length then none
      else
        match s.freeIn n (slotsOf b) with
        | some q => some (q :: path)
        | none =>
          let more := if path.length < 32 then (slotsOf b).map (fun p => p :: path) else []
          s.moveChain n sd fuel (rest ++ more) (b :: read)

/-- Perform the moves of a chain from its free end backwards; the root place is left free. -/
def State.doMoves (s : State) (n : Nat) : List Nat → State
  | q :: p :: rest => (s.moveEntry n p q).doMoves n (p :: rest)
  | _ => s

/-- The place for a key that is not present, with the state after the moves that free it (R327). -/
def State.makeRoom (s : State) (n : Nat) (sd : W32 × W32) (key : List Byte) : Option (Nat × State) :=
  let b := s.buckets n sd key
  match s.freeIn n (slotsOf b.1 ++ slotsOf b.2) with
  | some p => some (p, s)
  | none =>
    match s.moveChain n sd 640 ((slotsOf b.1 ++ slotsOf b.2).map (fun p => [p])) [b.2, b.1] with
    | some chain => some (chain.getLastD 0, s.doMoves n chain)
    | none =>
      match s.freeIn n (s.stashPlaces n) with
      | some p => some (p, s)
      | none => none

/-- Count an entry more at place `p`; EV438 + n when the stash has become full. -/
def State.countIn (s : State) (n p : Nat) : State :=
  let a := A.tblStat n
  let s1 := s.setFld a 15 0 (s.fld a 15 0 + 1)
  if s.tblSize n ≤ p then
    let s2 := s1.setFld a 20 16 (s.fld a 20 16 + 1)
    if s2.fld a 20 16 = 16 then s2.raise (438 + n) else s2
  else s1

/-- Count an entry less at place `p`. -/
def State.countOut (s : State) (n p : Nat) : State :=
  let a := A.tblStat n
  let s1 := s.setFld a 15 0 (s.fld a 15 0 - 1)
  if s.tblSize n ≤ p then s1.setFld a 20 16 (s.fld a 20 16 - 1) else s1

/-- Move each stash entry of a list that fits into a free slot of its buckets (R329). -/
def State.unstash (s : State) (n : Nat) : List Nat → State
  | [] => s
  | p :: rest =>
    if s.placeFree n p then s.unstash n rest
    else
      let b := s.buckets n (s.placeSeeds n) (s.placeKeyOf n p)
      match s.freeIn n (slotsOf b.1 ++ slotsOf b.2) with
      | some q =>
        let s1 := s.moveEntry n p q
        (s1.setFld (A.tblStat n) 20 16 (s1.fld (A.tblStat n) 20 16 - 1)).unstash n rest
      | none => s.unstash n rest

/-! ### Partner IDs, FENCE and cooling (section 11.4) -/

/-- A partner ID is free in the map of R333. -/
def State.idFree (s : State) (i : Nat) : Bool :=
  !s.tbl.used.contains i && !s.tbl.cooling.any (fun c => decide (c.id = i))

/-- The tickets of the frames in flight. -/
def State.inFlight (s : State) : List Nat := SMap.keysWhere (fun _ f => (f.map (fun g => !g.early)).getD false) s.flt.frames

/-- A command completes: TBL_LAST, and its token; a refused token is retried (R325). -/
def State.tblDone (s : State) (c : TblCmd) (st : Status) : State :=
  let s1 := s.setReg (agKey c.agent A.tblLast) (w32 (c.seq + st.code * 0x1000000))
  if c.token then
    s1.postOr c.tag (w32 c.seq) st (fun t => { t with tbl := { t.tbl with retry := t.tbl.retry ++
      [{ src := c.agent.toNat, tag := c.tag, value := w32 c.seq, status := st, retried := false }] } })
  else s1

/-- What the end of a FENCE does: its command completes, or its IDs may become free (R331, R333). -/
def State.fenceDone (s : State) (f : Fence) : State :=
  let s1 := { s with tbl := { s.tbl with
    cooling := s.tbl.cooling.map (fun c => if f.ids.contains c.id then { c with fenced := true } else c) } }
  match f.cmd with
  | some c => s1.tblDone c .ok
  | none => s1

/-- Start a FENCE over the tickets in flight; an empty snapshot completes at once (R331). -/
def State.startFence (s : State) (cmd : Option TblCmd) (ids : List Nat) : State :=
  let f : Fence := { tickets := s.inFlight, cmd := cmd, ids := ids }
  if f.tickets = [] then s.fenceDone f else { s with tbl := { s.tbl with fences := s.tbl.fences ++ [f] } }

/-- Partner IDs go into cooling behind one internal FENCE (R333). -/
def State.cool (s : State) (ids : List Nat) : State :=
  if ids = [] then s
  else
    State.startFence { s with tbl := { s.tbl with
        used := s.tbl.used.filter (fun i => !ids.contains i),
        cooling := s.tbl.cooling ++ ids.map (fun i => { id := i, turns := 0, fenced := false }) } } none ids

/-- A frame has left the towpath or was dropped: no FENCE waits for its ticket any more (R331). -/
def State.fenceDrop (s : State) (k : Nat) : State :=
  { s with tbl := { s.tbl with fences := s.tbl.fences.map (fun f => { f with tickets := f.tickets.filter (fun t => decide (t ≠ k)) }) } }

/-- One turn of cooling: the state and the IDs that become free at it (R333). -/
def State.coolTurn (s : State) : State × List Nat :=
  let cs := s.tbl.cooling.map (fun c => { c with turns := c.turns + 1 })
  let out := cs.filter (fun c => decide (2 ≤ c.turns) && c.fenced)
  ({ s with tbl := { s.tbl with cooling := cs.filter (fun c => !(decide (2 ≤ c.turns) && c.fenced)) } }, out.map (·.id))

/-! ### Commands (section 11.3) -/

/-- The key fields of a command lie in their ranges (Table 11-2). -/
def keyOk (n : Nat) (key : List Byte) : Bool :=
  match n with
  | 0 => decide ((nth key 7 0#8).toNat < 16)
  | 1 => decide ((nth key 7 0#8).toNat < 16) && decide ((nth key 10 0#8).toNat ≤ 9)
  | _ => decide ((nth key 6 0#8).toNat ≤ 7)

/-- The result, standing and hint fields of an ADD are valid (R317, Table 11-2). -/
def addOk (c : TblCmd) : Bool :=
  keyOk c.table c.key &&
    match c.table with
    | 0 => decide (c.res.toNat / 0x20000 = 0)
    | 1 =>
      let h := bits c.aux1 15 0
      decide (bits c.res 15 3 = 0) && decide (bits c.res 31 30 = 0) && decide (bits c.aux0 31 15 = 0) &&
        (decide (h = 0) || (decide (64 ≤ h) && decide (h ≤ 10240)))
    | _ => decide (bits c.res 31 30 = 0) && decide (bits c.res 15 14 = 0) && decide (bits c.res 11 0 ≠ 0)

/-- The bytes of the entry that an ADD writes: VALID, the given AGED and LEARNED, HIT 0 (Table 11-2, R326). -/
def addEntry (c : TblCmd) : List Byte :=
  let ctl := w32 (1 + 2 * bits c.aux1 16 16 + 8 * bits c.aux1 17 17)
  match c.table with
  | 1 => c.key ++ [0#8] ++ leBytes 4 (setBit c.res 2 (bit c.aux0 0)).toNat ++ leBytes 4 c.aux0.toNat ++
      leBytes 4 (bits c.aux1 15 0) ++ leBytes 4 ctl.toNat ++ leBytes 4 0
  | n => c.key ++ List.replicate (8 - keyBytes n) 0#8 ++ leBytes 4 c.res.toNat ++ leBytes 4 ctl.toNat

/-- A failed insertion follows the table's policy (R328). -/
def State.insertFail (s : State) (n : Nat) : State :=
  let s1 := s.count (0x90230 + 8 * n)
  if bit (s.reg A.tblPolicy) n then s1.raiseFirst (435 + n)
  else (s1.setFld (A.tblStat n) 23 23 1).raise (432 + n)

/-- ADD (R327, R328, R333). -/
def State.tblAdd (s : State) (c : TblCmd) : Status × State :=
  let n := c.table
  let id := bits c.res 11 0
  if s.tblSize n = 0 then (.refusedNotReady, s)
  else if !addOk c then (.refusedRange, s)
  else
    match s.tblFind n c.key with
    | some p =>
      let old := bits (s.placeRes n p) 11 0
      if n = 2 && decide (old ≠ id) && !s.idFree id then (.refusedNotReady, s)
      else
        let s1 := s.putEntry n p (addEntry c)
        let same := decide (s1.placeRes n p = s.placeRes n p) &&
          (decide (n ≠ 1) || (decide (s1.placeStanding p = s.placeStanding p) && decide (s1.placeHint p = s.placeHint p)))
        let s2 := if same then s1 else s1.bumpEpoch n
        if n = 2 && decide (old ≠ id) then
          (.ok, State.cool { s2 with tbl := { s2.tbl with used := id :: s2.tbl.used } } [old])
        else (.ok, s2)
    | none =>
      if n = 2 && !s.idFree id then (.refusedNotReady, s)
      else
        match s.makeRoom n (s.placeSeeds n) c.key with
        | none => (.refusedCapacity, s.insertFail n)
        | some (p, s1) =>
          let s2 := ((s1.putEntry n p (addEntry c)).bumpEpoch n).countIn n p
          (.ok, if n = 2 then { s2 with tbl := { s2.tbl with used := id :: s2.tbl.used } } else s2)

/-- Remove the entries at a list of places; the partner IDs removed from T2. -/
def State.removePlaces (s : State) (n : Nat) : List Nat → State × List Nat
  | [] => (s, [])
  | p :: rest =>
    let id := bits (s.placeRes n p) 11 0
    let r := ((s.zeroEntry n p).countOut n p).removePlaces n rest
    (r.1, if n = 2 then id :: r.2 else r.2)

/-- Remove entries in one change: the epoch advances once, stash entries move back, partner IDs cool (R329, R330,
R333). -/
def State.removeAll (s : State) (n : Nat) (ps : List Nat) : State :=
  if ps = [] then s.unstash n (s.stashPlaces n)
  else
    let r := s.removePlaces n ps
    ((r.1.bumpEpoch n).unstash n (s.stashPlaces n)).cool r.2

/-- Every place of table `n` with a valid entry. -/
def State.validPlaces (s : State) (n : Nat) : List Nat :=
  if s.tblSize n = 0 then [] else (rangeFrom (s.tblSize n + 16) 0).filter (fun p => !s.placeFree n p)

/-- DEL (Table 11-6). -/
def State.tblDel (s : State) (c : TblCmd) : Status × State :=
  match s.tblFind c.table c.key with
  | some p => (.ok, s.removeAll c.table [p])
  | none => (.refusedNotReady, s)

/-- FLUSH: every entry, or the learned entries whose EGRESS meets the selector (R326). -/
def State.tblFlush (s : State) (c : TblCmd) : Status × State :=
  let n := c.table
  if s.tblSize n = 0 then (.refusedNotReady, s)
  else if !bit c.aux0 9 && decide (n ≠ 0) then (.refusedRange, s)
  else
    (.ok, s.removeAll n ((s.validPlaces n).filter (fun p =>
      bit c.aux0 9 || (bit (s.placeCtl n p) 3 && decide (bits (s.placeRes n p) 8 0 &&& bits c.aux0 8 0 ≠ 0)))))

/-- READ: the entry into the agent's TBL_RD0 to TBL_RD3 (Table 11-6). -/
def State.tblRead (s : State) (c : TblCmd) : Status × State :=
  let rd := fun (t : State) (i : Nat) (v : W32) => t.setReg (agKey c.agent (A.tblRd i)) v
  match s.tblFind c.table c.key with
  | some p =>
    let st := decide (s.tblSize c.table ≤ p)
    (.ok, rd (rd (rd (rd s 0 (s.placeRes c.table p)) 1 (s.placeCtl c.table p)) 2
      (w32 (if st then 0x10000 + (p - s.tblSize c.table) else p))) 3
      (if c.table = 1 then s.placeStanding p else 0#32))
  | none => (.refusedNotReady, rd (rd (rd (rd s 0 0#32) 1 0#32) 2 0#32) 3 0#32)

/-- REHASH: the target seeds (R339). -/
def State.tblRehash (s : State) (c : TblCmd) : Option Status × State :=
  let a := w32 (leNat (c.key.take 4))
  let b := w32 (leNat ((c.key.drop 4).take 4))
  if s.tblSize c.table = 0 ∨ s.tbl.rehash.any (fun r => decide (r.table = c.table)) then (some .refusedNotReady, s)
  else if a = b then (some .refusedRange, s)
  else
    (none, State.setFld { s with tbl := { s.tbl with
      rehash := s.tbl.rehash ++ [{ table := c.table, seedA := a, seedB := b, cmd := c }] } } (A.tblStat c.table) 22 22 1)

/-- A command puts a T2 partner ID into cooling, and so starts an internal FENCE (R333). -/
def State.tblCools (s : State) (c : TblCmd) : Bool :=
  let p := s.tblFind 2 (c.key.take 7)
  decide (c.table = 2) && match c.op with
    | 1 => addOk { c with key := c.key.take 7 } && s.idFree (bits c.res 11 0) &&
      ((p.map (fun q => decide (bits (s.placeRes 2 q) 11 0 ≠ bits c.res 11 0))).getD false)
    | 2 => p.isSome
    | 4 => bit c.aux0 9 && decide (s.validPlaces 2 ≠ [])
    | _ => false

/-- A command that starts a FENCE, internal ones included, is held while 8 are pending (R331, R333). -/
def State.tblHeld (s : State) (c : TblCmd) : Bool :=
  decide (8 ≤ s.tbl.fences.length) && (decide (c.op = 3) || s.tblCools c)

/-- Perform one command: its status, or none while it goes on (Table 11-6). -/
def State.tblPerform (s : State) (c : TblCmd) : Option Status × State :=
  let c1 := { c with key := c.key.take (keyBytes c.table) }
  let wrap := fun (r : Status × State) => (some r.1, r.2)
  match c.op with
  | 1 => wrap (s.tblAdd c1)
  | 2 => wrap (s.tblDel c1)
  | 3 => (none, s.startFence (some c) [])
  | 4 => wrap (s.tblFlush c1)
  | 5 => s.tblRehash c
  | _ => wrap (s.tblRead c1)

/-- Perform queued commands in order until the queue is empty or held (R324). -/
def tblDrain : Nat → State → State
  | 0, s => s
  | fuel + 1, s =>
    match s.tbl.queue with
    | [] => s
    | c :: rest =>
      if s.tblHeld c then s
      else
        let r := State.tblPerform { s with tbl := { s.tbl with queue := rest } } c
        tblDrain fuel (match r.1 with
          | some st => r.2.tblDone c st
          | none => r.2)

/-- Perform the command queue. -/
def State.tblRun (s : State) : State := tblDrain (s.tbl.queue.length) s

/-- Put a command into the queue with the next sequence number and perform what can be (R324). -/
def State.tblEnqueue (s : State) (c : TblCmd) : State :=
  let q := s.tbl.seq
  let s1 := { s with tbl := { s.tbl with queue := s.tbl.queue ++ [{ c with seq := q }],
                                         seq := if q = 0xFFFE then 0 else q + 1 } }
  (s1.setReg (agKey c.agent A.tblSeq) (w32 q)).tblRun

/-- The agent may give a command (R326). -/
def State.tblRight (s : State) (ag : Agent) (op table : Nat) : Bool :=
  let boss := isBoss ag || decide (ag = 0x604#12)
  if table = 2 ∧ (op = 1 ∨ op = 2 ∨ op = 4) then boss else boss || (isThread ag && s.reaches ag 0x09)

/-- The staging registers of an agent as a command (R324). -/
def State.tblStaged (s : State) (ag : Agent) (op table : Nat) (token : Bool) (tag : Nat) : TblCmd :=
  { op := op, table := table,
    key := (rangeFrom 3 0).flatMap (fun i => leBytes 4 (s.reg (agKey ag (A.tblKey i))).toNat),
    res := s.reg (agKey ag A.tblRes), aux0 := s.reg (agKey ag A.tblAux0), aux1 := s.reg (agKey ag A.tblAux1),
    agent := ag, seq := 0, token := token, tag := tag }

/-- A command refused at the queue: TBL_LAST shows SEQ 0xFFFF (R324). -/
def State.tblRefuse (s : State) (ag : Agent) (st : Status) : State :=
  (s.setReg (agKey ag A.tblLast) (w32 (0xFFFF + st.code * 0x1000000))).status st

/-- A write of TBL_CMD by an agent (R324, R326). -/
def State.tblSubmit (s : State) (ag : Agent) (op table : Nat) (token : Bool) (tag : Nat) : State :=
  if s.regOff A.tblCmd then s.refuse ag A.tblCmd .refusedNotReady
  else if table = 3 ∨ op = 0 ∨ 6 < op then s.tblRefuse ag .refusedRange
  else if !s.tblRight ag op table then s.tblRefuse ag .refusedRights
  else if 64 ≤ s.tbl.queue.length then s.tblRefuse ag .refusedCapacity
  else (s.tblEnqueue (s.tblStaged ag op table token tag)).status .ok

/-! ### Learning (section 11.5) -/

/-- What the T0 source lookup of a frame yields (R334). -/
def State.sourceLookup (s : State) (key : List Byte) (port : Nat) : State × Option Learn :=
  match s.tblFind 0 key with
  | none => (s.countLookup 0 false, some { key := key, port := port, refresh := false })
  | some p =>
    let s1 := s.countLookup 0 true
    if bits (s.placeRes 0 p) 8 0 = 2 ^ port then (s1, some { key := key, port := port, refresh := true })
    else if bit (s.placeCtl 0 p) 3 then (s1, some { key := key, port := port, refresh := false })
    else ((s1.count 0x90258).raise 442, none)

/-- A committed request enters the learn queue; a refresh sets HIT (R335, R336). -/
def State.learnCommit (s : State) (l : Learn) : State :=
  if l.refresh then
    match s.tblFind 0 l.key with
    | some p => s.writeLE (s.placeKey 0 p + 12) 4 (setBit (s.placeCtl 0 p) 2 true).toNat
    | none => s
  else if s.tbl.learn.length < 64 then { s with tbl := { s.tbl with learn := s.tbl.learn ++ [l] } }
  else (s.count 0x90250).raiseFirst 441

/-- A learn request performs as an ADD by agent 0x600; one whose key became non-learned is dropped as R334 has it (R336). -/
def State.learnPerform (s : State) (l : Learn) : State :=
  let c : TblCmd := { op := 1, table := 0, key := l.key, res := w32 (2 ^ l.port), aux0 := 0#32, aux1 := 0x30000#32,
                      agent := 0x600#12, seq := 0, token := false, tag := 0 }
  match s.tblFind 0 l.key with
  | none => ((s.tblAdd c).2).count 0x90248
  | some p =>
    let moved := decide (bits (s.placeRes 0 p) 8 0 ≠ 2 ^ l.port)
    if !bit (s.placeCtl 0 p) 3 then (if moved then (s.count 0x90258).raise 442 else s)
    else
      let s1 := ((s.tblAdd c).2).count 0x90248
      if moved then (s1.count 0x90260).raise 443 else s1

/-- One sweep of the lengthsman over T0 (R337). -/
def State.ageSweep (s : State) : State :=
  let aged := (s.validPlaces 0).filter (fun p => bit (s.placeCtl 0 p) 1)
  let dead := aged.filter (fun p => !bit (s.placeCtl 0 p) 2)
  let live := aged.filter (fun p => bit (s.placeCtl 0 p) 2)
  let s1 := live.foldl (fun t p => t.writeLE (t.placeKey 0 p + 12) 4 (setBit (t.placeCtl 0 p) 2 false).toNat) s
  let s2 := dead.foldl (fun t p =>
    ((((t.zeroEntry 0 p).countOut 0 p).bumpEpoch 0).count 0x90268)) s1
  (s2.unstash 0 (s2.stashPlaces 0)).raise 450

/-! ### Rehash (section 11.6) -/

/-- Place every entry of a list of places that lies in no target bucket of its key under the seeds `sd`; `none` when
one cannot be placed (R339). -/
def State.migrate (s : State) (n : Nat) (sd : W32 × W32) : List Nat → Option State
  | [] => some s
  | p :: rest =>
    if s.placeFree n p then s.migrate n sd rest
    else
      let b := s.buckets n sd (s.placeKeyOf n p)
      if p < s.tblSize n ∧ (p / 4 = b.1 ∨ p / 4 = b.2) then s.migrate n sd rest
      else if s.tblSize n ≤ p then
        (match s.freeIn n (slotsOf b.1 ++ slotsOf b.2) with
         | some q => (((s.moveEntry n p q)).setFld (A.tblStat n) 20 16 (s.fld (A.tblStat n) 20 16 - 1)).migrate n sd rest
         | none => s.migrate n sd rest)
      else
        let e := s.entryAt n p
        let key := s.placeKeyOf n p
        let s1 := (s.zeroEntry n p).countOut n p
        match s1.makeRoom n sd key with
        | none => none
        | some (q, s2) => ((s2.putEntry n q e).countIn n q).migrate n sd rest

/-- Migrate the whole table under a seed pair. -/
def State.migrateAll (s : State) (n : Nat) (sd : W32 × W32) : Option State :=
  s.migrate n sd (rangeFrom (s.tblSize n + 16) 0)

/-- The rehash of table `n` is no longer in progress. -/
def State.rehashOver (s : State) (n : Nat) : State :=
  State.setFld { s with tbl := { s.tbl with rehash := s.tbl.rehash.filter (fun r => decide (r.table ≠ n)) } }
    (A.tblStat n) 22 22 0

/-! ### Meanings -/

/-- TABLE_ADD: TBL_CMD with OP 1 (R326, R327). -/
def execTableAdd (ag : Agent) (table : BitVec 2) (token : Bool) (tag : BitVec 16) (s : State) :
    Host.Outcome State Fault Refusal := .next (s.tblSubmit ag 1 table.toNat token tag.toNat)

/-- TABLE_DEL: TBL_CMD with OP 2 (R326, R330). -/
def execTableDel (ag : Agent) (table : BitVec 2) (token : Bool) (tag : BitVec 16) (s : State) :
    Host.Outcome State Fault Refusal := .next (s.tblSubmit ag 2 table.toNat token tag.toNat)

/-- TABLE_FENCE: TBL_CMD with OP 3 (R331). -/
def execTableFence (ag : Agent) (table : BitVec 2) (token : Bool) (tag : BitVec 16) (s : State) :
    Host.Outcome State Fault Refusal := .next (s.tblSubmit ag 3 table.toNat token tag.toNat)

/-- FENCE_COMPLETE: the first FENCE whose frames have all gone completes, and a held command proceeds (R331). -/
def execFenceComplete (s : State) : Host.Outcome State Fault Refusal :=
  match s.tbl.fences.find? (fun f => decide (f.tickets = [])) with
  | none => .next s
  | some f =>
    .next ((State.fenceDone { s with tbl := { s.tbl with fences := s.tbl.fences.erase f } } f).tblRun)

/-- TABLE_FLUSH: TBL_CMD with OP 4 (R326). -/
def execTableFlush (ag : Agent) (table : BitVec 2) (token : Bool) (tag : BitVec 16) (s : State) :
    Host.Outcome State Fault Refusal := .next (s.tblSubmit ag 4 table.toNat token tag.toNat)

/-- TABLE_REHASH: TBL_CMD with OP 5 (R339). -/
def execTableRehash (ag : Agent) (table : BitVec 2) (token : Bool) (tag : BitVec 16) (s : State) :
    Host.Outcome State Fault Refusal := .next (s.tblSubmit ag 5 table.toNat token tag.toNat)

/-- REHASH_COMPLETE: every entry lies under the target seeds, which take effect (R339); no effect while one cannot be
placed. -/
def execRehashComplete (n : Fin 3) (s : State) : Host.Outcome State Fault Refusal :=
  match s.tbl.rehash.find? (fun r => decide (r.table = n.val)) with
  | none => .next s
  | some r =>
    match s.migrateAll n (r.seedA, r.seedB) with
    | none => .next s
    | some s1 =>
      let s2 := ((s1.rehashOver n).setReg (A.tblSeeda n) r.seedA).setReg (A.tblSeedb n) r.seedB
      .next (((s2.setFld (A.tblStat n) 23 23 0).raise (444 + n)).tblDone r.cmd .ok)

/-- REHASH_FAIL: an entry cannot be placed under the target seeds; the table goes back under the old ones (R340). -/
def execRehashFail (n : Fin 3) (s : State) : Host.Outcome State Fault Refusal :=
  match s.tbl.rehash.find? (fun r => decide (r.table = n.val)) with
  | none => .next s
  | some r =>
    match s.migrateAll n (r.seedA, r.seedB) with
    | some _ => .next s
    | none =>
      let s1 := s.rehashOver n
      let s2 := (s1.migrateAll n (s.reg (A.tblSeeda n), s.reg (A.tblSeedb n))).getD s1
      .next ((s2.raise (447 + n)).tblDone r.cmd .refusedCapacity)

/-- TABLE_READ: TBL_CMD with OP 6 (Table 11-6). -/
def execTableRead (ag : Agent) (table : BitVec 2) (token : Bool) (tag : BitVec 16) (s : State) :
    Host.Outcome State Fault Refusal := .next (s.tblSubmit ag 6 table.toNat token tag.toNat)

/-- TABLE_TOKEN_RETRY: refused completion tokens are posted again and counted (R325). -/
def execTableTokenRetry (s : State) : Host.Outcome State Fault Refusal :=
  let p := repostAll s.tbl.retry s
  .next (State.countBy { p.2.2 with tbl := { p.2.2.tbl with retry := p.2.1 } } 0x90270 s.tbl.retry.length)

/-- LEARN_INSERT: the oldest learn request is performed (R336). -/
def execLearnInsert (s : State) : Host.Outcome State Fault Refusal :=
  match s.tbl.learn with
  | [] => .next s
  | l :: rest => .next (State.learnPerform { s with tbl := { s.tbl with learn := rest } } l)

/-- AGEING_SWEEP: one sweep of T0, while its period is not 0xFFFF (R337). -/
def execAgeingSweep (s : State) : Host.Outcome State Fault Refusal :=
  if s.fld A.tblAge 15 0 = 0xFFFF ∨ s.tblSize 0 = 0 then .next s else .next s.ageSweep

end Sys2Proof.Machine
end

