-- ==== Sys2Proof/Machine/Flight.lean ====
section
/-! DEFINITION. The flight (chapter 05): parsing and classification, tickets, the frame record, drops and stomps, the
drop log, run-ahead with its edit horizon, verdicts and the towpath; and the posted stores of a slot, which the edit
horizon can refuse. -/

namespace Sys2Proof.Machine

/-! ### Frame headers (R114, R374) -/

/-- Byte `i` of a frame. -/
def byteAt (bs : List Byte) (i : Nat) : Nat := (nth bs i 0#8).toNat

/-- Two bytes of a frame, most significant first (R5). -/
def be16 (bs : List Byte) (i : Nat) : Nat := byteAt bs i * 256 + byteAt bs (i + 1)

/-- The frame carries one IEEE 802.1Q tag (R374). -/
def hdrTagged (bs : List Byte) : Bool := decide (be16 bs 12 = 0x8100)

/-- Offset of the first byte after the EtherType. -/
def hdrOff (bs : List Byte) : Nat := if hdrTagged bs then 18 else 14

/-- The EtherType after at most one tag. -/
def hdrEtype (bs : List Byte) : Nat := be16 bs (hdrOff bs - 2)

/-- Port `p`'s PORTS entry. -/
def State.portCfg (s : State) (p : Nat) : PortCfg :=
  (s.shp.ports[p]?).getD { mode := 0, speed := 0, preempt := false, pauseC3 := false, stamp := false, mdio := 0, phy := 0,
                           maxFrame := 0, pcpMap := 0#32, pvid := 0 }

/-- The VLAN field of the record: the received TCI, or PCP 0 with the ingress PVID (Table 5-1). -/
def State.frameVlan (s : State) (p : Nat) (bs : List Byte) : Nat :=
  if hdrTagged bs then be16 bs 14 else (s.portCfg p).pvid

/-- The VID for lookups: VID 0 is replaced by the ingress PVID (R374). -/
def State.frameVid (s : State) (p : Nat) (bs : List Byte) : Nat :=
  let v := s.frameVlan p bs % 0x1000
  if v = 0 then (s.portCfg p).pvid else v

/-- Keys of the sequencer's lookups (Table 11-3). -/
def State.keyDst (s : State) (p : Nat) (bs : List Byte) : List Byte := bs.take 6 ++ leBytes 2 (s.frameVid p bs)
/-- The T0 source key. -/
def State.keySrc (s : State) (p : Nat) (bs : List Byte) : List Byte :=
  (bs.drop 6).take 6 ++ leBytes 2 (s.frameVid p bs)
/-- The T1 key. -/
def State.keyStream (s : State) (p : Nat) (bs : List Byte) : List Byte :=
  bs.take 6 ++ leBytes 2 (s.frameVid p bs) ++ leBytes 2 (hdrEtype bs) ++ leBytes 1 p
/-- The T2 key. -/
def keyPartner (p : Nat) (bs : List Byte) : List Byte := (bs.drop 6).take 6 ++ leBytes 1 p

/-- The KIND of a barge frame, if the frame is one (Table 12-2). -/
def bargeKind (bs : List Byte) : Option Nat := if hdrEtype bs = 0x88B5 then some (byteAt bs (hdrOff bs) % 16) else none

/-- The LENGTH field of a barge frame. -/
def bargeLength (bs : List Byte) : Nat := be16 bs (hdrOff bs + 2)

/-- The class of a message kind (Table 12-3). -/
def kindClass (k : Nat) : Nat :=
  match k with
  | 1 | 2 => 0
  | 3 | 4 | 5 | 6 => 1
  | _ => 2

/-- The class of a frame from ports 0–7 (R114). -/
def State.classify (s : State) (p : Nat) (bs : List Byte) : Nat :=
  match bargeKind bs with
  | some k => kindClass k
  | none =>
    match s.tblFind 1 (s.keyStream p bs) with
    | some q => bits (s.placeRes 1 q) 1 0
    | none =>
      if hdrTagged bs then
        let pcp := s.frameVlan p bs / 0x2000
        s.fld A.fltClassmap (2 * pcp + 1) (2 * pcp)
      else s.fld A.fltClassmap 17 16

/-- The queue that the ingress port's PCPMAP gives the frame's PCP (R375, Table 2-9). -/
def State.pcpQueue (s : State) (p : Nat) (bs : List Byte) : Nat :=
  let pcp := if hdrTagged bs then s.frameVlan p bs / 0x2000 else 0
  bits (s.portCfg p).pcpMap (3 * pcp + 2) (3 * pcp)

/-! ### Line rates -/

/-- The speed code of a port (PRT_STATn.SPEED). -/
def State.portSpeed (s : State) (p : Nat) : Nat := s.fld (A.prtStat p) 3 2

/-- Tenths of a nanosecond for each byte at a speed code. -/
def byteTenths (sp : Nat) : Nat :=
  match sp with
  | 0 => 8000
  | 1 => 800
  | 2 => 80
  | _ => 32

/-- The time `n` bytes take on port `p`, in ns. -/
def State.byteTime (s : State) (p n : Nat) : Nat := n * byteTenths (s.portSpeed p) / 10

/-- Bytes started by time `t` when the first began at `t0`. -/
def State.bytesBy (s : State) (p t0 t : Nat) : Nat :=
  if t < t0 then 0 else (t - t0) * 10 / byteTenths (s.portSpeed p) + 1

/-! ### Fabric lookups -/

/-- The fabric a frame follows (section 2.4). -/
def State.fabricOf (s : State) (f : Frame) : Fabric :=
  if f.fab = s.flt.fabGen then s.shp.fabric else s.shp.old.getD s.shp.fabric

/-- The entry of pound `n` in a fabric. -/
def Fabric.pound? (fb : Fabric) (n : Nat) : Option PoundCfg := fb.pounds.find? (fun p => decide (p.pound = n))

/-- ROUTE[r] of pound `n`; 0xFF is unused. -/
def Fabric.routeOf (fb : Fabric) (n r : Nat) : Nat :=
  match fb.pound? n with
  | some p => nth p.route r 0xFF
  | none => 0xFF

/-! ### The drop log (section 5.5) -/

/-- Bytes of a frame received by now. -/
def State.received (s : State) (f : Frame) : Nat :=
  if f.fr.fcsDone || decide (8 ≤ f.fr.port) then f.wire.length
  else min f.wire.length (s.bytesBy f.fr.port f.t0 s.time)

/-- Write one record (Table 5-4). -/
def State.logDrop (s : State) (ticket domain reason detail point egress : Nat) (ag : Agent) (dcode seq len : Nat)
    (wire : List Byte) : State :=
  let n := (s.reg A.fltDlogWr).toNat
  let cells := s.flt.logCells
  if cells = [] then s
  else
    let a := kBasin + nth cells (n / 2 % cells.length) 0 * 64 + n % 2 * 32
    let bs := leBytes 8 s.time ++ leBytes 2 ticket ++ leBytes 1 domain ++ leBytes 1 reason ++ leBytes 1 detail ++
      leBytes 1 point ++ leBytes 2 egress ++ leBytes 2 ag.toNat ++ leBytes 2 dcode ++ leBytes 2 seq ++ leBytes 2 len ++
      (rangeFrom 6 0).map (fun i => nth wire i 0#8) ++
      [nth wire (hdrOff wire - 2) 0#8, nth wire (hdrOff wire - 1) 0#8]
    (s.writeBytes a bs).setReg A.fltDlogWr (w32 (n + 1))

/-- The reason of a detail when nothing has left (Table 5-5). -/
def detailReason (d : Nat) : Status :=
  match d with
  | 1 | 2 | 3 | 8 => .refusedRange
  | 4 | 5 => .refusedCapacity
  | 7 => .refusedRights
  | 9 => .staleEpoch
  | 10 | 11 => .timeout
  | _ => .stomped

/-- The class counters FLT_ADMIT_Cc and FLT_DROP_Cc. -/
def fltAdmit (c : Nat) : Nat := 0x60200 + 8 * (c % 4)
/-- FLT_DROP_Cc. -/
def fltDrop (c : Nat) : Nat := 0x60220 + 8 * (c % 4)

/-- A record for details FCS_BAD, RUNT and OVERSIZE is left only under RXERR_LOG (R141). -/
def State.logs (s : State) (detail : Nat) : Bool := decide (3 < detail) || bit (s.reg A.fltCtrl) 8

/-- A frame that held no ticket is dropped (R117, R141). -/
def State.dropRx (s : State) (port cls detail point : Nat) (r : RxFrame) (len : Nat) : State :=
  let s1 := s.count (fltDrop cls)
  if s1.logs detail then
    s1.logDrop 0xFFFF (port + cls * 16) (detailReason detail).code detail point 0 0x600#12 0 0 len r.bytes
  else s1

/-! ### Released frames -/

/-- Egress entry `e`. -/
def State.egFrame (s : State) (e : Nat) : Option EgFrame := SMap.get (fun _ => none) s.flt.eg e

/-- Egress entry `e` still waits for the host. -/
def State.waitsHost (s : State) (e : Nat) : Bool := ((s.egFrame e).map (fun x => x.toHost)).getD false

/-- The state with egress entry `e` replaced. -/
def State.setEg (s : State) (e : Nat) (x : Option EgFrame) : State :=
  { s with flt := { s.flt with eg := SMap.set (fun _ => none) s.flt.eg e x } }

/-- Port `p`. -/
def State.port (s : State) (p : Nat) : PortSt := SMap.get (fun _ => PortSt.init) s.prt.ports p

/-- The state with port `p` replaced. -/
def State.setPort (s : State) (p : Nat) (x : PortSt) : State :=
  { s with prt := { s.prt with ports := SMap.set (fun _ => PortSt.init) s.prt.ports p x } }

/-- Queue `q` of a port. -/
def PortSt.queue (x : PortSt) (q : Nat) : List Nat := SMap.get (fun _ => []) x.queues q

/-- The port with queue `q` replaced. -/
def PortSt.setQueue (x : PortSt) (q : Nat) (l : List Nat) : PortSt :=
  { x with queues := SMap.set (fun _ => []) x.queues q l }

/-- A port whose queues no longer hold an egress entry. -/
def PortSt.unqueue (x : PortSt) (e : Nat) : PortSt :=
  (rangeFrom 8 0).foldl (fun y q => y.setQueue q ((y.queue q).filter (fun k => decide (k ≠ e)))) x

/-- An egress entry that no port and no host needs any more is gone, with its buffer (R128, R301). -/
def State.egSettle (s : State) (e : Nat) : State :=
  match s.egFrame e with
  | none => s
  | some x =>
    if x.ports = 0#16 && !x.toHost then
      let s1 := if x.owned then s.freeBuf x.buf else s
      let s2 := s1.setEg e none
      match x.ticket with
      | none => s2
      | some k =>
        match s2.frame k with
        | none => s2
        | some f => s2.setFrame k (some { f with eg := none, released := true })
    else s

/-- Port `p` has finished with an egress entry. -/
def State.egPortDone (s : State) (e p : Nat) : State :=
  match s.egFrame e with
  | none => s
  | some x => (s.setEg e (some { x with ports := x.ports &&& ~~~(1#16 <<< p) })).egSettle e

/-- Bytes of an egress entry that some port has started to send. -/
def State.egStarted (s : State) (e : Nat) : Nat :=
  (rangeFrom 8 0).foldl (fun m p =>
    match (s.port p).sending with
    | some g => if g.eg = e then max m (g.sent + s.bytesBy p g.t0 s.time) else m
    | none =>
      match (s.port p).cut with
      | some g => if g.eg = e then max m g.sent else m
      | none => m) 0

/-- HORIZON of a frame: the bytes that an egress port has started to send, plus 32; 0 before egress begins (R137). -/
def State.horizon (s : State) (f : Frame) : Nat :=
  match f.eg with
  | none => 0
  | some e =>
    match s.egFrame e with
    | none => 0
    | some x => if x.begun = 0#16 then 0 else min 0xFFFF (s.egStarted e + 32)

/-- Egress of a frame has begun on some port. -/
def State.begun (s : State) (f : Frame) : Bool :=
  match f.eg with
  | none => false
  | some e => ((s.egFrame e).map (fun x => decide (x.begun ≠ 0#16))).getD false

/-! ### The end of a frame -/

/-- No thread has frame `k` as its current frame any more, and its arrival token has gone (R251, section 9.2). -/
def State.forgetFrame (s : State) (k : Nat) : State :=
  let ts := s.lk.threads.map (fun p => (p.1, if p.2.frame = some k then { p.2 with frame := none } else p.2))
  let toks := s.lk.toks.map (fun p =>
    (p.1, if tagKind p.1 = .arrival then p.2.filter (fun t => decide (t.value ≠ w32 k)) else p.2))
  { s with lk := { s.lk with threads := ts, toks := toks.filter (fun p => decide (p.2 ≠ [])) } }

/-- Conditions of R129 hold for the cycle's C0 frames. -/
def State.c0Done (s : State) : Bool :=
  s.flt.frames.all (fun p =>
    match p.2 with
    | some f => decide (f.fr.cls ≠ 0) || f.complete || decide (f.admitCycle ≠ s.cycle)
    | none => true)

/-- Every outbound descriptor enabled for the cycle has sealed and every enabled receive window has closed (R129). -/
def State.bargesDone (s : State) : Bool :=
  (rangeFrom 16 0).all (fun n => !bit (s.reg (A.brgOcfg n)) 0 ||
      (SMap.get (fun _ => OutBarge.init) s.brg.out n).sealed) &&
    (rangeFrom 8 0).all (fun n => !bit (s.reg (A.brgIcfg n)) 0 || s.brg.closed.contains n)

/-- The cycle's finish instant, when it has come (R129). -/
def State.checkFinish (s : State) : State :=
  if s.tb.cycRun && !bit (s.reg A.fltFinish) 31 && s.c0Done && s.bargesDone then
    s.setReg A.fltFinish (w32 (0x80000000 + s.offset % 0x800000))
  else s

/-- The ticket of frame `k` is freed: the frame has left the flight (R116, R128). -/
def State.endFrame (s : State) (k : Nat) : State :=
  ((((s.setFrame k none).forgetFrame k).fenceDrop k).checkFinish).matching

/-- A released frame whose flight is complete with FCS_DONE leaves the towpath; a good frame commits its learn request
(R128, R335). -/
def State.tryLeave (s : State) (k : Nat) : State :=
  match s.frame k with
  | none => s
  | some f =>
    if f.released && f.complete && f.fr.fcsDone then
      let s1 := match f.learn with
        | some l => if f.fr.fcsBad || f.fr.stomp then s else s.learnCommit l
        | none => s
      let s2 := match f.eg with
        | some e =>
          match s1.egFrame e with
          | some x => s1.setEg e (some { x with ticket := none, len := f.fr.len, fin := true })
          | none => s1
        | none => s1
      s2.endFrame k
    else s

/-- Log a frame that held a ticket; a stomped frame is always logged (R139, R141, R142). -/
def State.recordFrame (s : State) (k : Nat) (f : Frame) (reason detail point : Nat) (ag : Agent) (dcode : Nat) : State :=
  s.logDrop k (f.fr.port + f.fr.cls * 16) reason detail point f.fr.egress.toNat ag dcode f.fr.seq.toNat (s.received f)
    f.wire

/-- Log a dropped frame, where its detail is logged (R141). -/
def State.logFrame (s : State) (k : Nat) (f : Frame) (reason detail point : Nat) (ag : Agent) (dcode : Nat) : State :=
  if s.logs detail then s.recordFrame k f reason detail point ag dcode else s

/-- The ports of an egress entry that have not started it drop it unsent (R139). -/
def State.dropUnsent (s : State) (e : Nat) : State :=
  match s.egFrame e with
  | none => s
  | some x =>
    let s1 := (rangeFrom 8 0).foldl (fun t p => if x.begun.getLsbD p then t else t.setPort p ((t.port p).unqueue e)) s
    (s1.setEg e (some { x with ports := x.ports &&& x.begun, stomp := true, toHost := false })).egSettle e

/-- A frame whose egress has begun is stomped, once (R138, R139). `done` says that its flight ends with it. -/
def State.stomp (s : State) (k detail point : Nat) (ag : Agent) (dcode : Nat) (done : Bool) : State :=
  match s.frame k with
  | none => s
  | some f =>
    let s1 :=
      if f.fr.stomp then s
      else
        let s2 := ((s.recordFrame k f Status.stomped.code detail point ag dcode).count 0x60240).count (fltDrop f.fr.cls)
        let s3 := s2.setFrame k (some { f with fr := { f.fr with stomp := true }, learn := none })
        match f.eg with
        | some e => s3.dropUnsent e
        | none => s3
    let s4 :=
      if done then
        match s1.frame k with
        | some g => (s1.setFrame k (some { g with complete := true })).forgetFrame k
        | none => s1
      else s1
    (s4.tryLeave k).checkFinish

/-- A frame is dropped: stomped when any byte has left, otherwise it leaves the towpath at once (R127, R142). -/
def State.dropFrame (s : State) (k detail point : Nat) (ag : Agent) (dcode : Nat) : State :=
  match s.frame k with
  | none => s
  | some f =>
    if s.begun f then s.stomp k detail point ag dcode true
    else
      let s1 := (s.logFrame k f (detailReason detail).code detail point ag dcode).count (fltDrop f.fr.cls)
      let s2 := match f.eg with
        | some e => s1.dropUnsent e
        | none => if f.released then s1 else s1.freeBuf f.fr.buf.toNat
      let rx := SMap.get (fun _ => []) s2.flt.rx f.fr.port
      let rx' := rx.map (fun r => if r.ticket = some k && !r.fin then { r with gone := true } else r)
      let s3 := { s2 with flt := { s2.flt with rx := SMap.set (fun _ => []) s2.flt.rx f.fr.port rx' } }
      s3.endFrame k

/-! ### Posted stores (section 6.5) -/

/-- The frame in flight whose buffer holds the basin byte at key `a`, with the byte's place in it. -/
def State.frameAt (s : State) (a : Nat) : Option (Nat × Frame × Nat) :=
  s.flt.frames.findSome? (fun p =>
    match p.2 with
    | none => none
    | some f =>
      let base := kBasin + bufPtr f.fr.buf.toNat * 64
      if f.eg.isSome && decide (base ≤ a) && decide (a < base + s.bufBytes f.fr.buf.toNat) then some (p.1, f, a - base)
      else none)

/-- A posted store of an agent is performed at its target; a store behind the edit horizon moves no byte and stomps the
frame (R137, R166). -/
def State.performStore (s : State) (ag : Agent) (p : PStore) : State :=
  if kBasin ≤ p.key ∧ p.key < kBasin + 0x600000 then
    match s.frameAt p.key with
    | some (k, f, i) =>
      if s.begun f && decide (i < s.horizon f) then
        s.stomp k 0x0C ((s.poundNo ag).getD 0) ag 0 false
      else s.writeBytes p.key p.bytes
    | none => s.writeBytes p.key p.bytes
  else if kShared ≤ p.key ∧ p.key < kShared + 0x400000 then s.sramWrite (p.key - kShared) p.bytes
  else if kDramCh 0 ≤ p.key ∧ p.key < kDramCh 2 then
    let x := (p.key - kDramCh 0) / 0x100000000
    let c := (p.key - kDramCh 0) % 0x100000000
    (s.dramAccess x ag c p.bytes.length true false).dramWrite x c p.bytes
  else s.writeBytes p.key p.bytes

/-- Perform the stores of a list in order, as slot `w`. -/
def performAll (ag : Agent) : List PStore → State → State
  | [], s => s
  | p :: rest, s => performAll ag rest (s.performStore ag p)

/-- Every posted store of slot `w` is performed (R169, R170). -/
def State.drain (s : State) (w : SlotId) : State :=
  performAll (slotAgent w) (s.slot w).stores (s.setSlot w { s.slot w with stores := [] })

/-- The stores of the thread slot that agent `ag` names are performed (R169, R298). -/
def State.drainAgent (s : State) (ag : Agent) : State :=
  match agentSlot ag with
  | some w => s.drain (Fin.ofNat 516 w)
  | none => s

/-! ### Tickets and buffers -/

/-- Tickets of the frames that satisfy `p`. -/
def State.countFrames (s : State) (p : Frame → Bool) : Nat :=
  (s.flt.frames.filter (fun x => (x.2.map p).getD false)).length

/-- A ticket for a frame of class `c`: the lowest free one, and whether it is shared (R116). -/
def State.takeTicket (s : State) (c : Nat) : Option (Nat × Bool) :=
  let own := s.countFrames (fun f => decide (f.fr.cls = c) && !f.shared)
  let reserve := match c with
    | 0 => 192
    | 1 => 64
    | _ => 0
  let shared := s.countFrames (fun f => f.shared)
  let free := (rangeFrom 1024 0).find? (fun k => (s.frame k).isNone)
  match free with
  | none => none
  | some k => if own < reserve then some (k, false) else if shared < 768 then some (k, true) else none

/-- Keep FLT_TKT_PEAK. -/
def State.notePeak (s : State) : State :=
  let n := s.countFrames (fun _ => true)
  if s.fld A.fltTktPeak 10 0 < n then s.setReg A.fltTktPeak (w32 n) else s

/-- The buffer a frame is given: a berth for an inbound C0 barge, otherwise the size of its barge length, its T1 hint or
MAXFRAME (R300, section 5.1). -/
def State.frameBuffer (s : State) (p cls : Nat) (bs : List Byte) : Status × Nat × State :=
  match s.entryOf 0x600 with
  | none => (.refusedCapacity, 0, s)
  | some e =>
    if cls = 0 then s.allocBerth e true
    else
      let largest := (rangeFrom 6 0).foldl (fun m q => if s.poolUsable e q then max m (s.areaSize q) else m) 0
      let hint := match s.tblFind 1 (s.keyStream p bs) with
        | some q => s.placeHint q
        | none => 0
      let size :=
        match bargeKind bs with
        | some _ => max 64 (hdrOff bs + bargeLength bs + 4)
        | none => if hint = 0 then (s.portCfg p).maxFrame else hint
      s.allocSize e (if largest < size then (s.portCfg p).maxFrame else size) (some cls)

/-! ### Run-ahead and release (sections 5.3, 5.4) -/

/-- The conditions of R135 for a frame, but for the entry verdict's request. -/
def State.mayRunAhead (s : State) (f : Frame) : Bool :=
  bit (s.reg A.fltCtrl) f.fr.port && decide (f.fr.port < 8) && decide (1 ≤ f.fr.cls) && decide (f.fr.egress.toNat < 256) &&
    decide (f.fr.egress ≠ 0#16) && !f.fr.fcsDone &&
    (rangeFrom 8 0).all (fun p => !f.fr.egress.getLsbD p || decide (s.portSpeed p ≤ s.portSpeed f.fr.port))

/-- Port `p` has an entry free for queue `q`; 64 of 512 serve only express queues (R380). -/
def State.queueRoom (s : State) (p q : Nat) : Bool :=
  let ex := s.fld (A.prtExpress p) 7 0
  let used := fun (express : Bool) =>
    sumNat ((rangeFrom 8 0).map (fun k => if (decide ((ex >>> k) % 2 = 1)) = express then ((s.port p).queue k).length else 0))
  if (ex >>> q) % 2 = 1 then decide (used true + used false < 512) else decide (used false < 448)

/-- The frame is the oldest unreleased frame of its order domain (R126, R131). -/
def State.oldest (s : State) (f : Frame) : Bool :=
  s.flt.frames.all (fun x =>
    match x.2 with
    | some g => g.early || g.released || decide (g.fr.port ≠ f.fr.port) || decide (g.fr.cls ≠ f.fr.cls) || decide (g.gen ≠ f.gen) ||
        decide (f.ord ≤ g.ord)
    | none => true)

/-- The frame is eligible for release (R126). -/
def Frame.eligible (f : Frame) : Bool := !f.released && (f.ahead || (f.complete && f.fr.fcsDone && !f.fr.fcsBad))

/-- Put an egress entry into queue `q` of each port of a mask; a frame against R387 counts in PRT_EXPMIX. -/
def State.queueOn (s : State) (e q cls mask : Nat) : State :=
  (rangeFrom 8 0).foldl (fun t p =>
    if (mask >>> p) % 2 = 1 then
      let x := t.port p
      let t1 := t.setPort p (x.setQueue q (x.queue q ++ [e]))
      let express := decide ((t.fld (A.prtExpress p) 7 0 >>> q) % 2 = 1)
      if express = decide (cls < 2) then t1 else t1.count (0xB1490 + p * 0x800)
    else t) s

/-- The state after frame `k` is handed to its egress queues and the host (R126, R130, R134). -/
def State.release (s : State) (k : Nat) (f : Frame) : State :=
  let want := f.fr.egress.toNat % 256
  let live := want &&& (s.liveMask % 256)
  let dead := ((rangeFrom 8 0).filter (fun p => (want >>> p) % 2 = 1 && !((live >>> p) % 2 = 1))).length
  let host := f.fr.egress.getLsbD 8
  let s1 := s.countBy 0x60250 dead
  if live = 0 && !host then s1.dropFrame k 0x09 0xFE 0x600#12 0
  else
    let early := !(f.complete && f.fr.fcsDone)
    let e := s1.flt.egNext
    let res := [w32 (f.fr.port + f.fr.cls * 16 + f.fr.vlan.toNat * 0x10000), lo32 f.fr.admitAt, nth f.fr.scratch 0 0#32,
      nth f.fr.scratch 1 0#32]
    let hq := if host then s1.queueHost e f.fr.hostq.toNat res s1.waitsHost else (false, s1)
    let s1 := hq.2
    let x : EgFrame :=
      { ticket := some k, buf := f.fr.buf.toNat, len := f.wire.length, fin := f.fr.fcsDone, cls := f.fr.cls,
        queue := f.fr.queue, ports := BitVec.ofNat 16 live, begun := 0#16, stomp := false, owned := true, toHost := hq.1,
        tkt := k, inPort := f.fr.port, hostq := f.fr.hostq.toNat }
    let s2 := { s1 with flt := { s1.flt with egNext := e + 1 } }
    let out := BitVec.ofNat 16 (live + b2n host * 256)
    let f' := { f with released := true, eg := some e, fr := { f.fr with runahead := early, egress := out } }
    let s3 := ((s2.setEg e (some x)).setFrame k (some f')).queueOn e f.fr.queue f.fr.cls live
    (if host && !hq.1 then s3.egSettle e else s3).tryLeave k

/-- Release frame `k` if it may go now. -/
def State.tryRelease (s : State) (k : Nat) : State :=
  match s.frame k with
  | none => s
  | some f =>
    if f.eligible && s.oldest f &&
        (rangeFrom 8 0).all (fun p => !(f.fr.egress.getLsbD p && s.inService p) || s.queueRoom p f.fr.queue) then
      s.release k f
    else s

/-! ### Verdicts (section 5.2) -/

/-- A flight is complete with a ROUTE to the towpath; a frame whose FCS is bad is dropped there (R126, R134). -/
def State.toTowpath (s : State) (k : Nat) : State :=
  match s.frame k with
  | none => s
  | some f =>
    let s1 := (s.setFrame k (some { f with complete := true, pound := none })).checkFinish
    if f.fr.fcsDone && f.fr.fcsBad then (if s1.begun f then s1.tryLeave k else s1.dropFrame k 0x01 0xFE 0x600#12 0)
    else s1.tryLeave k

/-- The arrival token of frame `k` goes to pound `n` (R122). -/
def State.toPound (s : State) (k n : Nat) : Status × State :=
  match s.frame k with
  | none => (.ok, s)
  | some f => State.postArrival (s.setFrame k (some { f with pound := some n, prevPound := f.fr.lastPound })) n k

/-- The pound that committed a verdict. -/
def Frame.at (f : Frame) : Nat := f.pound.getD 0

/-- The record and the run-ahead decision after a verdict word has been committed (R122, R135). -/
def State.commitVerdict (s : State) (f : Frame) (w : W32) (lp : Nat) : Frame :=
  let ahead := f.first && bit w 4 && decide (bits w 1 0 = 0) && s.mayRunAhead f
  { f with first := false, ahead := f.ahead || ahead, fr := { f.fr with verdict := w, lastPound := lp } }

/-- The thread's current frame ends. -/
def State.endCurrent (s : State) (n : Nat) : State := s.setThread n { s.thread n with frame := none }

/-- A committed verdict acts on frame `k` (Table 5-2, R122 to R124). `n` is the thread and `w` the verdict word. -/
def State.actVerdict (s : State) (slot : SlotId) (n k : Nat) (f : Frame) (w : W32) : Status × State :=
  let ag := slotAgent slot
  let here := f.at
  let g := s.commitVerdict f w here
  let s0 := (s.setFrame k (some g)).endCurrent n
  let s1 := if g.ahead && !f.ahead then s0.count 0x60248 else s0
  match bits w 1 0 with
  | 0 =>
    let r := (s.fabricOf f).routeOf here (bits w 3 2)
    if r = 0xFE then (.ok, s1.toTowpath k)
    else if r = 0xFF then (.ok, s1.dropFrame k 0x08 here ag 0)
    else if s.entryFree (0x10 + r) then (.ok, (s1.toPound k r).2)
    else (.refusedCapacity, (s.count 0x70110).tokenWatch (s.counter 0x70110))
  | 1 => (.ok, s1.dropFrame k 0x07 here ag (bits w 31 16))
  | 2 =>
    if s.begun f then
      let s2 := s1.stomp k 0x07 here ag 0 true
      match f.eg with
      | some e =>
        match s2.egFrame e with
        | some x => (.ok, (s2.setEg e (some { x with owned := false })).keepBuf x.buf ag)
        | none => (.ok, s2)
      | none => (.ok, s2)
    else
      let s2 := match f.eg with
        | some e => (s1.setEg e ((s1.egFrame e).map (fun (x : EgFrame) => { x with owned := false }))).dropUnsent e
        | none => s1
      (.ok, (s2.keepBuf f.fr.buf.toNat ag).endFrame k)
  | _ =>
    if s.begun f then (.ok, s1.stomp k 0x07 here ag 0 true)
    else
      let s2 := match f.eg with
        | some e => s1.dropUnsent e
        | none => s1.freeBuf f.fr.buf.toNat
      (.ok, s2.endFrame k)

/-- The OUT of a verdict word by slot `w`, after its stores (R122, R170). -/
def State.verdict (s : State) (w : SlotId) (word : W32) : Status × State :=
  let s0 := s.drain w
  match (s0.slot w).thread with
  | none => (.refusedNotReady, s0)
  | some n =>
    match (s0.thread n).frame with
    | none => (.refusedNotReady, s0)
    | some k =>
      match s0.frame k with
      | none => (.refusedNotReady, s0)
      | some f => s0.actVerdict w n k f word

/-! ### The frame record at core-local IO (R121) -/

/-- A 16-bit value in two bytes of a record word. -/
def pair16 (lo hi : Nat) : W32 := w32 (lo % 0x10000 + hi % 0x10000 * 0x10000)

/-- LKSTAT (Table 5-1). -/
def FrameRec.lkstat (r : FrameRec) : Nat := nth r.lk 0 0 + 4 * nth r.lk 1 0 + 16 * nth r.lk 2 0

/-- FLAGS (Table 5-1). -/
def FrameRec.flags (r : FrameRec) : Nat :=
  b2n r.runahead + 2 * b2n r.fcsDone + 4 * b2n r.fcsBad + 8 * b2n r.stomp + 16 * b2n r.tagged + 32 * b2n r.redispatched +
    64 * b2n r.standing

/-- Word `i` of the record of frame `k` (Table 5-1). -/
def State.recWord (s : State) (k : Nat) (f : Frame) (i : Nat) : W32 :=
  let r := f.fr
  match i with
  | 0 => w32 (k + (r.port + r.cls * 16) * 0x10000 + r.flags * 0x1000000)
  | 1 => pair16 r.seq.toNat r.len
  | 2 => r.buf
  | 3 => lo32 r.admitAt
  | 4 => nth r.res 0 0#32
  | 5 => nth r.res 1 0#32
  | 6 => nth r.res 2 0#32
  | 7 => pair16 (nth r.epoch 0 0#16).toNat (nth r.epoch 1 0#16).toNat
  | 8 => w32 ((nth r.epoch 2 0#16).toNat + r.lkstat * 0x10000 + r.hostq.toNat * 0x1000000)
  | 9 => w32 (r.egress.toNat + r.queue * 0x10000 + r.lastPound * 0x1000000)
  | 10 => r.verdict
  | 11 => pair16 (s.horizon f) r.vlan.toNat
  | 12 => w32 (r.etype.toNat + r.l3off * 0x10000)
  | 13 => nth r.scratch 0 0#32
  | 14 => nth r.scratch 1 0#32
  | _ => nth r.scratch 2 0#32

/-- A thread's write of record word `i`: only EGRESS, QUEUE, HOSTQ and SCRATCH change; a change of EGRESS or QUEUE after
egress has begun stomps the frame (R121, R138). -/
def State.recWrite (s : State) (ag : Agent) (k : Nat) (f : Frame) (i : Nat) (v : W32) : State :=
  let put := fun (r : FrameRec) => s.setFrame k (some { f with fr := r })
  match i with
  | 8 => put { f.fr with hostq := BitVec.ofNat 8 (bits v 30 24) }
  | 9 =>
    let r := { f.fr with egress := BitVec.ofNat 16 (bits v 8 0), queue := bits v 18 16 }
    let s1 := put r
    if r.egress = f.fr.egress ∧ r.queue = f.fr.queue then s1
    else if s.begun f then s1.stomp k 0x07 f.at ag 0 false
    else if f.ahead && !f.released then
      s1.setFrame k (some { f with fr := r, ahead := s1.mayRunAhead { f with fr := r } })
    else s1
  | 13 => put { f.fr with scratch := f.fr.scratch.set 0 v }
  | 14 => put { f.fr with scratch := f.fr.scratch.set 1 v }
  | 15 => put { f.fr with scratch := f.fr.scratch.set 2 v }
  | _ => s

/-! ### Frames from port 9 (R120) -/

/-- A record with nothing but its origin. -/
def FrameRec.fresh (port cls : Nat) (buf : W32) (now : W64) : FrameRec :=
  { port := port, cls := cls, runahead := false, fcsDone := false, fcsBad := false, stomp := false, tagged := false,
    redispatched := false, standing := false, seq := 0#16, len := 0, buf := buf, admitAt := now, res := [0#32, 0#32, 0#32],
    epoch := [0#16, 0#16, 0#16], lk := [0, 0, 0], hostq := 0#8, egress := 0#16, queue := 0, lastPound := 0xFF,
    verdict := 0#32, vlan := 0#16, etype := 0#16, l3off := 0, scratch := [0#32, 0#32, 0#32] }

/-- Order domain of a port and class. -/
def domainOf (port cls : Nat) : Nat := port * 4 + cls

/-- Put a frame into the flight under ticket `k`: SEQ, admission counters (R125). -/
def State.enterFrame (s : State) (k : Nat) (shared : Bool) (r : FrameRec) (wire : List Byte) (t0 : Nat) : State :=
  let d := domainOf r.port r.cls
  let sq := SMap.get (fun _ => 0#16) s.flt.seqNext d
  let f : Frame :=
    { fr := { r with seq := sq }, wire := wire, t0 := t0, checking := false, shared := shared, admitCycle := s.cycle,
      pound := none, prevPound := 0xFF, fab := s.flt.fabGen, first := true, complete := false, ahead := false,
      released := false, gen := SMap.get (fun _ => 0) s.flt.gen r.port, ord := s.flt.ordNext, hold := none, learn := none,
      eg := none, early := false }
  let s1 := { s with flt := { s.flt with seqNext := SMap.set (fun _ => 0#16) s.flt.seqNext d (sq + 1#16),
                                         ordNext := s.flt.ordNext + 1 } }
  ((s1.setFrame k (some f)).count (fltAdmit r.cls)).notePeak

/-- Send the first `len` bytes of buffer `w` from port 9: the frame enters the towpath with its flight complete
(R120, R303). The buffer is already known to be the sender's. -/
def State.sendFrom9 (s : State) (w len egress queue cls hostq : Nat) : Status × State :=
  match s.takeTicket cls, s.entryOf 0x600 with
  | some (k, sh), some e =>
    let bytes := s.bufRead w 0 len
    let r0 := FrameRec.fresh 9 cls (w32 w) s.tb.now
    let r := { r0 with fcsDone := true, len := len, egress := BitVec.ofNat 16 egress, queue := queue,
                       tagged := hdrTagged bytes, etype := BitVec.ofNat 16 (hdrEtype bytes), l3off := hdrOff bytes,
                       vlan := BitVec.ofNat 16 (if hdrTagged bytes then be16 bytes 14 else 0),
                       hostq := BitVec.ofNat 8 hostq }
    let s1 := (s.moveBuf w e).enterFrame k sh r bytes s.time
    (.ok, s1.toTowpath k)
  | _, _ => (.refusedCapacity, s)

/-- The OUT of a SEND_CTL word by slot `w`, after its stores (R120, R303, R170). -/
def State.sendCtl (s : State) (w : SlotId) (v : W32) : Status × State :=
  let s0 := s.drain w
  let b := (s0.slot w).sendBuf.toNat
  let len := bits v 29 16
  if len = 0 then (.zeroLength, s0)
  else if len < 64 ∨ 9216 < len then (.refusedRange, s0)
  else if !s0.validBuf b || decide (s0.bufBytes b < len) then (.refusedRange, s0)
  else if some (s0.bufTag (bufPtr b)) ≠ s0.entryOf (slotAgent w).toNat then (.refusedRights, s0)
  else s0.sendFrom9 b len (bits v 8 0) (bits v 11 9) (bits v 13 12) 0

/-! ### Ends of a cycle -/

/-- At a turn, frames admitted more than FLT_AGE.CYCLES turns earlier are dropped (R132). -/
def State.ageFrames (s : State) : State :=
  let old := SMap.keysWhere (fun _ f =>
    match f with
    | some g => decide (s.fld A.fltAge 7 0 < (s.cycle - g.admitCycle).toNat) && !g.fr.stomp && !g.early
    | none => false) s.flt.frames
  old.foldl (fun t k => t.dropFrame k 0x0A 0xFE 0x600#12 0) s

/-- Frames of the old fabric still in flight are dropped (R62). -/
def State.drainOld (s : State) : State :=
  let old := SMap.keysWhere (fun _ f =>
    match f with
    | some g => decide (g.fab ≠ s.flt.fabGen) && !g.fr.stomp && !g.early
    | none => false) s.flt.frames
  old.foldl (fun t k => t.dropFrame k 0x0B 0xFE 0x600#12 0) s

end Sys2Proof.Machine
end

