-- ==== Sys2Proof/Machine/FlightCmd.lean ====
section
/-! DEFINITION. The commands of the flight: frames entering, admission, lookups, verdicts, release, the class map and
the drop log (chapter 05; R371 to R374 for the receive side; R391 to R394 for the stamps). -/

namespace Sys2Proof.Machine

/-- Counter `i` of port `p` (chapter 13). -/
def prtCtr (p i : Nat) : Nat := 0xB1400 + p * 0x800 + 8 * i

/-- Event k of port n (Table 13-8). -/
def prtEvent (n k : Nat) : Nat := 32 * n + k

/-- The thread's OSTAT after an IN or OUT. -/
def State.setOstat (s : State) (w : SlotId) (st : Status) : State :=
  let x := s.slot w
  s.setSlot w { x with ctx := { x.ctx with flags := setBits x.ctx.flags 15 8 st.code } }

/-! ### Time stamps (section 13.5) -/

/-- A frame that the ports stamp: EtherType 0x88F7 and messageType 0 to 3 (R391). -/
def isPtp (bs : List Byte) : Bool := decide (hdrEtype bs = 0x88F7) && decide (byteAt bs (hdrOff bs) % 16 ≤ 3)

/-- A stamp record (Table 13-5). -/
def stampRec (time : W64) (bs : List Byte) (tx : Bool) (ticket port : Nat) : List W32 :=
  let o := hdrOff bs
  [lo32 time, hi32 time,
    w32 (be16 bs (o + 30) + byteAt bs o % 16 * 0x10000 + b2n tx * 0x100000 + 0x200000 + byteAt bs (o + 4) * 0x1000000),
    w32 (ticket + port * 0x400)]

/-- A signed correction as a 64-bit number (R391). -/
def corr64 (w : W32) : W64 := w.signExtend 64

/-- A record enters the stamp FIFO of port `p`, or is lost when it holds 16; each record posts its token
(R392, R394). -/
def State.stamp (s : State) (p : Nat) (r : List W32) : State :=
  let x := s.port p
  if 16 ≤ x.stamps.length then
    (if p < 8 then (s.count (prtCtr p 17)).raise (prtEvent p 5) else s)
  else
    let s1 := s.setPort p { x with stamps := x.stamps ++ [r] }
    let s2 := if p < 8 then s1.raise (prtEvent p 6) else s1
    let w := nth r 2 0#32
    let t := s2.reg A.prtTstag
    if bit t 31 then
      (s2.post (bits t 15 0) (w32 (p + bits w 20 20 * 16 + bits w 19 16 * 0x100 + bits w 15 0 * 0x10000)) .ok).2
    else s2

/-! ### Frames entering (R371 to R374, R117) -/

/-- The ingress FIFO of port `p`. -/
def State.rxList (s : State) (p : Nat) : List RxFrame := SMap.get (fun _ => []) s.flt.rx p

/-- The state with the ingress FIFO of port `p` replaced. -/
def State.setRx (s : State) (p : Nat) (l : List RxFrame) : State :=
  { s with flt := { s.flt with rx := SMap.set (fun _ => []) s.flt.rx p l } }

/-- A frame still occupies the FIFO (R372). -/
def RxFrame.waits (r : RxFrame) : Bool := r.ticket.isNone && !r.gone

/-- Bytes of the FIFO in use, in whole 64-byte units (R372). -/
def rxUse (l : List RxFrame) : Nat := sumNat ((l.filter (·.waits)).map (fun r => roundUp r.bytes.length 64))

/-- A frame is dropped at the FIFO with FIFO_FULL (R117). -/
def State.fifoDrop (s : State) (p : Nat) (r : RxFrame) : State :=
  ((s.dropRx p r.cls 0x04 0xFC r (min r.bytes.length (s.bytesBy p r.t0 s.time))).count (prtCtr p 5)).raiseFirst
    (prtEvent p 4)

/-- Place of the newest waiting frame of class `c`. -/
def newestOf (l : List RxFrame) (c : Nat) : Option Nat :=
  ((rangeFrom l.length 0).filter (fun i => match l[i]? with
    | some r => r.waits && decide (r.cls = c)
    | none => false)).getLast?

/-- Evict waiting frames of class `c`, newest first, until `need` bytes fit (R117). -/
def State.evict (s : State) (p c need : Nat) : Nat → State
  | 0 => s
  | fuel + 1 =>
    let l := s.rxList p
    if rxUse l + need ≤ 16384 then s
    else
      match newestOf l c with
      | none => s
      | some i =>
        match l[i]? with
        | none => s
        | some r => ((s.fifoDrop p r).setRx p (if r.fin then l.eraseIdx i else l.set i { r with gone := true })).evict p c need fuel

/-- FRAME_ARRIVAL: a frame starts to enter port `p`'s FIFO; `bytes` is the whole frame as it will arrive, FCS included
(R372, R373, R117, R400). -/
def execFrameArrival (p : Fin 8) (bytes : List (BitVec 8)) (s : State) : Host.Outcome State Fault Refusal :=
  if !s.inService p then .next (s.count (prtCtr p 9))
  else
    let cls := s.classify p bytes
    let r : RxFrame := { bytes := bytes, cls := cls, ticket := none, gone := false, fin := false, t0 := s.time }
    if hdrEtype bytes = 0x8808 then
      -- a PAUSE frame is counted by PAUSE_RECEIVED
      .next ((if be16 bytes 14 = 1 then s else s.count (prtCtr p 7)).setRx p (s.rxList p ++ [{ r with gone := true }]))
    else
      let need := roundUp bytes.length 64
      let n := (s.rxList p).length
      let s1 := if cls ≤ 2 then s.evict p 3 need n else s
      let s2 := if cls ≤ 1 then s1.evict p 2 need n else s1
      let l := s2.rxList p
      if rxUse l + need ≤ 16384 then .next (s2.setRx p (l ++ [r]))
      else .next ((s2.fifoDrop p r).setRx p (l ++ [{ r with gone := true }]))

/-- The FCS of a received frame is right (R371). -/
def fcsGood (bs : List Byte) : Bool :=
  decide (leNat (bs.drop (bs.length - 4)) = (fcs32 (bs.take (bs.length - 4))).toNat)

/-- FCS_DONE is set on frame `k`, with FCS_BAD if its FCS failed (R126, R138, R141). -/
def State.setDone (s : State) (k : Nat) (bad : Bool) : State :=
  match s.frame k with
  | none => s
  | some f =>
    let f' := { f with checking := false, fr := { f.fr with fcsDone := true, fcsBad := bad, len := f.wire.length } }
    let s1 := (s.setFrame k (some f')).matching
    if bad then
      (if s1.begun f' then s1.stomp k 0x01 0xFE 0x600#12 0 false
       else if f'.complete then s1.dropFrame k 0x01 0xFE 0x600#12 0
       else s1)
    else s1.tryLeave k

/-- An inbound cyclic barge that the barge engine checks before FCS_DONE (R357). -/
def State.barged (s : State) (p : Nat) (bs : List Byte) : Bool :=
  decide (bargeKind bs = some 2) && decide (p < 8) && bit (s.reg (A.brgIcfg p)) 0

/-- The last byte of an admitted frame has arrived: it is stamped, then FCS_DONE is set, or the inbound check is due
(R357, R371, R392). -/
def State.finishRx (s : State) (k : Nat) : State :=
  match s.frame k with
  | none => s
  | some f =>
    let bad := !fcsGood f.wire
    let p := f.fr.port
    let s1 :=
      if !bad && (s.portCfg p).stamp && isPtp f.wire then
        s.stamp p (stampRec (BitVec.ofNat 64 f.t0 + corr64 (s.reg (A.prtRxcorr p))) f.wire false k p)
      else s
    if !bad && s.barged p f.wire then s1.setFrame k (some { f with checking := true })
    else s1.setDone k bad

/-! ### Admission (section 5.1) -/

/-- The arrival token of a frame goes to pound `n`; a refused post holds the sequencer (R118). -/
def State.sendToPound (s : State) (k n : Nat) : State :=
  let r := s.toPound k n
  if r.1 = .ok then r.2
  else
    match r.2.frame k with
    | none => r.2
    | some f => (r.2.setFrame k (some { f with hold := some (f.hold.getD s.time) })).count 0x60258

/-- The first step of an admitted frame: the standing verdict of its T1 entry, or the ENTRY pound of its class
(R136). `std` is the standing word of a T1 hit. -/
def State.entryStep (s : State) (k : Nat) (std : W32) : State :=
  match s.frame k with
  | none => s
  | some f =>
    let fb := s.fabricOf f
    let entry := nth fb.entry f.fr.cls 0xFF
    if bit std 0 then
      let r := bits std 2 1
      let eg := BitVec.ofNat 16 (bits std 11 4 &&& s.liveMask)
      let v := w32 (r * 4 + bits std 3 3 * 16)
      let g := { f with first := false, fr := { f.fr with standing := true, lastPound := 0xFD, verdict := v,
                                                          egress := eg, queue := bits std 14 12 } }
      let ahead := bit std 3 && s.mayRunAhead g
      let s1 := s.setFrame k (some { g with ahead := ahead })
      let s2 := if ahead then s1.count 0x60248 else s1
      let t := fb.routeOf entry r
      if t = 0xFE then s2.toTowpath k
      else if t = 0xFF then s2.dropFrame k 0x08 0xFD 0x600#12 0
      else s2.sendToPound k t
    else if entry = 0xFF then s.dropFrame k 0x08 0xFD 0x600#12 0
    else s.sendToPound k entry

/-- A frame takes ticket `k` and buffer `b`: its record, its bytes, its T1 result, and its first step (R113, R114, R121,
R125, R318, R319). `fin` says that it has arrived whole; a whole frame that runs past its buffer is dropped (R300). -/
def State.admitFrame (s : State) (k : Nat) (sh : Bool) (p cls b : Nat) (bs : List Byte) (t0 : Nat) (fin : Bool)
    (eg queue hostq : Nat) : State :=
  let t1 := s.tblLookup 1 (s.keyStream p bs) (some p)
  let std := match t1.2.2 with
    | some q => s.placeStanding q
    | none => 0#32
  let t2 := if p < 8 ∧ hdrEtype bs = 0x88B5 then 3 else 0
  let r0 := FrameRec.fresh p cls (w32 b) s.tb.now
  let r := { r0 with tagged := hdrTagged bs, vlan := BitVec.ofNat 16 (s.frameVlan p bs),
                     etype := BitVec.ofNat 16 (hdrEtype bs), l3off := hdrOff bs, queue := queue,
                     egress := BitVec.ofNat 16 eg, hostq := BitVec.ofNat 8 hostq,
                     res := [0#32, t1.1, 0#32], epoch := [0#16, BitVec.ofNat 16 (s.epoch 1), 0#16], lk := [3, t1.2.1, t2] }
  let s1 := ((s.bufWrite b 0 (bs.take (s.bufBytes b))).countLookup 1 t1.2.2.isSome).enterFrame k sh r bs t0
  if fin && decide (p < 8) && decide (s.bufBytes b < bs.length) then
    (s1.count (prtCtr p 4)).dropFrame k 0x03 0xFD 0x600#12 0
  else
    let s2 := if fin then (if p < 8 then s1.finishRx k else s1.setDone k false) else s1
    s2.entryStep k std

/-- The sequencer holds a frame of port `p` (R118). -/
def State.holding118 (s : State) (p : Nat) : Bool :=
  s.flt.frames.any (fun x => (x.2.map (fun f => decide (f.fr.port = p) && f.hold.isSome)).getD false)

/-- The frame at place `i` of port `p`'s FIFO may be admitted: its header window is there and no earlier frame of its
class waits (R113, R117). -/
def mayAdmit (l : List RxFrame) (i : Nat) : Bool :=
  match l[i]? with
  | none => false
  | some r => r.waits && (decide (64 < r.bytes.length) || (decide (r.bytes.length = 64) && r.fin)) &&
      !(l.take i).any (fun x => x.waits && decide (x.cls = r.cls))

/-- Try the places of a list in order; a C0 barge that finds no berth raises EV415 (R116, R117, R304). -/
def State.admitFirst (s : State) (p : Nat) : List Nat → State
  | [] => s
  | i :: rest =>
    match (s.rxList p)[i]? with
    | none => s
    | some r =>
      match s.takeTicket r.cls with
      | none => s.admitFirst p rest
      | some (k, sh) =>
        let b := s.frameBuffer p r.cls r.bytes
        if b.1 = .ok then
          let s1 := b.2.2.setRx p ((s.rxList p).set i { r with ticket := some k })
          let s2 := s1.admitFrame k sh p r.cls b.2.1 r.bytes r.t0 r.fin 0 (s.pcpQueue p r.bytes) 0
          s2.setRx p ((s2.rxList p).filter (fun x => !(x.fin && !x.waits)))
        else (if r.cls = 0 then b.2.2.raiseFirst 415 else b.2.2).admitFirst p rest

/-- FRAME_ADMISSION: the first waiting frame of port `p` that a ticket and a buffer are free for is admitted
(R113, R116, R117). -/
def execFrameAdmission (p : Fin 8) (s : State) : Host.Outcome State Fault Refusal :=
  if s.holding118 p then .next s
  else .next (s.admitFirst p ((rangeFrom (s.rxList p).length 0).filter (mayAdmit (s.rxList p))))

/-- ARRIVAL_TOKEN_HOLD_EXPIRY: 200 ns after a refused arrival post the post is made once more; still refused, the frame
is dropped (R118). -/
def execArrivalTokenHoldExpiry (p : Fin 10) (s : State) : Host.Outcome State Fault Refusal :=
  match s.flt.frames.find? (fun x => (x.2.map (fun f => decide (f.fr.port = p.val) && f.hold.isSome)).getD false) with
  | some (k, some f) =>
    let s1 := s.advance (f.hold.getD 0 + 200)
    let r := (s1.setFrame k (some { f with hold := none })).toPound k (f.pound.getD 0)
    .next (if r.1 = .ok then r.2 else r.2.dropFrame k 0x05 0xFD 0x600#12 0)
  | _ => .next s

/-- FRAME_FCS_RECEIVED: the last byte of the frame being received on port `p` arrives (R371). `asm` says that a preemptable frame came
with an assembly error: it is discarded, or marked FCS_BAD if it holds a ticket (R390). -/
def execFrameFcsReceived (p : Fin 8) (asm : Bool) (s : State) : Host.Outcome State Fault Refusal :=
  let l := s.rxList p
  match (rangeFrom l.length 0).find? (fun i => match l[i]? with
      | some r => !r.fin
      | none => false) with
  | none => .next s
  | some i =>
    match l[i]? with
    | none => .next s
    | some r =>
      let s0 := s.advance (r.t0 + s.byteTime p r.bytes.length)
      let s1 := (s0.count (prtCtr p 0)).countBy (prtCtr p 1) r.bytes.length
      if asm then
        let s2 := ((s1.count (prtCtr p 8)).raise (prtEvent p 9)).setRx p (l.eraseIdx i)
        match r.ticket with
        | some k => .next (if r.gone then s2 else s2.setDone k true)
        | none => .next s2
      else
        let s2 := if fcsGood r.bytes then s1 else (s1.count (prtCtr p 2)).raiseFirst (prtEvent p 3)
        if r.gone then .next (s2.setRx p (l.eraseIdx i))
        else if r.bytes.length < 64 then
          .next (((s2.count (prtCtr p 3)).dropRx p r.cls 0x02 0xFD r r.bytes.length).setRx p (l.eraseIdx i))
        else
          match r.ticket with
          | some k => .next ((s2.setRx p (l.eraseIdx i)).finishRx k)
          | none => .next (s2.setRx p (l.set i { r with fin := true }))

/-- FRAME_OVERSIZE: the byte beyond MAXFRAME, or beyond the buffer, of the frame being received on port `p` arrives
(R300, R371, R138). -/
def execFrameOversize (p : Fin 8) (s : State) : Host.Outcome State Fault Refusal :=
  let l := s.rxList p
  match (rangeFrom l.length 0).find? (fun i => match l[i]? with
      | some r => !r.fin
      | none => false) with
  | none => .next s
  | some i =>
    match l[i]? with
    | none => .next s
    | some r =>
      let most := (s.portCfg p).maxFrame
      let lim := match r.ticket.bind s.frame with
        | some f => min most (s.bufBytes f.fr.buf.toNat)
        | none => most
      if r.gone || decide (r.bytes.length ≤ lim) then .next s
      else
        let s1 := (s.advance (r.t0 + s.byteTime p lim)).count (prtCtr p 4)
        let s2 := s1.setRx p (l.set i { r with gone := true })
        match r.ticket with
        | some k => .next (s2.dropFrame k 0x03 0xFD 0x600#12 0)
        | none => .next (s2.dropRx p r.cls 0x03 0xFD r (lim + 1))

/-! ### Lookups (R318, R319, R334) -/

/-- LOOKUP_RESULT: a sequencer lookup answers; its result and epoch are copied, and the T0 source lookup of a learning
port is made with it (R319, R334). -/
def execLookupResult (k : Fin 1024) (n : Fin 3) (s : State) : Host.Outcome State Fault Refusal :=
  match s.frame k with
  | none => .next s
  | some f =>
    if nth f.fr.lk n 0 ≠ 3 then .next s
    else
      let p := f.fr.port
      let key := match n.val with
        | 0 => s.keyDst p f.wire
        | 1 => s.keyStream p f.wire
        | _ => keyPartner p f.wire
      let a := s.tblLookup n key (some p)
      let s1 := s.countLookup n a.2.2.isSome
      let learns := decide (n.val = 0) && decide (p < 8) && bit (s.reg A.tblCtrl) p && decide (s.tblSize 0 ≠ 0)
      let b := if learns then s1.sourceLookup (s.keySrc p f.wire) p else (s1, f.learn)
      let r := { f.fr with res := f.fr.res.set n a.1, lk := f.fr.lk.set n a.2.1,
                           epoch := f.fr.epoch.set n (BitVec.ofNat 16 (s.epoch n)) }
      .next ((b.1.setFrame k (some { f with fr := r, learn := b.2 })).matching)

/-! ### Verdicts and sends -/

/-- What a flight command by a slot answers: OSTAT and the reply. -/
def State.slotAnswer (w : SlotId) (r : Status × State) : State := (r.2.setOstat w r.1).status r.1

/-- SEND_CTL: an OUT to SEND_CTL by slot `w` (R120). -/
def execSendCtl (w : SlotId) (v : W32) (s : State) : Host.Outcome State Fault Refusal :=
  .next (State.slotAnswer w (s.sendCtl w v))

/-- VERDICT_ROUTE: a verdict word with ACTION 0; `rest` is its bits [31:2] (R122, R123). -/
def execVerdictRoute (w : SlotId) (rest : BitVec 30) (s : State) : Host.Outcome State Fault Refusal :=
  .next (State.slotAnswer w (s.verdict w (rest ++ 0#2)))

/-- VERDICT_DROP: a verdict word with ACTION 1 (R122). -/
def execVerdictDrop (w : SlotId) (rest : BitVec 30) (s : State) : Host.Outcome State Fault Refusal :=
  .next (State.slotAnswer w (s.verdict w (rest ++ 1#2)))

/-- VERDICT_CONSUME_KEEP: a verdict word with ACTION 2 (R124, R302). -/
def execVerdictConsumeKeep (w : SlotId) (rest : BitVec 30) (s : State) : Host.Outcome State Fault Refusal :=
  .next (State.slotAnswer w (s.verdict w (rest ++ 2#2)))

/-- VERDICT_CONSUME_FREE: a verdict word with ACTION 3 (R124). -/
def execVerdictConsumeFree (w : SlotId) (rest : BitVec 30) (s : State) : Host.Outcome State Fault Refusal :=
  .next (State.slotAnswer w (s.verdict w (rest ++ 3#2)))

/-- TOWPATH_RELEASE: the oldest unreleased frame of an order domain is released if it is eligible (R126). -/
def execTowpathRelease (p : Fin 10) (c : Fin 4) (s : State) : Host.Outcome State Fault Refusal :=
  match s.flt.frames.find? (fun x =>
      (x.2.map (fun f => decide (f.fr.port = p.val) && decide (f.fr.cls = c.val) && f.eligible && s.oldest f)).getD false) with
  | some (k, _) => .next (s.tryRelease k)
  | none => .next s

/-- EGRESS_FCS_REACHED: port `p` reaches the FCS of the frame it sends; a run-ahead frame whose flight is incomplete is
stomped (R138). -/
def execEgressFcsReached (p : Fin 8) (s : State) : Host.Outcome State Fault Refusal :=
  match (s.port p).sending with
  | none => .next s
  | some g =>
    match s.egFrame g.eg with
    | none => .next s
    | some x =>
      match x.ticket with
      | none => .next s
      | some k => .next ((s.advance (g.t0 + s.byteTime p (x.len - 4 - g.sent))).stomp k 0x0D 0xFE 0x600#12 0 false)

/-! ### The class map and the drop log -/

/-- CLASSMAP_WRITE: a write that names C0 is refused whole (R115). -/
def execClassmapWrite (ag : Agent) (v : W32) (s : State) : Host.Outcome State Fault Refusal :=
  if !isBoss ag then .next (s.refuse ag A.fltClassmap .refusedRights)
  else if (rangeFrom 9 0).any (fun i => decide (bits v (2 * i + 1) (2 * i) = 0)) then
    .next (s.refuse ag A.fltClassmap .refusedRange)
  else .next ((s.setReg A.fltClassmap (w32 (bits v 17 0))).status .ok)

/-- Take `n` cells for the drop log in place of the old ones, as agent 0x600 (R141, section 5.5). -/
def State.takeLog (s : State) (n : Nat) : Option State :=
  match s.entryOf 0x600 with
  | none => none
  | some e =>
    if !(s.owner e).poolMask.getLsbD 6 then none
    else
      let r := s.allocChain e n
      if r.1 = .ok then
        let s1 := r.2.2.2
        let cells := s1.chain r.2.1
        let s2 := s1.flt.logCells.foldl (fun t p => ((t.pushElem 6 p).setLink p endLink).setHead p false) s1
        some { s2 with flt := { s2.flt with logCells := cells, logBase := (s2.reg A.fltDlogWr).toNat } }
      else none

/-- DROP_LOG_RESIZE: a write of FLT_DLOG_CTRL.CELLS (section 5.5). -/
def execDropLogResize (ag : Agent) (cells : BitVec 8) (s : State) : Host.Outcome State Fault Refusal :=
  let a := A.fltDlogCtrl
  if cells = 0#8 then .next (s.status .zeroLength)
  else if !isBoss ag then .next (s.refuse ag a .refusedRights)
  else if 128 < cells.toNat then .next (s.refuse ag a .refusedRange)
  else
    match s.takeLog cells.toNat with
    | some s1 => .next ((s1.setReg a (w32 cells.toNat)).status .ok)
    | none => .next (s.refuse ag a .refusedCapacity)

end Sys2Proof.Machine
end

