-- ==== Sys2Proof/Machine/Lk.lean ====
section
/-! DEFINITION. What the lockkeeper does (chapter 09): wait sets, blocking, readiness, the end of a thread, the pager, and
cores leaving and joining. -/

namespace Sys2Proof.Machine

/-! ### Threads and handles (section 9.3) -/

/-- A thread of the warden's dispatcher (Table 20-2). -/
def wardenThread (n : Nat) : Bool := decide (2048 ≤ n)

/-- The handle of thread `n`: number and generation. -/
def State.handle (s : State) (n : Nat) : Nat := n % 2048 + (s.thread n).gen.toNat * 0x800

/-- The living thread that a handle names, of the warden's dispatcher or the flight's (R259). -/
def State.handleThread (s : State) (warden : Bool) (h : Nat) : Option Nat :=
  let n := h % 2048 + (if warden then 2048 else 0)
  match (s.thread n).st with
  | .free => none
  | .exiting _ _ => none
  | _ => if s.handle n = h % 0x10000 then some n else none

/-- The tag that a program names, in the store of its own dispatcher; 0 for one that is not there (Table 20-2). -/
def tagFor (warden : Bool) (t : Nat) : Nat := if warden then (if 1 ≤ t ∧ t ≤ 0xFF then 0x10000 + t else 0) else t

/-- The lowest PRIO_BASE among the pounds that run a program (R260). -/
def State.prioFloor (s : State) (prog : Nat) : Nat :=
  match (s.shp.fabric.pounds.filter (fun p => decide (p.program = prog))).map (·.prioBase) with
  | [] => 0
  | b :: rest => rest.foldl min b

/-- The floors after a change of the fabric (R260). -/
def State.setFloors (s : State) : State :=
  { s with lk := { s.lk with threads := s.lk.threads.map (fun p =>
      (p.1, if p.1 < 2048 ∧ p.2.st ≠ .free then { p.2 with floor := s.prioFloor p.2.program } else p.2)) } }

/-- The first check of R249 that a wait set fails for thread `n`. -/
def State.waitCheck (s : State) (n : Nat) (ws : List Nat) : Status :=
  let arrivals := (ws.filter (fun t => decide (tagKind t = .arrival))).length
  let conds := ws.any (fun t => decide (tagKind t = .lookups) || decide (tagKind t = .complete))
  let frame := (s.thread n).frame.isSome
  if ws.any (fun t => decide (tagKind t = .null) || decide (tagKind t = .reserved)) then .refusedRange
  else if ws.any (fun t => decide (tagKind t = .own) && decide (ownThread t ≠ n)) then .refusedRights
  else if 1 < arrivals then .refusedRange
  else if conds && decide (arrivals = 0) && !frame then .refusedRange
  else if decide (0 < arrivals) && frame then .refusedNotReady
  else .ok

/-! ### The pager (section 9.7) -/

/-- The channel and the byte of context `c` in the DREGION of KIND context store (section 9.7). -/
def State.storeAt (s : State) (c : Nat) : Option (Nat × Nat) :=
  match s.shp.memory.dregions.find? (fun r => decide (r.kind = 1)) with
  | some r => if s.chInService r.channel then some (r.channel, r.base * 0x100000 + c * 512) else none
  | none => none

/-- A miss is outstanding, or waits, for context `c`. -/
def State.missing (s : State) (c : Nat) : Bool :=
  s.lk.misses.any (fun m => decide (m.ctx = c)) || s.lk.missQ.any (fun m => decide (m.ctx = c))

/-- A pager miss starts: a read in class 0, unless one for its context is outstanding; beyond 32 outstanding it queues,
demand misses before prefetches (R276). -/
def State.startMiss (s : State) (m : Miss) : State :=
  match s.storeAt m.ctx with
  | none => s
  | some (x, a) =>
    if s.lk.misses.any (fun k => decide (k.ctx = m.ctx)) then { s with lk := { s.lk with misses := s.lk.misses ++ [m] } }
    else if (s.lk.misses.map (·.ctx)).eraseDups.length < 32 then
      (State.count { s with lk := { s.lk with misses := s.lk.misses ++ [m] } } 0x70128).dramEnter x 0x602#12 0 a 512 false
        false
    else
      let demand := fun (k : Miss) => match k.hold with
        | .demand _ => true
        | .prefetch _ => false
      let q := s.lk.missQ
      let q' := if demand m then q.filter demand ++ [m] ++ q.filter (fun k => !demand k) else q ++ [m]
      { s with lk := { s.lk with missQ := q' } }

/-- Start the misses of a list. -/
def startMisses : List Miss → State → State
  | [], s => s
  | m :: rest, s => startMisses rest (s.startMiss m)

/-- Queued misses start as places become free. -/
def State.pumpMisses (s : State) : State := startMisses s.lk.missQ { s with lk := { s.lk with missQ := [] } }

/-- The oldest line that may be evicted: neither pinned nor held (R275). -/
def State.victim (s : State) : Option Line := s.lk.lines.find? (fun l => decide (l.pins = 0) && decide (l.holds = []))

/-- A line is given up; a dirty one is written back in class 0 first (R275). -/
def State.evictLine (s : State) (l : Line) : State :=
  let s1 := { s with lk := { s.lk with lines := s.lk.lines.filter (fun k => decide (k.ctx ≠ l.ctx)) } }
  match l.dirty, s1.storeAt l.ctx with
  | true, some (x, a) => s1.dramEnter x 0x602#12 0 a 512 true false
  | _, _ => s1

/-- What holds a filled line: prefetches, and the demands of threads that still wait on it (R276). -/
def State.fillHolds (s : State) (c : Nat) : List LineHold :=
  (s.lk.misses.filter (fun m => decide (m.ctx = c))).filterMap (fun m =>
    match m.hold with
    | .demand n => if (s.thread n).st = .waiting ∧ (contextsOf (s.thread n).waitSet).contains c then some m.hold else none
    | .prefetch _ => some m.hold)

/-- The misses for context `c` end. -/
def State.endMiss (s : State) (c : Nat) : State :=
  { s with lk := { s.lk with misses := s.lk.misses.filter (fun m => decide (m.ctx ≠ c)) } }

/-- The line of context `c` is present (R276). -/
def State.addLine (s : State) (c : Nat) : State :=
  let l : Line := { ctx := c, pins := 0, holds := s.fillHolds c, dirty := false, used := false }
  let s1 := s.endMiss c
  (State.pumpMisses { s1 with lk := { s1.lk with lines := s1.lk.lines ++ [l] } }).matching

/-- CONTEXT_FILL_COMPLETE: the miss of a context ends; `bad` says that DRAM refused it with an ECC failure (R276). -/
def execContextFillComplete (ctx : BitVec 12) (bad : Bool) (s : State) : Host.Outcome State Fault Refusal :=
  let c := ctx.toNat
  if !s.lk.misses.any (fun m => decide (m.ctx = c)) then .next s
  else if bad then .next (((s.endMiss c).pumpMisses).raise 392)
  else if s.lk.lines.length < 1024 then .next (s.addLine c)
  else
    match s.victim with
    | some l => .next ((s.evictLine l).addLine c)
    | none => .next (s.raise 391)

/-! ### Beginning to wait (section 9.2) -/

/-- Thread `n` begins to wait on a set that has passed R249: demand misses start, and a satisfied set matches at once
(R252, R266, R276). -/
def State.beginWait (s : State) (n : Nat) (ws : List Nat) (tmo : Nat) : State :=
  let t := s.thread n
  let dl := if tmo = 0 then none else some (s.time + tmo)
  let s1 := { s with lk := { s.lk with seq := s.lk.seq + 1 } }
  let s2 := s1.setThread n { t with st := .waiting, waitSet := ws, waitSeq := s.lk.seq, deadline := dl }
  let miss := (contextsOf ws).filter (fun c => !s2.present c)
  let held := (contextsOf ws).filter s2.present
  let s3 := { s2 with lk := { s2.lk with lines := s2.lk.lines.map (fun l =>
      if held.contains l.ctx then { l with holds := l.holds ++ [.demand n] } else l) } }
  (startMisses (miss.map (fun c => { ctx := c, hold := .demand n })) s3).matching

/-- The tokens of thread `n`'s last match are consumed and its pins released (R258, R265, R281). -/
def State.dropMatch (s : State) (n : Nat) : State :=
  let t := s.thread n
  let s1 := { s with lk := { s.lk with lines := t.pins.foldl (fun l c => unpinLine c l) s.lk.lines } }
  s1.setThread n { t with tokens := [], pins := [] }

/-- Slot `w` becomes idle: only a debug halt and the requests already queued stay with it. -/
def State.clearSlot (s : State) (w : Nat) : State :=
  let x := s.slot w
  s.setSlot w { Slot.init with halted := x.halted, stepOne := x.stepOne, reqs := x.reqs }

/-- The thread in slot `w` blocks on wait set `ws` and continues at `next` (R202, R203, R265). `used` says that it consumes
the timeout of LK_WAITTMO. -/
def State.block (s : State) (w : SlotId) (n : Nat) (ws : List Nat) (tmo : Nat) (used : Bool) (next : W32) : State :=
  let s1 := (s.drain w).landAll w
  let x := s1.slot w
  let s2 := s1.dropMatch n
  let s3 := s2.setThread n { s2.thread n with ctx := { x.ctx with pc := next },
                                              waitTmo := if used then 0#32 else x.waitTmo }
  (s3.clearSlot w).beginWait n ws tmo

/-! ### Dispatch (section 9.4) -/

/-- The slots of a program's dispatch domain; program 32 is the warden's. -/
def State.domainSlots (s : State) (prog : Nat) : List Nat :=
  if prog = 32 then rangeFrom 4 512 else (s.progCores prog).flatMap (fun c => rangeFrom 8 (8 * c))

/-- Slot `k` may take work on a thread's frame. -/
def State.slotFits (s : State) (k : Nat) (frame : Option Nat) : Bool :=
  match frame.bind s.frame with
  | none => true
  | some f => s.coreFits (slotCore k) f

/-- Running slots of the core of slot `w`. -/
def State.coreLoad (s : State) (w : Nat) : Nat :=
  let c := slotCore w
  ((rangeFrom (if c = 64 then 4 else 8) (8 * c)).filter (fun k => (s.slot k).thread.isSome)).length

/-- The idle slot that matched thread `n` goes to: fewest running slots, then lower core, then lower slot (R262). -/
def State.idleSlot (s : State) (n : Nat) : Option Nat :=
  let t := s.thread n
  let idle := (s.domainSlots t.program).filter (fun k =>
    (s.slot k).thread.isNone && !(s.slot k).halted && s.slotFits k t.frame)
  idle.foldl (fun acc k =>
    match acc with
    | none => some k
    | some b => if s.coreLoad k < s.coreLoad b then some k else some b) none

/-- The head of the highest ready list of a program among the threads that a slot can take (R261, R262). -/
def State.readyHead (s : State) (prog : Nat) : Option Nat :=
  (s.lk.ready.filter (fun n => decide ((s.thread n).program = prog) && (s.idleSlot n).isSome)).foldl (fun acc n =>
    match acc with
    | none => some n
    | some b => if (s.thread b).effPrio < (s.thread n).effPrio then some n else some b) none

/-- Thread `n` is loaded into slot `w` with its tokens, statuses and wake reasons (R264, R253). -/
def State.loadThread (s : State) (w n : Nat) : State :=
  let t := s.thread n
  let vals := (rangeFrom 4 0).map (fun i => ((t.tokens[i]?).map (·.value)).getD 0#32)
  let sts := sumNat ((rangeFrom 4 0).map (fun i => (((t.tokens[i]?).map (·.status.code)).getD 0) * 256 ^ i))
  let x : Slot :=
    { Slot.init with thread := some n, ctx := { t.ctx with flags := setBits t.ctx.flags 15 8 t.ostat.code },
                     waitTmo := t.waitTmo, tokval := vals, tokstat := w32 sts,
                     wake := w32 (t.nTags + 8 * b2n t.timedOut + 16 * b2n t.rollback), reqs := (s.slot w).reqs,
                     halted := (s.slot w).halted, saveWait := true }
  let s1 := (s.setSlot w x).setThread n { t with st := .running w, rollback := false }
  State.count { s1 with lk := { s1.lk with ready := s1.lk.ready.erase n } } 0x70108

/-- DISPATCH: the head of the highest ready list of a program is loaded into an idle slot of its domain (R262, R264). -/
def execDispatch (program : Fin 33) (s : State) : Host.Outcome State Fault Refusal :=
  match s.readyHead program with
  | none => .next s
  | some n =>
    match s.idleSlot n with
    | some w => .next (s.loadThread w n)
    | none => .next s

/-- SAVE_AREA_PRESENT: the thread's save area has arrived (R264). -/
def execSaveAreaPresent (w : SlotId) (s : State) : Host.Outcome State Fault Refusal :=
  .next (s.setSlot w { s.slot w with saveWait := false })

/-- WAIT_TIMEOUT: a waiting thread reaches its deadline and becomes ready with no token taken (R267). -/
def execWaitTimeout (n : Fin 2064) (s : State) : Host.Outcome State Fault Refusal :=
  let t := s.thread n
  match t.st, t.deadline with
  | .waiting, some d =>
    let s1 := s.advance d
    let s2 := { s1 with lk := { s1.lk with lines := releaseDemand n s1.lk.lines, ready := s1.lk.ready ++ [n.val] } }
    .next (((s2.setThread n { t with st := .ready, timedOut := true, deadline := none, tokens := [],
                                     ostat := .timeout }).count 0x70118).raise 390)
  | _, _ => .next s

/-! ### The end of a thread (R257, R258) -/

/-- The arrival token of a thread's current frame goes back to the head of its pound's tag, with REDISPATCHED set
(R258). -/
def State.returnFrame (s : State) (n : Nat) : State :=
  match (s.thread n).frame with
  | none => s
  | some k =>
    let s1 := s.setThread n { s.thread n with frame := none }
    match s1.frame k with
    | none => s1
    | some f =>
      let s2 := s1.setFrame k (some { f with fr := { f.fr with redispatched := true } })
      let t := 0x10 + f.pound.getD 0
      s2.setTokens t ({ value := w32 k, status := .ok, turn := false } :: s2.tokens t)

/-- The slot of a thread that ends or leaves is emptied; its stores are performed and its agent's holdings follow the
owner-death policy (R166, R258). -/
def State.vacate (s : State) (w : SlotId) (event : Nat) : State :=
  ((((s.drain w).agentDies (slotAgent w) event).disarmAgent (slotAgent w)).clearSlot w)

/-- Thread `n` ends with a status and an exit value; THREAD_EXIT posts its exit token (R257, R258). -/
def State.endThread (s : State) (n : Nat) (st : Status) (value : Nat) : State :=
  let s1 := match (s.thread n).st with
    | .running w => if h : w < 516 then s.vacate ⟨w, h⟩ 1 else s
    | _ => s
  let s2 := (s1.dropMatch n).returnFrame n
  let s3 := { s2 with lk := { s2.lk with ready := s2.lk.ready.erase n, lines := releaseDemand n s2.lk.lines } }
  (s3.setThread n { s3.thread n with st := .exiting st value, deadline := none, waitSet := [] }).matching

/-- Thread `n` is aborted with a status (R258). -/
def State.abortThread (s : State) (n : Nat) (st : Status) : State := ((s.endThread n st 0).count 0x70120).raise 387

/-- THREAD_EXIT: the exit token is posted and the number becomes free (R257, R258). -/
def execThreadExit (n : Fin 2064) (s : State) : Host.Outcome State Fault Refusal :=
  let t := s.thread n
  match t.st with
  | .exiting st v =>
    let s1 := s.setThread n { Thread.init with gen := t.gen + 1#5 }
    .next (if t.exitTag = 0 then s1 else s1.postReserved t.exitTag (w32 (s.handle n + v * 0x10000)) st)
  | _ => .next s

/-! ### Requests of a slot (R256) -/

/-- Slot `w` is a warden slot. -/
def slotWarden (w : Nat) : Bool := decide (512 ≤ w)

/-- LK_ABORT performed: the reply token reports whether the handle named a living thread other than the requester's own
(R259). A reply without an unreserved entry is lost as any post (R246). -/
def State.abortReq (s : State) (warden : Bool) (self h tag : Nat) : State :=
  let tgt := s.handleThread warden h
  let r : Status × State := match tgt with
    | some n => if n = self then (.refusedNotReady, s) else (.ok, s.abortThread n .refusedRights)
    | none => (.refusedNotReady, s)
  (r.2.post (tagFor warden tag) (w32 (h % 0x10000)) r.1).2

/-- A timer arm: OK, or the refusal of R268. -/
def State.timerReq (s : State) (tag delay : Nat) : Status × State :=
  if delay = 0 then (.zeroLength, s)
  else if 256 ≤ s.lk.timers.length || !s.entryFree tag then (.refusedCapacity, s)
  else
    let s1 := s.reserve tag
    (.ok, { s1 with lk := { s1.lk with timers := s1.lk.timers ++ [{ tag := tag, deadline := s.time + delay }] } })

/-- The requests at the front of slot `w`'s queue that wait for no creation are performed. -/
def State.passReqs (s : State) (w : Nat) : List LkReq → State
  | .abort self h tag :: rest => (s.abortReq (slotWarden w) self h tag).passReqs w rest
  | .timer tag d :: rest => ((s.timerReq tag d).2).passReqs w rest
  | l => s.setSlot w { s.slot w with reqs := l }

/-- A request enters slot `w`'s queue after its stores; it is passed on at once when no creation is ahead of it
(R170, R256). -/
def State.queueReq (s : State) (w : SlotId) (r : LkReq) : Status × State :=
  let s1 := s.drain w
  let q := (s1.slot w).reqs
  if 2 ≤ q.length then (.refusedCapacity, s1)
  else
    match r with
    | .create _ => (.ok, s1.setSlot w { s1.slot w with reqs := q ++ [r] })
    | .abort self h tag => if q = [] then (.ok, s1.abortReq (slotWarden w) self h tag)
                           else (.ok, s1.setSlot w { s1.slot w with reqs := q ++ [r] })
    | .timer tag d => if q = [] then s1.timerReq tag d
                      else (.ok, s1.setSlot w { s1.slot w with reqs := q ++ [r] })

/-- An OUT to LK_CREATE by slot `w` (R255, R256). -/
def State.lkCreate (s : State) (w : SlotId) (addr : W32) : Status × State := s.queueReq w (.create addr)

/-- An OUT to LK_ABORT by slot `w` (R259). -/
def State.lkAbort (s : State) (w : SlotId) (v : W32) : Status × State :=
  s.queueReq w (.abort ((s.slot w).thread.getD 0) (bits v 15 0) (bits v 31 16))

/-- An OUT to LK_TMARM by slot `w` (R268). -/
def State.lkTmarm (s : State) (w : SlotId) (delay : W32) : Status × State :=
  match (s.slot w).tmTag with
  | none => (.refusedNotReady, s)
  | some t => if delay = 0#32 then (.zeroLength, s) else s.queueReq w (.timer t delay.toNat)

/-- An OUT to LK_TMTAG by slot `w`: it names a token tag (R268). -/
def State.lkTmtag (s : State) (w : SlotId) (v : W32) : Status × State :=
  let t := tagFor (slotWarden w) v.toNat
  if isPostable t then (.ok, s.setSlot w { s.slot w with tmTag := some t }) else (.refusedRange, s)

/-- An OUT to LK_EXIT by slot `w`: the thread ends (R257). -/
def State.lkExit (s : State) (w : SlotId) (v : W32) : Status × State :=
  match (s.slot w).thread with
  | none => (.ok, s)
  | some n =>
    if 2 ≤ (s.slot w).reqs.length then (.refusedCapacity, s)
    else (.ok, s.endThread n .ok (bits v 15 0))

/-- An OUT to LK_WAITTMO by slot `w` (R266). -/
def State.lkWaittmo (s : State) (w : SlotId) (v : W32) : Status × State :=
  (.ok, s.setSlot w { s.slot w with waitTmo := v })

/-- An OUT to LK_PRIO by slot `w`: PRIO changes from the thread's next match (R260). -/
def State.lkPrio (s : State) (w : SlotId) (v : W32) : Status × State :=
  match (s.slot w).thread with
  | none => (.ok, s)
  | some n => (.ok, s.setThread n { s.thread n with nextPrio := some (bits v 2 0) })

/-- LK_CREATE (R255, R256). -/
def execLkCreate (w : SlotId) (addr : W32) (s : State) : Host.Outcome State Fault Refusal :=
  .next (State.slotAnswer w (s.lkCreate w addr))
/-- LK_EXIT (R257). -/
def execLkExit (w : SlotId) (v : W32) (s : State) : Host.Outcome State Fault Refusal :=
  let r := s.lkExit w v
  .next (if r.1 = .ok then r.2.status .ok else State.slotAnswer w r)
/-- LK_ABORT (R259). -/
def execLkAbort (w : SlotId) (v : W32) (s : State) : Host.Outcome State Fault Refusal :=
  .next (State.slotAnswer w (s.lkAbort w v))
/-- LK_WAITTMO (R266). -/
def execLkWaittmo (w : SlotId) (v : W32) (s : State) : Host.Outcome State Fault Refusal :=
  .next (State.slotAnswer w (s.lkWaittmo w v))
/-- LK_PRIO (R260). -/
def execLkPrio (w : SlotId) (v : W32) (s : State) : Host.Outcome State Fault Refusal :=
  .next (State.slotAnswer w (s.lkPrio w v))
/-- LK_TMARM (R268). -/
def execLkTmarm (w : SlotId) (delay : W32) (s : State) : Host.Outcome State Fault Refusal :=
  .next (State.slotAnswer w (s.lkTmarm w delay))

/-- TIMER_EXPIRY: timer `k` reaches its deadline and posts its reserved token (R268). -/
def execTimerExpiry (k : Fin 256) (s : State) : Host.Outcome State Fault Refusal :=
  match s.lk.timers[k.val]? with
  | none => .next s
  | some t =>
    let s1 := s.advance t.deadline
    .next (State.postReserved { s1 with lk := { s1.lk with timers := s1.lk.timers.eraseIdx k.val } } t.tag (lo32 s1.tb.now)
      .ok)

/-- LKP_ABORT: the manager or a warden slot aborts a thread by handle (R258, R259). -/
def execLkpAbort (ag : Agent) (handle : BitVec 16) (s : State) : Host.Outcome State Fault Refusal :=
  let a := A.lkpAbort
  if !isBoss ag then .next (s.refuse ag a .refusedRights)
  else if s.regOff a then .next (s.refuse ag a .refusedNotReady)
  else
    match s.handleThread false handle.toNat with
    | none => .next (s.status .refusedNotReady)
    | some n => .next ((s.abortThread n .refusedRights).status .ok)

/-! ### Creation (R255, Tables 9-3 and 9-4) -/

/-- The memory key of a creation record that slot `w` may name: wholly in its D-RAM, or in shared SRAM that its pound may
read (R255). -/
def State.recordAt (s : State) (w : Nat) (addr : W32) : Option Nat :=
  let a := addr.toNat
  if a + 32 ≤ 0x4000 then some (kDram (slotCore w) + a)
  else if 0x10000000 ≤ a ∧ a + 32 ≤ 0x10400000 then
    let o := a - 0x10000000
    match slotWarden w, s.slotPound w with
    | true, _ => some (kShared + o)
    | false, some p =>
      if s.sramKind p.pound o 1 true false = 0 ∧ s.sramKind p.pound (o + 31) 1 true false = 0 then some (kShared + o)
      else none
    | false, none => none
  else none

/-- The lowest free thread number of a dispatcher. -/
def State.freeThread (s : State) (warden : Bool) : Option Nat :=
  (if warden then rangeFrom 16 2048 else rangeFrom 2048 0).find? (fun n => decide ((s.thread n).st = .free))

/-- What refuses a creation record, given the number the new thread would take (Table 9-4). -/
def State.createStatus (s : State) (warden : Bool) (r : List Byte) (n : Nat) : Status :=
  let u8 := fun (i : Nat) => (nth r i 0#8).toNat
  let u16 := fun (i : Nat) => leNat ((r.drop i).take 2)
  let nst := u8 0x0C
  let stand := ((rangeFrom 4 0).map (fun i => tagFor warden (u16 (4 + 2 * i)))).take nst
  let exitTag := u16 0x0E
  let chk := (s.setThread n Thread.init).waitCheck n stand
  if 32 ≤ u8 0 ∨ 16 ≤ u8 1 ∨ u16 2 % 4 ≠ 0 ∨ u16 2 < 0x100 ∨ 0x7FFC < u16 2 ∨ 4 < nst ∨ u8 0x0D ≠ 0 ∨ u16 0x16 ≠ 0 then
    .refusedRange
  else if exitTag ≠ 0 && !isPostable (tagFor warden exitTag) then .refusedRange
  else if chk ≠ .ok then chk
  else if !warden && !s.shp.fabric.pounds.any (fun p => decide (p.program = u8 0)) then .refusedNotReady
  else .ok

/-- Make thread `n` ready at once with the creation values of a record (R255, Table 6-3). -/
def State.makeThread (s : State) (warden : Bool) (r : List Byte) (n : Nat) : State :=
  let u8 := fun (i : Nat) => (nth r i 0#8).toNat
  let u16 := fun (i : Nat) => leNat ((r.drop i).take 2)
  let u32 := fun (i : Nat) => w32 (leNat ((r.drop i).take 4))
  let prog := if warden then 32 else u8 0
  let c := (({ Ctx.init with pc := w32 (u16 2), rsTrap := bit (w32 (u8 1)) 3 }).setPreg 71 (u32 0x18)).setPreg 44 (u32 0x1C)
  let t : Thread :=
    { Thread.init with st := .ready, gen := (s.thread n).gen, program := prog, prio := u8 1 % 8, floor := s.prioFloor prog,
                       stand := ((rangeFrom 4 0).map (fun i => tagFor warden (u16 (4 + 2 * i)))).take (u8 0x0C),
                       standTmo := leNat ((r.drop 0x10).take 4), exitTag := if u16 0x0E = 0 then 0 else tagFor warden (u16 0x0E),
                       ctx := c }
  let s1 := s.setThread n t
  { s1 with lk := { s1.lk with ready := s1.lk.ready ++ [n] } }

/-- A creation with its record: the new thread or the refusal; an entry for the reply is reserved already. -/
def State.create (s : State) (warden : Bool) (r : List Byte) : Status × Nat × State :=
  match s.freeThread warden with
  | none => (.refusedCapacity, 0, s)
  | some n =>
    let st := s.createStatus warden r n
    if st ≠ .ok then (st, 0, s)
    else
      let e := leNat ((r.drop 0x0E).take 2)
      let t := tagFor warden e
      if e ≠ 0 && !s.entryFree t then (.refusedCapacity, 0, s)
      else
        let s1 := (if e = 0 then s else s.reserve t).makeThread warden r n
        (.ok, s1.handle n, s1)

/-- THREAD_CREATE: the creation request at the head of slot `w`'s queue is performed, and the requests behind it pass on; it
waits while no entry can be reserved for its reply (R255, R256). A record that cannot be read, or a REPLY_TAG that no token
can be posted to, leaves no reply (assumption 16). -/
def execThreadCreate (w : SlotId) (s : State) : Host.Outcome State Fault Refusal :=
  match (s.slot w).reqs with
  | .create addr :: rest =>
    let wd := slotWarden w
    match s.recordAt w addr with
    | none => .next (((s.raise 386).passReqs w rest).status .refusedRange)
    | some k =>
      let r := s.readBytes k 32
      let reply := tagFor wd (leNat ((r.drop 0x14).take 2))
      if !isPostable reply then .next (((s.raise 386).passReqs w rest).status .refusedRange)
      else if !s.entryFree reply then .next s
      else
        let c := (s.reserve reply).create wd r
        let s1 := if c.1 = .ok then c.2.2 else c.2.2.raise 386
        .next (((s1.postReserved reply (w32 c.2.1) c.1).passReqs w rest).status c.1)
  | _ => .next s

/-- The root thread of a program (R254): empty wait set, priority 0, WRAP, no exit tag, every register 0. -/
def State.rootThread (s : State) (prog entry : Nat) : State :=
  match s.freeThread (decide (prog = 32)) with
  | none => s
  | some n =>
    let c : Ctx := { Ctx.init with pc := w32 entry }
    let t : Thread := { Thread.init with st := .ready, gen := (s.thread n).gen, program := prog, floor := s.prioFloor prog,
                                         ctx := c }
    let s1 := s.setThread n t
    { s1 with lk := { s1.lk with ready := s1.lk.ready ++ [n] } }

/-! ### Cores out of service and back (section 9.6) -/

/-- The program with index `i` of the shape in effect. -/
def State.program (s : State) (i : Nat) : Option ProgCfg := s.shp.programs.find? (fun p => decide (p.index = i))

/-- `n` bytes: those of a list, then zeros. -/
def padTo (n : Nat) (bs : List Byte) : List Byte := (bs ++ List.replicate (n - bs.length) 0#8).take n

/-- Core `c`'s I-RAM and D-RAM are loaded from a program's images; what lies beyond them reads as zero (R49). -/
def State.loadCore (s : State) (c : Nat) (p : ProgCfg) : State :=
  (s.writeBytes (kIram c) (padTo 0x8000 p.iimage)).writeBytes (kDram c) (padTo 0x4000 p.dimage)

/-- TOP_CAPS.CORES changed by `d`, within 0 to 64: spare cores are in service too (Example 3-1), and Example 9-1 counts a spare
core that joins (R271, R272). -/
def State.addCores (s : State) (d : Int) : State :=
  s.setFld A.topCaps 6 0 (min 64 ((s.fld A.topCaps 6 0 : Int) + d).toNat)

/-- Core `c` counts in TOP_CAPS.CORES: it is neither quarantined nor a quarantined core on its way back. -/
def State.counted (s : State) (c : Nat) : Bool :=
  match (s.core c).st with
  | .member => true
  | .spare => true
  | .shadow => !(s.lk.retQ.contains c || decide (s.lk.ret.map (·.core) = some c))
  | .quarantined => false

/-- The QUAR bit of core `c`. -/
def State.setQuar (s : State) (c : Nat) (v : Bool) : State :=
  s.setReg (A.lkpQuar (c / 32)) (setBit (s.reg (A.lkpQuar (c / 32))) (c % 32) v)

/-- The next waiting return starts when none is being prepared (R272, R273). -/
def State.nextReturn (s : State) : State :=
  match s.lk.ret, s.lk.retQ with
  | none, c :: rest =>
    let s1 := { s with lk := { s.lk with ret := some { core := c, state := 1 }, retQ := rest } }
    s1.hwSwitch c 2
  | _, _ => s

/-- A return of core `c` is asked for (R273). -/
def State.askReturn (s : State) (c : Nat) : State :=
  State.nextReturn { s with lk := { s.lk with retQ := s.lk.retQ ++ [c] } }

/-- The thread that ran in slot `w` of a quarantined core is rolled back to the head of its ready list (R270). -/
def State.rollBack (s : State) (w : SlotId) : State :=
  let th := (s.slot w).thread
  let s1 := s.vacate w 2
  match th with
  | none => s1
  | some n =>
    let t := s1.thread n
    let s2 := match t.frame.bind s1.frame, t.frame with
      | some f, some k => s1.setFrame k (some { f with fr := { f.fr with redispatched := true } })
      | _, _ => s1
    let s3 := s2.setThread n { t with st := .ready, rollback := true }
    { s3 with lk := { s3.lk with ready := n :: s3.lk.ready } }

/-- A return of core `c` that is being prepared or waits is over. -/
def State.dropReturn (s : State) (c : Nat) : State :=
  let s1 := { s with lk := { s.lk with retQ := s.lk.retQ.filter (fun k => decide (k ≠ c)),
                                       ret := s.lk.ret.filter (fun r => decide (r.core ≠ c)) } }
  s1.nextReturn

/-- The core is being returned (R272). -/
def State.returning (s : State) (c : Nat) : Bool :=
  s.lk.retQ.contains c || decide (s.lk.ret.map (·.core) = some c)

/-- The record and the events of a quarantine (R269, R271, Table 9-8). -/
def State.noteQuarantine (s : State) (c reason : Nat) : State :=
  (((s.setQuar c true).setReg A.lkpQlast (w32 (c + reason * 0x100 + s.cycle.toNat % 0x10000 * 0x10000))).raise 388).raise
    (257 + 2 * c)

/-- When no old core of a pound is left between turn A and turn B, its frames leave threads whose program its new cores do not
run (section 2.4, Edges). -/
def State.orphans (s : State) (pound : Option Nat) : State :=
  if s.shp.old.isNone || s.oldCores pound then s
  else
    let lost := fun (n : Nat) (t : Thread) => match t.frame.bind s.frame with
      | some f => decide (f.fab ≠ s.flt.fabGen) && decide (f.pound = pound) && !s.servable t.program (t.frame.getD 0) &&
          decide (n < 2048)
      | none => false
    (SMap.keysWhere lost s.lk.threads).foldl (fun (t : State) n => t.returnFrame n) s

/-- The pound entry that core `c` is prepared for. -/
def Core.goal (x : Core) : Option PoundCfg := if x.joins.isSome then x.joins else x.cfg

/-- A core out of service: it keeps the pound that it served or was to join. -/
def Core.outOf (x : Core) : Core :=
  if x.st = .member then { x with st := .quarantined } else { x with st := .quarantined, cfg := x.goal, joins := none }

/-- Core `c` is quarantined (R269 to R271); with AUTOSPARE the lowest spare core is returned into its pound (R273). -/
def State.quarantine (s : State) (c reason : Nat) : State :=
  let x := s.core c
  let s1 := (rangeFrom 8 (8 * c)).foldl (fun t w => if h : w < 516 then t.rollBack ⟨w, h⟩ else t) s
  let s2 := ((s1.setCore c x.outOf).hwSwitch c 0).dropReturn c
  let s2' := s2.orphans (x.outOf.cfg.map (·.pound))
  let s3 := ((if s.counted c then s2'.addCores (-1) else s2').noteQuarantine c reason).matching
  let spare := (rangeFrom 64 0).find? (fun k => decide ((s3.core k).st = .spare) && (s3.core k).joins.isNone)
  match spare, x.outOf.cfg with
  | some k, some p =>
    if bit (s3.reg A.lkpCtrl) 0 then (s3.setCore k { s3.core k with joins := some p }).askReturn k else s3
  | _, _ => s3

/-- CORE_QUARANTINE: an I-RAM (reason 0) or D-RAM (1) parity error, or a rotation stall (2), of a core in service, in SHADOW or
being returned (R269; section 9.6, Edges). -/
def execCoreQuarantine (core : Fin 64) (reason : Fin 3) (s : State) : Host.Outcome State Fault Refusal :=
  match (s.core core).st with
  | .member => .next (s.quarantine core (reason + 2))
  | .shadow => .next (s.quarantine core (reason + 2))
  | _ => .next (if s.returning core then s.quarantine core (reason + 2) else s)

/-- Cores in service of the pound that core `c` serves. -/
def State.poundCores (s : State) (c : Nat) : Nat :=
  ((rangeFrom 64 0).filter (fun k => decide ((s.core k).st = .member) &&
    decide ((s.core k).cfg.map (·.pound) = (s.core c).cfg.map (·.pound)))).length

/-- The status of a command in LKP_QCMD.LAST and to its sender (R274). -/
def State.qcmdDone (s : State) (st : Status) : State := (s.setFld A.lkpQcmd 23 16 st.code).status st

/-- LKP_QCMD_QUARANTINE: OP 1 (R269, R274); a core that is quarantined already, and is not being returned, is refused. -/
def execLkpQcmdQuarantine (ag : Agent) (core : Fin 64) (s : State) : Host.Outcome State Fault Refusal :=
  let a := A.lkpQcmd
  let spare := (rangeFrom 64 0).any (fun k => decide ((s.core k).st = .spare) && (s.core k).joins.isNone)
  if !isBoss ag then .next (s.refuse ag a .refusedRights)
  else if s.regOff a then .next (s.refuse ag a .refusedNotReady)
  else if decide ((s.core core).st = .quarantined) && !s.returning core then .next (s.qcmdDone .refusedNotReady)
  else if decide ((s.core core).st = .member) && decide (s.poundCores core ≤ 1) && !spare then .next (s.qcmdDone .refusedNotReady)
  else .next ((s.quarantine core 5).qcmdDone .ok)

/-- LKP_QCMD_RETURN: OP 2 (R273, R274). -/
def execLkpQcmdReturn (ag : Agent) (core : Fin 64) (s : State) : Host.Outcome State Fault Refusal :=
  let a := A.lkpQcmd
  let busy := s.lk.retQ.contains core.val || decide (s.lk.ret.map (·.core) = some core.val)
  if !isBoss ag then .next (s.refuse ag a .refusedRights)
  else if s.regOff a then .next (s.refuse ag a .refusedNotReady)
  else if (s.core core).st ≠ .quarantined || busy then .next (s.qcmdDone .refusedNotReady)
  else .next ((s.askReturn core).qcmdDone .ok)

/-- CORE_RETURN_PREPARED: the load and the self-test of the returning core end (R272). -/
def execCoreReturnPrepared (pass : Bool) (s : State) : Host.Outcome State Fault Refusal :=
  match s.lk.ret with
  | none => .next s
  | some r =>
    let c := r.core
    let x := s.core c
    if r.state = 4 || !s.pdOn c then .next s
    else if pass then
      let s1 := match (x.goal.bind (fun p => s.program p.program)) with
        | some p => s.loadCore c p
        | none => s
      let s2 := s1.setCore c { x with st := .shadow }
      .next (State.hwArm { s2 with lk := { s2.lk with ret := some { r with state := 4 } } } 18)
    else .next (s.quarantine c 6)

/-- At a turn at which group 18 swaps the core in SHADOW joins its pound, or becomes spare when that was removed (R272,
section 4.3). -/
def State.coreJoins (s : State) : State :=
  match s.lk.ret with
  | none => s
  | some r =>
    if r.state ≠ 4 then s
    else
      let c := r.core
      let x := s.core c
      let s0 := { s with lk := { s.lk with ret := none } }
      let pound := x.goal.bind (fun p => s.shp.fabric.pounds.find? (fun q => decide (q.pound = p.pound)))
      match pound with
      | none =>
        let y : Core := { x with st := .spare, cfg := none, joins := none }
        (((s0.setCore c y).setQuar c false).addCores 1).nextReturn
      | some p =>
        let y : Core := { x with st := .member, cfg := some p, joins := if s.shp.old.isSome then some p else none }
        ((((s0.setCore c y).setQuar c false).addCores 1).raise 389).nextReturn

/-! ### Prefetch (R277, R278) -/

/-- The contexts that the prefetch bitmap names; `none` where it does not lie in an SREGION of firmware data. -/
def State.bitmap (s : State) : Option (List Nat) :=
  let o := s.fld A.lkpPfbase 21 9 * 512
  match s.sregion o 512 with
  | some r =>
    if r.kind = 1 then
      let bs := s.readBytes (kShared + o) 512
      some ((rangeFrom 4096 0).filter (fun c => (nth bs (c / 8) 0#8).getLsbD (c % 8)))
    else none
  | none => none

/-- Prefetch holds whose cycle has ended go. -/
def State.endPrefetch (s : State) : State :=
  { s with lk := { s.lk with lines := s.lk.lines.map (fun l => { l with holds := l.holds.filter (fun h =>
      match h with
      | .demand _ => true
      | .prefetch c => decide ((s.cycle - c).toNat ≤ 1)) }) } }

/-- At a turn the prefetches for contexts no longer named are dropped; `swapped` says that group 13, 14 or 15 swaps: then
every completed line that no thread has matched loses its hold (R278). -/
def State.dropPrefetch (s : State) (named : List Nat) (swapped : Bool) : State :=
  let pf := fun (m : Miss) => match m.hold with
    | .demand _ => false
    | .prefetch _ => !named.contains m.ctx
  let lost := fun (l : Line) => (swapped || !named.contains l.ctx) && !l.used && l.holds.any (fun h => match h with
    | .demand _ => false
    | .prefetch _ => true)
  let n := (s.lk.misses.filter pf).length + (s.lk.missQ.filter pf).length + (s.lk.lines.filter lost).length
  let s1 := { s with lk := { s.lk with
    misses := s.lk.misses.filter (fun m => !pf m), missQ := s.lk.missQ.filter (fun m => !pf m),
    lines := s.lk.lines.map (fun l => if lost l then { l with holds := l.holds.filter (fun h => match h with
      | .demand _ => true
      | .prefetch _ => false) } else l) } }
  (s1.countBy 0x70130 n).pumpMisses

/-- The pager at a turn: each context of the bitmap is prefetched, or held where it is present, for the next cycle
(R277). -/
def State.prefetch (s : State) (swapped : Bool) : State :=
  let s0 := s.endPrefetch
  if !bit (s.reg A.lkpPfbase) 0 then s0
  else
    match s0.bitmap with
    | none => s0.setFld A.lkpMissstat 31 31 1
    | some named =>
      let h : LineHold := .prefetch s.cycle
      let s1 := s0.dropPrefetch named swapped
      let s2 := { s1 with lk := { s1.lk with lines := s1.lk.lines.map (fun l =>
        if named.contains l.ctx then { l with holds := l.holds ++ [h], used := false } else l) } }
      startMisses ((named.filter (fun c => !s2.present c && !s2.missing c)).map (fun c => { ctx := c, hold := h })) s2

end Sys2Proof.Machine
end

