-- ==== Sys2Proof/Machine/Zlc.lean ====
section
/-! DEFINITION. How a slot issues a ZLC instruction: the branch shadow, traps and access faults, the check of a D-space
access, loads and posted stores (chapters 06 to 08). -/

namespace Sys2Proof.Machine

/-! ### Traps (section 7.9) -/

/-- The status with which a trap of a vector aborts a thread in T (Table 7-12); `st` is the access fault's. -/
def abortStatus (vec : Nat) (st : Status) : Status :=
  match vec with
  | 1 => .refusedRange
  | 2 => st
  | 3 => .windowDouble
  | 4 => .windowDouble
  | 5 => .refusedCapacity
  | 6 => .refusedRange
  | 7 => .unitRefused
  | _ => .refusedNotReady

/-- The status byte in T's w15 (Table 7-12); for the window traps the spec gives none (assumption 6). -/
def State.trapStatus (s : State) (vec : Nat) (st : Status) : Nat × State :=
  if vec = 3 ∨ vec = 4 then ((s.fresh).1.toNat % 256, (s.fresh).2)
  else if 8 ≤ vec then (Status.ok.code, s)
  else ((abortStatus vec st).code, s)

/-- The first event of the core of slot `w`; the warden core has none. -/
def State.coreFault (s : State) (w : Nat) : State := if slotCore w < 64 then s.raise (256 + 2 * slotCore w) else s

/-- A trap to vector `vec` at address `pc`: entry into T, or the abort of a thread that is in T already
(R210, R213, R217, R235, R176, R242). -/
def State.trap (s : State) (w : SlotId) (vec : Nat) (st : Status) (pc : W32) : State :=
  let s1 := s.landAll w
  let x := s1.slot w
  if x.ctx.inT then
    match x.thread with
    | some n => (s1.abortThread n (abortStatus vec st)).coreFault w
    | none => s1
  else
    let p := s1.trapStatus vec st
    let c := ((x.ctx.setPreg 62 pc).setPreg 63 (w32 (p.1 + vec * 0x100)))
    p.2.setSlot w { x with ctx := { c with inT := true, pc := w32 (vec * 16) }, winsel := c.win, saveWait := false,
                           shadow := none }

/-- The undefined-instruction trap (R185). -/
def State.undef (s : State) (w : SlotId) : State := s.trap w 1 .ok (s.slot w).ctx.pc

/-- The status of an access fault kind (Table 6-8). -/
def kindStatus (k : Nat) : Status :=
  match k with
  | 2 => .refusedRights
  | 3 => .refusedSecure
  | _ => .refusedRange

/-- An access fault: the fault ports and the trap (R174, R175). `space` is 0 I, 1 D, 2 IO; `size` the SIZE code. -/
def State.accessFault (s : State) (w : SlotId) (kind space size : Nat) (store : Bool) (addr pc : W32) : State :=
  let st := kindStatus kind
  let info := w32 (st.code + kind * 0x100 + b2n store * 0x800 + space * 0x1000 + size * 0x4000)
  let x := s.slot w
  (s.setSlot w { x with faultAddr := addr, faultInfo := info, faultPc := pc &&& 0x7FFF#32 }).trap w 2 st pc

/-- A fetch fault at a target outside I-space (R193, section 6.3). -/
def State.fetchFault (s : State) (w : SlotId) (target pc : W32) : State := s.accessFault w 5 0 2 false target pc

/-! ### Issue -/

/-- A slot that issues: a single step is used up, and no shadow is left. -/
def Slot.issued (x : Slot) : Slot := { x with stepOne := false, shadow := none }

/-- The slot's thread issues its next instruction: `ok` says that the word is defined, `f` what it does. An idle, held or
halted slot issues nothing (R146); the shadow of a wrong prediction is squashed (R220). -/
def State.issue (s : State) (w : SlotId) (ok : Bool) (f : Slot → State → State) : Host.Outcome State Fault Refusal :=
  let x := s.slot w
  if x.thread.isNone || x.held.isSome || (x.halted && !x.stepOne) then .next s
  else
    let y := x.issued
    let s1 := s.setSlot w y
    match x.shadow with
    | some sh =>
      match sh.target with
      | some t => .next (s1.setSlot w { y with ctx := { y.ctx with pc := t } })
      | none => .next (s1.fetchFault w sh.raw sh.pcB)
    | none =>
      if 0x8000 ≤ x.ctx.pc.toNat then .next (s1.fetchFault w x.ctx.pc x.ctx.pc)
      else if ok then .next (f y s1)
      else .next (s1.undef w)

/-- The address after an instruction. -/
def Slot.next (x : Slot) : W32 := x.ctx.pc + 4#32

/-- An instruction that needed save-area state has it now: what was pending lands as after a hold (R264, R217). -/
def State.saved (s : State) (w : SlotId) : State :=
  if (s.slot w).saveWait then
    let s1 := s.landAll w
    s1.setSlot w { s1.slot w with saveWait := false }
  else s

/-- An instruction whose writes all have distance 1. -/
def State.done1 (s : State) (w : SlotId) (x : Slot) (ws : List PWrite) : State := s.retire w ws [] x.next

/-- An instruction whose writes all have distance 2. -/
def State.done2 (s : State) (w : SlotId) (x : Slot) (ws : List PWrite) : State := s.retire w [] ws x.next

/-- An ALU instruction at distance 1. -/
def State.alu1 (s : State) (w : SlotId) (ok : Bool) (rd : RegCode) (f : Ctx → Alu) : Host.Outcome State Fault Refusal :=
  s.issue w ok (fun x t => t.done1 w x (x.ctx.aluWrites rd (f x.ctx)))

/-- An ALU instruction at distance 2. -/
def State.alu2 (s : State) (w : SlotId) (ok : Bool) (rd : RegCode) (f : Ctx → Alu) : Host.Outcome State Fault Refusal :=
  s.issue w ok (fun x t => t.done2 w x (x.ctx.aluWrites rd (f x.ctx)))

/-! ### D-space (sections 6.3, 6.6) -/

/-- Offset of the program copy area in shared SRAM (R47). -/
def State.copyBase (s : State) : Nat :=
  0x400000 - sumNat (s.shp.programs.map (fun p => roundUp p.iimage.length 0x1000 + roundUp p.dimage.length 0x1000))

/-- The DRAM window base of slot `w`: DRAM_WIN of its pound, or SEC_WDWIN (R158, Table 20-2). -/
def State.dramWin (s : State) (w : Nat) : Nat :=
  if slotWarden w then s.fld A.secWdwin 2 0 else ((s.slotPound w).map (·.dramWin)).getD 0

/-- Channel and byte of D-space address `a` of the DRAM window (R158). -/
def State.winAddr (s : State) (w a : Nat) : Nat × Nat :=
  let d := s.dramWin w
  (if d < 4 then 0 else 1, d % 4 * 0x40000000 + (a - 0x40000000))

/-- Why slot `w` may not access the byte of shared SRAM at offset `o`: a kind of Table 6-8, 0 when it may. -/
def State.sharedKind (s : State) (w o : Nat) (load store : Bool) : Nat :=
  if slotWarden w then (if store && decide (s.copyBase ≤ o) then 2 else 0)
  else
    match s.slotPound w with
    | some p => s.sramKind p.pound o 1 load store
    | none => 1

/-- The kind of a status of the region rule. -/
def statusKind (st : Status) : Nat :=
  match st with
  | .ok => 0
  | .refusedRights => 2
  | .refusedSecure => 3
  | _ => 1

/-- Why slot `w` may not access the D-space byte `a` (Tables 6-4 and 6-8); 0 when it may. -/
def State.byteKind (s : State) (w a : Nat) (load store : Bool) : Nat :=
  if a < 0x4000 then 0
  else if 0x10000000 ≤ a ∧ a < 0x10400000 then s.sharedKind w (a - 0x10000000) load store
  else if 0x18000000 ≤ a ∧ a < 0x18400000 then s.sharedKind w (a - 0x18000000) load store
  else if 0x20000000 ≤ a ∧ a < 0x20200000 then (if store then 2 else 0)
  else if 0x30000000 ≤ a ∧ a < 0x30600000 then 0
  else if 0x40000000 ≤ a ∧ a < 0x80000000 then
    let p := s.winAddr w a
    statusKind (s.dramCheck p.1 p.2 1 load (slotWarden w))
  else 1

/-- The alignment rule of the space that holds byte `a` is broken by an access of `n` bytes (R161, Table 6-4). -/
def misaligned (a n : Nat) : Bool :=
  if 0x18000000 ≤ a ∧ a < 0x18400000 then decide (n ≠ 4) || decide (a % 4 ≠ 0)
  else if (0x10000000 ≤ a ∧ a < 0x10400000) ∨ (0x20000000 ≤ a ∧ a < 0x20200000) ∨ (0x40000000 ≤ a ∧ a < 0x80000000) then
    decide (a % n ≠ 0)
  else false

/-- The lower of two fault kinds that are not 0 (R177). -/
def lowerKind (a b : Nat) : Nat := if a = 0 then b else if b = 0 then a else min a b

/-- The fault kind of the first and the last byte of an access; an access of the DRAM window whose bytes two DREGIONs hold is
refused too (R159, R173, R177). -/
def State.endsKind (s : State) (w a n : Nat) (load store : Bool) : Nat :=
  let k := lowerKind (s.byteKind w a load store) (s.byteKind w ((a + n - 1) % 0x100000000) load store)
  if k = 0 ∧ 0x40000000 ≤ a then
    let p := s.winAddr w a
    statusKind (s.dramCheck p.1 p.2 n load (slotWarden w))
  else k

/-- The fault kind of a D-space access of `n` bytes at `a`, 0 when it is allowed (R173, R177). -/
def State.accessKind (s : State) (w a n : Nat) (load store : Bool) : Nat :=
  lowerKind (s.endsKind w a n load store) (if misaligned a n then 4 else 0)

/-- The memory key of D-space byte `a` for slot `w`; the claim alias names its aliased word, and a DRAM key is the
channel's before any loss. -/
def State.dKey (s : State) (w a : Nat) : Nat :=
  if a < 0x4000 then kDram (slotCore w) + a
  else if a < 0x18000000 then kShared + (a - 0x10000000)
  else if a < 0x20000000 then kShared + (a - 0x18000000)
  else if a < 0x30000000 then kTable + (a - 0x20000000)
  else if a < 0x40000000 then kBasin + (a - 0x30000000)
  else kDramCh (s.winAddr w a).1 + (s.winAddr w a).2

/-- `n` bytes at a key as an agent finds them: DRAM bytes under the losses of their segment. -/
def State.keyBytes (s : State) (k n : Nat) : List Byte :=
  if kDramCh 0 ≤ k ∧ k < kDramCh 2 then s.dramRead ((k - kDramCh 0) / 0x100000000) ((k - kDramCh 0) % 0x100000000) n
  else s.readBytes k n

/-- Bytes at key `k` as posted stores not yet performed leave them to their own thread (R167). -/
def overlay (k : Nat) (ps : List PStore) (bs : List Byte) : List Byte :=
  ps.foldl (fun l p => (rangeFrom l.length 0).zipWith (fun i b =>
    if p.key ≤ k + i ∧ k + i < p.key + p.bytes.length then nth p.bytes (k + i - p.key) b else b) l) bs

/-- What slot `w` loads: its own earlier stores are seen (R167). -/
def State.loadBytes (s : State) (w a n : Nat) : List Byte :=
  let k := s.dKey w a
  overlay k (s.slot w).stores (s.keyBytes k n)

/-- A load from outside the core reaches DRAM, or the context cache, where it lies there (R160). -/
def State.loadReach (s : State) (w : SlotId) (a n : Nat) : State :=
  if 0x40000000 ≤ a then
    let p := s.winAddr w a
    s.dramAccess p.1 (slotAgent w) p.2 n false false
  else s

/-- A store of slot `w`: D-RAM at once; elsewhere posted, a full queue's oldest entry being performed first (R164, R165). -/
def State.postStore (s : State) (w : SlotId) (a : Nat) (bs : List Byte) : State :=
  let k := s.dKey w a
  if a < 0x4000 then s.writeBytes k bs
  else
    let x := s.slot w
    match x.stores with
    | p :: rest =>
      if 4 ≤ x.stores.length then
        let s1 := (s.setSlot w { x with stores := rest }).performStore (slotAgent w) p
        s1.setSlot w { s1.slot w with stores := rest ++ [{ key := k, bytes := bs }] }
      else s.setSlot w { x with stores := x.stores ++ [{ key := k, bytes := bs }] }
    | [] => s.setSlot w { x with stores := [{ key := k, bytes := bs }] }

/-- The target of a posted store, within which the order is kept (R168): shared SRAM, the basin, channel A, channel B. -/
def storeTarget (p : PStore) : Nat :=
  if kDramCh 1 ≤ p.key then 3 else if kDramCh 0 ≤ p.key then 2 else if kBasin ≤ p.key then 1 else 0

end Sys2Proof.Machine
end

