-- ==== Sys2Proof/Machine/Alu.lean ====
section
/-! DEFINITION. The arithmetic, logic, shift, multiply, compare and immediate instructions (section 7.4, Tables 7-4 and
7-5). -/

namespace Sys2Proof.Machine

/-- Three listed register codes (R184). -/
def ok3 (a b c : RegCode) : Bool := regOk a && regOk b && regOk c

/-- ADD (Table 7-5). -/
def execAdd (w : SlotId) (rd ra rb : RegCode) (s : State) : Host.Outcome State Fault Refusal :=
  s.alu1 w (ok3 rd ra rb) rd (fun x => aluAdd (x.rd ra) (x.rd rb) false)

/-- ADDC (Table 7-5). -/
def execAddc (w : SlotId) (rd ra rb : RegCode) (s : State) : Host.Outcome State Fault Refusal :=
  s.alu1 w (ok3 rd ra rb) rd (fun x => aluAdd (x.rd ra) (x.rd rb) (bit x.flags 0))

/-- SUB (R190). -/
def execSub (w : SlotId) (rd ra rb : RegCode) (s : State) : Host.Outcome State Fault Refusal :=
  s.alu1 w (ok3 rd ra rb) rd (fun x => aluSub (x.rd ra) (x.rd rb) true)

/-- SUBC (R190). -/
def execSubc (w : SlotId) (rd ra rb : RegCode) (s : State) : Host.Outcome State Fault Refusal :=
  s.alu1 w (ok3 rd ra rb) rd (fun x => aluSub (x.rd ra) (x.rd rb) (bit x.flags 0))

/-- AND (Table 7-5). -/
def execAndR (w : SlotId) (rd ra rb : RegCode) (s : State) : Host.Outcome State Fault Refusal :=
  s.alu1 w (ok3 rd ra rb) rd (fun x => aluLogic (x.rd ra &&& x.rd rb))

/-- OR (Table 7-5). -/
def execOrR (w : SlotId) (rd ra rb : RegCode) (s : State) : Host.Outcome State Fault Refusal :=
  s.alu1 w (ok3 rd ra rb) rd (fun x => aluLogic (x.rd ra ||| x.rd rb))

/-- XOR (Table 7-5). -/
def execXor (w : SlotId) (rd ra rb : RegCode) (s : State) : Host.Outcome State Fault Refusal :=
  s.alu1 w (ok3 rd ra rb) rd (fun x => aluLogic (x.rd ra ^^^ x.rd rb))

/-- ANDN (Table 7-5). -/
def execAndn (w : SlotId) (rd ra rb : RegCode) (s : State) : Host.Outcome State Fault Refusal :=
  s.alu1 w (ok3 rd ra rb) rd (fun x => aluLogic (x.rd ra &&& ~~~(x.rd rb)))

/-- SHL by rb[4:0] (R191). -/
def execShl (w : SlotId) (rd ra rb : RegCode) (s : State) : Host.Outcome State Fault Refusal :=
  s.alu1 w (ok3 rd ra rb) rd (fun x => aluShl (x.rd ra) (bits (x.rd rb) 4 0))

/-- SHR by rb[4:0] (R191). -/
def execShr (w : SlotId) (rd ra rb : RegCode) (s : State) : Host.Outcome State Fault Refusal :=
  s.alu1 w (ok3 rd ra rb) rd (fun x => aluShr (x.rd ra) (bits (x.rd rb) 4 0))

/-- SAR by rb[4:0] (R191). -/
def execSar (w : SlotId) (rd ra rb : RegCode) (s : State) : Host.Outcome State Fault Refusal :=
  s.alu1 w (ok3 rd ra rb) rd (fun x => aluSar (x.rd ra) (bits (x.rd rb) 4 0))

/-- ROR by rb[4:0] (R191). -/
def execRor (w : SlotId) (rd ra rb : RegCode) (s : State) : Host.Outcome State Fault Refusal :=
  s.alu1 w (ok3 rd ra rb) rd (fun x => aluRor (x.rd ra) (bits (x.rd rb) 4 0))

/-- SHLI by aux (R191). -/
def execShli (w : SlotId) (rd ra : RegCode) (sh : BitVec 5) (s : State) : Host.Outcome State Fault Refusal :=
  s.alu1 w (regOk rd && regOk ra) rd (fun x => aluShl (x.rd ra) sh.toNat)

/-- SHRI by aux (R191). -/
def execShri (w : SlotId) (rd ra : RegCode) (sh : BitVec 5) (s : State) : Host.Outcome State Fault Refusal :=
  s.alu1 w (regOk rd && regOk ra) rd (fun x => aluShr (x.rd ra) sh.toNat)

/-- SARI by aux (R191). -/
def execSari (w : SlotId) (rd ra : RegCode) (sh : BitVec 5) (s : State) : Host.Outcome State Fault Refusal :=
  s.alu1 w (regOk rd && regOk ra) rd (fun x => aluSar (x.rd ra) sh.toNat)

/-- RORI by aux (R191). -/
def execRori (w : SlotId) (rd ra : RegCode) (sh : BitVec 5) (s : State) : Host.Outcome State Fault Refusal :=
  s.alu1 w (regOk rd && regOk ra) rd (fun x => aluRor (x.rd ra) sh.toNat)

/-- MUL: bits [31:0] of the product. -/
def execMul (w : SlotId) (rd ra rb : RegCode) (s : State) : Host.Outcome State Fault Refusal :=
  s.alu2 w (ok3 rd ra rb) rd (fun x => aluMul (x.rd ra * x.rd rb))

/-- MULH: bits [63:32] of the signed product. -/
def execMulh (w : SlotId) (rd ra rb : RegCode) (s : State) : Host.Outcome State Fault Refusal :=
  s.alu2 w (ok3 rd ra rb) rd (fun x => aluMul (BitVec.ofInt 32 ((x.rd ra).toInt * (x.rd rb).toInt / 2 ^ 32)))

/-- MULHU: bits [63:32] of the unsigned product. -/
def execMulhu (w : SlotId) (rd ra rb : RegCode) (s : State) : Host.Outcome State Fault Refusal :=
  s.alu2 w (ok3 rd ra rb) rd (fun x => aluMul (w32 ((x.rd ra).toNat * (x.rd rb).toNat / 2 ^ 32)))

/-- CMP: the flags of ra − rb. -/
def execCmp (w : SlotId) (ra rb : RegCode) (s : State) : Host.Outcome State Fault Refusal :=
  s.alu1 w (regOk ra && regOk rb) 16#5 (fun x => aluSub (x.rd ra) (x.rd rb) true)

/-- TST: the flags of ra AND rb. -/
def execTst (w : SlotId) (ra rb : RegCode) (s : State) : Host.Outcome State Fault Refusal :=
  s.alu1 w (regOk ra && regOk rb) 16#5 (fun x => aluLogic (x.rd ra &&& x.rd rb))

/-- The number of leading zeros of a word, 0 to 32. -/
def clz (v : W32) : Nat := 32 - (if v = 0#32 then 0 else Nat.log2 v.toNat + 1)

/-- CLZ. -/
def execClz (w : SlotId) (rd ra : RegCode) (s : State) : Host.Outcome State Fault Refusal :=
  s.alu1 w (regOk rd && regOk ra) rd (fun x => aluLogic (w32 (clz (x.rd ra))))

/-- ADDI: the immediate is sign-extended. -/
def execAddi (w : SlotId) (rd ra : RegCode) (imm : BitVec 16) (s : State) : Host.Outcome State Fault Refusal :=
  s.alu1 w (regOk rd && regOk ra) rd (fun x => aluAdd (x.rd ra) (simm imm) false)

/-- ANDI: the immediate is zero-extended. -/
def execAndi (w : SlotId) (rd ra : RegCode) (imm : BitVec 16) (s : State) : Host.Outcome State Fault Refusal :=
  s.alu1 w (regOk rd && regOk ra) rd (fun x => aluLogic (x.rd ra &&& uimm imm))

/-- ORI: the immediate is zero-extended. -/
def execOri (w : SlotId) (rd ra : RegCode) (imm : BitVec 16) (s : State) : Host.Outcome State Fault Refusal :=
  s.alu1 w (regOk rd && regOk ra) rd (fun x => aluLogic (x.rd ra ||| uimm imm))

/-- XORI: the immediate is zero-extended. -/
def execXori (w : SlotId) (rd ra : RegCode) (imm : BitVec 16) (s : State) : Host.Outcome State Fault Refusal :=
  s.alu1 w (regOk rd && regOk ra) rd (fun x => aluLogic (x.rd ra ^^^ uimm imm))

/-- CMPI: the flags of ra − sext(imm). -/
def execCmpi (w : SlotId) (ra : RegCode) (imm : BitVec 16) (s : State) : Host.Outcome State Fault Refusal :=
  s.alu1 w (regOk ra) 16#5 (fun x => aluSub (x.rd ra) (simm imm) true)

/-- LUI: flags unchanged. -/
def execLui (w : SlotId) (rd : RegCode) (imm : BitVec 16) (s : State) : Host.Outcome State Fault Refusal :=
  s.alu1 w (regOk rd) rd (fun _ => aluPlain (uimm imm <<< 16))

end Sys2Proof.Machine
end

