-- ==== Sys2Proof/Machine/Ports.lean ====
section
/-! DEFINITION. The Ethernet ports (chapter 13): link and service, PAUSE, gate control lists, egress selection,
preemption, verification, stamps and MDIO. -/

namespace Sys2Proof.Machine

/-! ### Gates (section 13.3) -/

/-- PRT_GCLn_k: the lists lie 0x800 apart (section 13.7). -/
def gclAddr (p k : Nat) : Nat := 0xB1100 + p * 0x800 + 4 * k

/-- PRT_GCLLENn. -/
def gclLenAddr (p : Nat) : Nat := 0xB1018 + p * 0x800

/-- Length of the live gate control list of port `p`. -/
def State.gclLen (s : State) (p : Nat) : Nat := s.fld (gclLenAddr p) 7 0

/-- INTERVAL of entry `k`. -/
def State.gclInterval (s : State) (p k : Nat) : Nat := s.fld (gclAddr p k) 31 10

/-- Gate of queue `q` open in entry `k`. -/
def State.gclOpen (s : State) (p k q : Nat) : Bool := bit (s.reg (gclAddr p k)) q

/-- Offset after the turn at which entry `k` begins (R381). -/
def State.gclBegin (s : State) (p k : Nat) : Nat := sumNat ((rangeFrom k 0).map (s.gclInterval p))

/-- The entry in effect (PRT_STATn.ENTRY). -/
def State.gclEntry (s : State) (p : Nat) : Nat := s.fld (A.prtStat p) 22 16

/-- The gate of queue `q` is open now; a list of length 0 leaves every gate open (Table 13-3). -/
def State.gateOpen (s : State) (p q : Nat) : Bool := decide (s.gclLen p = 0) || s.gclOpen p (s.gclEntry p) q

/-- The open and closed stretches of queue `q` in one cycle: gate and length of each entry that is used (R381). -/
def State.gateParts (s : State) (p q : Nat) : List (Bool × Nat) :=
  let len := s.tb.cycLen
  ((rangeFrom (s.gclLen p) 0).filter (fun k => decide (s.gclBegin p k < len))).map (fun k =>
    let b := s.gclBegin p k
    let last := decide (k + 1 = s.gclLen p) || decide (len ≤ b + s.gclInterval p k)
    (s.gclOpen p k q, if last then len - b else s.gclInterval p k))

/-- How long the gate stays open from the start of a list of stretches. -/
def openRun : List (Bool × Nat) → Nat
  | [] => 0
  | (o, n) :: rest => if o then n + openRun rest else 0

/-- The window carries over the turn: group 4 + n is not armed (R383). -/
def State.gateCarries (s : State) (p : Nat) : Bool := !s.groupArmed (4 + p)

/-- How long the gate of queue `q` stays open from now (R383). -/
def State.gateLeft (s : State) (p q : Nat) : Nat :=
  let parts := s.gateParts p q
  let k := s.gclEntry p
  let into := s.offset - s.gclBegin p k
  let rest := parts.drop k
  let run := openRun rest
  let toEnd := rest.all (·.1)
  (if toEnd && s.gateCarries p then run + openRun parts else run) - into

/-- The longest window of queue `q` in the live list (R384). -/
def longestRun : Nat → Nat → List (Bool × Nat) → Nat
  | best, cur, [] => max best cur
  | best, cur, (o, n) :: rest => if o then longestRun best (cur + n) rest else longestRun (max best cur) 0 rest

/-- Byte times of a whole transmission: preamble, frame and gap (R383). -/
def State.txTime (s : State) (p : Nat) (x : EgFrame) : Nat :=
  let l := if x.fin then x.len else (s.portCfg p).maxFrame
  s.byteTime p (8 + l + 12)

/-- Queue `q` of port `p` is express: by PRT_EXPRESSn, or because preemption is not active (R386). -/
def State.isExpress (s : State) (p q : Nat) : Bool :=
  !bit (s.reg (A.prtStat p)) 4 || bit (s.reg (A.prtExpress p)) q

/-- PAUSE holds queue `q` (R377). -/
def State.paused (s : State) (p q : Nat) : Bool := (s.port p).pauseEnd.isSome && bit (s.reg (A.prtPauseq p)) q

/-- The head of queue `q` may start now (R379, R383, R388, R389). -/
def State.mayStart (s : State) (p q : Nat) : Bool :=
  match ((s.port p).queue q).head? with
  | none => false
  | some e =>
    match s.egFrame e with
    | none => false
    | some x =>
      !s.paused p q && s.gateOpen p q &&
        (if s.isExpress p q then decide (s.gclLen p = 0) || decide (s.txTime p x ≤ s.gateLeft p q)
         else !(s.port p).hold && (s.port p).cut.isNone)

/-- The head of queue `q` is too long for every window of the list (R384). -/
def State.neverFits (s : State) (p q : Nat) : Bool :=
  match ((s.port p).queue q).head? with
  | none => false
  | some e =>
    match s.egFrame e with
    | none => false
    | some x =>
      let parts := s.gateParts p q
      s.isExpress p q && decide (s.gclLen p ≠ 0) && !parts.all (·.1) &&
        decide (longestRun 0 0 (if s.gateCarries p then parts ++ parts else parts) < s.txTime p x)

/-- Remove from the queues of port `p` the heads that never fit (R384). -/
def State.gateDrop (s : State) (p : Nat) : State :=
  (rangeFrom 8 0).foldl (fun t q =>
    if t.neverFits p q then
      match (t.port p).queue q with
      | [] => t
      | e :: rest =>
        (((t.setPort p ((t.port p).setQueue q rest)).count (prtCtr p 15)).raise (prtEvent p 11)).egPortDone e p
    else t) s

/-! ### Service (section 13.7) -/

/-- The lane of port `p` is in service and its MODE is not 0 (chapter 13, Standing). -/
def State.laneUp (s : State) (p : Nat) : Bool := bit (s.reg A.topCaps) (8 + p) && decide ((s.portCfg p).mode ≠ 0)

/-- The line rate code that a link of the port has (Table 13-1). -/
def linkSpeed (mode reported : Nat) : Nat :=
  match mode with
  | 2 => 2
  | 3 => 3
  | _ => reported

/-- PORT_LINK_UP: the link of port `p` comes up with the reported rate, or is held down on half duplex or a rate that
SPEED does not allow (R368, R369, R385, R400). -/
def execPortLinkUp (p : Fin 8) (speed : Fin 3) (halfDup : Bool) (s : State) : Host.Outcome State Fault Refusal :=
  let c := s.portCfg p
  let a := A.prtStat p
  if !s.laneUp p || !s.pdOn (77 + p / 4) then .next s
  else if halfDup then .next ((s.setFld a 7 7 1).raise (prtEvent p 10))
  else if c.mode = 1 ∧ c.speed < 3 ∧ c.speed ≠ speed.val then .next ((s.setFld a 8 8 1).raise (prtEvent p 10))
  else
    let pre := c.preempt && bit (s.reg (A.prtCtrl p)) 1
    let ver := if c.preempt && !pre then 1 else 0
    let r := setBits (setBits (setBits (setBits (setBits (s.reg a) 0 0 1) 3 2 (linkSpeed c.mode speed)) 8 7 0) 6 5 ver)
      4 4 (b2n pre)
    let x := s.port p
    let up := if bit (s.reg (A.prtCtrl p)) 0 then none else some s.time
    .next (((s.setReg a r).setPort p { x with upSince := up, verify := 0, returning := false }).raise (prtEvent p 0))

/-- PORT_RETURN_COUNT: 1 ms of link up with ADMIN_DOWN 0 has passed; group 19 is armed (R400). -/
def execPortReturnCount (p : Fin 8) (s : State) : Host.Outcome State Fault Refusal :=
  let x := s.port p
  match x.upSince with
  | none => .next s
  | some t =>
    if s.inService p || x.returning || s.pwr.laneWait.contains (77 + p / 4) then .next s
    else .next (((s.advance (t + 1000000)).setPort p { x with returning := true }).hwArm 19)

/-- The ports that return at a turn at which group 19 swaps (R131, R400). -/
def State.portsReturn (s : State) : State :=
  (rangeFrom 8 0).foldl (fun t p =>
    let x := t.port p
    if x.returning && bit (t.reg (A.prtStat p)) 0 then
      let t1 := (t.setPort p { x with returning := false }).setFld (A.prtStat p) 1 1 1
      let g := SMap.get (fun _ => 0) t1.flt.gen p
      let sq := (rangeFrom 4 0).foldl (fun m c => SMap.set (fun _ => 0#16) m (domainOf p c) 0#16) t1.flt.seqNext
      State.raise { t1 with flt := { t1.flt with gen := SMap.set (fun _ => 0) t1.flt.gen p (g + 1), seqNext := sq } }
        (prtEvent p 2)
    else t) s

/-- The frame that port `p` sends ends at once without a valid FCS (Table 13-7). -/
def State.cutSending (s : State) (p : Nat) (g : Sending) : State :=
  let n := g.sent + s.bytesBy p g.t0 s.time
  let bytes := match s.egFrame g.eg with
    | some x => s.bufRead x.buf 0 (min n x.len)
    | none => []
  let o : WireOut := { port := p, bytes := bytes, good := false }
  let s1 := { s with flt := { s.flt with sent := s.flt.sent ++ [o] } }
  (s1.count (prtCtr p 14)).egPortDone g.eg p

/-- Port `p` leaves service (Table 13-7). -/
def State.leaveService (s : State) (p : Nat) : State :=
  let x := s.port p
  let a := A.prtStat p
  let was := s.inService p
  let s0 := s.setReg a (setBits (setBits (setBits (s.reg a) 1 0 0) 6 4 0) 9 9 0)
  let s1 := s0.setPort p { x with queues := [], sending := none, cut := none, pauseEnd := none, upSince := none,
                                  returning := false, hold := false }
  if !was then s1
  else
    let l := s1.rxList p
    let lost := (l.filter (·.waits)).length
    let s2 := (s1.setRx p []).countBy (prtCtr p 6) lost
    let s3 := match l.find? (fun r => !r.fin && !r.gone) with
      | some r =>
        (match r.ticket with
         | some k => s2.setDone k true
         | none => s2)
      | none => s2
    let s4 := match x.sending with
      | some g => s3.cutSending p g
      | none => s3
    let queued := (match x.cut with
      | some g => [g.eg]
      | none => []) ++ (rangeFrom 8 0).flatMap x.queue
    let s5 := queued.foldl (fun t e => (t.count (prtCtr p 14)).egPortDone e p) s4
    let s6 := (s5.raise (prtEvent p 1)).raise (prtEvent p 12)
    if bit (s6.reg A.tblCtrl) 8 then
      s6.tblEnqueue { op := 4, table := 0, key := [], res := 0#32, aux0 := w32 (2 ^ p), aux1 := 0#32, agent := 0x607#12,
                      seq := 0, token := false, tag := 0 }
    else s6

/-- PORT_LEAVE_SERVICE: a link loss of 1 µs takes port `p` out of service (R399). -/
def execPortLeaveService (p : Fin 8) (s : State) : Host.Outcome State Fault Refusal :=
  if bit (s.reg (A.prtStat p)) 0 then .next (s.leaveService p) else .next s

/-! ### PAUSE (R377, R378) -/

/-- PAUSE_RECEIVED: a PAUSE frame with `quanta` of 512 bit times (R377). -/
def execPauseReceived (p : Fin 8) (quanta : BitVec 16) (s : State) : Host.Outcome State Fault Refusal :=
  if !s.inService p then .next s
  else
    let s1 := (s.count (prtCtr p 7)).raise (prtEvent p 7)
    if (s.portCfg p).pauseC3 then
      let x := s1.port p
      if quanta = 0#16 then .next ((s1.setPort p { x with pauseEnd := none }).setFld (A.prtStat p) 9 9 0)
      else
        .next ((s1.setPort p { x with pauseEnd := some (s1.time + s1.byteTime p (quanta.toNat * 64)) }).setFld
          (A.prtStat p) 9 9 1)
    else .next s1

/-- PAUSE_EXPIRY: the pause time runs out (R377). -/
def execPauseExpiry (p : Fin 8) (s : State) : Host.Outcome State Fault Refusal :=
  match (s.port p).pauseEnd with
  | none => .next s
  | some t => .next (((s.advance t).setPort p { s.port p with pauseEnd := none }).setFld (A.prtStat p) 9 9 0)

/-- PAUSEQ_WRITE: refused if it names a queue that is express (R378). -/
def execPauseqWrite (ag : Agent) (p : Fin 8) (v : W32) (s : State) : Host.Outcome State Fault Refusal :=
  let a := A.prtPauseq p
  if !isBoss ag then .next (s.refuse ag a .refusedRights)
  else if s.regOff a then .next (s.refuse ag a .refusedNotReady)
  else if bits v 7 0 &&& s.fld (A.prtExpress p) 7 0 ≠ 0 then .next (s.refuse ag a .refusedRange)
  else .next ((s.setReg a (w32 (bits v 7 0))).status .ok)

/-! ### Gates and transmission -/

/-- Entry `k` of port `p`'s list takes effect with its hold operation (R389). -/
def State.applyEntry (s : State) (p k : Nat) : State :=
  let s1 := s.setFld (A.prtStat p) 22 16 k
  match s.fld (gclAddr p k) 9 8 with
  | 1 => s1.setPort p { s1.port p with hold := true }
  | 2 => s1.setPort p { s1.port p with hold := false }
  | _ => s1

/-- At a turn the hold is released and entry 0 begins (R381, R389). -/
def State.gclTurn (s : State) (p : Nat) : State :=
  let s1 := (s.setPort p { s.port p with hold := false }).setFld (A.prtStat p) 22 16 0
  if s1.gclLen p = 0 then s1 else s1.applyEntry p 0

/-- GATE_ENTRY_BEGIN: the next entry of port `p`'s list begins, if it begins before the next turn (R381). -/
def execGateEntryBegin (p : Fin 8) (s : State) : Host.Outcome State Fault Refusal :=
  let k := s.gclEntry p + 1
  let b := s.gclBegin p k
  if s.tb.cycRun && decide (k < s.gclLen p) && decide (b < s.tb.cycLen) then
    .next ((s.advance (s.tb.cycStart.toNat + b)).applyEntry p k)
  else .next s

/-- Start egress entry `e` from queue `q` on port `p`: byte 0 follows the 8 bytes of preamble. -/
def State.startFrame (s : State) (p q e : Nat) : State :=
  let x := s.port p
  let t := s.time + s.byteTime p 8
  let s1 := s.setPort p ((x.setQueue q (x.queue q).tail))
  let s2 := s1.setPort p { s1.port p with sending := some { eg := e, queue := q, t0 := t, first := t, sent := 0 } }
  match s2.egFrame e with
  | some y => s2.setEg e (some { y with begun := y.begun ||| (1#16 <<< p) })
  | none => s2

/-- EGRESS_FRAME_START: the head of the highest queue that may start is started, or a preempted remainder resumes
(R379, R384, R388). -/
def execEgressFrameStart (p : Fin 8) (s : State) : Host.Outcome State Fault Refusal :=
  if !s.inService p || (s.port p).sending.isSome then .next s
  else
    let s1 := s.gateDrop p
    match [7, 6, 5, 4, 3, 2, 1, 0].find? (fun q => s1.mayStart p q) with
    | some q => .next (s1.startFrame p q (((s1.port p).queue q).headD 0))
    | none =>
      match (s1.port p).cut with
      | none => .next s1
      | some g =>
        if s1.gateOpen p g.queue && !(s1.port p).hold then
          .next ((s1.setPort p { s1.port p with cut := none, sending := some { g with t0 := s1.time + s1.byteTime p 8 } }).count
            (prtCtr p 13))
        else .next s1

/-- A preemptable frame in progress must give way: its gate is closed, the MAC is held, or an express frame may start
(R388). -/
def State.mustYield (s : State) (p : Nat) (g : Sending) : Bool :=
  !s.gateOpen p g.queue || (s.port p).hold || (rangeFrom 8 0).any (fun q => s.isExpress p q && s.mayStart p q)

/-- FRAGMENT_PREEMPT: the preemptable frame in progress is cut at the earliest allowed point (R388). -/
def execFragmentPreempt (p : Fin 8) (s : State) : Host.Outcome State Fault Refusal :=
  match (s.port p).sending with
  | none => .next s
  | some g =>
    match s.egFrame g.eg with
    | none => .next s
    | some x =>
      let n := max 60 (s.bytesBy p g.t0 s.time)
      if s.isExpress p g.queue || !s.mustYield p g || decide (x.len < g.sent + n + 64) then .next s
      else
        let s1 := s.advance (g.t0 + s.byteTime p n)
        .next (s1.setPort p { s1.port p with sending := none, cut := some { g with sent := g.sent + n } })

/-- The bytes of a frame with the FCS that the MAC sends: inverted for a stomped frame (R139). -/
def State.sentBytes (s : State) (x : EgFrame) : List Byte :=
  let body := s.bufRead x.buf 0 (x.len - 4)
  let fcs := fcs32 body
  body ++ leBytes 4 (if x.stomp then ~~~ fcs else fcs).toNat

/-- EGRESS_FRAME_SENT: port `p` finishes the frame it sends (R128, R139, R388, R392). -/
def execEgressFrameSent (p : Fin 8) (s : State) : Host.Outcome State Fault Refusal :=
  match (s.port p).sending with
  | none => .next s
  | some g =>
    match s.egFrame g.eg with
    | none => .next (s.setPort p { s.port p with sending := none })
    | some y =>
      let s0 := s.advance (g.t0 + s.byteTime p (y.len - g.sent))
      let s1 := match y.ticket with
        | some k => s0.stomp k 0x0D 0xFE 0x600#12 0 false
        | none => s0
      let x := (s1.egFrame g.eg).getD y
      let out := s1.sentBytes x
      let o : WireOut := { port := p, bytes := out, good := !x.stomp }
      let s2 := { s1 with flt := { s1.flt with sent := s1.flt.sent ++ [o] } }
      let s3 := (s2.count (prtCtr p 10)).countBy (prtCtr p 11) x.len
      let s4 := if x.stomp then s3.count (prtCtr p 12) else s3
      let s5 := if !s4.isExpress p g.queue && !s4.gateOpen p g.queue then s4.count (prtCtr p 16) else s4
      let s6 :=
        if !x.stomp && (s5.portCfg p).stamp && isPtp out then
          s5.stamp p (stampRec (BitVec.ofNat 64 g.first + corr64 (s5.reg (A.prtTxcorr p))) out true x.tkt p)
        else s5
      .next ((s6.setPort p { s6.port p with sending := none }).egPortDone g.eg p)

/-! ### Verification (R385) -/

/-- VERIFY_FRAME_SEND: one of up to three verify frames, or the failure after the third (R385). -/
def execVerifyFrameSend (p : Fin 8) (s : State) : Host.Outcome State Fault Refusal :=
  if s.fld (A.prtStat p) 6 5 = 1 then
    let x := s.port p
    if x.verify < 3 then .next (s.setPort p { x with verify := x.verify + 1 })
    else .next ((s.setFld (A.prtStat p) 6 5 3).raise (prtEvent p 9))
  else .next s

/-- VERIFY_RESPONSE: a response ends the procedure and activates preemption (R385). -/
def execVerifyResponse (p : Fin 8) (s : State) : Host.Outcome State Fault Refusal :=
  if s.fld (A.prtStat p) 6 5 = 1 then .next (s.setFld (A.prtStat p) 6 4 5) else .next s

/-! ### Stamps (R393) -/

/-- TSPOP: a read of PRT_TSPOPp_0 removes the head record and copies it for the reader (R393). -/
def execTspop (ag : Agent) (p : Fin 9) (s : State) : Host.Outcome State Fault Refusal :=
  if !s.reaches ag 0x0B then .next (s.refuse ag (A.prtTspop0 p) .refusedRights)
  else
    let x := s.port p
    let r := x.stamps.headD [0#32, 0#32, 0#32, 0#32]
    let s1 := (((s.setPort p { x with stamps := x.stamps.tail }).setReg (agKey ag (A.prtTspop1 p)) (nth r 1 0#32)).setReg
      (agKey ag (A.prtTspop2 p)) (nth r 2 0#32)).setReg (agKey ag (A.prtTspop3 p)) (nth r 3 0#32)
    .next (s1.answer .ok ((nth r 0 0#32).setWidth 64))

/-! ### MDIO (section 13.6) -/

/-- A write of PRT_MDIO_CMDb (R397). -/
def State.mdioStart (s : State) (ag : Agent) (b : Nat) (v : W32) : State :=
  let a := A.prtMdioStat b
  if !s.reaches ag 0x0B then s.refuse ag (A.prtMdioCmd b) .refusedRights
  else if bit (s.reg a) 16 then (s.setFld a 17 17 1).status .refusedNotReady
  else
    let s1 := { s with prt := { s.prt with mdio := SMap.set (fun _ => none) s.prt.mdio b (some { cmd := v }) } }
    (s1.setFld a 16 16 1).status .ok

/-- The command word of PRT_MDIO_CMDb. -/
def mdioWord (phy reg : BitVec 5) (op : Nat) (cl45 token : Bool) (data : BitVec 16) : W32 :=
  w32 (phy.toNat + reg.toNat * 0x20 + op * 0x400 + b2n cl45 * 0x1000 + b2n token * 0x2000 + data.toNat * 0x10000)

/-- MDIO_WRITE (R397). -/
def execMdioWrite (ag : Agent) (b : Fin 2) (phy reg : BitVec 5) (cl45 token : Bool) (data : BitVec 16) (s : State) :
    Host.Outcome State Fault Refusal := .next (s.mdioStart ag b (mdioWord phy reg 1 cl45 token data))

/-- MDIO_READ (R397). -/
def execMdioRead (ag : Agent) (b : Fin 2) (phy reg : BitVec 5) (cl45 token : Bool) (s : State) :
    Host.Outcome State Fault Refusal := .next (s.mdioStart ag b (mdioWord phy reg 2 cl45 token 0#16))

/-- MDIO_ADDRESS: a Clause 45 address transaction (R397). -/
def execMdioAddress (ag : Agent) (b : Fin 2) (phy reg : BitVec 5) (token : Bool) (data : BitVec 16) (s : State) :
    Host.Outcome State Fault Refusal := .next (s.mdioStart ag b (mdioWord phy reg 0 true token data))

/-- MDIO_READ_INCREMENT: a Clause 45 read with post-increment (R397). -/
def execMdioReadIncrement (ag : Agent) (b : Fin 2) (phy reg : BitVec 5) (token : Bool) (s : State) :
    Host.Outcome State Fault Refusal := .next (s.mdioStart ag b (mdioWord phy reg 3 true token 0#16))

/-- The transaction of a command word reads data: OP 2 of Clause 22, OP 2 and 3 of Clause 45. -/
def mdioReads (v : W32) : Bool := decide (bits v 11 10 = 2) || (bit v 12 && decide (bits v 11 10 = 3))

/-- MDIO_COMPLETE: the transaction of bus `b` ends; `data` is what the PHY answered to a read (R397). -/
def execMdioComplete (b : Fin 2) (data : BitVec 16) (s : State) : Host.Outcome State Fault Refusal :=
  match SMap.get (fun _ => none) s.prt.mdio b.val with
  | none => .next s
  | some m =>
    let a := A.prtMdioStat b
    let s1 := { s with prt := { s.prt with mdio := SMap.set (fun _ => none) s.prt.mdio b.val none } }
    let d := if mdioReads m.cmd then data.toNat else s1.fld a 15 0
    let s2 := s1.setReg a (setBits (setBits (s1.reg a) 15 0 d) 16 16 0)
    let s3 := if bit m.cmd 13 then (s2.post (s2.fld (A.prtMdioCfg b) 31 16) (w32 d) .ok).2 else s2
    .next (s3.raise (prtEvent b 8))

end Sys2Proof.Machine
end

