-- ==== Sys2Proof/Machine/Barge.lean ====
section
/-! DEFINITION. Barges, cargo and partners (chapter 12): the berths and frames of outbound barges, commits, seals and the
tag, the check and presence of inbound barges, the partner directory and its commands. -/

namespace Sys2Proof.Machine

/-! ### The context store and late statuses -/

/-- Channel and byte of context `c` (section 9.7): the DREGION of KIND context store. -/
def State.contextAt (s : State) (c : Nat) : Option (Nat × Nat) :=
  (s.shp.memory.dregions.find? (fun r => decide (r.kind = 1))).map (fun r => (r.channel, r.base * 0x100000 + c * 512))

/-- The first `n` bytes of context `c`, or none where the read is refused (R353, R428, R432): a present context is read
from its cache line. -/
def State.readContext (s : State) (c n : Nat) : Option (List Byte) :=
  if n = 0 then some []
  else
    match s.contextAt c with
    | none => none
    | some (x, a) =>
      if s.chInService x && (s.present c || !s.poisoned x a n) then some (s.dramRead x a n) else none

/-- The status of an access that a slot held for: it lands with the other results of the hold. -/
def State.lateStatus (s : State) (ag : Agent) (st : Status) : State :=
  let s1 := match agentSlot ag with
    | some w =>
      match (s.slot w).held with
      | some h =>
        let late : PWrite := { tgt := .flags 0xFF00#32, val := w32 (st.code * 0x100) }
        s.setSlot w { s.slot w with held := some { h with writes := h.writes ++ [late] } }
      | none => s
    | none => s
  s1.status st

/-! ### The directory (section 12.6) -/

/-- Partner `p`. -/
def State.partner (s : State) (p : Nat) : Partner := SMap.get (fun _ => Partner.init) s.brg.dir p

/-- The state with partner `p` replaced. -/
def State.setPartner (s : State) (p : Nat) (x : Partner) : State :=
  { s with brg := { s.brg with dir := SMap.set (fun _ => Partner.init) s.brg.dir p x } }

/-- The partner whose binding to descriptor `n`, slot `k` is live. -/
def State.boundTo (s : State) (n k : Nat) : Option Nat :=
  (SMap.keysWhere (fun _ x => decide (x.bind = some (n, k))) s.brg.dir).head?

/-- The binding partner `p` will have once every pending change has been made. -/
def State.futureBind (s : State) (p : Nat) : Option (Nat × Nat) :=
  match ((s.brg.changes ++ s.brg.heldChanges).reverse.find? (fun c => decide (c.pid = p))) with
  | some c => c.bind
  | none => (s.partner p).bind

/-- Slot `b` is bound, or will be, to a partner other than `me` (Table 12-9, R16). -/
def State.slotTaken (s : State) (b : Nat × Nat) (me : Nat) : Bool :=
  (rangeFrom 4095 1).any (fun p => decide (p ≠ me) && decide (s.futureBind p = some b))

/-- A binding change is an arm of group 15: in the fence it applies one turn later (R362). -/
def State.armBind (s : State) (c : BindChange) : Status × State :=
  if s.tb.fence then
    (.delayed, State.hwArm { s with brg := { s.brg with heldChanges := s.brg.heldChanges ++ [c] } } 15)
  else (.ok, State.hwArm { s with brg := { s.brg with changes := s.brg.changes ++ [c] } } 15)

/-- One binding change takes effect (R362); a released partner's entry becomes FREE. -/
def State.applyBind (s : State) (c : BindChange) : State :=
  if c.release then s.setPartner c.pid Partner.init
  else s.setPartner c.pid { s.partner c.pid with bind := c.bind, expect := c.expect }

/-- The changes of group 15 take effect at a turn; those held in the fence follow at the next (R362). -/
def State.swapBinds (s : State) : State :=
  let s1 := s.brg.changes.foldl State.applyBind s
  { s1 with brg := { s1.brg with changes := s1.brg.heldChanges, heldChanges := [] } }

/-- The token of a join or release (R366). -/
def State.partnerToken (s : State) (p event : Nat) : State :=
  let r := s.reg A.brgLosstag
  let t := bits r 15 0
  if bit r 31 && isPostable t then (s.reserve t).postReserved t (w32 (p + event * 0x1000)) .ok else s

/-- The T2 key of a partner. -/
def Partner.key (x : Partner) : List Byte := x.sa ++ leBytes 1 x.port

/-- A T2 command of the engine, as agent 0x604 (R326). -/
def t2Cmd (op : Nat) (key : List Byte) (res : W32) : TblCmd :=
  { op := op, table := 2, key := key, res := res, aux0 := 0#32, aux1 := 0#32, agent := 0x604#12, seq := 0, token := false,
    tag := 0 }

/-- The T2 result word of a partner (section 11.1). -/
def t2Res (p st cookie : Nat) : W32 := w32 (p + st * 0x1000 + cookie * 0x10000)

/-- Partner `p` is released with a reason of R366: LEAVING, its T2 entry deleted, its binding removed at the next
turn (R365). -/
def State.releasePartner (s : State) (p reason : Nat) : Status × State :=
  let x := s.partner p
  let s1 := (s.setPartner p { x with st := 3 }).tblEnqueue (t2Cmd 2 x.key 0#32)
  let s2 := if reason = 2 ∨ reason = 4 then s1.count 0xA0430 else s1
  let s3 := match reason with
    | 2 => s2.raise 469
    | 4 => s2
    | _ => s2.raise 470
  (s3.partnerToken p reason).armBind { pid := p, bind := none, expect := false, release := true }

/-! ### Commits (R352, R353) -/

/-- The bytes of a slot (Table 12-4). -/
def slotBytes (c : Cargo) (stale resync : Bool) (cap : Nat) : List Byte :=
  beBytes 2 (c.pid + b2n stale * 0x1000 + b2n c.coded * 0x2000 + b2n resync * 0x4000) ++ leBytes 1 c.len ++ leBytes 1 c.seq ++
    (c.bytes ++ List.replicate (cap - c.bytes.length) 0#8).take cap

/-- Bytes of slot `k` of descriptor `n` written into its berth. -/
def State.putSlot (s : State) (n k w : Nat) (bs : List Byte) : State :=
  s.writeBytes (kBasin + bufPtr w * 64 + descHdr s.reg n + slotOffset s.reg n k) bs

/-- The berth that descriptor `n` holds. -/
def State.berthOf (s : State) (n : Nat) : Option Nat :=
  match (s.out n).berth, s.entryOf 0x604 with
  | some w, some e => if s.bufTag (bufPtr w) = e then some w else none
  | _, _ => none

/-- What a commit word finds before its context is read: a refusal, or its descriptor, slot and berth (R352). -/
def State.commitCheck (s : State) (v : W32) : Status × Nat × Nat × Nat :=
  if bits v 15 14 ≠ 0 ∨ bits v 31 24 ≠ 0 then (.refusedRange, 0, 0, 0)
  else
    match (s.partner (bits v 11 0)).bind with
    | none => (.refusedNotReady, 0, 0, 0)
    | some (n, k) =>
      if !(s.out n).live || decide (descCount s.reg n ≤ k) then (.refusedNotReady, 0, 0, 0)
      else if (s.out n).sealed then (.delayed, 0, 0, 0)
      else if slotCap s.reg n k < bits v 23 16 then (.refusedRange, 0, 0, 0)
      else
        match s.berthOf n with
        | none => (.refusedNotReady, 0, 0, 0)
        | some w => (.ok, n, k, w)

/-- A commit's payload is copied into its slot with a header under R343. -/
def State.commitCopy (s : State) (v : W32) (n k w : Nat) : Status × State :=
  let p := bits v 11 0
  let len := bits v 23 16
  match s.readContext p len with
  | none => (.refusedRange, s)
  | some bytes =>
    let seq := if len = 0 then (s.partner p).oseq else ((s.partner p).oseq + 1) % 256
    let c : Cargo := { pid := p, len := len, seq := seq, coded := bit v 12, bytes := bytes }
    let s1 := s.putSlot n k w (slotBytes c false (bit v 13) (slotCap s.reg n k))
    let o := s1.out n
    (.ok, s1.setOut n { o with fresh := if o.fresh.contains k then o.fresh else o.fresh ++ [k] })

/-- BRG_COMMIT: with the context present its payload is copied at once; otherwise it is read from DRAM in class 0 and the
commit holds until the copy ends (R352, R353). -/
def execBrgCommit (ag : Agent) (v : W32) (s : State) : Host.Outcome State Fault Refusal :=
  if !s.reaches ag 0x0A then .next (s.refuse ag A.brgCommit .refusedRights)
  else
    let s0 := s.drainAgent ag
    let c := s0.commitCheck v
    if c.1 ≠ .ok then .next (s0.status c.1)
    else if s0.present (bits v 11 0) || decide (bits v 23 16 = 0) then
      let r := s0.commitCopy v c.2.1 c.2.2.1 c.2.2.2
      .next (r.2.status r.1)
    else
      match s0.contextAt (bits v 11 0) with
      | none => .next (s0.status .refusedRange)
      | some (x, a) =>
        if s0.chInService x then
          let s1 := s0.dramEnter x 0x604#12 0 a (bits v 23 16) false false
          .next { s1 with brg := { s1.brg with commits := s1.brg.commits ++ [{ agent := ag, word := v }] } }
        else .next (s0.status .refusedRange)

/-- COMMIT_COPY_DONE: the copy of agent `ag`'s oldest waiting commit ends (R353). -/
def execCommitCopyDone (ag : Agent) (s : State) : Host.Outcome State Fault Refusal :=
  match s.brg.commits.find? (fun c => decide (c.agent = ag)) with
  | none => .next s
  | some c =>
    let s1 := { s with brg := { s.brg with commits := s.brg.commits.erase c } }
    let k := s1.commitCheck c.word
    if k.1 ≠ .ok then .next (s1.lateStatus ag k.1)
    else
      let r := s1.commitCopy c.word k.2.1 k.2.2.1 k.2.2.2
      .next (r.2.lateStatus ag r.1)

/-! ### Seals (R354, R355, R360) -/

/-- The cycle key, while the tag window is open and the cycle has its key (R359, R563, R565). -/
def State.cycleKey (s : State) : Option (BitVec 256) :=
  if bit (s.reg A.secNstat) 5 && bit (s.reg A.secKstat) 3 && decide (s.fld A.secKstat 2 0 = 4) &&
      decide (s.reg A.secKcycle = s.cycle) then some s.sec.key
  else none

/-- The first 8 bytes of the AES-256-CMAC of a byte string (R359). -/
def bargeTag (key : BitVec 256) (bs : List Byte) : List Byte := (beBytes 16 (Config.cmac key bs).toNat).take 8

/-- One slot at the seal: the state and whether the slot was late (R354). -/
def State.sealSlot (s : State) (n w k : Nat) : State × Bool :=
  let cap := slotCap s.reg n k
  let e := descFirst s.reg n + k
  let put := fun (t : State) (c : Option Cargo) =>
    ({ t with brg := { t.brg with cargo := SMap.set (fun _ => none) t.brg.cargo e c } } : State)
  match s.boundTo n k with
  | none =>
    let c : Cargo := { pid := 0, len := 0, seq := 0, coded := false, bytes := [] }
    (put (s.putSlot n k w (slotBytes c false false cap)) none, false)
  | some p =>
    let x := s.partner p
    if (s.out n).fresh.contains k then
      let a := kBasin + bufPtr w * 64 + descHdr s.reg n + slotOffset s.reg n k
      let len := s.readLE (a + 2) 1
      let seq := s.readLE (a + 3) 1
      let c : Cargo := { pid := p, len := len, seq := seq, coded := decide (s.readLE a 1 / 0x20 % 2 = 1),
                         bytes := s.readBytes (a + 4) len }
      (put (s.setPartner p { x with oseq := if len = 0 then x.oseq else seq }) (some c), false)
    else
      let old := SMap.get (fun _ => none) s.brg.cargo e
      let none' : Cargo := { pid := p, len := 0, seq := x.oseq, coded := false, bytes := [] }
      let c := match old with
        | some d => if d.pid = p then d else none'
        | none => none'
      (put (s.putSlot n k w (slotBytes c true false cap)) (some c), true)

/-- Every slot of a list at the seal: the state and the number of late slots. -/
def State.sealSlots (s : State) (n w : Nat) : List Nat → State × Nat
  | [] => (s, 0)
  | k :: rest =>
    let a := s.sealSlot n w k
    let b := a.1.sealSlots n w rest
    (b.1, b.2 + b2n a.2)

/-- Late slots are counted; the first of a cycle raises EV464 (R354, R355). -/
def State.noteLate (s : State) (n late : Nat) : State :=
  let s1 := (s.setFld (A.brgOstat n) 23 16 (min 255 late)).countBy 0xA0408 late
  if late = 0 then s1 else s1.raiseFirst 464

/-- The commits to descriptor `n` whose copy has not ended complete with DELAYED (R353). -/
def State.cutCommits (s : State) (n : Nat) : State :=
  let mine := s.brg.commits.filter (fun c => decide (((s.partner (bits c.word 11 0)).bind).map (·.1) = some n))
  mine.foldl (fun t c => State.lateStatus { t with brg := { t.brg with commits := t.brg.commits.erase c } } c.agent .delayed) s

/-- CYCLE, BSEQ and AUX are written and the tag appended (R354, R359, R360). -/
def State.finishBarge (s : State) (n w : Nat) : State :=
  let base := kBasin + bufPtr w * 64 + descHdr s.reg n
  let q := SMap.get (fun _ => 0) s.brg.bseq n
  let s1 := ((s.writeBytes (base + 4) (beBytes 4 s.cycle.toNat)).writeBytes (base + 8) (beBytes 2 q)).writeBytes
    (base + 12) (beBytes 4 (s.reg A.tbPeriod).toNat)
  let s2 := { s1 with brg := { s1.brg with bseq := SMap.set (fun _ => 0) s1.brg.bseq n ((q + 1) % 0x10000) } }
  if descTagged s.reg n then
    let m := descLength s.reg n - 8
    match s2.cycleKey with
    | some key => s2.writeBytes (base + m) (bargeTag key (s2.readBytes base m))
    | none =>
      (((s2.writeBytes (base + 1) [3#8]).writeBytes (base + m) (List.replicate 8 0#8)).count 0xA0410).raiseFirst 465
  else s2

/-- Descriptor `n` seals (R354, R355). A send for which no ticket is free frees the berth. -/
def State.sealBarge (s : State) (n : Nat) : State :=
  let o := s.out n
  if !o.live || o.sealed then s
  else
    let s0 := s.cutCommits n
    let count := descCount s.reg n
    let s1 := match s0.berthOf n with
      | none => (s0.noteLate n ((rangeFrom count 0).filter (fun k => (s0.boundTo n k).isSome)).length).raise 467
      | some w =>
        let r := s0.sealSlots n w (rangeFrom count 0)
        let s2 := (r.1.noteLate n r.2).finishBarge n w
        let q := SMap.get (fun _ => 0) s0.brg.bseq n
        let a := s2.sendFrom9 w (descFrame s.reg n) (s.fld (A.brgOcfg n) 15 8) (s.fld (A.brgOcfg n) 4 2) 0 0
        if a.1 = Status.ok then (a.2.count 0xA0400).setFld (A.brgOstat n) 15 0 q else a.2.freeBuf w
    (s1.setOut n { s1.out n with sealed := true, berth := none, want := false, fresh := [] }).checkFinish

/-- BARGE_SEAL: descriptor `n` seals at offset GATE − LEAD after its turn (R354). -/
def execBargeSeal (n : Fin 16) (s : State) : Host.Outcome State Fault Refusal :=
  if (s.out n).live && !(s.out n).sealed then
    .next ((s.advance (s.tb.cycStart.toNat + (s.fld (A.brgOgate n) 22 0 - s.fld A.brgCtrl 31 16))).sealBarge n)
  else .next s

/-! ### Inbound barges (section 12.4) -/

/-- Check status of a received CYCLIC_IN barge on port `p` (R357). -/
def State.inboundStatus (s : State) (p : Nat) (wire : List Byte) : Status :=
  let h := hdrOff wire
  let len := bargeLength wire
  let flags := byteAt wire (h + 1)
  let tagged := decide (flags % 2 = 1)
  let b := (wire.drop h).take len
  if byteAt wire h / 16 ≠ 1 ∨ wire.length - 4 < h + len ∨ len < 24 then .refusedRange
  else if beNat ((wire.drop (h + 4)).take 4) ≠ s.cycle.toNat then .timeout
  else if !tagged then (if bit (s.reg (A.brgIcfg p)) 1 then .refusedRights else .ok)
  else if flags / 2 % 2 = 1 then .refusedRights
  else
    match s.cycleKey with
    | none => .refusedNotReady
    | some key => if bargeTag key (b.take (len - 8)) = b.drop (len - 8) then .ok else .refusedRights

/-- The place in the frame of the barge's last 8 bytes: those before the FCS where LENGTH runs beyond the frame, the first
8 where it is below 8 (assumption 15). -/
def checkPlace (wire : List Byte) : Nat :=
  let h := hdrOff wire
  if wire.length - 4 < h + bargeLength wire then wire.length - 12 else h + (max 8 (bargeLength wire) - 8)

/-- The partner that frame `f` names in T2. -/
def State.framePartner (s : State) (f : Frame) : Option Nat :=
  match nth f.fr.lk 2 0 with
  | 1 => some (bits (nth f.fr.res 2 0#32) 11 0)
  | 3 => (s.tblFind 2 (keyPartner f.fr.port f.wire)).map (fun q => bits (s.placeRes 2 q) 11 0)
  | _ => none

/-- The frame was admitted in its port's receive window (R358). -/
def State.inWindow (s : State) (f : Frame) : Bool :=
  let p := f.fr.port
  let o := (f.fr.admitAt - s.tb.cycStart).toNat
  decide (s.fld (A.brgIopen p) 22 0 ≤ o) && decide (o < s.fld (A.brgIclose p) 22 0)

/-- INBOUND_CHECK: the check of the barge with ticket `k` ends: its status is written, its partner becomes present, and
FCS_DONE is set (R357, R358). -/
def execInboundCheck (k : Fin 1024) (s : State) : Host.Outcome State Fault Refusal :=
  match s.frame k with
  | none => .next s
  | some f =>
    if !f.checking then .next s
    else
      let st := s.inboundStatus f.fr.port f.wire
      let s1 := (s.bufWrite f.fr.buf.toNat (checkPlace f.wire) (leBytes 8 st.code)).count 0xA0418
      let s2 := if st = .ok then s1 else s1.count 0xA0420
      let s3 := if st = .refusedRights then s2.raiseFirst 472 else s2
      let s4 :=
        if s3.inWindow f then
          match s3.framePartner f with
          | some p => if st = .ok then s3.setPartner p { s3.partner p with present := true } else s3
          | none => s3
        else s3.raiseFirst 473
      .next (s4.setDone k false)

/-- A partner is evaluated at the close of port `p`'s window (R358, R365). -/
def State.evaluate (s : State) (p : Nat) : State :=
  let x := s.partner p
  if x.present then
    let s1 := s.setPartner p { x with loss := 0, st := 2 }
    if x.st = 1 then
      ((((s1.tblAdd (t2Cmd 1 x.key (t2Res p 2 x.cookie))).2).count 0xA0428).raise 468).partnerToken p 1
    else s1
  else
    let s1 := s.setPartner p { x with loss := min 255 (x.loss + 1) }
    if x.st = 2 ∧ s.fld A.brgCtrl 7 0 ≤ x.loss + 1 then (s1.releasePartner p 2).2
    else if x.st = 1 ∧ s.fld A.brgCtrl 15 8 ≤ (s.cycle - x.join).toNat ∧ (s.cycle - x.join).toNat < 0x80000000 then
      (s1.releasePartner p 4).2
    else s1

/-- The partners evaluated with port `p`: bound, EXPECT set, JOINING or ACTIVE (R358, R367). -/
def State.expected (s : State) (p : Nat) : List Nat :=
  SMap.keysWhere (fun _ x => decide (x.port = p) && x.expect && x.bind.isSome && (decide (x.st = 1) || decide (x.st = 2)))
    s.brg.dir

/-- The receive window of port `p` closes (R358). -/
def State.closeWindow (s : State) (p : Nat) : State :=
  if bit (s.reg (A.brgIcfg p)) 0 && !s.brg.closed.contains p then
    State.checkFinish ((s.expected p).foldl State.evaluate
      { s with brg := { s.brg with closed := s.brg.closed ++ [p] } })
  else s

/-- RECEIVE_WINDOW_CLOSE: port `p`'s window closes at offset ICLOSE after the turn (R358, R365). -/
def execReceiveWindowClose (p : Fin 8) (s : State) : Host.Outcome State Fault Refusal :=
  if s.tb.cycRun && bit (s.reg (A.brgIcfg p)) 0 && !s.brg.closed.contains p.val then
    .next ((s.advance (s.tb.cycStart.toNat + s.fld (A.brgIclose p) 22 0)).closeWindow p)
  else .next s

/-! ### Commands (Table 12-9) -/

/-- An agent's ARGn word. -/
def State.brgArg (s : State) (ag : Agent) (i : Nat) : W32 := s.reg (agKey ag (A.brgArg i))

/-- The result of a command (BRG_RESULT). -/
def State.brgDone (s : State) (ag : Agent) (st : Status) (id : Nat) : State :=
  (s.setReg (agKey ag A.brgResult) (w32 (id + st.code * 0x1000000))).answer st (BitVec.ofNat 64 id)

/-- A barge command of agent `ag`, within its reach. -/
def State.brgGive (s : State) (ag : Agent) (f : State → State) : Host.Outcome State Fault Refusal :=
  if s.reaches ag 0x0A then .next (f (s.drainAgent ag)) else .next (s.brgDone ag .refusedRights 0)

/-- The binding that ARG2 names. -/
def argBind (v : W32) : Option (Nat × Nat) := if bit v 24 then some (bits v 15 12, bits v 23 16) else none

/-- An ID for ADMIT: HINT if it is free, otherwise the top of the stack (Table 12-9). -/
def State.pickId (s : State) (hint : Nat) : Option Nat :=
  if s.brg.freeIds.contains hint then some hint else s.brg.freeIds.head?

/-- ADMIT after its checks: the ID leaves the stack, T2 gets the entry, and the binding is armed. -/
def State.admitAs (s : State) (ag : Agent) (p : Nat) (sa : List Byte) : State :=
  let a1 := s.brgArg ag 1
  let cookie := bits (s.brgArg ag 3) 13 0
  let port := bits a1 18 16
  let r := s.tblAdd (t2Cmd 1 (sa ++ leBytes 1 port) (t2Res p 1 cookie))
  let ids := r.2.brg.freeIds.erase p
  if r.1 = .ok then
    let x : Partner := { Partner.init with st := 1, port := port, sa := sa, cookie := cookie }
    let s1 := ({ r.2 with brg := { r.2.brg with freeIds := ids } }).setPartner p x
    let b := s1.armBind { pid := p, bind := argBind (s.brgArg ag 2), expect := bit a1 19, release := false }
    let join := s.cycle + (if b.1 = .delayed then 2#32 else 1#32)
    (b.2.setPartner p { b.2.partner p with join := join }).brgDone ag b.1 p
  else ({ r.2 with brg := { r.2.brg with freeIds := p :: ids } }).brgDone ag .refusedCapacity 0

/-- ADMIT (Table 12-9). -/
def State.brgAdmit (s : State) (ag : Agent) : State :=
  let a1 := s.brgArg ag 1
  let a2 := s.brgArg ag 2
  let sa := leBytes 4 (s.brgArg ag 0).toNat ++ leBytes 2 (bits a1 15 0)
  if bits a1 31 20 ≠ 0 ∨ bits a2 31 25 ≠ 0 ∨ bits (s.brgArg ag 3) 31 14 ≠ 0 then s.brgDone ag .refusedRange 0
  else
    match s.tblFind 2 (sa ++ leBytes 1 (bits a1 18 16)) with
    | some q => s.brgDone ag .refusedNotReady (bits (s.placeRes 2 q) 11 0)
    | none =>
      let taken := match argBind a2 with
        | some b => s.slotTaken b 0
        | none => false
      if taken then s.brgDone ag .refusedNotReady 0
      else
        match s.pickId (bits a2 11 0) with
        | none => (s.raise 471).brgDone ag .refusedCapacity 0
        | some p => s.admitAs ag p sa

/-- ADMIT: BRG_CMD with OP 1. -/
def execAdmit (ag : Agent) (s : State) : Host.Outcome State Fault Refusal := s.brgGive ag (fun t => t.brgAdmit ag)

/-- The frame of a WELCOME (Table 12-11). What the spec states no value for (BSEQ, LAYOUT, the inbound CAP granted) is
free. -/
def State.welcomeFrame (s : State) (p : Nat) (nonce free : W32) : List Byte :=
  let x := s.partner p
  let b := s.futureBind p
  let cap := match b with
    | some (n, k) => slotCap s.reg n k
    | none => 0
  let da := match b with
    | some (n, _) => descDa s.reg n
    | none => List.replicate 6 0#8
  let f := x.sa ++ deviceSa ++ beBytes 2 0x88B5 ++ [0x14#8, 0#8] ++ beBytes 2 40 ++ beBytes 4 s.cycle.toNat ++
    beBytes 2 (bits free 15 0) ++ leBytes 1 (bits free 23 16) ++ beBytes 1 0 ++ beBytes 4 0 ++
    beBytes 4 nonce.toNat ++ beBytes 2 p ++ beBytes 1 cap ++ beBytes 1 (bits free 31 24) ++ beBytes 4 x.join.toNat ++
    beBytes 4 (s.reg A.tbPeriod).toNat ++ da ++ beBytes 2 0
  f ++ List.replicate (60 - f.length) 0#8

/-- WELCOME (Table 12-9): the egress queue is not stated and is free. -/
def State.brgWelcome (s : State) (ag : Agent) : State :=
  let a0 := s.brgArg ag 0
  let p := bits a0 11 0
  if p = 0 ∨ bits a0 31 12 ≠ 0 then s.brgDone ag .refusedRange 0
  else if (s.partner p).st ≠ 1 ∧ (s.partner p).st ≠ 2 then s.brgDone ag .refusedNotReady 0
  else
    match s.entryOf 0x604 with
    | none => s.brgDone ag .refusedCapacity 0
    | some e =>
      let f1 := s.fresh
      let f2 := f1.2.fresh
      let b := f2.2.allocSize e 64 none
      if b.1 = .ok then
        let s1 := b.2.2.bufWrite b.2.1 0 (s.welcomeFrame p (s.brgArg ag 1) f1.1)
        let r := s1.sendFrom9 b.2.1 64 (2 ^ (s.partner p).port) (bits f2.1 2 0) 1 0
        if r.1 = .ok then r.2.brgDone ag .ok 0 else (r.2.freeBuf b.2.1).brgDone ag .refusedCapacity 0
      else b.2.2.brgDone ag .refusedCapacity 0

/-- WELCOME: BRG_CMD with OP 2. -/
def execWelcome (ag : Agent) (s : State) : Host.Outcome State Fault Refusal := s.brgGive ag (fun t => t.brgWelcome ag)

/-- RELEASE (Table 12-9). -/
def State.brgRelease (s : State) (ag : Agent) : State :=
  let a0 := s.brgArg ag 0
  let p := bits a0 11 0
  let reason := bits a0 19 16
  if p = 0 ∨ bits a0 15 12 ≠ 0 ∨ bits a0 31 20 ≠ 0 ∨ (reason ≠ 3 ∧ reason ≠ 5) then s.brgDone ag .refusedRange 0
  else if (s.partner p).st ≠ 1 ∧ (s.partner p).st ≠ 2 then s.brgDone ag .refusedNotReady 0
  else
    let r := s.releasePartner p reason
    r.2.brgDone ag r.1 0

/-- RELEASE: BRG_CMD with OP 3. -/
def execRelease (ag : Agent) (s : State) : Host.Outcome State Fault Refusal := s.brgGive ag (fun t => t.brgRelease ag)

/-- BIND (Table 12-9). -/
def State.brgBind (s : State) (ag : Agent) : State :=
  let a0 := s.brgArg ag 0
  let a1 := s.brgArg ag 1
  let a2 := s.brgArg ag 2
  let p := bits a0 11 0
  if p = 0 ∨ bits a0 31 12 ≠ 0 ∨ bits a1 31 20 ≠ 0 ∨ bits a1 18 0 ≠ 0 ∨ bits a2 31 25 ≠ 0 then
    s.brgDone ag .refusedRange 0
  else if (s.partner p).st ≠ 1 ∧ (s.partner p).st ≠ 2 then s.brgDone ag .refusedNotReady 0
  else
    let taken := match argBind a2 with
      | some b => s.slotTaken b p
      | none => false
    if taken then s.brgDone ag .refusedNotReady 0
    else
      let r := s.armBind { pid := p, bind := argBind a2, expect := bit a1 19, release := false }
      r.2.brgDone ag r.1 0

/-- BIND: BRG_CMD with OP 4. -/
def execBind (ag : Agent) (s : State) : Host.Outcome State Fault Refusal := s.brgGive ag (fun t => t.brgBind ag)

/-- READ (Table 12-9): BRG_DIR0 and BRG_DIR1 hold the entry. -/
def State.brgRead (s : State) (ag : Agent) : State :=
  let a0 := s.brgArg ag 0
  let p := bits a0 11 0
  if p = 0 ∨ bits a0 31 12 ≠ 0 then s.brgDone ag .refusedRange 0
  else
    let x := s.partner p
    let b := x.bind.getD (0, 0)
    let d0 := w32 (p + x.st * 0x1000 + x.port * 0x4000 + b2n x.expect * 0x20000 + b.1 * 0x40000 +
      b2n x.bind.isSome * 0x400000)
    let d1 := w32 (b.2 + x.oseq * 0x100 + x.loss * 0x10000)
    ((s.setReg (agKey ag A.brgDir0) d0).setReg (agKey ag A.brgDir1) d1).brgDone ag .ok 0

/-- PARTNER_READ: BRG_CMD with OP 5. -/
def execPartnerRead (ag : Agent) (s : State) : Host.Outcome State Fault Refusal := s.brgGive ag (fun t => t.brgRead ag)

/-! ### The turn (R350, R351, R356, R361) -/

/-- Slot-table entries of enabled descriptor `n`, from a view of the registers. -/
def descSlots (r : Nat → W32) (n : Nat) : List Nat := rangeFrom (descCount r n) (descFirst r n)

/-- What makes descriptor `n` invalid in a group 13 shadow, for the period that takes effect (R350). -/
def State.descBad (s : State) (r : Nat → W32) (period n : Nat) : Bool :=
  let eg := bits (r (A.brgOcfg n)) 15 8
  let caps := (rangeFrom (descCount r n) 0).map (slotCap r n)
  let gate := bits (r (A.brgOgate n)) 22 0
  decide (eg = 0) ||
    (rangeFrom 8 0).any (fun p => decide ((eg >>> p) % 2 = 1) &&
      (decide ((s.portCfg p).mode = 0) || decide ((s.portCfg p).maxFrame < descFrame r n))) ||
    decide (1024 < descFirst r n + descCount r n) ||
    caps.any (fun c => decide (c = 0 ∨ c % 4 ≠ 0 ∨ 252 < c)) ||
    decide (s.shp.memory.berthSize < descFrame r n) ||
    decide (gate < s.fld A.brgCtrl 31 16) || decide (period ≤ gate)

/-- A group 13 shadow is invalid (R350). -/
def State.layoutBad (s : State) (r : Nat → W32) (period : Nat) : Bool :=
  let on := (rangeFrom 16 0).filter (descOn r)
  on.any (s.descBad r period) ||
    on.any (fun n => on.any (fun m => decide (n < m) &&
      (descSlots r n).any (fun e => (descSlots r m).contains e))) ||
    decide (65536 < sumNat (on.map (fun n => sumNat ((rangeFrom (descCount r n) 0).map (fun k => 4 + slotCap r n k)))))

/-- At the fence each descriptor that will be enabled takes a berth (R351). `r` shows the registers after the turn. -/
def State.fenceBerths (s : State) (r : Nat → W32) : State :=
  (rangeFrom 16 0).foldl (fun t n => if descOn r n then
      let o := t.out n
      let t1 := t.setOut n { o with wantNext := true }
      match t1.entryOf 0x604 with
      | some e =>
        let b := t1.allocBerth e false
        if b.1 = .ok then b.2.2.setOut n { b.2.2.out n with next := some b.2.1 } else b.2.2
      | none => t1
    else t) s

/-- A slot-table entry whose CAP changes loses its cargo-memory content (R356). -/
def State.dropCargo (s : State) : State :=
  { s with brg := { s.brg with cargo := s.brg.cargo.filter (fun c =>
      decide (bits (s.shadowOf (A.brgOslot c.1)) 7 0 = s.fld (A.brgOslot c.1) 7 0)) } }

/-- Before the turn every barge of the ending cycle has sealed, and every window has closed (R354, R358). -/
def State.endBarges (s : State) : State :=
  let s1 := (rangeFrom 16 0).foldl State.sealBarge s
  if s1.tb.cycRun then (rangeFrom 8 0).foldl State.closeWindow s1 else s1

/-- Descriptor `n` begins its cycle: its berth gets the frame, or is freed when it is not enabled (R351). -/
def State.startBarge (s : State) (n : Nat) : State :=
  let o := s.out n
  let on := descOn s.reg n
  let s1 := s.setOut n { OutBarge.init with berth := if on then o.next else none, want := on, live := on }
  match o.next with
  | some w =>
    if on then (s1.setReg (A.brgObuf n) (w32 w)).writeBytes (kBasin + bufPtr w * 64) (bargeFrame s.reg n)
    else (s1.setReg (A.brgObuf n) (w32 endWord)).freeBuf w
  | none => s1.setReg (A.brgObuf n) (w32 endWord)

/-- The barges of the new cycle, after the swap. -/
def State.startBarges (s : State) : State :=
  let here := SMap.keysWhere (fun _ (x : Partner) => x.present) s.brg.dir
  let s1 := here.foldl (fun t p => t.setPartner p { t.partner p with present := false }) s
  (rangeFrom 16 0).foldl State.startBarge { s1 with brg := { s1.brg with closed := [] } }

/-- IDs that return at a turn are pushed highest first (R361). -/
def State.pushIds (s : State) (ids : List Nat) : State :=
  let low := (rangeFrom 4095 1).filter (fun i => ids.contains i && !s.brg.freeIds.contains i)
  { s with brg := { s.brg with freeIds := low ++ s.brg.freeIds } }

end Sys2Proof.Machine
end

