-- ==== Sys2Proof/Machine/BasinCmd.lean ====
section
/-! DEFINITION. The basin's commands (section 10.3): each performs the agent's earlier stores first (R298) and answers in
the agent's result registers. -/

namespace Sys2Proof.Machine

/-- A basin command of agent `ag`: within its reach, after its stores. -/
def State.basin (s : State) (ag : Agent) (f : State → State) : Host.Outcome State Fault Refusal :=
  if s.regOff A.bsnCmd then .next (s.refuse ag A.bsnCmd .refusedNotReady)
  else if s.reaches ag 0x08 || isHardware ag then .next (f (s.drainAgent ag)) else .next (s.refuse ag A.bsnCmd .refusedRights)

/-- ALLOC of `size` bytes (R293). -/
def execAlloc (ag : Agent) (size : BitVec 14) (s : State) : Host.Outcome State Fault Refusal :=
  s.basin ag (fun t => t.bsnAlloc ag size.toNat)

/-- ALLOCP from a pool (R293). -/
def execAllocp (ag : Agent) (pool : BitVec 3) (s : State) : Host.Outcome State Fault Refusal :=
  s.basin ag (fun t => t.bsnAllocP ag pool.toNat)

/-- ALLOCC: a chain of `count` cells (R294). -/
def execAllocc (ag : Agent) (count : BitVec 9) (s : State) : Host.Outcome State Fault Refusal :=
  s.basin ag (fun t => t.bsnAllocC ag count.toNat)

/-- ALLOCB: a berth (R304). -/
def execAllocb (ag : Agent) (s : State) : Host.Outcome State Fault Refusal := s.basin ag (fun t => t.bsnAllocB ag)

/-- FREE (R295). -/
def execFree (ag : Agent) (buf : BitVec 23) (s : State) : Host.Outcome State Fault Refusal :=
  s.basin ag (fun t => t.bsnFree ag buf.toNat)

/-- CHAIN_CELL_RETURN: the next cell of a freed chain goes onto its stack (R299). -/
def execChainCellReturn (s : State) : Host.Outcome State Fault Refusal :=
  match s.bsn.returning with
  | [] => .next s
  | p :: rest =>
    .next ((State.pushElem { s with bsn := { s.bsn with returning := rest } } 6 p).setLink p endLink)

/-- XFER to the owner that BSN_ARG names (R296). -/
def execXfer (ag : Agent) (buf : BitVec 23) (s : State) : Host.Outcome State Fault Refusal :=
  s.basin ag (fun t => t.bsnXfer ag buf.toNat)

/-- CHAIN (R297). -/
def execChain (ag : Agent) (tail : BitVec 23) (s : State) : Host.Outcome State Fault Refusal :=
  s.basin ag (fun t => t.bsnChain ag tail.toNat)

/-- SPLIT (R297). -/
def execSplit (ag : Agent) (cell : BitVec 23) (s : State) : Host.Outcome State Fault Refusal :=
  s.basin ag (fun t => t.bsnSplit ag cell.toNat)

/-- NEXT (R297). -/
def execNext (ag : Agent) (cell : BitVec 23) (s : State) : Host.Outcome State Fault Refusal :=
  s.basin ag (fun t => t.bsnNext ag cell.toNat)

/-- SPILL (R305, R306). -/
def execSpill (ag : Agent) (buf : BitVec 23) (s : State) : Host.Outcome State Fault Refusal :=
  s.basin ag (fun t => t.bsnSpill ag buf.toNat)

/-- SPILL_COPY_DONE: the copy into spill slot `k` ends (R306). -/
def execSpillCopyDone (k : Nat) (s : State) : Host.Outcome State Fault Refusal :=
  match s.bsn.spills.find? (fun x => decide (x.2 = k)) with
  | none => .next s
  | some x => .next (s.spillDone x.1 k)

/-- FILL of a spill handle (R307). -/
def execFill (ag : Agent) (handle : BitVec 19) (s : State) : Host.Outcome State Fault Refusal :=
  s.basin ag (fun t => t.bsnFill ag handle.toNat)

/-- FILL_COPY_DONE: the copy out of spill slot `k` ends; it waits for a spill copy into the same slot (R307, R308). -/
def execFillCopyDone (k : Nat) (s : State) : Host.Outcome State Fault Refusal :=
  match s.bsn.fills.find? (fun f => decide (f.slot = k)) with
  | none => .next s
  | some f => if s.bsn.spills.any (fun x => decide (x.2 = k)) then .next s else .next (s.fillDone f)

/-- FILL_TOKEN_RETRY: refused completion tokens are posted again and counted; the first retry of one raises EV414
(R308). -/
def execFillTokenRetry (s : State) : Host.Outcome State Fault Refusal :=
  let p := repostAll s.bsn.retry (s.countBy 0x80170 s.bsn.retry.length)
  let s1 := { p.2.2 with bsn := { p.2.2.bsn with retry := p.2.1 } }
  .next (if p.1 then s1.raise 414 else s1)

/-- RECLAIM of an owner index (R309). -/
def execReclaim (ag : Agent) (idx : BitVec 6) (s : State) : Host.Outcome State Fault Refusal :=
  s.basin ag (fun t => t.bsnReclaim ag idx.toNat)

end Sys2Proof.Machine
end

