-- ==== Sys2Proof/Machine/Sec.lean ====
section
/-! DEFINITION. The secure world (chapter 20): the key register and its operations, the tag window, the secure hold, the
root secret and tamper, random words, the secure watchdog and warden reset, and the mailbox. -/

namespace Sys2Proof.Machine

/-- Warden slot `k`. -/
def wslot (k : Fin 4) : SlotId := ⟨512 + k.val, by have := k.isLt; omega⟩

/-- The number that the 8 words of an array of registers make, and back: bytes in register order, first byte most
significant (R5). -/
def bytes256 (v : BitVec 256) : List Byte := beBytes 32 v.toNat

/-- 32 bytes as a number, first byte most significant. -/
def word256 (bs : List Byte) : BitVec 256 := BitVec.ofNat 256 (beNat bs)

/-! ### The battery domain and the key register -/

/-- The root secret set with its CRC-32C (R567). -/
def State.setRoot (s : State) (v : BitVec 256) : State :=
  { s with sec := { s.sec with root := v, rootCrc := crc32c (bytes256 v) } }

/-- The root secret zeroed: SEC_TAMPCFG is unlocked with it (R570, R572), and EV727 is raised. -/
def State.zeroRoot (s : State) : State :=
  ((s.setRoot 0#256).setFld A.secTampcfg 31 31 0).raise 727

/-- The device is keyless (R568). -/
def State.keyless (s : State) : Bool := decide (s.sec.root = 0#256)

/-- The check of the root's CRC: a mismatch zeroes the root (R567). -/
def State.checkRoot (s : State) : State :=
  if s.sec.rootCrc = crc32c (bytes256 s.sec.root) then s else s.zeroRoot

/-- KIND of the key register: 0 NONE, 1 ROOT, 2 DERIVED, 3 MEM, 4 CYCLE. -/
def State.keyKind (s : State) : Nat := s.fld A.secKstat 2 0

/-- The key register with KEY and KIND. -/
def State.setKey (s : State) (v : BitVec 256) (kind : Nat) : State :=
  State.setFld { s with sec := { s.sec with key := v } } A.secKstat 2 0 kind

/-- SEC_NSTAT as it reads (section 20.7): WARDEN and AUTH are kept, the others follow their sources. -/
def State.nstatWord (s : State) : W32 :=
  w32 (b2n s.keyless + 2 * b2n (decide (s.reg A.secTamprec ≠ 0#32)) + 4 * s.fld A.secRngstat 1 0 +
    s.fld A.secNstat 5 4 * 0x10)

/-- SEC_RNGSTAT as it reads: QUEUE is the length of the queue. -/
def State.rngstatWord (s : State) : W32 := setBits (s.reg A.secRngstat) 14 8 s.sec.queue.length

/-! ### Random words (section 20.5) -/

/-- STATE of the entropy source: 0 starting, 1 running, 2 restarting, 3 FAILED. -/
def State.rngState (s : State) : Nat := s.fld A.secRngstat 1 0

/-- One word of the DRBG; every 65 536 words it reseeds itself (R574). -/
def State.drawWord (s : State) : W32 × State :=
  let s1 := { s with sec := { s.sec with drawn := s.sec.drawn + 1 } }
  ((Config.drbg s.sec.drawn).setWidth 32, if s1.sec.drawn % 65536 = 0 then s1.raise 722 else s1)

/-- `n` words of the DRBG. -/
def State.drawWords (s : State) : Nat → List W32 × State
  | 0 => ([], s)
  | n + 1 =>
    let a := s.drawWord
    let b := a.2.drawWords n
    (a.1 :: b.1, b.2)

/-- A number of 32 bits for each word, the first word most significant. -/
def wordsNat (l : List W32) : Nat := l.foldl (fun acc w => acc * 0x100000000 + w.toNat) 0

/-- The status of a new random request: HEALTH_FAIL once FAILED is latched (R578), REFUSED_CAPACITY when the queue is full
(R575). -/
def State.rngStatus (s : State) : Status :=
  if s.rngState = 3 then .healthFail else if 64 ≤ s.sec.queue.length then .refusedCapacity else .ok

/-- A random request joins the queue (R575). -/
def State.rngJoin (s : State) (r : RngReq) : State := { s with sec := { s.sec with queue := s.sec.queue ++ [r] } }

/-- An OUT to RNG_REQ of slot `w` (R575, R576). -/
def State.rngReq (s : State) (w : SlotId) (v : W32) : Status × State :=
  let t := tagFor (slotWarden w) (bits v 15 0)
  if s.rngState = 3 then (.healthFail, s)
  else if !isPostable t then (.refusedRange, s)
  else if s.rngStatus ≠ .ok then (s.rngStatus, s)
  else
    let r : RngReq := { kind := 0, agent := slotAgent w, tag := t, words := 1,
                        deadline := s.time + bits (s.slot w).rngTmo 15 0 * 1000, sign := none }
    (.ok, s.rngJoin r)

/-- RNG_REQ: an OUT to RNG_REQ (R575). -/
def execRngReq (w : SlotId) (v : W32) (s : State) : Host.Outcome State Fault Refusal :=
  .next (State.slotAnswer w (s.rngReq w v))

/-! ### The mailbox (section 20.7) -/

/-- A request is pending in the mailbox. -/
def State.mboxBusy (s : State) : Bool := bit (s.reg A.secMstat) 8

/-- A write of SEC_MCMD is taken: SEQ is echoed, BUSY set, the request words are copied (R582). -/
def State.mboxTake (s : State) (seq : Nat) : State :=
  let s1 := s.setReg A.secMstat (setBits (setBits (s.reg A.secMstat) 31 16 seq) 9 8 1)
  let s2 := (rangeFrom 8 0).foldl (fun t i => t.setReg (A.secMin i) (t.reg (A.secMreq i))) s1
  { s2 with sec := { s2.sec with mboxEnd := s2.time + 100000000 } }

/-- The pending request completes with a status (R582). -/
def State.mboxEnds (s : State) (st : Status) : State :=
  (s.setReg A.secMstat (setBits (setBits (s.reg A.secMstat) 9 8 2) 7 0 st.code)).status st

/-- Response words from SEC_MRSP0 on. -/
def State.mboxWords (s : State) (l : List W32) : State :=
  ((rangeFrom l.length 0).zip l).foldl (fun t (p : Nat × W32) => t.setReg (A.secMrsp p.1) p.2) s

/-- A mailbox command of agent `ag`: slot 0x13 is for the manager and warden slots, and a write while BUSY is dropped and
logged (R582). -/
def State.mailbox (s : State) (ag : Agent) (seq : BitVec 16) (f : State → State) : Host.Outcome State Fault Refusal :=
  if !isBoss ag then .next (s.refuse ag A.secMcmd .refusedRights)
  else if s.mboxBusy then .next (s.refuse ag A.secMcmd .refusedNotReady)
  else .next (f (s.mboxTake seq.toNat))

/-- WARDEN_STATUS: mailbox STATUS, answered by hardware (Table 20-8). -/
def execWardenStatus (ag : Agent) (seq : BitVec 16) (s : State) : Host.Outcome State Fault Refusal :=
  s.mailbox ag seq (fun t => (t.mboxWords [t.nstatWord, w32 (t.fld A.secRngstat 3 2)]).mboxEnds .ok)

/-- RANDOM: mailbox RANDOM, one queue entry with a timeout of 1 ms (Table 20-8). -/
def execRandom (ag : Agent) (seq : BitVec 16) (s : State) : Host.Outcome State Fault Refusal :=
  s.mailbox ag seq (fun t =>
    let n := t.fld (A.secMreq 0) 3 0
    if n = 0 ∨ 8 < n then t.mboxEnds .refusedRange
    else if t.rngStatus ≠ .ok then t.mboxEnds t.rngStatus
    else
      let r : RngReq := { kind := 1, agent := ag, tag := 0, words := n, deadline := t.time + 1000000, sign := none }
      (t.rngJoin r).status .ok)

/-- MAILBOX_FORWARD: a command that hardware does not serve. OP 0x80 to 0xFF goes to the warden's tag and raises EV731; any
other that no table lists completes with REFUSED_RANGE (R582). -/
def execMailboxForward (ag : Agent) (op : BitVec 8) (seq : BitVec 16) (s : State) : Host.Outcome State Fault Refusal :=
  s.mailbox ag seq (fun t =>
    if op.toNat < 0x80 then t.mboxEnds .refusedRange
    else
      let g := t.fld A.secMtag 7 0
      let t1 := if g = 0 then t else (t.post (0x10000 + g) (w32 op.toNat) .ok).2
      (t1.raise 731).status .ok)

/-- The pending mailbox request is one that hardware serves from the random queue. -/
def State.mboxRandom (s : State) : Bool := s.sec.queue.any (fun r => decide (r.kind = 1))

/-- A pending mailbox request ends early with a status; its random request leaves the queue, and a signed request that it
brought is not performed (R581, R583). -/
def State.mboxCancel (s : State) (st : Status) : State :=
  if s.mboxBusy then
    State.mboxEnds { s with sec := { s.sec with queue := s.sec.queue.filter (fun r => decide (r.kind ≠ 1)) },
                            lcs := { s.lcs with accepted := s.lcs.accepted.filter (·.tap) } } st
  else s

/-- MAILBOX_DONE: warden slot `k` writes SEC_MDONE; without a request that the warden serves it is ignored (R582, R583). -/
def execMailboxDone (k : Fin 4) (v : W32) (s : State) : Host.Outcome State Fault Refusal :=
  let s1 := s.setOstat (wslot k) .ok
  if s1.mboxBusy && !s1.mboxRandom then
    let s2 := s1.mboxWords ((rangeFrom 8 0).map (fun i => s1.reg (A.secMout i)))
    .next ((s2.setReg A.secMstat (setBits (setBits (s2.reg A.secMstat) 9 8 2) 7 0 (bits v 7 0))).status .ok)
  else .next (s1.status .ok)

/-- MAILBOX_TIMEOUT: a request not completed within 100 ms (R583). -/
def execMailboxTimeout (s : State) : Host.Outcome State Fault Refusal :=
  if s.mboxBusy then .next ((s.advance s.sec.mboxEnd).mboxCancel .timeout) else .next s

/-! ### Ends of random requests -/

/-- The status of a held operation of an agent lands with its hold, or at once in OSTAT. -/
def State.opStatus (s : State) (ag : Agent) (st : Status) : State :=
  match agentSlot ag with
  | some w =>
    if (s.slot w).held.isSome then s.lateStatus ag st
    else if h : w < 516 then (s.setOstat ⟨w, h⟩ st).status st else s.status st
  | none => s.status st

/-- A random request ends without words (R576, R578). -/
def State.rngFails (s : State) (r : RngReq) (st : Status) : State :=
  match r.kind with
  | 0 => (s.post r.tag 0#32 st).2
  | 1 => s.mboxEnds st
  | 2 => (s.setFld A.secRootctl 31 24 st.code).opStatus r.agent st
  | _ => s.opStatus r.agent st

/-- RANDOM_TIMEOUT: request `k` of the queue is not served within its timeout (R576). -/
def execRandomTimeout (k : Fin 64) (s : State) : Host.Outcome State Fault Refusal :=
  match s.sec.queue[k.val]? with
  | none => .next s
  | some r =>
    let s1 := s.advance r.deadline
    let s2 := { s1 with sec := { s1.sec with queue := s1.sec.queue.eraseIdx k.val } }
    .next ((s2.rngFails r .noEntropy).raise 723)

/-- ENTROPY_STARTUP_COMPLETE: the start-up test and the seeding end, and output resumes (R574, R577). -/
def execEntropyStartupComplete (s : State) : Host.Outcome State Fault Refusal :=
  match s.rngState with
  | 0 => .next (s.setFld A.secRngstat 1 0 1)
  | 2 => .next ((s.setFld A.secRngstat 1 0 1).raise 722)
  | _ => .next s

/-- ENTROPY_FAILURE: a sample reaches a cutoff. Output stops; the third consecutive failure latches FAILED, and every queued
request completes with HEALTH_FAIL (R577, R578). -/
def execEntropyFailure (s : State) : Host.Outcome State Fault Refusal :=
  if s.rngState = 3 then .next s
  else
    let n := s.fld A.secRngstat 3 2 + 1
    let st := if 3 ≤ n then 3 else if s.rngState = 0 then 0 else 2
    let s1 := ((s.setFld A.secRngstat 3 2 n).setFld A.secRngstat 1 0 st).raise 720
    if 3 ≤ n then
      let q := s1.sec.queue
      .next ((q.foldl (fun (t : State) r => t.rngFails r .healthFail) { s1 with sec := { s1.sec with queue := [] } }).raise 721)
    else .next s1

/-- ENTROPY_FAILURE_COUNT_RESET: 65 536 samples have passed after a successful start-up test (R578). -/
def execEntropyFailureCountReset (s : State) : Host.Outcome State Fault Refusal :=
  if s.rngState = 1 then .next (s.setFld A.secRngstat 3 2 0) else .next s

/-! ### The operations of SEC_KOP (R559 to R561, Table 20-4) -/

/-- The memory key of `n` bytes that a parameter block may name: wholly in warden D-RAM or in the secure partition (R559). -/
def State.opKey (s : State) (a n : Nat) : Option Nat :=
  let b := 0x10000000 + s.shp.secure.ssBase
  if a + n ≤ 0x4000 then some (kDram 64 + a)
  else if b ≤ a ∧ a + n ≤ b + s.shp.secure.ssLen then some (kShared + (a - 0x10000000))
  else none

/-- Bytes stored where an operation's result goes; the watch slots see a change of shared SRAM. -/
def State.opStore (s : State) (k : Nat) (bs : List Byte) : State :=
  if kShared ≤ k then s.sramWrite (k - kShared) bs else s.writeBytes k bs

/-- SP 800-108 in counter mode under AES-256-CMAC, as R561 states it. -/
def kdf (key : BitVec 256) (label context : List Byte) : BitVec 256 :=
  let prf := fun (i : Nat) => Config.cmac key (leBytes 1 i ++ label ++ [0#8] ++ context ++ [1#8, 0#8])
  prf 1 ++ prf 2

/-- AES-256-ECB of whole blocks. -/
def ecbBlocks (f : BitVec 128 → BitVec 128) : Nat → List Byte → List Byte
  | 0, _ => []
  | n + 1, bs => beBytes 16 (f (BitVec.ofNat 128 (beNat (bs.take 16)))).toNat ++ ecbBlocks f n (bs.drop 16)

/-- AES-256-CTR from an initial counter block, 128-bit big-endian increment. -/
def ctrBlocks (key : BitVec 256) : Nat → BitVec 128 → List Byte → List Byte
  | 0, _, _ => []
  | n + 1, iv, bs =>
    (bs.take 16).zipWith (· ^^^ ·) (beBytes 16 (Config.aesEnc key iv).toNat) ++ ctrBlocks key n (iv + 1#128) (bs.drop 16)

/-- AES-256-CTR of a byte string. -/
def aesCtr (key : BitVec 256) (iv : BitVec 128) (bs : List Byte) : List Byte := ctrBlocks key (bs.length / 16 + 1) iv bs

/-- The label "CYCL". -/
def labelCycl : List Byte := [0x43#8, 0x59#8, 0x43#8, 0x4C#8]
/-- The label "SHPK". -/
def labelShpk : List Byte := [0x53#8, 0x48#8, 0x50#8, 0x4B#8]

/-- The parameter block at a D-RAM byte address (Table 20-3). -/
structure KeyBlock where
  label : List Byte
  context : List Byte
  src : Nat
  dst : Nat
  len : Nat
  iv : BitVec 128
  deriving DecidableEq, Repr

/-- The parameter block that SEC_KOP.BLOCK names, if it lies in warden D-RAM. -/
def State.keyBlock (s : State) (blk : Nat) : Option KeyBlock :=
  let a := blk * 4
  if 0x4000 < a + 0x30 then none
  else
    let k := kDram 64 + a
    some { label := s.readBytes k 4, context := s.readBytes (k + 4) 16, src := s.readLE (k + 0x14) 4,
           dst := s.readLE (k + 0x18) 4, len := s.readLE (k + 0x1C) 4, iv := BitVec.ofNat 128 (beNat (s.readBytes (k + 0x20) 16)) }

/-- The KINDs with which an operation may use the key register (Table 20-4). -/
def opKind (op kind : Nat) : Bool :=
  match op with
  | 3 => decide (kind ≠ 0)
  | 4 => decide (kind = 3 ∨ kind = 4)
  | 5 => decide (1 ≤ kind ∧ kind ≤ 3)
  | 6 | 7 | 8 | 10 | 11 => decide (kind = 2 ∨ kind = 3)
  | 9 => decide (2 ≤ kind ∧ kind ≤ 4)
  | _ => true

/-- The operations that take LENGTH. -/
def opLength (op : Nat) : Bool := decide (6 ≤ op ∧ op ≤ 9) || decide (op = 13 ∨ op = 14)

/-- Bytes that an operation reads at SRC. -/
def opSrc (op len : Nat) : Nat :=
  match op with
  | 2 | 5 | 10 => 32
  | 15 => 160
  | _ => if opLength op then len else 0

/-- Bytes that an operation writes at DST. -/
def opDst (op len : Nat) : Nat :=
  match op with
  | 4 | 13 => 32
  | 6 | 7 | 8 => len
  | 9 => 16
  | 10 | 11 => 64
  | 14 => 48
  | _ => 0

/-- Inside the tag window the cycle key cannot be used (R564). -/
def State.keyLocked (s : State) : Bool := s.cycleKey.isSome

/-- What refuses operation `op` before it begins (R559, R564, and a zero length before rights and range, section 1.5). -/
def State.opStatus0 (s : State) (op : Nat) (b : KeyBlock) : Status :=
  if opLength op && decide (b.len = 0) then .zeroLength
  else if !opKind op s.keyKind then .refusedRights
  else if opLength op && decide (65536 < b.len) then .refusedRange
  else if (decide (op = 6) || decide (op = 7)) && decide (b.len % 16 ≠ 0) then .refusedRange
  else if 0 < opSrc op b.len && (s.opKey b.src (opSrc op b.len)).isNone then .refusedRange
  else if 0 < opDst op b.len && (s.opKey b.dst (opDst op b.len)).isNone then .refusedRange
  else if (decide (op = 10) || decide (op = 11)) &&
      (decide (s.sec.key.toNat = 0) || decide (Config.p256Order ≤ s.sec.key.toNat)) then .refusedRange
  else .ok

/-- The bytes at SRC of an operation. -/
def State.opInput (s : State) (op : Nat) (b : KeyBlock) : List Byte :=
  match s.opKey b.src (opSrc op b.len) with
  | some k => s.readBytes k (opSrc op b.len)
  | none => []

/-- The result of an operation stored at DST. -/
def State.opOutput (s : State) (op : Nat) (b : KeyBlock) (bs : List Byte) : State :=
  match s.opKey b.dst (opDst op b.len) with
  | some k => s.opStore k bs
  | none => s

/-- KIND after KDF or UNWRAP (R560). -/
def kindAfter (kind : Nat) : Nat := if kind = 1 ∨ kind = 2 then 2 else 3

/-- LOAD_ROOT (R567, R568). -/
def State.opLoadRoot (s : State) : Status × State :=
  let s1 := s.checkRoot
  if s1.keyless then (.refusedNotReady, s1) else (.ok, s1.setKey s1.sec.root 1)

/-- KDF into the register (R560, R561). -/
def State.opKdf (s : State) (b : KeyBlock) : Status × State :=
  let k := kdf s.sec.key b.label b.context
  if b.label = labelCycl then (.ok, (s.setKey k 4).setReg A.secKcycle (w32 (beNat (b.context.take 4))))
  else (.ok, s.setKey k (kindAfter s.keyKind))

/-- SIGN waits for its nonce in the random queue (R559, R575); its slot holds. -/
def State.opSign (s : State) (k : Fin 4) (b : KeyBlock) : Option Status × State :=
  if s.rngStatus ≠ .ok then (some s.rngStatus, s)
  else
    let r : RngReq := { kind := 3, agent := slotAgent (wslot k), tag := 0, words := 8,
                        deadline := s.time + bits (s.slot (wslot k)).rngTmo 15 0 * 1000,
                        sign := some { d := s.sec.key, digest := word256 (s.opInput 10 b), dst := b.dst } }
    (none, s.rngJoin r)

/-- What an operation that nothing refuses does (Table 20-4); no status while SIGN waits. -/
def State.opAct (s : State) (k : Fin 4) (op : Nat) (b : KeyBlock) : Option Status × State :=
  let bs := s.opInput op b
  let key := s.sec.key
  let ok := fun (t : State) => ((some .ok, t) : Option Status × State)
  match op with
  | 1 => (some s.opLoadRoot.1, s.opLoadRoot.2)
  | 2 => ok (s.setKey (word256 bs) 3)
  | 3 => (some (s.opKdf b).1, (s.opKdf b).2)
  | 4 => ok (s.opOutput op b (bytes256 (kdf key b.label b.context)))
  | 5 => ok (s.setKey (word256 (ecbBlocks (Config.aesDec key) 2 bs)) (kindAfter s.keyKind))
  | 6 => ok (s.opOutput op b (ecbBlocks (Config.aesEnc key) (b.len / 16) bs))
  | 7 => ok (s.opOutput op b (ecbBlocks (Config.aesDec key) (b.len / 16) bs))
  | 8 => ok (s.opOutput op b (aesCtr key b.iv bs))
  | 9 => ok (s.opOutput op b (beBytes 16 (Config.cmac key bs).toNat))
  | 10 => s.opSign k b
  | 11 => ok (s.opOutput op b (beBytes 64 (Config.ecdsaPub key).toNat))
  | 12 => ok (s.setKey 0#256 0)
  | 13 => ok (s.opOutput op b (beBytes 32 (Config.sha256 bs).toNat))
  | 14 => ok (s.opOutput op b (beBytes 48 (Config.sha384 bs).toNat))
  | 15 =>
    let v := Config.ecdsaVerify (word256 (bs.take 32)) (BitVec.ofNat 512 (beNat ((bs.drop 32).take 64)))
      (BitVec.ofNat 512 (beNat ((bs.drop 96).take 64)))
    (some (if v then .ok else .refusedRights), s)
  | _ => (some .refusedRange, s)

/-- An OUT to SEC_KOP of warden slot `k` (R559, R564); no status while the operation goes on. -/
def State.keyOp (s : State) (k : Fin 4) (op blk : Nat) : Option Status × State :=
  if op = 0 then (some .refusedRange, s)
  else if op ≤ 12 && s.keyLocked then (some .refusedNotReady, s.raise 725)
  else
    match s.keyBlock blk with
    | none => (some .refusedRange, s)
    | some b => if s.opStatus0 op b = .ok then s.opAct k op b else (some (s.opStatus0 op b), s)

/-- A slot that runs a thread holds until its operation ends (R559). -/
def State.holdOp (s : State) (k : Fin 4) : State :=
  let x := s.slot (wslot k)
  if x.thread.isSome && x.held.isNone then
    s.setSlot (wslot k) { x with held := some { writes := [], submit := none, addr := none, poisoned := false, cluster := false } }
  else s

/-- The command of an operation: its status in OSTAT when it ends. -/
def State.keyCmd (s : State) (k : Fin 4) (op : Nat) (blk : BitVec 12) : Host.Outcome State Fault Refusal :=
  let r := s.keyOp k op blk.toNat
  match r.1 with
  | some st => .next (State.slotAnswer (wslot k) (st, r.2))
  | none => .next ((r.2.holdOp k).status .ok)

/-- LOAD_ROOT. -/
def execLoadRoot (k : Fin 4) (blk : BitVec 12) (s : State) : Host.Outcome State Fault Refusal := s.keyCmd k 1 blk
/-- LOAD_MEM. -/
def execLoadMem (k : Fin 4) (blk : BitVec 12) (s : State) : Host.Outcome State Fault Refusal := s.keyCmd k 2 blk
/-- KDF. -/
def execKdf (k : Fin 4) (blk : BitVec 12) (s : State) : Host.Outcome State Fault Refusal := s.keyCmd k 3 blk
/-- KDF_OUT. -/
def execKdfOut (k : Fin 4) (blk : BitVec 12) (s : State) : Host.Outcome State Fault Refusal := s.keyCmd k 4 blk
/-- UNWRAP. -/
def execUnwrap (k : Fin 4) (blk : BitVec 12) (s : State) : Host.Outcome State Fault Refusal := s.keyCmd k 5 blk
/-- ECB_ENCRYPT. -/
def execEcbEncrypt (k : Fin 4) (blk : BitVec 12) (s : State) : Host.Outcome State Fault Refusal := s.keyCmd k 6 blk
/-- ECB_DECRYPT. -/
def execEcbDecrypt (k : Fin 4) (blk : BitVec 12) (s : State) : Host.Outcome State Fault Refusal := s.keyCmd k 7 blk
/-- CTR. -/
def execCtr (k : Fin 4) (blk : BitVec 12) (s : State) : Host.Outcome State Fault Refusal := s.keyCmd k 8 blk
/-- CMAC. -/
def execCmac (k : Fin 4) (blk : BitVec 12) (s : State) : Host.Outcome State Fault Refusal := s.keyCmd k 9 blk
/-- SIGN. -/
def execSign (k : Fin 4) (blk : BitVec 12) (s : State) : Host.Outcome State Fault Refusal := s.keyCmd k 10 blk
/-- PUBKEY. -/
def execPubkey (k : Fin 4) (blk : BitVec 12) (s : State) : Host.Outcome State Fault Refusal := s.keyCmd k 11 blk
/-- CLEAR. -/
def execClear (k : Fin 4) (blk : BitVec 12) (s : State) : Host.Outcome State Fault Refusal := s.keyCmd k 12 blk
/-- SHA_256. -/
def execSha256 (k : Fin 4) (blk : BitVec 12) (s : State) : Host.Outcome State Fault Refusal := s.keyCmd k 13 blk
/-- SHA_384. -/
def execSha384 (k : Fin 4) (blk : BitVec 12) (s : State) : Host.Outcome State Fault Refusal := s.keyCmd k 14 blk
/-- VERIFY. -/
def execVerify (k : Fin 4) (blk : BitVec 12) (s : State) : Host.Outcome State Fault Refusal := s.keyCmd k 15 blk

/-- What a served request does with its words (R575). -/
def State.rngGives (s : State) (r : RngReq) (ws : List W32) : State :=
  match r.kind with
  | 1 => (s.mboxWords ws).mboxEnds .ok
  | 2 => ((s.setRoot (BitVec.ofNat 256 (wordsNat ws))).setFld A.secRootctl 31 24 Status.ok.code).opStatus r.agent .ok
  | _ =>
    match r.sign with
    | none => s
    | some g =>
      match s.opKey g.dst 64 with
      | none => s.opStatus r.agent .refusedRange
      | some k => (s.opStore k (beBytes 64 (Config.ecdsaSign g.d g.digest (BitVec.ofNat 256 (wordsNat ws))).toNat)).opStatus
                    r.agent .ok

/-- RANDOM_SERVE: the head request is served while the DRBG runs; a word whose post is refused is discarded and its request
stays at the head (R575). -/
def execRandomServe (s : State) : Host.Outcome State Fault Refusal :=
  match s.sec.queue with
  | [] => .next s
  | r :: rest =>
    if s.rngState ≠ 1 then .next s
    else
      let d := s.drawWords r.words
      let s1 : State := { d.2 with sec := { d.2.sec with queue := rest } }
      if r.kind = 0 then
        let p := s1.post r.tag (nth d.1 0 0#32) .ok
        if p.1 = .refusedCapacity then .next { p.2 with sec := { p.2.sec with queue := r :: p.2.sec.queue } }
        else .next p.2
      else .next (s1.rngGives r d.1)

/-! ### The tag window (R563 to R566) -/

/-- An outbound descriptor is enabled in this cycle and has not sealed. -/
def State.unsealed (s : State) : Bool := s.brg.out.any (fun p => p.2.live && !p.2.sealed)

/-- The tag window may close (R563). -/
def State.tagWindowDone (s : State) : Bool :=
  (!s.unsealed &&
    !(rangeFrom 8 0).any (fun p => bit (s.reg (A.brgIcfg p)) 0 && !s.brg.closed.contains p) &&
    !s.flt.frames.any (fun p => (p.2.map (fun f => decide (f.fr.cls = 0) && !f.complete && !f.early)).getD false)) ||
  decide (s.fld A.secKsched 22 0 ≤ s.offset) || s.tb.fence

/-- The tag window closes: the warden's tag is told of the cycle (R563). -/
def State.closeTagWindow (s : State) : State :=
  let s1 := s.setFld A.secKstat 3 3 0
  let g := s1.fld A.secKwtag 7 0
  if g = 0 then s1 else (s1.post (0x10000 + g) s1.cycle .ok).2

/-- TAG_WINDOW_CLOSE (R563). -/
def execTagWindowClose (s : State) : Host.Outcome State Fault Refusal :=
  if bit (s.reg A.secKstat) 3 && s.tagWindowDone then .next s.closeTagWindow else .next s

/-- The check of the key register at a turn (R565): the window opens, AUTH says whether the cycle has its key. -/
def State.keyTurn (s : State) : State :=
  if bit (s.reg A.secKsched) 31 then
    let ok := decide (s.keyKind = 4) && decide (s.reg A.secKcycle = s.cycle)
    let s1 := (s.setFld A.secKstat 3 3 1).setFld A.secNstat 5 5 (b2n ok)
    if ok then s1 else s1.raise 724
  else (s.setFld A.secKstat 3 3 0).setFld A.secNstat 5 5 0

/-! ### Secure hold (section 20.2) -/

/-- SEC_HOLDPDk as it reads: the bit of PD81 is always 1 (R557). -/
def State.holdPdWord (s : State) (k : Nat) : W32 :=
  if k = 2 then s.reg (A.secHoldpd 2) ||| 0x20000#32 else s.reg (A.secHoldpd k)

/-- Domain `d` is held (R556, R557). -/
def State.pdHeld (s : State) (d : Nat) : Bool := bit (s.holdPdWord (d / 32)) (d % 32)

/-- SECURE_HOLD_WRITE: warden slot `w` writes SEC_HOLDPD0 to 2 (`k` 0 to 2) or SEC_HOLDCK (R556, R557). -/
def execSecureHoldWrite (w k : Fin 4) (v : W32) (s : State) : Host.Outcome State Fault Refusal :=
  let s1 := match k with
    | 0 => s.setReg (A.secHoldpd 0) v
    | 1 => s.setReg (A.secHoldpd 1) v
    | 2 => s.setReg (A.secHoldpd 2) (v &&& 0xFFFFF#32)
    | _ => s.setReg A.secHoldck (v &&& 0x3FFF#32)
  .next (State.slotAnswer (wslot w) (.ok, s1))

/-! ### The root secret (R569) -/

/-- The life-cycle state code: the highest fuse group burned, by majority (R584, Table 21-1). -/
def lcsCode (groups : List (BitVec 3)) : Nat :=
  let burned := fun (g : BitVec 3) => decide (2 ≤ b2n (g.getLsbD 0) + b2n (g.getLsbD 1) + b2n (g.getLsbD 2))
  ((rangeFrom 5 2).zip groups).foldl (fun acc (p : Nat × BitVec 3) => if burned p.2 then p.1 else acc) 1

/-- The life-cycle state: 1 RAW, 2 VENDOR, 3 OEM, 4 FIELD, 5 ANALYSIS, 6 SCRAP. -/
def State.lcs' (s : State) : Nat := lcsCode s.lcs.otp.groups

/-- What refuses an operation of SEC_ROOTCTL: the device is not keyless, or its life-cycle state (R569). -/
def State.rootStatus (s : State) : Status :=
  if !s.keyless then .refusedNotReady
  else if s.lcs' < 2 ∨ 4 < s.lcs' then .refusedRights
  else .ok

/-- SEC_ROOTCTL INSTALL with the D-RAM word address of the 32 bytes (R569). -/
def State.rootInstall (s : State) (addr : Nat) : Status × State :=
  let last := fun (st : Status) (t : State) => (st, t.setFld A.secRootctl 31 24 st.code)
  if s.rootStatus ≠ .ok then last s.rootStatus s
  else if 0x4000 < addr * 4 + 32 then last .refusedRange s
  else
    let v := word256 (s.readBytes (kDram 64 + addr * 4) 32)
    if v = 0#256 then last .refusedRange s else last .ok (s.setRoot v)

/-- SEC_ROOTCTL GENERATE of warden slot `k`: it waits for 8 words (R569); no status while it waits. -/
def State.rootGenerate (s : State) (k : Fin 4) : Option Status × State :=
  let st := if s.rootStatus ≠ .ok then s.rootStatus else s.rngStatus
  if st ≠ .ok then (some st, s.setFld A.secRootctl 31 24 st.code)
  else
    let r : RngReq := { kind := 2, agent := slotAgent (wslot k), tag := 0, words := 8,
                        deadline := s.time + bits (s.slot (wslot k)).rngTmo 15 0 * 1000, sign := none }
    (none, s.rngJoin r)

/-- INSTALL (R569). -/
def execInstall (k : Fin 4) (addr : BitVec 12) (s : State) : Host.Outcome State Fault Refusal :=
  .next (State.slotAnswer (wslot k) (s.rootInstall addr.toNat))

/-- GENERATE (R569). -/
def execGenerate (k : Fin 4) (s : State) : Host.Outcome State Fault Refusal :=
  let r := s.rootGenerate k
  match r.1 with
  | some st => .next (State.slotAnswer (wslot k) (st, r.2))
  | none => .next ((r.2.holdOp k).status .ok)

/-! ### Warden reset, the watchdog and tamper -/

/-- The warden's matching store, timers and random requests are emptied (R581). -/
def State.emptyWarden (s : State) : State :=
  { s with lk := { s.lk with toks := s.lk.toks.filter (fun p => decide (p.1 < 0x10000)), wReserved := 0,
                             threads := s.lk.threads.filter (fun p => decide (p.1 < 2048)),
                             ready := s.lk.ready.filter (fun n => decide (n < 2048)),
                             timers := s.lk.timers.filter (fun t => decide (t.tag < 0x10000)) },
           sec := { s.sec with queue := s.sec.queue.filter (fun r => !isWarden r.agent) } }

/-- Warden slot `k` stops: its agent dies (Table 15-3), and nothing stays with it. -/
def State.stopWarden (s : State) (k : Fin 4) : State :=
  let w := wslot k
  ((((s.drain w).agentDies (slotAgent w) 5).disarmAgent (slotAgent w)).setSlot w Slot.init)

/-- The warden starts from its images: D-RAM from the image store and the root thread at 0x0100 (R555, R581); under the limp
shape there is no warden image. -/
def State.startWarden (s : State) : State :=
  if s.shp.secure.wardenI = [] then s
  else (s.writeBytes (kDram 64) (s.readBytes kImageStore 0x4000)).rootThread 32 0x100

/-- A request of the debug TAP that a warden reset cuts short (R581, R598). -/
def State.tapCancel (s : State) : State :=
  match s.lcs.accepted with
  | none => s
  | some _ => { s with lcs := { s.lcs with accepted := none, tapStatus := Status.refusedNotReady.code } }

/-- A warden reset, in the order of R581. -/
def State.wardenReset (s : State) : State :=
  let s1 := (s.setKey 0#256 0).stopWarden 0
  let s2 := (((s1.stopWarden 1).stopWarden 2).stopWarden 3).emptyWarden
  (s2.mboxCancel .refusedNotReady).tapCancel.startWarden

/-- WARDEN_RESET: warden slot `k` writes SEC_WRESET; only the key 0xD1E5 resets (R581). -/
def execWardenReset (k : Fin 4) (v : W32) (s : State) : Host.Outcome State Fault Refusal :=
  let s1 := State.slotAnswer (wslot k) (.ok, s)
  .next (if bits v 31 16 = 0xD1E5 then s1.wardenReset.status .ok else s1)

/-- The watchdog period in ns. -/
def State.wdPeriod (s : State) : Nat := s.fld A.secWdcfg 13 0 * 1000000

/-- WATCHDOG_KICK: warden slot `k` writes SEC_WDKICK; the key 0x4B1C restarts the period (R579). -/
def execWatchdogKick (k : Fin 4) (v : W32) (s : State) : Host.Outcome State Fault Refusal :=
  let s1 := State.slotAnswer (wslot k) (.ok, s)
  .next (if bits v 31 16 = 0x4B1C ∧ s.sec.wdEnd ≠ 0 then
      { s1 with sec := { s1.sec with wdEnd := s1.time + s1.wdPeriod, wdExpired := false } }
    else s1)

/-- WATCHDOG_EXPIRY: the first expiry raises EV729 and resets the warden; a second period without a kick is
SECURE_WATCHDOG_RESET (R580). -/
def execWatchdogExpiry (s : State) : Host.Outcome State Fault Refusal :=
  if s.sec.wdEnd = 0 || s.sec.wdExpired then .next s
  else
    let s1 := (s.advance s.sec.wdEnd).raise 729
    let s2 := s1.wardenReset
    .next { s2 with sec := { s2.sec with wdEnd := s2.time + s2.wdPeriod, wdExpired := true } }

/-- TAMPER_DETECT: an enabled source zeroes the root and writes the tamper record; `seconds` is the battery seconds counter. With
VIN present the key register, warden D-RAM and the secure partition are cleared, a debug grant ends and a warden reset
follows (R570, R571, R596); without it the events wait for S19. Stores that warden slots have posted are performed before the
clearing. -/
def execTamperDetect (source : Fin 8) (seconds : W32) (vin : Bool) (s : State) : Host.Outcome State Fault Refusal :=
  if !bit (s.reg A.secTampcfg) source then .next s
  else
    let s1 := ((s.setReg A.secTamprec (setBit (s.reg A.secTamprec) source true)).setReg A.secTamptime seconds)
    if !vin then
      let s2 := (s1.setRoot 0#256).setFld A.secTampcfg 31 31 0
      .next { s2 with sec := { s2.sec with lateTamper := true } }
    else
      let s2 := s1.zeroRoot.raise 726
      let s2 := (((s2.drain (wslot 0)).drain (wslot 1)).drain (wslot 2)).drain (wslot 3)
      let s3 := (s2.setKey 0#256 0).writeBytes (kDram 64) (List.replicate 0x4000 0#8)
      let s4 := s3.sramWrite s3.shp.secure.ssBase (List.replicate s3.shp.secure.ssLen 0#8)
      .next (State.wardenReset { s4 with lcs := { s4.lcs with grant := none } })

end Sys2Proof.Machine
end

