-- ==== Sys2Proof/Machine/Reset.lean ====
section
/-! DEFINITION. What a reset clears and keeps (section 3.3, Table 3-4). -/

namespace Sys2Proof.Machine

/-- The registers of the battery domain (Tables 3-4 and 20-6, R624). -/
def batteryRegs : List Nat := [A.secTampcfg, A.secTamprec, A.secTamptime, A.pwrShutrec]

/-- A memory key that a chip reset keeps: the flash and host memory. -/
def keptKey (k : Nat) : Bool := decide (kFlash ≤ k ∧ k < kImageStore) || decide (kHost ≤ k)

/-- A channel that has lost its content: every segment of both ranks. -/
def lostChannel (c : DramCh) : DramCh :=
  { DramCh.init with epoch := (rangeFrom 16 0).foldl (fun m k =>
      SMap.set (fun _ => 0) m k (SMap.get (fun _ => 0) c.epoch k + 1)) c.epoch }

/-! ### The start log (section 3.4) -/

/-- The flash key of slot `i` of the start log: two sectors of 64 entries. -/
def logKey (i : Nat) : Nat := kFlash + 0x7FE000 + 64 * i

/-- SEQ `a` is newer than `b` by modular comparison (R599). -/
def seqNewer (a b : W32) : Bool := decide (0 < (a - b).toInt)

/-- A start log entry: its slot, SEQ, the reset kind, FSTEP, FCAUSE and ELAPSED (Table 3-7). -/
structure LogEntry where
  slot : Nat
  seq : W32
  kind : Nat
  fstep : Nat
  fcause : Nat
  elapsed : Nat
  deriving DecidableEq, Repr

/-- The entry in slot `i`, if its HCRC is valid. -/
def State.logEntry (s : State) (i : Nat) : Option LogEntry :=
  let k := logKey i
  if crc32c (s.readBytes k 8) = w32 (s.readLE (k + 8) 4) then
    some { slot := i, seq := w32 (s.readLE k 4), kind := s.readLE (k + 4) 1, fstep := s.readLE (k + 0x14) 1,
           fcause := s.readLE (k + 0x15) 1, elapsed := s.readLE (k + 0x24) 4 }
  else none

/-- Entry `e` placed among entries whose newest stands first. -/
def placeEntry (e : LogEntry) : List LogEntry → List LogEntry
  | [] => [e]
  | x :: rest => if seqNewer e.seq x.seq then e :: x :: rest else x :: placeEntry e rest

/-- The valid entries, newest first. -/
def State.logEntries (s : State) : List LogEntry :=
  ((rangeFrom 128 0).filterMap s.logEntry).foldl (fun l e => placeEntry e l) []

/-- SEQ of the newest entry. -/
def State.newestSeq (s : State) : Option W32 := s.logEntries.head?.map (·.seq)

/-- Both channels have lost their content. -/
def lostDram (d : SMap DramCh) : SMap DramCh :=
  (rangeFrom 2 0).foldl (fun m x =>
    SMap.set (fun _ => DramCh.init) m x (lostChannel (SMap.get (fun _ => DramCh.init) d x))) []

/-- The start controller as a reset leaves it: what is kept at every later start stays, and a start begins after step
`step`. RETRY_ALL takes effect: no fallback is kept, and R81 counts from `seq` on (R79, section 3.5). -/
def Boot.restart (b : Boot) (step : Nat) (run : Bool) (seq : Option W32) : Boot :=
  let k : Boot := { State.reset.boot with running := run, step := step, held := b.held, early := b.early,
                                          s07Fails := b.s07Fails, vfsel := b.vfsel, drspd := b.drspd, train := b.train }
  if b.retry then { k with base := seq, s07Fails := 0 }
  else { k with fallback := b.fallback, quar := b.quar, base := b.base, bankFail := b.bankFail }

/-- The device after a reset of kind `kind` (Table 3-3): everything as after reset but the battery domain, the fuses, the
flash, BOOT_CAUSE and what the start controller keeps (Table 3-4). The link state goes with `link`. -/
def State.cleared (s : State) (kind step : Nat) (run : Bool) : State :=
  let r : State :=
    { State.reset with mem := s.mem.filter (fun c => keptKey c.1), drc := lostDram s.drc, free := s.free,
                       reply := s.reply, pending := s.pending,
                       sec := { State.reset.sec with root := s.sec.root, rootCrc := s.sec.rootCrc, drawn := s.sec.drawn,
                                                     lateTamper := s.sec.lateTamper },
                       lcs := { State.reset.lcs with otp := s.lcs.otp },
                       boot := s.boot.restart step run s.newestSeq }
  let r1 := batteryRegs.foldl (fun t a => t.setReg a (s.reg a)) r
  r1.setReg A.bootCause (w32 kind)

/-- A chip reset other than power-on: a start begins at S04 (Table 3-3). -/
def State.chipReset (s : State) (kind : Nat) : State := s.cleared kind 3 true

/-- An internal restart: a start at S04 with the PCIe link and configuration space kept (Table 3-4); the FAILED latch is
cleared with the rest. -/
def State.internalReset (s : State) : State :=
  let r := s.cleared 5 3 true
  { r with boot := { r.boot with l0 := s.boot.l0 },
           tnt := { r.tnt with busMaster := s.tnt.busMaster, memSpace := s.tnt.memSpace } }

/-- A power-on reset: the always-on domain is cleared too, and the battery domain without VBAT (Table 3-4, R568, R624). -/
def State.powerOn (s : State) (vbat : Bool) : State :=
  let r := s.cleared 1 0 true
  let r1 : State := { r with boot := { r.boot with early := none, s07Fails := 0 } }
  if vbat then r1
  else
    let r2 := batteryRegs.foldl (fun (t : State) a => t.setReg a 0#32) (r1.setRoot 0#256)
    { r2 with sec := { r2.sec with lateTamper := false } }

end Sys2Proof.Machine
end

