-- ==== Sys2Proof/Machine/Evr.lean ====
section
/-! DEFINITION. The commands of the event router (chapter 19): routes, pending bits, token retries and pulses. -/

namespace Sys2Proof.Machine

/-- Event `e` is secure-only (R30). -/
def secureEvent (e : Nat) : Bool := decide (720 ≤ e ∧ e ≤ 751)

/-- A vector that the manager or a present tenant owns (R52, R487). -/
def State.vectorOwned (s : State) (v : Nat) : Bool := decide (v < s.shp.mgrVectors) || (s.vectorTenant v).isSome

/-- The form of a route entry for source `e` is right (R543). -/
def State.routeForm (s : State) (e : Nat) (v : W32) : Bool :=
  let tgt := bits v 31 16
  decide (bits v 15 11 = 0) && (!bit v 10 || secureEvent e) &&
    (match bits v 7 0 with
     | 0 => decide (tgt = 0)
     | 1 => decide (0x2000 ≤ tgt)
     | 2 => s.vectorOwned tgt
     | 3 => decide (1 ≤ tgt ∧ tgt ≤ 0xFF)
     | 4 => decide (tgt < 4)
     | _ => false)

/-- The status of a route write of agent `ag`, in the order of R543. -/
def State.routeStatus (s : State) (ag : Agent) (e : Nat) (v : W32) : Status :=
  if !isBoss ag then .refusedRights
  else if (secureEvent e || decide (bits v 7 0 = 3)) && !isWarden ag then .refusedSecure
  else if s.routeForm e v then .ok
  else .refusedRange

/-- ROUTE_WRITE: a write of EVR_ROUTEe (R543). -/
def execRouteWrite (ag : Agent) (e : Fin 768) (v : W32) (s : State) : Host.Outcome State Fault Refusal :=
  let st := s.routeStatus ag e v
  if st = .ok then .next ((s.setReg (A.evrRoute e) v).status .ok) else .next (s.refuse ag (A.evrRoute e) st)

/-- The bits of EVR_PENDk that belong to secure sources: EV720 to EV751. -/
def securePend (k : Nat) : W32 := if k = 22 then 0xFFFF0000#32 else if k = 23 then 0x0000FFFF#32 else 0#32

/-- PEND_CLEAR: a W1C write of EVR_PENDk clears pending bits within the writer's rights (R545). -/
def execPendClear (ag : Agent) (k : Fin 24) (v : W32) (s : State) : Host.Outcome State Fault Refusal :=
  if !((isBoss ag || isThread ag) && s.reaches ag 0x12) then .next (s.refuse ag (A.evrPend k) .refusedRights)
  else
    let m := if isWarden ag then v else v &&& ~~~securePend k
    .next ((s.setReg (A.evrPend k) (s.reg (A.evrPend k) &&& ~~~m)).status .ok)

/-- Retry the refused event tokens in order; each retry counts (R541). -/
def retryEvents : List (Nat × W32) → State → List (Nat × W32) × State
  | [], s => ([], s)
  | (e, v) :: rest, s =>
    let r := s.reg (A.evrRoute e)
    let tgt := if bits r 7 0 = 3 then 0x10000 + bits r 31 16 % 0x100 else bits r 31 16
    let p := (s.count 0x120E10).postQuiet tgt v .ok
    let q := retryEvents rest (if p.1 = .ok then p.2.count 0x120E08 else p.2)
    (if p.1 = .refusedCapacity then (e, v) :: q.1 else q.1, q.2)

/-- EVENT_TOKEN_RETRY: the refused event tokens are posted again (R541). -/
def execEventTokenRetry (s : State) : Host.Outcome State Fault Refusal :=
  let q := retryEvents s.evr.retry s
  let s1 := { q.2 with evr := { q.2.evr with retry := q.1 } }
  .next (s1.tokenWatch (s.counter 0x70110))

/-- EVTOUT_PULSE_END: the pulse on pin `p` ends WIDTH ns after its last delivery (R551). -/
def execEvtoutPulseEnd (p : Fin 4) (s : State) : Host.Outcome State Fault Refusal :=
  match SMap.get (fun _ => none) s.evr.pulse p.val with
  | none => .next s
  | some t =>
    let s1 := s.advance t
    .next { s1 with evr := { s1.evr with pulse := SMap.set (fun _ => none) s1.evr.pulse p.val none } }

end Sys2Proof.Machine
end

