-- ==== Sys2Proof/Machine/Image.lean ====
section
/-! DEFINITION. The shape image (chapter 02): its container, the sections as the loader parses them, and the load checks of
Table 2-12. An image is read through a function from byte offsets. -/

namespace Sys2Proof.Machine

/-- A byte source: byte `o` of an image. -/
abbrev Rd := Nat → Byte

/-- A number of `n` little-endian bytes at offset `o` (R37). -/
def rdLE (r : Rd) (o n : Nat) : Nat := leNat ((rangeFrom n o).map r)

/-- `n` bytes at offset `o`. -/
def rdBytes (r : Rd) (o n : Nat) : List Byte := (rangeFrom n o).map r

/-- `n` bytes from offset `o` are zero. -/
def rdZero (r : Rd) (o n : Nat) : Bool := (rangeFrom n o).all (fun k => decide (r k = 0#8))

/-! ### Container (section 2.1) -/

/-- A directory entry (Table 2-2). -/
structure DirEntry where
  id : Nat
  flags : Nat
  rsv : Nat
  off : Nat
  len : Nat
  crc : Nat
  deriving DecidableEq, Repr

/-- Directory entry `i`. -/
def dirEntry (r : Rd) (i : Nat) : DirEntry :=
  let o := 0x40 + 16 * i
  { id := rdLE r o 1, flags := rdLE r (o + 1) 1, rsv := rdLE r (o + 2) 2, off := rdLE r (o + 4) 4, len := rdLE r (o + 8) 4,
    crc := rdLE r (o + 12) 4 }

/-- The 12 directory entries. -/
def directory (r : Rd) : List DirEntry := (rangeFrom 12 0).map (dirEntry r)

/-- The used entries. -/
def usedDir (r : Rd) : List DirEntry := (directory r).filter (fun e => decide (e.id ≠ 0))

/-- The section with an identifier (Table 2-3). -/
def sect (r : Rd) (id : Nat) : Option DirEntry := (usedDir r).find? (fun e => decide (e.id = id))

/-- Offset of a section; 0 without one. -/
def sectOff (r : Rd) (id : Nat) : Nat := ((sect r id).map (·.off)).getD 0

/-- LENGTH of the image. -/
def imgLength (r : Rd) : Nat := rdLE r 8 4

/-- The digest: SHA-256 of the signed bytes (R40, R42). -/
def imgDigest (r : Rd) : BitVec 256 := Config.sha256 (rdBytes r 0 (sectOff r 0x0F))

/-- What a failed check records: its code, the section and the byte offset (SHP_LOADERR, SHP_ERROFF). -/
structure ImgErr where
  code : Nat
  sect : Nat
  off : Nat
  deriving DecidableEq, Repr

/-- One check: passed, or what it records. -/
abbrev Chk := Bool × ImgErr

/-- A check. -/
def chk (ok : Bool) (code sec off : Nat) : Chk := (ok, { code := code, sect := sec, off := off })

/-- The first check of a list that fails. -/
def firstFail : List Chk → Option ImgErr
  | [] => none
  | c :: rest => if c.1 then firstFail rest else some c.2

/-- The identifiers of Table 2-3. -/
def sectIds : List Nat := [1, 2, 3, 4, 5, 6, 7, 8, 9, 10, 15]

/-- The sections that a delta may carry (R39). -/
def deltaIds : List Nat := [1, 2, 5, 7, 8, 15]

/-- Used entries come first: no used entry follows an unused one (R38). -/
def usedFirst : List DirEntry → Bool
  | [] => true
  | e :: rest => if e.id = 0 then rest.all (fun f => decide (f.id = 0)) else usedFirst rest

/-- Sections follow one another in ascending ID order without overlap, and the bytes between them are zero (R38). -/
def sectOrder (r : Rd) : Nat → Nat → List DirEntry → Bool
  | _, _, [] => true
  | id, at', e :: rest =>
    decide (id < e.id) && decide (at' ≤ e.off) && rdZero r at' (e.off - at') && sectOrder r e.id (e.off + e.len) rest

/-- The entries are well formed on their own (Table 2-2). -/
def dirForm (e : DirEntry) : Bool :=
  if e.id = 0 then decide (e.flags = 0 ∧ e.rsv = 0 ∧ e.off = 0 ∧ e.len = 0 ∧ e.crc = 0)
  else decide (sectIds.contains e.id) && decide (e.flags ≤ 1) && (decide (e.flags = 0) || decide (e.id = 10)) &&
    decide (e.rsv = 0) && decide (e.off % 16 = 0) && decide (e.len % 4 = 0) && decide (e.len ≠ 0)

/-- Header checks 0x01 to 0x05; `kind` 1 full, 2 delta; `room` the bytes of the bank or staging region (Table 2-12). -/
def headChecks (r : Rd) (kind room : Nat) : List Chk :=
  let len := imgLength r
  let used := usedDir r
  let full := decide (kind = 1)
  [ chk (decide (rdLE r 0 4 = 0x5048535A)) 0x01 0 0x00,
    chk (decide (rdLE r 4 2 = 1)) 0x01 0 0x04,
    chk (decide (rdLE r 6 2 = kind)) 0x01 0 0x06,
    chk (!full || rdZero r 0x18 32) 0x01 0 0x18,
    chk (rdZero r 0x38 8) 0x01 0 0x38,
    chk (decide (rdLE r 0x0C 2 = 0x6408)) 0x02 0 0x0C,
    chk (decide (rdLE r 0x0E 1 ≤ 0xB0)) 0x02 0 0x0E,
    chk (decide (len % 16 = 0) && decide (len ≤ room) &&
      (if full then decide (4096 ≤ len ∧ len ≤ 3145728) else decide (512 ≤ len ∧ len ≤ 1048576))) 0x03 0 0x08,
    chk (decide (rdLE r 0x0F 1 = used.length)) 0x04 0 0x0F,
    chk ((directory r).all dirForm && usedFirst (directory r)) 0x04 0 0x40,
    chk (if full then decide (used.map (·.id) = sectIds) else
        decide (2 ≤ used.length) && used.all (fun e => deltaIds.contains e.id) && (sect r 15).isSome) 0x04 0 0x40,
    chk (sectOrder r 0 0x100 used) 0x04 0 0x40,
    chk (match sect r 15 with
      | some e => decide (e.len = 144) && decide (e.off + e.len = len) && decide (used.getLast? = some e)
      | none => false) 0x04 0 0x40 ] ++
  used.map (fun e => chk (decide (e.id = 15) || decide (crc32c (rdBytes r e.off e.len) = w32 e.crc)) 0x05 e.id e.off)

/-! ### Signature (R40, R41) -/

/-- The image key slots that a life-cycle state accepts (R41). -/
def imageSlots (lcs : Nat) : List Nat :=
  match lcs with
  | 2 | 5 => [0, 1]
  | 3 | 4 => [2, 3]
  | _ => []

/-- A provisioned key-hash slot that holds the hash of a public key (R41, R587). -/
def keyHashOk (otp : Otp) (slot : Nat) (pub : List Byte) : Bool :=
  let h := nth otp.keys slot 0#256
  decide (slot < 4) && decide (h ≠ 0#256) && decide (Config.sha256 pub = h)

/-- Checks 0x06 to 0x08; `floor` is the lowest SECVER accepted. -/
def signChecks (r : Rd) (otp : Otp) (floor : Nat) : List Chk :=
  let o := sectOff r 15
  let slot := rdLE r o 1
  let pub := rdBytes r (o + 4) 64
  let sig := rdBytes r (o + 0x44) 64
  [ chk ((imageSlots (lcsCode otp.groups)).contains slot && keyHashOk otp slot pub) 0x06 15 o,
    chk (decide (rdLE r (o + 1) 1 = 1) && rdZero r (o + 2) 2 && rdZero r (o + 0x84) 12) 0x07 15 (o + 1),
    chk (decide (sig ≠ List.replicate 64 0#8) &&
      Config.ecdsaVerify (imgDigest r) (BitVec.ofNat 512 (beNat pub)) (BitVec.ofNat 512 (beNat sig))) 0x07 15 (o + 0x44),
    chk (decide (floor ≤ rdLE r 0x10 4)) 0x08 0 0x10 ]

/-! ### FABRIC (Tables 2-5 and 2-6) -/

/-- A pound entry at offset `o`. -/
def parsePound (r : Rd) (o : Nat) : PoundCfg :=
  { pound := rdLE r o 1, control := decide (rdLE r (o + 1) 1 % 2 = 1), program := rdLE r (o + 2) 1,
    dramWin := rdLE r (o + 3) 1, regMask := w32 (rdLE r (o + 4) 4), cores := BitVec.ofNat 64 (rdLE r (o + 8) 8),
    route := (rangeFrom 4 0).map (fun i => rdLE r (o + 0x10 + i) 1), prioBase := rdLE r (o + 0x14) 1 }

/-- FABRIC at offset `o`. -/
def parseFabric (r : Rd) (o : Nat) : Fabric :=
  { pounds := (rangeFrom (rdLE r o 1) 0).map (fun i => parsePound r (o + 16 + 32 * i)),
    entry := (rangeFrom 4 0).map (fun i => rdLE r (o + 1 + i) 1), period := rdLE r (o + 8) 4 }

/-- The pound with a number. -/
def Fabric.find (f : Fabric) (n : Nat) : Option PoundCfg := f.pounds.find? (fun p => decide (p.pound = n))

/-- A pound that receives frames. -/
def Fabric.open' (f : Fabric) (n : Nat) : Bool := ((f.find n).map (fun p => !p.control)).getD false

/-- A route of pound `n` leads to the towpath, nowhere, or a higher pound that is not CONTROL (R43, R45). -/
def routeOk (f : Fabric) (n t : Nat) : Bool := decide (t = 0xFE ∨ t = 0xFF) || (decide (n < t) && f.open' t)

/-- The fields and rules of one pound entry at offset `o` (R43, R45). -/
def poundOk (r : Rd) (f : Fabric) (o : Nat) (p : PoundCfg) : Bool :=
  decide (p.pound < 16) && decide (rdLE r (o + 1) 1 < 2) && decide (p.program < 32) && decide (p.dramWin < 8) &&
    decide (p.regMask &&& 0xFFF80000#32 = 0#32) && decide (p.prioBase < 8) && rdZero r (o + 0x15) 11 &&
    (if p.control then p.route.all (fun t => decide (t = 0xFF))
     else p.route.all (routeOk f p.pound) && p.route.any (fun t => decide (t ≠ 0xFF)))

/-- No core belongs to two pounds, and no pound number stands twice (R44). -/
def poundsApart : List PoundCfg → Bool
  | [] => true
  | p :: rest => rest.all (fun q => decide (q.cores &&& p.cores = 0#64) && decide (q.pound ≠ p.pound)) && poundsApart rest

/-- Check 0x09; a delta's PERIOD is ignored. -/
def fabricChecks (r : Rd) (e : DirEntry) (delta : Bool) : List Chk :=
  let o := e.off
  let f := parseFabric r o
  let n := f.pounds.length
  [ chk (decide (1 ≤ n ∧ n ≤ 16) && decide (e.len = 16 + 32 * n)) 0x09 1 o,
    chk (rdZero r (o + 5) 3) 0x09 1 (o + 5),
    chk (delta || decide (10000 ≤ f.period ∧ f.period ≤ 4000000)) 0x09 1 (o + 8),
    chk (rdZero r (o + 12) 4) 0x09 1 (o + 12),
    chk (f.entry.all f.open') 0x09 1 (o + 1) ] ++
  ((rangeFrom n 0).zip f.pounds).map (fun (q : Nat × PoundCfg) =>
    chk (poundOk r f (o + 16 + 32 * q.1) q.2) 0x09 1 (o + 16 + 32 * q.1)) ++
  [ chk (poundsApart f.pounds) 0x09 1 (o + 16) ]

/-! ### PROGRAMS (Table 2-10) -/

/-- A program whose directory entry lies at `d` in the section at `o`. -/
def parseProg (r : Rd) (o d : Nat) : ProgCfg :=
  let iw := rdLE r (d + 2) 2
  let db := rdLE r (d + 4) 2
  let im := o + rdLE r (d + 8) 4
  { index := rdLE r d 1, level := rdLE r (d + 1) 1, entry := rdLE r (d + 6) 2, iimage := rdBytes r im (4 * iw),
    dimage := rdBytes r (im + 4 * iw) db, crc := w32 (rdLE r (d + 12) 4) }

/-- PROGRAMS at offset `o`. -/
def parsePrograms (r : Rd) (o : Nat) : List ProgCfg :=
  (rangeFrom (rdLE r o 1) 0).map (fun i => parseProg r o (o + 4 + 16 * i))

/-- The fields of the program directory entry at `d` (Table 2-10). -/
def progOk (r : Rd) (e : DirEntry) (n d : Nat) : Bool :=
  let iw := rdLE r (d + 2) 2
  let db := rdLE r (d + 4) 2
  let en := rdLE r (d + 6) 2
  let im := rdLE r (d + 8) 4
  decide (rdLE r d 1 < 32) && decide (rdLE r (d + 1) 1 = 1) && decide (1 ≤ iw ∧ iw ≤ 8192) &&
    decide (db % 4 = 0 ∧ 4 ≤ db ∧ db ≤ 16384) && decide (en % 4 = 0 ∧ en < 4 * iw) && decide (im % 4 = 0) &&
    decide (4 + 16 * n ≤ im ∧ im + 4 * iw + db ≤ e.len)

/-- No two entries of a list of numbers are equal. -/
def distinctNats : List Nat → Bool
  | [] => true
  | a :: rest => !rest.contains a && distinctNats rest

/-- Check 0x0A against the pounds of a fabric. -/
def programChecks (r : Rd) (e : DirEntry) (pounds : List PoundCfg) : List Chk :=
  let o := e.off
  let n := rdLE r o 1
  let ps := parsePrograms r o
  [ chk (decide (1 ≤ n ∧ n ≤ 32) && rdZero r (o + 1) 3 && decide (4 + 16 * n ≤ e.len)) 0x0A 5 o ] ++
  (rangeFrom n 0).map (fun i => chk (progOk r e n (o + 4 + 16 * i)) 0x0A 5 (o + 4 + 16 * i)) ++
  ((rangeFrom n 0).zip ps).map (fun (q : Nat × ProgCfg) =>
    chk (decide (crc32c (q.2.iimage ++ q.2.dimage) = q.2.crc)) 0x0A 5 (o + 4 + 16 * q.1 + 12)) ++
  [ chk (distinctNats (ps.map (·.index))) 0x0A 5 (o + 4),
    chk (pounds.all (fun p => (ps.map (·.index)).contains p.program)) 0x0A 5 o ]

/-- Bytes of the program copy area (R47). -/
def copySize (ps : List ProgCfg) : Nat :=
  sumNat (ps.map (fun p => roundUp p.iimage.length 0x1000 + roundUp p.dimage.length 0x1000))

/-! ### MEMORY (Table 2-7) -/

/-- A pool entry. -/
def parsePool (r : Rd) (o : Nat) : PoolCfg := { size := rdLE r o 2, count := rdLE r (o + 4) 4 }

/-- An owner entry. -/
def parseOwner (r : Rd) (o : Nat) : OwnerCfg :=
  { agent := rdLE r o 2, poolMask := BitVec.ofNat 8 (rdLE r (o + 2) 1),
    ceiling := (rangeFrom 6 0).map (fun i => rdLE r (o + 4 + 2 * i) 2) }

/-- A shared-SRAM region. -/
def parseSregion (r : Rd) (o : Nat) : SRegion :=
  { base := rdLE r o 4, length := rdLE r (o + 4) 4, kind := rdLE r (o + 8) 1, read := BitVec.ofNat 16 (rdLE r (o + 10) 2),
    write := BitVec.ofNat 16 (rdLE r (o + 12) 2) }

/-- A DRAM region. -/
def parseDregion (r : Rd) (o : Nat) : DRegion :=
  let f := rdLE r (o + 1) 1
  { channel := rdLE r o 1, ecc := decide (f % 2 = 1), secure := decide (f / 2 % 2 = 1),
    tenantVisible := decide (f / 4 % 2 = 1), cls := rdLE r (o + 2) 1, kind := rdLE r (o + 3) 1, base := rdLE r (o + 4) 4,
    length := rdLE r (o + 8) 4 }

/-- MEMORY at offset `o`. -/
def parseMemory (r : Rd) (o : Nat) : MemCfg :=
  let no := rdLE r (o + 0x3A) 1
  let ns := rdLE r (o + 0x3B) 1
  let nd := rdLE r (o + 0x3C) 1
  let den := rdLE r (o + 0x38) 2
  { pools := (rangeFrom 6 0).map (fun i => parsePool r (o + 8 * i)), cells := rdLE r (o + 0x30) 4,
    berths := rdLE r (o + 0x34) 2, berthSize := rdLE r (o + 0x36) 2, densA := den % 16, densB := den / 16 % 16,
    owners := (rangeFrom no 0).map (fun i => parseOwner r (o + 0x40 + 16 * i)),
    sregions := (rangeFrom ns 0).map (fun i => parseSregion r (o + 0x40 + 16 * no + 16 * i)),
    dregions := (rangeFrom nd 0).map (fun i => parseDregion r (o + 0x40 + 16 * no + 16 * ns + 16 * i)) }

/-- An AGENT value of an owner entry: an assigned agent ID, or the slots of a pound (R291, section 10.2). -/
def ownerAgentOk (a : Nat) : Bool :=
  decide (1 ≤ a ∧ a ≤ 0x200) || decide (0x400 ≤ a ∧ a ≤ 0x41F) || decide (a = 0x500) || decide (0x600 ≤ a ∧ a ≤ 0x60F) ||
    decide (0x7F0 ≤ a ∧ a ≤ 0x7F3) || decide (0x1000 ≤ a ∧ a ≤ 0x100F)

/-- Present pools have listed sizes in rising order from a bound (R46). -/
def poolsRise : Nat → List PoolCfg → Bool
  | _, [] => true
  | lo, p :: rest =>
    if p.count = 0 then poolsRise lo rest
    else decide (lo < p.size ∧ p.size % 64 = 0 ∧ 128 ≤ p.size ∧ p.size ≤ 10240) && poolsRise p.size rest

/-- The bytes of the packet buffer that an image uses (R46). -/
def basinBytes (m : MemCfg) : Nat :=
  m.berths * m.berthSize + m.cells * 64 + sumNat (m.pools.map (fun p => p.size * p.count))

/-- Two ranges of bytes do not overlap. -/
def apart (a n b m : Nat) : Bool := decide (a + n ≤ b) || decide (b + m ≤ a)

/-- SREGIONs do not overlap each other (R47). -/
def sregionsApart : List SRegion → Bool
  | [] => true
  | x :: rest => rest.all (fun y => apart x.base x.length y.base y.length) && sregionsApart rest

/-- DREGIONs of one channel do not overlap (R48). -/
def dregionsApart : List DRegion → Bool
  | [] => true
  | x :: rest =>
    rest.all (fun y => decide (x.channel ≠ y.channel) || apart x.base x.length y.base y.length) && dregionsApart rest

/-- One owner entry at `o` (Table 2-7). -/
def ownerOk (r : Rd) (o : Nat) (x : OwnerCfg) : Bool :=
  ownerAgentOk x.agent && !x.poolMask.getLsbD 7 && rdZero r (o + 3) 1 && x.ceiling.all (fun c => decide (c ≠ 0))

/-- One SREGION at `o`, against the copy area (Table 2-7, R47). -/
def sregionOk (r : Rd) (o copy : Nat) (x : SRegion) : Bool :=
  decide (x.base % 4096 = 0 ∧ x.length % 4096 = 0 ∧ x.length ≠ 0 ∧ x.base + x.length ≤ 0x400000 - copy) &&
    decide (1 ≤ x.kind ∧ x.kind ≤ 3) && rdZero r (o + 9) 1 && rdZero r (o + 14) 2

/-- MiB of a DENSITY code (Table 2-7). -/
def densityMiB (d : Nat) : Nat := if d = 0 then 0 else 256 * 2 ^ d

/-- One DREGION at `o` (Table 2-7, R48, R426, R553). -/
def dregionOk (r : Rd) (o : Nat) (m : MemCfg) (x : DRegion) : Bool :=
  decide (x.channel < 2) && decide (rdLE r (o + 1) 1 < 8) && decide (x.cls < 4) && decide (1 ≤ x.kind ∧ x.kind ≤ 6) &&
    decide (x.length ≠ 0 ∧ x.base + x.length ≤ densityMiB (if x.channel = 0 then m.densA else m.densB)) &&
    decide (x.secure = decide (x.kind = 6)) && (!x.ecc || decide (x.length % 8 = 0)) && rdZero r (o + 12) 4

/-- Exactly one context store, of at least 2 MiB (R48). -/
def storeOk (m : MemCfg) : Bool :=
  match m.dregions.filter (fun x => decide (x.kind = 1)) with
  | [x] => decide (2 ≤ x.length)
  | _ => false

/-- The largest present pool that owner entry 0x600 may use holds every enabled port's MAXFRAME (R291). -/
def framesFit (m : MemCfg) (ports : List PortCfg) : Bool :=
  match m.owners.find? (fun x => decide (x.agent = 0x600)) with
  | none => false
  | some x =>
    let big := ((rangeFrom 6 0).zip m.pools).foldl (fun acc (p : Nat × PoolCfg) =>
      if x.poolMask.getLsbD p.1 && decide (p.2.count ≠ 0) then max acc p.2.size else acc) 0
    ports.all (fun p => decide (p.mode = 0) || decide (p.maxFrame ≤ big))

/-- Check 0x0B, with the programs and the ports of the image or, for a delta, those in effect. -/
def memoryChecks (r : Rd) (e : DirEntry) (ps : List ProgCfg) (ports : List PortCfg) : List Chk :=
  let o := e.off
  let m := parseMemory r o
  let no := m.owners.length
  let ns := m.sregions.length
  let nd := m.dregions.length
  let oo := o + 0x40
  let so := oo + 16 * no
  let d := so + 16 * ns
  [ chk ((rangeFrom 6 0).all (fun i => rdZero r (o + 8 * i + 2) 2) && poolsRise 0 m.pools) 0x0B 2 o,
    chk (decide (1 ≤ m.cells ∧ m.cells ≤ 65536)) 0x0B 2 (o + 0x30),
    chk (decide (1 ≤ m.berths ∧ m.berths ≤ 512)) 0x0B 2 (o + 0x34),
    chk (decide (m.berthSize % 64 = 0 ∧ 128 ≤ m.berthSize ∧ m.berthSize ≤ 9216)) 0x0B 2 (o + 0x36),
    chk (decide (rdLE r (o + 0x38) 2 < 256 ∧ m.densA ≤ 4 ∧ m.densB ≤ 4)) 0x0B 2 (o + 0x38),
    chk (decide (1 ≤ no ∧ no ≤ 48)) 0x0B 2 (o + 0x3A), chk (decide (1 ≤ ns ∧ ns ≤ 16)) 0x0B 2 (o + 0x3B),
    chk (decide (1 ≤ nd ∧ nd ≤ 32)) 0x0B 2 (o + 0x3C), chk (rdZero r (o + 0x3D) 3) 0x0B 2 (o + 0x3D),
    chk (decide (e.len = 0x40 + 16 * (no + ns + nd))) 0x0B 2 o,
    chk (decide (basinBytes m ≤ 6291456)) 0x0B 2 o ] ++
  ((rangeFrom no 0).zip m.owners).map (fun (q : Nat × OwnerCfg) => chk (ownerOk r (oo + 16 * q.1) q.2) 0x0B 2 (oo + 16 * q.1)) ++
  [ chk (distinctNats (m.owners.map (·.agent))) 0x0B 2 oo, chk (decide (copySize ps ≤ 0x400000)) 0x0B 2 so ] ++
  ((rangeFrom ns 0).zip m.sregions).map (fun (q : Nat × SRegion) =>
    chk (sregionOk r (so + 16 * q.1) (copySize ps) q.2) 0x0B 2 (so + 16 * q.1)) ++
  ((rangeFrom nd 0).zip m.dregions).map (fun (q : Nat × DRegion) => chk (dregionOk r (d + 16 * q.1) m q.2) 0x0B 2 (d + 16 * q.1)) ++
  [ chk (sregionsApart m.sregions) 0x0B 2 so, chk (dregionsApart m.dregions) 0x0B 2 d, chk (storeOk m) 0x0B 2 d,
    chk (framesFit m ports) 0x0B 2 oo ]

/-! ### TABLES and PORTS (Tables 2-8 and 2-9) -/

/-- A TABLES entry. -/
def parseTable (r : Rd) (o : Nat) : TableCfg :=
  { size := rdLE r o 4, seedA := w32 (rdLE r (o + 4) 4), seedB := w32 (rdLE r (o + 8) 4), policy := rdLE r (o + 12) 1,
    age := rdLE r (o + 14) 2 }

/-- TABLES at offset `o`. -/
def parseTables (r : Rd) (o : Nat) : List TableCfg := (rangeFrom 3 0).map (fun i => parseTable r (o + 16 * i))

/-- The largest SIZE of table `t`. -/
def tableMax (t : Nat) : Nat := match t with
  | 0 => 32768
  | 1 => 16384
  | _ => 4096

/-- The entry of table `t` at `o` (Table 2-8). -/
def tableOk (r : Rd) (t o : Nat) : Bool :=
  let x := parseTable r o
  (decide (x.size = 0) || ((rangeFrom 10 6).any (fun k => decide (x.size = 2 ^ k)) && decide (x.size ≤ tableMax t))) &&
    decide (x.seedA ≠ x.seedB) && decide (x.policy ≤ 1) && rdZero r (o + 13) 1 &&
    (if t = 0 then decide (x.age ≠ 0) else decide (x.age = 0))

/-- Check 0x0C. -/
def tableChecks (r : Rd) (e : DirEntry) : List Chk :=
  chk (decide (e.len = 48)) 0x0C 3 e.off :: (rangeFrom 3 0).map (fun t => chk (tableOk r t (e.off + 16 * t)) 0x0C 3 (e.off + 16 * t))

/-- A PORTS entry. -/
def parsePort (r : Rd) (o : Nat) : PortCfg :=
  let f := rdLE r (o + 2) 1
  { mode := rdLE r o 1, speed := rdLE r (o + 1) 1, preempt := decide (f % 2 = 1), pauseC3 := decide (f / 2 % 2 = 1),
    stamp := decide (f / 4 % 2 = 1), mdio := rdLE r (o + 3) 1 % 4, phy := rdLE r (o + 4) 1, maxFrame := rdLE r (o + 6) 2,
    pcpMap := w32 (rdLE r (o + 8) 4), pvid := rdLE r (o + 12) 2 }

/-- PORTS at offset `o`. -/
def parsePorts (r : Rd) (o : Nat) : List PortCfg := (rangeFrom 8 0).map (fun i => parsePort r (o + 16 * i))

/-- The entry at `o` (Table 2-9). -/
def portOk (r : Rd) (o : Nat) : Bool :=
  let x := parsePort r o
  decide (x.mode ≤ 3) && (if x.mode = 1 then decide (x.speed ≤ 3) else decide (x.speed = 0)) && decide (rdLE r (o + 2) 1 < 8) &&
    decide (rdLE r (o + 3) 1 < 4) && decide (x.phy ≤ 31) && rdZero r (o + 5) 1 && decide (64 ≤ x.maxFrame ∧ x.maxFrame ≤ 9216) &&
    decide (1 ≤ x.pvid ∧ x.pvid ≤ 4094) && rdZero r (o + 14) 2

/-- Check 0x0D. -/
def portChecks (r : Rd) (e : DirEntry) : List Chk :=
  chk (decide (e.len = 128)) 0x0D 4 e.off :: (rangeFrom 8 0).map (fun p => chk (portOk r (e.off + 16 * p)) 0x0D 4 (e.off + 16 * p))

/-! ### SHIFT, EVENTS, POWER -/

/-- SHIFT at offset `o`. -/
def parseShift (r : Rd) (o : Nat) : ShiftCfg :=
  { vfio := rdLE r (o + 2) 2,
    channels := (rangeFrom 24 0).map (fun i =>
      { enable := decide (rdLE r (o + 8 + 8 * i) 1 = 1), entry := rdLE r (o + 10 + 8 * i) 2, stall := rdLE r (o + 12 + 8 * i) 2 }),
    code := (rangeFrom (rdLE r o 2) 0).map (fun i => BitVec.ofNat 64 (rdLE r (o + 0xC8 + 8 * i) 8)) }

/-- Check 0x0E; VFIO must match the level that VFSEL selects (R608). -/
def shiftChecks (r : Rd) (e : DirEntry) (vfsel : Bool) : List Chk :=
  let o := e.off
  let x := parseShift r o
  let n := x.code.length
  [ chk (decide (1 ≤ n ∧ n ≤ 2048) && decide (e.len = 0xC8 + 8 * n)) 0x0E 6 o,
    chk (decide (x.vfio = b2n vfsel)) 0x0E 6 (o + 2), chk (rdZero r (o + 4) 4) 0x0E 6 (o + 4) ] ++
  ((rangeFrom 24 0).zip x.channels).map (fun (q : Nat × ShiftCh) =>
    let a := o + 8 + 8 * q.1
    chk (decide (rdLE r a 1 ≤ 1) && rdZero r (a + 1) 1 && (!q.2.enable || decide (q.2.entry < n)) && rdZero r (a + 6) 2) 0x0E 6 a)

/-- EVENTS at offset `o`: entry e is the word of EVR_ROUTEe (section 2.2). -/
def parseEvents (r : Rd) (o : Nat) : List W32 := (rangeFrom 768 0).map (fun e => w32 (rdLE r (o + 4 * e) 4))

/-- A vector that the manager or a present tenant of a list owns (R52). -/
def vectorIn (mgr : Nat) (ts : List TenantCfg) (v : Nat) : Bool :=
  decide (v < mgr) || ts.any (fun t => t.present && decide (t.vbase ≤ v) && decide (v < t.vbase + t.vcount))

/-- The form of a route entry (R543). -/
def routeWordOk (secure : Bool) (mgr : Nat) (ts : List TenantCfg) (v : W32) : Bool :=
  let tgt := bits v 31 16
  decide (bits v 15 11 = 0) && (!bit v 10 || secure) &&
    (match bits v 7 0 with
     | 0 => decide (tgt = 0)
     | 1 => decide (0x2000 ≤ tgt)
     | 2 => vectorIn mgr ts tgt
     | 3 => decide (1 ≤ tgt ∧ tgt ≤ 0xFF)
     | 4 => decide (tgt < 4)
     | _ => false)

/-- Check 0x0F, against the vectors of an image or those in effect (R50, R543). -/
def eventChecks (r : Rd) (e : DirEntry) (mgr : Nat) (ts : List TenantCfg) : List Chk :=
  chk (decide (e.len = 3072)) 0x0F 7 e.off ::
  ((rangeFrom 768 0).zip (parseEvents r e.off)).map (fun (q : Nat × W32) =>
    chk (if secureEvent q.1 then decide (q.2 = 0#32) else routeWordOk false mgr ts q.2) 0x0F 7 (e.off + 4 * q.1))

/-- POWER at offset `o`. -/
def parsePower (r : Rd) (o : Nat) : PowerCfg :=
  { deadline := rdLE r o 4, margin := rdLE r (o + 4) 4, vcInit := rdLE r (o + 8) 2, vcMin := rdLE r (o + 10) 2,
    vcMax := rdLE r (o + 12) 2,
    domains := (rangeFrom 84 0).map (fun d => rdLE r (o + 0x10 + d / 4) 1 / 4 ^ (d % 4) % 4) }

/-- The domain of port `p`'s lane group. -/
def laneDomain (p : Nat) : Nat := if p < 4 then 77 else 78

/-- The domains that R51 wants ON, for a fabric and the ports. -/
def domainsOn (pounds : List PoundCfg) (ports : List PortCfg) (x : PowerCfg) : Bool :=
  let on := fun (d : Nat) => decide (nth x.domains d 0 = 2)
  (rangeFrom 64 0).all (fun c => !pounds.any (fun p => p.cores.getLsbD c) || on c) &&
    [68, 71, 72, 73, 74, 80].all on &&
    ((rangeFrom 8 0).zip ports).all (fun (q : Nat × PortCfg) => decide (q.2.mode = 0) || on (laneDomain q.1))

/-- Check 0x10 (R51, R621). -/
def powerChecks (r : Rd) (e : DirEntry) (period : Nat) (pounds : List PoundCfg) (ports : List PortCfg) : List Chk :=
  let o := e.off
  let x := parsePower r o
  [ chk (decide (e.len = 0x28)) 0x10 8 o, chk (decide (x.deadline < period)) 0x10 8 o,
    chk (decide (x.margin < x.deadline)) 0x10 8 (o + 4),
    chk (decide (600 ≤ x.vcMin ∧ x.vcMin ≤ x.vcInit ∧ x.vcInit ≤ x.vcMax ∧ x.vcMax ≤ 900 ∧ x.vcMin % 10 = 0 ∧
      x.vcMax % 10 = 0)) 0x10 8 (o + 8),
    chk (rdZero r (o + 14) 2) 0x10 8 (o + 14),
    chk (x.domains.all (fun v => decide (v ≠ 3)) && rdZero r (o + 0x10 + 21) 3) 0x10 8 (o + 0x10),
    chk (domainsOn pounds ports x) 0x10 8 (o + 0x10) ]

/-! ### TENANTS and SECURE -/

/-- A TENANTS entry. -/
def parseTenant (r : Rd) (o : Nat) : TenantCfg :=
  { present := decide (rdLE r o 1 % 2 = 1), qpairs := rdLE r (o + 1) 1, vbase := rdLE r (o + 2) 2, vcount := rdLE r (o + 4) 2,
    dregion := rdLE r (o + 6) 1, semGroups := w32 (rdLE r (o + 8) 4) }

/-- TENANTS at offset `o`. -/
def parseTenants (r : Rd) (o : Nat) : List TenantCfg := (rangeFrom 32 0).map (fun i => parseTenant r (o + 8 + 16 * i))

/-- The vector ranges of present tenants do not overlap (R52). -/
def vectorsApart : List TenantCfg → Bool
  | [] => true
  | x :: rest =>
    rest.all (fun y => !x.present || !y.present || apart x.vbase x.vcount y.vbase y.vcount) && vectorsApart rest

/-- The entry at `o` (section 2.2). -/
def tenantOk (r : Rd) (o mgr : Nat) (m : MemCfg) : Bool :=
  let x := parseTenant r o
  if x.present then
    decide (rdLE r o 1 = 1) && decide (1 ≤ x.qpairs ∧ x.qpairs ≤ 4) && decide (1 ≤ x.vcount ∧ x.vcount ≤ 64) &&
      decide (mgr ≤ x.vbase ∧ x.vbase + x.vcount ≤ 512) &&
      ((m.dregions[x.dregion]?).map (·.tenantVisible)).getD false && rdZero r (o + 7) 1 && rdZero r (o + 12) 4
  else rdZero r o 16

/-- Check 0x11. -/
def tenantChecks (r : Rd) (e : DirEntry) (m : MemCfg) : List Chk :=
  let o := e.off
  let mgr := rdLE r o 2
  [ chk (decide (e.len = 8 + 512)) 0x11 9 o, chk (decide (1 ≤ mgr ∧ mgr ≤ 512)) 0x11 9 o, chk (rdZero r (o + 2) 6) 0x11 9 (o + 2) ] ++
  (rangeFrom 32 0).map (fun i => chk (tenantOk r (o + 8 + 16 * i) mgr m) 0x11 9 (o + 8 + 16 * i)) ++
  [ chk (vectorsApart (parseTenants r o)) 0x11 9 (o + 8) ]

/-- The shape key: KDF "SHPK" of the root (Table 20-5). -/
def shapeKey (root : BitVec 256) : BitVec 256 := kdf root labelShpk (List.replicate 16 0#8)

/-- The content of SECURE after its IV, decrypted where its flag says so (section 2.2, R562). -/
def secureBytes (r : Rd) (e : DirEntry) (root : BitVec 256) : List Byte :=
  let body := rdBytes r (e.off + 16) (e.len - 16)
  if e.flags = 1 then aesCtr (shapeKey root) (BitVec.ofNat 128 (beNat (rdBytes r e.off 16))) body else body

/-- A byte source over a list. -/
def listRd (l : List Byte) : Rd := fun o => l.getD o 0#8

/-- SECURE from its decrypted content. -/
def parseSecure (r : Rd) : SecureCfg :=
  let wi := rdLE r 0 4
  let wd := rdLE r 4 4
  { ssBase := rdLE r 8 4, ssLen := rdLE r 12 4, sdregion := rdLE r 0x10 1,
    holdPd := (rangeFrom 3 0).map (fun i => w32 (rdLE r (0x14 + 4 * i) 4)), holdCk := w32 (rdLE r 0x20 2),
    semGroups := w32 (rdLE r 0x24 4), routes := (rangeFrom 32 0).map (fun i => w32 (rdLE r (0x28 + 4 * i) 4)),
    wardenI := rdBytes r 0xA8 wi, wardenD := rdBytes r (0xA8 + wi) wd }

/-- Check 0x12: decryption, fields and R53. -/
def secureChecks (r : Rd) (e : DirEntry) (root : BitVec 256) (m : MemCfg) (ps : List ProgCfg) (mgr : Nat)
    (ts : List TenantCfg) : List Chk :=
  let q := listRd (secureBytes r e root)
  let x := parseSecure q
  let o := e.off + 16
  [ chk (decide (e.flags = 0) || decide (root ≠ 0#256)) 0x12 10 e.off, chk (decide (16 + 0xA8 ≤ e.len)) 0x12 10 e.off,
    chk (decide (4 ≤ rdLE q 0 4 ∧ rdLE q 0 4 ≤ 32768)) 0x12 10 o,
    chk (decide (4 ≤ rdLE q 4 4 ∧ rdLE q 4 4 ≤ 16384)) 0x12 10 (o + 4),
    chk (decide (e.len = roundUp (16 + 0xA8 + rdLE q 0 4 + rdLE q 4 4) 4)) 0x12 10 o,
    chk (decide (x.ssBase % 4096 = 0 ∧ x.ssLen % 4096 = 0 ∧ x.ssLen ≠ 0 ∧ x.ssBase + x.ssLen ≤ 0x400000 - copySize ps) &&
      m.sregions.all (fun y => apart x.ssBase x.ssLen y.base y.length)) 0x12 10 (o + 8),
    chk (((m.dregions[x.sdregion]?).map (·.secure)).getD false) 0x12 10 (o + 0x10), chk (rdZero q 0x11 3) 0x12 10 (o + 0x11),
    chk (decide (rdLE q 0x14 12 < 2 ^ 84)) 0x12 10 (o + 0x14), chk (decide (rdLE q 0x20 2 < 2 ^ 14)) 0x12 10 (o + 0x20),
    chk (rdZero q 0x22 2) 0x12 10 (o + 0x22),
    chk (ts.all (fun t => !t.present || decide (t.semGroups &&& x.semGroups = 0#32))) 0x12 10 (o + 0x24) ] ++
  ((rangeFrom 32 0).zip x.routes).map (fun (p : Nat × W32) => chk (routeWordOk true mgr ts p.2) 0x12 10 (o + 0x28 + 4 * p.1))

/-! ### The whole of a full image -/

/-- An empty section for one that a directory does not name. -/
def noSect : DirEntry := { id := 0, flags := 0, rsv := 0, off := 0, len := 0, crc := 0 }

/-- Section `id`. -/
def sectOr (r : Rd) (id : Nat) : DirEntry := (sect r id).getD noSect

/-- Checks 0x01 to 0x08 of a full image in a bank (S08). -/
def fullHead (r : Rd) (otp : Otp) : Option ImgErr :=
  match firstFail (headChecks r 1 3145728) with
  | some e => some e
  | none => firstFail (signChecks r otp otp.arb)

/-- Checks 0x09 to 0x12 of a full image (S09). -/
def fullBody (r : Rd) (root : BitVec 256) (vfsel : Bool) : Option ImgErr :=
  let fab := parseFabric r (sectOff r 1)
  let ps := parsePrograms r (sectOff r 5)
  let m := parseMemory r (sectOff r 2)
  let ports := parsePorts r (sectOff r 4)
  let ts := parseTenants r (sectOff r 9)
  let mgr := rdLE r (sectOff r 9) 2
  firstFail (fabricChecks r (sectOr r 1) false ++ programChecks r (sectOr r 5) fab.pounds ++
    memoryChecks r (sectOr r 2) ps ports ++ tableChecks r (sectOr r 3) ++ portChecks r (sectOr r 4) ++
    shiftChecks r (sectOr r 6) vfsel ++ eventChecks r (sectOr r 7) mgr ts ++
    powerChecks r (sectOr r 8) fab.period fab.pounds ports ++ tenantChecks r (sectOr r 9) m ++
    secureChecks r (sectOr r 10) root m ps mgr ts)

/-- The byte source of image bank `b` (0 A, 1 B; section 21.5). -/
def State.bankRd (s : State) (b : Nat) : Rd := fun o => s.readByte (kFlash + b * 0x300000 + o)

/-- The byte source of shared SRAM from offset `a`. -/
def State.sramRd (s : State) (a : Nat) : Rd := fun o => s.readByte (kShared + a + o)

/-- A failed check recorded (SHP_LOADERR, SHP_ERROFF); `st` is the status of a delta's outcome. -/
def State.loadErr (s : State) (e : ImgErr) (st : Nat) : State :=
  (s.setReg A.shpLoaderr (w32 (e.code + st * 0x100 + e.sect * 0x10000))).setReg A.shpErroff (w32 (e.off % 0x400000))

end Sys2Proof.Machine
end

