-- ==== Sys2Proof/Machine/Upd.lean ====
section
/-! DEFINITION. The update record and the update commands (sections 21.5 and 21.6). -/

namespace Sys2Proof.Machine

/-! ### The flash -/

/-- The first byte of the flash data area (section 21.5). -/
def kData : Nat := kFlash + 0x600000

/-- Erase the 4 KiB sector at key `k`. -/
def State.eraseSector (s : State) (k : Nat) : State := s.writeBytes k (List.replicate 0x1000 0xFF#8)

/-- Erase `n` sectors from key `k`. -/
def State.eraseSectors (s : State) (k : Nat) : Nat → State
  | 0 => s
  | n + 1 => (s.eraseSector k).eraseSectors (k + 0x1000) n

/-- PD82 is ON ahead of a flash operation (R614). -/
def State.flashOn (s : State) : State := if s.pdOn 82 then s else s.setPd 82 2

/-! ### The update record (R599, Table 21-6) -/

/-- The update record. -/
structure UpdRec where
  seq : W32
  active : Nat
  state : Nat
  target : Nat
  tries : Nat
  rxLen : Nat
  rxOff : Nat
  secver : W32
  digest : BitVec 256
  arbPending : Bool
  wiped : Bool
  reason : Nat
  deriving DecidableEq, Repr

/-- The record taken when no copy is valid (R600). -/
def UpdRec.none' : UpdRec :=
  { seq := 0#32, active := 0, state := 0, target := 0, tries := 0, rxLen := 0, rxOff := 0, secver := 0#32, digest := 0#256,
    arbPending := false, wiped := false, reason := 0 }

/-- The 64 bytes of a record. -/
def UpdRec.bytes (r : UpdRec) : List Byte :=
  let b := [0x5A#8, 0x55#8, 0x50#8, 0x44#8] ++ leBytes 4 r.seq.toNat ++ leBytes 1 r.active ++ leBytes 1 r.state ++
    leBytes 1 r.target ++ leBytes 1 r.tries ++ leBytes 4 r.rxLen ++ leBytes 4 r.rxOff ++ leBytes 4 r.secver.toNat ++
    bytes256 r.digest ++ leBytes 1 (b2n r.arbPending + 2 * b2n r.wiped) ++ leBytes 1 r.reason ++ [0#8, 0#8]
  b ++ leBytes 4 (crc32c b).toNat

/-- The flash key of copy `i`. -/
def recKey (i : Nat) : Nat := kData + 0x1FB000 + 0x1000 * i

/-- Copy `i` of the record, if it is valid: its MAGIC and CRC are right (R599). -/
def State.recCopy (s : State) (i : Nat) : Option UpdRec :=
  let r : Rd := fun o => s.readByte (recKey i + o)
  if rdBytes r 0 4 = [0x5A#8, 0x55#8, 0x50#8, 0x44#8] ∧ crc32c (rdBytes r 0 60) = w32 (rdLE r 60 4) then
    some { seq := w32 (rdLE r 4 4), active := rdLE r 8 1, state := rdLE r 9 1, target := rdLE r 10 1, tries := rdLE r 11 1,
           rxLen := rdLE r 12 4, rxOff := rdLE r 16 4, secver := w32 (rdLE r 20 4), digest := word256 (rdBytes r 24 32),
           arbPending := decide (rdLE r 56 1 % 2 = 1), wiped := decide (rdLE r 56 1 / 2 % 2 = 1), reason := rdLE r 57 1 }
  else none

/-- The newest valid copy with its place (R599). -/
def State.recNewest (s : State) : Option (Nat × UpdRec) :=
  match s.recCopy 0, s.recCopy 1 with
  | some a, some b => if seqNewer b.seq a.seq then some (1, b) else some (0, a)
  | some a, none => some (0, a)
  | none, some b => some (1, b)
  | none, none => none

/-- The record in force (R599, R600). -/
def State.updRec (s : State) : UpdRec := (s.recNewest.map (·.2)).getD UpdRec.none'

/-- The UPD registers follow the record; UPD_STAT.LAST is kept. -/
def State.showRec (s : State) : State :=
  let r := s.updRec
  let st := r.state % 8 + 8 * (r.active % 2) + 0x10 * (r.target % 2) + 0x20 * (r.tries % 4) + 0x80 * b2n r.arbPending +
    0x100 * b2n r.wiped + 0x10000 * (r.reason % 16)
  ((((s.setReg A.updStat (w32 (st + 0x1000000 * s.fld A.updStat 31 24))).setReg A.updRxoff (w32 r.rxOff)).setReg A.updRxlen
    (w32 r.rxLen)).setReg A.updSecver r.secver).setReg A.updSeq r.seq

/-- Copy `i` erased and programmed with a record. -/
def State.putCopy (s : State) (i : Nat) (r : UpdRec) : State := (s.eraseSector (recKey i)).writeBytes (recKey i) r.bytes

/-- A record write: SEQ + 1 into the copy that does not hold the record; without a valid copy both are created (R599, R600). A
change of ACTIVE ends a kept OTHER_BANK fallback (R602). -/
def State.writeRec (s : State) (r : UpdRec) : State :=
  let s0 := s.flashOn
  let b := if r.active = s0.updRec.active then s0.boot else { s0.boot with fallback := setBit s0.boot.fallback 0 false }
  let s1 := { s0 with boot := b }
  match s1.recNewest with
  | some (i, old) => (s1.putCopy (1 - i) { r with seq := old.seq + 1#32 }).showRec
  | none => ((s1.putCopy 0 UpdRec.none').putCopy 1 { r with seq := 1#32 }).showRec

/-! ### Update commands (Table 21-7) -/

/-- Shared SRAM that holds requests and image data: an SREGION that the manager sees, or all of it under the limp shape
(Table 21-4, check 1). -/
def State.stagingOk (s : State) (o n : Nat) : Bool :=
  if bit (s.reg A.shpStat) 3 then decide (o + n ≤ 0x400000) else s.sramVisible o n

/-- A full image is in effect. -/
def State.fullImage (s : State) : Bool := s.shp.full && !bit (s.reg A.shpStat) 3

/-- What refuses every update command (R603). -/
def State.updGate (s : State) : Status :=
  if s.lcs' = 1 ∨ s.lcs' = 6 then .refusedRights
  else if !bit (s.reg A.secNstat) 4 then .refusedNotReady
  else if s.boot.noLog then .refusedNotReady
  else .ok

/-- LCS_ARB. -/
def State.arbWord (s : State) : W32 := w32 s.lcs.otp.arb

/-- An update command ends with a status: LAST, and MRSP0 to 5 (R603). -/
def State.updEnds (s : State) (st : Status) : State :=
  let s1 := (s.setFld A.updStat 31 24 st.code).showRec
  (s1.mboxWords [s1.reg A.updStat, s1.reg A.updRxoff, s1.reg A.updRxlen, s1.reg A.updSecver, s1.arbWord,
    s1.reg A.shpStat]).mboxEnds st

/-- An update command through the mailbox: its status and what it does when that is OK. -/
def State.updCmd (s : State) (ag : Agent) (seq : BitVec 16) (f : State → Status × State) :
    Host.Outcome State Fault Refusal :=
  s.mailbox ag seq (fun t =>
    if t.updGate ≠ .ok then t.updEnds t.updGate
    else
      let r := f t
      r.2.updEnds r.1)

/-- UPD_BEGIN: a download to a bank starts. -/
def State.updBegin (s : State) : Status × State :=
  let bank := s.fld (A.secMreq 0) 0 0
  let len := (s.reg (A.secMreq 1)).toNat
  let r := s.updRec
  if len = 0 then (.zeroLength, s)
  else if s.fullImage && decide (bank = s.fld A.shpStat 4 4) then (.refusedRights, s)
  else if r.state = 3 then (.refusedNotReady, s)
  else if len < 4096 ∨ 3145728 < len ∨ len % 16 ≠ 0 then (.refusedRange, s)
  else (.ok, s.writeRec { r with state := 1, target := bank, rxLen := len, rxOff := 0, secver := 0#32 })

/-- The length rule of UPD_DATA: whole sectors of 4 to 16 KiB, unless the chunk ends at RX_LEN. -/
def chunkOk (r : UpdRec) (n : Nat) : Bool :=
  decide (n ≤ 16384) && (decide (r.rxOff + n = r.rxLen) || (decide (n % 4096 = 0) && decide (r.rxOff + n < r.rxLen)))

/-- UPD_DATA: one chunk is erased, programmed and read back; `good` says that it read back as written. After a mismatch what
its sectors hold is open (assumption 6). -/
def State.updData (s : State) (good : Bool) : Status × State :=
  let src := (s.reg (A.secMreq 0)).toNat
  let n := (s.reg (A.secMreq 1)).toNat
  let r := s.updRec
  if n = 0 then (.zeroLength, s)
  else if r.state ≠ 1 then (.refusedNotReady, s)
  else if (s.reg (A.secMreq 2)).toNat ≠ r.rxOff || !s.stagingOk src n || !chunkOk r n then (.refusedRange, s)
  else
    let k := kFlash + r.target * 0x300000 + r.rxOff
    let s1 := s.flashOn.eraseSectors k ((n + 4095) / 4096)
    if good then
      let s2 := (s1.writeBytes k (s1.readBytes (kShared + src) n)).writeRec { r with rxOff := r.rxOff + n }
      (.ok, if r.rxOff + n = r.rxLen then s2.raise 736 else s2)
    else
      let s2 := s1.writeBytes k ((rangeFrom n k).map (Config.freeByte s1.free))
      (.refusedCapacity, { s2 with free := s2.free + 1 })

/-- The status that Table 2-12 gives check code `c`. -/
def checkStatus (c : Nat) : Status :=
  match c with
  | 0x06 | 0x07 | 0x08 | 0x14 => .refusedRights
  | 0x0B | 0x15 => .refusedCapacity
  | 0x13 => .refusedNotReady
  | _ => .refusedRange

/-- UPD_VERIFY: checks 0x01 to 0x08 on the target bank. -/
def State.updVerify (s : State) : Status × State :=
  let r := s.updRec
  if (r.state = 1 ∧ r.rxOff = r.rxLen) ∨ r.state = 2 then
    let b := s.bankRd r.target
    match fullHead b s.lcs.otp with
    | none => (.ok, s.writeRec { r with state := 2, secver := w32 (rdLE b 0x10 4), digest := imgDigest b })
    | some e =>
      let s1 := (s.writeRec { r with state := 0 }).setReg A.updCheck (w32 e.code)
      (checkStatus e.code, (s1.setReg (A.secMrsp 7) (w32 e.code)).raise 737)
  else (.refusedNotReady, s)

/-- UPD_ACTIVATE: the verified bank becomes active in TRIAL. -/
def State.updActivate (s : State) : Status × State :=
  let r := s.updRec
  if r.state = 2 then (.ok, (s.writeRec { r with active := r.target, state := 3, tries := 0 }).raise 738)
  else (.refusedNotReady, s)

/-- The anti-rollback counter burned up to a SECVER, at most 127 (R602, R604). -/
def State.burnArb (s : State) (v : Nat) : State :=
  { s with lcs := { s.lcs with otp := { s.lcs.otp with arb := max s.lcs.otp.arb (min 127 v) } } }

/-- UPD_CONFIRM (R604). -/
def State.updConfirm (s : State) : Status × State :=
  let r := s.updRec
  if r.state = 3 && s.fullImage && decide (s.fld A.shpStat 4 4 = r.active) && decide (s.shp.digest = r.digest) then
    let more := decide (s.lcs.otp.arb < r.secver.toNat)
    let r1 := { r with state := 0, reason := 0, arbPending := more }
    let s1 := s.writeRec r1
    let s2 := if more then (s1.burnArb r.secver.toNat).writeRec { r1 with arbPending := false } else s1
    (.ok, s2.raise 740)
  else (.refusedNotReady, s)

/-- UPD_ABORT: a download or a trial is given up. -/
def State.updAbort (s : State) : Status × State :=
  let r := s.updRec
  match r.state with
  | 0 => (.refusedNotReady, s)
  | 1 | 2 => (.ok, s.writeRec { r with state := 0 })
  | 3 => (.ok, s.writeRec { r with active := 1 - r.active, state := 4, reason := 2 })
  | _ => (.ok, s)

/-- UPD_BEGIN. -/
def execUpdBegin (ag : Agent) (seq : BitVec 16) (s : State) : Host.Outcome State Fault Refusal := s.updCmd ag seq State.updBegin
/-- UPD_DATA. -/
def execUpdData (ag : Agent) (seq : BitVec 16) (good : Bool) (s : State) : Host.Outcome State Fault Refusal :=
  s.updCmd ag seq (fun t => t.updData good)
/-- UPD_VERIFY. -/
def execUpdVerify (ag : Agent) (seq : BitVec 16) (s : State) : Host.Outcome State Fault Refusal := s.updCmd ag seq State.updVerify
/-- UPD_ACTIVATE. -/
def execUpdActivate (ag : Agent) (seq : BitVec 16) (s : State) : Host.Outcome State Fault Refusal :=
  s.updCmd ag seq State.updActivate
/-- UPD_CONFIRM. -/
def execUpdConfirm (ag : Agent) (seq : BitVec 16) (s : State) : Host.Outcome State Fault Refusal :=
  s.updCmd ag seq State.updConfirm
/-- UPD_ABORT. -/
def execUpdAbort (ag : Agent) (seq : BitVec 16) (s : State) : Host.Outcome State Fault Refusal := s.updCmd ag seq State.updAbort
/-- UPD_STATUS. -/
def execUpdStatus (ag : Agent) (seq : BitVec 16) (s : State) : Host.Outcome State Fault Refusal :=
  s.updCmd ag seq (fun t => (.ok, t))

end Sys2Proof.Machine
end

