-- ==== Sys2Proof/Machine/Lcs.lean ====
section
/-! DEFINITION. The life-cycle (chapter 21): challenges, signed requests, transitions with their wipes, debug grants, and the
programming of fuses. -/

namespace Sys2Proof.Machine

/-! ### Status views -/

/-- LCS_STATE as it reads. -/
def State.lcsWord (s : State) : W32 :=
  let slots := sumNat ((rangeFrom 4 0).map (fun i => b2n (decide (nth s.lcs.otp.keys i 0#256 ≠ 0#256)) * 2 ^ i))
  w32 (s.lcs' + 0x10 * slots + 0x100 * b2n s.sec.nonce.isSome + 0x200 * b2n s.lcs.otp.uid.isSome +
    0x10000 * s.fld A.lcsState 23 16)

/-- UNIT_ID; 0 until it is programmed. -/
def State.unitId (s : State) : W64 := s.lcs.otp.uid.getD 0#64

/-- LCS_DEBUG as it reads: the scope and the seconds left of the grant (R596). -/
def State.lcsDebugWord (s : State) : W32 :=
  let d := s.fld A.lcsDebug 7 3 * 8
  match s.lcs.grant with
  | none => w32 d
  | some (scope, stop) => w32 (scope + d + 0x100 * min 0x1FFFF ((stop - s.time + 999999999) / 1000000000))

/-- Rights of the JTAG port in a state (Table 21-1): 0 no, 1 by a grant, 2 yes; `what` 0 NORMAL, 1 SECURE, 2 BSCAN. -/
def tapRight (lcs what : Nat) : Nat :=
  match what, lcs with
  | 0, 1 | 0, 5 => 2
  | 0, 2 | 0, 3 | 0, 4 => 1
  | 1, 1 => 2
  | 1, 2 | 1, 5 => 1
  | 2, 4 => 1
  | 2, _ => 2
  | _, _ => 0

/-- The JTAG port may do `what` now (R596, R597). -/
def State.tapMay (s : State) (what : Nat) : Bool :=
  match tapRight s.lcs' what with
  | 2 => true
  | 1 => (s.lcs.grant.map (fun g => decide (g.1 / 2 ^ what % 2 = 1))).getD false
  | _ => false

/-- The state with instruction `n` in the debug TAP (R648). -/
def State.tapIr (s : State) (n : Nat) : State := { s with jtag := { s.jtag with debugIr := n } }

/-- A TAP instruction outside the rights in effect is counted (R597). -/
def State.tapCount (s : State) : State :=
  (s.setFld A.lcsDebug 7 3 (min 31 (s.fld A.lcsDebug 7 3 + 1))).status .refusedRights

/-- An instruction of the debug TAP outside the rights in effect acts as BYPASS and is counted (R597). -/
def State.tapDenied (s : State) : State := s.tapCount.tapIr 0xFF

/-! ### Challenges (R588) -/

/-- CHALLENGE served: the nonce, or the status that no random output gives; a failed one leaves no nonce. -/
def State.challenge (s : State) : Status × State :=
  let none' := fun (t : State) => ({ t with sec := { t.sec with nonce := none } } : State)
  if s.rngState = 3 then (.healthFail, none' s)
  else if s.rngState ≠ 1 then (.noEntropy, none' s)
  else
    let d := s.drawWords 4
    let n := BitVec.ofNat 128 (wordsNat d.1)
    (.ok, { d.2 with sec := { d.2.sec with nonce := some (n, d.2.time + 600000000000) } })

/-- The 4 words of a nonce, in byte order. -/
def nonceWords (n : BitVec 128) : List W32 :=
  (rangeFrom 4 0).map (fun i => w32 (leNat (((beBytes 16 n.toNat).drop (4 * i)).take 4)))

/-- CHALLENGE, through the mailbox or the debug TAP (`tap`, R598). -/
def execChallenge (ag : Agent) (seq : BitVec 16) (tap : Bool) (s : State) : Host.Outcome State Fault Refusal :=
  if tap then
    (if s.boot.step < 4 then .next s
     else
       let r := (s.tapIr 0x10).challenge
       .next (r.2.answer r.1 (((r.2.sec.nonce.map (·.1)).getD 0#128).setWidth 64)))
  else
    s.mailbox ag seq (fun t =>
      if !bit (t.reg A.secNstat) 4 then t.mboxEnds .refusedNotReady
      else
        let r := t.challenge
        let ws := match r.2.sec.nonce with
          | some (n, _) => nonceWords n ++ [lo32 r.2.unitId, hi32 r.2.unitId, w32 r.2.lcs']
          | none => []
        (r.2.mboxWords ws).mboxEnds r.1)

/-- NONCE_EXPIRY: 600 s after the nonce was issued. -/
def execNonceExpiry (s : State) : Host.Outcome State Fault Refusal :=
  match s.sec.nonce with
  | none => .next s
  | some (_, e) =>
    let s1 := s.advance e
    .next { s1 with sec := { s1.sec with nonce := none } }

/-! ### Signed requests (Tables 21-2 to 21-4) -/

/-- The signing slots of a transition (Table 21-2); none when the table has no such transition. -/
def transitionSlots (source target : Nat) : List Nat :=
  match source, target with
  | 1, 2 => [0, 1]
  | 2, 3 => [0, 1]
  | 3, 4 => [2, 3]
  | 2, 5 => [0, 1]
  | 3, 5 | 4, 5 => [2, 3]
  | 2, 6 | 5, 6 => [0, 1]
  | 3, 6 | 4, 6 => [2, 3]
  | _, _ => []

/-- The two key hashes of EXTRA. -/
def extraHash (extra : List Byte) (i : Nat) : BitVec 256 := word256 ((extra.drop (32 * i)).take 32)

/-- Checks 2 and 3 of Table 21-4 on the 240 bytes of a request, with R587. -/
def State.requestForm (s : State) (r : Rd) : Status :=
  let kind := rdLE r 4 1
  let arg := rdLE r 5 1
  let dur := rdLE r 0x20 4
  let oem := decide (kind = 1 ∧ arg = 3 ∧ s.lcs' = 2)
  if kind = 2 ∧ dur = 0 then .zeroLength
  else if rdBytes r 0 4 ≠ [0x5A#8, 0x4C#8, 0x43#8, 0x52#8] ∨ kind < 1 ∨ 2 < kind then .refusedRange
  else if !rdZero r 7 1 || !rdZero r 0x24 12 then .refusedRange
  else if kind = 1 ∧ dur ≠ 0 ∨ kind = 2 ∧ (86400 < dur ∨ 8 ≤ arg) then .refusedRange
  else if !oem && !rdZero r 0x70 64 then .refusedRange
  else if kind = 1 ∧ arg = 2 ∧ s.lcs' = 1 ∧ (s.lcs.otp.uid = none ∨ nth s.lcs.otp.keys 0 0#256 = 0#256) then .refusedNotReady
  else if rdLE r 8 8 ≠ s.unitId.toNat then .refusedRights
  else .ok

/-- Checks 5 to 8 of Table 21-4. -/
def State.requestRights (s : State) (r : Rd) : Status :=
  let kind := rdLE r 4 1
  let arg := rdLE r 5 1
  let slots := if kind = 1 then transitionSlots s.lcs' arg else imageSlots s.lcs'
  let pub := rdBytes r 0x30 64
  let x := rdBytes r 0x70 64
  let held := fun (i : Nat) => nth s.lcs.otp.keys i 0#256
  if kind = 1 ∧ slots = [] then .refusedRights
  else if kind = 2 && (rangeFrom 3 0).any (fun b => decide (arg / 2 ^ b % 2 = 1) && decide (tapRight s.lcs' b = 0)) then
    .refusedRights
  else if !(slots.contains (rdLE r 6 1) && keyHashOk s.lcs.otp (rdLE r 6 1) pub) then .refusedRights
  else if !Config.ecdsaVerify (Config.sha256 (rdBytes r 0 0xB0)) (BitVec.ofNat 512 (beNat pub))
      (BitVec.ofNat 512 (beNat (rdBytes r 0xB0 64))) then .refusedRights
  else if kind = 1 ∧ arg = 3 ∧ (extraHash x 0 = 0#256 ∨ (held 2 ≠ 0#256 ∧ held 2 ≠ extraHash x 0) ∨
      (held 3 ≠ 0#256 ∧ held 3 ≠ extraHash x 1)) then .refusedRange
  else .ok

/-- The checks of a request in their order; a request that reaches check 4 ends the nonce (R589, R590). -/
def State.requestCheck (s : State) (r : Rd) : Status × State :=
  if s.requestForm r ≠ .ok then (s.requestForm r, s)
  else
    let s1 := { s with sec := { s.sec with nonce := none } }
    if (s.sec.nonce.map (·.1)) ≠ some (BitVec.ofNat 128 (beNat (rdBytes r 0x10 16))) then (.refusedNotReady, s1)
    else (s1.requestRights r, s1)

/-- The answer of a request: LCS_STATE.LAST, and the mailbox or the debug TAP's status byte (R598). -/
def State.lcsEnds (s : State) (tap : Bool) (st : Status) : State :=
  let s1 := s.setFld A.lcsState 23 16 st.code
  if tap then State.status { s1 with lcs := { s1.lcs with tapStatus := st.code } } st else s1.mboxEnds st

/-- A request is checked: accepted ones wait to be performed, refused ones end (R589). -/
def State.request (s : State) (tap : Bool) (r : Rd) : State :=
  let c := s.requestCheck r
  let kind := rdLE r 4 1
  if c.1 = .ok then
    let q : LcsReq := { kind := kind, arg := rdLE r 5 1, duration := rdLE r 0x20 4, extra := rdBytes r 0x70 64, tap := tap }
    let s1 := { c.2 with lcs := { c.2.lcs with accepted := some q, tapStatus := if tap then 0xFF else c.2.lcs.tapStatus } }
    (if kind = 1 then s1.raise 732 else s1).status .ok
  else
    let s1 := if kind = 2 then c.2.raise 735 else c.2
    s1.lcsEnds tap c.1

/-- LCS_REQUEST, through the mailbox with the request in shared SRAM (Table 21-4, check 1), or through the debug TAP with its
240 bytes (`tap`, R598). -/
def execLcsRequest (ag : Agent) (seq : BitVec 16) (tap : Bool) (bytes : List (BitVec 8)) (s : State) :
    Host.Outcome State Fault Refusal :=
  if tap then
    (if s.boot.step < 4 then .next s
     else if s.lcs.accepted.isSome then .next (s.tapIr 0x11)
     else .next ((s.tapIr 0x11).request true (listRd bytes)))
  else
    s.mailbox ag seq (fun t =>
      let o := (t.reg (A.secMreq 0)).toNat
      let n := (t.reg (A.secMreq 1)).toNat
      if !bit (t.reg A.secNstat) 4 || t.lcs.accepted.isSome then t.lcsEnds false .refusedNotReady
      else if n = 0 then t.lcsEnds false .zeroLength
      else if n ≠ 240 || !t.stagingOk o 240 then t.lcsEnds false .refusedRange
      else t.request false (t.sramRd o))

/-! ### Transitions (R591 to R595) -/

/-- Step 1 for ANALYSIS and SCRAP: the root and the key register, and the record with WIPED 0. -/
def State.wipeBegin (s : State) (target : Nat) : State :=
  if target = 5 ∨ target = 6 then
    let s1 := s.zeroRoot.setKey 0#256 0
    s1.writeRec { s1.updRec with wiped := false }
  else s

/-- Key-hash slots 2 and 3 with the hashes of EXTRA; when a bit does not read back, what has been burned is open
(assumption 6). -/
def State.burnKeys (s : State) (extra : List Byte) (good : Bool) : State :=
  let free := BitVec.ofNat 256 (wordsNat ((rangeFrom 8 s.free).map Config.freeWord))
  let m := if good then BitVec.allOnes 256 else free
  let k := s.lcs.otp.keys
  let put := fun (i : Nat) => nth k i 0#256 ||| (extraHash extra (i - 2) &&& m)
  { s with free := s.free + 8,
           lcs := { s.lcs with otp := { s.lcs.otp with keys := [nth k 0 0#256, nth k 1 0#256, put 2, put 3] } } }

/-- The fuse group of a state with the bits that were burned. -/
def State.burnState (s : State) (target : Nat) (got : BitVec 3) : State :=
  let g := (rangeFrom 5 2).map (fun i => if i = target then nth s.lcs.otp.groups (i - 2) 0#3 ||| got
                                         else nth s.lcs.otp.groups (i - 2) 0#3)
  { s with lcs := { s.lcs with otp := { s.lcs.otp with groups := g } } }

/-- Steps 3 to 5 as far as the transition goes by itself: the fuse, the end of every grant, EV733, and the wipe that
follows; `got` is what the fuse group reads back (R594). -/
def State.enterState (s : State) (target : Nat) (got : BitVec 3) : Status × State :=
  let s1 := s.burnState target got
  if got ≠ 7#3 then (.timeout, s1.raise 743)
  else
    let w := if target = 5 ∨ target = 6 then some target else s1.lcs.wipe
    (.ok, State.raise { s1 with lcs := { s1.lcs with grant := none, wipe := w } } 733)

/-- TRANSITION: an accepted transition is performed; `keysOk` and `got` say what the fuses read back (R591, R594). -/
def execTransition (keysOk : Bool) (got : BitVec 3) (s : State) : Host.Outcome State Fault Refusal :=
  match s.lcs.accepted with
  | none => .next s
  | some q =>
    if q.kind ≠ 1 then .next s
    else
      let s1 := State.wipeBegin { s with lcs := { s.lcs with accepted := none } } q.arg
      if q.arg = 3 && !keysOk then .next (((s1.burnKeys q.extra false).raise 743).lcsEnds q.tap .timeout)
      else
        let r := (if q.arg = 3 then s1.burnKeys q.extra true else s1).enterState q.arg got
        .next (r.2.lcsEnds q.tap r.1)

/-- The secure DREGIONs on channels in service, zeroed (Table 21-5). -/
def State.zeroSecureDram (s : State) : State :=
  (s.shp.memory.dregions.filter (fun d => d.secure && s.chInService d.channel)).foldl
    (fun (t : State) d => t.dramWrite d.channel (d.base * 0x100000) (List.replicate (d.length * 0x100000) 0#8)) s

/-- The flash items of Table 21-5: the data area below 0x1F_B000, and for SCRAP the banks. -/
def State.wipeFlash (s : State) (target : Nat) : State :=
  let s1 := s.flashOn.eraseSectors kData 507
  if target = 6 then s1.eraseSectors kFlash 1536 else s1

/-- TRANSITION_WIPE: the items of Table 21-5 are wiped, the record is written with WIPED 1, and a soft reset follows
(R591). -/
def execTransitionWipe (s : State) : Host.Outcome State Fault Refusal :=
  match s.lcs.wipe with
  | none => .next s
  | some target =>
    let z := fun (n : Nat) => List.replicate n 0#8
    let s1 := (s.writeBytes (kDram 64) (z 0x4000)).writeBytes kImageStore (z 0x4000)
    let s2 := (s1.sramWrite s1.shp.secure.ssBase (z s1.shp.secure.ssLen)).zeroSecureDram
    let s3 := s2.wipeFlash target
    .next ((s3.writeRec { s3.updRec with wiped := true }).chipReset 4)

/-- SCRAP_RAW: the debug TAP instruction moves a RAW unit to SCRAP (Table 21-2, Table 23-16). -/
def execScrapRaw (v : W32) (got : BitVec 3) (s : State) : Host.Outcome State Fault Refusal :=
  if s.boot.step < 4 then .next s
  else if s.lcs' ≠ 1 then .next s.tapDenied
  else if v ≠ 0x53435250#32 then .next ((s.tapIr 0x12).status .ok)
  else
    let r := ((s.tapIr 0x12).wipeBegin 6).enterState 6 got
    .next (r.2.status r.1)

/-- OTP_PROG: UNIT_ID (target 0) or key-hash slot 0 or 1 (targets 1, 2), each once, in RAW only (R587, Table 23-16). -/
def execOtpProg (target : BitVec 8) (v : BitVec 256) (s : State) : Host.Outcome State Fault Refusal :=
  let o := s.lcs.otp
  let put := fun (st : Status) (p : Otp) =>
    State.status { s.tapIr 0x13 with lcs := { s.lcs with otp := p, otpStatus := st.code } } st
  if s.boot.step < 4 then .next s
  else if s.lcs' ≠ 1 then .next s.tapDenied
  else
    match target.toNat with
    | 0 => if o.uid.isSome then .next (put .refusedRights o) else .next (put .ok { o with uid := some (v.setWidth 64) })
    | 1 =>
      if nth o.keys 0 0#256 ≠ 0#256 then .next (put .refusedRights o)
      else .next (put .ok { o with keys := v :: o.keys.drop 1 })
    | 2 =>
      if nth o.keys 1 0#256 ≠ 0#256 then .next (put .refusedRights o)
      else .next (put .ok { o with keys := o.keys.take 1 ++ v :: o.keys.drop 2 })
    | _ => .next (put .refusedRange o)

/-! ### Debug grants (R596) -/

/-- DEBUG_GRANT: an accepted DEBUG request grants its scope; a new grant replaces the one in effect. -/
def execDebugGrant (s : State) : Host.Outcome State Fault Refusal :=
  match s.lcs.accepted with
  | none => .next s
  | some q =>
    if q.kind ≠ 2 then .next s
    else
      let g := some (q.arg, s.time + q.duration * 1000000000)
      .next ((State.raise { s with lcs := { s.lcs with accepted := none, grant := g } } 734).lcsEnds q.tap .ok)

/-- DEBUG_REVOKE: the grant in effect ends. -/
def execDebugRevoke (ag : Agent) (seq : BitVec 16) (s : State) : Host.Outcome State Fault Refusal :=
  s.mailbox ag seq (fun t =>
    if !bit (t.reg A.secNstat) 4 then t.mboxEnds .refusedNotReady
    else State.mboxEnds { t with lcs := { t.lcs with grant := none } } .ok)

/-- DEBUG_GRANT_EXPIRY: the grant's time runs out. -/
def execDebugGrantExpiry (s : State) : Host.Outcome State Fault Refusal :=
  match s.lcs.grant with
  | none => .next s
  | some (_, e) =>
    let s1 := s.advance e
    .next { s1 with lcs := { s1.lcs with grant := none } }

end Sys2Proof.Machine
end

