-- ==== Sys2Proof/Machine/Mem.lean ====
section
/-! DEFINITION. Loads, stores, the claim alias, atomic operations, SYNC, NOP, ILD, and the ends of posted stores and holds
(sections 6.4, 6.5, 7.6, 15.4). -/

namespace Sys2Proof.Machine

/-! ### The M format (Tables 6-6 and 7-1) -/

/-- The index register of indexed mode. -/
def idxReg (imm : BitVec 12) : RegCode := BitVec.ofNat 5 (imm.toNat / 0x80)

/-- The fields of an M-format word are listed: modes 1 and 2 have [11:0] zero, mode 3 names an index register and has
[4:0] zero; an 8-byte access names an even register (R185, R199). -/
def memOk (rd rb : RegCode) (mode size : BitVec 2) (imm : BitVec 12) : Bool :=
  regOk rd && regOk rb && (decide (size ≠ 3#2) || multiOk rd 2) &&
    match mode with
    | 0#2 => true
    | 3#2 => regOk (idxReg imm) && decide (imm.toNat % 0x20 = 0)
    | _ => decide (imm = 0#12)

/-- Bytes of a SIZE code. -/
def sizeBytes (size : BitVec 2) : Nat := 2 ^ size.toNat

/-- The effective address (Table 6-6). -/
def Ctx.ea (x : Ctx) (rb : RegCode) (mode : BitVec 2) (n : Nat) (imm : BitVec 12) : W32 :=
  match mode with
  | 0#2 => x.rd rb + simm imm
  | 1#2 => x.rd rb
  | 2#2 => x.rd rb - w32 n
  | _ => x.rd rb + (x.rd (idxReg imm) <<< (imm.toNat / 0x20 % 4))

/-- The base writeback (R162). -/
def Ctx.writeback (x : Ctx) (rb : RegCode) (mode : BitVec 2) (n : Nat) : List PWrite :=
  match mode with
  | 1#2 => x.dst rb (x.rd rb + w32 n)
  | 2#2 => x.dst rb (x.rd rb - w32 n)
  | _ => []

/-- The writes of a loaded number (R199): a pair for 8 bytes, sign-extended for LDS. -/
def Ctx.loadWrites (x : Ctx) (rd : RegCode) (size : BitVec 2) (signed : Bool) (bs : List Byte) : List PWrite :=
  let v := leNat bs
  if size = 3#2 then x.dstMulti rd 2 v
  else x.dst rd (if signed then wInt (sextNat (8 * sizeBytes size) v) else w32 v)

/-- The writebacks that a load keeps: none to a register that it loads (R162). -/
def keepBase (wb ld : List PWrite) : List PWrite := wb.filter (fun a => !ld.any (fun b => decide (b.tgt = a.tgt)))

/-- A load (LD, LDS). -/
def State.loadIns (s : State) (w : SlotId) (ok : Bool) (rd rb : RegCode) (mode size : BitVec 2) (imm : BitVec 12)
    (signed : Bool) : Host.Outcome State Fault Refusal :=
  s.issue w ok (fun x t =>
    let n := sizeBytes size
    let a := x.ctx.ea rb mode n imm
    let k := t.accessKind w a.toNat n true false
    if k ≠ 0 then t.accessFault w k 1 size.toNat false a x.ctx.pc
    else
      let t1 := if 0x18000000 ≤ a.toNat ∧ a.toNat < 0x20000000 then t.drain w else t
      let ld := x.ctx.loadWrites rd size signed (t1.loadBytes w a.toNat n)
      let wb := keepBase (x.ctx.writeback rb mode n) ld
      if a.toNat < 0x4000 then t1.retire w wb ld x.next
      else (t1.loadReach w a.toNat n).hold w (wb ++ ld) none (some (a, size.toNat)) false x.next)

/-- LD: a zero-extended load. -/
def execLd (w : SlotId) (rd rb : RegCode) (mode size : BitVec 2) (imm : BitVec 12) (s : State) :
    Host.Outcome State Fault Refusal := s.loadIns w (memOk rd rb mode size imm) rd rb mode size imm false

/-- LDS: a sign-extended load; size 3 is undefined. -/
def execLds (w : SlotId) (rd rb : RegCode) (mode size : BitVec 2) (imm : BitVec 12) (s : State) :
    Host.Outcome State Fault Refusal :=
  s.loadIns w (memOk rd rb mode size imm && decide (size ≠ 3#2)) rd rb mode size imm true

/-! ### Stores and the claim alias (R445) -/

/-- A store of value `v` through the claim alias of the word at shared-SRAM offset `o` by agent `ag` (R445). -/
def State.aliasStore (s : State) (ag : Agent) (o : Nat) (v : W32) : State :=
  let m := s.readLE (kShared + o) 4
  let mine := bits v 15 0 * 0x10000 + ag.toNat
  if bits v 29 16 ≠ 0 then s
  else if bits v 31 30 = 0 ∧ m % 0x1000 = 0 then s.sramWrite o (leBytes 4 mine)
  else if bits v 31 30 = 2 ∧ m = mine then s.sramWrite o (leBytes 4 0)
  else s

/-- The bytes that a store moves. -/
def Ctx.storeBytes (x : Ctx) (rd : RegCode) (size : BitVec 2) : List Byte :=
  leBytes (sizeBytes size) (x.rdMulti rd (if size = 3#2 then 2 else 1))

/-- What a store does at its address, once it is allowed: through the alias it acts as SYNC and holds (R169, R445). -/
def State.storeAct (s : State) (w : SlotId) (x : Slot) (rd : RegCode) (size : BitVec 2) (a : W32) (wb : List PWrite) :
    State :=
  if 0x18000000 ≤ a.toNat ∧ a.toNat < 0x20000000 then
    ((s.drain w).aliasStore (slotAgent w) (a.toNat - 0x18000000) (x.ctx.rd rd)).hold w wb none none false x.next
  else (s.postStore w a.toNat (x.ctx.storeBytes rd size)).done1 w x wb

/-- A store. -/
def State.storeIns (s : State) (w : SlotId) (ok : Bool) (rd rb : RegCode) (mode size : BitVec 2) (imm : BitVec 12) :
    Host.Outcome State Fault Refusal :=
  s.issue w ok (fun x t =>
    let n := sizeBytes size
    let a := x.ctx.ea rb mode n imm
    let k := t.accessKind w a.toNat n false true
    if k ≠ 0 then t.accessFault w k 1 size.toNat true a x.ctx.pc
    else t.storeAct w x rd size a (x.ctx.writeback rb mode n))

/-- ST. -/
def execSt (w : SlotId) (rd rb : RegCode) (mode size : BitVec 2) (imm : BitVec 12) (s : State) :
    Host.Outcome State Fault Refusal := s.storeIns w (memOk rd rb mode size imm) rd rb mode size imm

/-- A word store whose value asks for alias operation `op` at an alias address: the store as ST performs it; otherwise the
instruction is not this one and nothing is issued. -/
def State.aliasIns (s : State) (w : SlotId) (rs rb : RegCode) (disp : BitVec 12) (op : Nat) :
    Host.Outcome State Fault Refusal :=
  let c := (s.slot w).ctx
  let a := (c.ea rb 0#2 4 disp).toNat
  if decide (0x18000000 ≤ a ∧ a < 0x18400000) && decide (bits (c.rd rs) 31 30 = op) then
    s.storeIns w (memOk rs rb 0#2 2#2 disp) rs rb 0#2 2#2 disp
  else .next s

/-- ALIAS_CLAIM: a store through the claim alias with v[31:30] = 0b00 (R445). -/
def execAliasClaim (w : SlotId) (rs rb : RegCode) (disp : BitVec 12) (s : State) : Host.Outcome State Fault Refusal :=
  s.aliasIns w rs rb disp 0

/-- ALIAS_RELEASE: a store through the claim alias with v[31:30] = 0b10 (R445). -/
def execAliasRelease (w : SlotId) (rs rb : RegCode) (disp : BitVec 12) (s : State) : Host.Outcome State Fault Refusal :=
  s.aliasIns w rs rb disp 2

/-- POSTED_STORE_PERFORMED: the `k`-th queued store of slot `w` is performed, unless an earlier one has the same target
(R166, R168). -/
def execPostedStorePerformed (w : SlotId) (k : Fin 4) (s : State) : Host.Outcome State Fault Refusal :=
  let x := s.slot w
  match x.stores[k.val]? with
  | none => .next s
  | some p =>
    if (x.stores.take k).any (fun q => decide (storeTarget q = storeTarget p)) then .next s
    else .next ((s.setSlot w { x with stores := x.stores.eraseIdx k }).performStore (slotAgent w) p)

/-! ### The end of a hold -/

/-- What a slot holds for still waits: a commit's copy (R353), or random words of a SIGN or GENERATE (R559, R569). -/
def State.commitWaits (s : State) (w : SlotId) : Bool :=
  s.brg.commits.any (fun c => decide (c.agent = slotAgent w)) ||
    s.sec.queue.any (fun r => decide (r.agent = slotAgent w) && decide (r.kind = 2 ∨ r.kind = 3))

/-- A lookup is accepted: fewer than 96 outstanding in its cluster, and an entry for its result (R230, R231). -/
def State.acceptUnit (s : State) (w : SlotId) (r : UnitReq) : Option State :=
  let q := slotQuad w
  match r with
  | .lkup t key tag =>
    if (s.uni.lookups.filter (fun l => decide (l.quad = q))).length < 96 ∧ (isPostable tag = false ∨ s.entryFree tag = true)
    then
      let s1 := if isPostable tag then s.reserve tag else s
      some { s1 with uni := { s1.uni with lookups := s1.uni.lookups ++ [{ quad := q, table := t, key := key, tag := tag }] } }
    else none
  | .sprd req tag =>
    if isPostable tag = false ∨ s.entryFree tag = true then
      let s1 := if isPostable tag then s.reserve tag else s
      some { s1 with uni := { s1.uni with preds := s1.uni.preds ++
        [{ quad := q, req := req, tag := tag, agent := slotAgent w }] } }
    else none

/-- Slot `w`'s hold ends: everything pending lands, then its results (R217). -/
def State.endHold (s : State) (w : SlotId) (ws : List PWrite) : State :=
  let s1 := (s.landAll w).land w ws
  s1.setSlot w { s1.slot w with held := none }

/-- HOLD_COMPLETE: the access or unit that slot `w` holds for answers; a poisoned load faults, and a submission that its
unit does not accept keeps holding (R217, R230, R231, R428). -/
def execHoldComplete (w : SlotId) (s : State) : Host.Outcome State Fault Refusal :=
  let x := s.slot w
  match x.held with
  | none => .next s
  | some h =>
    if s.commitWaits w then .next s
    else if h.poisoned then
      let a := h.addr.getD (0#32, 0)
      .next ((s.setSlot w { x with held := none }).accessFault w 1 1 a.2 false a.1 (x.ctx.pc - 4#32))
    else
      match h.submit with
      | none => .next (s.endHold w h.writes)
      | some r =>
        match s.acceptUnit w r with
        | some s1 => .next (s1.endHold w h.writes)
        | none => .next s

/-! ### Atomic operations (R200, Table 7-8) -/

/-- The fields of an AMO word are listed: sizes of Table 7-8 and its register pairs and quads. -/
def amoOk (func : Nat) (rd rb ra : RegCode) (size : Nat) : Bool :=
  regOk rb && atomicSized func size && multiOk rd (2 ^ size) && multiOk ra (2 ^ size)

/-- The fault kind of an atomic operation: shared SRAM and the DRAM window only (R200). -/
def State.amoKind (s : State) (w : SlotId) (a n : Nat) : Nat :=
  if (0x10000000 ≤ a ∧ a < 0x10400000) ∨ (0x40000000 ≤ a ∧ a < 0x80000000) then s.accessKind w a n true true else 1

/-- The old value of an atomic operation and the state after it (R451). -/
def State.amoAct (s : State) (w : SlotId) (a func n x c : Nat) : Nat × State :=
  if a < 0x40000000 then s.sramAtomic (a - 0x10000000) func n x c
  else
    let p := s.winAddr w a
    s.dramAtomic p.1 p.2 func n x c (slotAgent w)

/-- SIZE of a faulting atomic operation; Table 6-8 gives no code for 16 bytes (assumption 6). -/
def State.amoSize (s : State) (size : Nat) : Nat × State :=
  if size < 2 then (size + 2, s) else ((s.fresh).1.toNat % 4, (s.fresh).2)

/-- An atomic operation: it acts as SYNC, then is performed and holds; CAS sets Z (R169, R200). -/
def State.amoIns (s : State) (w : SlotId) (func : Nat) (rd rb ra : RegCode) (size : Nat) :
    Host.Outcome State Fault Refusal :=
  s.issue w (amoOk func rd rb ra size) (fun x t =>
    let n := atomicBytes size
    let a := x.ctx.rd rb
    let k := t.amoKind w a.toNat n
    if k ≠ 0 then
      let z := t.amoSize size
      z.2.accessFault w k 1 z.1 true a x.ctx.pc
    else
      let c := x.ctx.rdMulti rd (n / 4)
      let p := (t.drain w).amoAct w a.toNat func n (x.ctx.rdMulti ra (n / 4)) c
      let zw := if func = 2 then [zWrite (decide (p.1 = c))] else []
      p.2.hold w (x.ctx.dstMulti rd (n / 4) p.1 ++ zw) none none false x.next)

/-- AMO FADD. -/
def execAmoFadd (w : SlotId) (rd rb ra : RegCode) (size : BitVec 2) (s : State) : Host.Outcome State Fault Refusal :=
  s.amoIns w 0 rd rb ra size.toNat
/-- AMO SWAP. -/
def execAmoSwap (w : SlotId) (rd rb ra : RegCode) (size : BitVec 2) (s : State) : Host.Outcome State Fault Refusal :=
  s.amoIns w 1 rd rb ra size.toNat
/-- AMO CAS. -/
def execAmoCas (w : SlotId) (rd rb ra : RegCode) (size : BitVec 2) (s : State) : Host.Outcome State Fault Refusal :=
  s.amoIns w 2 rd rb ra size.toNat
/-- AMO MIN. -/
def execAmoMin (w : SlotId) (rd rb ra : RegCode) (size : BitVec 2) (s : State) : Host.Outcome State Fault Refusal :=
  s.amoIns w 3 rd rb ra size.toNat
/-- AMO MAX. -/
def execAmoMax (w : SlotId) (rd rb ra : RegCode) (size : BitVec 2) (s : State) : Host.Outcome State Fault Refusal :=
  s.amoIns w 4 rd rb ra size.toNat
/-- AMO MINU. -/
def execAmoMinu (w : SlotId) (rd rb ra : RegCode) (size : BitVec 2) (s : State) : Host.Outcome State Fault Refusal :=
  s.amoIns w 5 rd rb ra size.toNat
/-- AMO MAXU. -/
def execAmoMaxu (w : SlotId) (rd rb ra : RegCode) (size : BitVec 2) (s : State) : Host.Outcome State Fault Refusal :=
  s.amoIns w 6 rd rb ra size.toNat
/-- AMO WADD: on 16 bytes, modulo 2^128. -/
def execAmoWadd (w : SlotId) (rd rb ra : RegCode) (s : State) : Host.Outcome State Fault Refusal :=
  s.amoIns w 7 rd rb ra 2

/-- SYNC: every earlier store is performed (R169). -/
def execSync (w : SlotId) (s : State) : Host.Outcome State Fault Refusal :=
  s.issue w true (fun x t => (t.drain w).hold w [] none none false x.next)

/-- NOP. -/
def execNop (w : SlotId) (s : State) : Host.Outcome State Fault Refusal :=
  s.issue w true (fun x t => t.done1 w x [])

/-- ILD: a word of I-space (R155). -/
def execIld (w : SlotId) (rd ra : RegCode) (imm : BitVec 16) (s : State) : Host.Outcome State Fault Refusal :=
  s.issue w (regOk rd && regOk ra) (fun x t =>
    let a := x.ctx.rd ra + simm imm
    if a.toNat % 4 ≠ 0 ∨ 0x7FFC < a.toNat then t.accessFault w 4 0 2 false a x.ctx.pc
    else t.done2 w x (x.ctx.dst rd (w32 (t.readLE (kIram (slotCore w) + a.toNat) 4))))

end Sys2Proof.Machine
end

