-- ==== Sys2Proof/Machine/Units.lean ====
section
/-! DEFINITION. The fused units and the helper-cluster units of ZLC (sections 7.7, 7.8, 8.3, 8.4), but for FSUB. -/

namespace Sys2Proof.Machine

/-! ### CRC, bit fields, MACS, CSEL (Table 7-10) -/

/-- CRC over 1, 2 or 4 bytes of rb; count 3 is undefined. -/
def execCrc (w : SlotId) (rd ra rb : RegCode) (count : BitVec 2) (ieee : Bool) (s : State) :
    Host.Outcome State Fault Refusal :=
  s.alu1 w (regOk rd && regOk ra && regOk rb && decide (count ≠ 3#2)) rd (fun x =>
    aluPlain (crcBytes (if ieee then poly8023 else poly32c) (x.rd ra) (leBytes (2 ^ count.toNat) (x.rd rb).toNat)))

/-- The fields of a BF word are listed: pos + len at most 32 (R205). -/
def bfOk (rd ra : RegCode) (pos lenm1 : BitVec 5) : Bool :=
  regOk rd && regOk ra && decide (pos.toNat + lenm1.toNat + 1 ≤ 32)

/-- BFXU. -/
def execBfxu (w : SlotId) (rd ra : RegCode) (pos lenm1 : BitVec 5) (s : State) : Host.Outcome State Fault Refusal :=
  s.alu1 w (bfOk rd ra pos lenm1) rd (fun x => aluPlain (w32 (bits (x.rd ra) (pos.toNat + lenm1.toNat) pos.toNat)))

/-- BFXS. -/
def execBfxs (w : SlotId) (rd ra : RegCode) (pos lenm1 : BitVec 5) (s : State) : Host.Outcome State Fault Refusal :=
  s.alu1 w (bfOk rd ra pos lenm1) rd (fun x =>
    aluPlain (wInt (sextNat (lenm1.toNat + 1) (bits (x.rd ra) (pos.toNat + lenm1.toNat) pos.toNat))))

/-- BFI. -/
def execBfi (w : SlotId) (rd ra : RegCode) (pos lenm1 : BitVec 5) (s : State) : Host.Outcome State Fault Refusal :=
  s.alu1 w (bfOk rd ra pos lenm1) rd (fun x =>
    aluPlain (setBits (x.rd rd) (pos.toNat + lenm1.toNat) pos.toNat (bits (x.rd ra) lenm1.toNat 0)))

/-- An integer clipped to a signed word, and whether it was clipped. -/
def clip32 (v : Int) : W32 × Bool :=
  if 2 ^ 31 - 1 < v then (0x7FFFFFFF#32, true) else if v < -(2 ^ 31) then (0x80000000#32, true) else (wInt v, false)

/-- The sum that MACS clips: rd plus the product, rounded and shifted arithmetically. -/
def macSum (d a b : W32) (sh : Nat) (round : Bool) : Int :=
  let p := a.toInt * b.toInt
  let q := if round && decide (0 < sh) then p + 2 ^ (sh - 1) else p
  d.toInt + q / 2 ^ sh

/-- MACS: distance 2; SAT is set when clipped. -/
def execMacs (w : SlotId) (rd ra rb : RegCode) (sh : BitVec 5) (round : Bool) (s : State) :
    Host.Outcome State Fault Refusal :=
  s.issue w (regOk rd && regOk ra && regOk rb) (fun x t =>
    let r := clip32 (macSum (x.ctx.rd rd) (x.ctx.rd ra) (x.ctx.rd rb) sh.toNat round)
    t.done2 w x (x.ctx.dst rd r.1 ++ satWrites r.2))

/-- CSEL SEL: condition 15 is undefined (R205). -/
def execCselSel (w : SlotId) (rd ra rb : RegCode) (cond : BitVec 4) (s : State) : Host.Outcome State Fault Refusal :=
  s.alu1 w (regOk rd && regOk ra && regOk rb && decide (cond ≠ 15#4)) rd (fun x =>
    aluPlain (if condHolds cond.toNat x.flags then x.rd ra else x.rd rb))

/-- CSEL MINMAX: 0 MIN, 1 MAX, 2 MINU, 3 MAXU. -/
def execCselMinmax (w : SlotId) (rd ra rb : RegCode) (op : BitVec 2) (s : State) : Host.Outcome State Fault Refusal :=
  s.alu1 w (regOk rd && regOk ra && regOk rb) rd (fun x =>
    let a := x.rd ra
    let b := x.rd rb
    let less := if op.toNat < 2 then decide (a.toInt ≤ b.toInt) else decide (a.toNat ≤ b.toNat)
    aluPlain (if less = decide (op.toNat % 2 = 0) then a else b))

/-! ### The delta coder (R206, R346, Table 12-5) -/

/-- The code width of code table `t`. -/
def codeWidth (t : Nat) : Nat := 4 + 4 * t

/-- The code of a difference in the DCE format, or none for the escape. -/
def deltaCode (t : Nat) (d : W32) : Option W32 :=
  let w := codeWidth t
  if d = 0#32 then some 0x08000000#32
  else if -(2 ^ (w - 1)) ≤ d.toInt ∧ d.toInt ≤ 2 ^ (w - 1) - 1 then
    some (w32 ((2 + w) * 0x8000000 + 2 * 2 ^ w + d.toNat % 2 ^ w))
  else none

/-- The escape prefix in the DCE format. -/
def escapeCode : W32 := 0x10000003#32

/-- What a word of the DCE format decodes to: a difference, or `none` for the escape; the outer `none` is no valid code. Bits
at L and above are zero in the format. -/
def deltaDecode (t : Nat) (v : W32) : Option (Option W32) :=
  let w := codeWidth t
  let l := bits v 31 27
  let c := bits v 26 0
  if v = 0x08000000#32 then some (some 0#32)
  else if v = escapeCode then some none
  else if l = 2 + w ∧ c / 2 ^ w = 2 then some (some (wInt (sextNat w (c % 2 ^ w))))
  else none

/-- FU_DCCOUNT after a result: codes in [15:0] and escapes in [31:16], saturating. -/
def dcCountNext (v : W32) (escape : Bool) : W32 :=
  if escape then setBits v 31 16 (min 0xFFFF (bits v 31 16 + 1)) else setBits v 15 0 (min 0xFFFF (bits v 15 0 + 1))

/-- A delta-coder result commits: rd and C at distance 2, FU_DCCOUNT. -/
def State.dcDone (s : State) (w : SlotId) (x : Slot) (rd : RegCode) (v : W32) (escape : Bool) : State :=
  let t := s.done2 w x (x.ctx.dst rd v ++ [cWrite escape])
  t.setSlot w { t.slot w with dcCount := dcCountNext (t.slot w).dcCount escape }

/-- DCE. -/
def execDce (w : SlotId) (rd ra rb : RegCode) (table : BitVec 2) (s : State) : Host.Outcome State Fault Refusal :=
  s.issue w (regOk rd && regOk ra && regOk rb) (fun x t =>
    match deltaCode table.toNat (x.ctx.rd ra - x.ctx.rd rb) with
    | some c => t.dcDone w x rd c false
    | none => t.dcDone w x rd escapeCode true)

/-- A unit refusal: UNIT_DETAIL, UNIT_ARG and vector 7 (R233, Table 8-6). -/
def State.unitRefuse (s : State) (w : SlotId) (x : Slot) (unit reason : Nat) (arg : W32) : State :=
  let y := s.slot w
  (s.setSlot w { y with unitDetail := w32 (0x41 + unit * 0x100 + reason * 0x1000), unitArg := arg }).trap w 7 .ok x.ctx.pc

/-- DCD: a word that is no valid code is refused (R206). -/
def execDcd (w : SlotId) (rd ra rb : RegCode) (table : BitVec 2) (s : State) : Host.Outcome State Fault Refusal :=
  s.issue w (regOk rd && regOk ra && regOk rb) (fun x t =>
    match deltaDecode table.toNat (x.ctx.rd ra) with
    | some (some d) => t.dcDone w x rd (x.ctx.rd rb + d) false
    | some none => t.dcDone w x rd (x.ctx.rd rb) true
    | none => t.unitRefuse w x 1 5 (x.ctx.rd ra))

/-! ### The helper cluster (section 7.8) -/

/-- The helper cluster of slot `w` is ON (R207). -/
def State.clusterOn (s : State) (w : Nat) : Bool := s.pdOn (64 + slotQuad w)

/-- A reserved unit opcode: undefined on the warden core (Table 20-2). -/
def State.unitIns (s : State) (w : SlotId) (ok : Bool) (f : Slot → State → State) : Host.Outcome State Fault Refusal :=
  s.issue w (ok && !slotWarden w) f

/-- A DVSQ result: the hold with its writes, after the refusals of Table 8-6. -/
def State.dvsq (s : State) (w : SlotId) (x : Slot) (ra : RegCode) (byZero : Bool) (ws : List PWrite) : State :=
  if !s.clusterOn w then s.unitRefuse w x 2 1 (x.ctx.rd ra)
  else if byZero then s.unitRefuse w x 2 2 (x.ctx.rd ra)
  else s.hold w ws none none true x.next

/-- The signed quotient rounded toward zero, and the remainder with the sign of the dividend (R209). -/
def divS (a b : W32) : W32 × W32 := (wInt (a.toInt.tdiv b.toInt), wInt (a.toInt.tmod b.toInt))

/-- DIVS: the quotient of 0x8000_0000 by −1 wraps and sets SAT (R209). -/
def execDivs (w : SlotId) (rd ra rb : RegCode) (s : State) : Host.Outcome State Fault Refusal :=
  s.unitIns w (multiOk rd 2 && regOk ra && regOk rb) (fun x t =>
    let a := x.ctx.rd ra
    let b := x.ctx.rd rb
    let r := divS a b
    t.dvsq w x ra (decide (b = 0#32)) (x.ctx.dst rd r.1 ++ x.ctx.dst (rd + 1#5) r.2 ++
      satWrites (decide (a = 0x80000000#32) && decide (b = 0xFFFFFFFF#32))))

/-- DIVU. -/
def execDivu (w : SlotId) (rd ra rb : RegCode) (s : State) : Host.Outcome State Fault Refusal :=
  s.unitIns w (multiOk rd 2 && regOk ra && regOk rb) (fun x t =>
    let a := (x.ctx.rd ra).toNat
    let b := (x.ctx.rd rb).toNat
    t.dvsq w x ra (decide (b = 0)) (x.ctx.dst rd (w32 (a / b)) ++ x.ctx.dst (rd + 1#5) (w32 (a % b))))

/-- DIVQ: (ra × 2^16) ÷ rb in Q16.16, rounded toward zero, saturated. -/
def execDivq (w : SlotId) (rd ra rb : RegCode) (s : State) : Host.Outcome State Fault Refusal :=
  s.unitIns w (regOk rd && regOk ra && regOk rb) (fun x t =>
    let r := clip32 (((x.ctx.rd ra).toInt * 0x10000).tdiv (x.ctx.rd rb).toInt)
    t.dvsq w x ra (decide (x.ctx.rd rb = 0#32)) (x.ctx.dst rd r.1 ++ satWrites r.2))

/-- One step of the square root: the bit at `2^k` joins the root when its square still fits. -/
def sqrtFrom (v : Nat) : Nat → Nat → Nat
  | 0, r => r
  | k + 1, r => sqrtFrom v k (if (r + 2 ^ k) * (r + 2 ^ k) ≤ v then r + 2 ^ k else r)

/-- floor(√v) for v below 2^48. -/
def sqrtFloor (v : Nat) : Nat := sqrtFrom v 24 0

/-- SQRTU: floor(√ra). -/
def execSqrtu (w : SlotId) (rd ra : RegCode) (s : State) : Host.Outcome State Fault Refusal :=
  s.unitIns w (regOk rd && regOk ra) (fun x t =>
    t.dvsq w x ra false (x.ctx.dst rd (w32 (sqrtFloor (x.ctx.rd ra).toNat))))

/-- SQRTQ: floor(√(ra × 2^16)). -/
def execSqrtq (w : SlotId) (rd ra : RegCode) (s : State) : Host.Outcome State Fault Refusal :=
  s.unitIns w (regOk rd && regOk ra) (fun x t =>
    t.dvsq w x ra false (x.ctx.dst rd (w32 (sqrtFloor ((x.ctx.rd ra).toNat * 0x10000)))))

/-- A key or request of `n` bytes at address `a` lies wholly in core-local D-RAM (R208). -/
def inDram (a : W32) (n : Nat) : Bool := decide (a.toNat + n ≤ 0x4000)

/-- The access fault of a key or request outside D-RAM (R208); it is checked as a load of its full length, for which
Table 6-8 has no SIZE code (assumption 6). -/
def State.keyFault (s : State) (w : SlotId) (x : Slot) (a : W32) : State :=
  (s.fresh).2.accessFault w 1 1 ((s.fresh).1.toNat % 4) false a x.ctx.pc

/-- HASH: the two hash values of a key (R314, R339). -/
def execHash (w : SlotId) (rd ra : RegCode) (table : BitVec 2) (s : State) : Host.Outcome State Fault Refusal :=
  s.unitIns w (multiOk rd 2 && regOk ra && decide (table ≠ 3#2)) (fun x t =>
    let a := x.ctx.rd ra
    let n := table.toNat
    if !inDram a (keyBytes n) then t.keyFault w x a
    else if !t.clusterOn w then t.unitRefuse w x 3 1 a
    else if t.tblSize n = 0 then t.unitRefuse w x 3 3 a
    else
      let key := t.loadBytes w a.toNat (keyBytes n)
      let sd := t.placeSeeds n
      t.hold w (x.ctx.dst rd (keyHash sd.1 key) ++ x.ctx.dst (rd + 1#5) (keyHash sd.2 key)) none none true x.next)

/-- LKUP: a lookup is submitted and held until its cluster accepts it (R230, R231). -/
def execLkup (w : SlotId) (ra rb : RegCode) (table : BitVec 2) (s : State) : Host.Outcome State Fault Refusal :=
  s.unitIns w (regOk ra && regOk rb && decide (table ≠ 3#2)) (fun x t =>
    let a := x.ctx.rd ra
    let n := table.toNat
    if !inDram a (keyBytes n) then t.keyFault w x a
    else if !t.clusterOn w then t.unitRefuse w x 4 1 a
    else t.hold w [] (some (.lkup n (t.loadBytes w a.toNat (keyBytes n)) (bits (x.ctx.rd rb) 15 0))) none true x.next)

/-- LKUP_RESULT: the `k`-th lookup that the clusters have accepted answers; its token carries the result or the miss
word (R231, R322). -/
def execLkupResult (k : Nat) (s : State) : Host.Outcome State Fault Refusal :=
  match s.uni.lookups[k]? with
  | none => .next s
  | some l =>
    let r := s.tblLookup l.table l.key none
    let s1 := { s with uni := { s.uni with lookups := s.uni.lookups.eraseIdx k } }
    let s2 := s1.countLookup l.table r.2.2.isSome
    .next (if isPostable l.tag then s2.postReserved l.tag r.1 .ok else s2)

/-- SPRD: a predictor request is submitted and held until its cluster accepts it (R231). -/
def execSprd (w : SlotId) (ra rb : RegCode) (s : State) : Host.Outcome State Fault Refusal :=
  s.unitIns w (regOk ra && regOk rb) (fun x t =>
    let a := x.ctx.rd ra
    if !inDram a 32 then t.keyFault w x a
    else if !t.clusterOn w then t.unitRefuse w x 6 1 a
    else t.hold w [] (some (.sprd (t.loadBytes w a.toNat 32) (bits (x.ctx.rd rb) 15 0))) none true x.next)

end Sys2Proof.Machine
end

