-- ==== Sys2Proof/Machine/Ful.lean ====
section
/-! DEFINITION. The fulling engine (sections 17.1 to 17.3): streams, codes, chunks and their output, and FSUB. -/

namespace Sys2Proof.Machine

/-- Stream `n`. -/
def State.stream (s : State) (n : Nat) : Stream := SMap.get (fun _ => Stream.init) s.ful.streams n

/-- The state with stream `n` replaced. -/
def State.setStream (s : State) (n : Nat) (x : Stream) : State :=
  { s with ful := { s.ful with streams := SMap.set (fun _ => Stream.init) s.ful.streams n x } }

/-- Stream `n` is armed. -/
def State.armed (s : State) (n : Nat) : Bool := bit (s.reg (A.fulSstat n)) 0

/-- An agent may reach the registers of a block: the manager, a warden slot, or a thread slot whose REG_MASK includes the
block's slot (Standing of chapters 17 and 18; R178). -/
def State.mayReach (s : State) (ag : Agent) (b : Nat) : Bool := (isBoss ag || isThread ag) && s.reaches ag b

/-! ### Codes (section 17.2) -/

/-- The low `n` bits of a number, highest first. -/
def bitsOf : Nat → Nat → List Bool
  | 0, _ => []
  | n + 1, v => decide ((v >>> n) % 2 = 1) :: bitsOf n v

/-- The escape of a sample: 0b11 and its 32 bits. -/
def escapeBits (v : Int) : List Bool := [true, true] ++ bitsOf 32 (wInt v).toNat

/-- A value fits code table `t` (section 17.2). -/
def codeFits (t : Nat) (v : Int) : Bool :=
  decide (-(2 ^ (codeWidth t - 1)) ≤ v) && decide (v ≤ 2 ^ (codeWidth t - 1) - 1)

/-- The code of a difference `d`: zero, short, or the escape of `raw`, with whether it is an escape. -/
def codeBits (t : Nat) (d raw : Int) : List Bool × Bool :=
  if d = 0 then ([false], false)
  else if codeFits t d then ([true, false] ++ bitsOf (codeWidth t) (wInt d).toNat, false)
  else (escapeBits raw, true)

/-- Bytes of a bit stream, from bit 7 of each byte downwards, padded with zero bits (R345). -/
def packBits : Nat → List Bool → List Byte
  | 0, _ => []
  | n + 1, bs =>
    let v := (rangeFrom 8 0).foldl (fun a i => 2 * a + b2n (nth bs i false)) 0
    BitVec.ofNat 8 v :: packBits n (bs.drop 8)

/-- MODE of a chunk: 1 EXACT, 2 BOUNDED, 3 DECIMATE. -/
def Chunk.mode (c : Chunk) : Nat := bits c.cfg 1 0
/-- PARAM of a chunk. -/
def Chunk.param (c : Chunk) : Nat := bits c.cfg 15 8
/-- TABLE of a chunk. -/
def Chunk.table (c : Chunk) : Nat := bits c.cfg 3 2

/-- The codes of the DECIMATE block in progress: its first sample, its minimum and its maximum (R501), with the escapes
among them. The differences are exact integers. -/
def Chunk.block (c : Chunk) : List Bool × Nat :=
  if c.blkLen = 0 then ([], 0)
  else
    let lo := codeBits c.table (c.blkMin - c.blkFirst) c.blkMin
    let hi := codeBits c.table (c.blkMax - c.blkFirst) c.blkMax
    (c.blkCode ++ lo.1 ++ hi.1, b2n (c.blkCode.take 2 == [true, true]) + b2n lo.2 + b2n hi.2)

/-- A DECIMATE chunk whose block in progress is written (R501). -/
def Chunk.endBlock (c : Chunk) : Chunk :=
  { c with code := c.code ++ c.block.1, escapes := c.escapes + c.block.2, blkLen := 0, blkCode := [] }

/-- A chunk with one sample more (R498 to R501). -/
def Chunk.addSample (c : Chunk) (x : W32) (now : W64) : Chunk :=
  let v := x.toInt
  let c1 : Chunk := { c with count := c.count + 1, last := now }
  match c.mode with
  | 2 =>
    if c.count = 0 then { c1 with code := escapeBits v, escapes := 1, ref := v }
    else
      let k := c.param
      let q := (v - c.ref + 2 ^ (k - 1)) / 2 ^ k
      let e := codeBits c.table q v
      { c1 with code := c.code ++ e.1, escapes := c.escapes + b2n e.2, ref := if e.2 then v else c.ref + q * 2 ^ k }
  | 3 =>
    if c.blkLen = 0 then
      let code := if c.count = 0 then escapeBits v else (codeBits c.table (wInt (v - c.ref)).toInt v).1
      let c2 : Chunk := { c1 with blkCode := code, blkFirst := v, blkMin := v, blkMax := v, blkLen := 1, ref := v }
      if c.param ≤ 1 then c2.endBlock else c2
    else
      let c2 : Chunk := { c1 with blkMin := min c.blkMin v, blkMax := max c.blkMax v, blkLen := c.blkLen + 1 }
      if c.param ≤ c2.blkLen then c2.endBlock else c2
  | _ =>
    let e := if c.count = 0 then (escapeBits v, true) else codeBits c.table (wInt (v - c.ref)).toInt v
    { c1 with code := c.code ++ e.1, escapes := c.escapes + b2n e.2, ref := v }

/-- Payload bytes of a chunk if it closed now. -/
def Chunk.bytes (c : Chunk) : Nat := (c.endBlock.code.length + 7) / 8

/-- An empty chunk of stream `n`, opened by the sample numbered `seq`. -/
def State.openChunk (s : State) (n : Nat) (seq : W32) : Chunk :=
  { cfg := s.reg (A.fulScfg n), own := s.reg (A.fulSown n), seq := seq, first := s.tb.now, last := s.tb.now, count := 0,
    cycle := s.cycle, code := [], escapes := 0, ref := 0, blkCode := [], blkFirst := 0, blkMin := 0, blkMax := 0, blkLen := 0,
    closed := 0 }

/-! ### Chunks (section 17.3) -/

/-- A chunk of stream `n` is dropped (R503). -/
def State.dropChunk (s : State) (n : Nat) : State :=
  ((s.setStream n { s.stream n with gap := true }).count 0xF0910).raiseFirst 642

/-- The chunk in progress of stream `n` closes: it is staged for output, or dropped when the other buffer is full
(R502, R503). -/
def State.closeChunk (s : State) (n : Nat) : State :=
  let x := s.stream n
  match x.fill with
  | none => s
  | some c =>
    let s1 := s.setStream n { x with fill := none }
    if x.out.isSome then s1.dropChunk n
    else
      let s2 := s1.setStream n { s1.stream n with out := some { c.endBlock with closed := s1.ful.order } }
      { s2 with ful := { s2.ful with order := s2.ful.order + 1 } }

/-- A sample of an armed stream is accepted (R496, R498, R502). -/
def State.acceptSample (s : State) (n : Nat) (v : W32) : State :=
  let seq := s.reg (A.fulSseq n)
  let s1 := (s.setReg (A.fulSseq n) (seq + 1#32)).count 0xF0900
  let s2 := match (s1.stream n).fill with
    | some c => if 4064 < (c.addSample v s1.tb.now).bytes then s1.closeChunk n else s1
    | none => s1
  let c := ((s2.stream n).fill).getD (s2.openChunk n seq)
  let d := c.addSample v s2.tb.now
  let s3 := s2.setStream n { s2.stream n with fill := some d }
  if s3.fld (A.fulSchunk n) 10 0 ≤ d.count then s3.closeChunk n else s3

/-- FSUB: the sample rb is submitted to stream ra[5:0] and held until the engine accepts it (R495). -/
def execFsub (w : SlotId) (ra rb : RegCode) (s : State) : Host.Outcome State Fault Refusal :=
  s.unitIns w (regOk ra && regOk rb) (fun x t =>
    let a := x.ctx.rd ra
    let n := bits a 5 0
    if !t.clusterOn w then t.unitRefuse w x 5 1 a
    else if !t.armed n then t.unitRefuse w x 5 4 a
    else (t.hold w [] none none true x.next).acceptSample n (x.ctx.rd rb))

/-! ### Arming (section 17.1) -/

/-- The owner entry of the fulling engine, when it has cells (R504). -/
def State.fulEntry (s : State) : Option Nat :=
  match s.entryNamed 0x603 with
  | some e => if (s.owner e).poolMask.getLsbD 6 then some e else none
  | none => none

/-- DREGION `d` is a trace ring on a channel in service. -/
def State.ringRegion (s : State) (d : Nat) : Option DRegion :=
  match s.shp.memory.dregions[d]? with
  | some r => if r.kind = 4 && s.chInService r.channel then some r else none
  | none => none

/-- The checks of an arm of stream `n`, in order (R494). -/
def State.streamStatus (s : State) (n : Nat) : Status :=
  let c := s.reg (A.fulScfg n)
  let mode := bits c 1 0
  let param := bits c 15 8
  let chunk := s.fld (A.fulSchunk n) 10 0
  if s.armed n then .refusedNotReady
  else if !s.pdOn 69 then .refusedNotReady
  else if mode = 0 ∨ (mode = 2 ∧ 16 < param) ∨ 1024 < chunk then .refusedRange
  else if (mode = 2 ∨ mode = 3) ∧ param = 0 then .zeroLength
  else if bit c 16 then (if (s.ringRegion (bits c 22 18)).isSome then .ok else .refusedRange)
  else if s.fulEntry.isSome && (s.entryNamed (s.fld (A.fulSown n) 15 0)).isSome then .ok
  else .refusedRights

/-- The status of an arm or configuration write of stream `n` (FUL_SSTATs.LAST). -/
def State.streamLast (s : State) (n : Nat) (st : Status) : State := (s.setFld (A.fulSstat n) 15 8 st.code).status st

/-- STREAM_ARM (R494, R496). -/
def execStreamArm (ag : Agent) (n : Fin 64) (s : State) : Host.Outcome State Fault Refusal :=
  if !s.mayReach ag 0x0F then .next (s.refuse ag (A.fulSctl n) .refusedRights)
  else if s.regOff (A.fulSctl n) then .next (s.refuse ag (A.fulSctl n) .refusedNotReady)
  else
    let st := s.streamStatus n
    if st = .ok then
      .next ((((s.setFld (A.fulSstat n) 0 0 1).setReg (A.fulSseq n) 0#32)).streamLast n .ok)
    else .next (s.streamLast n st)

/-- STREAM_DISARM: the chunk in progress closes and the stream is disarmed (R497). -/
def execStreamDisarm (ag : Agent) (n : Fin 64) (s : State) : Host.Outcome State Fault Refusal :=
  if !s.mayReach ag 0x0F then .next (s.refuse ag (A.fulSctl n) .refusedRights)
  else if s.regOff (A.fulSctl n) then .next (s.refuse ag (A.fulSctl n) .refusedNotReady)
  else .next (((s.closeChunk n).setFld (A.fulSstat n) 0 0 0).status .ok)

/-- STREAM_RESTART: the chunk in progress closes (R502). -/
def execStreamRestart (ag : Agent) (n : Fin 64) (s : State) : Host.Outcome State Fault Refusal :=
  if !s.mayReach ag 0x0F then .next (s.refuse ag (A.fulSctl n) .refusedRights)
  else if s.regOff (A.fulSctl n) then .next (s.refuse ag (A.fulSctl n) .refusedNotReady)
  else .next ((s.closeChunk n).status .ok)

/-- At a turn, the chunks of the streams with TURNFLUSH close (R502). -/
def State.fulTurn (s : State) : State :=
  (rangeFrom 64 0).foldl (fun u n => if u.armed n && bit (u.reg (A.fulScfg n)) 17 then u.closeChunk n else u) s

/-! ### Output (R503 to R506) -/

/-- The payload of a closed chunk. -/
def Chunk.payload (c : Chunk) : List Byte := packBits c.bytes c.code

/-- The header of a closed chunk of stream `n` (Table 17-3). -/
def Chunk.header (c : Chunk) (n : Nat) (gap : Bool) : List Byte :=
  leBytes 1 n ++ leBytes 1 c.mode ++ leBytes 1 c.param ++ leBytes 1 (c.table + 4 * b2n gap) ++ leBytes 4 c.seq.toNat ++
    leBytes 8 c.first.toNat ++ leBytes 4 (c.last - c.first).toNat ++ leBytes 2 c.count ++ leBytes 2 c.bytes ++
    leBytes 4 c.cycle.toNat ++ leBytes 4 (crc32c c.payload).toNat

/-- A closed chunk of stream `n` has been written: it is counted, and its buffer is free. -/
def State.chunkWritten (s : State) (n : Nat) (c : Chunk) : State :=
  ((((s.setStream n { s.stream n with out := none, gap := false }).count 0xF0908).countBy 0xF0918 c.escapes).countBy 0xF0920
    (32 + c.bytes))

/-- The output of a closed chunk is refused (R503). -/
def State.outputRefused (s : State) (n ev : Nat) : State :=
  (State.dropChunk (s.setStream n { s.stream n with out := none }) n).raise ev

/-- A posted chunk token hands the chain to its owner (R504). -/
def State.handChain (s : State) (w owner : Nat) : State :=
  match s.entryNamed owner with
  | some e => s.moveBuf w e
  | none => s.moveBuf w tagOrphan

/-- CHUNK_CELL_OUTPUT: the closed chunk of stream `n` goes to a cell chain and is announced by a token (R504). -/
def execChunkCellOutput (n : Fin 64) (s : State) : Host.Outcome State Fault Refusal :=
  match (s.stream n).out with
  | none => .next s
  | some c =>
    if bit c.cfg 16 then .next s
    else
      match s.fulEntry with
      | none => .next (s.outputRefused n 640)
      | some e =>
        let a := s.allocChain e ((32 + c.bytes + 63) / 64)
        if a.1 = .ok then
          let w := bufWord 6 a.2.1
          let s1 := (a.2.2.2.bufWrite w 0 (c.header n (s.stream n).gap ++ c.payload)).chunkWritten n c
          let tag := bits c.own 31 16
          let owner := bits c.own 15 0
          let p := s1.post tag (w32 w) .ok
          if p.1 = .refusedCapacity then
            let k : ChunkTok := { stream := n, tag := tag, value := w32 w, owner := owner, retried := false }
            .next { p.2 with ful := { p.2.ful with retry := p.2.ful.retry ++ [k] } }
          else .next (p.2.handChain w owner)
        else .next (a.2.2.2.outputRefused n 640)

/-- Retry chunk tokens in order; those refused again stay. The Bool says that some retry was a first one. -/
def retryChunks : List ChunkTok → State → Bool × List ChunkTok × State
  | [], s => (false, [], s)
  | k :: rest, s =>
    let p := s.post k.tag k.value .ok
    let s1 := if p.1 = .refusedCapacity then p.2 else p.2.handChain k.value.toNat k.owner
    let r := retryChunks rest s1
    (!k.retried || r.1, (if p.1 = .refusedCapacity then { k with retried := true } :: r.2.1 else r.2.1), r.2.2)

/-- CHUNK_TOKEN_RETRY: the refused chunk tokens are posted again; a first retry raises EV641 (R504). -/
def execChunkTokenRetry (s : State) : Host.Outcome State Fault Refusal :=
  let r := retryChunks s.ful.retry s
  let s1 := { r.2.2 with ful := { r.2.2.ful with retry := r.2.1 } }
  .next (if r.1 then s1.raise 641 else s1)

/-- Bytes of the fulling engine into a channel, a request for each. -/
def State.ringWrite (s : State) (x c : Nat) (bs : List Byte) : State :=
  (s.dramAccess x 0x603#12 c bs.length true false).dramWrite x c bs

/-- An earlier closed chunk still waits for the same ring (R506). -/
def State.ringBehind (s : State) (c : Chunk) : Bool :=
  s.ful.streams.any (fun p => match p.2.out with
    | some d => bit d.cfg 16 && decide (bits d.cfg 22 18 = bits c.cfg 22 18) && decide (d.closed < c.closed)
    | none => false)

/-- CHUNK_RING_OUTPUT: the closed chunk of stream `n` goes into its ring: payload first, then the header, then RPOS moves
(R505). -/
def execChunkRingOutput (n : Fin 64) (s : State) : Host.Outcome State Fault Refusal :=
  match (s.stream n).out with
  | none => .next s
  | some c =>
    let d := bits c.cfg 22 18
    if !bit c.cfg 16 || s.ringBehind c then .next s
    else
      match s.ringRegion d with
      | none => .next (s.outputRefused n 643)
      | some r =>
        let base := r.base * 0x100000
        let need := roundUp (32 + c.bytes) 64
        let pos := (s.reg (A.fulRpos d)).toNat
        let wrap := decide (r.bytes < pos + need)
        let s1 :=
          if wrap then
            (s.ringWrite r.channel (base + pos) ([0xFF#8] ++ List.replicate 31 0#8)).setReg (A.fulRwrap d)
              (s.reg (A.fulRwrap d) + 1#32)
          else s
        let p := if wrap then 0 else pos
        let s2 := s1.ringWrite r.channel (base + p + 32) c.payload
        let s3 := s2.ringWrite r.channel (base + p) (c.header n (s.stream n).gap)
        .next ((s3.setReg (A.fulRpos d) (w32 (p + need))).chunkWritten n c)

end Sys2Proof.Machine
end

