-- ==== Sys2Proof/Machine/Shf.lean ====
section
/-! DEFINITION. The shift engine (chapter 18): channels, transfers, the two banks and their change at a turn. -/

namespace Sys2Proof.Machine

/-- Channel `n`. -/
def State.chan (s : State) (n : Nat) : ShfChan := SMap.get (fun _ => ShfChan.init) s.shf.chans n

/-- The state with channel `n` replaced. -/
def State.setChan (s : State) (n : Nat) (x : ShfChan) : State :=
  { s with shf := { s.shf with chans := SMap.set (fun _ => ShfChan.init) s.shf.chans n x } }

/-- The active bank. -/
def State.activeBank (s : State) : Nat := s.fld A.shfBankstat 0 0

/-- The microinstruction at address `a` of a bank. -/
def State.micro (s : State) (bank a : Nat) : W64 := SMap.get (fun _ => 0#64) s.shf.code (bank * 2048 + a)

/-- Bits [hi:lo] of a microinstruction. -/
def mbits (m : W64) (hi lo : Nat) : Nat := (m.toNat >>> lo) % 2 ^ (hi + 1 - lo)

/-- IMM of a microinstruction. -/
def imm (m : W64) : Nat := mbits m 31 0

/-- ENABLE of channel `n`. -/
def State.chanOn (s : State) (n : Nat) : Bool := bit (s.reg (A.shfChctl n)) 0

/-- The F flags as a word: [0] FERR, [1] TO, [2] LATE. -/
def ShfChan.flags (x : ShfChan) : Nat := b2n x.ferr + 2 * b2n x.tmo + 4 * b2n x.late

/-- SHF_STATn.STATE. -/
def ShfChan.state (x : ShfChan) : Nat :=
  match x.mode with
  | .stopped => 0
  | .yielding => 1
  | .ready | .shifting _ _ _ _ => 2
  | .delay _ | .waitt _ | .waite _ _ _ _ => 3
  | .stallTx _ | .stallRx _ _ => 4

/-- SHF_STATn as read; LAST stands in the register. -/
def State.shfStat (s : State) (n : Nat) : W32 :=
  let x := s.chan n
  w32 (x.state + b2n x.pend.isSome * 8 + x.tx.length * 0x10 + x.rx.length * 0x100 + x.flags * 0x1000 +
    s.fld (A.shfStat n) 23 16 * 0x10000)

/-- SHF_PCn as read. -/
def State.shfPc (s : State) (n : Nat) : W32 :=
  let x := s.chan n
  w32 (x.pc + x.bank * 0x800 + x.l.toNat * 0x10000)

/-- SHF_STATn.LAST. -/
def State.chanLast (s : State) (n : Nat) (st : Status) : State := (s.setFld (A.shfStat n) 23 16 st.code).status st

/-! ### Switching banks (section 18.5) -/

/-- Channel `n` no longer runs the old bank; the last one unlocks it (R537). -/
def State.drained (s : State) (n : Nat) : State :=
  if bit (s.reg A.shfDrain) n then
    let s1 := s.setReg A.shfDrain (setBit (s.reg A.shfDrain) n false)
    if s1.reg A.shfDrain = 0#32 then (s1.setFld A.shfBankstat 2 2 0).raise 714 else s1
  else s

/-- Channel `n` starts at its entry point in the active bank (R529, R536, R538). -/
def State.toEntry (s : State) (n : Nat) : State :=
  (s.setChan n { s.chan n with pc := s.fld (A.shfEntry n) 10 0, bank := s.activeBank, mode := .ready, done := s.tb.now }).drained n

/-- The swap of group 16, after the entry points have been copied (R536, R537). -/
def State.shfSwap (s : State) : State :=
  let s1 := ((s.setFld A.shfBankstat 0 0 (1 - s.activeBank)).setFld A.shfBankstat 1 1 0).raise 713
  let on := (rangeFrom 24 0).filter (fun n => s.chanOn n)
  if on = [] then s1.raise 714
  else
    let s2 := (s1.setReg A.shfDrain (on.foldl (fun a i => setBit a i true) 0#32)).setFld A.shfBankstat 2 2 1
    on.foldl (fun u n => if (u.chan n).mode = .yielding then u.toEntry n else u) s2

/-! ### Transfers (section 18.2) -/

/-- The completion token of channel `n`; a refused one is retried (R528). -/
def State.shfToken (s : State) (n tag : Nat) (v : W32) (st : Status) : State :=
  if tag = 0 then s
  else s.postOr tag v st (fun t => { t with shf := { t.shf with retry := t.shf.retry ++
    [{ src := n, tag := tag, value := v, status := st, retried := false }] } })

/-- The transfer in progress ends with a status and CODE (R528). -/
def State.endTransfer (s : State) (n : Nat) (st : Status) (code : Nat) : State :=
  let x := s.chan n
  match x.xfer with
  | none => s
  | some (len, tag) =>
    let v := (BitVec.ofNat 16 len - x.l).toNat + code * 0x10000
    (((s.setChan n { x with xfer := none }).count 0x110900).shfToken n tag (w32 v) st).raise (688 + n)

/-- A start that YIELD takes: L, F, and the transfer is in progress (R526). -/
def ShfChan.take (x : ShfChan) (p : Nat × Nat) (now : W64) : ShfChan :=
  { x with l := BitVec.ofNat 16 p.1, ferr := false, tmo := false, late := false, pend := none, xfer := some p,
           pc := (x.pc + 1) % 2048, mode := .ready, done := now }

/-- An accepted start of channel `n`: with LEN 0 its token is posted at once; a channel at YIELD takes it; otherwise it is
pending (R526, R527). -/
def State.acceptStart (s : State) (n len tag : Nat) : State :=
  let x := s.chan n
  if len = 0 then s.shfToken n tag 0#32 .ok
  else if x.mode = .yielding then s.setChan n (x.take (len, tag) s.tb.now)
  else s.setChan n { x with pend := some (len, tag) }

/-- Channel `n` accepts a start (R526). -/
def State.mayStartChan (s : State) (n : Nat) : Bool :=
  s.chanOn n && (s.chan n).xfer.isNone && (s.chan n).pend.isNone

/-- The starts of a turn (R526). -/
def State.shfTurn (s : State) : State :=
  (rangeFrom 24 0).foldl (fun u n =>
    let c := u.reg (A.shfChctl n)
    if bit c 0 && bit c 2 then
      (if u.mayStartChan n then u.acceptStart n (u.fld (A.shfAutolen n) 15 0) (bits c 31 16)
       else (u.count 0x110910).raiseFirst 715)
    else u) s

/-- An abort of channel `n`: the transfer ends, the pins are inputs, the FIFOs are empty; the channel stops, or restarts at its
entry (R528, R529, R538). -/
def State.abortChan (s : State) (n : Nat) (st : Status) (restart : Bool) : State :=
  let s1 := s.endTransfer n st 0
  let x := s1.chan n
  let s2 := s1.setChan n { x with tx := [], rx := [], oe := 0#4, mode := .stopped, done := s1.tb.now }
  if restart then s2.toEntry n else s2.drained n

/-! ### Commands of agents -/

/-- A register access of an agent to the engine: by right (Standing), and only while PD70 is ON (R611). -/
def State.shfAccess (s : State) (ag : Agent) (a : Nat) (f : State → State) : Host.Outcome State Fault Refusal :=
  if !s.mayReach ag 0x11 then .next (s.refuse ag a .refusedRights)
  else if s.regOff a then .next (s.refuse ag a .refusedNotReady)
  else .next (f s)

/-- SHIFT_TX_PUSH: a write of SHF_TXn; an LDX stalled on the FIFO takes the word (R524, R525). -/
def execShiftTxPush (ag : Agent) (n : Fin 24) (v : W32) (s : State) : Host.Outcome State Fault Refusal :=
  s.shfAccess ag (A.shfTx n) (fun u =>
    let x := u.chan n
    match x.mode with
    | .stallTx _ =>
      (u.setChan n { x with x := v, pc := (x.pc + 1) % 2048, mode := .ready, done := u.tb.now }).chanLast n .ok
    | _ =>
      if 8 ≤ x.tx.length then u.chanLast n .refusedCapacity
      else (u.setChan n { x with tx := x.tx ++ [v] }).chanLast n .ok)

/-- SHIFT_RX_POP: a read of SHF_RXn; a PUSH stalled on the FIFO gets its place (R524, R525). -/
def execShiftRxPop (ag : Agent) (n : Fin 24) (s : State) : Host.Outcome State Fault Refusal :=
  s.shfAccess ag (A.shfRx n) (fun u =>
    let x := u.chan n
    match x.rx with
    | [] => u.chanLast n .refusedNotReady
    | v :: rest =>
      let y := match x.mode with
        | .stallRx _ w => { x with rx := rest ++ [w], pc := (x.pc + 1) % 2048, mode := .ready, done := u.tb.now }
        | _ => { x with rx := rest }
      ((u.setChan n y).chanLast n .ok).answer .ok (v.setWidth 64))

/-- SHIFT_START: a write of SHF_STARTn (R526, R527). -/
def execShiftStart (ag : Agent) (n : Fin 24) (v : W32) (s : State) : Host.Outcome State Fault Refusal :=
  s.shfAccess ag (A.shfStart n) (fun u =>
    if u.mayStartChan n then (u.acceptStart n (bits v 15 0) (bits v 31 16)).chanLast n .ok
    else u.chanLast n .refusedNotReady)

/-- SHIFT_ABORT: SHF_CHCTLn.ABORT of an enabled channel (R528, R529). -/
def execShiftAbort (ag : Agent) (n : Fin 24) (s : State) : Host.Outcome State Fault Refusal :=
  s.shfAccess ag (A.shfChctl n) (fun u =>
    (if u.chanOn n then u.abortChan n .refusedNotReady true else u).status .ok)

/-- The fields AUTO and AUTOTAG of a write of SHF_CHCTLn, with ENABLE `e`. -/
def chctlWord (v : W32) (e : Bool) : W32 := w32 (b2n e + b2n (bit v 2) * 4 + bits v 31 16 * 0x10000)

/-- SHIFT_DISABLE: a write of SHF_CHCTLn with ENABLE 0; `v` carries the other fields (R528, R529). -/
def execShiftDisable (ag : Agent) (n : Fin 24) (v : W32) (s : State) : Host.Outcome State Fault Refusal :=
  s.shfAccess ag (A.shfChctl n) (fun u =>
    let u1 := if u.chanOn n then u.abortChan n .refusedNotReady false else u
    (u1.setReg (A.shfChctl n) (chctlWord v false)).status .ok)

/-- SHIFT_ENABLE: a write of SHF_CHCTLn with ENABLE 1; a stopped channel starts at its entry in the active bank (R529). -/
def execShiftEnable (ag : Agent) (n : Fin 24) (v : W32) (s : State) : Host.Outcome State Fault Refusal :=
  s.shfAccess ag (A.shfChctl n) (fun u =>
    let u1 := if u.chanOn n then u else u.toEntry n
    (u1.setReg (A.shfChctl n) (chctlWord v true)).status .ok)

/-- SHIFT_STALL_TIMEOUT: the stall of channel `n` has lasted SHF_STALLn µs (R525, EV712). -/
def execShiftStallTimeout (n : Fin 24) (s : State) : Host.Outcome State Fault Refusal :=
  let us := s.fld (A.shfStall n) 15 0
  let since := match (s.chan n).mode with
    | .stallTx t => some t
    | .stallRx t _ => some t
    | _ => none
  match since with
  | none => .next s
  | some t =>
    if us = 0 then .next s
    else .next ((((s.advance (t.toNat + 1000 * us)).abortChan n .timeout true).count 0x110908).raise 712)

/-- SHIFT_TOKEN_RETRY: refused completion tokens are posted again; each retry counts and raises EV717 (R528). -/
def execShiftTokenRetry (s : State) : Host.Outcome State Fault Refusal :=
  let p := repostAll s.shf.retry s
  let s1 := { p.2.2 with shf := { p.2.2.shf with retry := p.2.1 } }
  .next (s.shf.retry.foldl (fun u _ => (u.count 0x110920).raise 717) s1)

/-! ### Banks -/

/-- MICROCODE_WRITE: a write of SHF_UDATA_HI (R532, R533). -/
def execMicrocodeWrite (ag : Agent) (v : W32) (s : State) : Host.Outcome State Fault Refusal :=
  if !isBoss ag then .next (s.refuse ag A.shfUdataHi .refusedRights)
  else
    s.shfAccess ag A.shfUdataHi (fun u =>
      let bank := u.fld A.shfUaddr 16 16
      let a := u.fld A.shfUaddr 10 0
      let st : Status :=
        if bank = u.activeBank then .refusedRights
        else if bit (u.reg A.shfBankstat) 2 || u.groupArmed 16 then .refusedNotReady
        else .ok
      let u1 := u.setFld A.shfWstat 7 0 st.code
      if st = .ok then
        let w := cat64 v (u.reg A.shfUdataLo)
        let u2 := { u1 with shf := { u1.shf with code := SMap.set (fun _ => 0#64) u1.shf.code (bank * 2048 + a) w } }
        (((u2.setReg A.shfUdataHi v).setFld A.shfUaddr 10 0 ((a + 1) % 2048)).setFld A.shfBankstat 1 1 0).status .ok
      else u1.status st)

/-- The bits below OP that Table 18-3 names for an OP; none for an undefined one. -/
def microMask (op : Nat) : Option Nat :=
  match op with
  | 0x01 => some 0
  | 0x02 => some 0xFFF00000000
  | 0x03 => some 0x7FFFFFFFFFFFF
  | 0x04 | 0x05 => some 0x3FFFFFFFF
  | 0x06 | 0x07 => some 0xFFFFFFFF
  | 0x08 => some 0x3FFFFFFFFFFF
  | 0x09 => some 0xFFFF
  | 0x0A | 0x0B => some 0x7FF00000000
  | 0x0C => some 0x3FFFF00000000
  | 0x0D => some 0xFF0000FFFF
  | 0x0E => some 0
  | _ => none

/-- OP of a microinstruction. -/
def mop (m : W64) : Nat := mbits m 63 59

/-- TARGET of a microinstruction, if it has one. -/
def microTarget (m : W64) : Option Nat :=
  match mop m with
  | 0x08 => some (mbits m 45 35)
  | 0x0A | 0x0B => some (mbits m 42 32)
  | 0x0C => some (mbits m 49 39)
  | _ => none

/-- The pins that a SHIFT uses. -/
def shiftPins (m : W64) : List Nat :=
  (if mbits m 45 45 = 0 then [mbits m 38 37] else []) ++ (if mbits m 43 43 = 1 then [mbits m 40 39] else []) ++
    (if mbits m 44 44 = 1 then [mbits m 42 41] else [])

/-- What is wrong with a microinstruction in a bank of `words` words (R534). -/
def microStatus (m : W64) (words : Nat) : Status :=
  match microMask (mop m) with
  | none => .refusedRange
  | some k =>
    let far := match microTarget m with
      | some t => decide (words ≤ t)
      | none => false
    if mbits m 58 0 &&& k ≠ mbits m 58 0 ∨ far = true then .refusedRange
    else
      match mop m with
      | 0x03 => if mbits m 15 0 < 10 ∨ (mbits m 50 50 = 1 ∧ mbits m 45 45 = 0) ∨ ¬ (shiftPins m).Nodup then .refusedRange
          else .ok
      | 0x04 => if mbits m 33 32 = 3 then .refusedRange else .ok
      | 0x06 => if imm m = 0 then .zeroLength else .ok
      | 0x07 => if 4000000 < imm m then .refusedRange else .ok
      | 0x0D => if [0x00, 0x14, 0x60].contains (mbits m 39 32) then .ok else .refusedRange
      | _ => .ok

/-- The verification of the shadow bank: its status, the failing address, and whether the CRC was wrong (R534). -/
def State.verifyBank (s : State) (words : Nat) : Status × Nat × Bool :=
  let shadow := 1 - s.activeBank
  let bad := (rangeFrom words 0).find? (fun a => decide (microStatus (s.micro shadow a) words ≠ .ok))
  match bad with
  | some a => (microStatus (s.micro shadow a) words, a, false)
  | none =>
    let far := (rangeFrom 24 0).find? (fun n => s.chanOn n && decide (words ≤ bits (s.shadowOf (A.shfEntry n)) 10 0))
    match far with
    | some n => (.refusedRange, bits (s.shadowOf (A.shfEntry n)) 10 0, false)
    | none =>
      let bs := (rangeFrom words 0).flatMap (fun a => leBytes 8 (s.micro shadow a).toNat)
      if crc32c bs = s.reg A.shfBankcrc then (.ok, 0, false) else (.refusedRange, 0, true)

/-- BANK_VERIFY: SHF_BANKCTL.VERIFY starts verifying (R532, R534). -/
def execBankVerify (ag : Agent) (words : BitVec 12) (s : State) : Host.Outcome State Fault Refusal :=
  if !isBoss ag then .next (s.refuse ag A.shfBankctl .refusedRights)
  else
    s.shfAccess ag A.shfBankctl (fun u =>
      if words = 0#12 then u.status .zeroLength
      else if 2048 < words.toNat then u.status .refusedRange
      else
        let e := u.tb.now + BitVec.ofNat 64 (4 * words.toNat + 200)
        State.status { u with shf := { u.shf with verify := some (words.toNat, e) } } .ok)

/-- BANK_VERIFY_DONE: the verification ends (R534). -/
def execBankVerifyDone (s : State) : Host.Outcome State Fault Refusal :=
  match s.shf.verify with
  | none => .next s
  | some (words, e) =>
    let s1 := s.advance e.toNat
    let r := s1.verifyBank words
    let v := (((s1.setFld A.shfBankstat 1 1 (b2n (decide (r.1 = .ok)))).setFld A.shfBankstat 4 4 (b2n r.2.2)).setFld
      A.shfBankstat 15 8 r.1.code).setFld A.shfBankstat 26 16 r.2.1
    let s2 := { v with shf := { v.shf with verify := none } }
    .next (if r.1 = .ok then s2 else s2.raise 718)

end Sys2Proof.Machine
end

