-- ==== Sys2Proof/Machine/ShfCmd.lean ====
section
/-! DEFINITION. The microinstructions of the shift engine (section 18.3). -/

namespace Sys2Proof.Machine

/-- The first slot of channel `n` at or after an instant (R522). -/
def slotFrom (n t : Nat) : Nat := t + (2 * n + 48 - t % 48) % 48

/-- Channel `n` issues the microinstruction `op` at its next slot, when that is what stands at its PC: `f` is given the word
and the channel, at the instant of the issue (R522, R523). -/
def State.micros (s : State) (n op : Nat) (f : W64 → ShfChan → State → State) : Host.Outcome State Fault Refusal :=
  let x := s.chan n
  let m := s.micro x.bank x.pc
  if x.mode = .ready ∧ mop m = op then .next (f m x (s.advance (slotFrom n (max s.time (x.done.toNat + 1)))))
  else .next s

/-- A channel that has completed its microinstruction and continues at `pc`. -/
def ShfChan.goto (x : ShfChan) (pc : Nat) (now : W64) : ShfChan := { x with pc := pc % 2048, mode := .ready, done := now }

/-- A channel that has completed its microinstruction. -/
def ShfChan.step (x : ShfChan) (now : W64) : ShfChan := x.goto (x.pc + 1) now

/-- YIELD: ends a transfer in progress, switches the bank when a swap waits for it, takes a pending start, or waits
(R526, R528, R536). -/
def execYield (n : Fin 24) (s : State) : Host.Outcome State Fault Refusal :=
  s.micros n 0x01 (fun _ _ u =>
    let u1 := u.endTransfer n .ok 0
    let x := u1.chan n
    if x.bank ≠ u1.activeBank then u1.toEntry n
    else
      match x.pend with
      | some p => u1.setChan n (x.take p u1.tb.now)
      | none => u1.setChan n { x with mode := .yielding })

/-- PIN: drivers and levels of the pins in MASK (R521). -/
def execPin (n : Fin 24) (s : State) : Host.Outcome State Fault Refusal :=
  s.micros n 0x02 (fun m x u =>
    let mask := BitVec.ofNat 4 (mbits m 35 32)
    let oe := (x.oe &&& ~~~mask) ||| (BitVec.ofNat 4 (mbits m 39 36) &&& mask)
    let level := (x.level &&& ~~~mask) ||| (BitVec.ofNat 4 (mbits m 43 40) &&& mask)
    u.setChan n (ShfChan.step { x with oe := oe, level := level } u.tb.now))

/-! ### SHIFT (R530, R531) -/

/-- N of a SHIFT. -/
def shiftN (m : W64) : Nat := mbits m 36 32 + 1
/-- Bits that a SHIFT moves: with UFRAME a start and a stop bit beside its N. -/
def shiftBits (m : W64) : Nat := shiftN m + 2 * mbits m 50 50
/-- A clocked SHIFT. -/
def shiftClocked (m : W64) : Bool := decide (mbits m 45 45 = 0)
/-- HALF. -/
def shiftHalf (m : W64) : Nat := mbits m 15 0

/-- The offset of output bit `i` from the start. -/
def outAt (m : W64) (i : Nat) : Nat :=
  if shiftClocked m && decide (mbits m 47 47 = 1) then (2 * i + 1) * shiftHalf m else 2 * i * shiftHalf m

/-- The offset of the sample of bit `i` from the start, with SDLY `d`. -/
def sampleAt (m : W64) (d i : Nat) : Nat :=
  if shiftClocked m && decide (mbits m 47 47 = 1) then (2 * i + 2) * shiftHalf m + d else (2 * i + 1) * shiftHalf m + d

/-- The first pin action of a SHIFT as an offset from its start (R531). -/
def firstAction (m : W64) (d : Nat) : Option Nat :=
  let l := (if mbits m 43 43 = 1 then [outAt m 0] else []) ++ (if shiftClocked m then [shiftHalf m] else []) ++
    (if mbits m 44 44 = 1 then [sampleAt m d 0] else [])
  l.min?

/-- The completion of a SHIFT as an offset from its start: its last clock edge or last sample; with neither, its last output
(R530). -/
def lastAction (m : W64) (d : Nat) : Nat :=
  let n := shiftBits m
  let e := if shiftClocked m then 2 * n * shiftHalf m else 0
  let q := if mbits m 44 44 = 1 then sampleAt m d (n - 1) else 0
  let o := if shiftClocked m || decide (mbits m 44 44 = 1) then 0 else outAt m (n - 1)
  max e (max q o)

/-- SHIFT: the start instant, and LATE when a SYNC SHIFT must be moved (R530, R531). -/
def execShift (n : Fin 24) (s : State) : Host.Outcome State Fault Refusal :=
  s.micros n 0x03 (fun m x u =>
    let d := u.fld (A.shfSdly n) 7 0
    let sync := decide (mbits m 49 49 = 1)
    let s0 := (if sync then x.t.toNat else u.time) + mbits m 31 16
    let first := s0 + (firstAction m d).getD 0
    let late := sync && decide (first < u.time)
    let start := if late then s0 + (u.time - first) else s0
    let mark := if shiftClocked m then start + shiftHalf m else start
    let go : ShfMode := .shifting m (BitVec.ofNat 64 start) (BitVec.ofNat 64 (start + lastAction m d)) (BitVec.ofNat 64 mark)
    let y : ShfChan := { x with late := x.late || late, mode := go }
    let u1 := u.setChan n y
    if late then (u1.count 0x110918).raiseFirst 716 else u1)

/-- The received word: with LSBF the first bit sampled is bit 0, otherwise bit N − 1. Bit `i` of `din` is the `i`-th data bit
sampled. -/
def shiftIn (m : W64) (din : W32) : W32 :=
  let n := shiftN m
  let v := din.toNat % 2 ^ n
  if mbits m 48 48 = 1 then w32 v
  else w32 ((rangeFrom n 0).foldl (fun a i => 2 * a + (v >>> i) % 2) 0)

/-- The last bit that a SHIFT puts on its OUT pin. -/
def lastOut (m : W64) (x : W32) : Bool :=
  if mbits m 50 50 = 1 then true else if mbits m 48 48 = 1 then bit x (shiftN m - 1) else bit x 0

/-- SHIFT_COMPLETE: the last clock edge or sample of channel `n`; `din` is what the IN pin gave, in the order sampled, and
`startBit` and `stopBit` the frame bits of UFRAME (R530). -/
def execShiftComplete (n : Fin 24) (din : W32) (startBit stopBit : Bool) (s : State) : Host.Outcome State Fault Refusal :=
  let x := s.chan n
  match x.mode with
  | .shifting m _ stop mark =>
    let u := s.advance stop.toNat
    let inen := decide (mbits m 44 44 = 1)
    let clk := mbits m 38 37
    let out := mbits m 40 39
    let put := fun (l : BitVec 4) (p : Nat) (b : Bool) => if b then l ||| (1#4 <<< p) else l &&& ~~~(1#4 <<< p)
    let l1 := if shiftClocked m then put x.level clk (decide (mbits m 46 46 = 1)) else x.level
    let l2 := if mbits m 43 43 = 1 then put l1 out (lastOut m x.x) else l1
    let ferr := inen && decide (mbits m 50 50 = 1) && (startBit || !stopBit)
    let y : ShfChan :=
      { x with y := if inen then shiftIn m din else x.y, s := mark, ferr := x.ferr || ferr, level := l2 }
    .next (u.setChan n (y.step u.tb.now))
  | _ => .next s

/-! ### FIFOs, waits and control -/

/-- LDX: X from the transmit FIFO, IMM or L; an empty FIFO stalls (R525). -/
def execLdx (n : Fin 24) (s : State) : Host.Outcome State Fault Refusal :=
  s.micros n 0x04 (fun m x u =>
    match mbits m 33 32 with
    | 0 =>
      match x.tx with
      | v :: rest => u.setChan n (ShfChan.step { x with x := v, tx := rest } u.tb.now)
      | [] => u.setChan n { x with mode := .stallTx u.tb.now }
    | 1 => u.setChan n (ShfChan.step { x with x := w32 (imm m) } u.tb.now)
    | _ => u.setChan n (ShfChan.step { x with x := x.l.setWidth 32 } u.tb.now))

/-- PUSH: Y, S as an offset from the turn, F or IMM into the receive FIFO; a full FIFO stalls (R348, R525). -/
def execPush (n : Fin 24) (s : State) : Host.Outcome State Fault Refusal :=
  s.micros n 0x05 (fun m x u =>
    let v := match mbits m 33 32 with
      | 0 => x.y
      | 1 => lo32 (x.s - u.tb.cycStart)
      | 2 => w32 x.flags
      | _ => w32 (imm m)
    if 8 ≤ x.rx.length then u.setChan n { x with mode := .stallRx u.tb.now v }
    else u.setChan n (ShfChan.step { x with rx := x.rx ++ [v] } u.tb.now))

/-- DELAY: waits until issue + IMM (Table 18-3). -/
def execDelay (n : Fin 24) (s : State) : Host.Outcome State Fault Refusal :=
  s.micros n 0x06 (fun m x u => u.setChan n { x with mode := .delay (u.tb.now + BitVec.ofNat 64 (imm m)) })

/-- A timed wait ends at `t`. -/
def State.waitEnds (s : State) (n : Nat) (t : W64) : State :=
  let u := s.advance t.toNat
  u.setChan n (ShfChan.step { u.chan n with t := t } u.tb.now)

/-- DELAY_EXPIRY (Table 18-3). -/
def execDelayExpiry (n : Fin 24) (s : State) : Host.Outcome State Fault Refusal :=
  match (s.chan n).mode with
  | .delay t => .next (s.waitEnds n t)
  | _ => .next s

/-- WAITT: waits until an offset of the current cycle, or of the next when that instant has passed (Table 18-3). -/
def execWaitt (n : Fin 24) (s : State) : Host.Outcome State Fault Refusal :=
  s.micros n 0x07 (fun m x u =>
    let t := u.tb.cycStart.toNat + imm m
    let t' := if t < u.time then t + u.tb.cycLen else t
    u.setChan n { x with mode := .waitt (BitVec.ofNat 64 t') })

/-- WAITT_EXPIRY (Table 18-3). -/
def execWaittExpiry (n : Fin 24) (s : State) : Host.Outcome State Fault Refusal :=
  match (s.chan n).mode with
  | .waitt t => .next (s.waitEnds n t)
  | _ => .next s

/-- WAITE: waits for an edge of a pin, with a timeout unless IMM is 0 (Table 18-3). -/
def execWaite (n : Fin 24) (s : State) : Host.Outcome State Fault Refusal :=
  s.micros n 0x08 (fun m x u =>
    let d := if imm m = 0 then none else some (u.tb.now + BitVec.ofNat 64 (imm m))
    u.setChan n { x with mode := .waite (mbits m 33 32) (decide (mbits m 34 34 = 1)) d (mbits m 45 35) })

/-- WAITE_EDGE: the awaited edge arrives now, no later than the timeout; a driven pin keeps its own level
(section 18.3, Edges). -/
def execWaiteEdge (n : Fin 24) (s : State) : Host.Outcome State Fault Refusal :=
  let x := s.chan n
  match x.mode with
  | .waite p _ d _ =>
    let past := match d with
      | some t => decide (t.toNat < s.time)
      | none => false
    if past || x.oe.getLsbD p then .next s else .next (s.setChan n (ShfChan.step { x with t := s.tb.now } s.tb.now))
  | _ => .next s

/-- WAITE_TIMEOUT: TO is set and execution continues at TARGET (Table 18-3). -/
def execWaiteTimeout (n : Fin 24) (s : State) : Host.Outcome State Fault Refusal :=
  let x := s.chan n
  match x.mode with
  | .waite _ _ (some t) target =>
    let u := s.advance t.toNat
    .next (u.setChan n (ShfChan.goto { x with tmo := true } target u.tb.now))
  | _ => .next s

/-- SETL. -/
def execSetl (n : Fin 24) (s : State) : Host.Outcome State Fault Refusal :=
  s.micros n 0x09 (fun m x u => u.setChan n (ShfChan.step { x with l := BitVec.ofNat 16 (mbits m 15 0) } u.tb.now))

/-- DJNZ. -/
def execDjnz (n : Fin 24) (s : State) : Host.Outcome State Fault Refusal :=
  s.micros n 0x0A (fun m x u =>
    let l := x.l - 1#16
    u.setChan n (ShfChan.goto { x with l := l } (if l = 0#16 then x.pc + 1 else mbits m 42 32) u.tb.now))

/-- MICRO_JMP. -/
def execMicroJmp (n : Fin 24) (s : State) : Host.Outcome State Fault Refusal :=
  s.micros n 0x0B (fun m x u => u.setChan n (x.goto (mbits m 42 32) u.tb.now))

/-- JB: a bit of Y or F. -/
def execJb (n : Fin 24) (s : State) : Host.Outcome State Fault Refusal :=
  s.micros n 0x0C (fun m x u =>
    let r := if mbits m 38 38 = 1 then w32 x.flags else x.y
    let hit := decide (bit r (mbits m 36 32) = decide (mbits m 37 37 = 1))
    u.setChan n (x.goto (if hit then mbits m 49 39 else x.pc + 1) u.tb.now))

/-- The status of a DONE. -/
def doneStatus (v : Nat) : Status := if v = 0x14 then .refusedRange else if v = 0x60 then .timeout else .ok

/-- DONE: ends the transfer in progress (R528); without one nothing is posted. -/
def execDone (n : Fin 24) (s : State) : Host.Outcome State Fault Refusal :=
  s.micros n 0x0D (fun m x u =>
    (u.setChan n (x.step u.tb.now)).endTransfer n (doneStatus (mbits m 39 32)) (mbits m 15 0))

/-- MICRO_NOP. -/
def execMicroNop (n : Fin 24) (s : State) : Host.Outcome State Fault Refusal :=
  s.micros n 0x0E (fun _ x u => u.setChan n (x.step u.tb.now))

end Sys2Proof.Machine
end

