-- ==== Sys2Proof/Machine/PowerCmd.lean ====
section
/-! DEFINITION. The commands of power (chapter 22): domain requests, clock gates, the slack governor, and the monitors. -/

namespace Sys2Proof.Machine

/-! ### The shift engine's part of a load (sections 2.2 and 18) -/

/-- The SHF fields that S09 loads: enables, entry points and stall timeouts, and the initial active bank. -/
def State.loadShf (s : State) : State :=
  let x := s.shp.shift
  let s1 := ((rangeFrom x.channels.length 0).zip x.channels).foldl (fun (t : State) (p : Nat × ShiftCh) =>
    ((t.setReg (A.shfChctl p.1) (w32 (b2n p.2.enable))).setReg (A.shfEntry p.1) (w32 p.2.entry)).setReg (A.shfStall p.1)
      (w32 p.2.stall)) s
  let code := ((rangeFrom x.code.length 0).zip x.code).foldl (fun m (p : Nat × W64) => SMap.set (fun _ => 0#64) m p.1 p.2) []
  { s1 with shf := { s1.shf with code := code } }

/-- Every enabled channel starts at its entry point (R529). -/
def State.startShf (s : State) : State :=
  (rangeFrom 24 0).foldl (fun (t : State) n => if t.chanOn n then t.toEntry n else t) s

/-! ### Domain switches (section 22.2) -/

/-- Thread slots of pounds whose REG_MASK includes a block, the manager and the warden slots reach it. -/
def State.reachesAs (s : State) (ag : Agent) (b : Nat) : Bool := isBoss ag || (isThread ag && s.reaches ag b)

/-- The port is disabled or administratively down. -/
def State.portDown (s : State) (p : Nat) : Bool := decide ((s.portCfg p).mode = 0) || bit (s.reg (A.prtCtrl p)) 0

/-- Some fulling stream is armed. -/
def State.someArmed (s : State) : Bool := (rangeFrom 64 0).any (fun n => s.armed n)

/-- What keeps domain `d` ON (Table 22-5). -/
def State.leaveStatus (s : State) (d : Nat) : Status :=
  let need := fun (b : Bool) => if b then Status.ok else .refusedNotReady
  let x := s.core d
  let chan := fun (c : Nat) => need (s.chState c == 0 || s.chState c == 3)
  if d < 64 then
    need ((decide (x.st = .spare) || decide (x.st = .quarantined)) && x.joins.isNone && !s.returning d)
  else if d < 68 then .ok
  else if d = 69 ∨ d = 83 then need (!s.someArmed)
  else if d = 70 then need (!(rangeFrom 24 0).any (fun n => s.chanOn n))
  else if d = 75 then chan 0
  else if d = 76 then chan 1
  else if d = 77 then need ((rangeFrom 4 0).all (fun p => s.portDown p))
  else if d = 78 then need ((rangeFrom 4 4).all (fun p => s.portDown p))
  else if d = 79 then .refusedRights
  else if d = 82 then .ok
  else need (bit (s.reg A.shpStat) 3)

/-- The first refusal of R612 that applies to a request for state `target` of domain `d` (0 OFF, 1 RETAIN, 2 ON). -/
def State.pdStatus (s : State) (ag : Agent) (d target : Nat) : Status :=
  if 83 < d ∨ 2 < target then .refusedRange
  else if s.pdState d = 3 then .refusedNotReady
  else if d = 81 ∧ target ≠ 2 then (if isWarden ag then .refusedRights else .refusedSecure)
  else if s.pdHeld d && decide (target ≠ 2) && !isWarden ag then .refusedSecure
  else if s.pdState d = 2 ∧ target ≠ 2 then s.leaveStatus d
  else .ok

/-- A refused request for a domain or an island: EV765 at its first occurrence in a cycle; a hold also raises EV730 (R556, R612,
the event table of chapter 19). -/
def State.pdRefused (s : State) (st : Status) : State :=
  if st = .refusedSecure then (s.raise 730).raise 765 else s.raiseFirst 765

/-- A PWR_PDREQ request (R612). -/
def State.pdReq (s : State) (ag : Agent) (d target : Nat) : State :=
  let st := s.pdStatus ag d target
  let k := agKey ag A.pwrPdreq
  let s1 := s.setReg k (w32 (st.code * 0x1000000))
  if st ≠ .ok then
    let s2 := s1.pdRefused st
    (if isHost ag then s2.logHost A.pwrPdreq st false true ag else s2).status st
  else if s1.pdState d = target then s1.status .ok
  else (s1.pdSwitch d target).status .ok

/-- A domain request of an agent, with the right to make it (R612). -/
def State.pdCmd (s : State) (ag : Agent) (d : BitVec 7) (target : Nat) : Host.Outcome State Fault Refusal :=
  if !s.reachesAs ag 0x01 then .next (s.refuse ag A.pwrPdreq .refusedRights) else .next (s.pdReq ag d.toNat target)

/-- DOMAIN_ON (R612). -/
def execDomainOn (ag : Agent) (d : BitVec 7) (s : State) : Host.Outcome State Fault Refusal := s.pdCmd ag d 2
/-- DOMAIN_RETAIN (R612). -/
def execDomainRetain (ag : Agent) (d : BitVec 7) (s : State) : Host.Outcome State Fault Refusal := s.pdCmd ag d 1
/-- DOMAIN_OFF (R612). -/
def execDomainOff (ag : Agent) (d : BitVec 7) (s : State) : Host.Outcome State Fault Refusal := s.pdCmd ag d 0

/-- The registers and counters that domain `d` governs, at reset: it was OFF (R611). A DRAM channel stays in SR_HELD with its
mask (R613). -/
def State.domainLost (s : State) (d : Nat) : State :=
  let mine := fun (k : Nat) => decide (regDomain (k % 0x100000000) = some d)
  let keep := fun (k : Nat) => decide (d = 75 ∧ (k = A.drcStat 0 ∨ k = A.drcSr 0)) ||
    decide (d = 76 ∧ (k = A.drcStat 1 ∨ k = A.drcSr 1))
  { s with regs := s.regs.filter (fun p => !mine p.1 || keep p.1),
           shadow := s.shadow.filter (fun p => !mine p.1),
           ctr := s.ctr.filter (fun p => !mine p.1) }

/-- Memory without the bytes from key `k` to below `k + n`. -/
def memDrop (m : List Host.Cell) (k n : Nat) : List Host.Cell := m.filter (fun c => !decide (k ≤ c.1 ∧ c.1 < k + n))

/-- The lockkeeper without its main store, its threads and its context lines: what the warden has stays (Table 20-2). -/
def State.lkOff (s : State) : State :=
  { s with lk := { State.reset.lk with
    toks := s.lk.toks.filter (fun p => decide (0x10000 ≤ p.1)), wReserved := s.lk.wReserved,
    threads := s.lk.threads.filter (fun p => decide (2048 ≤ p.1)), ready := s.lk.ready.filter (fun n => decide (2048 ≤ n)),
    seq := s.lk.seq, timers := s.lk.timers.filter (fun t => decide (0x10000 ≤ t.tag)) } }

/-- What a domain loses with its power (R610). -/
def State.domainOff (s : State) (d : Nat) : State :=
  let s1 := s.domainLost d
  if d < 64 then
    { s1 with mem := memDrop (memDrop s1.mem (kDram d) 0x10000) (kIram d) 0x10000,
              slots := s1.slots.filter (fun p => decide (p.1 / 8 ≠ d)) }
  else if d = 68 then { s1 with tbl := State.reset.tbl, mem := memDrop s1.mem kTable 0x200000 }
  else if d = 71 then { s1 with bsn := State.reset.bsn, mem := memDrop s1.mem kBasin 0x180000 }
  else if 72 ≤ d ∧ d ≤ 74 then { s1 with mem := memDrop s1.mem (kBasin + (d - 71) * 0x180000) 0x180000 }
  else if d = 79 then { s1 with boot := { s1.boot with l0 := false } }
  else if d = 80 then s1.lkOff
  else if d = 69 ∨ d = 83 then { s1 with ful := { s1.ful with streams := [] } }
  else if d = 70 then { s1 with shf := { s1.shf with chans := [], code := [], verify := none } }
  else s1

/-- What follows when domain `d` is ON again: from OFF the fields of S09 are loaded, lanes recalibrate, and a core that returns
goes on (R272, R611, R614). -/
def State.domainBack (s : State) (d was : Nat) : State :=
  if d < 64 then
    match s.lk.ret with
    | some r => if r.core = d ∧ r.state = 1 then { s with lk := { s.lk with ret := some { r with state := 2 } } } else s
    | none => s
  else if d = 70 ∧ was = 0 then s.loadShf.startShf
  else if d = 77 ∨ d = 78 then { s with pwr := { s.pwr with laneWait := s.pwr.laneWait ++ [d] } }
  else s

/-- A lane group that leaves ON loses its links. -/
def State.lanesOff (s : State) (d : Nat) : State :=
  let f := if d = 77 then 0 else 4
  let s1 := (rangeFrom 4 f).foldl (fun (t : State) p =>
    (t.setFld (A.prtStat p) 0 0 0).setPort p { t.port p with upSince := none, returning := false }) s
  { s1 with pwr := { s1.pwr with laneWait := s1.pwr.laneWait.filter (fun k => decide (k ≠ d)) } }

/-- The helper cluster of domain `d` holds no accepted request (R232). -/
def State.clusterIdle (s : State) (d : Nat) : Bool :=
  decide (d < 64 ∨ 68 ≤ d) ||
    (!s.uni.lookups.any (fun l => decide (64 + l.quad = d)) && !s.uni.preds.any (fun p => decide (64 + p.quad = d)) &&
      !s.slots.any (fun p => decide (64 + slotQuad p.1 = d) && (p.2.held.map (·.cluster)).getD false))

/-- A channel that returns from OFF replays its training record; a replay that fails leaves it OUT until the next start
(R613). -/
def State.channelBack (s : State) (d was : Nat) (replay : Bool) : State :=
  let x := d - 75
  if (d = 75 ∨ d = 76) ∧ was = 0 ∧ !replay ∧ s.chState x = 3 then
    (s.setCh x { s.ch x with exiting := false }).setFld (A.drcStat x) 2 0 0
  else s

/-- The place in the queue of the first switch of domain `d`. -/
def State.switchAt (s : State) (d : Nat) : Option Nat := s.pwr.queue.findIdx? (fun x => decide (x.dom = d))

/-- DOMAIN_SWITCH_COMPLETE: the switch of domain `d` in progress ends; `replay` says whether a DRAM channel's replay passed
(R610 to R615). -/
def execDomainSwitchComplete (d : Fin 84) (replay : Bool) (s : State) : Host.Outcome State Fault Refusal :=
  match s.switchAt d with
  | none => .next s
  | some k =>
    match s.pwr.queue[k]? with
    | none => .next s
    | some x =>
      if !s.switching k || (decide (x.target ≠ 2) && !s.clusterIdle d) then .next s
      else
        let s1 := { s with pwr := { s.pwr with queue := s.pwr.queue.eraseIdx k } }
        let s2 := s1.setPd d (if (s1.switchAt d).isSome then 3 else x.target)
        let s3 := if x.target = 0 then s2.domainOff d else s2
        let s4 := if x.target ≠ 2 ∧ (d.val = 77 ∨ d.val = 78) then s3.lanesOff d else s3
        if x.target = 2 then .next ((s4.channelBack d x.was replay).domainBack d x.was) else .next s4

/-- LANE_RECALIBRATION_COMPLETE: the lanes of PD77, or PD78 (`hi`), are calibrated again (R614). -/
def execLaneRecalibrationComplete (hi : Bool) (s : State) : Host.Outcome State Fault Refusal :=
  let d := if hi then 78 else 77
  .next { s with pwr := { s.pwr with laneWait := s.pwr.laneWait.filter (fun k => decide (k ≠ d)) } }

/-! ### Clocked islands (R616) -/

/-- What refuses the gating of island CKk. -/
def State.ckStatus (s : State) (ag : Agent) (k : Nat) : Status :=
  let chan := fun (c : Nat) => s.chState c == 0 || s.chState c == 3
  if k = 0 ∨ k = 1 ∨ k = 13 then .refusedRights
  else if bit (s.reg A.secHoldck) k && !isWarden ag then .refusedSecure
  else
    let good := if k = 2 then chan 0 else if k = 3 then chan 1
      else if k = 4 then (rangeFrom 8 0).all (fun p => !s.inService p) else !s.inService (k - 5)
    if good then .ok else .refusedNotReady

/-- The status of a PWR_CKREQ write: the first refusal of an island that it gates and that was not gated. -/
def State.ckreqStatus (s : State) (ag : Agent) (v : W32) : Status :=
  (((rangeFrom 14 0).filter (fun k => bit v k && !bit (s.reg A.pwrCkreq) k)).map (s.ckStatus ag)).find?
    (fun st => decide (st ≠ .ok)) |>.getD .ok

/-- The islands that stand still: gated, or with their domains (R616). -/
def State.ckStopped (s : State) : Nat :=
  s.fld A.pwrCkreq 13 0 ||| (b2n (!s.pdOn 75) * 4) ||| (b2n (!s.pdOn 76) * 8) |||
    (b2n (!s.pdOn 77 && !s.pdOn 78) * 16) |||
    sumNat ((rangeFrom 8 0).map (fun p => b2n (!bit (s.reg (A.prtStat p)) 0) * 2 ^ (5 + p)))

/-- A write of PWR_CKREQ (R616). -/
def State.ckReq (s : State) (ag : Agent) (v : W32) : State :=
  let st := s.ckreqStatus ag v
  let s1 := s.setReg (agKey ag A.pwrCkreq) (w32 (st.code * 0x1000000))
  if st = .ok then (s1.setReg A.pwrCkreq (w32 (bits v 13 0))).status .ok
  else
    let s2 := s1.pdRefused st
    (if isHost ag then s2.logHost A.pwrCkreq st false true ag else s2).status st

/-- CLOCK_GATE: a PWR_CKREQ write of the manager or a warden slot (R616). -/
def execClockGate (ag : Agent) (v : W32) (s : State) : Host.Outcome State Fault Refusal :=
  if !isBoss ag then .next (s.refuse ag A.pwrCkreq .refusedRights) else .next (s.ckReq ag v)

/-! ### The slack governor (section 22.4) -/

/-- The effective deadline E (R618). -/
def State.govDeadline (s : State) : Nat := min (s.fld A.pwrDeadline 22 0) (s.tb.cycLen - 500)

/-- vmax: VC_MAX, or THRVC while throttled if that is lower; a setting is a multiple of 10 mV (R618, R623). -/
def State.govMax (s : State) : Nat :=
  let m := s.fld A.pwrVclim 25 16
  if s.pwr.throttled then min m (s.fld A.monTherm 25 16 / 10 * 10) else m

/-- D[t][v] of the calibration table (R617). -/
def State.calAt (s : State) (t v : Nat) : Nat := SMap.get (fun _ => 0) s.pwr.cal (64 * t + v / 10 - 60)

/-- The tiles in service. -/
def State.tiles (s : State) : List Nat := (rangeFrom 64 0).filter (fun c => decide ((s.core c).st = .member))

/-- The predicted finish at a lower setting: F scaled by the largest ratio of the scaled table; the present replica delay scales
numerator and denominator alike, and a fraction of a nanosecond counts as a whole one (R617, R618, Example 22-1). -/
def State.govPredict (s : State) (f v w : Nat) : Nat :=
  s.tiles.foldl (fun m t => max m (if s.calAt t v = 0 then f else (f * s.calAt t w + s.calAt t v - 1) / s.calAt t v)) 0

/-- What the governor decides: the new setting and the ACTION code (R618). -/
def State.govChoice (s : State) (late : Bool) (f : Nat) (m : Int) : Nat × Nat :=
  let v := s.fld A.pwrVcore 9 0
  let st := s.fld A.pwrGovctl 27 24 * 10
  let vmax := s.govMax
  let margin : Int := s.fld A.pwrMargin 22 0
  let hyst : Int := s.fld A.pwrGovhyst 15 0
  let e : Int := s.govDeadline
  let r : Nat × Nat :=
    if late then (min vmax (v + 3 * st), 3)
    else if m < margin - hyst then (min vmax (v + st), 2)
    else if margin + hyst < m ∧ s.fld A.pwrVclim 9 0 + st ≤ v then
      (if margin + hyst ≤ e - s.govPredict f v (v - st) then (v - st, 1) else (v, 0))
    else (v, 0)
  if vmax < v then (vmax, 4) else if r.1 = v then (v, if late then 3 else 0) else r

/-- The process monitors and replica delays of a cycle (R617, R626). -/
def State.monitors (s : State) (pm : List (BitVec 10)) (rpl : List (BitVec 16)) : State :=
  let v := s.fld A.pwrVcore 9 0
  (rangeFrom 64 0).foldl (fun (t : State) n =>
    let c := (nth pm n 0#10).toNat
    let r := (nth rpl n 0#16).toNat
    let t1 := (t.setReg (A.monPm n) (w32 c)).setReg (A.monRpl n) (w32 (r + min 0xFFFF (t.calAt n v) * 0x10000))
    if (t.core n).st = .member ∧ (c < 200 ∨ 824 < c) then t1.raise 759 else t1) s

/-- A signed number in 16 bits, saturating. -/
def sat16 (i : Int) : Nat := ((max (-32768) (min 32767 i)) % 65536).toNat

/-- The instant of the decision: the later of F and DECIDE, but no later than E (R618). -/
def State.decideAt (s : State) : Nat :=
  let fin := bit (s.reg A.fltFinish) 31
  min s.govDeadline (if fin then max (s.fld A.fltFinish 22 0) (s.fld A.pwrGovctl 22 0) else s.govDeadline)

/-- The decision of the governor with the monitors of its cycle (R617 to R622). -/
def State.govern (s : State) (pm : List (BitVec 10)) (rpl : List (BitVec 16)) : State :=
  let s0 := (s.advance (s.tb.cycStart.toNat + s.decideAt)).monitors pm rpl
  let e := s0.govDeadline
  let fin := bit (s0.reg A.fltFinish) 31
  let f := s0.fld A.fltFinish 22 0
  let late := !fin || decide (e < f) || s0.once.contains 464
  let m : Int := if fin then (e : Int) - f else -1
  let v := s0.fld A.pwrVcore 9 0
  let fixed := bit (s0.reg A.bootFallback) 7
  let c := if fixed then (v, 0) else s0.govChoice late f m
  let s1 := (s0.setReg A.pwrGovfin (w32 ((if fin then f else 0) + b2n late * 0x80000000))).setReg A.pwrGovstat
    (w32 (c.2 + b2n s0.pwr.throttled * 8 + sat16 m * 0x10000))
  let s2 := { s1 with pwr := { s1.pwr with decided := true } }
  if fixed then s2
  else
    let s3 := if late then s2.raise 755 else s2
    let s4 := if decide (v = s3.govMax) && decide (m < s3.fld A.pwrMargin 22 0) then s3.raise 756 else s3
    if c.1 = v then s4
    else ((s4.setFld A.pwrVcore 25 16 c.1).hwArm 20).raise 757

/-- GOVERNOR_DECISION: once in every cycle; the operands are the process monitor codes and the replica delays that the tiles
report (R618). -/
def execGovernorDecision (pm : List (BitVec 10)) (rpl : List (BitVec 16)) (s : State) : Host.Outcome State Fault Refusal :=
  if !s.tb.cycRun || s.pwr.decided || s.boot.limp then .next s else .next (s.govern pm rpl)

/-! ### Monitors (section 22.5) -/

/-- A temperature in quarters of a degree. -/
def degrees (t : BitVec 12) : Int := t.toInt

/-- The highest of the sensors and its number. -/
def hottest (l : List (BitVec 12)) : Int × Nat :=
  ((rangeFrom l.length 0).zip l).foldl (fun (a : Int × Nat) (p : Nat × BitVec 12) =>
    if a.1 < degrees p.2 then (degrees p.2, p.1) else a) (-2048, 0)

/-- A condition of R623 after a sample: it begins at the threshold and ends 5 °C below it. -/
def thermalNow (was : Bool) (tj : Int) (deg : Nat) : Bool :=
  decide ((deg : Int) * 4 ≤ tj) || (was && decide ((deg : Int) * 4 - 20 < tj))

/-- The thermal shutdown (R624): port links down, every domain but PD81 OFF, VCORE off, and the record. -/
def State.thermalShutdown (s : State) (sensor : Nat) : State :=
  let s1 := (rangeFrom 8 0).foldl (fun (t : State) p => (t.leaveService p).setFld (A.prtStat p) 0 0 0) s
  let s2 := (rangeFrom 84 0).foldl (fun (t : State) d => if d = 81 then t else (t.setPd d 0).domainOff d)
    { s1 with pwr := { s1.pwr with queue := [], laneWait := [], shut := true } }
  let r := s2.reg A.pwrShutrec
  s2.setReg A.pwrShutrec (w32 (1 + sensor * 0x10 + min 0xFFFF (bits r 31 16 + 1) * 0x10000))

/-- TEMPERATURE_SAMPLE: the 12 sensors report (R623, R624). -/
def execTemperatureSample (tj : List (BitVec 12)) (s : State) : Host.Outcome State Fault Refusal :=
  let h := hottest tj
  let s1 := (rangeFrom 12 0).foldl (fun (t : State) n => t.setReg (A.monTemp n) (w32 (nth tj n 0#12).toNat)) s
  let s2 := s1.setReg A.monTjmax (w32 ((h.1 % 4096).toNat))
  let warn := thermalNow s.pwr.warned h.1 (s.fld A.monTherm 7 0)
  let thr := thermalNow s.pwr.throttled h.1 (s.fld A.monTherm 15 8)
  let s3 := { s2 with pwr := { s2.pwr with warned := warn, throttled := thr } }
  let s4 := if warn && !s.pwr.warned then s3.raise 752 else s3
  let s5 := if thr && !s.pwr.throttled then s4.raise 753 else s4
  if 540 ≤ h.1 ∧ !s.pwr.shut then .next ((s5.raise 754).thermalShutdown h.2) else .next s5

/-- THERMAL_RECOVERY: Tj has fallen below 100 °C after a shutdown; a power-on reset follows, with VIN present (R624). -/
def execThermalRecovery (s : State) : Host.Outcome State Fault Refusal :=
  let tj := (BitVec.ofNat 12 (s.fld A.monTjmax 11 0)).toInt
  if s.pwr.shut && decide (tj < 400) then .next (s.powerOn true) else .next s

/-- The output of rail `n` in mV: from its lowest to its highest (Table 22-2). -/
def railOutput (vfsel : Bool) (n : Nat) : Nat × Nat :=
  match n with
  | 0 => (2500, 5500)
  | 2 => (800, 800)
  | 3 => (1800, 1800)
  | 4 => (900, 900)
  | 5 => (600, 600)
  | 6 => if vfsel then (3300, 3300) else (1800, 1800)
  | _ => (1800, 3600)

/-- Rail `n` at `mv` is low or high (R625): VCORE by more than 40 mV from its target once it has settled, every other rail by
more than 5 %. -/
def State.railOut (s : State) (n mv : Nat) (settled : Bool) : Bool × Bool :=
  let v := s.fld A.pwrVcore 9 0
  if n = 1 then (settled && decide (mv + 40 < v), settled && decide (v + 40 < mv))
  else
    let o := railOutput s.boot.vfsel n
    (decide (mv * 100 < o.1 * 95), decide (o.2 * 105 < mv * 100))

/-- RAIL_SAMPLE: each rail is sampled; `settled` says that VCORE has had its settling time (R625); EV766 when VIN falls below
the warning threshold of Table 22-1. -/
def execRailSample (mv : List (BitVec 16)) (settled : Bool) (s : State) : Host.Outcome State Fault Refusal :=
  let vin := (nth mv 0 0#16).toNat
  let s1 := (rangeFrom 8 0).foldl (fun (t : State) n =>
    let m := (nth mv n 0#16).toNat
    let o := s.railOut n m settled
    let a := A.monRail n
    let t1 := t.setReg a (setBits (setBits (setBits (t.reg a) 15 0 m) 16 16 (if o.1 then 1 else bits (t.reg a) 16 16))
      17 17 (if o.2 then 1 else bits (t.reg a) 17 17))
    if o.1 || o.2 then t1.raise 758 else t1) s
  .next (if vin < 2470 ∧ 2470 ≤ s.fld (A.monRail 0) 15 0 then s1.raise 766 else s1)

end Sys2Proof.Machine
end

