-- ==== Sys2Proof/Machine/Boot.lean ====
section
/-! DEFINITION. Bring-up (chapter 3): the start steps, the start log, failed steps with their fallbacks, the limp start, and the
resets. -/

namespace Sys2Proof.Machine

/-! ### The start log (section 3.4) -/

/-- The slot of the next entry: after the newest, or at the start of the other sector. -/
def State.nextSlot (s : State) : Nat :=
  match s.logEntries.head? with
  | none => 0
  | some e => (e.slot + 1) % 128

/-- A new entry: its sector is erased when it is the first there, then SEQ, KIND, LCS, BANK and MODE with HCRC (Table 3-7). -/
def State.newEntry (s : State) (kind bank mode : Nat) : Nat × State :=
  let i := s.nextSlot
  let seq := (s.newestSeq.getD 0#32) + 1#32
  let s1 := if i % 64 = 0 then s.flashOn.eraseSector (logKey i) else s.flashOn
  let h := leBytes 4 seq.toNat ++ leBytes 1 kind ++ leBytes 1 s.lcs' ++ leBytes 1 bank ++ leBytes 1 mode
  (logKey i, s1.writeBytes (logKey i) (h ++ leBytes 4 (crc32c h).toNat))

/-- Program `n` bytes at an offset of this start's entry; without one nothing is written. -/
def State.logPut (s : State) (o n v : Nat) : State :=
  match s.boot.entry with
  | none => s
  | some k => s.flashOn.writeLE (k + o) n v

/-- Clear a bit of a word of this start's entry. -/
def State.logBit (s : State) (o i : Nat) : State :=
  match s.boot.entry with
  | none => s
  | some k => s.flashOn.writeLE (k + o) 4 (setBit (w32 (s.readLE (k + o) 4)) i false).toNat

/-- The first step of this start (Table 3-3). -/
def State.firstStep (s : State) : Nat := if s.fld A.bootCause 3 0 = 1 then 1 else 4

/-- The STEPS word when the steps up to `n` have completed in this start. -/
def State.stepsWord (s : State) (n : Nat) : W32 :=
  (rangeFrom 20 1).foldl (fun w k => if s.firstStep ≤ k ∧ k ≤ n then setBit w (k - 1) false else w) 0xFFFFFFFF#32

/-- A failed start as an entry of its own (section 3.4). -/
def State.failedEntry (s : State) (f : Failure) : State :=
  let e := s.newEntry f.kind 0xFF 0
  let s1 := e.2.writeLE (e.1 + 0x0C) 4 f.steps.toNat
  ((s1.writeLE (e.1 + 0x14) 1 f.step).writeLE (e.1 + 0x15) 1 f.cause).writeLE (e.1 + 0x16) 2 f.detail

/-- The failed or complete entries that R81 counts, newest first: FSTEP and FCAUSE of each. Failures held at S07 are the
newest. -/
def State.outcomes (s : State) : List (Nat × Nat) :=
  let new := fun (e : LogEntry) => match s.boot.base with
    | none => true
    | some b => seqNewer e.seq b
  List.replicate s.boot.s07Fails (7, 0x07) ++
    ((s.logEntries.filter (fun e => new e && (decide (e.fstep ≠ 0xFF) || decide (e.elapsed ≠ 0xFFFFFFFF)))).map
      (fun e => (e.fstep, e.fcause)))

/-- The start is a limp start (R81). -/
def limpNow (l : List (Nat × Nat)) : Bool :=
  match l with
  | a :: b :: c :: rest =>
    decide (a.1 ≠ 0xFF ∧ a.1 = b.1 ∧ b.1 = c.1) ||
      (match rest with
       | d :: _ => [a, b, c, d].all (fun x => decide (x.1 ≠ 0xFF))
       | [] => false)
  | _ => false

/-- The failed entries at the head of a list. -/
def failRun : List (Nat × Nat) → Nat
  | [] => 0
  | a :: rest => if a.1 = 0xFF then 0 else failRun rest + 1

/-- BOOT_STAT's view of the starts before this one. -/
def State.showPrev (s : State) (l : List (Nat × Nat)) : State :=
  let p := (l.find? (fun a => decide (a.1 ≠ 0xFF))).getD (0x1F, 0xFF)
  ((s.setFld A.bootStat 15 8 p.2).setFld A.bootStat 20 16 p.1).setFld A.bootStat 23 21 (min 4 (failRun l))

/-! ### Steps -/

/-- The step after which step `n` may run (R67, R82). -/
def State.before (s : State) (n : Nat) : Nat :=
  if s.boot.limp then (if n = 15 then 11 else if n = 19 then (if s.boot.step = 16 then 16 else 15) else n - 1) else n - 1

/-- Step `n` is the one that runs; a limp start skips S12 to S14 and S16 to S18 (R82). -/
def State.stepDue (s : State) (n : Nat) : Bool :=
  s.boot.running && !s.boot.held && s.boot.failed.isNone && decide (s.boot.step = s.before n) &&
    !(s.boot.limp && [12, 13, 14, 16, 17, 18].contains n)

/-- Step `n` is the last completed step. -/
def State.markStep (s : State) (n : Nat) : State :=
  ({ s with boot := { s.boot with step := n } }.setFld A.bootStat 4 0 n).logBit 0x0C (n - 1)

/-- The steps that a limp start skips after step `n` (R82). -/
def State.skipSteps (s : State) (l : List Nat) : State := l.foldl (fun (t : State) k => t.logBit 0x10 (k - 1)) s

/-- Step 15 completes at once when the link is in L0 already (R67). -/
def State.linkStep (s : State) : State :=
  if s.boot.l0 then
    let s1 := s.markStep 15
    if s1.boot.limp then s1.skipSteps [16, 17, 18] else s1
  else s

/-- Step `n` completes. -/
def State.stepDone (s : State) (n : Nat) : State :=
  let s1 := s.markStep n
  if n = 14 then s1.linkStep
  else if n = 11 ∧ s1.boot.limp then (s1.skipSteps [12, 13, 14]).linkStep
  else s1

/-- The device halts: PD79 is off and the link is down (R83). -/
def State.halt (s : State) : State :=
  let s1 := s.setPd 79 0
  { s1 with boot := { s1.boot with running := false, halted := true, l0 := false } }

/-- Step `n` fails (R78, R83, section 3.4): recorded in this start's entry, or held in the always-on domain before there is
one. -/
def State.stepFails (s : State) (n cause detail : Nat) : State :=
  let f : Failure := { step := n, cause := cause, detail := detail, steps := s.stepsWord (n - 1), kind := s.fld A.bootCause 3 0 }
  let s1 :=
    if n ≤ 7 then { s with boot := { s.boot with early := some f, s07Fails := if n = 7 then s.boot.s07Fails + 1 else s.boot.s07Fails } }
    else ((s.logPut 0x14 1 n).logPut 0x15 1 cause).logPut 0x16 2 detail
  let s2 : State := { s1 with boot := { s1.boot with bankFail := if n = 8 ∨ n = 9 then s1.boot.bank else none } }
  if s2.boot.limp ∧ (n = 2 ∨ n = 6 ∨ n = 10 ∨ n = 11) then s2.halt
  else { s2 with boot := { s2.boot with failed := some f } }

/-- A step whose outcome is a DETAIL on failure, with what it does when it passes. -/
def State.plainStep (s : State) (n cause : Nat) (bad : Option Nat) (f : State → State) : Host.Outcome State Fault Refusal :=
  if !s.stepDue n then .next s
  else
    match bad with
    | some d => .next (s.stepFails n cause d)
    | none => .next ((f s).stepDone n)

/-- VIN_GOOD: S01 completes, unless TEST is high (R67, R606, R629). -/
def execVinGood (test : Bool) (s : State) : Host.Outcome State Fault Refusal :=
  if test then .next s else s.plainStep 1 0 none id

/-- The rails start at S02 with VFSEL sampled; a rail that fails leaves the device at S02 (R607, R628, section 3.4). -/
def State.railsStart (s : State) (vfsel : Bool) (bad : Option (Fin 8)) : State :=
  let s1 := { s with boot := { s.boot with vfsel := vfsel } }
  match bad with
  | some r => s1.stepFails 2 2 r
  | none => State.stepDone { s1 with boot := { s1.boot with failed := none } } 2

/-- REGULATORS: S02 (R607). -/
def execRegulators (vfsel : Bool) (bad : Option (Fin 8)) (s : State) : Host.Outcome State Fault Refusal :=
  if !s.stepDue 2 then .next s else .next (s.railsStart vfsel bad)

/-- The device waits at S02 after a regulator fault. -/
def State.railFault (s : State) : Bool :=
  s.boot.running && decide ((s.boot.failed.map (·.step)) = some 2)

/-- REGULATOR_RETRY: 100 ms after a fault at S02 the rails are tried again (section 3.4, Edges). -/
def execRegulatorRetry (vfsel : Bool) (bad : Option (Fin 8)) (s : State) : Host.Outcome State Fault Refusal :=
  if !s.railFault then .next s else .next (s.railsStart vfsel bad)

/-- ALWAYS_ON: S03 powers PD79, starts CK01 and samples DRSPD (R67, R401). -/
def execAlwaysOn (drspd : BitVec 2) (s : State) : Host.Outcome State Fault Refusal :=
  s.plainStep 3 0 none (fun t => State.setPd { t with boot := { t.boot with drspd := drspd.toNat } } 79 2)

/-- The three bits of every state fuse agree (R584). -/
def State.fusesAgree (s : State) : Bool := s.lcs.otp.groups.all (fun g => decide (g = 0#3) || decide (g = 7#3))

/-- OTP_AND_LIFE_CYCLE: S04 reads the fuses; the life-cycle state follows from them. A state fuse whose bits do not agree fails the
step too; the numbering of the fuse words is not stated, so that without an operand DETAIL is free (R584, assumption 6). -/
def execOtpAndLifeCycle (bad : Option (BitVec 16)) (s : State) : Host.Outcome State Fault Refusal :=
  if !s.stepDue 4 || s.fusesAgree || bad.isSome then s.plainStep 4 4 (bad.map (·.toNat)) id
  else { s with free := s.free + 1 }.plainStep 4 4 (some ((Config.freeWord s.free).toNat % 0x10000)) id

/-- BATTERY_DOMAIN_AND_TAMPER: S05 checks the CRC of the root secret (R567). -/
def execBatteryDomainAndTamper (s : State) : Host.Outcome State Fault Refusal :=
  s.plainStep 5 0 none State.checkRoot

/-- WARDEN_ROM_SELF_TEST: S06 (Table 3-5). -/
def execWardenRomSelfTest (bad : Option (Fin 4)) (s : State) : Host.Outcome State Fault Refusal :=
  s.plainStep 6 6 (bad.map (·.val)) id

/-! ### S07 -/

/-- An interrupted wipe is completed (R592). -/
def State.finishWipe (s : State) : State :=
  let r := s.updRec
  if (s.lcs' = 5 ∨ s.lcs' = 6) ∧ !r.wiped then (s.wipeFlash s.lcs').writeRec { r with wiped := true } else s

/-- A trial is counted, or ends in the other bank after three (R601). -/
def State.countTrial (s : State) : State :=
  let r := s.updRec
  if r.state ≠ 3 then s
  else if r.tries = 3 then
    let t := s.writeRec { r with active := 1 - r.active, state := 4, reason := 1 }
    { t with boot := { t.boot with fellBack := true } }
  else s.writeRec { r with tries := r.tries + 1 }

/-- Pending anti-rollback fuses are burned (R601). -/
def State.burnPending (s : State) : State :=
  let r := s.updRec
  if r.arbPending then (s.burnArb r.secver.toNat).writeRec { r with arbPending := false } else s

/-- The bank that this start uses: the record's, or the other under a kept fallback (R55, R602). -/
def State.startBank (s : State) : Nat := if bit s.boot.fallback 0 then 1 - s.updRec.active % 2 else s.updRec.active % 2

/-- S07 with a flash that can be read: held failures become an entry, the record is handled, and this start's entry opens. -/
def State.flashStep (s : State) (limp : Bool) (l : List (Nat × Nat)) : State :=
  let s1 := match s.boot.early with
    | some f => s.failedEntry f
    | none => s
  let s2 := { s1 with boot := { s1.boot with early := none, s07Fails := 0, limp := limp } }
  let s3 := ((s2.finishWipe.countTrial).burnPending).showPrev l
  let e := s3.newEntry (s3.fld A.bootCause 3 0) (if limp then 0xFE else s3.startBank) (b2n limp)
  let s4 := e.2.writeLE (e.1 + 0x0C) 4 (e.2.stepsWord 6).toNat
  State.stepDone { s4 with boot := { s4.boot with entry := some e.1 } } 7

/-- What R81 counts at S07, with a failure that is still held. -/
def State.countedNow (s : State) : List (Nat × Nat) :=
  (match s.boot.early with
   | some f => if f.step = 7 then [] else [(f.step, f.cause)]
   | none => []) ++ s.outcomes

/-- FLASH_AND_UPDATE_RECORD: S07; `bad` is the DETAIL of a flash that cannot be read (R81, R83, R600, R601). -/
def execFlashAndUpdateRecord (bad : Option (BitVec 16)) (s : State) : Host.Outcome State Fault Refusal :=
  if !s.stepDue 7 then .next s
  else
    match bad with
    | some d =>
      let l := List.replicate s.boot.s07Fails (7, 7)
      if limpNow l then
        let s1 := State.showPrev { s with boot := { s.boot with limp := true, noLog := true } } l
        .next (s1.stepDone 7)
      else .next (s.stepFails 7 7 d.toNat)
    | none =>
      let l := s.countedNow
      if s.recNewest = none ∧ !limpNow l then .next (s.stepFails 7 7 0xFFFF) else .next (s.flashStep (limpNow l) l)

/-! ### S08 and S09 -/

/-- The start becomes a limp start with no further restart (R56, R81). -/
def State.toLimp (s : State) : State := { s with boot := { s.boot with limp := true, bankFail := none } }

/-- A full image fails a check: recorded, and the next start uses the other bank, or the limp shape is loaded now when that
bank failed in the start before (R55, R56, Table 3-6). -/
def State.imageFails (s : State) (n : Nat) (e : ImgErr) : State × Bool :=
  let s1 := s.loadErr e 0
  if s1.boot.bankFail.isSome ∧ s1.boot.bankFail ≠ s1.boot.bank then
    (((s1.logPut 0x14 1 n).logPut 0x15 1 8).logPut 0x16 2 e.code |>.toLimp, true)
  else (s1.stepFails n 8 e.code, false)

/-- IMAGE_SELECT_AND_VERIFY: S08 selects a bank and runs checks 0x01 to 0x08 (R41, R55, R56). -/
def execImageSelectAndVerify (s : State) : Host.Outcome State Fault Refusal :=
  if !s.stepDue 8 then .next s
  else if s.boot.limp then .next (s.stepDone 8)
  else if s.lcs' = 1 ∨ s.lcs' = 6 then .next (s.toLimp.stepDone 8)
  else
    let b := s.startBank
    let s1 := { s with boot := { s.boot with bank := some b } }
    match fullHead (s1.bankRd b) s1.lcs.otp with
    | none => .next (s1.stepDone 8)
    | some e =>
      let r := s1.imageFails 8 e
      .next (if r.2 then r.1.stepDone 8 else r.1)

/-- The digest registers (R42). -/
def State.showDigest (s : State) (d : BitVec 256) : State :=
  (rangeFrom 8 0).foldl (fun (t : State) n => t.setReg (A.shpDigest n) (w32 (leNat (((bytes256 d).drop (4 * n)).take 4)))) s

/-- The routes of a list of sources from number `e` on. -/
def State.setRoutes (s : State) (e : Nat) (l : List W32) : State :=
  ((rangeFrom l.length e).zip l).foldl (fun (t : State) (p : Nat × W32) => t.setReg (A.evrRoute p.1) p.2) s

/-- The domain states of a list of 84. -/
def State.setDomains (s : State) (l : List Nat) : State :=
  ((rangeFrom l.length 0).zip l).foldl (fun (t : State) (p : Nat × Nat) => t.setPd p.1 p.2) s

/-- The cores of the pounds of a fabric serve them. -/
def State.setMembers (s : State) (f : Fabric) : State :=
  f.pounds.foldl (fun (t : State) p =>
    (rangeFrom 64 0).foldl (fun (u : State) c =>
      if p.cores.getLsbD c then u.setCore c { Core.init with st := .member, cfg := some p } else u) t) s

/-- The registers of the governor (R621). -/
def State.setGovernor (s : State) (p : PowerCfg) : State :=
  ((s.setReg A.pwrDeadline (w32 p.deadline)).setReg A.pwrMargin (w32 p.margin)).setReg A.pwrVclim
    (w32 (p.vcMin + p.vcMax * 0x10000))

/-- The secure part of a load: holds, secure groups and routes (R556, section 2.2). -/
def State.setSecure (s : State) (x : SecureCfg) : State :=
  let s1 := (rangeFrom 3 0).foldl (fun (t : State) k => t.setReg (A.secHoldpd k) (nth x.holdPd k 0#32)) s
  let s2 := s1.setReg A.secHoldck x.holdCk
  let s3 := (rangeFrom 32 0).foldl (fun (t : State) g => t.setFld (A.sauGrp g) 20 20 (b2n (bit x.semGroups g))) s2
  s3.setRoutes 720 x.routes

/-- The shape that a full image gives (section 2.2). -/
def State.shapeOf (s : State) (r : Rd) : Shp :=
  { s.shp with
    fabric := parseFabric r (sectOff r 1), old := none, memory := parseMemory r (sectOff r 2),
    tables := parseTables r (sectOff r 3), ports := parsePorts r (sectOff r 4), programs := parsePrograms r (sectOff r 5),
    oldPrograms := [], shift := parseShift r (sectOff r 6), power := parsePower r (sectOff r 8),
    mgrVectors := rdLE r (sectOff r 9) 2, tenants := parseTenants r (sectOff r 9),
    secure := parseSecure (listRd (secureBytes r (sectOr r 10) s.sec.root)), digest := imgDigest r, loaded := true, full := true,
    delta := none }

/-- Every section of the image in bank `b` is loaded (S09; R51, R55). -/
def State.loadImage (s : State) (b : Nat) : State :=
  let r := s.bankRd b
  let s1 : State := { s with shp := s.shapeOf r }
  let s2 := ((s1.setReg A.shpStat (w32 (b * 16))).setReg A.shpBuild (w32 (rdLE r 0x14 4))).setReg A.shpSecver (w32 (rdLE r 0x10 4))
  let s3 := ((s2.showDigest s2.shp.digest).setRoutes 0 (parseEvents r (sectOff r 7))).setSecure s2.shp.secure
  let s4 := (s3.setDomains s3.shp.power.domains).setGovernor s3.shp.power
  ((((s4.setPd 79 2).setPd 81 2).setMembers s4.shp.fabric).loadShf)

/-- The masked default of a source (Table 19-1). -/
def maskedSource (e : Nat) : Bool :=
  decide (e < 256 ∧ e % 32 = 6) || [390, 450, 516, 520, 521, 532, 536, 537, 588, 757, 763].contains e ||
    decide (648 ≤ e ∧ e ≤ 679) || decide (688 ≤ e ∧ e ≤ 711)

/-- The mirrored secure sources (Table 19-3). -/
def mirroredSource (e : Nat) : Bool := [720, 721, 724, 726, 727, 744].contains e

/-- The route of a source under the limp shape (R549). -/
def limpRoute (e : Nat) : W32 :=
  if 720 ≤ e ∧ e ≤ 751 then w32 (3 + b2n (mirroredSource e) * 0x400 + 0x10000) else w32 (2 + b2n (maskedSource e) * 0x100)

/-- The domains that are ON under the limp shape: those that R51 keeps ON under a full shape, with PD79, PD81 and PD82. -/
def limpDomain (d : Nat) : Nat := if d = 68 ∨ (71 ≤ d ∧ d ≤ 74) ∨ (79 ≤ d ∧ d ≤ 82) then 2 else 0

/-- The limp shape (R56). -/
def State.loadLimp (s : State) : State :=
  let x : Shp := { State.reset.shp with fabric := { pounds := [], entry := [], period := 1000000 }, mgrVectors := 8, loaded := true }
  let s1 : State := { s with shp := x, cores := [] }
  let s2 := (s1.setReg A.shpStat 8#32).setRoutes 0 ((rangeFrom 768 0).map limpRoute)
  (s2.setDomains ((rangeFrom 84 0).map limpDomain)).setFld A.bootStat 7 7 1

/-- SHAPE_LOAD: S09 runs checks 0x09 to 0x12 and loads every section, or the limp shape (R55, R56). -/
def execShapeLoad (s : State) : Host.Outcome State Fault Refusal :=
  if !s.stepDue 9 then .next s
  else
    match s.boot.limp, s.boot.bank with
    | false, some b =>
      (match fullBody (s.bankRd b) s.sec.root s.boot.vfsel with
       | none => .next ((s.loadImage b).stepDone 9)
       | some e =>
         let r := s.imageFails 9 e
         .next (if r.2 then r.1.loadLimp.stepDone 9 else r.1))
    | _, _ => .next (s.loadLimp.stepDone 9)

/-! ### S10 to S19 -/

/-- The memories that S10 zeroes: every on-chip SRAM. -/
def isSram (k : Nat) : Bool := decide (k < kFlash) || decide (kImageStore ≤ k ∧ k < kDramCh 0)

/-- SRAM_REPAIR_AND_INITIALISATION: S10 zeroes every on-chip SRAM (R67). -/
def execSramRepairAndInitialisation (bad : Option (BitVec 16)) (s : State) : Host.Outcome State Fault Refusal :=
  s.plainStep 10 0x0A (bad.map (·.toNat)) (fun t => { t with mem := t.mem.filter (fun c => !isSram c.1) })

/-- TIMEBASE_PLL: S11 starts CK00 with TB time 0 (R67, R85). -/
def execTimebasePll (lock : Bool) (s : State) : Host.Outcome State Fault Refusal :=
  s.plainStep 11 0x0B (if lock then none else some 0) (fun t =>
    { t with tb := { State.reset.tb with started := true } })

/-- Bits of BOOT_FALLBACK that belong to channel `x`: REPLAY, 2133, DISABLED. -/
def fallBit (x k : Nat) : Nat := 1 + 3 * x + k

/-- The state with the kept fallback of channel `x`: 0 REPLAY, 1 2133, 2 DISABLED. -/
def State.setFall (s : State) (x k : Nat) : State :=
  let f := (rangeFrom 3 0).foldl (fun w j => setBit w (fallBit x j) (decide (j = k))) s.boot.fallback
  { s with boot := { s.boot with fallback := f } }

/-- Channel `x` has trained: rate, ranks, size and how (DRC_STATx), and the zero fills begin (R403, R407). `how`: 0 full
training, 1 replay, 2 at 2133 MT/s. -/
def State.trained (s : State) (x how : Nat) (two : Bool) : State :=
  let size := if x = 0 then s.shp.memory.densA else s.shp.memory.densB
  let rate := if how = 2 then 2 else s.boot.drspd
  let fills := s.regionsWhere (fun r => r.ecc && decide (r.channel = x))
  (s.setReg (A.drcStat x) (w32 (rate * 8 + b2n two * 0x20 + size * 0x40 + how * 0x200))).setCh x { s.ch x with fills := fills }

/-- Training of channel `x` under a kept fallback: replay, then 2133 MT/s, then disabled (Table 3-6). -/
def State.fallTrain (s : State) (x : Nat) (replay slow two : Bool) : State :=
  let f := s.boot.fallback
  if bit f (fallBit x 0) && s.boot.train.contains x && replay then s.trained x 1 two
  else if !bit f (fallBit x 2) && slow then (s.setFall x 1).trained x 2 two
  else s.setFall x 2

/-- A training step: nothing for a channel without memory; a first failure fails the step; values that pass and differ are stored
(R79, R404, R405). -/
def State.trainStep (s : State) (x : Nat) (bad : Option (Fin 6)) (replay slow differs two : Bool) :
    Host.Outcome State Fault Refusal :=
  let n := 12 + x
  let f := s.boot.fallback
  let kept := bit f (fallBit x 0) || bit f (fallBit x 1) || bit f (fallBit x 2)
  let size := if x = 0 then s.shp.memory.densA else s.shp.memory.densB
  if !s.stepDue n then .next s
  else if size = 0 then .next (s.stepDone n)
  else if kept then .next ((s.fallTrain x replay slow two).stepDone n)
  else
    match bad with
    | some d => .next (s.stepFails n 0x0C (d.val + 1))
    | none =>
      let s1 := if differs && !s.boot.train.contains x then { s with boot := { s.boot with train := s.boot.train ++ [x] } } else s
      .next ((s1.trained x 0 two).stepDone n)

/-- DRAM_A_TRAINING: S12. The operands are what the training finds: the phase that fails (0 is phase 1), whether a replay and a
training at 2133 MT/s pass, whether values differ from those stored, and whether two ranks answer. -/
def execDramATraining (bad : Option (Fin 6)) (replay slow differs two : Bool) (s : State) : Host.Outcome State Fault Refusal :=
  s.trainStep 0 bad replay slow differs two

/-- DRAM_B_TRAINING: S13. -/
def execDramBTraining (bad : Option (Fin 6)) (replay slow differs two : Bool) (s : State) : Host.Outcome State Fault Refusal :=
  s.trainStep 1 bad replay slow differs two

/-- Lane `n` is calibrated: its port has a MODE and no fallback disables it. -/
def State.laneUsed (s : State) (n : Nat) : Bool := decide ((s.portCfg n).mode ≠ 0) && !bit s.boot.fallback (8 + n)

/-- SERDES_CALIBRATION: S14 (Table 3-6). -/
def execSerdesCalibration (bad : Option (Fin 8)) (s : State) : Host.Outcome State Fault Refusal :=
  s.plainStep 14 0x0E ((bad.map (·.val)).filter s.laneUsed) id

/-- PCIE_LINK: the link reaches L0, at the earliest after S03 and PERST# release; S15 completes when S14 has (R67). -/
def execPcieLink (s : State) : Host.Outcome State Fault Refusal :=
  if s.boot.held || s.boot.halted || decide (s.boot.step < 3) then .next s
  else
    let s1 := { s with boot := { s.boot with l0 := true } }
    .next (if s.boot.running && s.boot.failed.isNone && (decide (s.boot.step = 14) || (s.boot.limp && decide (s.boot.step = 11)))
      then s1.linkStep else s1)

/-- LINK_LOSS_DURING_BRING_UP: S15 is repeated from Detect; the completed steps stand (section 3.2, Edges). -/
def execLinkLossDuringBringUp (s : State) : Host.Outcome State Fault Refusal :=
  if s.boot.running then .next { s with boot := { s.boot with l0 := false } } else .next s

/-- Core `c` is out of its pound; the lowest spare core takes its place with its domain ON (Table 3-6, R271). -/
def State.replaceCore (s : State) (c : Nat) : State :=
  let x := s.core c
  let s1 := ((s.setCore c { x with st := .quarantined }).setPd c 0).setReg (A.lkpQuar (c / 32))
    (setBit (s.reg (A.lkpQuar (c / 32))) (c % 32) true)
  let spare := (rangeFrom 64 0).find? (fun k => decide ((s1.core k).st = .spare) && !s1.boot.quar.getLsbD k)
  match spare, x.cfg with
  | some k, some p => (s1.setCore k { Core.init with st := .member, cfg := some p }).setPd k 2
  | _, _ => s1

/-- The kept quarantines take effect. -/
def State.applyQuar (s : State) : State :=
  (rangeFrom 64 0).foldl (fun (t : State) c =>
    if t.boot.quar.getLsbD c then
      (if (t.core c).cfg.isSome then t.replaceCore c else (t.setCore c { Core.init with st := .quarantined }).setPd c 0)
    else t) s

/-- Some pound has no core. -/
def State.poundEmpty (s : State) : Bool :=
  s.shp.fabric.pounds.any (fun p => !(rangeFrom 64 0).any (fun c =>
    decide ((s.core c).st = .member) && decide ((s.core c).cfg.map (·.pound) = some p.pound)))

/-- CORE_SELF_TEST_AND_QUARANTINE: S16; `bad` is a core that fails its self-test (R79). -/
def execCoreSelfTestAndQuarantine (bad : Option (Fin 64)) (s : State) : Host.Outcome State Fault Refusal :=
  if !s.stepDue 16 then .next s
  else
    let s1 := s.applyQuar
    if s1.poundEmpty then .next ((s1.toLimp.loadLimp.stepDone 16).skipSteps [17, 18])
    else
      match bad.filter (fun c => decide ((s1.core c).st = .member)) with
      | some c => .next (s.stepFails 16 0x10 c)
      | none => .next (s1.stepDone 16)

/-- The calibration table as a map. -/
def calMap (cal : List (List (BitVec 16))) : SMap Nat :=
  ((rangeFrom cal.length 0).zip cal).foldl (fun m (p : Nat × List (BitVec 16)) =>
    ((rangeFrom 31 0).zip p.2).foldl (fun m (q : Nat × BitVec 16) => SMap.set (fun _ => 0) m (64 * p.1 + q.1) q.2.toNat) m) []

/-- VCORE is set to `v` mV. -/
def State.setVcore (s : State) (v : Nat) (fixed : Bool) : State :=
  s.setReg A.pwrVcore (w32 (v + v * 0x10000 + b2n fixed * 0x80000000))

/-- GOVERNOR_CALIBRATION: S17 stores the calibration table and sets VCORE from POWER, or holds VC_MAX after a failed S17
(R617, R622, Table 3-6). -/
def execGovernorCalibration (cal : List (List (BitVec 16))) (bad : Option (Fin 64)) (s : State) :
    Host.Outcome State Fault Refusal :=
  if !s.stepDue 17 then .next s
  else if bit s.boot.fallback 7 then .next ((s.setVcore s.shp.power.vcMax true).stepDone 17)
  else
    match bad with
    | some t => .next (s.stepFails 17 0x11 t)
    | none =>
      let s1 : State := { s with pwr := { s.pwr with cal := calMap cal } }
      .next ((s1.setVcore s.shp.power.vcInit false).stepDone 17)

/-- Tables T0 to T2 are clear, with their seeds, policies and ageing period (R67, section 11). -/
def State.initTables (s : State) : State :=
  let s1 : State := { s with tbl := State.reset.tbl, mem := memDrop s.mem kTable 0x200000 }
  let s2 := ((rangeFrom 3 0).zip s1.shp.tables).foldl (fun (t : State) (p : Nat × TableCfg) =>
    (((t.setReg (A.tblSeeda p.1) p.2.seedA).setReg (A.tblSeedb p.1) p.2.seedB).setReg (A.tblStat p.1)
      (w32 (b2n (decide (p.2.size = 0)) * 0x200000))).setFld A.tblPolicy p.1 p.1 p.2.policy) s1
  match s2.shp.tables.head? with
  | some t0 => s2.setReg A.tblAge (w32 t0.age)
  | none => s2

/-- TABLE_INITIALISATION: S18. -/
def execTableInitialisation (bad : Option (Fin 3)) (s : State) : Host.Outcome State Fault Refusal :=
  s.plainStep 18 0x12 (bad.map (·.val)) State.initTables

/-- The secure world starts: the warden's images, its root thread and the watchdog, and the events that waited for it (R555, R571,
R579, R601, section 3.4). -/
def State.startSecure (s : State) : State :=
  let x := s.shp.secure
  let s1 := ((s.writeBytes (kIram 64) (padTo 0x8000 x.wardenI)).writeBytes (kDram 64) (padTo 0x4000 x.wardenD)).writeBytes
    kImageStore (padTo 0x4000 x.wardenD)
  let s2 := (s1.setFld A.secNstat 4 4 1).startWarden
  let s3 : State := { s2 with sec := { s2.sec with wdEnd := s2.time + s2.wdPeriod } }
  let s4 := if s3.sec.lateTamper then
      State.raise (State.raise { s3 with sec := { s3.sec with lateTamper := false } } 726) 727 else s3
  let s5 := if s4.boot.fellBack then s4.raise 739 else s4
  if bit s5.boot.fallback 0 ∧ !s5.boot.limp then s5.raise 742 else s5

/-- SECURE_WORLD_START: S19; `bad` is the low half of the warden error word. A limp start continues without secure services
(R83). -/
def execSecureWorldStart (bad : Option (BitVec 16)) (s : State) : Host.Outcome State Fault Refusal :=
  if !s.stepDue 19 then .next s
  else
    match bad with
    | none => .next (s.startSecure.stepDone 19)
    | some d => if s.boot.limp then .next (s.stepDone 19) else .next (s.stepFails 19 0x13 d.toNat)

/-! ### S20 -/

/-- BOOT_FALLBACK and BOOT_QUAR as they stand at this start. -/
def State.showFallback (s : State) : State :=
  let q := s.boot.quar.toNat
  ((s.setReg A.bootFallback s.boot.fallback).setReg (A.bootQuar 0) (w32 (q % 0x100000000))).setReg (A.bootQuar 1)
    (w32 (q / 0x100000000))

/-- Channel `x` is in service from S20: it has memory and is not disabled. -/
def State.channelUp (s : State) (x : Nat) : Bool :=
  decide ((if x = 0 then s.shp.memory.densA else s.shp.memory.densB) ≠ 0) && !bit s.boot.fallback (fallBit x 2) && !s.boot.limp

/-- TOP_CAPS at S20: every core that is not quarantined is in service (Example 3-1), none under the limp shape. -/
def State.capsWord (s : State) : W32 :=
  let cores := if s.boot.limp then 0 else ((rangeFrom 64 0).filter (fun c => decide ((s.core c).st ≠ .quarantined))).length
  let lanes := if s.boot.limp then 0 else 0xFF - bits s.boot.fallback 15 8
  w32 (cores + lanes * 0x100 + b2n (s.channelUp 0) * 0x10000 + b2n (s.channelUp 1) * 0x20000 +
    b2n s.boot.limp * 0x40000)

/-- DRC_STATx at S20: a channel with fills to do is FILLING; one on a fallback raises its event (Table 14-6). -/
def State.startChannel (s : State) (x : Nat) : State :=
  if !s.channelUp x then s
  else
    let s1 := s.setFld (A.drcStat x) 2 0 (if (s.ch x).fills = [] then 1 else 4)
    let s2 := s1.setCh x { s1.ch x with idleSince := s1.time }
    if bit s.boot.fallback (fallBit x 0) || bit s.boot.fallback (fallBit x 1) then s2.raise (512 + 16 * x) else s2

/-- Every core of a pound has its program, and the root threads exist (R49, R254). -/
def State.startCores (s : State) : State :=
  let s1 := (rangeFrom 64 0).foldl (fun (t : State) c =>
    match (t.core c).st, (t.core c).cfg.bind (fun p => t.program p.program) with
    | .member, some p => t.loadCore c p
    | _, _ => t) s
  let named := (rangeFrom 32 0).filter (fun i => s1.shp.fabric.pounds.any (fun p => decide (p.program = i)))
  named.foldl (fun (t : State) i => match t.program i with
    | some p => t.rootThread i p.entry
    | none => t) s1

/-- The cycle timer starts: cycle 0 begins at the first TB time after now that is a multiple of the period (R92). -/
def State.startTimer (s : State) : State :=
  let p := s.shp.fabric.period
  let t := BitVec.ofNat 64 ((s.time / p + 1) * p)
  State.setReg { s with tb := { s.tb with timer := true, cycRun := false, cycStart := t, prevStart := t, cycLen := p } }
    A.tbPeriod (w32 p)

/-- READY: S20; `us`, `vinmin` and `tjmax` are the measured times and limits of the entry (R70, R84, R92, R254, R361). -/
def execReady (us : W32) (vinmin tjmax : BitVec 16) (s : State) : Host.Outcome State Fault Refusal :=
  if !s.stepDue 20 || !s.boot.l0 then .next s
  else
    let s1 := (s.showFallback.setReg A.topCaps s.capsWord).markStep 20
    let s2 := ((s1.setFld A.bootStat 5 5 1).setFld A.bootStat 6 6
      (b2n (s.boot.limp || decide (s.boot.fallback ≠ 0#32)))).setReg A.bootElapsed us
    let s3 := (((((s2.logPut 0x18 4 s.boot.fallback.toNat).logPut 0x1C 8 s.boot.quar.toNat).logPut 0x24 4 us.toNat).logPut
      0x28 2 vinmin.toNat).logPut 0x2A 2 tjmax.toNat).showRec
    let s4 : State := { s3 with boot := { s3.boot with running := false, bankFail := none },
                                brg := { s3.brg with freeIds := if s3.boot.limp then [] else rangeFrom 4095 1 } }
    .next (((s4.startTimer.startChannel 0).startChannel 1).startCores.startShf)

/-! ### Failures and resets -/

/-- START_STEP_TIMEOUT: the step in progress has not completed in 1.5 times its maximum time; S01 and S15 wait without limit
(R68). -/
def execStartStepTimeout (s : State) : Host.Outcome State Fault Refusal :=
  let n := if s.boot.limp then (if s.boot.step = 11 then 15 else if s.boot.step = 15 ∨ s.boot.step = 16 then 19 else s.boot.step + 1)
    else s.boot.step + 1
  if !s.boot.running || s.boot.held || s.boot.failed.isSome || n = 1 || n = 15 || 20 < n then .next s
  else if s.boot.limp ∧ n = 19 then .next (s.stepDone 19)
  else .next (s.stepFails n 0x20 0)

/-- The fallback that Table 3-6 gives a failed step, kept at every later start (R79). -/
def Boot.fallFor (b : Boot) (f : Failure) : Boot :=
  match f.step with
  | 8 | 9 => { b with fallback := setBit b.fallback 0 (!bit b.fallback 0) }
  | 12 => { b with fallback := setBit b.fallback 1 true }
  | 13 => { b with fallback := setBit b.fallback 4 true }
  | 14 => { b with fallback := setBit b.fallback (8 + f.detail % 8) true }
  | 16 => { b with quar := b.quar ||| (1#64 <<< (f.detail % 64)) }
  | 17 => { b with fallback := setBit b.fallback 7 true }
  | _ => b

/-- INTERNAL_RESTART: 10 ms after a failed step; a regulator fault has none (R78, R79). -/
def execInternalRestart (s : State) : Host.Outcome State Fault Refusal :=
  match s.boot.failed with
  | none => .next s
  | some f =>
    if f.step = 2 then .next s
    else .next (State.internalReset { s with boot := s.boot.fallFor f })

/-- POWER_ON_RESET: VIN below its falling threshold, or first power; `vbat` says whether the battery domain is fed (R73). -/
def execPowerOnReset (vbat : Bool) (s : State) : Host.Outcome State Fault Refusal := .next (s.powerOn vbat)

/-- PERST_ASSERT: any start in progress ends, its entry stays open, and the device is held (R75, R639). -/
def execPerstAssert (s : State) : Host.Outcome State Fault Refusal :=
  let s1 := s.cleared 2 (min 3 s.boot.step) false
  .next { s1 with boot := { s1.boot with held := true } }

/-- PERST_RELEASE: a start begins at S04 (R73). -/
def execPerstRelease (s : State) : Host.Outcome State Fault Refusal :=
  if s.boot.held then
    let s1 := s.chipReset 2
    let por := decide (s.boot.step < 3)
    .next { s1 with boot := { s1.boot with held := false, step := if por then s.boot.step else 3 } }
  else .next s

/-- BOOT_CTRL takes a write: of the manager or a warden slot, with the key; the device is after S20 (R70, R76). -/
def State.bootKey (s : State) (ag : Agent) (v : W32) : Status :=
  if s.boot.step < 20 then .refusedNotReady
  else if !isBoss ag then .refusedRights
  else if bits v 31 16 ≠ 0xA5C3 then .refusedRange
  else .ok

/-- RETRY_ALL is remembered for the next start (R79). -/
def State.setRetry (s : State) : State :=
  State.setFld { s with boot := { s.boot with retry := true } } A.bootStat 24 24 1

/-- A write of BOOT_CTRL (R76, R77, R79). -/
def State.bootCtrl (s : State) (ag : Agent) (v : W32) : State :=
  let st := s.bootKey ag v
  if st ≠ .ok then s.refuse ag A.bootCtrl st
  else
    let s1 := if bit v 1 then s.setRetry else s
    if bit v 0 then (s1.chipReset 4).status .ok else s1.status .ok

/-- SOFT_RESET: a BOOT_CTRL write with SOFT_RESET set (R76, R77). -/
def execSoftReset (ag : Agent) (v : W32) (s : State) : Host.Outcome State Fault Refusal := .next (s.bootCtrl ag (setBit v 0 true))

/-- RETRY_ALL: a BOOT_CTRL write with RETRY_ALL set (R76, R79). -/
def execRetryAll (ag : Agent) (v : W32) (s : State) : Host.Outcome State Fault Refusal := .next (s.bootCtrl ag (setBit v 1 true))

/-- SECURE_WATCHDOG_RESET: a second period has passed without a kick (R580). -/
def execSecureWatchdogReset (s : State) : Host.Outcome State Fault Refusal :=
  if s.sec.wdExpired then .next (s.chipReset 3) else .next s

/-- PRE_READY_REQUEST: before S20 a request completes as Unsupported Request, or is dropped if posted; a memory request, with its
BAR and offset, is logged (R71, R461). -/
def execPreReadyRequest (posted : Bool) (bar : Option (Bool × BitVec 28)) (s : State) : Host.Outcome State Fault Refusal :=
  if s.boot.step = 20 then .next s
  else
    let s1 := match bar with
      | some (b2, off) => s.logHost off.toNat .refusedNotReady b2 posted agManager
      | none => s
    .next (if posted then s1.status .ok
      else { s1 with reply := { status := .ok, value := 0#64, unsupported := true, retry := false } })

/-- PRE_READY_CONFIG_REQUEST: before S20, and during an FLR, configuration requests complete with Configuration Request Retry
Status (R69, R70, R489). -/
def execPreReadyConfigRequest (s : State) : Host.Outcome State Fault Refusal :=
  if (s.boot.step = 20 ∧ !s.tnt.flr) ∨ !s.boot.l0 then .next s
  else .next { s with reply := { status := .ok, value := 0#64, unsupported := false, retry := true } }

/-- CONFIGURATION_WRITE: Bus Master and Memory Space Enable, and the enable and function mask of MSI-X (R456, R486). -/
def execConfigurationWrite (busMaster memSpace msixEnable msixMask : Bool) (s : State) : Host.Outcome State Fault Refusal :=
  if s.boot.step < 20 || s.tnt.flr then
    .next { s with reply := { status := .ok, value := 0#64, unsupported := false, retry := true } }
  else
    let s1 : State := { s with tnt := { s.tnt with busMaster := busMaster, memSpace := memSpace },
                               msix := { s.msix with enable := msixEnable, fmask := msixMask } }
    let can := busMaster && msixEnable && !msixMask
    let due := SMap.keysWhere (fun v p => p && SMap.get (fun _ => false) s1.msix.unmasked v) s1.msix.pend
    let s2 : State := if can then { s1 with msix := { s1.msix with
        sent := s1.msix.sent ++ due, pend := s1.msix.pend.filter (fun p => !due.contains p.1) } } else s1
    .next (s2.status .ok)

end Sys2Proof.Machine
end

