-- ==== Sys2Proof/Machine/Control.lean ====
section
/-! DEFINITION. Control transfer, register windows, the return stack, special registers, traps and the token instructions
(sections 7.5, 7.6, 8.2, 8.5 to 8.7). -/

namespace Sys2Proof.Machine

/-! ### Branches and jumps -/

/-- The target of Bcc and whether it is predicted taken (R192). -/
def bccPredict (hint : BitVec 2) (off : BitVec 16) : Bool :=
  match hint with
  | 0#2 => off.msb
  | 1#2 => true
  | _ => false

/-- BCC: a conditional branch with its prediction. A right prediction runs its shadow as the next instruction; a wrong one
leaves a shadow to be squashed; a prediction towards a target outside I-space issues nothing (R192, R193, R219, R220). -/
def execBcc (w : SlotId) (cond : BitVec 4) (hint : BitVec 2) (off : BitVec 16) (s : State) :
    Host.Outcome State Fault Refusal :=
  s.issue w (decide (cond ≠ 15#4) && decide (hint ≠ 3#2)) (fun x t =>
    let raw := x.next + (simm off <<< 2)
    let inside := decide (raw.toNat < 0x8000)
    let taken := condHolds cond.toNat x.ctx.flags
    let pred := bccPredict hint off
    let go := fun (p : W32) => t.retire w [] [] p
    if pred = taken then (if taken && !inside then (go x.next).fetchFault w raw x.ctx.pc else go (if taken then raw else x.next))
    else if pred && !inside then go x.next
    else
      let t1 := go (if pred then raw else x.next)
      let sh : Shadow := { target := if taken then (if inside then some raw else none) else some x.next, pcB := x.ctx.pc,
                           raw := raw }
      t1.setSlot w { t1.slot w with shadow := some sh })

/-- A jump to a register's address: a fetch fault above 0x7FFF, otherwise `f` at the address AND 0x7FFC. -/
def State.jumpTo (s : State) (w : SlotId) (a pc : W32) (f : W32 → State) : State :=
  if 0x7FFF < a.toNat then s.fetchFault w a pc else f (a &&& 0x7FFC#32)

/-- JMP: pc ← field × 4. -/
def execJmp (w : SlotId) (word : BitVec 13) (s : State) : Host.Outcome State Fault Refusal :=
  s.issue w true (fun _ t => t.retire w [] [] (word.setWidth 32 <<< 2))

/-- JMPR. -/
def execJmpr (w : SlotId) (ra : RegCode) (s : State) : Host.Outcome State Fault Refusal :=
  s.issue w (regOk ra) (fun x t => t.jumpTo w (x.ctx.rd ra) x.ctx.pc (fun a => t.retire w [] [] a))

/-- The return stack after a push, newest entry first (R194, R238). -/
def pushRs (rs : List W32) (v : W32) : List W32 := (v :: rs).take 8

/-- A call to `a`: the return-stack overflow trap in TRAP mode, else the push and the jump (R194). -/
def State.callTo (s : State) (w : SlotId) (x : Slot) (a : W32) : State :=
  if 8 ≤ x.ctx.rs.length && x.ctx.rsTrap then s.trap w 5 .ok x.ctx.pc
  else
    let t := s.retire w [] [] a
    let y := t.slot w
    (t.setSlot w { y with ctx := { y.ctx with rs := pushRs y.ctx.rs x.next } }).saved w

/-- CALL. -/
def execCall (w : SlotId) (word : BitVec 13) (s : State) : Host.Outcome State Fault Refusal :=
  s.issue w true (fun x t => t.callTo w x (word.setWidth 32 <<< 2))

/-- CALLR: the access trap wins over the return-stack trap (R212). -/
def execCallr (w : SlotId) (ra : RegCode) (s : State) : Host.Outcome State Fault Refusal :=
  s.issue w (regOk ra) (fun x t => t.jumpTo w (x.ctx.rd ra) x.ctx.pc (fun a => t.callTo w x a))

/-- RET: the return-stack underflow trap at DEPTH 0 (R194); a return beyond I-space is a fetch fault (section 6.3). -/
def execRet (w : SlotId) (s : State) : Host.Outcome State Fault Refusal :=
  s.issue w true (fun x t =>
    match x.ctx.rs with
    | [] => t.trap w 6 .ok x.ctx.pc
    | a :: rest =>
      if 0x7FFF < a.toNat then t.fetchFault w a x.ctx.pc
      else
        let t1 := t.retire w [] [] a
        let y := t1.slot w
        (t1.setSlot w { y with ctx := { y.ctx with rs := rest } }).saved w)

/-! ### Windows (R195, R196) -/

/-- ENTER: the next window, or the window overflow trap. -/
def execEnter (w : SlotId) (s : State) : Host.Outcome State Fault Refusal :=
  s.issue w true (fun x t =>
    let n := x.ctx.win + 1#2
    if x.ctx.inT || x.ctx.wlive.getLsbD n.toNat then t.trap w 3 .ok x.ctx.pc
    else
      let t1 := t.done1 w x []
      let y := t1.slot w
      (t1.setSlot w { y with ctx := { y.ctx with win := n, wlive := y.ctx.wlive ||| (1#4 <<< n.toNat) } }).saved w)

/-- LEAVE: the previous window, or the window underflow trap. -/
def execLeave (w : SlotId) (s : State) : Host.Outcome State Fault Refusal :=
  s.issue w true (fun x t =>
    let n := x.ctx.win - 1#2
    if x.ctx.inT || !x.ctx.wlive.getLsbD n.toNat then t.trap w 4 .ok x.ctx.pc
    else
      let t1 := t.done1 w x []
      let y := t1.slot w
      (t1.setSlot w { y with ctx := { y.ctx with win := n, wlive := y.ctx.wlive &&& ~~~(1#4 <<< x.ctx.win.toNat) } }).saved w)

/-! ### Traps -/

/-- TRAP k: vector 8 + k (R198). -/
def execTrap (w : SlotId) (k : BitVec 3) (s : State) : Host.Outcome State Fault Refusal :=
  s.issue w true (fun x t => t.trap w (8 + k.toNat) .ok x.ctx.pc)

/-- TEXIT: leave T, after every pending write has landed (R197, R217, R236). -/
def execTexit (w : SlotId) (ra : RegCode) (s : State) : Host.Outcome State Fault Refusal :=
  s.issue w (regOk ra && (s.slot w).ctx.inT) (fun x t =>
    t.jumpTo w (x.ctx.rd ra) x.ctx.pc (fun a =>
      let t1 := t.landAll w
      let y := t1.slot w
      t1.setSlot w { y with ctx := { y.ctx with inT := false, pc := a }, saveWait := false }))

/-! ### Special registers (Tables 6-3 and 7-7) -/

/-- tid: the thread number and the slot's agent ID. -/
def tidWord (w : SlotId) (n : Nat) : W32 := w32 (n % 2048 + (slotAgent w).toNat * 0x10000)

/-- Special register `sr` of the thread in slot `w`. -/
def Slot.special (x : Slot) (w : SlotId) (sr : Nat) : W32 :=
  match sr with
  | 0 => x.ctx.pc
  | 1 => x.ctx.wcurWord
  | 2 => x.ctx.wlive.setWidth 32
  | 3 => x.ctx.rspWord
  | 4 => x.ctx.flags
  | _ => tidWord w (x.thread.getD 0)

/-- RDS. -/
def execRds (w : SlotId) (rd : RegCode) (sr : BitVec 5) (s : State) : Host.Outcome State Fault Refusal :=
  s.issue w (regOk rd && decide (sr.toNat < 6)) (fun x t => t.done1 w x (x.ctx.dst rd (x.special w sr.toNat)))

/-- WRS: flags always; wcur, wlive and rsp in T only; tid ignored; pc undefined (R150). -/
def execWrs (w : SlotId) (sr : BitVec 5) (ra : RegCode) (s : State) : Host.Outcome State Fault Refusal :=
  let n := sr.toNat
  let valid := decide (n = 4) || decide (n = 5) || (decide (1 ≤ n ∧ n ≤ 3) && (s.slot w).ctx.inT)
  s.issue w (regOk ra && valid) (fun x t =>
    let v := x.ctx.rd ra
    t.done2 w x (match n with
      | 1 => [{ tgt := .wcur, val := v }]
      | 2 => [{ tgt := .wlive, val := v }]
      | 3 => [{ tgt := .rsp, val := v }]
      | 4 => [{ tgt := .flags flagsMask, val := v }]
      | _ => []))

/-- RSPUSH: in T, below DEPTH 8 (Table 7-7). -/
def execRspush (w : SlotId) (ra : RegCode) (s : State) : Host.Outcome State Fault Refusal :=
  let c := (s.slot w).ctx
  s.issue w (regOk ra && c.inT && decide (c.rs.length < 8)) (fun x t =>
    let t1 := t.done1 w x []
    let y := t1.slot w
    (t1.setSlot w { y with ctx := { y.ctx with rs := pushRs y.ctx.rs (x.ctx.rd ra &&& 0x7FFC#32) } }).saved w)

/-- RSPOP: in T, above DEPTH 0 (Table 7-7). -/
def execRspop (w : SlotId) (rd : RegCode) (s : State) : Host.Outcome State Fault Refusal :=
  let c := (s.slot w).ctx
  s.issue w (regOk rd && c.inT && decide (c.rs ≠ [])) (fun x t =>
    let t1 := t.done1 w x (x.ctx.dst rd (x.ctx.rs.headD 0#32))
    let y := t1.slot w
    (t1.setSlot w { y with ctx := { y.ctx with rs := y.ctx.rs.tail } }).saved w)

/-! ### Token instructions (R202 to R204) -/

/-- A wait that fails a check of R249 does not block: OSTAT holds the status. -/
def State.noBlock (s : State) (w : SlotId) (x : Slot) (st : Status) : State :=
  (((s.drain w).landAll w).done1 w x [ostatWrite st])

/-- TAKE: block on the standing wait set (R202). -/
def execTake (w : SlotId) (s : State) : Host.Outcome State Fault Refusal :=
  s.issue w true (fun x t =>
    match x.thread with
    | none => t
    | some n =>
      let th := t.thread n
      let st := t.waitCheck n th.stand
      if st = .ok then t.block w n th.stand th.standTmo false x.next else t.noBlock w x st)

/-- WAIT: block on the first `n` of the tags that ra and rb hold (R203, R266). -/
def execWait (w : SlotId) (ra rb : RegCode) (n : BitVec 3) (s : State) : Host.Outcome State Fault Refusal :=
  s.issue w (regOk ra && regOk rb && decide (n.toNat ≤ 4)) (fun x t =>
    match x.thread with
    | none => t
    | some k =>
      let a := x.ctx.rd ra
      let b := x.ctx.rd rb
      let tags := ([bits a 15 0, bits a 31 16, bits b 15 0, bits b 31 16].map (tagFor (slotWarden w))).take n.toNat
      let st := t.waitCheck k tags
      if st = .ok then t.block w k tags x.waitTmo.toNat true x.next
      else
        let t1 := t.noBlock w x st
        t1.setSlot w { t1.slot w with waitTmo := 0#32 })

/-- GIVE: post a token, after every earlier store; it holds until the lockkeeper answers (R170, R204). -/
def execGive (w : SlotId) (ra rb : RegCode) (s : State) : Host.Outcome State Fault Refusal :=
  s.issue w (regOk ra && regOk rb) (fun x t =>
    let r := (t.drain w).post (tagFor (slotWarden w) (bits (x.ctx.rd ra) 15 0)) (x.ctx.rd rb) .ok
    r.2.hold w [ostatWrite r.1] none none false x.next)

end Sys2Proof.Machine
end

