-- ==== Sys2Proof/Machine/TntCmd.lean ====
section
/-! DEFINITION. Host accesses through BAR2, the manager mailbox, tenants, queue pairs and descriptors (chapter 16). -/

namespace Sys2Proof.Machine

/-! ### BAR2 (section 16.2) -/

/-- Byte `a` of a BAR2 target space may be accessed: 1 shared SRAM, 2 channel A, 3 channel B (R459). -/
def State.bar2Ok (s : State) (space a : Nat) (write : Bool) : Bool :=
  match space with
  | 1 => (s.sramVisible a 1 || (bit (s.reg A.topCaps) 18 && decide (a < 0x400000))) && !s.secureSram a 1 &&
      !(write && decide (s.shp.lockBase ≤ a) && decide (a < s.shp.lockBase + s.shp.lockLen))
  | 2 | 3 => decide (s.dramCheck (space - 2) a 1 true false = .ok)
  | _ => false

/-- The space and the first byte that a BAR2 offset maps to (section 16.2). -/
def State.bar2Target (s : State) (off : Nat) : Nat × Nat :=
  let w := s.reg (A.tntB2win (off / 0x1000000))
  (bits w 1 0, bits w 31 16 * 0x10000 + off % 0x1000000)

/-- The parts of `n` bytes at a BAR2 offset, cut where one window ends and the next begins (section 16.2, Edges). -/
def bar2Parts (off n : Nat) : List (Nat × Nat) :=
  let cut := 0x1000000 - off % 0x1000000
  if n ≤ cut then [(off, n)] else [(off, cut), ((off + cut) % 0x10000000, n - cut)]

/-- One part of a BAR2 read (R24, R459, R460). -/
def State.bar2ReadPart (s : State) (off n : Nat) : List Byte × State :=
  let p := s.bar2Target off
  if (rangeFrom n p.2).all (fun a => s.bar2Ok p.1 a false) then
    if p.1 = 1 then (s.readBytes (kShared + p.2) n, s)
    else (s.dramRead (p.1 - 2) p.2 n, s.dramAccess (p.1 - 2) agManager p.2 n false false)
  else (List.replicate n 0xFF#8, s.logHost off .refusedRange true false agManager)

/-- BAR2_READ: `n` bytes at BAR2 offset `off` (R459, R456). -/
def execBar2Read (off : BitVec 28) (n : Fin 9) (s : State) : Host.Outcome State Fault Refusal :=
  if s.tnt.memSpace then
    let r := (bar2Parts off.toNat n).foldl (fun (acc : List Byte × State) p =>
      let q := acc.2.bar2ReadPart p.1 p.2
      (acc.1 ++ q.1, q.2)) ([], s)
    .next (r.2.answer .ok (BitVec.ofNat 64 (leNat r.1)))
  else .next { s with reply := { status := .ok, value := 0#64, unsupported := true, retry := false } }

/-- One part of a BAR2 write (R24, R58, R459). -/
def State.bar2WritePart (s : State) (off : Nat) (bs : List Byte) : State :=
  let p := s.bar2Target off
  if (rangeFrom bs.length p.2).all (fun a => s.bar2Ok p.1 a true) then
    if p.1 = 1 then s.sramWrite p.2 bs
    else (s.dramAccess (p.1 - 2) agManager p.2 bs.length true false).dramWrite (p.1 - 2) p.2 bs
  else s.logHost off .refusedRange true true agManager

/-- BAR2_WRITE: bytes at BAR2 offset `off` (R459, R456). -/
def execBar2Write (off : BitVec 28) (bytes : List (BitVec 8)) (s : State) : Host.Outcome State Fault Refusal :=
  if s.tnt.memSpace then
    let r := (bar2Parts off.toNat bytes.length).foldl (fun (acc : List Byte × State) p =>
      (acc.1.drop p.2, acc.2.bar2WritePart p.1 (acc.1.take p.2))) (bytes, s)
    .next (r.2.status .ok)
  else .next { s with reply := { status := .ok, value := 0#64, unsupported := true, retry := false } }

/-! ### The mailbox (section 16.3) -/

/-- Entries of the ring. -/
def State.mboxSize (s : State) : Nat := 2 ^ s.fld A.tntMcfg 11 8

/-- The memory key of the entry at HEAD. -/
def State.mboxAddr (s : State) : Nat :=
  kHost + (s.reg A.tntMbaseHi).toNat * 0x100000000 + (s.reg A.tntMbaseLo).toNat / 64 * 64 + 64 * s.fld A.tntMhead 7 0

/-- The memory key of the entry at HEAD, when one is ready and may be read now (R463). -/
def State.mboxKey (s : State) : Option Nat :=
  if bit (s.reg A.tntMcfg) 0 && decide (s.fld A.tntMhead 7 0 ≠ s.fld A.tntMdb 7 0) && s.linkUp && !s.tnt.stopped &&
      !s.tnt.busy then
    some s.mboxAddr
  else none

/-- MAILBOX_DOORBELL: a write of TNT_MDB (R463). -/
def execMailboxDoorbell (v : W32) (s : State) : Host.Outcome State Fault Refusal :=
  if s.tnt.flr then .next s
  else if s.mboxSize ≤ bits v 7 0 then .next (s.refuse agManager A.tntMdb .refusedRange)
  else .next (State.status { s with tnt := { s.tnt with stopped := false } } .ok |>.setFld A.tntMdb 7 0 (bits v 7 0))

/-- MAILBOX_ENTRY_READ_FAIL: the read of the next entry fails or times out, and the entry waits for the next TNT_MDB write
(section 16.3, Edges; R457). The status of a failure other than a timeout is a free value (assumption 6). -/
def execMailboxEntryReadFail (timeout : Bool) (s : State) : Host.Outcome State Fault Refusal :=
  match s.mboxKey with
  | none => .next s
  | some _ =>
    let f := s.fresh
    let st := if timeout then Status.timeout.code else bits f.1 7 0
    let s1 := (if timeout then s else f.2).setReg A.tntMstat (w32 (st + s.fld A.tntMhead 7 0 * 0x100))
    .next (State.raise { s1 with tnt := { s1.tnt with stopped := true } } 577)

/-- The response to the entry at key `k`: bytes 0x30 to 0x3F with one posted write, HEAD moves on, EV576 and the response
vector follow (R463, R488). RESULT bytes that the command does not state are free values (assumption 6). -/
def State.respond (s : State) (k : Nat) (st : Status) (res : List Byte) : State :=
  let a := s.fresh
  let b := a.2.fresh
  let c := b.2.fresh
  let fill := (leBytes 4 a.1.toNat ++ leBytes 4 b.1.toNat ++ leBytes 4 c.1.toNat).drop res.length
  let bs := s.readBytes (k + 2) 2 ++ leBytes 1 st.code ++ leBytes 1 0 ++ res ++ fill
  let s1 := c.2.writeBytes (k + 0x30) bs
  let s2 := s1.setFld A.tntMhead 7 0 ((s1.fld A.tntMhead 7 0 + 1) % s1.mboxSize)
  (State.raise { s2 with tnt := { s2.tnt with busy := false } } 576).sendMsix (s2.fld A.tntMcfg 24 16)

/-- What is wrong with an entry whatever its command: SEQ 0, a zero byte that is not zero, a command outside Table 16-5 or
a tenant above 31 (section 16.3). -/
def State.entryBad (s : State) (k : Nat) : Bool :=
  decide (s.readLE (k + 2) 2 = 0) || decide (s.readByte (k + 1) ≠ 0#8) || decide (s.readLE (k + 6) 2 ≠ 0) ||
    decide (s.readLE k 1 = 0) || decide (8 < s.readLE k 1) || decide (31 < s.readLE (k + 4) 1)

/-- The device reads the next entry and finds command `op`: `f` performs it on tenant and index, and answers the status, the
stated RESULT bytes and the state. An entry whose command Table 16-5 does not list is refused as a NOP. -/
def State.mboxCmd (s : State) (op : Nat) (f : Nat → Nat → Nat → Status × List Byte × State) :
    Host.Outcome State Fault Refusal :=
  match s.mboxKey with
  | none => .next s
  | some k =>
    let o := s.readLE k 1
    if o = op ∨ (op = 1 ∧ (o = 0 ∨ 8 < o)) then
      if s.entryBad k then .next (s.respond k .refusedRange [])
      else
        let r := f k (s.readLE (k + 4) 1) (s.readLE (k + 5) 1)
        .next (r.2.2.respond k r.1 (if r.1 = .ok then r.2.1 else []))
    else .next s

/-- MAILBOX_NOP (R463). -/
def execMailboxNop (s : State) : Host.Outcome State Fault Refusal := s.mboxCmd 1 (fun _ _ _ => (.ok, [], s))

/-- TENANT_CREATE (R466). -/
def execTenantCreate (s : State) : Host.Outcome State Fault Refusal :=
  s.mboxCmd 2 (fun _ t _ =>
    if !(s.tenantCfg t).present then (.refusedRights, [], s)
    else if s.tenantState t ≠ 0 then (.refusedNotReady, [], s)
    else
      let s1 := (s.nextGen t).setTenantState t 1
      (.ok, leBytes 2 (s1.tenantGen t), s1))

/-- The resources of an unfinished TX are freed (R481). -/
def State.dropDesc (s : State) (d : Desc) : State :=
  match d.st with
  | .txRead k _ b _ => (s.setFrame k none).freeBuf b
  | _ => s

/-- A frame that waits for the host is given up: its buffer is freed (R465). -/
def State.dropHostFrame (s : State) (f : HostFrame) : State :=
  match s.egFrame f.eg with
  | some x => (s.setEg f.eg (some { x with toHost := false })).egSettle f.eg
  | none => s

/-- A queue pair is destroyed: nothing of it completes (R465). -/
def State.destroyQp (s : State) (t q : Nat) : State :=
  match s.qp t q with
  | none => s
  | some x =>
    let s1 := x.prog.foldl State.dropDesc s
    let s2 := x.fifo.foldl State.dropHostFrame s1
    (s2.setQp t q none).setFld (A.tntTstat t) (8 + q) (8 + q) 0

/-- What a queue pair has not delivered: completions not yet written and frames in the FIFO (R481). -/
def State.undelivered (s : State) (t q : Nat) : Nat :=
  match s.qp t q with
  | none => 0
  | some x => x.prog.length + x.filled.length + (x.fifo.filter (fun f => s.waitsHost f.eg)).length

/-- What an agent leaves behind when it dies: its semaphores, watch slots, basin holdings, counter latch and SAU atomic
registers (R310, R450, R481, Table 15-3). -/
def State.agentEnds (s : State) (ag : Agent) (event : Nat) : State :=
  let s1 := (s.agentDies ag event).disarmAgent ag
  let s2 := match s1.entryNamed ag.toNat with
    | some e => s1.reclaim e
    | none => s1
  let s3 := { s2 with latch := SMap.set (fun _ => 0#32) s2.latch ag.toNat 0#32 }
  ([A.sauAtgt, A.sauAaddr, A.sauAcmd, A.sauAstat] ++ (rangeFrom 4 0).map A.sauAopd ++ (rangeFrom 4 0).map A.sauAres).foldl
    (fun u a => u.setReg (agKey ag a) 0#32) s3

/-- Steps 2 to 5 of a tenant reset (R481). -/
def State.tenantEnds (s : State) (t event : Nat) : State :=
  let n := sumNat ((rangeFrom 4 0).map (s.undelivered t))
  let s1 := (s.nextGen t).tntCount t 3 n
  let s2 := if n = 0 then s1 else s1.raiseFirst 580
  let s3 := (rangeFrom 4 0).foldl (fun u q => u.destroyQp t q) s2
  s3.agentEnds (BitVec.ofNat 12 (0x400 + t)) event

/-- TENANT_RESET: the tenant becomes RESETTING and the command stays in progress; a second reset waits its turn
(R481, section 16.7, Edges). -/
def execTenantReset (s : State) : Host.Outcome State Fault Refusal :=
  match s.mboxKey with
  | none => .next s
  | some k =>
    let t := s.readLE (k + 4) 1
    if s.readLE k 1 ≠ 3 then .next s
    else if s.entryBad k then .next (s.respond k .refusedRange [])
    else if s.tenantState t = 0 then .next (s.respond k .refusedNotReady [])
    else
      let x := s.tenant t
      let s1 := s.setTenant t { x with resets := x.resets ++ [true] }
      .next (State.setTenantState { s1 with tnt := { s1.tnt with busy := true } } t 2)

/-- TENANT_SELF_RESET: a write of TNT_TCTL by tenant `t` (R467, R484). -/
def execTenantSelfReset (t : Fin 32) (v : W32) (s : State) : Host.Outcome State Fault Refusal :=
  let ag := BitVec.ofNat 12 (0x400 + t.val)
  if s.tenantState t ≠ 1 then
    .next ((s.refuse ag (tntWin t 0x104) .refusedNotReady).logTerr t 0x104 .refusedNotReady)
  else if bit v 0 && decide (bits v 31 16 = 0x5A3C) then
    let x := s.tenant t
    .next ((((s.setTenant t { x with resets := x.resets ++ [false] }).setTenantState t 2).raise 586).status .ok)
  else .next ((s.refuse ag (tntWin t 0x104) .refusedRange).logTerr t 0x104 .refusedRange)

/-- TENANT_RESET_COMPLETE: the reads of tenant `t` have drained, and the oldest reset under way ends (R466, R481,
R482). -/
def execTenantResetComplete (t : Fin 32) (s : State) : Host.Outcome State Fault Refusal :=
  if s.tenantState t ≠ 2 then .next s
  else
    let x := s.tenant t
    let s1 := s.tenantEnds t 3
    let s2 := s1.setTenant t { s1.tenant t with resets := x.resets.drop 1 }
    let s3 := (if x.resets.length ≤ 1 then s2.setTenantState t 1 else s2).raise 578
    if x.resets.head? = some true then
      .next (s3.respond s3.mboxAddr .ok (leBytes 2 (s3.tenantGen t)))
    else .next s3

/-- TENANT_DESTROY: the steps of R481, then no host window and ABSENT (R485). A reset under way is waited for. -/
def execTenantDestroy (s : State) : Host.Outcome State Fault Refusal :=
  match s.mboxKey with
  | none => .next s
  | some k =>
    let t := s.readLE (k + 4) 1
    if s.readLE k 1 = 4 ∧ s.entryBad k = false ∧ s.tenantState t = 2 then .next s
    else
      s.mboxCmd 4 (fun _ t _ =>
        if s.tenantState t = 0 then (.refusedNotReady, [], s)
        else
          let s1 := ((s.setTenantState t 2).tenantEnds t 3).raise 578
          (.ok, [], (s1.setTenant t Tenant.init).setTenantState t 0))

/-- HOSTWIN_SET (R464, Table 16-6). -/
def execHostwinSet (s : State) : Host.Outcome State Fault Refusal :=
  s.mboxCmd 5 (fun k t i =>
    let base := s.readLE (k + 8) 8
    let len := s.readLE (k + 16) 8
    if len = 0 then (.zeroLength, [], s)
    else if 7 < i ∨ base % 0x1000 ≠ 0 ∨ len % 0x1000 ≠ 0 ∨ 0x10000000000000000 < base + len then (.refusedRange, [], s)
    else if s.tenantState t = 0 then (.refusedNotReady, [], s)
    else
      let x := s.tenant t
      let w : HostWin := { base := base, len := len, flags := s.readLE (k + 24) 1 % 8 }
      (.ok, [], s.setTenant t { x with wins := x.wins.set i w }))

/-- A queue size of QP_CREATE: 0 or a power of two from 16 to 4096. -/
def queueSizeOk (n : Nat) : Bool := [0, 16, 32, 64, 128, 256, 512, 1024, 2048, 4096].contains n

/-- A queue of QP_CREATE lies aligned in an enabled window with flag bit `f`; a disabled one needs none. -/
def State.queueOk (s : State) (t f base size : Nat) : Bool :=
  queueSizeOk size && decide (base % 64 = 0) && (decide (size = 0) || s.hostWindow t f base (32 * size))

/-- QP_CREATE (Table 16-5, R470). MSGTAG and FWOWNER are checked for a MESSAGE queue pair. -/
def execQpCreate (s : State) : Host.Outcome State Fault Refusal :=
  s.mboxCmd 6 (fun k t q =>
    let kind := s.readLE (k + 8) 1
    let vector := s.readLE (k + 9) 1
    let msgtag := s.readLE (k + 0x0A) 2
    let fwowner := s.readLE (k + 0x0C) 2
    let sqBase := s.readLE (k + 0x10) 8
    let cqBase := s.readLE (k + 0x18) 8
    let sqSize := s.readLE (k + 0x20) 2
    let cqSize := s.readLE (k + 0x22) 2
    let c := s.tenantCfg t
    let fw := match s.entryNamed fwowner with
      | some e => (s.owner e).poolMask.getLsbD 6
      | none => false
    if c.qpairs ≤ q || decide (kind ≠ 1 ∧ kind ≠ 2) || decide (c.vcount ≤ vector) || !s.queueOk t 1 sqBase sqSize ||
        !s.queueOk t 2 cqBase cqSize || (decide (kind = 2) && decide (tagKind msgtag ≠ .general)) then (.refusedRange, [], s)
    else if kind = 2 ∧ fw = false then (.refusedRights, [], s)
    else if s.tenantState t ≠ 1 ∨ (s.qp t q).isSome = true then (.refusedNotReady, [], s)
    else
      let x : Qp :=
        { frame := decide (kind = 1), vector := vector, msgtag := msgtag, fwowner := fwowner, sqBase := sqBase,
          cqBase := cqBase, sqSize := sqSize, cqSize := cqSize, sqHead := 0, cqTail := 0, phase := true, unread := 0,
          prog := [], posted := [], fifo := [], filled := [] }
      (.ok, [], ((s.setQp t q (some x)).setReg (tntWin t (8 * q)) 0#32).setReg (tntWin t (8 * q + 4)) 0#32))

/-- QP_DESTROY (R465). -/
def execQpDestroy (s : State) : Host.Outcome State Fault Refusal :=
  s.mboxCmd 7 (fun _ t q =>
    if (s.qp t q).isNone then (.refusedNotReady, [], s) else (.ok, [], s.destroyQp t q))

/-- MAILBOX_STATUS: the tenant's state, queue pairs, generation and windows (Table 16-5). -/
def execMailboxStatus (s : State) : Host.Outcome State Fault Refusal :=
  s.mboxCmd 8 (fun _ t _ =>
    let r := s.reg (A.tntTstat t)
    let en := sumNat (((rangeFrom 8 0).zip (s.tenant t).wins).map (fun p => p.2.flags % 2 * 2 ^ p.1))
    (.ok, leBytes 1 (bits r 1 0) ++ leBytes 1 (bits r 7 4) ++ leBytes 2 (bits r 31 16) ++ leBytes 1 en ++
      leBytes 1 (bits r 11 8), s))

/-! ### Doorbells (section 16.4) -/

/-- What refuses a doorbell write of tenant `t` to offset `o`: an absent or resetting tenant, a queue pair that does not
exist (R467, R468). -/
def State.doorbell (s : State) (t q o : Nat) (f : Qp → State) : State :=
  let ag := BitVec.ofNat 12 (0x400 + t)
  if s.tnt.flr then s
  else if s.tenantState t ≠ 1 then (s.refuse ag (tntWin t o) .refusedNotReady).logTerr t o .refusedNotReady
  else
    match s.qp t q with
    | none => s.logTerr t o .refusedNotReady
    | some x => f x

/-- SQ_DOORBELL: a write of TNT_SQDBq sets the SQ tail (R468). -/
def execSqDoorbell (t : Fin 32) (q : Fin 32) (v : W32) (s : State) : Host.Outcome State Fault Refusal :=
  .next (s.doorbell t q (8 * q.val) (fun x =>
    if x.sqSize ≤ bits v 15 0 then s.logTerr t (8 * q.val) .refusedRange
    else (s.setReg (tntWin t (8 * q.val)) (w32 (bits v 15 0))).status .ok))

/-- CQ_DOORBELL: a write of TNT_CQDBq frees entries; ARM asks for one message, sent at once when an unread completion
stands in the CQ (R469). A head at or beyond CQSIZE is dropped and logged as a tail is. -/
def execCqDoorbell (t : Fin 32) (q : Fin 32) (v : W32) (s : State) : Host.Outcome State Fault Refusal :=
  let o := 8 * q.val + 4
  .next (s.doorbell t q o (fun x =>
    if x.cqSize ≤ bits v 15 0 then s.logTerr t o .refusedRange
    else
      let old := s.fld (tntWin t o) 15 0
      let freed := (bits v 15 0 + x.cqSize - old % x.cqSize) % x.cqSize
      let y : Qp := { x with unread := x.unread - freed }
      let s1 := (s.setQp t q (some y)).setReg (tntWin t o) (w32 (bits v 15 0 + b2n (bit v 31) * 0x80000000))
      (if y.unread = 0 then s1 else s1.armedMsix t q).status .ok))

/-! ### Starting descriptors (section 16.5) -/

/-- A 32-byte submission descriptor as read (Table 16-8). -/
structure SqDesc where
  opc : Nat
  flags : Nat
  cid : Nat
  len : Nat
  haddr : Nat
  daddr : Nat
  aux : Nat
  zero : Nat

/-- The descriptor at the device's SQ head. -/
def State.readDesc (s : State) (x : Qp) : SqDesc :=
  let k := kHost + x.sqBase + 32 * x.sqHead
  { opc := s.readLE k 1, flags := s.readLE (k + 1) 1, cid := s.readLE (k + 2) 2, len := s.readLE (k + 4) 4,
    haddr := s.readLE (k + 8) 8, daddr := s.readLE (k + 16) 4, aux := s.readLE (k + 20) 4, zero := s.readLE (k + 24) 8 }

/-- The DREGION of tenant `t`, if it may be used: visible, on a channel in service (R432, R471). -/
def State.tenantRegion (s : State) (t : Nat) : Option DRegion :=
  match s.shp.memory.dregions[(s.tenantCfg t).dregion]? with
  | some r => if r.tenantVisible && s.chInService r.channel then some r else none
  | none => none

/-- LENGTH lies in the range of an opcode for a kind of queue pair (Table 16-9). -/
def lengthOk (frame : Bool) (opc n : Nat) : Bool :=
  match opc with
  | 1 => true
  | 2 | 3 => decide (n ≤ 0x1000000)
  | 4 => frame && decide (60 ≤ n ∧ n ≤ 9212)
  | 5 => frame && decide (64 ≤ n ∧ n ≤ 16384)
  | 6 => !frame && decide (n ≤ 4096)
  | 7 => !frame && decide (16 ≤ n ∧ n ≤ 16384)
  | _ => false

/-- AUX is as Table 16-9 states for an opcode. -/
def auxOk (opc aux : Nat) : Bool :=
  match opc with
  | 4 => decide (aux < 32)
  | 6 => true
  | _ => decide (aux = 0)

/-- The checks of a descriptor, in the order of R471. -/
def State.descStatus (s : State) (t : Nat) (x : Qp) (d : SqDesc) : Status :=
  let dir := if d.opc = 3 ∨ d.opc = 5 ∨ d.opc = 7 then 2 else 1
  if d.len = 0 then .zeroLength
  else if !lengthOk x.frame d.opc d.len || decide (2 ≤ d.flags) || decide (d.zero ≠ 0) || !auxOk d.opc d.aux then
    .refusedRange
  else if d.opc ≠ 1 ∧ s.hostWindow t dir d.haddr d.len = false then .refusedRange
  else if d.opc = 2 ∨ d.opc = 3 then
    match s.tenantRegion t with
    | some r =>
      if d.daddr + d.len ≤ r.bytes then
        (if d.opc = 3 && s.poisoned r.channel (r.base * 0x100000 + d.daddr) d.len then .refusedRange else .ok)
      else .refusedRange
    | none => .refusedRange
  else .ok

/-- The descriptor kept in progress. -/
def SqDesc.start (d : SqDesc) (gen head : Nat) (dram : Option (Nat × Nat)) (st : DescSt) : Desc :=
  { cid := d.cid, gen := gen, len := d.len, haddr := d.haddr, aux := d.aux, sqhead := head, promoted := false, dram := dram,
    st := st }

/-- Add a started descriptor to queue pair `q`. -/
def State.addDesc (s : State) (t q : Nat) (d : Desc) : State :=
  match s.qp t q with
  | some x => s.setQp t q (some { x with prog := x.prog ++ [d] })
  | none => s

/-- The SQ of queue pair `q` can start a descriptor: one is ready, at most 7 are in progress, and nothing holds a fenced
one back (R468, R472, R481). -/
def State.mayStartQp (s : State) (t q : Nat) (x : Qp) : Bool :=
  s.linkUp && decide (s.tenantState t = 1) && !s.qpError t q && decide (x.sqHead ≠ s.fld (tntWin t (8 * q)) 15 0) &&
    decide (x.prog.length < 8)

/-- The SQ has stopped behind 8 completions that wait for a full CQ (section 16.5, Edges). -/
def Qp.stopped (x : Qp) : Bool :=
  decide (8 ≤ x.prog.length) && !x.room && x.prog.all (fun d => match d.st with
    | .done _ _ => true
    | _ => false)

/-- The device fetches the next descriptor of queue pair `q` and finds opcode `op`: a refused one has its status, and `f`
starts an accepted one, given the descriptor and the SQ head behind it (R471, R472). An opcode outside Table 16-9 is refused as
a NOP. -/
def State.startDesc (s : State) (t q op : Nat) (f : SqDesc → Nat → State → State) : Host.Outcome State Fault Refusal :=
  match s.qp t q with
  | none => .next s
  | some x =>
    if x.stopped then .next (s.raiseFirst 587)
    else if !s.mayStartQp t q x then .next s
    else if !s.hostWindow t 1 (x.sqBase + 32 * x.sqHead) 32 then .next (s.failQp t q)
    else
      let d := s.readDesc x
      if d.opc = op ∨ (op = 1 ∧ (d.opc = 0 ∨ 7 < d.opc)) then
        if d.flags % 2 = 1 ∧ ¬ (x.prog = [] ∧ x.posted = [] ∧ x.filled = []) then .next s
        else
          let head := (x.sqHead + 1) % x.sqSize
          let s1 := s.setQp t q (some { x with sqHead := head })
          let st := s1.descStatus t x d
          if st = .ok then .next (f d head s1)
          else
            let s2 := s1.addDesc t q (d.start (s1.tenantGen t) head none (.done st 0))
            .next (if st = .refusedRange then s2.raiseFirst 582 else s2)
      else .next s

/-- DESCRIPTOR_NOP (R471). -/
def execDescriptorNop (t : Fin 32) (q : Fin 4) (s : State) : Host.Outcome State Fault Refusal :=
  s.startDesc t q 1 (fun d h u => u.addDesc t q (d.start (u.tenantGen t) h none (.done .ok 0)))

/-- DRAM requests of a copy, one for each segment of at most 4 KiB (R473). -/
def State.copyRequests (s : State) (x c n : Nat) (write : Bool) : State :=
  (rangeFrom ((n + 4095) / 4096) 0).foldl (fun u i =>
    u.dramAccess x 0x606#12 (c + 4096 * i) (min 4096 (n - 4096 * i)) write false) s

/-- COPY_IN: host memory into the tenant's DREGION (R471). -/
def execCopyIn (t : Fin 32) (q : Fin 4) (s : State) : Host.Outcome State Fault Refusal :=
  s.startDesc t q 2 (fun d h u =>
    match u.tenantRegion t with
    | some r =>
      let c := r.base * 0x100000 + d.daddr
      ((u.copyRequests r.channel c d.len true).dramWrite r.channel c (u.readBytes (kHost + d.haddr) d.len)).addDesc t q
        (d.start (u.tenantGen t) h (some (r.channel, c)) (.done .ok d.len))
    | none => u)

/-- COPY_OUT: the tenant's DREGION to host memory (R471, R490). -/
def execCopyOut (t : Fin 32) (q : Fin 4) (s : State) : Host.Outcome State Fault Refusal :=
  s.startDesc t q 3 (fun d h u =>
    match u.tenantRegion t with
    | some r =>
      let c := r.base * 0x100000 + d.daddr
      ((u.copyRequests r.channel c d.len false).writeBytes (kHost + d.haddr) (u.dramRead r.channel c d.len)).addDesc t q
        (d.start (u.tenantGen t) h (some (r.channel, c)) (.done .ok d.len))
    | none => u)

/-- A ticket and a buffer for a TX of class `c` and `len` bytes, with its place among the frames kept (R116, R300,
R476). -/
def State.txTake (s : State) (c len : Nat) : Option (Nat × Bool × Nat × State) :=
  match s.takeTicket c, s.entryOf 0x600 with
  | some (k, sh), some e =>
    let b := s.allocSize e (len + 4) (some c)
    if b.1 = .ok then
      let f : Frame :=
        { fr := FrameRec.fresh 8 c (w32 b.2.1) s.tb.now, wire := [], t0 := s.time, checking := false, shared := sh,
          admitCycle := s.cycle, pound := none, prevPound := 0xFF, fab := s.flt.fabGen, first := true, complete := false,
          ahead := false, released := false, gen := 0, ord := 0, hold := none, learn := none, eg := none, early := true }
      some (k, sh, b.2.1, (b.2.2.setFrame k (some f)).notePeak)
    else none
  | _, _ => none

/-- TX: the sequencer takes a ticket and a buffer; without one, C3 is refused at once and C1 and C2 wait (R475, R476). -/
def execTx (t : Fin 32) (q : Fin 4) (s : State) : Host.Outcome State Fault Refusal :=
  s.startDesc t q 4 (fun d h u =>
    let c := d.aux % 4
    let add := fun (v : State) (st : DescSt) => v.addDesc t q (d.start (u.tenantGen t) h none st)
    if c = 0 then add u (.done .refusedRights 0)
    else
      match u.txTake c d.len with
      | some (k, sh, b, v) => add v (.txRead k sh b false)
      | none => add u (if c = 3 then .done .refusedCapacity 0 else .txWait u.time))

/-- A TX that is not admitted yet, with its class. -/
def Desc.txClass (d : Desc) : Option Nat :=
  match d.st with
  | .txWait _ | .txRead _ _ _ _ => some (d.aux % 4)
  | _ => none

/-- The state with descriptor `k` in progress replaced. -/
def State.setDesc (s : State) (t q k : Nat) (d : Desc) : State :=
  match s.qp t q with
  | some x => s.setQp t q (some { x with prog := x.prog.set k d })
  | none => s

/-- HOST_TX_ADMIT: the last byte of TX `k` in progress has arrived, and the frame is admitted from port 8 with FCS_DONE;
frames of one class keep the order of their SQ (R125, R475, R476). -/
def execHostTxAdmit (t : Fin 32) (q : Fin 4) (k : Fin 8) (s : State) : Host.Outcome State Fault Refusal :=
  match (s.qp t q).bind (fun x => x.prog[k.val]?.map (fun d => (x, d))) with
  | none => .next s
  | some (x, d) =>
    let c := d.aux % 4
    if (x.prog.take k.val).any (fun e => decide (e.txClass = some c)) || s.holding118 8 || !s.linkUp then .next s
    else
      let go := match d.st with
        | .txRead n sh b late => some (n, sh, b, late, s)
        | .txWait _ => (s.txTake c d.len).map (fun (r : Nat × Bool × Nat × State) => (r.1, r.2.1, r.2.2.1, true, r.2.2.2))
        | _ => none
      match go with
      | none => .next s
      | some (n, sh, b, late, u) =>
        let data := u.readBytes (kHost + d.haddr) d.len
        let wire := data ++ leBytes 4 (fcs32 data).toNat
        let u1 := (u.setDesc t q k { d with st := .txSent n u.flt.ordNext late }).tntCount t 0 1
        .next (u1.admitFrame n sh 8 c b wire u1.time true 0 (d.aux / 4 % 8) (t.val + 32 * q.val))

/-- TX_WAIT_EXPIRY: TX `k` in progress, still without a ticket or buffer TNT_TXWAIT µs after its start, is refused
(R475). -/
def execTxWaitExpiry (t : Fin 32) (q : Fin 4) (k : Fin 8) (s : State) : Host.Outcome State Fault Refusal :=
  match (s.qp t q).bind (fun x => x.prog[k.val]?) with
  | none => .next s
  | some d =>
    match d.st with
    | .txWait since =>
      let s1 := s.advance (since + 1000 * s.fld A.tntTxwait 15 0)
      if (s1.txTake (d.aux % 4) d.len).isSome then .next s1
      else .next (s1.setDesc t q k { d with st := .done .refusedCapacity 0 })
    | _ => .next s

/-- A buffer is posted in the order of the SQ (R472). -/
def State.postBuf (s : State) (t q : Nat) (d : SqDesc) (head : Nat) : State :=
  match s.qp t q with
  | some x =>
    let b : RxBuf := { cid := d.cid, gen := s.tenantGen t, len := d.len, haddr := d.haddr, sqhead := head }
    s.setQp t q (some { x with posted := x.posted ++ [b] })
  | none => s

/-- RX: posts a host buffer for frames (R477). -/
def execRx (t : Fin 32) (q : Fin 4) (s : State) : Host.Outcome State Fault Refusal :=
  s.startDesc t q 5 (fun d h u => u.postBuf t q d h)

/-- RECV: posts a host buffer for firmware messages (R480). -/
def execRecv (t : Fin 32) (q : Fin 4) (s : State) : Host.Outcome State Fault Refusal :=
  s.startDesc t q 7 (fun d h u => u.postBuf t q d h)

/-- The message header of Table 16-11. -/
def msgHeader (t q : Nat) (d : SqDesc) (gen : Nat) (cycle : W32) : List Byte :=
  leBytes 2 d.cid ++ leBytes 1 t ++ leBytes 1 q ++ leBytes 2 gen ++ leBytes 2 d.len ++ leBytes 4 cycle.toNat ++
    leBytes 4 d.aux

/-- SEND: the message moves into a chain charged to the tenant, the chain to FWOWNER's entry, and a token to MSGTAG
(R475, R479). -/
def execSend (t : Fin 32) (q : Fin 4) (s : State) : Host.Outcome State Fault Refusal :=
  s.startDesc t q 6 (fun d h u =>
    let add := fun (v : State) (st : DescSt) => v.addDesc t q (d.start (u.tenantGen t) h none st)
    match u.qp t q, u.entryOf (0x400 + t.val) with
    | some x, some e =>
      let a := u.allocChain e ((16 + d.len + 63) / 64)
      match a.1, u.entryNamed x.fwowner with
      | .ok, some fw =>
        let w := bufWord 6 a.2.1
        let u1 := a.2.2.2.bufWrite w 0 (msgHeader t q d (u.tenantGen t) u.cycle ++ u.readBytes (kHost + d.haddr) d.len)
        let p := u1.post x.msgtag (w32 w) .ok
        if p.1 = .ok then add (p.2.moveBuf w fw) (.done .ok d.len)
        else add (p.2.freeBuf w) (.done .refusedCapacity 0)
      | _, _ => add (if a.1 = .ok then u else a.2.2.2) (.done .refusedCapacity 0)
    | _, _ => add u (.done .refusedCapacity 0))

/-! ### Completions (R472, R474) -/

/-- Requests of a copy still stand in its channel. -/
def State.copyRuns (s : State) (d : Desc) : Bool :=
  match d.dram with
  | some (x, c) => ((s.ch x).queue ++ (s.ch x).waiting ++ (s.ch x).active).any (fun r =>
      decide (r.agent = 0x606#12) && decide (c ≤ r.addr) && decide (r.addr < c + d.len))
  | none => false

/-- The status of a descriptor that has ended, and the bytes it moved: a TX ends when its arrival token is posted
(R476). -/
def State.descEnd (s : State) (d : Desc) : Option (Status × Nat) :=
  match d.st with
  | .done st n => if s.copyRuns d then none else some (st, n)
  | .txSent k o late =>
    let holds := match s.frame k with
      | some f => decide (f.ord = o) && f.hold.isSome
      | none => false
    if holds then none else some (if late then .delayed else .ok, d.len)
  | _ => none

/-- DESCRIPTOR_COMPLETE: the next completion of queue pair `q` is written, of an accepted POST when `posted` says so,
otherwise of the oldest descriptor in progress (R472, R474, R488). -/
def execDescriptorComplete (t : Fin 32) (q : Fin 4) (posted : Bool) (s : State) : Host.Outcome State Fault Refusal :=
  match s.qp t q with
  | none => .next s
  | some x =>
    if !s.linkUp || s.qpError t q || !x.room || decide (s.tenantState t ≠ 1) then .next s
    else if posted then
      match x.filled with
      | [] => .next s
      | (c, a, bs) :: rest =>
        .next (((s.writeBytes (kHost + a) bs).setQp t q (some { x with filled := rest })).writeCpl t q c)
    else
      match x.prog with
      | [] => .next s
      | d :: rest =>
        match s.descEnd d with
        | none => .next s
        | some (st, n) =>
          .next ((s.setQp t q (some { x with prog := rest })).writeCpl t q
            { cid := d.cid, status := st, notice := false, promoted := d.promoted, gen := d.gen, sqhead := d.sqhead, len := n,
              result := [] })

/-- The completion of a posted buffer (Table 16-10). -/
def RxBuf.cpl (b : RxBuf) (st : Status) (len : Nat) (result : List W32) : Cpl :=
  { cid := b.cid, status := st, notice := false, promoted := false, gen := b.gen, sqhead := b.sqhead, len := len,
    result := result }

/-- HOST_FRAME_DELIVER: the oldest waiting frame is written into the next RX buffer and completes it; one that is too long
is discarded and the buffer stays posted (R477, R478). A buffer that no window reaches any more completes with
REFUSED_RANGE (R464, R471). -/
def execHostFrameDeliver (t : Fin 32) (q : Fin 4) (s : State) : Host.Outcome State Fault Refusal :=
  match s.qp t q with
  | none => .next s
  | some x =>
    let fifo := x.fifo.filter (fun f => s.waitsHost f.eg)
    match fifo, x.posted with
    | f :: rest, b :: more =>
      if !s.linkUp || s.qpError t q || !x.room || decide (s.tenantState t ≠ 1) then .next s
      else
        let e := s.egFrame f.eg
        let buf := (e.map (·.buf)).getD 0
        let n := (e.map (·.len)).getD 0 - 4
        if b.len < n then .next (((s.setQp t q (some { x with fifo := rest })).dropHostFrame f).tntCount t 2 1)
        else if !s.hostWindow t 2 b.haddr b.len then
          .next ((s.setQp t q (some { x with fifo := fifo, posted := more })).writeCpl t q (b.cpl .refusedRange 0 []))
        else
          let s1 := (s.writeBytes (kHost + b.haddr) (s.bufRead buf 0 n)).setQp t q
            (some { x with fifo := rest, posted := more })
          .next (((s1.dropHostFrame f).tntCount t 1 1).writeCpl t q (b.cpl .ok n f.result))
    | _, _ => .next s

/-! ### POST (section 16.6) -/

/-- The status of a POST by `ag`, and the RECV buffer it fills (R480). -/
def State.postStatus (s : State) (ag : Agent) (w len : Nat) (a0 : W32) : Status :=
  let t := bits a0 4 0
  let q := bits a0 6 5
  if len = 0 then .zeroLength
  else if bits a0 15 7 ≠ 0 ∨ 16384 < len ∨ bufArea w ≠ 6 ∨ s.validBuf w = false ∨ s.bufBytes w < len then .refusedRange
  else if some (s.bufTag (bufPtr w)) ≠ s.entryOf ag.toNat then .refusedRights
  else
    match s.qp t q with
    | none => .refusedNotReady
    | some x =>
      if s.tenantState t ≠ 1 ∨ s.qpError t q = true ∨ x.frame = true then .refusedNotReady
      else if bits a0 31 16 ≠ s.tenantGen t then .staleGeneration
      else
        match x.posted with
        | [] => .refusedCapacity
        | b :: _ => if b.len < len then .refusedCapacity else .ok

/-- POST: a write of TNT_FCMD with OP 1 by `ag` sends the chain that its TNT_FARG registers name (R480). -/
def execPost (ag : Agent) (s : State) : Host.Outcome State Fault Refusal :=
  let arg := fun i => s.reg (agKey ag (A.tntFarg i))
  if !(isThread ag || isWarden ag) || !s.reaches ag 0x0E then .next (s.refuse ag A.tntFcmd .refusedRights)
  else if s.regOff A.tntFcmd then .next (s.refuse ag A.tntFcmd .refusedNotReady)
  else
    let w := (arg 1).toNat
    let len := (arg 2).toNat
    let t := bits (arg 0) 4 0
    let q := bits (arg 0) 6 5
    let st := s.postStatus ag w len (arg 0)
    if st = .refusedCapacity then .next (((s.count 0xE0430).raiseFirst 585).status st)
    else if st ≠ .ok then .next (s.status st)
    else
      match s.qp t q with
      | none => .next s
      | some x =>
        match x.posted with
        | [] => .next s
        | b :: more =>
          let data := s.bufRead w 0 len
          let c := b.cpl .ok len [arg 3, arg 4, arg 5, arg 6]
          let s1 := if s.linkUp then s.writeBytes (kHost + b.haddr) data else s
          let f := (c, b.haddr, if s.linkUp then [] else data)
          .next (((s1.setQp t q (some { x with posted := more, filled := x.filled ++ [f] })).freeBuf w).status .ok)

/-- DMA_READ_TIMEOUT: a read for queue pair `q` times out: the TX being read, or the ready COPY_IN, TX or SEND whose data
read is lost, completes with TIMEOUT (R457). -/
def execDmaReadTimeout (t : Fin 32) (q : Fin 4) (s : State) : Host.Outcome State Fault Refusal :=
  match s.qp t q with
  | none => .next s
  | some x =>
    let i := (rangeFrom x.prog.length 0).find? (fun k => match (x.prog[k]?).map (·.st) with
      | some (.txRead _ _ _ _) => true
      | _ => false)
    match i with
    | some k =>
      match x.prog[k]? with
      | some d => .next ((s.dropDesc d).setDesc t q k { d with st := .done .timeout 0 })
      | none => .next s
    | none =>
      let d := s.readDesc x
      let lost := fun (d : SqDesc) (h : Nat) (u : State) =>
        u.addDesc t q (d.start (u.tenantGen t) h none (.done .timeout 0))
      if d.opc = 2 then s.startDesc t q 2 lost
      else if d.opc = 4 ∧ d.aux % 4 ≠ 0 then s.startDesc t q 4 lost
      else if d.opc = 6 then s.startDesc t q 6 lost
      else .next s

end Sys2Proof.Machine
end

