-- ==== Sys2Proof/Machine/Flr.lean ====
section
/-! DEFINITION. The Function Level Reset (section 16.9). -/

namespace Sys2Proof.Machine

/-- FUNCTION_LEVEL_RESET: an FLR, a hot reset or, with `link`, a link down after S20. The mailbox and the doorbells stop, no DMA
starts, and a pending request of the secure mailbox is cancelled (R489, R583). -/
def execFunctionLevelReset (link : Bool) (s : State) : Host.Outcome State Fault Refusal :=
  if s.boot.step < 20 then .next s
  else
    let s1 := s.mboxCancel .timeout
    .next { s1 with tnt := { s1.tnt with flr := true }, boot := { s1.boot with l0 := s1.boot.l0 && !link } }

/-- Tenant `t` ends in an FLR: steps 2 to 5 of R481, then ABSENT without host windows. -/
def State.flrTenant (s : State) (t : Nat) : State :=
  let s1 := s.tenantEnds t 4
  (s1.setTenant t Tenant.init).setTenantState t 0

/-- What step 5 of R489 resets: the MSI-X table, TNT_MCFG, the BAR2 windows and configuration space. -/
def State.flrHost (s : State) : State :=
  let s1 := (rangeFrom 16 0).foldl (fun (t : State) n => t.setFld (A.tntB2win n) 1 0 0) (s.setReg A.tntMcfg 0#32)
  { s1 with msix := { s1.msix with enable := false, fmask := false, unmasked := [], pend := [] },
            regs := s1.regs.filter (fun p => !decide (0x1200000 ≤ p.1 ∧ p.1 < 0x1202000)),
            tnt := { s1.tnt with busMaster := false, memSpace := false, stopped := false, busy := false, flr := false } }

/-- FLR_COMPLETE: the outstanding reads have returned or timed out (R489). -/
def execFlrComplete (s : State) : Host.Outcome State Fault Refusal :=
  if !s.tnt.flr then .next s
  else
    let s1 := (rangeFrom 32 0).foldl State.flrTenant s
    .next (((s1.agentEnds agManager 4).flrHost).raise 584)

end Sys2Proof.Machine
end

