-- ==== Sys2Proof/Machine/RegTable.lean ====
section
/-! DEFINITION. The register table: one descriptor for each register (or array of registers) of the "Registers of this
chapter" sections of spec/00 to spec/22, with its BAR0 address (R8), its access masks (Table 0-4) and its
turn-swapped bits with their swap group (R12, Table 4-2; 99 for none). The reset values stand in `regReset`. Warden IO registers, 0x80_0000 onwards in warden
IO-space, are kept at 0x8000_0000 onwards. -/

namespace Sys2Proof.Machine

/-- A register or an array of registers: the `k`-th lies at `base + k * stride`. -/
structure RegDesc where
  name : String
  base : Nat
  count : Nat
  stride : Nat
  rw : Nat
  w1c : Nat
  rc : Nat
  wo : Nat
  turn : Nat
  group : Nat
  perAgent : Bool
  deriving DecidableEq, Repr

/-- Registers of block slot 0x00, part 0. -/
def regsSlot00_0 : List RegDesc := [
  ⟨"TOP_ID", 0x0, 1, 4, 0x0, 0x0, 0x0, 0x0, 0x0, 99, false⟩,
  ⟨"TOP_CAPS", 0x4, 1, 4, 0x0, 0x0, 0x0, 0x0, 0x0, 99, false⟩]

/-- All registers of block slot 0x00. -/
def regsSlot00 : List RegDesc := regsSlot00_0

/-- Registers of block slot 0x01, part 0. -/
def regsSlot01_0 : List RegDesc := [
  ⟨"PWR_PDREQ", 0x10000, 1, 4, 0x0, 0x0, 0x0, 0x37f, 0x0, 99, true⟩,
  ⟨"PWR_PDSTAT", 0x10010, 6, 4, 0x0, 0x0, 0x0, 0x0, 0x0, 99, false⟩,
  ⟨"PWR_CKREQ", 0x10030, 1, 4, 0x3fff, 0x0, 0x0, 0x0, 0x0, 99, false⟩,
  ⟨"PWR_CKSTAT", 0x10034, 1, 4, 0x0, 0x0, 0x0, 0x0, 0x0, 99, false⟩,
  ⟨"PWR_GOVCTL", 0x10040, 1, 4, 0xf7fffff, 0x0, 0x0, 0x0, 0x0, 99, false⟩,
  ⟨"PWR_GOVHYST", 0x10044, 1, 4, 0xffff, 0x0, 0x0, 0x0, 0x0, 99, false⟩,
  ⟨"PWR_DEADLINE", 0x10048, 1, 4, 0x7fffff, 0x0, 0x0, 0x0, 0x7fffff, 21, false⟩,
  ⟨"PWR_MARGIN", 0x1004c, 1, 4, 0x7fffff, 0x0, 0x0, 0x0, 0x7fffff, 21, false⟩,
  ⟨"PWR_VCLIM", 0x10050, 1, 4, 0x3ff03ff, 0x0, 0x0, 0x0, 0x3ff03ff, 21, false⟩,
  ⟨"PWR_VCORE", 0x10054, 1, 4, 0x0, 0x0, 0x0, 0x0, 0x0, 99, false⟩,
  ⟨"PWR_GOVFIN", 0x10058, 1, 4, 0x0, 0x0, 0x0, 0x0, 0x0, 99, false⟩,
  ⟨"PWR_GOVSTAT", 0x1005c, 1, 4, 0x0, 0x0, 0x0, 0x0, 0x0, 99, false⟩]

/-- Registers of block slot 0x01, part 1. -/
def regsSlot01_1 : List RegDesc := [
  ⟨"PWR_SHUTREC", 0x10060, 1, 4, 0x0, 0x1, 0x0, 0x0, 0x0, 99, false⟩]

/-- All registers of block slot 0x01. -/
def regsSlot01 : List RegDesc := regsSlot01_0 ++ regsSlot01_1

/-- Registers of block slot 0x02, part 0. -/
def regsSlot02_0 : List RegDesc := [
  ⟨"MON_TEMP", 0x20000, 12, 4, 0x0, 0x0, 0x0, 0x0, 0x0, 99, false⟩,
  ⟨"MON_TJMAX", 0x20030, 1, 4, 0x0, 0x0, 0x0, 0x0, 0x0, 99, false⟩,
  ⟨"MON_THERM", 0x20034, 1, 4, 0x3ffffff, 0x0, 0x0, 0x0, 0x0, 99, false⟩,
  ⟨"MON_RAIL", 0x20040, 8, 4, 0x0, 0x30000, 0x0, 0x0, 0x0, 99, false⟩,
  ⟨"MON_PM", 0x20100, 64, 4, 0x0, 0x0, 0x0, 0x0, 0x0, 99, false⟩,
  ⟨"MON_RPL", 0x20200, 64, 4, 0x0, 0x0, 0x0, 0x0, 0x0, 99, false⟩]

/-- All registers of block slot 0x02. -/
def regsSlot02 : List RegDesc := regsSlot02_0

/-- Registers of block slot 0x03, part 0. -/
def regsSlot03_0 : List RegDesc := [
  ⟨"TB_NOW_LO", 0x30000, 1, 4, 0x0, 0x0, 0x0, 0x0, 0x0, 99, false⟩,
  ⟨"TB_NOW_HI", 0x30004, 1, 4, 0x0, 0x0, 0x0, 0x0, 0x0, 99, false⟩,
  ⟨"TB_CYCLE", 0x30008, 1, 4, 0x0, 0x0, 0x0, 0x0, 0x0, 99, false⟩,
  ⟨"TB_OFFSET", 0x3000c, 1, 4, 0x0, 0x0, 0x0, 0x0, 0x0, 99, false⟩,
  ⟨"TB_CYCSTART_LO", 0x30010, 1, 4, 0x0, 0x0, 0x0, 0x0, 0x0, 99, false⟩,
  ⟨"TB_CYCSTART_HI", 0x30014, 1, 4, 0x0, 0x0, 0x0, 0x0, 0x0, 99, false⟩,
  ⟨"TB_PERIOD", 0x30018, 1, 4, 0x3fffff, 0x0, 0x0, 0x0, 0x3fffff, 0, false⟩,
  ⟨"TB_PHASE", 0x3001c, 1, 4, 0xffffffff, 0x0, 0x0, 0x0, 0xffffffff, 2, false⟩,
  ⟨"TB_RATE", 0x30020, 1, 4, 0xffffffff, 0x0, 0x0, 0x0, 0x0, 99, false⟩,
  ⟨"TB_STEP_LO", 0x30024, 1, 4, 0xffffffff, 0x0, 0x0, 0x0, 0x0, 99, false⟩,
  ⟨"TB_STEP_HI", 0x30028, 1, 4, 0xffffffff, 0x0, 0x0, 0x0, 0xffffffff, 1, false⟩,
  ⟨"TB_TURNSTAT", 0x3002c, 1, 4, 0x0, 0x200000, 0xff00, 0x0, 0x0, 99, false⟩]

/-- Registers of block slot 0x03, part 1. -/
def regsSlot03_1 : List RegDesc := [
  ⟨"TB_ARM", 0x30030, 1, 4, 0x0, 0x0, 0x0, 0x7fffff, 0x0, 99, false⟩,
  ⟨"TB_DISARM", 0x30034, 1, 4, 0x0, 0x0, 0x0, 0x7fffff, 0x0, 99, false⟩,
  ⟨"TB_ARMED", 0x30038, 1, 4, 0x0, 0x0, 0x0, 0x0, 0x0, 99, false⟩,
  ⟨"TB_SWAPPED", 0x3003c, 1, 4, 0x0, 0x0, 0x0, 0x0, 0x0, 99, false⟩,
  ⟨"TB_SHRB_ADDR", 0x30040, 1, 4, 0xfffffc, 0x0, 0x0, 0x0, 0x0, 99, true⟩,
  ⟨"TB_SHRB_DATA", 0x30044, 1, 4, 0x0, 0x0, 0x0, 0x0, 0x0, 99, false⟩,
  ⟨"TB_SNAP_CTRL", 0x30048, 1, 4, 0x0, 0x0, 0x0, 0x1, 0x0, 99, false⟩,
  ⟨"TB_SNAP_LO", 0x3004c, 1, 4, 0x0, 0x0, 0x0, 0x0, 0x0, 99, true⟩,
  ⟨"TB_SNAP_HI", 0x30050, 1, 4, 0x0, 0x0, 0x0, 0x0, 0x0, 99, true⟩,
  ⟨"TB_SNAP_CYCLE", 0x30054, 1, 4, 0x0, 0x0, 0x0, 0x0, 0x0, 99, true⟩,
  ⟨"TB_SNAP_OFFSET", 0x30058, 1, 4, 0x0, 0x0, 0x0, 0x0, 0x0, 99, true⟩,
  ⟨"TB_TTAG", 0x30080, 16, 4, 0x8000ffff, 0x0, 0x0, 0x0, 0x8000ffff, 3, false⟩]

/-- All registers of block slot 0x03. -/
def regsSlot03 : List RegDesc := regsSlot03_0 ++ regsSlot03_1

/-- Registers of block slot 0x04, part 0. -/
def regsSlot04_0 : List RegDesc := [
  ⟨"SHP_STAT", 0x40000, 1, 4, 0x0, 0x0, 0x0, 0x0, 0x0, 99, false⟩,
  ⟨"SHP_CTRL", 0x40004, 1, 4, 0x0, 0x0, 0x0, 0x3, 0x0, 99, false⟩,
  ⟨"SHP_LOADERR", 0x40008, 1, 4, 0x0, 0x0, 0x0, 0x0, 0x0, 99, false⟩,
  ⟨"SHP_ERROFF", 0x4000c, 1, 4, 0x0, 0x0, 0x0, 0x0, 0x0, 99, false⟩,
  ⟨"SHP_DELTA_ADDR", 0x40010, 1, 4, 0x3ffff0, 0x0, 0x0, 0x0, 0x0, 99, false⟩,
  ⟨"SHP_DELTA_LEN", 0x40014, 1, 4, 0x1fffff, 0x0, 0x0, 0x0, 0x0, 99, false⟩,
  ⟨"SHP_TURN_A", 0x40018, 1, 4, 0x0, 0x0, 0x0, 0x0, 0x0, 99, false⟩,
  ⟨"SHP_TURN_B", 0x4001c, 1, 4, 0x0, 0x0, 0x0, 0x0, 0x0, 99, false⟩,
  ⟨"SHP_BUILD", 0x40020, 1, 4, 0x0, 0x0, 0x0, 0x0, 0x0, 99, false⟩,
  ⟨"SHP_SECVER", 0x40024, 1, 4, 0x0, 0x0, 0x0, 0x0, 0x0, 99, false⟩,
  ⟨"SHP_DIGEST", 0x40040, 8, 4, 0x0, 0x0, 0x0, 0x0, 0x0, 99, false⟩]

/-- All registers of block slot 0x04. -/
def regsSlot04 : List RegDesc := regsSlot04_0

/-- Registers of block slot 0x06, part 0. -/
def regsSlot06_0 : List RegDesc := [
  ⟨"FLT_CTRL", 0x60000, 1, 4, 0x1ff, 0x0, 0x0, 0x0, 0x0, 99, false⟩,
  ⟨"FLT_CLASSMAP", 0x60004, 1, 4, 0x3ffff, 0x0, 0x0, 0x0, 0x0, 99, false⟩,
  ⟨"FLT_AGE", 0x60008, 1, 4, 0xff, 0x0, 0x0, 0x0, 0x0, 99, false⟩,
  ⟨"FLT_TKT_C01", 0x60010, 1, 4, 0x0, 0x0, 0x0, 0x0, 0x0, 99, false⟩,
  ⟨"FLT_TKT_C23", 0x60014, 1, 4, 0x0, 0x0, 0x0, 0x0, 0x0, 99, false⟩,
  ⟨"FLT_TKT_PEAK", 0x60018, 1, 4, 0x0, 0x0, 0x7ff, 0x0, 0x0, 99, false⟩,
  ⟨"FLT_FINISH", 0x6001c, 1, 4, 0x0, 0x0, 0x0, 0x0, 0x0, 99, false⟩,
  ⟨"FLT_FINPREV", 0x60020, 1, 4, 0x0, 0x0, 0x0, 0x0, 0x0, 99, false⟩,
  ⟨"FLT_ARRTAG", 0x60040, 16, 4, 0x0, 0x0, 0x0, 0x0, 0x0, 99, false⟩,
  ⟨"FLT_DLOG_CTRL", 0x60100, 1, 4, 0xff, 0x0, 0x0, 0x0, 0x0, 99, false⟩,
  ⟨"FLT_DLOG_WR", 0x60104, 1, 4, 0x0, 0x0, 0x0, 0x0, 0x0, 99, false⟩,
  ⟨"FLT_DLOG_RD", 0x6010c, 1, 4, 0xffffffff, 0x0, 0x0, 0x0, 0x0, 99, false⟩]

/-- Registers of block slot 0x06, part 1. -/
def regsSlot06_1 : List RegDesc := [
  ⟨"FLT_DLOG_HELD", 0x60110, 1, 4, 0x0, 0x0, 0x0, 0x0, 0x0, 99, false⟩,
  ⟨"FLT_DLOG_REC", 0x60120, 8, 4, 0x0, 0x0, 0x0, 0x0, 0x0, 99, false⟩]

/-- All registers of block slot 0x06. -/
def regsSlot06 : List RegDesc := regsSlot06_0 ++ regsSlot06_1

/-- Registers of block slot 0x07, part 0. -/
def regsSlot07_0 : List RegDesc := [
  ⟨"LKP_TOKSTAT", 0x70000, 1, 4, 0x0, 0x0, 0x0, 0x0, 0x0, 99, false⟩,
  ⟨"LKP_THRSTAT", 0x70004, 1, 4, 0x0, 0x0, 0x0, 0x0, 0x0, 99, false⟩,
  ⟨"LKP_CTRL", 0x70008, 1, 4, 0x1fff0001, 0x0, 0x0, 0x0, 0x0, 99, false⟩,
  ⟨"LKP_QCMD", 0x7000c, 1, 4, 0x0, 0x0, 0x0, 0x33f, 0x0, 99, false⟩,
  ⟨"LKP_QUAR", 0x70010, 2, 4, 0x0, 0x0, 0x0, 0x0, 0x0, 99, false⟩,
  ⟨"LKP_QLAST", 0x70018, 1, 4, 0x0, 0x0, 0x0, 0x0, 0x0, 99, false⟩,
  ⟨"LKP_RETURN", 0x7001c, 1, 4, 0x0, 0x0, 0x0, 0x0, 0x0, 99, false⟩,
  ⟨"LKP_ABORT", 0x70020, 1, 4, 0x0, 0x0, 0x0, 0xffff, 0x0, 99, false⟩,
  ⟨"LKP_PFBASE", 0x70024, 1, 4, 0x3ffe01, 0x0, 0x0, 0x0, 0x0, 99, false⟩,
  ⟨"LKP_PAGESTAT", 0x70028, 1, 4, 0x0, 0x0, 0x0, 0x0, 0x0, 99, false⟩,
  ⟨"LKP_MISSSTAT", 0x7002c, 1, 4, 0x0, 0x80000000, 0x0, 0x0, 0x0, 99, false⟩]

/-- All registers of block slot 0x07. -/
def regsSlot07 : List RegDesc := regsSlot07_0

/-- Registers of block slot 0x08, part 0. -/
def regsSlot08_0 : List RegDesc := [
  ⟨"BSN_CMD", 0x80000, 1, 4, 0x0, 0x0, 0x0, 0xffffffff, 0x0, 99, true⟩,
  ⟨"BSN_ARG", 0x80004, 1, 4, 0xffffffff, 0x0, 0x0, 0x0, 0x0, 99, true⟩,
  ⟨"BSN_RESULT", 0x80008, 1, 4, 0x0, 0x0, 0x0, 0x0, 0x0, 99, true⟩,
  ⟨"BSN_RESULT2", 0x8000c, 1, 4, 0x0, 0x0, 0x0, 0x0, 0x0, 99, true⟩,
  ⟨"BSN_CTRL", 0x80010, 1, 4, 0x3f, 0x0, 0x0, 0x0, 0x0, 99, false⟩,
  ⟨"BSN_BERTHRES", 0x80014, 1, 4, 0x1ffff, 0x0, 0x0, 0x0, 0x0, 99, false⟩,
  ⟨"BSN_RESV", 0x80060, 6, 4, 0x1ffff, 0x0, 0x0, 0x0, 0x0, 99, false⟩,
  ⟨"BSN_LOW", 0x80080, 8, 4, 0x1ffff, 0x0, 0x0, 0x0, 0x0, 99, false⟩,
  ⟨"BSN_FREE", 0x80020, 8, 4, 0x0, 0x0, 0x0, 0x0, 0x0, 99, false⟩,
  ⟨"BSN_BASE", 0x80040, 8, 4, 0x0, 0x0, 0x0, 0x0, 0x0, 99, false⟩,
  ⟨"BSN_OSEL", 0x800a0, 1, 4, 0x3f, 0x0, 0x0, 0x0, 0x0, 99, true⟩,
  ⟨"BSN_OHOLD", 0x800a4, 3, 4, 0x0, 0x0, 0x0, 0x0, 0x0, 99, false⟩]

/-- Registers of block slot 0x08, part 1. -/
def regsSlot08_1 : List RegDesc := [
  ⟨"BSN_OHOLD3", 0x800b0, 1, 4, 0x0, 0x0, 0x0, 0x0, 0x0, 99, false⟩,
  ⟨"BSN_OHOLD4", 0x800b4, 1, 4, 0x0, 0x0, 0x0, 0x0, 0x0, 99, false⟩,
  ⟨"BSN_OAGENT", 0x800b8, 1, 4, 0x0, 0x0, 0x0, 0x0, 0x0, 99, false⟩,
  ⟨"BSN_OCELL", 0x800bc, 1, 4, 0xffff, 0x0, 0x0, 0x0, 0x0, 99, false⟩,
  ⟨"BSN_ERR", 0x800c0, 1, 4, 0x0, 0x0, 0x0, 0x0, 0x0, 99, false⟩,
  ⟨"BSN_ERRBUF", 0x800c4, 1, 4, 0x0, 0x0, 0x0, 0x0, 0x0, 99, false⟩,
  ⟨"BSN_SPILLSLOTS", 0x800d0, 1, 4, 0x0, 0x0, 0x0, 0x0, 0x0, 99, false⟩,
  ⟨"BSN_SPILLFREE", 0x800d4, 1, 4, 0x0, 0x0, 0x0, 0x0, 0x0, 99, false⟩]

/-- All registers of block slot 0x08. -/
def regsSlot08 : List RegDesc := regsSlot08_0 ++ regsSlot08_1

/-- Registers of block slot 0x09, part 0. -/
def regsSlot09_0 : List RegDesc := [
  ⟨"TBL_KEY", 0x90000, 3, 4, 0xffffffff, 0x0, 0x0, 0x0, 0x0, 99, true⟩,
  ⟨"TBL_RES", 0x9000c, 1, 4, 0xffffffff, 0x0, 0x0, 0x0, 0x0, 99, true⟩,
  ⟨"TBL_AUX0", 0x90010, 1, 4, 0xffffffff, 0x0, 0x0, 0x0, 0x0, 99, true⟩,
  ⟨"TBL_AUX1", 0x90014, 1, 4, 0xffffffff, 0x0, 0x0, 0x0, 0x0, 99, true⟩,
  ⟨"TBL_CMD", 0x90018, 1, 4, 0x0, 0x0, 0x0, 0xffff007f, 0x0, 99, true⟩,
  ⟨"TBL_SEQ", 0x9001c, 1, 4, 0x0, 0x0, 0x0, 0x0, 0x0, 99, true⟩,
  ⟨"TBL_LAST", 0x90020, 1, 4, 0x0, 0x0, 0x0, 0x0, 0x0, 99, true⟩,
  ⟨"TBL_RD", 0x90030, 4, 4, 0x0, 0x0, 0x0, 0x0, 0x0, 99, true⟩,
  ⟨"TBL_CTRL", 0x90100, 1, 4, 0x1ff, 0x0, 0x0, 0x0, 0x0, 99, false⟩,
  ⟨"TBL_FLOOD", 0x90110, 10, 4, 0x1ff, 0x0, 0x0, 0x0, 0x0, 99, false⟩,
  ⟨"TBL_EPOCH", 0x90140, 3, 4, 0x0, 0x0, 0x0, 0x0, 0x0, 99, false⟩,
  ⟨"TBL_STAT", 0x90150, 3, 4, 0x0, 0x800000, 0x0, 0x0, 0x0, 99, false⟩]

/-- Registers of block slot 0x09, part 1. -/
def regsSlot09_1 : List RegDesc := [
  ⟨"TBL_POLICY", 0x90160, 1, 4, 0x7, 0x0, 0x0, 0x0, 0x0, 99, false⟩,
  ⟨"TBL_SEEDA", 0x90170, 3, 4, 0x0, 0x0, 0x0, 0x0, 0x0, 99, false⟩,
  ⟨"TBL_SEEDB", 0x90180, 3, 4, 0x0, 0x0, 0x0, 0x0, 0x0, 99, false⟩,
  ⟨"TBL_AGE", 0x90190, 1, 4, 0xffff, 0x0, 0x0, 0x0, 0x0, 99, false⟩,
  ⟨"TBL_QSTAT", 0x90194, 1, 4, 0x0, 0x0, 0x0, 0x0, 0x0, 99, false⟩]

/-- All registers of block slot 0x09. -/
def regsSlot09 : List RegDesc := regsSlot09_0 ++ regsSlot09_1

/-- Registers of block slot 0x0A, part 0. -/
def regsSlot0A_0 : List RegDesc := [
  ⟨"BRG_CTRL", 0xa0000, 1, 4, 0xffffffff, 0x0, 0x0, 0x0, 0x0, 99, false⟩,
  ⟨"BRG_LOSSTAG", 0xa0004, 1, 4, 0x8000ffff, 0x0, 0x0, 0x0, 0x0, 99, false⟩,
  ⟨"BRG_STAT", 0xa0008, 1, 4, 0x0, 0x1000, 0x0, 0x0, 0x0, 99, false⟩,
  ⟨"BRG_CMD", 0xa0010, 1, 4, 0x0, 0x0, 0x0, 0xf, 0x0, 99, true⟩,
  ⟨"BRG_ARG", 0xa0014, 4, 4, 0xffffffff, 0x0, 0x0, 0x0, 0x0, 99, true⟩,
  ⟨"BRG_RESULT", 0xa0024, 1, 4, 0x0, 0x0, 0x0, 0x0, 0x0, 99, true⟩,
  ⟨"BRG_DIR0", 0xa0028, 1, 4, 0x0, 0x0, 0x0, 0x0, 0x0, 99, true⟩,
  ⟨"BRG_DIR1", 0xa002c, 1, 4, 0x0, 0x0, 0x0, 0x0, 0x0, 99, true⟩,
  ⟨"BRG_COMMIT", 0xa0030, 1, 4, 0x0, 0x0, 0x0, 0xff3fff, 0x0, 99, true⟩,
  ⟨"BRG_ICFG", 0xa0080, 8, 16, 0x3, 0x0, 0x0, 0x0, 0x3, 14, false⟩,
  ⟨"BRG_IOPEN", 0xa0084, 8, 16, 0x7fffff, 0x0, 0x0, 0x0, 0x7fffff, 14, false⟩,
  ⟨"BRG_ICLOSE", 0xa0088, 8, 16, 0x7fffff, 0x0, 0x0, 0x0, 0x7fffff, 14, false⟩]

/-- Registers of block slot 0x0A, part 1. -/
def regsSlot0A_1 : List RegDesc := [
  ⟨"BRG_OCFG", 0xa0100, 16, 32, 0xffffff1f, 0x0, 0x0, 0x0, 0xffffff1f, 13, false⟩,
  ⟨"BRG_OFIRST", 0xa0104, 16, 32, 0x3ff, 0x0, 0x0, 0x0, 0x3ff, 13, false⟩,
  ⟨"BRG_OGATE", 0xa0108, 16, 32, 0x7fffff, 0x0, 0x0, 0x0, 0x7fffff, 13, false⟩,
  ⟨"BRG_ODALO", 0xa010c, 16, 32, 0xffffffff, 0x0, 0x0, 0x0, 0xffffffff, 13, false⟩,
  ⟨"BRG_ODAHI", 0xa0110, 16, 32, 0xffff, 0x0, 0x0, 0x0, 0xffff, 13, false⟩,
  ⟨"BRG_OVLAN", 0xa0114, 16, 32, 0xffff, 0x0, 0x0, 0x0, 0xffff, 13, false⟩,
  ⟨"BRG_OBUF", 0xa0118, 16, 32, 0x0, 0x0, 0x0, 0x0, 0x0, 99, false⟩,
  ⟨"BRG_OSTAT", 0xa011c, 16, 32, 0x0, 0x0, 0x0, 0x0, 0x0, 99, false⟩,
  ⟨"BRG_OSLOT", 0xa1000, 1024, 4, 0xff, 0x0, 0x0, 0x0, 0xff, 13, false⟩]

/-- All registers of block slot 0x0A. -/
def regsSlot0A : List RegDesc := regsSlot0A_0 ++ regsSlot0A_1

/-- Registers of block slot 0x0B, part 0. -/
def regsSlot0B_0 : List RegDesc := [
  ⟨"PRT_MDIO_CMD", 0xb0000, 2, 16, 0x0, 0x0, 0x0, 0xffff3fff, 0x0, 99, false⟩,
  ⟨"PRT_MDIO_STAT", 0xb0004, 2, 16, 0x0, 0x20000, 0x0, 0x0, 0x0, 99, false⟩,
  ⟨"PRT_MDIO_CFG", 0xb0008, 2, 16, 0xffff01ff, 0x0, 0x0, 0x0, 0x0, 99, false⟩,
  ⟨"PRT_TSTAG", 0xb0040, 1, 4, 0x8000ffff, 0x0, 0x0, 0x0, 0x0, 99, false⟩,
  ⟨"PRT_TSPOP_0", 0xb0080, 9, 16, 0x0, 0x0, 0x0, 0x0, 0x0, 99, true⟩,
  ⟨"PRT_TSPOP_1", 0xb0084, 9, 16, 0x0, 0x0, 0x0, 0x0, 0x0, 99, true⟩,
  ⟨"PRT_TSPOP_2", 0xb0088, 9, 16, 0x0, 0x0, 0x0, 0x0, 0x0, 99, true⟩,
  ⟨"PRT_TSPOP_3", 0xb008c, 9, 16, 0x0, 0x0, 0x0, 0x0, 0x0, 99, true⟩,
  ⟨"PRT_CTRL", 0xb1000, 8, 2048, 0x3, 0x0, 0x0, 0x0, 0x0, 99, false⟩,
  ⟨"PRT_STAT", 0xb1004, 8, 2048, 0x0, 0x0, 0x0, 0x0, 0x0, 99, false⟩,
  ⟨"PRT_PAUSEQ", 0xb1008, 8, 2048, 0xff, 0x0, 0x0, 0x0, 0x0, 99, false⟩,
  ⟨"PRT_EXPRESS", 0xb100c, 8, 2048, 0xff, 0x0, 0x0, 0x0, 0xff, 12, false⟩]

/-- Registers of block slot 0x0B, part 1. -/
def regsSlot0B_1 : List RegDesc := [
  ⟨"PRT_RXCORR", 0xb1010, 8, 2048, 0xffffffff, 0x0, 0x0, 0x0, 0x0, 99, false⟩,
  ⟨"PRT_TXCORR", 0xb1014, 8, 2048, 0xffffffff, 0x0, 0x0, 0x0, 0x0, 99, false⟩,
  ⟨"PRT_GCLLEN0", 0xb1018, 1, 4, 0xff, 0x0, 0x0, 0x0, 0xff, 4, false⟩,
  ⟨"PRT_GCLLEN1", 0xb1818, 1, 4, 0xff, 0x0, 0x0, 0x0, 0xff, 5, false⟩,
  ⟨"PRT_GCLLEN2", 0xb2018, 1, 4, 0xff, 0x0, 0x0, 0x0, 0xff, 6, false⟩,
  ⟨"PRT_GCLLEN3", 0xb2818, 1, 4, 0xff, 0x0, 0x0, 0x0, 0xff, 7, false⟩,
  ⟨"PRT_GCLLEN4", 0xb3018, 1, 4, 0xff, 0x0, 0x0, 0x0, 0xff, 8, false⟩,
  ⟨"PRT_GCLLEN5", 0xb3818, 1, 4, 0xff, 0x0, 0x0, 0x0, 0xff, 9, false⟩,
  ⟨"PRT_GCLLEN6", 0xb4018, 1, 4, 0xff, 0x0, 0x0, 0x0, 0xff, 10, false⟩,
  ⟨"PRT_GCLLEN7", 0xb4818, 1, 4, 0xff, 0x0, 0x0, 0x0, 0xff, 11, false⟩,
  ⟨"PRT_GCL0", 0xb1100, 128, 4, 0xffffffff, 0x0, 0x0, 0x0, 0xffffffff, 4, false⟩,
  ⟨"PRT_GCL1", 0xb1900, 128, 4, 0xffffffff, 0x0, 0x0, 0x0, 0xffffffff, 5, false⟩]

/-- Registers of block slot 0x0B, part 2. -/
def regsSlot0B_2 : List RegDesc := [
  ⟨"PRT_GCL2", 0xb2100, 128, 4, 0xffffffff, 0x0, 0x0, 0x0, 0xffffffff, 6, false⟩,
  ⟨"PRT_GCL3", 0xb2900, 128, 4, 0xffffffff, 0x0, 0x0, 0x0, 0xffffffff, 7, false⟩,
  ⟨"PRT_GCL4", 0xb3100, 128, 4, 0xffffffff, 0x0, 0x0, 0x0, 0xffffffff, 8, false⟩,
  ⟨"PRT_GCL5", 0xb3900, 128, 4, 0xffffffff, 0x0, 0x0, 0x0, 0xffffffff, 9, false⟩,
  ⟨"PRT_GCL6", 0xb4100, 128, 4, 0xffffffff, 0x0, 0x0, 0x0, 0xffffffff, 10, false⟩,
  ⟨"PRT_GCL7", 0xb4900, 128, 4, 0xffffffff, 0x0, 0x0, 0x0, 0xffffffff, 11, false⟩]

/-- All registers of block slot 0x0B. -/
def regsSlot0B : List RegDesc := regsSlot0B_0 ++ regsSlot0B_1 ++ regsSlot0B_2

/-- Registers of block slot 0x0C, part 0. -/
def regsSlot0C_0 : List RegDesc := [
  ⟨"DRC_CTRL", 0xc0000, 2, 1024, 0xffff0f01, 0x0, 0x0, 0x0, 0x0, 99, false⟩,
  ⟨"DRC_STAT", 0xc0004, 2, 1024, 0x0, 0x0, 0x0, 0x0, 0x0, 99, false⟩,
  ⟨"DRC_AGELIM1", 0xc0010, 2, 1024, 0xffffff, 0x0, 0x0, 0x0, 0x0, 99, false⟩,
  ⟨"DRC_AGELIM2", 0xc0014, 2, 1024, 0xffffff, 0x0, 0x0, 0x0, 0x0, 99, false⟩,
  ⟨"DRC_AGELIM3", 0xc0018, 2, 1024, 0xffffff, 0x0, 0x0, 0x0, 0x0, 99, false⟩,
  ⟨"DRC_SR", 0xc0020, 2, 1024, 0xffff00, 0x0, 0x0, 0x3, 0x0, 99, false⟩,
  ⟨"DRC_ZQ", 0xc002c, 2, 1024, 0xff, 0x0, 0x0, 0x0, 0x0, 99, false⟩,
  ⟨"DRC_POISON", 0xc0030, 2, 1024, 0x0, 0x0, 0x0, 0x0, 0x0, 99, false⟩,
  ⟨"DRC_SCRUB", 0xc0034, 2, 1024, 0xff01, 0x0, 0x0, 0x0, 0x0, 99, false⟩,
  ⟨"DRC_LOST", 0xc0800, 1, 4, 0x0, 0xffffffff, 0x0, 0x0, 0x0, 99, false⟩,
  ⟨"DRC_AGSTAT", 0xc0804, 1, 4, 0x0, 0x0, 0xff, 0x0, 0x0, 99, true⟩]

/-- All registers of block slot 0x0C. -/
def regsSlot0C : List RegDesc := regsSlot0C_0

/-- Registers of block slot 0x0D, part 0. -/
def regsSlot0D_0 : List RegDesc := [
  ⟨"SAU_SEM", 0xd0000, 512, 4, 0xfff, 0x0, 0x0, 0x0, 0x0, 99, false⟩,
  ⟨"SAU_REL", 0xd0800, 512, 4, 0x0, 0x0, 0x0, 0x3, 0x0, 99, false⟩,
  ⟨"SAU_TAG", 0xd1000, 512, 4, 0x0, 0x0, 0x0, 0x0, 0x0, 99, false⟩,
  ⟨"SAU_GRP", 0xd1800, 32, 4, 0x20ffff, 0x0, 0x0, 0x0, 0x0, 99, false⟩,
  ⟨"SAU_FORCE", 0xd1880, 1, 4, 0x0, 0x0, 0x0, 0x1ff, 0x0, 99, false⟩,
  ⟨"SAU_DEATH", 0xd1884, 1, 4, 0x0, 0x0, 0x0, 0x0, 0x0, 99, false⟩,
  ⟨"SAU_STUCK", 0xd1900, 16, 4, 0x0, 0x0, 0x0, 0x0, 0x0, 99, false⟩,
  ⟨"SAU_WTGT", 0xd2000, 64, 16, 0x3ffffd, 0x0, 0x0, 0x0, 0x0, 99, false⟩,
  ⟨"SAU_WCTL", 0xd2004, 64, 16, 0x800fffff, 0x0, 0x0, 0x0, 0x0, 99, false⟩,
  ⟨"SAU_WVAL", 0xd2008, 64, 16, 0xffffffff, 0x0, 0x0, 0x0, 0x0, 99, false⟩,
  ⟨"SAU_WSTAT", 0xd200c, 64, 16, 0x0, 0x0, 0x0, 0x0, 0x0, 99, false⟩,
  ⟨"SAU_WFIRED", 0xd2400, 2, 4, 0x0, 0xffffffff, 0x0, 0x0, 0x0, 99, false⟩]

/-- Registers of block slot 0x0D, part 1. -/
def regsSlot0D_1 : List RegDesc := [
  ⟨"SAU_ATGT", 0xd2800, 1, 4, 0x3, 0x0, 0x0, 0x0, 0x0, 99, true⟩,
  ⟨"SAU_AADDR", 0xd2804, 1, 4, 0xffffffff, 0x0, 0x0, 0x0, 0x0, 99, true⟩,
  ⟨"SAU_AOPD", 0xd2810, 4, 4, 0xffffffff, 0x0, 0x0, 0x0, 0x0, 99, true⟩,
  ⟨"SAU_ACMD", 0xd2820, 1, 4, 0x0, 0x0, 0x0, 0x37, 0x0, 99, true⟩,
  ⟨"SAU_ARES", 0xd2830, 4, 4, 0x0, 0x0, 0x0, 0x0, 0x0, 99, true⟩,
  ⟨"SAU_ASTAT", 0xd2840, 1, 4, 0x0, 0x0, 0x0, 0x0, 0x0, 99, true⟩]

/-- All registers of block slot 0x0D. -/
def regsSlot0D : List RegDesc := regsSlot0D_0 ++ regsSlot0D_1

/-- Registers of block slot 0x0E, part 0. -/
def regsSlot0E_0 : List RegDesc := [
  ⟨"TNT_MBASE_LO", 0xe0000, 1, 4, 0xffffffc0, 0x0, 0x0, 0x0, 0x0, 99, false⟩,
  ⟨"TNT_MBASE_HI", 0xe0004, 1, 4, 0xffffffff, 0x0, 0x0, 0x0, 0x0, 99, false⟩,
  ⟨"TNT_MCFG", 0xe0008, 1, 4, 0x1ff0f01, 0x0, 0x0, 0x0, 0x0, 99, false⟩,
  ⟨"TNT_MDB", 0xe000c, 1, 4, 0xff, 0x0, 0x0, 0x0, 0x0, 99, false⟩,
  ⟨"TNT_MHEAD", 0xe0010, 1, 4, 0x0, 0x0, 0x0, 0x0, 0x0, 99, false⟩,
  ⟨"TNT_MSTAT", 0xe0014, 1, 4, 0x0, 0x0, 0x0, 0x0, 0x0, 99, false⟩,
  ⟨"TNT_HERR0", 0xe0020, 1, 4, 0x0, 0x0, 0x0, 0x0, 0x0, 99, false⟩,
  ⟨"TNT_HERR1", 0xe0024, 1, 4, 0x0, 0x80000000, 0x0, 0x0, 0x0, 99, false⟩,
  ⟨"TNT_TXWAIT", 0xe0030, 1, 4, 0xffff, 0x0, 0x0, 0x0, 0x0, 99, false⟩,
  ⟨"TNT_B2WIN", 0xe0040, 16, 4, 0xffff0003, 0x0, 0x0, 0x0, 0x0, 99, false⟩,
  ⟨"TNT_TSTAT", 0xe0100, 32, 4, 0x0, 0x4, 0x0, 0x0, 0x0, 99, false⟩,
  ⟨"TNT_FARG", 0xe0200, 7, 4, 0xffffffff, 0x0, 0x0, 0x0, 0x0, 99, true⟩]

/-- Registers of block slot 0x0E, part 1. -/
def regsSlot0E_1 : List RegDesc := [
  ⟨"TNT_FCMD", 0xe021c, 1, 4, 0x0, 0x0, 0x0, 0xf, 0x0, 99, true⟩]

/-- All registers of block slot 0x0E. -/
def regsSlot0E : List RegDesc := regsSlot0E_0 ++ regsSlot0E_1

/-- Registers of block slot 0x0F, part 0. -/
def regsSlot0F_0 : List RegDesc := [
  ⟨"FUL_SCFG", 0xf0000, 64, 32, 0x7fff0f, 0x0, 0x0, 0x0, 0x0, 99, false⟩,
  ⟨"FUL_SOWN", 0xf0004, 64, 32, 0xffffffff, 0x0, 0x0, 0x0, 0x0, 99, false⟩,
  ⟨"FUL_SCHUNK", 0xf0008, 64, 32, 0x7ff, 0x0, 0x0, 0x0, 0x0, 99, false⟩,
  ⟨"FUL_SCTL", 0xf000c, 64, 32, 0x0, 0x0, 0x0, 0x7, 0x0, 99, false⟩,
  ⟨"FUL_SSTAT", 0xf0010, 64, 32, 0x0, 0x0, 0x0, 0x0, 0x0, 99, false⟩,
  ⟨"FUL_SSEQ", 0xf0014, 64, 32, 0x0, 0x0, 0x0, 0x0, 0x0, 99, false⟩,
  ⟨"FUL_RPOS", 0xf0800, 32, 4, 0x0, 0x0, 0x0, 0x0, 0x0, 99, false⟩,
  ⟨"FUL_RWRAP", 0xf0880, 32, 4, 0x0, 0x0, 0x0, 0x0, 0x0, 99, false⟩]

/-- All registers of block slot 0x0F. -/
def regsSlot0F : List RegDesc := regsSlot0F_0

/-- Registers of block slot 0x10, part 0. -/
def regsSlot10_0 : List RegDesc := [
  ⟨"STB_CFG", 0x100000, 16, 64, 0xffffff0f, 0x0, 0x0, 0x0, 0x0, 99, false⟩,
  ⟨"STB_WIDTH", 0x100004, 16, 64, 0xffff, 0x0, 0x0, 0x0, 0x0, 99, false⟩,
  ⟨"STB_TLO", 0x100008, 16, 64, 0xffffffff, 0x0, 0x0, 0x0, 0x0, 99, false⟩,
  ⟨"STB_THI", 0x10000c, 16, 64, 0xffffffff, 0x0, 0x0, 0x0, 0x0, 99, false⟩,
  ⟨"STB_CTL", 0x100010, 16, 64, 0x0, 0x0, 0x0, 0x1, 0x0, 99, false⟩,
  ⟨"STB_STAT", 0x100014, 16, 64, 0x0, 0x0, 0x0, 0x0, 0x0, 99, false⟩,
  ⟨"STB_PENDLO", 0x100018, 16, 64, 0x0, 0x0, 0x0, 0x0, 0x0, 99, false⟩,
  ⟨"STB_PENDHI", 0x10001c, 16, 64, 0x0, 0x0, 0x0, 0x0, 0x0, 99, false⟩,
  ⟨"STB_LASTLO", 0x100020, 16, 64, 0x0, 0x0, 0x0, 0x0, 0x0, 99, false⟩,
  ⟨"STB_LASTHI", 0x100024, 16, 64, 0x0, 0x0, 0x0, 0x0, 0x0, 99, false⟩,
  ⟨"STB_TAU", 0x100028, 16, 64, 0x0, 0x0, 0x0, 0x0, 0x0, 99, false⟩,
  ⟨"STB_RESPOS", 0x10002c, 16, 64, 0x0, 0x0, 0x0, 0x0, 0x0, 99, false⟩]

/-- Registers of block slot 0x10, part 1. -/
def regsSlot10_1 : List RegDesc := [
  ⟨"STB_RESTIME", 0x100030, 16, 64, 0x0, 0x0, 0x0, 0x0, 0x0, 99, false⟩,
  ⟨"STB_RESLIM", 0x100034, 16, 64, 0x7fffffff, 0x0, 0x0, 0x0, 0x0, 99, false⟩,
  ⟨"STB_CCFG", 0x100400, 16, 32, 0xffff00f7, 0x0, 0x0, 0x0, 0x0, 99, false⟩,
  ⟨"STB_CCORR", 0x100404, 16, 32, 0xffff, 0x0, 0x0, 0x0, 0x0, 99, false⟩,
  ⟨"STB_CPOP_0", 0x100408, 16, 32, 0x0, 0x0, 0x0, 0x0, 0x0, 99, true⟩,
  ⟨"STB_CPOP_1", 0x10040c, 16, 32, 0x0, 0x0, 0x0, 0x0, 0x0, 99, true⟩,
  ⟨"STB_CPOP_2", 0x100410, 16, 32, 0x0, 0x0, 0x0, 0x0, 0x0, 99, true⟩,
  ⟨"STB_CSTAT", 0x100414, 16, 32, 0x0, 0x0, 0x0, 0x0, 0x0, 99, false⟩]

/-- All registers of block slot 0x10. -/
def regsSlot10 : List RegDesc := regsSlot10_0 ++ regsSlot10_1

/-- Registers of block slot 0x11, part 0. -/
def regsSlot11_0 : List RegDesc := [
  ⟨"SHF_CHCTL", 0x110000, 24, 64, 0xffff0005, 0x0, 0x0, 0x2, 0x0, 99, false⟩,
  ⟨"SHF_AUTOLEN", 0x110004, 24, 64, 0xffff, 0x0, 0x0, 0x0, 0x0, 99, false⟩,
  ⟨"SHF_START", 0x110008, 24, 64, 0x0, 0x0, 0x0, 0xffffffff, 0x0, 99, false⟩,
  ⟨"SHF_TX", 0x11000c, 24, 64, 0x0, 0x0, 0x0, 0xffffffff, 0x0, 99, false⟩,
  ⟨"SHF_RX", 0x110010, 24, 64, 0x0, 0x0, 0x0, 0x0, 0x0, 99, false⟩,
  ⟨"SHF_STAT", 0x110014, 24, 64, 0x0, 0x0, 0x0, 0x0, 0x0, 99, false⟩,
  ⟨"SHF_PC", 0x110018, 24, 64, 0x0, 0x0, 0x0, 0x0, 0x0, 99, false⟩,
  ⟨"SHF_STALL", 0x11001c, 24, 64, 0xffff, 0x0, 0x0, 0x0, 0x0, 99, false⟩,
  ⟨"SHF_ENTRY", 0x110020, 24, 64, 0x7ff, 0x0, 0x0, 0x0, 0x7ff, 16, false⟩,
  ⟨"SHF_SDLY", 0x110024, 24, 64, 0xff, 0x0, 0x0, 0x0, 0x0, 99, false⟩,
  ⟨"SHF_UADDR", 0x110800, 1, 4, 0x107ff, 0x0, 0x0, 0x0, 0x0, 99, false⟩,
  ⟨"SHF_UDATA_LO", 0x110804, 1, 4, 0xffffffff, 0x0, 0x0, 0x0, 0x0, 99, false⟩]

/-- Registers of block slot 0x11, part 1. -/
def regsSlot11_1 : List RegDesc := [
  ⟨"SHF_UDATA_HI", 0x110808, 1, 4, 0xffffffff, 0x0, 0x0, 0x0, 0x0, 99, false⟩,
  ⟨"SHF_BANKCTL", 0x11080c, 1, 4, 0x0, 0x0, 0x0, 0xfff0001, 0x0, 99, false⟩,
  ⟨"SHF_BANKCRC", 0x110810, 1, 4, 0xffffffff, 0x0, 0x0, 0x0, 0x0, 99, false⟩,
  ⟨"SHF_BANKSTAT", 0x110814, 1, 4, 0x0, 0x8, 0x0, 0x0, 0x0, 99, false⟩,
  ⟨"SHF_DRAIN", 0x110818, 1, 4, 0x0, 0x0, 0x0, 0x0, 0x0, 99, false⟩,
  ⟨"SHF_WSTAT", 0x11081c, 1, 4, 0x0, 0x0, 0x0, 0x0, 0x0, 99, false⟩]

/-- All registers of block slot 0x11. -/
def regsSlot11 : List RegDesc := regsSlot11_0 ++ regsSlot11_1

/-- Registers of block slot 0x12, part 0. -/
def regsSlot12_0 : List RegDesc := [
  ⟨"EVR_ROUTE", 0x120000, 768, 4, 0xffff07ff, 0x0, 0x0, 0x0, 0x0, 99, false⟩,
  ⟨"EVR_PEND", 0x120c00, 24, 4, 0x0, 0xffffffff, 0x0, 0x0, 0x0, 99, false⟩,
  ⟨"EVR_PINCFG", 0x120d00, 4, 4, 0xfffff03, 0x0, 0x0, 0x0, 0x0, 99, false⟩,
  ⟨"EVR_SECNOTE", 0x120d20, 1, 4, 0x0, 0x0, 0xffffffff, 0x0, 0x0, 99, false⟩,
  ⟨"EVR_COUNT", 0x121000, 768, 4, 0x0, 0x0, 0xffff, 0x0, 0x0, 99, false⟩]

/-- All registers of block slot 0x12. -/
def regsSlot12 : List RegDesc := regsSlot12_0

/-- Registers of block slot 0x13, part 0. -/
def regsSlot13_0 : List RegDesc := [
  ⟨"SEC_NSTAT", 0x130000, 1, 4, 0x0, 0x0, 0x0, 0x0, 0x0, 99, false⟩,
  ⟨"SEC_NHOLDPD", 0x130004, 3, 4, 0x0, 0x0, 0x0, 0x0, 0x0, 99, false⟩,
  ⟨"SEC_NHOLDCK", 0x130010, 1, 4, 0x0, 0x0, 0x0, 0x0, 0x0, 99, false⟩,
  ⟨"SEC_MREQ", 0x130020, 8, 4, 0xffffffff, 0x0, 0x0, 0x0, 0x0, 99, false⟩,
  ⟨"SEC_MCMD", 0x130040, 1, 4, 0x0, 0x0, 0x0, 0xffff00ff, 0x0, 99, false⟩,
  ⟨"SEC_MSTAT", 0x130044, 1, 4, 0x0, 0x0, 0x0, 0x0, 0x0, 99, false⟩,
  ⟨"SEC_MRSP", 0x130060, 8, 4, 0x0, 0x0, 0x0, 0x0, 0x0, 99, false⟩]

/-- All registers of block slot 0x13. -/
def regsSlot13 : List RegDesc := regsSlot13_0

/-- Registers of block slot 0x14, part 0. -/
def regsSlot14_0 : List RegDesc := [
  ⟨"LCS_STATE", 0x140000, 1, 4, 0x0, 0x0, 0x0, 0x0, 0x0, 99, false⟩,
  ⟨"LCS_UID_LO", 0x140004, 1, 4, 0x0, 0x0, 0x0, 0x0, 0x0, 99, false⟩,
  ⟨"LCS_UID_HI", 0x140008, 1, 4, 0x0, 0x0, 0x0, 0x0, 0x0, 99, false⟩,
  ⟨"LCS_DEBUG", 0x14000c, 1, 4, 0x0, 0x0, 0x0, 0x0, 0x0, 99, false⟩,
  ⟨"LCS_ARB", 0x140010, 1, 4, 0x0, 0x0, 0x0, 0x0, 0x0, 99, false⟩]

/-- All registers of block slot 0x14. -/
def regsSlot14 : List RegDesc := regsSlot14_0

/-- Registers of block slot 0x15, part 0. -/
def regsSlot15_0 : List RegDesc := [
  ⟨"UPD_STAT", 0x150000, 1, 4, 0x0, 0x0, 0x0, 0x0, 0x0, 99, false⟩,
  ⟨"UPD_RXOFF", 0x150004, 1, 4, 0x0, 0x0, 0x0, 0x0, 0x0, 99, false⟩,
  ⟨"UPD_RXLEN", 0x150008, 1, 4, 0x0, 0x0, 0x0, 0x0, 0x0, 99, false⟩,
  ⟨"UPD_SECVER", 0x15000c, 1, 4, 0x0, 0x0, 0x0, 0x0, 0x0, 99, false⟩,
  ⟨"UPD_SEQ", 0x150010, 1, 4, 0x0, 0x0, 0x0, 0x0, 0x0, 99, false⟩,
  ⟨"UPD_CHECK", 0x150014, 1, 4, 0x0, 0x0, 0x0, 0x0, 0x0, 99, false⟩]

/-- All registers of block slot 0x15. -/
def regsSlot15 : List RegDesc := regsSlot15_0

/-- Registers of block slot 0x16, part 0. -/
def regsSlot16_0 : List RegDesc := [
  ⟨"BOOT_STAT", 0x160000, 1, 4, 0x0, 0x0, 0x0, 0x0, 0x0, 99, false⟩,
  ⟨"BOOT_CAUSE", 0x160004, 1, 4, 0x0, 0x0, 0x0, 0x0, 0x0, 99, false⟩,
  ⟨"BOOT_FALLBACK", 0x160008, 1, 4, 0x0, 0x0, 0x0, 0x0, 0x0, 99, false⟩,
  ⟨"BOOT_QUAR", 0x16000c, 2, 4, 0x0, 0x0, 0x0, 0x0, 0x0, 99, false⟩,
  ⟨"BOOT_CTRL", 0x160014, 1, 4, 0x0, 0x0, 0x0, 0xffff0003, 0x0, 99, false⟩,
  ⟨"BOOT_ELAPSED", 0x160018, 1, 4, 0x0, 0x0, 0x0, 0x0, 0x0, 99, false⟩,
  ⟨"BOOT_LOG", 0x160400, 256, 4, 0x0, 0x0, 0x0, 0x0, 0x0, 99, false⟩]

/-- All registers of block slot 0x16. -/
def regsSlot16 : List RegDesc := regsSlot16_0

/-- Registers of the security island, part 0. -/
def regsIsland_0 : List RegDesc := [
  ⟨"SEC_KOP", 0x80000000, 1, 4, 0x0, 0x0, 0x0, 0xffff, 0x0, 99, false⟩,
  ⟨"SEC_KSTAT", 0x80000004, 1, 4, 0x0, 0x0, 0x0, 0x0, 0x0, 99, false⟩,
  ⟨"SEC_KCYCLE", 0x80000008, 1, 4, 0x0, 0x0, 0x0, 0x0, 0x0, 99, false⟩,
  ⟨"SEC_KSCHED", 0x8000000c, 1, 4, 0x807fffff, 0x0, 0x0, 0x0, 0x807fffff, 22, false⟩,
  ⟨"SEC_KWTAG", 0x80000010, 1, 4, 0xff, 0x0, 0x0, 0x0, 0x0, 99, false⟩,
  ⟨"SEC_MTAG", 0x80000014, 1, 4, 0xff, 0x0, 0x0, 0x0, 0x0, 99, false⟩,
  ⟨"SEC_HOLDPD", 0x80000020, 3, 4, 0xffffffff, 0x0, 0x0, 0x0, 0x0, 99, false⟩,
  ⟨"SEC_HOLDCK", 0x8000002c, 1, 4, 0x3fff, 0x0, 0x0, 0x0, 0x0, 99, false⟩,
  ⟨"SEC_ROOTCTL", 0x80000040, 1, 4, 0x0, 0x0, 0x0, 0xfff3, 0x0, 99, false⟩,
  ⟨"SEC_TAMPCFG", 0x80000050, 1, 4, 0x8fffffff, 0x0, 0x0, 0x0, 0x0, 99, false⟩,
  ⟨"SEC_TAMPREC", 0x80000054, 1, 4, 0x0, 0xff, 0x0, 0x0, 0x0, 99, false⟩,
  ⟨"SEC_TAMPTIME", 0x80000058, 1, 4, 0x0, 0x0, 0x0, 0x0, 0x0, 99, false⟩]

/-- Registers of the security island, part 1. -/
def regsIsland_1 : List RegDesc := [
  ⟨"SEC_RNGSTAT", 0x80000060, 1, 4, 0x0, 0x0, 0x0, 0x0, 0x0, 99, false⟩,
  ⟨"SEC_WDCFG", 0x80000070, 1, 4, 0x3fff, 0x0, 0x0, 0x0, 0x0, 99, false⟩,
  ⟨"SEC_WDKICK", 0x80000074, 1, 4, 0x0, 0x0, 0x0, 0xffff0000, 0x0, 99, false⟩,
  ⟨"SEC_WRESET", 0x80000078, 1, 4, 0x0, 0x0, 0x0, 0xffff0000, 0x0, 99, false⟩,
  ⟨"SEC_MIN", 0x80000090, 8, 4, 0x0, 0x0, 0x0, 0x0, 0x0, 99, false⟩,
  ⟨"SEC_MOUT", 0x800000b0, 8, 4, 0xffffffff, 0x0, 0x0, 0x0, 0x0, 99, false⟩,
  ⟨"SEC_MDONE", 0x800000d0, 1, 4, 0x0, 0x0, 0x0, 0xff, 0x0, 99, false⟩,
  ⟨"SEC_WDWIN", 0x800000e0, 1, 4, 0x7, 0x0, 0x0, 0x0, 0x0, 99, false⟩]

/-- All registers of the security island. -/
def regsIsland : List RegDesc := regsIsland_0 ++ regsIsland_1

/-- The descriptors of the block that holds address `a`. -/
def regsOf (a : Nat) : List RegDesc :=
  if 0x80000000 ≤ a then regsIsland else
  match a / 0x10000 with
  | 0x00 => regsSlot00
  | 0x01 => regsSlot01
  | 0x02 => regsSlot02
  | 0x03 => regsSlot03
  | 0x04 => regsSlot04
  | 0x06 => regsSlot06
  | 0x07 => regsSlot07
  | 0x08 => regsSlot08
  | 0x09 => regsSlot09
  | 0x0a => regsSlot0A
  | 0x0b => regsSlot0B
  | 0x0c => regsSlot0C
  | 0x0d => regsSlot0D
  | 0x0e => regsSlot0E
  | 0x0f => regsSlot0F
  | 0x10 => regsSlot10
  | 0x11 => regsSlot11
  | 0x12 => regsSlot12
  | 0x13 => regsSlot13
  | 0x14 => regsSlot14
  | 0x15 => regsSlot15
  | 0x16 => regsSlot16
  | _ => []

/-- `d` describes the register at address `a`. -/
def RegDesc.has (d : RegDesc) (a : Nat) : Bool :=
  decide (d.base ≤ a) && decide ((a - d.base) % d.stride = 0) && decide ((a - d.base) / d.stride < d.count)

/-- The descriptor of the register at address `a`, if one is assigned there. -/
def regAt (a : Nat) : Option RegDesc := (regsOf a).find? (fun d => d.has a)

end Sys2Proof.Machine
end

