-- ==== Sys2Proof/Machine/Stb.lean ====
section
/-! DEFINITION. Strobe outputs, the predictor and capture inputs (sections 17.4 to 17.6). -/

namespace Sys2Proof.Machine

/-- Strobe `n`. -/
def State.strobe (s : State) (n : Nat) : Strobe := SMap.get (fun _ => Strobe.init) s.stb.strobes n

/-- The state with strobe `n` replaced. -/
def State.setStrobe (s : State) (n : Nat) (x : Strobe) : State :=
  { s with stb := { s.stb with strobes := SMap.set (fun _ => Strobe.init) s.stb.strobes n x } }

/-- Capture input `n`. -/
def State.capture (s : State) (n : Nat) : Capture := SMap.get (fun _ => Capture.init) s.stb.captures n

/-- The state with capture input `n` replaced. -/
def State.setCapture (s : State) (n : Nat) (x : Capture) : State :=
  { s with stb := { s.stb with captures := SMap.set (fun _ => Capture.init) s.stb.captures n x } }

/-- Pin STBn (section 17.4). -/
def State.strobePin (s : State) (n : Nat) : Bool := xor (s.strobe n).busy.isSome (bit (s.reg (A.stbCfg n)) 2)

/-- STB_CFGn.DELAY in ns, signed. -/
def State.strobeDelay (s : State) (n : Nat) : Int := sextNat 8 (s.fld (A.stbCfg n) 15 8)

/-- STB_STATn.LAST. -/
def State.strobeLast (s : State) (n : Nat) (st : Status) : State := s.setFld (A.stbStat n) 15 8 st.code

/-- The checks of an arm at `f`, in order (R507). -/
def State.armStatus (s : State) (n : Nat) (f : W64) (predicted : Bool) : Status :=
  let x := s.strobe n
  let allowed := bit (s.reg (A.stbCfg n)) (b2n predicted)
  let soon := match x.pend with
    | some p => decide (p.due.toNat < s.time + 20)
    | none => false
  let early := (match x.busy with
    | some e => decide (f.toNat < e.toNat + 4)
    | none => false) || (match x.pend with
    | some p => decide (f.toNat < p.due.toNat + p.width + 4)
    | none => false)
  if !allowed then .refusedRights
  else if f.toNat < s.time + 20 then .timeout
  else if soon || early then .refusedNotReady
  else .ok

/-- An arm of strobe `n` (R507). -/
def State.armStrobe (s : State) (n : Nat) (f : W64) (width : Nat) (predicted : Bool) : Status × State :=
  let st := s.armStatus n f predicted
  let s1 := s.strobeLast n st
  if st = .ok then
    (st, s1.setStrobe n { s1.strobe n with pend := some { due := f, width := width, predicted := predicted } })
  else
    let s2 := s1.count 0x100808
    (st, if !predicted || decide (st = .timeout) then s2.raiseFirst 682 else s2)

/-- TIME_ARM: a write of STB_THIn with value `hi` (R507). -/
def execTimeArm (ag : Agent) (n : Fin 16) (hi : W32) (s : State) : Host.Outcome State Fault Refusal :=
  if !s.mayReach ag 0x10 then .next (s.refuse ag (A.stbThi n) .refusedRights)
  else
    let f := cat64 hi (s.reg (A.stbTlo n)) + BitVec.ofInt 64 (s.strobeDelay n)
    let r := (s.setReg (A.stbThi n) hi).armStrobe n f (s.fld (A.stbWidth n) 15 0) false
    .next (r.2.status r.1)

/-- STROBE_DISARM: the pending fire is removed unless it lies less than 20 ns ahead (R508). -/
def execStrobeDisarm (ag : Agent) (n : Fin 16) (s : State) : Host.Outcome State Fault Refusal :=
  if !s.mayReach ag 0x10 then .next (s.refuse ag (A.stbCtl n) .refusedRights)
  else
    let x := s.strobe n
    let soon := match x.pend with
      | some p => decide (p.due.toNat < s.time + 20)
      | none => false
    if soon then .next ((s.strobeLast n .refusedNotReady).status .refusedNotReady)
    else .next (((s.setStrobe n { x with pend := none }).strobeLast n .ok).status .ok)

/-- STROBE_FIRE: TB time reaches F (R509, R511). -/
def execStrobeFire (n : Fin 16) (s : State) : Host.Outcome State Fault Refusal :=
  let x := s.strobe n
  match x.pend with
  | none => .next s
  | some p =>
    let s1 := s.advance p.due.toNat
    let busy := if p.width = 0 then x.busy else some (p.due + BitVec.ofNat 64 p.width)
    let s2 := s1.setStrobe n { x with pend := none, busy := busy }
    let s3 := (((s2.setReg (A.stbLastlo n) (lo32 p.due)).setReg (A.stbLasthi n) (hi32 p.due)).count 0x100800).raise (648 + n)
    let c := s3.reg (A.stbCfg n)
    .next (if bit c 3 then (s3.post (bits c 31 16) (lo32 p.due) .ok).2 else s3)

/-- STROBE_PULSE_END: WIDTH ns after the fire the pin returns to idle (section 17.4). -/
def execStrobePulseEnd (n : Fin 16) (s : State) : Host.Outcome State Fault Refusal :=
  match (s.strobe n).busy with
  | none => .next s
  | some e =>
    let s1 := s.advance e.toNat
    .next (s1.setStrobe n { s1.strobe n with busy := none })

/-! ### The predictor (section 17.5) -/

/-- A little-endian field of a request. -/
def reqField (req : List Byte) (o n : Nat) : Nat := leNat ((req.drop o).take n)

/-- A signed little-endian field of a request. -/
def reqInt (req : List Byte) (o n : Nat) : Int := sextNat (8 * n) (reqField req o n)

/-- The model position in units of 2^-49 counts (R512). -/
def modelPos (p0 v a tau : Int) : Int := p0 * 2 ^ 49 + v * tau * 2 ^ 25 + a * tau * tau

/-- The first of `n` instants from `tau` on that meets the target (R512). -/
def crossFrom (p0 v a target : Int) : Nat → Nat → Option Nat
  | 0, _ => none
  | n + 1, tau =>
    let y := modelPos p0 v a tau
    let e := target * 2 ^ 49
    if (p0 < target ∧ e ≤ y) ∨ (target < p0 ∧ y ≤ e) ∨ target = p0 then some tau
    else crossFrom p0 v a target n (tau + 1)

/-- The start of the cycle a request names: the current or the previous one (R513). -/
def State.cycleStart (s : State) (c : W32) : Option Int :=
  if c = s.cycle then some (s.tb.cycStart.toNat : Nat)
  else if c = s.cycle - 1#32 then some (s.tb.prevStart.toNat : Nat)
  else none

/-- The crossing of a PREDICT and its start instant T0, or its refusal (R513). -/
def State.predictTau (s : State) (req : List Byte) : Except Status (Nat × Int) :=
  let kind := reqField req 0 1
  let horizon := reqField req 0x1E 2
  match s.cycleStart (w32 (reqField req 4 4)) with
  | none => .error .refusedRange
  | some start =>
    if (kind ≠ 1 ∧ kind ≠ 2) ∨ 15 < reqField req 1 1 ∨ 4000 < horizon then .error .refusedRange
    else if horizon = 0 then .error .zeroLength
    else
      match crossFrom (reqInt req 0x0C 4) (reqInt req 0x10 4) (reqInt req 0x14 4) (reqInt req 0x18 4) (horizon * 1000 + 1) 0 with
      | none => .error .refusedRange
      | some tau => .ok (tau, start + reqInt req 8 4)

/-- The result token of a request; its entry was reserved at acceptance (R231). -/
def State.sprdToken (s : State) (tag : Nat) (v : W32) (st : Status) : State :=
  let s1 := s.count 0x100810
  if isPostable tag then s1.postReserved tag v st else s1

/-- A refused PREDICT; the value of its token is a free value (R513; assumption 6). -/
def State.predictRefused (s : State) (tag : Nat) (st : Status) : State :=
  let f := s.fresh
  ((f.2.count 0x100818).raiseFirst 681).sprdToken tag f.1 st

/-- PREDICT: the `k`-th accepted request, which is no RESIDUAL, computes its crossing and submits a predicted arm
(R512 to R514). -/
def execPredict (k : Nat) (s : State) : Host.Outcome State Fault Refusal :=
  match s.uni.preds[k]? with
  | none => .next s
  | some p =>
    if reqField p.req 0 1 = 2 then .next s
    else
      let s1 := { s with uni := { s.uni with preds := s.uni.preds.eraseIdx k } }
      match s1.predictTau p.req with
      | .error st => .next (s1.predictRefused p.tag st)
      | .ok (tau, t0) =>
        let n := reqField p.req 1 1
        let f := BitVec.ofInt 64 (t0 + tau + reqInt p.req 0x1C 2 + s1.strobeDelay n)
        let r := s1.armStrobe n f (reqField p.req 2 2) true
        if r.1 = .ok then
          let m : Model := { p0 := w32 (reqField p.req 0x0C 4), v := w32 (reqField p.req 0x10 4),
                             a := w32 (reqField p.req 0x14 4), t0 := t0 }
          let s2 := (r.2.setStrobe n { r.2.strobe n with model := some m }).setReg (A.stbTau n) (w32 tau)
          .next (s2.sprdToken p.tag (lo32 f) .ok)
        else .next (r.2.predictRefused p.tag r.1)

/-- A quotient rounded to nearest, ties away from zero (R515). -/
def divRound (a b : Int) : Int :=
  let q := (2 * a.natAbs + b.natAbs) / (2 * b.natAbs)
  if (a < 0) = (b < 0) then (q : Int) else -(q : Int)

/-- RESIDUAL: the `k`-th accepted request, of KIND 2, compares a sample with the strobe's model (R515). -/
def execResidual (k : Nat) (s : State) : Host.Outcome State Fault Refusal :=
  match s.uni.preds[k]? with
  | none => .next s
  | some p =>
    if reqField p.req 0 1 ≠ 2 then .next s
    else
      let s1 := { s with uni := { s.uni with preds := s.uni.preds.eraseIdx k } }
      let refuse := fun (u : State) (st : Status) => (u.fresh).2.sprdToken p.tag (u.fresh).1 st
      let n := reqField p.req 1 1
      if 15 < n then .next (refuse s1 .refusedRange)
      else
        match (s1.strobe n).model with
        | none => .next (refuse s1 .refusedNotReady)
        | some m =>
          match s1.cycleStart (w32 (reqField p.req 4 4)) with
          | none => .next (refuse s1 .refusedRange)
          | some start =>
            let tau := start + reqInt p.req 8 4 - m.t0
            if tau < 0 ∨ 4000000 < tau then .next (refuse s1 .refusedRange)
            else
              let y := modelPos m.p0.toInt m.v.toInt m.a.toInt tau
              let p1 := reqInt p.req 0x0C 4 * 2 ^ 49
              let s2 := s1.setReg (A.stbRespos n) (clip32 (divRound (p1 - y) (2 ^ 49))).1
              let vel := m.v.toInt * 2 ^ 25 + 2 * m.a.toInt * tau
              if vel = 0 then .next (refuse s2 .refusedRange)
              else
                let dt := max (-0x7FFFFFFF) (min 0x7FFFFFFF (divRound (y - p1) vel))
                let s3 := s2.setReg (A.stbRestime n) (wInt dt)
                let s4 := if s3.fld (A.stbReslim n) 30 0 < dt.natAbs then s3.raise 683 else s3
                .next (s4.sprdToken p.tag (wInt dt) .ok)

/-! ### Captures (section 17.6) -/

/-- CAPTURE_EDGE: the input has held a new level for FILT ns, and the edge is accepted now; its stamp is the time of the
first sample at that level, corrected (R517, R518, R520). -/
def execCaptureEdge (n : Fin 16) (rise : Bool) (s : State) : Host.Outcome State Fault Refusal :=
  let c := s.reg (A.stbCcfg n)
  let x := s.capture n
  let s0 := s.setCapture n { x with level := rise }
  if x.level = rise || !bit c (if rise then 0 else 1) then .next s0
  else
    let stamp := s.tb.now - BitVec.ofNat 64 (bits c 7 4) + BitVec.ofInt 64 (sextNat 16 (s.fld (A.stbCcorr n) 15 0))
    let q := (x.seq + 1) % 0x10000
    let y : Capture := { x with level := rise, seq := q }
    if 8 ≤ x.fifo.length then .next (((s.setCapture n y).count 0x100828).raiseFirst 680)
    else
      let r := [lo32 stamp, hi32 stamp, w32 (b2n rise + q * 0x10000)]
      let s1 := ((s.setCapture n { y with fifo := x.fifo ++ [r] }).count 0x100820).raise (664 + n)
      .next (if bit c 2 then (s1.post (bits c 31 16) (lo32 stamp) .ok).2 else s1)

/-- CAPTURE_POP: a read of STB_CPOPn_0 (R519). -/
def execCapturePop (ag : Agent) (n : Fin 16) (s : State) : Host.Outcome State Fault Refusal :=
  if !s.mayReach ag 0x10 then .next (s.refuse ag (A.stbCpop0 n) .refusedRights)
  else
    let x := s.capture n
    let r := x.fifo.headD [0#32, 0#32, 0#32]
    let s1 := s.setCapture n { x with fifo := x.fifo.drop 1 }
    let s2 := (s1.setReg (agKey ag (A.stbCpop1 n)) (nth r 1 0#32)).setReg (agKey ag (A.stbCpop2 n)) (nth r 2 0#32)
    .next (s2.answer .ok ((nth r 0 0#32).setWidth 64))

/-- CAPTURE_EDGE_CONFIG: a write of STB_CCFGn empties the FIFO and restarts SEQ (section 17.6, Edges). -/
def execCaptureEdgeConfig (ag : Agent) (n : Fin 16) (v : W32) (s : State) : Host.Outcome State Fault Refusal :=
  if !s.mayReach ag 0x10 then .next (s.refuse ag (A.stbCcfg n) .refusedRights)
  else .next (((s.setReg (A.stbCcfg n) (v &&& 0xFFFF00F7#32)).setCapture n
    { s.capture n with seq := 0, fifo := [] }).status .ok)

end Sys2Proof.Machine
end

