-- ==== Sys2Proof/Machine/Shp.lean ====
section
/-! DEFINITION. Live reshape (section 2.4): a delta's check and preparation, turn A, the drain, and turn B. -/

namespace Sys2Proof.Machine

/-! ### Commands of the manager (R57) -/

/-- STATE of SHP_STAT: 0 IDLE, 1 CHECKING, 2 PREPARING, 3 ARMED, 4 DRAINING. -/
def State.shpState (s : State) : Nat := s.fld A.shpStat 2 0

/-- The state with SHP_STAT.STATE set. -/
def State.setShp (s : State) (v : Nat) : State := s.setFld A.shpStat 2 0 v

/-- Bytes [21:4] of SHP_DELTA_ADDR as an offset. -/
def State.deltaAddr (s : State) : Nat := s.fld A.shpDeltaAddr 21 4 * 16

/-- The staging region that wholly holds the delta. -/
def State.stagingFor (s : State) : Option SRegion :=
  (s.sregion s.deltaAddr (s.fld A.shpDeltaLen 20 0)).filter (fun r => decide (r.kind = 3))

/-- What refuses an APPLY (section 2.4, Edges). A limp start and a life-cycle state without image slots take no delta (R41,
R56). -/
def State.applyStatus (s : State) (ag : Agent) : Status :=
  if !isBoss ag then .refusedRights
  else if s.shpState ≠ 0 ∨ !s.shp.full ∨ imageSlots (lcsCode s.lcs.otp.groups) = [] then .refusedNotReady
  else if s.stagingFor.isNone then .refusedRange
  else .ok

/-- A delta of which only its place is known. -/
def Delta.at' (addr len : Nat) : Delta :=
  { addr := addr, len := len, fabric := none, programs := none, owners := none, events := none, power := none, secver := 0#32,
    build := 0#32, digest := 0#256 }

/-- APPLY of SHP_CTRL: checking starts, and the staging region takes no write until STATE leaves PREPARING (R57, R58). -/
def State.shpApply (s : State) (ag : Agent) : State :=
  let st := s.applyStatus ag
  if st = .refusedRights then s.refuse ag A.shpCtrl st
  else
    match st, s.stagingFor with
    | .ok, some r =>
      let d := Delta.at' s.deltaAddr (s.fld A.shpDeltaLen 20 0)
      let s1 : State := { s with shp := { s.shp with delta := some d, lockBase := r.base, lockLen := r.length } }
      (s1.setShp 1).status .ok
    | st, _ => s.status st

/-- SHP_APPLY (R57, R58). -/
def execShpApply (ag : Agent) (s : State) : Host.Outcome State Fault Refusal := .next (s.shpApply ag)

/-- The staging region takes writes again (R58). -/
def State.shpUnlock (s : State) : State := { s with shp := { s.shp with lockBase := 0, lockLen := 0 } }

/-- The cores that join by the delta; a core that is being returned joins by group 18 (R272). -/
def State.joiners (s : State) : List Nat := (rangeFrom 64 0).filter (fun c => (s.core c).joins.isSome && !s.returning c)

/-- The delta ends before turn A: joining cores are spare again with the domain state of a spare core, and nothing else
changes. -/
def State.dropDelta (s : State) : State :=
  let s1 := s.joiners.foldl (fun (t : State) c =>
    (t.setCore c Core.init).hwSwitch c (nth t.shp.power.domains c 0)) s
  let held := s1.tb.held.filter (fun h => decide (h ≠ .hwArm 17))
  let s2 : State := { s1 with shp := { s1.shp with delta := none }, tb := { s1.tb with held := held } }
  ((s2.setReg A.tbArmed (setBit (s2.reg A.tbArmed) 17 false)).setShp 0).shpUnlock

/-- ABANDON of SHP_CTRL (section 2.4, Edges). -/
def State.shpAbandon (s : State) (ag : Agent) : State :=
  if !isBoss ag then s.refuse ag A.shpCtrl .refusedRights
  else if s.shpState = 4 then s.status .refusedNotReady
  else if s.shpState = 0 then s.status .ok
  else s.dropDelta.status .ok

/-- SHP_ABANDON. -/
def execShpAbandon (ag : Agent) (s : State) : Host.Outcome State Fault Refusal := .next (s.shpAbandon ag)

/-! ### The check (Table 2-12) -/

/-- The status that a check code gives a delta (Table 2-12). -/
def codeStatus (code : Nat) : Status :=
  if (6 ≤ code ∧ code ≤ 8) ∨ code = 0x14 then .refusedRights
  else if code = 0x0B ∨ code = 0x15 then .refusedCapacity
  else if code = 0x13 then .refusedNotReady
  else .refusedRange

/-- Section `id` parsed where the delta carries it. -/
def carried {α : Type} (r : Rd) (id : Nat) (f : Nat → α) : Option α := (sect r id).map (fun e => f e.off)

/-- What a delta image gives (R39). -/
def parseDelta (r : Rd) (addr len : Nat) : Delta :=
  { addr := addr, len := len, fabric := carried r 1 (parseFabric r), programs := carried r 5 (parsePrograms r),
    owners := carried r 2 (fun o => (parseMemory r o).owners), events := carried r 7 (parseEvents r),
    power := carried r 8 (parsePower r), secver := w32 (rdLE r 0x10 4), build := w32 (rdLE r 0x14 4), digest := imgDigest r }

/-- The fabric and the programs after a delta. -/
def Shp.fabricAfter (x : Shp) (d : Delta) : Fabric := { d.fabric.getD x.fabric with period := x.fabric.period }
/-- The programs after a delta. -/
def Shp.programsAfter (x : Shp) (d : Delta) : List ProgCfg := d.programs.getD x.programs

/-- Two programs have the same copy: CRC and lengths agree (section 2.4). -/
def ProgCfg.sameCopy (p q : ProgCfg) : Bool :=
  decide (p.crc = q.crc ∧ p.iimage.length = q.iimage.length ∧ p.dimage.length = q.dimage.length)

/-- The program with an index in a list. -/
def progIn (ps : List ProgCfg) (i : Nat) : Option ProgCfg := ps.find? (fun p => decide (p.index = i))

/-- A core stays in its pound: the pound has it before and after, with the same program (section 2.4). -/
def stays (old new : List ProgCfg) (p q : PoundCfg) : Bool :=
  decide (p.pound = q.pound) && decide (p.program = q.program) &&
    (match progIn old p.program, progIn new q.program with
     | some a, some b => a.sameCopy b && decide (a.iimage = b.iimage ∧ a.dimage = b.dimage ∧ a.entry = b.entry)
     | _, _ => false)

/-- The pound entry of a fabric that holds core `c`. -/
def Fabric.of (f : Fabric) (c : Nat) : Option PoundCfg := f.pounds.find? (fun p => p.cores.getLsbD c)

/-- The entry that core `c` joins by the delta: the new fabric has it, and it does not stay (section 2.4). -/
def State.joinsBy (s : State) (d : Delta) (c : Nat) : Option PoundCfg :=
  match (s.shp.fabricAfter d).of c, (s.core c).cfg with
  | some q, some p => if stays s.shp.programs (s.shp.programsAfter d) p q then none else some q
  | some q, none => some q
  | none, _ => none

/-- Check 0x14: what Table 2-13 does not list as live is unchanged. -/
def State.liveChecks (s : State) (r : Rd) (d : Delta) : List Chk :=
  let f := s.shp.fabricAfter d
  let spare := fun (c : Nat) => decide (c < 64) && (decide ((s.core c).cfg = none) || (f.of c).isNone)
  [ chk (match sect r 2 with
      | some e => decide ({ parseMemory r e.off with owners := s.shp.memory.owners } = s.shp.memory)
      | none => true) 0x14 2 (sectOff r 2),
    chk (match d.power with
      | some x => decide (x.vcInit = s.shp.power.vcInit) && (rangeFrom 84 0).all (fun k =>
          spare k || decide (nth x.domains k 0 = nth s.shp.power.domains k 0))
      | none => true) 0x14 8 (sectOff r 8) ]

/-- The end of the highest region that shared SRAM holds below the program copy area. -/
def State.copyFloor (s : State) : Nat :=
  s.shp.memory.sregions.foldl (fun m x => max m (x.base + x.length)) (s.shp.secure.ssBase + s.shp.secure.ssLen)

/-- Check 0x15: the copies that a delta adds fit, and its joining cores are spare (section 2.4). -/
def State.spaceChecks (s : State) (d : Delta) : List Chk :=
  let new := (s.shp.programsAfter d).filter (fun p => !s.shp.programs.any (fun q => p.sameCopy q))
  [ chk (decide (copySize s.shp.programs + copySize new ≤ 0x400000 - s.copyFloor)) 0x15 5 0,
    chk ((rangeFrom 64 0).all (fun c => (s.joinsBy d c).isNone ||
      (decide ((s.core c).st = .spare) && (s.core c).joins.isNone && !s.returning c))) 0x15 1 0 ]

/-- Check 0x09: every pound that stays has a core after turn B (section 2.4, Edges). -/
def State.coredChecks (s : State) (d : Delta) (o : Nat) : List Chk :=
  (d.fabric.map (·.pounds)).getD [] |>.map (fun p =>
    chk ((rangeFrom 64 0).any (fun c => p.cores.getLsbD c && decide ((s.core c).st ≠ .quarantined))) 0x09 1 o)

/-- Checks 0x01 to 0x08 of a delta. -/
def State.deltaHead (s : State) (r : Rd) (room : Nat) : List Chk :=
  headChecks r 2 room ++ signChecks r s.lcs.otp (max s.lcs.otp.arb (s.reg A.shpSecver).toNat)

/-- The checks of a section where the delta carries it. -/
def whenSect (r : Rd) (id : Nat) (f : DirEntry → List Chk) : List Chk :=
  match sect r id with
  | some e => f e
  | none => []

/-- Checks 0x09 to 0x15 of a delta. -/
def State.deltaBody (s : State) (r : Rd) (d : Delta) : List Chk :=
  let f := s.shp.fabricAfter d
  let ps := s.shp.programsAfter d
  whenSect r 1 (fun e => fabricChecks r e true ++ s.coredChecks d e.off) ++
    (match sect r 5 with
     | some e => programChecks r e f.pounds
     | none => [chk (f.pounds.all (fun p => (ps.map (·.index)).contains p.program)) 0x0A 1 (sectOff r 1)]) ++
    whenSect r 2 (fun e => memoryChecks r e s.shp.programs s.shp.ports) ++
    whenSect r 7 (fun e => eventChecks r e s.shp.mgrVectors s.shp.tenants) ++
    whenSect r 8 (fun e => powerChecks r e s.tb.cycLen f.pounds s.shp.ports) ++
    [chk (decide (rdBytes r 0x18 32 = bytes256 s.shp.digest)) 0x13 0 0x18] ++ s.liveChecks r d ++ s.spaceChecks d

/-- The first check that the delta fails (Table 2-12). -/
def State.deltaFails (s : State) (r : Rd) (d : Delta) (room : Nat) : Option ImgErr :=
  match firstFail (s.deltaHead r room) with
  | some e => some e
  | none => firstFail (s.deltaBody r d)

/-- Preparation begins: joining cores are marked and their domains switched ON (section 2.4). -/
def State.prepare (s : State) (d : Delta) : State :=
  let s1 := (rangeFrom 64 0).foldl (fun (t : State) c =>
    match s.joinsBy d c with
    | some p => (t.setCore c { t.core c with joins := some p }).hwSwitch c 2
    | none => t) s
  State.setShp { s1 with shp := { s1.shp with delta := some d } } 2

/-- DELTA_CHECK_DONE: the loader has run Table 2-12 on the delta (R59); EV741 at an invalid signature. -/
def execDeltaCheckDone (s : State) : Host.Outcome State Fault Refusal :=
  match s.shp.delta with
  | none => .next s
  | some d0 =>
    if s.shpState ≠ 1 then .next s
    else
      let r := s.sramRd d0.addr
      let d := parseDelta r d0.addr d0.len
      match s.deltaFails r d d0.len with
      | none => .next (s.prepare d)
      | some e =>
        let s1 := (s.loadErr e (codeStatus e.code).code).dropDelta
        .next (if e.code = 7 then s1.raise 741 else s1)

/-! ### Preparation and arm -/

/-- A joining core holds its program and waits in SHADOW (R49). -/
def State.shadowCore (s : State) (d : Delta) (c : Nat) : State :=
  let x := s.core c
  match x.joins.bind (fun p => progIn (s.shp.programsAfter d) p.program) with
  | some p => (s.loadCore c p).setCore c { x with st := .shadow }
  | none => s

/-- DELTA_PREPARE_DONE: every joining core has its domain ON, its program, and its self-test behind it; `bad` is a core that
fails the test (section 2.4). The arm of group 17 waits for the next fence like any other (R61). -/
def execDeltaPrepareDone (bad : Option (Fin 64)) (s : State) : Host.Outcome State Fault Refusal :=
  match s.shp.delta with
  | none => .next s
  | some d =>
    if s.shpState ≠ 2 || !s.joiners.all (fun c => s.pdOn c) then .next s
    else
      match bad.filter (fun c => s.joiners.contains c.val) with
      | some c =>
        let s1 := s.loadErr { code := 0x15, sect := 1, off := 0 } Status.refusedCapacity.code
        .next (s1.dropDelta.quarantine c 6)
      | none =>
        let s1 := s.joiners.foldl (fun (t : State) c => t.shadowCore d c) s
        .next (((s1.setShp 3).shpUnlock).hwArm 17)

/-! ### Turn A (section 2.4) -/

/-- The cores at turn A: joining cores are members, staying cores take their new entry, and the others leave. -/
def State.coresA (s : State) (f : Fabric) : State :=
  (rangeFrom 64 0).foldl (fun (t : State) c =>
    let x := t.core c
    match (if t.returning c then none else x.joins), x.cfg with
    | some p, _ => t.setCore c { x with st := .member, cfg := some p }
    | none, some p =>
      (match f.of c with
       | some q => if q.pound = p.pound then t.setCore c { x with cfg := some q } else t.setCore c { x with leaves := true }
       | none => t.setCore c { x with leaves := true })
    | none, none => t) s

/-- Spare cores' domains take the state that a delta's POWER gives them (Table 2-13). -/
def State.spareDomains (s : State) (x : PowerCfg) : State :=
  (rangeFrom 64 0).foldl (fun (t : State) c =>
    if (t.core c).st = .spare then t.hwSwitch c (nth x.domains c 0) else t) s

/-- The programs that a fabric names newly get their root threads (R254). -/
def State.newRoots (s : State) (old : Fabric) : State :=
  let named := fun (f : Fabric) (i : Nat) => f.pounds.any (fun p => decide (p.program = i))
  ((rangeFrom 32 0).filter (fun i => named s.shp.fabric i && !named old i)).foldl (fun (t : State) i =>
    match t.program i with
    | some p => t.rootThread i p.entry
    | none => t) s

/-- Turn A: the new routes, entries, POWER fields, owner entries and the routes of EV000 to EV719 apply, and new tickets follow
the new fabric (R60, R544). -/
def State.turnA (s : State) : State :=
  match s.shp.delta with
  | none => s
  | some d =>
    if s.shpState ≠ 3 then s
    else
      let old := s.shp.fabric
      let f := s.shp.fabricAfter d
      let x : Shp := { s.shp with old := some old, fabric := f, oldPrograms := s.shp.programs,
                                  programs := s.shp.programsAfter d, power := d.power.getD s.shp.power, turnA := s.cycle }
      let s1 : State := { s with shp := x, flt := { s.flt with fabGen := s.flt.fabGen + 1 } }
      let s2 := match d.events with
        | some l => s1.setRoutes 0 (l.take 720)
        | none => s1
      let s3 := match d.power with
        | some p => (s2.setGovernor p).spareDomains p
        | none => s2
      let s4 := match d.owners with
        | some l => s3.rehold l
        | none => s3
      (((s4.coresA f).newRoots old).setFloors).setShp 4

/-! ### The drain and turn B -/

/-- RESHAPE_DRAIN_TIMEOUT: 64 turns after turn A the frames of the old fabric are dropped (R62). -/
def execReshapeDrainTimeout (s : State) : Host.Outcome State Fault Refusal :=
  if s.shpState = 4 ∧ 64 ≤ (s.cycle - s.shp.turnA).toNat then .next s.drainOld else .next s

/-- No ticket assigned before turn A is in flight. -/
def State.noOldFrames (s : State) : Bool :=
  s.flt.frames.all (fun p => match p.2 with
    | some f => decide (f.fab = s.flt.fabGen)
    | none => true)

/-- A leaving core detaches: its slots are emptied, it is spare, and its domain takes the state that the delta gives it, else
OFF (section 2.4, turn B). -/
def State.detach (s : State) (power : Option PowerCfg) (c : Nat) : State :=
  let x := s.core c
  if x.st = .member then
    let s1 := (rangeFrom 8 (8 * c)).foldl (fun t w => if h : w < 516 then t.rollBack ⟨w, h⟩ else t) s
    (s1.setCore c Core.init).hwSwitch c ((power.map (fun p => nth p.domains c 0)).getD 0)
  else s.setCore c { x with cfg := none, leaves := false }

/-- The threads of programs that no pound runs any more are aborted (R63). -/
def State.dropUnnamed (s : State) : State :=
  let gone := SMap.keysWhere (fun n t => decide (n < 2048) && decide (t.st ≠ .free) &&
    (match t.st with
     | .exiting _ _ => false
     | _ => true) && !s.shp.fabric.pounds.any (fun p => decide (p.program = t.program))) s.lk.threads
  gone.foldl (fun (t : State) n => t.abortThread n .refusedNotReady) s

/-- Turn B: the first turn after turn A at which no ticket assigned before turn A remains in flight (R60, R63). -/
def State.turnB (s : State) : State :=
  match s.shp.delta with
  | none => s
  | some d =>
    if s.shpState ≠ 4 ∨ s.shp.turnA = s.cycle ∨ !s.noOldFrames then s
    else
      let leavers := (rangeFrom 64 0).filter (fun c => (s.core c).leaves)
      let s1 := leavers.foldl (fun (t : State) c => t.detach d.power c) s
      let s2 := (rangeFrom 64 0).foldl (fun (t : State) c =>
        if (t.core c).st = .member then t.setCore c { t.core c with joins := none } else t) s1
      let named := s2.shp.programs.filter (fun p => s2.shp.fabric.pounds.any (fun q => decide (q.program = p.index)))
      let x : Shp := { s2.shp with old := none, oldPrograms := [], programs := named, delta := none, digest := d.digest }
      let s3 := State.dropUnnamed { s2 with shp := x }
      let s4 := ((s3.showDigest d.digest).setReg A.shpTurnA x.turnA).setReg A.shpTurnB s3.cycle
      (((s4.setFld A.shpStat 5 5 1).setFld A.shpLoaderr 15 8 0).setShp 0).matching

end Sys2Proof.Machine
end

