-- ==== Sys2Proof/Machine/Turn.lean ====
section
/-! DEFINITION. The timebase, the turn fence and the turn (chapter 04): edges of CK00, shadow writes and arms, and what happens
at a turn. -/

namespace Sys2Proof.Machine

/-! ### Edges of CK00 (R85 to R87) -/

/-- One nanosecond of the rate accumulator (R86). -/
def nsUnit : Int := 0x10000000000

/-- The label of the next turn: the start of the next cycle (R87, R97). -/
def State.turnAt (s : State) : Nat := if s.tb.cycRun then s.tb.cycStart.toNat + s.tb.cycLen else s.tb.cycStart.toNat

/-- A correction that skips `t` is deferred (R87). -/
def State.skips (s : State) (t : Nat) : Bool := s.tb.timer && decide (t = s.turnAt)

/-- One edge of CK00: TB time advances by 1, or by 0 or 2 at a correction edge; one that would skip the next cycle start is
deferred by an edge (R85 to R87). -/
def State.edge (s : State) : State :=
  let acc := s.tb.acc + (s.reg A.tbRate).toInt
  let up := decide (nsUnit ≤ acc) || s.tb.skipDue
  if up && !s.skips (s.time + 1) then
    { s with tb := { s.tb with now := s.tb.now + 2#64, skipDue := false,
                               acc := if s.tb.skipDue then acc else acc - nsUnit } }
  else if up then
    { s with tb := { s.tb with now := s.tb.now + 1#64, skipDue := true, acc := if s.tb.skipDue then acc else acc - nsUnit } }
  else if acc ≤ -nsUnit then { s with tb := { s.tb with acc := acc + nsUnit } }
  else { s with tb := { s.tb with now := s.tb.now + 1#64, acc := acc } }

/-- `n` edges without a correction. -/
def State.plainEdges (s : State) (n : Nat) : State :=
  { s with tb := { s.tb with now := s.tb.now + BitVec.ofNat 64 n, acc := s.tb.acc + n * (s.reg A.tbRate).toInt } }

/-- The edges up to and including the one at which the accumulator crosses a whole nanosecond; `none` at rate 0. -/
def State.edgesToCross (s : State) : Option Nat :=
  let r := (s.reg A.tbRate).toInt
  if 0 < r then some (((nsUnit - s.tb.acc + r - 1) / r).toNat)
  else if r < 0 then some (((nsUnit + s.tb.acc - r - 1) / (-r)).toNat)
  else none

/-- CORRECTION_EDGE: the next correction edge and the edges before it; a deferred one takes one edge more (R87). -/
def execCorrectionEdge (s : State) : Host.Outcome State Fault Refusal :=
  if !s.tb.started then .next s
  else
    match s.edgesToCross with
    | none => .next s
    | some n =>
      let s1 := (s.plainEdges (n - 1)).edge
      .next (if s1.tb.skipDue then s1.edge else s1)

/-! ### Shadow writes, arms and the fence (sections 4.3 and 4.4) -/

/-- The swap group of the register at an address; 99 for none. -/
def groupOf (a : Nat) : Nat := ((regAt a).map (·.group)).getD 99

/-- The turn-swapped bits of the register at an address. -/
def turnMask (a : Nat) : W32 := w32 (((regAt a).map (·.turn)).getD 0)

/-- An AUTO group (Table 4-2). -/
def autoGroup (g : Nat) : Bool := decide (g < 4) || decide (g = 21)

/-- A HW group (Table 4-2). -/
def hwGroup (g : Nat) : Bool := decide (g = 15) || decide (17 ≤ g ∧ g ≤ 20)

/-- A write of a turn-swapped register goes to its shadow and arms an AUTO group; TB_STEP_HI captures both halves (R90, R99). -/
def State.shadowWrite (s : State) (a : Nat) (v : W32) : State :=
  let m := turnMask a
  let s1 := s.setShadow a ((s.shadowOf a &&& ~~~ m) ||| (v &&& m))
  let s2 := if a = A.tbStepHi then s1.setShadow A.tbStepLo (s1.reg A.tbStepLo) else s1
  if autoGroup (groupOf a) then s2.armNow (groupOf a) else s2

/-- A write that arrives in the fence is held for after the turn (R106, R107). -/
def State.holdWrite (s : State) (ag : Agent) (a : Nat) (v : W32) (g : Nat) : State :=
  (State.noteDelayed { s with tb := { s.tb with held := s.tb.held ++ [.write ag a v] } } g).status .delayed

/-- A write of a turn-swapped register, with its checks behind it (R99, R106). -/
def State.turnWrite (s : State) (ag : Agent) (a : Nat) (v : W32) : State :=
  if s.tb.fence then s.holdWrite ag a v (groupOf a) else (s.shadowWrite a v).status .ok

/-- The pending shadows without those of a list of groups. -/
def State.dropShadows (s : State) (gs : List Nat) : State :=
  { s with shadow := s.shadow.filter (fun p => !(gs.contains (groupOf p.1) || (gs.contains 1 && decide (p.1 = A.tbStepLo)))) }

/-- Group `g` is disarmed and its shadow reloaded from the live values (R102). -/
def State.disarmGroup (s : State) (g : Nat) : State :=
  (s.setReg A.tbArmed (setBit (s.reg A.tbArmed) g false)).dropShadows [g]

/-- What software may not do with group `g` (R103). -/
def armRight (ag : Agent) (g : Nat) : Status :=
  if hwGroup g then .refusedRights else if g = 22 ∧ !isWarden ag then .refusedSecure else .ok

/-- An arm of group `g` with the right to it: only an EXPLICIT group, and group 16 only with a verified bank (R99, R535). -/
def State.armOne (s : State) (g : Nat) : Status × State :=
  if autoGroup g then (.ok, s)
  else if g = 16 ∧ !bit (s.reg A.shfBankstat) 1 then (.refusedNotReady, (s.setFld A.shfBankstat 3 3 1).raise 719)
  else (.ok, s.armNow g)

/-- The groups that a TB_ARM or TB_DISARM word names. -/
def namedGroups (v : W32) : List Nat := (rangeFrom 23 0).filter (bit v)

/-- The first status of a list that is not OK. -/
def firstBad (l : List Status) : Status := (l.find? (fun st => decide (st ≠ .ok))).getD .ok

/-- The groups of a list that an agent may arm or disarm, as a word. -/
def allowedWord (ag : Agent) (v : W32) : W32 :=
  (namedGroups v).foldl (fun w g => if armRight ag g = .ok then setBit w g true else w) 0#32

/-- The effect of a TB_ARM write. -/
def State.armWord (s : State) (v : W32) : Status × State :=
  (namedGroups v).foldl (fun (acc : Status × State) g =>
    let r := acc.2.armOne g
    (if acc.1 = .ok then r.1 else acc.1, r.2)) (.ok, s)

/-- The effect of a TB_DISARM write (R102). -/
def State.disarmWord (s : State) (v : W32) : State := (namedGroups v).foldl (fun (t : State) g => t.disarmGroup g) s

/-- A TB_ARM or TB_DISARM write: each group for itself by R103; in the fence the rest is held (R106). -/
def State.armAccess (s : State) (ag : Agent) (a : Nat) (v : W32) : State :=
  let bad := firstBad ((namedGroups v).map (armRight ag))
  let w := allowedWord ag v
  let r : Status × State :=
    if w = 0#32 then (.ok, s)
    else if s.tb.fence then (.delayed, s.holdWrite ag a w ((namedGroups w).headD 0))
    else if a = A.tbArm then s.armWord w
    else (.ok, s.disarmWord w)
  if bad = .ok then r.2.status r.1 else r.2.refuse ag a bad

/-- The TB block lies within an agent's reach (Registers of chapter 04). -/
def State.tbAccess (s : State) (ag : Agent) (a : Nat) (f : State → State) : Host.Outcome State Fault Refusal :=
  if s.reaches ag 0x03 then .next (f s) else .next (s.refuse ag a .refusedRights)

/-- ARM_GROUPS: a write of TB_ARM (R99, R103, R106, R535, R566). -/
def execArmGroups (ag : Agent) (v : W32) (s : State) : Host.Outcome State Fault Refusal :=
  s.tbAccess ag A.tbArm (fun t => t.armAccess ag A.tbArm v)

/-- DISARM_GROUPS: a write of TB_DISARM (R102, R103, R106). -/
def execDisarmGroups (ag : Agent) (v : W32) (s : State) : Host.Outcome State Fault Refusal :=
  s.tbAccess ag A.tbDisarm (fun t => t.armAccess ag A.tbDisarm v)

/-- A TB_RATE write within ±500 ppm (R86). -/
def State.rateWrite (s : State) (ag : Agent) (v : W32) : State :=
  if -0x20C49BA5 ≤ v.toInt ∧ v.toInt ≤ 0x20C49BA5 then (s.setReg A.tbRate v).status .ok else s.refuse ag A.tbRate .refusedRange

/-- TB_RATE_WRITE (R86). -/
def execTbRateWrite (ag : Agent) (v : W32) (s : State) : Host.Outcome State Fault Refusal :=
  s.tbAccess ag A.tbRate (fun t => t.rateWrite ag v)

/-- A TB_PERIOD write: 10 000 to 4 000 000 ns (R93, R94). -/
def State.periodWrite (s : State) (ag : Agent) (v : W32) : State :=
  if 10000 ≤ bits v 21 0 ∧ bits v 21 0 ≤ 4000000 then s.turnWrite ag A.tbPeriod v else s.refuse ag A.tbPeriod .refusedRange

/-- TB_PERIOD_WRITE (R93, R94). -/
def execTbPeriodWrite (ag : Agent) (v : W32) (s : State) : Host.Outcome State Fault Refusal :=
  s.tbAccess ag A.tbPeriod (fun t => t.periodWrite ag v)

/-- TB_PHASE_WRITE (R95). -/
def execTbPhaseWrite (ag : Agent) (v : W32) (s : State) : Host.Outcome State Fault Refusal :=
  s.tbAccess ag A.tbPhase (fun t => t.turnWrite ag A.tbPhase v)

/-- STEP_ARM: a write of TB_STEP_HI captures both halves and arms group 1 (R90). -/
def execStepArm (ag : Agent) (v : W32) (s : State) : Host.Outcome State Fault Refusal :=
  s.tbAccess ag A.tbStepHi (fun t => t.turnWrite ag A.tbStepHi v)

/-- The snapshot of an agent (R89). -/
def State.takeSnapshot (s : State) (ag : Agent) : State :=
  (((s.setReg (agKey ag A.tbSnapLo) (lo32 s.tb.now)).setReg (agKey ag A.tbSnapHi) (hi32 s.tb.now)).setReg
    (agKey ag A.tbSnapCycle) s.cycle).setReg (agKey ag A.tbSnapOffset) (w32 s.offset)

/-- SNAPSHOT_TAKE (R89). -/
def execSnapshotTake (ag : Agent) (s : State) : Host.Outcome State Fault Refusal :=
  s.tbAccess ag A.tbSnapCtrl (fun t => (t.takeSnapshot ag).status .ok)

/-- An agent's latch for the high half of a split value (R17). -/
def State.setLatch (s : State) (ag : Agent) (v : W32) : State :=
  { s with latch := SMap.set (fun _ => 0#32) s.latch ag.toNat v }

/-- TB_NOW_READ: TB_NOW_LO with the high half in the agent's latch (R88). -/
def execTbNowRead (ag : Agent) (s : State) : Host.Outcome State Fault Refusal :=
  s.tbAccess ag A.tbNowLo (fun t => (t.setLatch ag (hi32 t.tb.now)).answer .ok (BitVec.ofNat 64 (lo32 t.tb.now).toNat))

/-! ### The fence (R105, R106) -/

/-- A write or an arm that was held takes effect (R106). -/
def State.applyHeld1 (s : State) (h : Held) : State :=
  match h with
  | .hwArm g => s.armNow g
  | .write _ a v =>
    if a = A.tbArm then (s.armWord v).2 else if a = A.tbDisarm then s.disarmWord v else s.shadowWrite a v

/-- The writes and arms that the fence held take effect in arrival order (R106). -/
def State.applyHeld (s : State) : State :=
  s.tb.held.foldl State.applyHeld1 { s with tb := { s.tb with held := [] } }

/-- HELD_WRITES_APPLY: directly after the turn (R106). -/
def execHeldWritesApply (s : State) : Host.Outcome State Fault Refusal := if s.tb.fence then .next s else .next s.applyHeld

/-- The period that takes effect at the next turn. -/
def State.nextPeriod (s : State) : Nat := bits (if s.groupArmed 0 then s.shadowOf A.tbPeriod else s.reg A.tbPeriod) 21 0

/-- Group 13 is armed with an invalid layout (R350). -/
def State.badLayout (s : State) : Bool := s.groupArmed 13 && s.layoutBad s.shadowOf s.nextPeriod

/-- The fence of the next turn begins: berths are taken for the next cycle, and an open tag window closes (R105, R351, R563). -/
def State.fenceBegin (s : State) : State :=
  let s0 := s.applyHeld
  let s1 := s0.advance (s0.turnAt - 500)
  let s2 : State := { s1 with tb := { s1.tb with fence := true } }
  let s3 := if bit (s2.reg A.secKstat) 3 then s2.closeTagWindow else s2
  s3.fenceBerths (if s3.groupArmed 13 && !s3.badLayout then s3.shadowOf else s3.reg)

/-- TURN_FENCE_BEGIN (R105). -/
def execTurnFenceBegin (s : State) : Host.Outcome State Fault Refusal :=
  if s.tb.timer && !s.tb.fence then .next s.fenceBegin else .next s

/-! ### What a turn will do (R90, R93, R96, R100) -/

/-- The outcome of a turn's checks: the groups that swap, the period, phase and step that apply, and what is dropped. -/
structure TurnPlan where
  groups : List Nat
  period : Nat
  phase : Int
  step : Int
  badPhase : Bool
  badStep : Bool
  badLayout : Bool
  deriving DecidableEq, Repr

/-- The block of group `g` is powered (section 4.3, Edges). -/
def State.groupOn (s : State) (g : Nat) : Bool :=
  if 4 ≤ g ∧ g ≤ 7 then s.pdOn 77
  else if 8 ≤ g ∧ g ≤ 11 then s.pdOn 78
  else if g = 12 ∨ g = 19 then s.pdOn 77 || s.pdOn 78
  else if g = 16 then s.pdOn 70
  else if g = 18 then s.pdOn 80
  else true

/-- The armed step (R90). -/
def State.armedStep (s : State) : Int := (cat64 (s.shadowOf A.tbStepHi) (s.shadowOf A.tbStepLo)).toInt

/-- A phase is in range for a period (R96). -/
def phaseOk (period : Nat) (f : Int) : Bool :=
  let n : Int := period
  decide (f.natAbs ≤ period / 8) && decide (10000 ≤ n + f) && decide (n + f ≤ 4000000)

/-- The checks of a turn. -/
def State.plan (s : State) : TurnPlan :=
  let period := s.nextPeriod
  let f := (s.shadowOf A.tbPhase).toInt
  let badF := s.groupArmed 2 && !phaseOk period f
  let t : Int := (s.turnAt : Int) + s.armedStep
  let badS := s.groupArmed 1 && !(decide (0 ≤ t) && decide (t < 0x8000000000000000))
  let badL := s.badLayout
  let gs := (rangeFrom 23 0).filter (fun g => s.groupArmed g && s.groupOn g && !(decide (g = 2) && badF) &&
    !(decide (g = 1) && badS) && !(decide (g = 13) && badL))
  { groups := gs, period := period, phase := if gs.contains 2 then f else 0, step := if gs.contains 1 then s.armedStep else 0,
    badPhase := badF, badStep := badS, badLayout := badL }

/-! ### Relabelling (R91) -/

/-- Every value of a map changed, in canonical form. -/
def SMap.mapVals {α : Type} [DecidableEq α] (d : Nat → α) (f : α → α) (m : SMap α) : SMap α :=
  (m.map (fun p => (p.1, f p.2))).filter (fun p => decide (p.2 ≠ d p.1))

/-- An instant moved by a step. -/
def movT (d : Int) (t : Nat) : Nat := ((t : Int) + d).toNat

/-- A TB time moved by a step. -/
def mov64 (d : Int) (t : W64) : W64 := t + BitVec.ofInt 64 d

/-- The instants of a shift channel's mode moved by a step. -/
def ShfMode.move (d : Int) : ShfMode → ShfMode
  | .delay e => .delay (mov64 d e)
  | .waitt e => .waitt (mov64 d e)
  | .waite p r e t => .waite p r (e.map (mov64 d)) t
  | .shifting w a b m => .shifting w (mov64 d a) (mov64 d b) m
  | .stallTx e => .stallTx (mov64 d e)
  | .stallRx e v => .stallRx (mov64 d e) v
  | m => m

/-- A strobe's pending fire and pulse moved by a step. -/
def Strobe.move (d : Int) (x : Strobe) : Strobe :=
  { x with pend := x.pend.map (fun p => { p with due := mov64 d p.due }), busy := x.busy.map (mov64 d) }

/-- A port's instants moved by a step; the stamp of a frame that has begun keeps its label. -/
def PortSt.move (d : Int) (x : PortSt) : PortSt :=
  let g := fun (y : Sending) => { y with t0 := movT d y.t0 }
  { x with sending := x.sending.map g, cut := x.cut.map g, pauseEnd := x.pauseEnd.map (movT d),
           upSince := x.upSince.map (movT d) }

/-- A frame's instants moved by a step; its ADMIT time keeps its label. -/
def Frame.move (d : Int) (f : Frame) : Frame := { f with t0 := movT d f.t0, hold := f.hold.map (movT d) }

/-- A waiting descriptor's instant moved by a step. -/
def Desc.move (d : Int) (x : Desc) : Desc :=
  match x.st with
  | .txWait t => { x with st := .txWait (movT d t) }
  | _ => x

/-- A queue pair's instants moved by a step. -/
def Qp.move (d : Int) (q : Qp) : Qp := { q with prog := q.prog.map (Desc.move d) }

/-- A tenant's instants moved by a step. -/
def Tenant.move (d : Int) (x : Tenant) : Tenant :=
  { x with qps := SMap.mapVals (fun _ => none) (fun (q : Option Qp) => q.map (Qp.move d)) x.qps }

/-- A shift channel's instants moved by a step. -/
def ShfChan.move (d : Int) (x : ShfChan) : ShfChan := { x with mode := x.mode.move d, done := mov64 d x.done }

/-- The start of a received frame moved by a step. -/
def RxFrame.move (d : Int) (x : RxFrame) : RxFrame := { x with t0 := movT d x.t0 }

/-- A channel's idle instant moved by a step. -/
def DramCh.move (d : Int) (x : DramCh) : DramCh := { x with idleSince := movT d x.idleSince }

/-- Deadlines of the lockkeeper moved by a step. -/
def Lk.move (d : Int) (l : Lk) : Lk :=
  { l with timers := l.timers.map (fun t => { t with deadline := movT d t.deadline }),
           threads := SMap.mapVals (fun _ => Thread.init)
             (fun t => { t with deadline := t.deadline.map (movT d) }) l.threads }

/-- Ends of the secure world and of the life-cycle grants moved by a step. -/
def Sec.move (d : Int) (x : Sec) : Sec :=
  { x with wdEnd := if x.wdEnd = 0 then 0 else movT d x.wdEnd, mboxEnd := if x.mboxEnd = 0 then 0 else movT d x.mboxEnd,
           nonce := x.nonce.map (fun n => (n.1, movT d n.2)),
           queue := x.queue.map (fun r => { r with deadline := movT d r.deadline }) }

/-- Every pending instant moved by a step, so that it keeps its physical instant (R91). -/
def State.relabel (s : State) (d : Int) : State :=
  if d = 0 then s
  else
    { s with
      lk := s.lk.move d, sec := s.sec.move d,
      stb := { s.stb with strobes := SMap.mapVals (fun _ => Strobe.init) (Strobe.move d) s.stb.strobes },
      shf := { s.shf with
        chans := SMap.mapVals (fun _ => ShfChan.init) (ShfChan.move d) s.shf.chans,
        verify := s.shf.verify.map (fun v => (v.1, mov64 d v.2)) },
      evr := { s.evr with pulse := SMap.mapVals (fun _ => none) (fun (t : Option Nat) => t.map (movT d)) s.evr.pulse },
      lcs := { s.lcs with grant := s.lcs.grant.map (fun g => (g.1, movT d g.2)) },
      prt := { s.prt with ports := SMap.mapVals (fun _ => PortSt.init) (PortSt.move d) s.prt.ports },
      flt := { s.flt with
        frames := SMap.mapVals (fun _ => none) (fun (f : Option Frame) => f.map (Frame.move d)) s.flt.frames,
        rx := SMap.mapVals (fun _ => []) (fun (l : List RxFrame) => l.map (RxFrame.move d)) s.flt.rx },
      drc := SMap.mapVals (fun _ => DramCh.init) (DramCh.move d) s.drc,
      tnt := { s.tnt with tenants := SMap.mapVals (fun _ => Tenant.init) (Tenant.move d) s.tnt.tenants } }

/-! ### The turn (R97, R100, R101) -/

/-- The new cycle: its number, start and length, and what each cycle begins afresh (R90, R95, R97, R129, R539). -/
def State.newCycle (s : State) (p : TurnPlan) : State :=
  let start := BitVec.ofInt 64 ((s.turnAt : Int) + p.step)
  let n := if s.tb.cycRun then s.cycle + 1#32 else s.cycle
  let tb : Tb := { s.tb with now := mov64 p.step s.tb.now, cycRun := true, prevStart := s.tb.cycStart, cycStart := start,
                             cycLen := ((p.period : Int) + p.phase).toNat, fence := false }
  let s1 : State := { s with tb := tb, once := [], evr := { s.evr with delivered := [] }, pwr := { s.pwr with decided := false } }
  ((s1.setReg A.tbCycle n).setReg A.fltFinprev (s1.reg A.fltFinish)).setReg A.fltFinish 0#32

/-- TB_TURNSTAT of the new cycle. -/
def State.turnStat (s : State) (p : TurnPlan) : State :=
  s.setFld A.tbTurnstat 20 16 (b2n (p.groups.contains 1) + 2 * b2n p.badStep + 4 * b2n (p.groups.contains 2) +
    8 * b2n p.badPhase + 16 * b2n (p.groups.contains 0))

/-- What a turn drops: a step or a phase out of range and an invalid layout (R90, R96, R350). -/
def State.dropRefused (s : State) (p : TurnPlan) : State :=
  let s1 := if p.badStep then (s.disarmGroup 1).raise 762 else s
  let s2 := if p.badPhase then (s1.disarmGroup 2).raise 762 else s1
  if p.badLayout then ((s2.disarmGroup 13).setFld A.brgStat 12 12 1).raise 466 else s2

/-- Every swapping group copies its shadow into its live fields, is disarmed, and its shadow holds the live values (R100,
R101); TB_PHASE reads the adjustment of the cycle that begins (R95). -/
def State.swapGroups (s : State) (p : TurnPlan) : State :=
  let s1 := if p.groups.contains 13 then s.dropCargo else s
  let s2 := s1.shadow.foldl (fun (t : State) (q : Nat × Option W32) =>
    if p.groups.contains (groupOf q.1) then
      t.setReg q.1 ((t.reg q.1 &&& ~~~ turnMask q.1) ||| (s1.shadowOf q.1 &&& turnMask q.1))
    else t) s1
  let word := p.groups.foldl (fun w g => setBit w g true) 0#32
  let s3 := (s2.dropShadows p.groups).setReg A.tbPhase (wInt p.phase)
  ((s3.setReg A.tbSwapped word).setReg A.tbArmed (s3.reg A.tbArmed &&& ~~~ word)).turnStat p

/-- Turn B, recorded in TB_SWAPPED as group 17 (Table 4-2). -/
def State.detachment (s : State) : State :=
  if s.shpState = 4 then
    let s1 := s.turnB
    if s1.shpState = 0 then s1.setReg A.tbSwapped (setBit (s1.reg A.tbSwapped) 17 true) else s
  else s

/-- What the swap of each group means inside its block; group 17 applies before group 18 (section 4.3). -/
def State.turnSwaps (s : State) (p : TurnPlan) : State :=
  let s1 := if p.groups.contains 15 then s.swapBinds else s
  let s2 := if p.groups.contains 16 then s1.shfSwap else s1
  let s3 := if p.groups.contains 17 then s2.turnA else s2.detachment
  let s4 := if p.groups.contains 18 then s3.coreJoins else s3
  let s5 := if p.groups.contains 19 then s4.portsReturn else s4
  if p.groups.contains 20 then s5.setFld A.pwrVcore 9 0 (s5.fld A.pwrVcore 25 16) else s5

/-- Gates and holds of the ports at a turn; heads that no window fits leave where the list swaps (R381, R384, R389). -/
def State.portsTurn (s : State) (p : TurnPlan) : State :=
  (rangeFrom 8 0).foldl (fun (t : State) n =>
    let t1 := t.gclTurn n
    if p.groups.contains (4 + n) then t1.gateDrop n else t1) s

/-- What every turn does in the blocks: barges, shift starts, cooling partner IDs, the key check, gates, chunks, age limits and
prefetch (R129, R132, R277, R333, R351, R361, R381, R502, R526, R565). -/
def State.turnWork (s : State) (p : TurnPlan) : State :=
  let s1 := s.fulTurn.startBarges
  let s2 := if s1.pdOn 70 then s1.shfTurn else s1
  let c := s2.coolTurn
  let s3 := ((c.1.pushIds c.2).keyTurn).portsTurn p
  let s4 := s3.ageFrames
  let s5 := if s4.pdOn 80 then s4.prefetch ([13, 14, 15].any p.groups.contains) else s4
  s5.checkFinish

/-- One turn token: a token of the turn before that nobody took is replaced (R109 to R111). -/
def State.turnToken (s : State) (n : Nat) : State :=
  let r := s.reg (A.tbTtag n)
  let t := bits r 15 0
  let q := s.tokens t
  if !bit r 31 || !isPostable t then s
  else if q.any (·.turn) then
    let s1 := s.setTokens t (q.map (fun k => if k.turn then { k with value := s.cycle } else k))
    (s1.setFld A.tbTurnstat 21 21 1).raise 761
  else s.enqueue t { value := s.cycle, status := .ok, turn := true }

/-- The turn tokens; none while the lockkeeper's domain is not ON (R109). -/
def State.turnTokens (s : State) : State :=
  if s.pdOn 80 then (rangeFrom 16 0).foldl State.turnToken s else s

/-- The turn (R100, R112). -/
def State.turn (s : State) : State :=
  let s0 := if s.tb.fence then s else s.fenceBegin
  let s1 := s0.endBarges.advance s0.turnAt
  let p := s1.plan
  let s2 := ((s1.newCycle p).dropRefused p).swapGroups p
  let s3 := ((s2.relabel p.step).turnSwaps p).turnWork p
  s3.turnTokens.raise 763

/-- TURN: the next cycle start (R92, R100). -/
def execTurn (s : State) : Host.Outcome State Fault Refusal := if s.tb.timer then .next s.turn else .next s

/-- One edge of CK00 with what becomes due at it: the fence, the turn and the writes held for it (assumption 2). -/
def State.tick (s : State) : State :=
  if !s.tb.started then s
  else
    let s1 := s.edge
    if !s1.tb.timer then s1
    else if s1.turnAt ≤ s1.time then s1.turn.applyHeld
    else if s1.turnAt ≤ s1.time + 500 && !s1.tb.fence then s1.fenceBegin
    else s1

end Sys2Proof.Machine
end

