-- ==== Sys2Proof/Machine/Views.lean ====
section
/-! DEFINITION. What each register reads as: the stored value, or the view of the state that the register shows. A view
has no side effects; the reads that have some stand in RegWrite. -/

namespace Sys2Proof.Machine

/-! ### The counters and their cells (R17) -/

/-- `a` is a cell of `n` counters whose low cells lie 8 bytes apart from `base`. -/
def inCtr (a base n : Nat) : Bool := decide (base ≤ a ∧ a < base + 8 * n)

/-- A cell of a split counter of a block slot. -/
def ctrSlot (a : Nat) : Bool :=
  match a / 0x10000 with
  | 0x06 => inCtr a 0x60200 12
  | 0x07 => inCtr a 0x70100 7
  | 0x08 => inCtr a 0x80100 15
  | 0x09 => inCtr a 0x90200 15
  | 0x0A => inCtr a 0xA0400 7
  | 0x0B => (rangeFrom 8 0).any (fun p => inCtr a (0xB1400 + p * 0x800) 19)
  | 0x0C => inCtr a 0xC0100 8 || inCtr a 0xC0500 8
  | 0x0D => inCtr a 0xD2900 5
  | 0x0E => inCtr a 0xE0400 7
  | 0x0F => inCtr a 0xF0900 5
  | 0x10 => inCtr a 0x100800 6
  | 0x11 => inCtr a 0x110900 5
  | 0x12 => inCtr a 0x120E00 4
  | _ => false

/-- A cell of a tenant's own counter in its window. -/
def ctrWin (a : Nat) : Bool := decide (0x1000000 ≤ a ∧ a < 0x1200000) && inCtr (a % 0x10000) 0x200 5

/-- A low cell of a split counter. -/
def isCtrLow (a : Nat) : Bool := (ctrSlot a || ctrWin a) && decide (a % 8 = 0)

/-- A high cell of a split counter. -/
def isCtrHigh (a : Nat) : Bool := (ctrSlot a || ctrWin a) && decide (a % 8 = 4)

/-- An agent's latch (R18). -/
def State.latchOf (s : State) (ag : Agent) : W32 := SMap.get (fun _ => 0#32) s.latch ag.toNat

/-! ### Views of the blocks

Each answers `none` for a register that is read as it is stored. -/

/-- Tickets held by a class. -/
def State.classTickets (s : State) (c : Nat) : Nat := s.countFrames (fun f => decide (f.fr.cls = c))

/-- FLT: ticket counts, arrival tags and the drop log. -/
def State.viewFlt (s : State) (a : Nat) : Option W32 :=
  if a = A.fltTktC01 then some (w32 (s.classTickets 0 + s.classTickets 1 * 0x10000))
  else if a = A.fltTktC23 then some (w32 (s.classTickets 2 + s.classTickets 3 * 0x10000))
  else if inArr a (A.fltArrtag 0) 4 16 then
    let n := (a - A.fltArrtag 0) / 4
    some (match s.shp.fabric.pound? n with
      | some p => if p.control then 0#32 else w32 (0x10 + n)
      | none => 0#32)
  else
    let n := (s.reg A.fltDlogRd).toNat
    let held := decide (s.flt.logBase ≤ n) && decide (n < (s.reg A.fltDlogWr).toNat) &&
      decide ((s.reg A.fltDlogWr).toNat ≤ n + 2 * s.flt.logCells.length)
    if a = A.fltDlogHeld then some (w32 (b2n held))
    else if inArr a (A.fltDlogRec 0) 4 8 then
      let c := nth s.flt.logCells (n / 2 % s.flt.logCells.length) 0
      some (if held then w32 (s.readLE (kBasin + c * 64 + n % 2 * 32 + (a - A.fltDlogRec 0)) 4) else 0#32)
    else none

/-- LKP: the counts of the lockkeeper. -/
def State.viewLkp (s : State) (a : Nat) : Option W32 :=
  let flight := s.living.filter (fun n => decide (n < 2048))
  if a = A.lkpTokstat then some (w32 (s.usedMain + s.reservedMain * 0x10000))
  else if a = A.lkpThrstat then
    some (w32 (flight.length + (flight.filter (fun n => decide ((s.thread n).st = .ready))).length * 0x10000))
  else if a = A.lkpReturn then
    some (w32 (match s.lk.ret with
      | some r => r.core + r.state * 0x100 + s.lk.retQ.length * 0x10000
      | none => s.lk.retQ.length * 0x10000))
  else if a = A.lkpPagestat then
    some (w32 (s.lk.lines.length +
      (s.lk.lines.filter (fun l => decide (l.pins ≠ 0) || decide (l.holds ≠ []))).length * 0x10000))
  else if a = A.lkpMissstat then
    some (setBits (setBits (s.reg a) 5 0 s.lk.misses.length) 20 8 s.lk.missQ.length)
  else none

/-- The owner entry that an agent's BSN_OSEL selects. -/
def State.osel (s : State) (ag : Agent) : Nat := bits (s.reg (agKey ag A.bsnOsel)) 5 0

/-- BSN: free counts, bases, and the entry that the agent has selected. -/
def State.viewBsn (s : State) (ag : Agent) (a : Nat) : Option W32 :=
  let e := s.osel ag
  if inArr a (A.bsnFree 0) 4 8 then some (w32 (s.areaFree ((a - A.bsnFree 0) / 4)))
  else if inArr a (A.bsnBase 0) 4 8 then
    let n := (a - A.bsnBase 0) / 4
    some (if s.areaCount n = 0 then 0#32 else w32 (s.areaBase n + s.areaUnits n * 0x100000))
  else if inArr a (A.bsnOhold 0) 4 3 then
    let k := (a - A.bsnOhold 0) / 4
    some (w32 (s.holding e (2 * k) + s.holding e (2 * k + 1) * 0x10000))
  else if a = A.bsnOhold3 then some (w32 (s.holding e 6))
  else if a = A.bsnOhold4 then some (w32 (s.holding e 7 + min 0xFFFF (s.spillHeld e).length * 0x10000))
  else if a = A.bsnOagent then
    some (if e = tagOrphan then 0#32 else w32 ((s.owner e).agent + (s.owner e).poolMask.toNat * 0x10000))
  else if a = A.bsnOcell then some (w32 (s.cellCeiling e))
  else if a = A.bsnSpillslots then some (w32 s.spillSlots)
  else if a = A.bsnSpillfree then some (w32 s.spillFree)
  else none

/-- TBL: the queues. -/
def State.viewTbl (s : State) (a : Nat) : Option W32 :=
  if a = A.tblQstat then
    some (w32 (s.tbl.queue.length + s.tbl.learn.length * 0x100 + s.tbl.fences.length * 0x10000 +
      s.tbl.cooling.length * 0x100000))
  else none

/-- BRG: the directory's counts. -/
def State.viewBrg (s : State) (a : Nat) : Option W32 :=
  if a = A.brgStat then
    let act := s.brg.dir.filter (fun p => decide (p.2.st = 1 ∨ p.2.st = 2))
    some (setBits (setBits (s.reg a) 11 0 s.brg.freeIds.length) 27 16 act.length)
  else none

/-- DRC: the queue length. -/
def State.viewDrc (s : State) (a : Nat) : Option W32 :=
  if a = A.drcStat 0 then some (setBits (s.reg a) 22 16 (s.ch 0).queue.length)
  else if a = A.drcStat 1 then some (setBits (s.reg a) 22 16 (s.ch 1).queue.length)
  else none

/-- STB: the pending fires and the capture FIFOs. -/
def State.viewStb (s : State) (a : Nat) : Option W32 :=
  let n := (a - 0x100000) / 0x40
  if inArr a (A.stbStat 0) 0x40 16 then
    let x := s.strobe n
    let p := match x.pend with
      | some f => 1 + b2n (decide (f.width = 0)) * 4 + b2n f.predicted * 8
      | none => 0
    some (w32 (p + b2n x.busy.isSome * 2 + s.fld a 15 8 * 0x100))
  else if inArr a (A.stbPendlo 0) 0x40 16 then some (((s.strobe n).pend.map (fun f => lo32 f.due)).getD 0#32)
  else if inArr a (A.stbPendhi 0) 0x40 16 then some (((s.strobe n).pend.map (fun f => hi32 f.due)).getD 0#32)
  else if inArr a (A.stbCstat 0) 0x20 16 then some (w32 (s.capture ((a - 0x100400) / 0x20)).fifo.length)
  else none

/-- SHF: the channels, and the addressed microinstruction (R532). -/
def State.viewShf (s : State) (a : Nat) : Option W32 :=
  let n := (a - 0x110000) / 0x40
  let m := s.micro (s.fld A.shfUaddr 16 16) (s.fld A.shfUaddr 10 0)
  if inArr a (A.shfStat 0) 0x40 24 then some (s.shfStat n)
  else if inArr a (A.shfPc 0) 0x40 24 then some (s.shfPc n)
  else if a = A.shfUdataLo then some (lo32 m)
  else if a = A.shfUdataHi then some (hi32 m)
  else none

/-- EVR: a normal-world agent reads 0 for the secure range (R547). -/
def State.viewEvr (s : State) (ag : Agent) (a : Nat) : Option W32 :=
  if isWarden ag then none
  else if inArr a (A.evrRoute 720) 4 32 || inArr a (A.evrCount 720) 4 32 then some 0#32
  else if inArr a (A.evrPend 0) 4 24 then some (s.reg a &&& ~~~(securePend ((a - A.evrPend 0) / 4)))
  else none

/-- SEC: the status and the copies of the holds. -/
def State.viewSec (s : State) (a : Nat) : Option W32 :=
  if a = A.secNstat then some s.nstatWord
  else if inArr a (A.secNholdpd 0) 4 3 then some (s.holdPdWord ((a - A.secNholdpd 0) / 4))
  else if a = A.secNholdck then some (s.reg A.secHoldck)
  else none

/-- LCS: the fuses and the grant. -/
def State.viewLcs (s : State) (a : Nat) : Option W32 :=
  if a = A.lcsState then some s.lcsWord
  else if a = A.lcsUidLo then some (lo32 s.unitId)
  else if a = A.lcsUidHi then some (hi32 s.unitId)
  else if a = A.lcsDebug then some s.lcsDebugWord
  else if a = A.lcsArb then some s.arbWord
  else none

/-- BOOT: word `w` of log entry `e`, 0 the newest; 0xFFFF_FFFF beyond the entries present. -/
def State.viewBoot (s : State) (a : Nat) : Option W32 :=
  if inArr a (A.bootLog 0) 4 256 then
    let o := a - A.bootLog 0
    some (match s.logEntries[o / 0x40]? with
      | some e => w32 (s.readLE (logKey e.slot + o % 0x40) 4)
      | none => 0xFFFFFFFF#32)
  else none

/-- PWR: the stopped islands, and the agent's own LAST of PWR_CKREQ. -/
def State.viewPwr (s : State) (ag : Agent) (a : Nat) : Option W32 :=
  if a = A.pwrCkstat then some (w32 s.ckStopped)
  else if a = A.pwrCkreq then some (setBits (s.reg a) 31 24 (bits (s.reg (agKey ag a)) 31 24))
  else none

/-- The registers of the security island (section 20.7). -/
def State.viewIsland (s : State) (a : Nat) : Option W32 :=
  if a = A.secRngstat then some s.rngstatWord
  else if inArr a (A.secHoldpd 0) 4 3 then some (s.holdPdWord ((a - A.secHoldpd 0) / 4))
  else none

/-- A tenant counter or a slot counter as its two cells read, without setting a latch. -/
def State.viewCtr (s : State) (ag : Agent) (a : Nat) : Option W32 :=
  if isCtrLow a then some (lo32 (s.counter a))
  else if isCtrHigh a then some (s.latchOf ag)
  else none

/-- TB but for the shadow read-back: TB time, the cycle start, the offset, and TURNREG. -/
def State.viewTb (s : State) (ag : Agent) (a : Nat) : Option W32 :=
  if a = A.tbNowLo then some (lo32 s.tb.now)
  else if a = A.tbCycstartLo then some (lo32 s.tb.cycStart)
  else if a = A.tbNowHi ∨ a = A.tbCycstartHi then some (s.latchOf ag)
  else if a = A.tbOffset then some (w32 (s.offset % 0x800000))
  else if a = A.tbShrbAddr then
    let v := s.reg (agKey ag a)
    some (setBit v 31 (decide (turnMask (bits v 23 2 * 4) ≠ 0#32)))
  else none

/-- A register as it is stored, one of an agent's own set under that agent; WO bits and unassigned offsets read 0 (R11,
Table 0-4). -/
def State.stored (s : State) (ag : Agent) (a : Nat) : W32 :=
  match regAt a with
  | some d => s.reg (if d.perAgent then agKey ag a else a) &&& ~~~(w32 d.wo)
  | none => 0#32

/-- The view of the block that holds address `a`. -/
def State.viewBlock (s : State) (ag : Agent) (a : Nat) : Option W32 :=
  if 0x80000000 ≤ a then s.viewIsland a
  else
    match a / 0x10000 with
    | 0x01 => s.viewPwr ag a
    | 0x03 => s.viewTb ag a
    | 0x06 => s.viewFlt a
    | 0x07 => s.viewLkp a
    | 0x08 => s.viewBsn ag a
    | 0x09 => s.viewTbl a
    | 0x0A => s.viewBrg a
    | 0x0C => s.viewDrc a
    | 0x10 => s.viewStb a
    | 0x11 => s.viewShf a
    | 0x12 => s.viewEvr ag a
    | 0x13 => s.viewSec a
    | 0x14 => s.viewLcs a
    | 0x16 => s.viewBoot a
    | _ => none

/-- What a register reads as, without the effects of the read: a field with the Swap attribute "turn" shows the value in
effect (R13). -/
def State.view0 (s : State) (ag : Agent) (a : Nat) : W32 :=
  match s.viewCtr ag a with
  | some v => v
  | none =>
    match s.viewBlock ag a with
    | some v => v
    | none => s.stored ag a

/-- TB_SHRB_DATA: the shadow of the turn-swapped bits and the live value of all others of the register that the agent's
TB_SHRB_ADDR names (R104). -/
def State.shadowData (s : State) (ag : Agent) : W32 :=
  let a := bits (s.reg (agKey ag A.tbShrbAddr)) 23 2 * 4
  let m := turnMask a
  (s.view0 ag a &&& ~~~m) ||| (s.shadowOf a &&& m)

/-- What a register reads as. -/
def State.view (s : State) (ag : Agent) (a : Nat) : W32 :=
  if a = A.tbShrbData then s.shadowData ag else s.view0 ag a

/-! ### Who may read (the rights of each block) -/

/-- A register that exists for the host only: the atomic registers of chapter 15 are not reachable by threads. -/
def hostOnly (a : Nat) : Bool := decide (0xD2800 ≤ a ∧ a ≤ 0xD2840)

/-- The agent may read the register at BAR0 address `a` of the block slots: the manager and warden slots read every block,
thread slots by REG_MASK. -/
def State.mayRead (s : State) (ag : Agent) (a : Nat) : Bool :=
  if isThread ag then s.reaches ag (a / 0x10000) && !hostOnly a else isBoss ag

end Sys2Proof.Machine
end

