-- ==== Sys2Proof/Machine/RegWrite.lean ====
section
/-! DEFINITION. Register accesses: what a write of each register does and who may make it, the reads with their effects, and
the host's accesses to BAR0 (chapter 00, section 0.5; the "Registers of this chapter" sections). -/

namespace Sys2Proof.Machine

/-- The state that a meaning lands in. -/
def landed (s : State) (o : Host.Outcome State Fault Refusal) : State :=
  match o with
  | .next t => t
  | _ => s

/-- A register field of `n` bits from bit `lo` as an operand. -/
def fldOf (v : W32) (lo n : Nat) : BitVec n := v.extractLsb' lo n

/-! ### The plain write -/

/-- A write of a register with no step of its own: RW fields take the value, a 1 clears a W1C bit, all else is ignored; a
register with turn-swapped fields goes to its shadow (R9, R11, R12, Table 0-4). -/
def State.plainWrite (s : State) (ag : Agent) (a : Nat) (v : W32) : State :=
  if turnMask a ≠ 0#32 then s.turnWrite ag a v
  else
    match regAt a with
    | none => s.status .ok
    | some d =>
      let k := if d.perAgent then agKey ag a else a
      let new := ((s.reg k &&& ~~~(w32 d.rw)) ||| (v &&& w32 d.rw)) &&& ~~~(v &&& w32 d.w1c)
      (s.setReg k new).status .ok

/-- A write that only the manager and warden slots make. -/
def State.bossWrite (s : State) (ag : Agent) (a : Nat) (f : State → State) : State :=
  if !isBoss ag then s.refuse ag a .refusedRights
  else if s.regOff a then s.refuse ag a .refusedNotReady
  else f s

/-- A write that every agent makes that reaches block slot `b`. -/
def State.userWrite (s : State) (ag : Agent) (b a : Nat) (f : State → State) : State :=
  if !s.mayReach ag b then s.refuse ag a .refusedRights
  else if s.regOff a then s.refuse ag a .refusedNotReady
  else f s

/-- A zero in a length, count or size field, or in a field for which the register tables name ZERO_LENGTH: it is refused before
any other check (R36). -/
def zeroField (a : Nat) (v : W32) : Bool :=
  if a = A.pwrGovctl then decide (bits v 27 24 = 0)
  else if a = A.shpDeltaLen then decide (bits v 20 0 = 0)
  else if a = A.fltAge then decide (bits v 7 0 = 0)
  else if a = A.lkpCtrl then decide (bits v 28 16 = 0)
  else if a = A.bsnBerthres ∨ inArr a (A.bsnResv 0) 4 6 ∨ inArr a (A.bsnLow 0) 4 8 ∨ a = A.bsnOcell ∨ a = A.tblAge ∨
      a = A.tntTxwait then decide (bits v 15 0 = 0)
  else if a = A.brgCtrl then decide (bits v 7 0 = 0 ∨ bits v 15 8 = 0 ∨ bits v 31 16 = 0)
  else if inArr a (A.brgOslot 0) 4 1024 then decide (bits v 7 0 = 0)
  else if 0xB1000 ≤ a ∧ a < 0xB5000 then
    decide (0x100 ≤ a % 0x800 ∧ a % 0x800 < 0x300) && decide (bits v 31 10 = 0)
  else if inArr a (A.drcCtrl 0) 0x400 2 then decide (bits v 11 8 = 0 ∨ bits v 31 16 = 0)
  else if inArr a (A.drcAgelim1 0) 0x400 2 ∨ inArr a (A.drcAgelim2 0) 0x400 2 ∨ inArr a (A.drcAgelim3 0) 0x400 2 then
    decide (bits v 23 0 = 0)
  else if inArr a (A.drcZq 0) 0x400 2 then decide (bits v 7 0 = 0)
  else if inArr a (A.drcScrub 0) 0x400 2 then decide (bits v 15 8 = 0)
  else if inArr a (A.fulSchunk 0) 0x20 64 then decide (bits v 10 0 = 0)
  else if inArr a (A.stbReslim 0) 0x40 16 then decide (bits v 30 0 = 0)
  else if inArr a (A.evrPincfg 0) 4 4 then decide (bits v 27 8 = 0)
  else if a = A.secWdcfg then decide (bits v 13 0 = 0)
  else false

/-! ### The blocks -/

/-- A write of PWR_DEADLINE, PWR_MARGIN or PWR_VCLIM: the shadows as they would be meet R621. -/
def State.govWrite (s : State) (ag : Agent) (a : Nat) (v : W32) : State :=
  let sh := fun (k : Nat) => if k = a then v &&& turnMask k else s.shadowOf k
  let c := sh A.pwrVclim
  let lo := bits c 9 0
  let hi := bits c 25 16
  if lo % 10 = 0 ∧ hi % 10 = 0 ∧ 600 ≤ lo ∧ lo ≤ hi ∧ hi ≤ 900 ∧ bits (sh A.pwrMargin) 22 0 < bits (sh A.pwrDeadline) 22 0 then
    s.turnWrite ag a v
  else s.refuse ag a .refusedRange

/-- Writes of the PWR block (chapter 22). -/
def State.writePwr (s : State) (ag : Agent) (a : Nat) (v : W32) : State :=
  if a = A.pwrPdreq then landed s (s.pdCmd ag (fldOf v 0 7) (bits v 9 8))
  else if a = A.pwrCkreq then landed s (execClockGate ag v s)
  else s.bossWrite ag a (fun t =>
    if a = A.pwrDeadline ∨ a = A.pwrMargin ∨ a = A.pwrVclim then t.govWrite ag a v else t.plainWrite ag a v)

/-- Writes of the MON block: THROTTLE is at most 130 °C and THRVC lies in 600 to 900 mV. -/
def State.writeMon (s : State) (ag : Agent) (a : Nat) (v : W32) : State :=
  s.bossWrite ag a (fun t =>
    if a = A.monTherm ∧ (130 < bits v 15 8 ∨ bits v 25 16 < 600 ∨ 900 < bits v 25 16) then t.refuse ag a .refusedRange
    else t.plainWrite ag a v)

/-- Writes of the TB block (chapter 04). -/
def State.writeTb (s : State) (ag : Agent) (a : Nat) (v : W32) : State :=
  if a = A.tbPeriod then landed s (execTbPeriodWrite ag v s)
  else if a = A.tbRate then landed s (execTbRateWrite ag v s)
  else if a = A.tbPhase then landed s (execTbPhaseWrite ag v s)
  else if a = A.tbStepHi then landed s (execStepArm ag v s)
  else if a = A.tbArm then landed s (execArmGroups ag v s)
  else if a = A.tbDisarm then landed s (execDisarmGroups ag v s)
  else if a = A.tbSnapCtrl ∧ bit v 0 = true then landed s (execSnapshotTake ag s)
  else landed s (s.tbAccess ag a (fun t => t.plainWrite ag a v))

/-- Writes of the SHP block: APPLY, then ABANDON (chapter 02). -/
def State.writeShp (s : State) (ag : Agent) (a : Nat) (v : W32) : State :=
  s.bossWrite ag a (fun t =>
    if a = A.shpCtrl then
      let t1 := if bit v 0 then landed t (execShpApply ag t) else t.status .ok
      if bit v 1 then landed t1 (execShpAbandon ag t1) else t1
    else t.plainWrite ag a v)

/-- Writes of the FLT block (chapter 05). -/
def State.writeFlt (s : State) (ag : Agent) (a : Nat) (v : W32) : State :=
  if a = A.fltClassmap then landed s (execClassmapWrite ag v s)
  else if a = A.fltDlogCtrl then landed s (execDropLogResize ag (fldOf v 0 8) s)
  else s.bossWrite ag a (fun t => t.plainWrite ag a v)

/-- Writes of the LKP block (chapter 09). -/
def State.writeLkp (s : State) (ag : Agent) (a : Nat) (v : W32) : State :=
  if a = A.lkpQcmd ∧ bits v 9 8 = 1 then landed s (execLkpQcmdQuarantine ag (Fin.ofNat 64 (bits v 5 0)) s)
  else if a = A.lkpQcmd ∧ bits v 9 8 = 2 then landed s (execLkpQcmdReturn ag (Fin.ofNat 64 (bits v 5 0)) s)
  else if a = A.lkpAbort then landed s (execLkpAbort ag (fldOf v 0 16) s)
  else s.bossWrite ag a (fun t => t.plainWrite ag a v)

/-- The bits of BSN_CMD that a command does not use (Table 10-2). -/
def bsnUnused (v : W32) : Nat :=
  match bits v 3 0 with
  | 1 => bits v 31 18
  | 2 => bits v 31 7
  | 3 => bits v 31 13
  | 4 => bits v 31 4
  | 11 => bits v 31 23
  | 12 => bits v 31 10
  | _ => bits v 31 27

/-- A write of BSN_CMD: the command, or REFUSED_RANGE for an OP that Table 10-2 does not list and for a bit that the command
does not use. -/
def State.bsnCmd (s : State) (ag : Agent) (v : W32) : State :=
  let bad := s.basin ag (fun t => t.bsnDone ag .refusedRange 0 0)
  if bsnUnused v ≠ 0 then landed s bad
  else
    match bits v 3 0 with
    | 1 => landed s (execAlloc ag (fldOf v 4 14) s)
    | 2 => landed s (execAllocp ag (fldOf v 4 3) s)
    | 3 => landed s (execAllocc ag (fldOf v 4 9) s)
    | 4 => landed s (execAllocb ag s)
    | 5 => landed s (execFree ag (fldOf v 4 23) s)
    | 6 => landed s (execXfer ag (fldOf v 4 23) s)
    | 7 => landed s (execChain ag (fldOf v 4 23) s)
    | 8 => landed s (execSplit ag (fldOf v 4 23) s)
    | 9 => landed s (execNext ag (fldOf v 4 23) s)
    | 10 => landed s (execSpill ag (fldOf v 4 23) s)
    | 11 => landed s (execFill ag (fldOf v 4 19) s)
    | 12 => landed s (execReclaim ag (fldOf v 4 6) s)
    | _ => landed s bad

/-- Writes of the BSN block (chapter 10). -/
def State.writeBsn (s : State) (ag : Agent) (a : Nat) (v : W32) : State :=
  if a = A.bsnCmd then s.bsnCmd ag v
  else if a = A.bsnArg ∨ a = A.bsnResult ∨ a = A.bsnResult2 then s.userWrite ag 0x08 a (fun t => t.plainWrite ag a v)
  else if a = A.bsnOsel then
    s.userWrite ag 0x08 a (fun t =>
      if bits v 5 0 < 48 ∨ bits v 5 0 = 0x3F then t.plainWrite ag a v else t.refuse ag a .refusedRange)
  else if a = A.bsnOcell then
    s.bossWrite ag a (fun t =>
      State.status { t with bsn := { t.bsn with
        cellCeil := SMap.set (fun _ => 0xFFFF) t.bsn.cellCeil (t.osel ag) (bits v 15 0) } } .ok)
  else s.bossWrite ag a (fun t => t.plainWrite ag a v)

/-- Writes of the TBL block (chapter 11). -/
def State.writeTbl (s : State) (ag : Agent) (a : Nat) (v : W32) : State :=
  if a = A.tblCmd then
    s.userWrite ag 0x09 a (fun t => t.tblSubmit ag (bits v 3 0) (bits v 5 4) (bit v 6) (bits v 31 16))
  else if a < 0x90100 then s.userWrite ag 0x09 a (fun t => t.plainWrite ag a v)
  else s.bossWrite ag a (fun t => t.plainWrite ag a v)

/-- Writes of the BRG block (chapter 12). -/
def State.writeBrg (s : State) (ag : Agent) (a : Nat) (v : W32) : State :=
  if a = A.brgCmd then
    match bits v 3 0 with
    | 1 => landed s (execAdmit ag s)
    | 2 => landed s (execWelcome ag s)
    | 3 => landed s (execRelease ag s)
    | 4 => landed s (execBind ag s)
    | 5 => landed s (execPartnerRead ag s)
    | _ => landed s (s.brgGive ag (fun t => t.brgDone ag .refusedRange 0))
  else if a = A.brgCommit then landed s (execBrgCommit ag v s)
  else if A.brgCmd < a ∧ a < A.brgCommit then s.userWrite ag 0x0A a (fun t => t.plainWrite ag a v)
  else s.bossWrite ag a (fun t => t.plainWrite ag a v)

/-- A write of PRT_CTRLn: ADMIN_DOWN takes the port out of service; its end starts the return count of a link that is up
(R399, R400). -/
def State.portCtrlWrite (s : State) (n : Nat) (v : W32) : State :=
  let down := bit (s.reg (A.prtCtrl n)) 0
  let s1 := s.setReg (A.prtCtrl n) (w32 (bits v 1 0))
  if bit v 0 && !down then (s1.leaveService n).status .ok
  else if down && !bit v 0 && bit (s.reg (A.prtStat n)) 0 then
    State.status (s1.setPort n { s1.port n with upSince := some s1.time }) .ok
  else s1.status .ok

/-- Writes of the PRT block (chapter 13). -/
def State.writePrt (s : State) (ag : Agent) (a : Nat) (v : W32) : State :=
  let n := (a - 0xB1000) / 0x800
  let o := a % 0x800
  if inArr a (A.prtMdioCmd 0) 0x10 2 then s.mdioStart ag ((a - A.prtMdioCmd 0) / 0x10) v
  else if inArr a (A.prtMdioCfg 0) 0x10 2 then
    s.bossWrite ag a (fun t => if bits v 7 0 < 19 then t.refuse ag a .refusedRange else t.plainWrite ag a v)
  else if 0xB1000 ≤ a ∧ a < 0xB5000 then
    if o = 0x008 then landed s (execPauseqWrite ag (Fin.ofNat 8 n) v s)
    else s.bossWrite ag a (fun t =>
      if o = 0x000 then t.portCtrlWrite n v
      else if (o = 0x018 ∧ 128 < bits v 7 0) ∨ (0x100 ≤ o ∧ o < 0x300 ∧ bits v 9 8 = 3) then t.refuse ag a .refusedRange
      else t.plainWrite ag a v)
  else s.bossWrite ag a (fun t => t.plainWrite ag a v)

/-- Writes of the DRC block (chapter 14). A write of DRC_SRx.MASK with CMD EXIT does not change which segments are lost. -/
def State.writeDrc (s : State) (ag : Agent) (a : Nat) (v : W32) : State :=
  if inArr a (A.drcSr 0) 0x400 2 then
    let x : Fin 2 := Fin.ofNat 2 ((a - A.drcSr 0) / 0x400)
    match bits v 1 0 with
    | 1 => landed s (execSrEnter ag x (fldOf v 8 16) s)
    | 2 => s.bossWrite ag a (fun t =>
        let t1 := t.setFld a 23 8 (bits v 23 8)
        landed t1 (execSrExit ag x t1))
    | _ => s.bossWrite ag a (fun t => t.plainWrite ag a v)
  else s.bossWrite ag a (fun t => t.plainWrite ag a v)

/-- A plain write of a watch slot's target or value; an armed slot whose condition now holds fires (R449). -/
def State.watchWrite (s : State) (ag : Agent) (a : Nat) (v : W32) : State :=
  let t := s.plainWrite ag a v
  let w := (a - 0xD2000) / 16
  if bit (t.reg (A.sauWctl w)) 31 && t.watchHolds w (t.watchTarget w) false then (t.watchFire w (t.watchTarget w)).status .ok
  else t

/-- A write of SAU_ACMD: the operation of FUNC and SIZE (R452). -/
def State.acmdWrite (s : State) (ag : Agent) (v : W32) : State :=
  if !isHost ag then s.refuse ag A.sauAcmd .refusedRights else s.hostAtomic ag (bits v 2 0) (bits v 5 4)

/-- Writes of the SAU block (chapter 15). -/
def State.writeSau (s : State) (ag : Agent) (a : Nat) (v : W32) : State :=
  if !s.reaches ag 0x0D then s.refuse ag a (reachStatus s ag)
  else if inArr a (A.sauSem 0) 4 512 then landed s (execSemaphoreClaim ag (Fin.ofNat 512 ((a - A.sauSem 0) / 4)) v s)
  else if inArr a (A.sauRel 0) 4 512 then
    let n : Fin 512 := Fin.ofNat 512 ((a - A.sauRel 0) / 4)
    match bits v 1 0 with
    | 1 => landed s (execSemaphoreRelease ag n s)
    | 2 => landed s (execSemaphoreAcknowledge ag n s)
    | _ => s.status .ok
  else if inArr a (A.sauGrp 0) 4 32 then landed s (execGroupWrite ag (Fin.ofNat 32 ((a - A.sauGrp 0) / 4)) v s)
  else if a = A.sauForce then landed s (execForceRelease ag (Fin.ofNat 512 (bits v 8 0)) s)
  else if inArr a (A.sauWctl 0) 16 64 then
    let w : Fin 64 := Fin.ofNat 64 ((a - A.sauWctl 0) / 16)
    if bit v 31 then landed s (execWatchArm ag w v s) else landed s (execWatchDisarm ag w v s)
  else if inArr a (A.sauWtgt 0) 16 64 ∨ inArr a (A.sauWval 0) 16 64 then s.watchWrite ag a v
  else if a = A.sauAcmd then s.acmdWrite ag v
  else if hostOnly a && !isHost ag then s.refuse ag a .refusedRights
  else s.plainWrite ag a v

/-- A write of TNT_MCFG: LOG2SIZE is 2 to 8 and VECTOR one of the manager's; while EN is 1 a new LOG2SIZE is dropped and
logged (R462). -/
def State.mcfgWrite (s : State) (ag : Agent) (v : W32) : State :=
  let a := A.tntMcfg
  let on := bit (s.reg a) 0
  if s.shp.mgrVectors ≤ bits v 24 16 then s.refuse ag a .refusedRange
  else if on then
    let s1 := s.setReg a (w32 (b2n (bit v 0) + s.fld a 11 8 * 0x100 + bits v 24 16 * 0x10000))
    if bits v 11 8 = s.fld a 11 8 then s1.status .ok else s1.refuse ag a .refusedNotReady
  else if bits v 11 8 < 2 ∨ 8 < bits v 11 8 then s.refuse ag a .refusedRange
  else s.plainWrite ag a v

/-- Writes of the TNT block (chapter 16). -/
def State.writeTnt (s : State) (ag : Agent) (a : Nat) (v : W32) : State :=
  if a = A.tntFcmd then
    s.userWrite ag 0x0E a (fun t =>
      if bits v 3 0 = 1 then landed t (execPost ag t) else t.refuse ag a .refusedRange)
  else if inArr a (A.tntFarg 0) 4 7 then s.userWrite ag 0x0E a (fun t => t.plainWrite ag a v)
  else if ag ≠ agManager then s.refuse ag a .refusedRights
  else if s.regOff a then s.refuse ag a .refusedNotReady
  else if a = A.tntMdb then landed s (execMailboxDoorbell v s)
  else if a = A.tntMcfg then s.mcfgWrite ag v
  else if (a = A.tntMbaseLo ∨ a = A.tntMbaseHi) ∧ bit (s.reg A.tntMcfg) 0 = true then s.refuse ag a .refusedNotReady
  else if a = A.tntHerr1 ∧ bit v 31 = true then ((s.setReg A.tntHerr0 0#32).setReg A.tntHerr1 0#32).status .ok
  else s.plainWrite ag a v

/-- Writes of the FUL block: the configuration of an armed stream does not change (R495). ARM, DISARM and RESTART of one write are
performed in bit order. -/
def State.writeFul (s : State) (ag : Agent) (a : Nat) (v : W32) : State :=
  let n := (a - 0xF0000) / 0x20
  let m : Fin 64 := Fin.ofNat 64 n
  s.userWrite ag 0x0F a (fun t =>
    if inArr a (A.fulScfg 0) 0x20 64 ∨ inArr a (A.fulSown 0) 0x20 64 ∨ inArr a (A.fulSchunk 0) 0x20 64 then
      if bit (t.reg (A.fulSstat n)) 0 then
        (t.setFld (A.fulSstat n) 15 8 Status.refusedNotReady.code).status .refusedNotReady
      else (t.plainWrite ag a v).setFld (A.fulSstat n) 15 8 0
    else if inArr a (A.fulSctl 0) 0x20 64 then
      let t1 := if bit v 0 then landed t (execStreamArm ag m t) else t.status .ok
      let t2 := if bit v 1 then landed t1 (execStreamDisarm ag m t1) else t1
      if bit v 2 then landed t2 (execStreamRestart ag m t2) else t2
    else t.plainWrite ag a v)

/-- Writes of the STB block (chapter 17). -/
def State.writeStb (s : State) (ag : Agent) (a : Nat) (v : W32) : State :=
  let n : Fin 16 := Fin.ofNat 16 ((a - 0x100000) / 0x40)
  if inArr a (A.stbThi 0) 0x40 16 then landed s (execTimeArm ag n v s)
  else if inArr a (A.stbCtl 0) 0x40 16 ∧ bit v 0 = true then landed s (execStrobeDisarm ag n s)
  else if inArr a (A.stbCcfg 0) 0x20 16 then
    landed s (execCaptureEdgeConfig ag (Fin.ofNat 16 ((a - A.stbCcfg 0) / 0x20)) v s)
  else s.userWrite ag 0x10 a (fun t => t.plainWrite ag a v)

/-- A write of SHF_CHCTLn: ENABLE 0 stops the channel; ENABLE 1 starts it, and ABORT then aborts (R528, R529). -/
def State.chctlWrite (s : State) (ag : Agent) (n : Fin 24) (v : W32) : State :=
  if bit v 0 then
    let t := landed s (execShiftEnable ag n v s)
    if bit v 1 then landed t (execShiftAbort ag n t) else t
  else landed s (execShiftDisable ag n v s)

/-- Writes of the SHF block (chapter 18). -/
def State.writeShf (s : State) (ag : Agent) (a : Nat) (v : W32) : State :=
  let n : Fin 24 := Fin.ofNat 24 ((a - 0x110000) / 0x40)
  if inArr a (A.shfChctl 0) 0x40 24 then s.chctlWrite ag n v
  else if inArr a (A.shfStart 0) 0x40 24 then landed s (execShiftStart ag n v s)
  else if inArr a (A.shfTx 0) 0x40 24 then landed s (execShiftTxPush ag n v s)
  else if a = A.shfUdataHi then landed s (execMicrocodeWrite ag v s)
  else if a = A.shfBankctl then
    if bit v 0 then landed s (execBankVerify ag (fldOf v 16 12) s) else s.bossWrite ag a (fun t => t.status .ok)
  else if a < 0x110800 then s.userWrite ag 0x11 a (fun t => t.plainWrite ag a v)
  else s.bossWrite ag a (fun t => t.plainWrite ag a v)

/-- Writes of the EVR block (chapter 19). -/
def State.writeEvr (s : State) (ag : Agent) (a : Nat) (v : W32) : State :=
  if inArr a (A.evrRoute 0) 4 768 then landed s (execRouteWrite ag (Fin.ofNat 768 ((a - A.evrRoute 0) / 4)) v s)
  else if inArr a (A.evrPend 0) 4 24 then landed s (execPendClear ag (Fin.ofNat 24 ((a - A.evrPend 0) / 4)) v s)
  else s.bossWrite ag a (fun t => t.plainWrite ag a v)

/-- A write of SEC_MCMD: the command of Table 20-8 or Table 21-7. Whether the flash reads back what UPD_DATA programmed is a free
value here. -/
def State.mcmdWrite (s : State) (ag : Agent) (v : W32) : State :=
  let f := s.fresh
  let q : BitVec 16 := fldOf v 16 16
  match bits v 7 0 with
  | 0x01 => landed s (execWardenStatus ag q s)
  | 0x02 => landed s (execRandom ag q s)
  | 0x40 => landed s (execChallenge ag q false s)
  | 0x41 => landed s (execLcsRequest ag q false [] s)
  | 0x42 => landed s (execDebugRevoke ag q s)
  | 0x50 => landed s (execUpdBegin ag q s)
  | 0x51 => landed s (execUpdData ag q (bit f.1 0) f.2)
  | 0x52 => landed s (execUpdVerify ag q s)
  | 0x53 => landed s (execUpdActivate ag q s)
  | 0x54 => landed s (execUpdConfirm ag q s)
  | 0x55 => landed s (execUpdAbort ag q s)
  | 0x56 => landed s (execUpdStatus ag q s)
  | _ => landed s (execMailboxForward ag (fldOf v 0 8) q s)

/-- Writes of the SEC block (chapter 20). -/
def State.writeSec (s : State) (ag : Agent) (a : Nat) (v : W32) : State :=
  s.bossWrite ag a (fun t => if a = A.secMcmd then t.mcmdWrite ag v else t.plainWrite ag a v)

/-- A write of a block register by agent `ag`, with the block's rights and checks. Slots 0x17 to 0xFF are unassigned. -/
def State.blockWrite (s : State) (ag : Agent) (a : Nat) (v : W32) : State :=
  if zeroField a v then s.status .zeroLength
  else
    match a / 0x10000 with
    | 0x01 => s.writePwr ag a v
    | 0x02 => s.writeMon ag a v
    | 0x03 => s.writeTb ag a v
    | 0x04 => s.writeShp ag a v
    | 0x06 => s.writeFlt ag a v
    | 0x07 => s.writeLkp ag a v
    | 0x08 => s.writeBsn ag a v
    | 0x09 => s.writeTbl ag a v
    | 0x0A => s.writeBrg ag a v
    | 0x0B => s.writePrt ag a v
    | 0x0C => s.writeDrc ag a v
    | 0x0D => s.writeSau ag a v
    | 0x0E => s.writeTnt ag a v
    | 0x0F => s.writeFul ag a v
    | 0x10 => s.writeStb ag a v
    | 0x11 => s.writeShf ag a v
    | 0x12 => s.writeEvr ag a v
    | 0x13 => s.writeSec ag a v
    | 0x16 => if a = A.bootCtrl then s.bootCtrl ag v else s.bossWrite ag a (fun t => t.status .ok)
    | _ => if isBoss ag || isThread ag && s.reaches ag (a / 0x10000) then s.status .ok else s.refuse ag a .refusedRights

/-! ### The security island -/

/-- A write of a register of the security island by warden slot `k` (section 20.7); a KEY operation that takes time holds the
slot. -/
def State.islandWrite (s : State) (k : Fin 4) (a : Nat) (v : W32) : State :=
  let plain := fun (t : State) =>
    let r := t.plainWrite (slotAgent (wslot k)) a v
    State.slotAnswer (wslot k) (r.reply.status, r)
  if zeroField a v then State.slotAnswer (wslot k) (.zeroLength, s)
  else if a = A.secKop then landed s (s.keyCmd k (bits v 3 0) (fldOf v 4 12))
  else if a = A.secRootctl then
    match bits v 1 0 with
    | 0 => State.slotAnswer (wslot k) (.ok, s)
    | 1 => landed s (execInstall k (fldOf v 4 12) s)
    | 2 => landed s (execGenerate k s)
    | _ => State.slotAnswer (wslot k) (.refusedRange, s.setFld a 31 24 Status.refusedRange.code)
  else if a = A.secTampcfg ∧ bit (s.reg a) 31 = true then State.slotAnswer (wslot k) (.ok, s)
  else if inArr a (A.secHoldpd 0) 4 3 then landed s (execSecureHoldWrite k (Fin.ofNat 4 ((a - A.secHoldpd 0) / 4)) v s)
  else if a = A.secHoldck then landed s (execSecureHoldWrite k 3 v s)
  else if a = A.secWdkick then landed s (execWatchdogKick k v s)
  else if a = A.secWreset then landed s (execWardenReset k v s)
  else if a = A.secMdone then landed s (execMailboxDone k v s)
  else plain s

/-! ### The tenant windows, the MSI-X table and who an access comes from -/

/-- An address lies in a tenant's window. -/
def inTenantWindow (a : Nat) : Bool := decide (0x1000000 ≤ a ∧ a < 0x1200000)

/-- The tenant of a window address. -/
def windowTenant (a : Nat) : Nat := (a - 0x1000000) / 0x10000

/-- The agent of an access: a host access is told apart by its address only, so that one in a window is its tenant's
(R458). -/
def accessAgent (ag : Agent) (a : Nat) : Agent :=
  if isHost ag && inTenantWindow a then BitVec.ofNat 12 (0x400 + windowTenant a) else ag

/-- A write in tenant `t`'s window at offset `o` (Table 16-7, R467). -/
def State.windowWrite (s : State) (t o : Nat) (v : W32) : State :=
  let ag := BitVec.ofNat 12 (0x400 + t)
  let u : Fin 32 := Fin.ofNat 32 t
  if s.tenantState t ≠ 1 then s.refuse ag (tntWin t o) .refusedNotReady
  else if o < 0x100 then
    if o % 8 = 0 then landed s (execSqDoorbell u (Fin.ofNat 32 (o / 8)) v s)
    else if o % 8 ≠ 4 then s.status .ok
    else landed s (execCqDoorbell u (Fin.ofNat 32 (o / 8)) v s)
  else if o = 0x100 then
    (s.setReg (A.tntTstat t) (s.reg (A.tntTstat t) &&& ~~~(v &&& 4#32))).status .ok
  else if o = 0x104 then landed s (execTenantSelfReset u v s)
  else if 0x4000 ≤ o ∧ o < 0x7000 then
    let a := 0xD0000 + (o - 0x4000)
    if zeroField a v then s.status .zeroLength else s.writeSau ag a v
  else s.status .ok

/-- A write of the MSI-X table: the address and data words of an entry, or its mask bit; a vector that is unmasked with its
pending bit set is sent (R486, R487). The pending bits are read-only. -/
def State.msixWrite (s : State) (a : Nat) (v : W32) : State :=
  let n := (a - 0x1200000) / 16
  if 0x1202000 ≤ a then s.status .ok
  else if a % 16 ≠ 12 then (s.setReg a v).status .ok
  else
    let on := !bit v 0
    let s1 : State := { s with msix := { s.msix with unmasked := SMap.set (fun _ => false) s.msix.unmasked n on } }
    let go := on && SMap.get (fun _ => false) s1.msix.pend n && s1.tnt.busMaster && s1.msix.enable && !s1.msix.fmask
    let s2 : State := if go then { s1 with msix := { s1.msix with
        sent := s1.msix.sent ++ [n], pend := SMap.set (fun _ => false) s1.msix.pend n false } } else s1
    s2.status .ok

/-- The reply of a host access while Memory Space Enable is 0: Unsupported Request. -/
def State.unsupported (s : State) : State :=
  { s with reply := { status := .ok, value := 0#64, unsupported := true, retry := false } }

/-- A write of the register at `a` by agent `ag`: BAR0 addresses, and the security island from 0x8000_0000 on. -/
def State.writeReg (s : State) (ag0 : Agent) (a : Nat) (v : W32) : State :=
  let ag := accessAgent ag0 a
  if 0x80000000 ≤ a then
    if isWarden ag then s.islandWrite (Fin.ofNat 4 (ag.toNat - 0x7F0)) a v else s.refuse ag a .refusedRights
  else if inTenantWindow a then
    if isTenant ag && decide (ag.toNat = 0x400 + windowTenant a) then s.windowWrite (windowTenant a) (a % 0x10000) v
    else s.refuse ag a .refusedRights
  else if isTenant ag || isHardware ag then s.refuse ag a .refusedRights
  else if 0x1000000 ≤ a then
    if ag ≠ agManager then s.refuse ag a .refusedRights
    else if a < 0x1202040 then s.msixWrite a v
    else s.status .ok
  else s.blockWrite ag a v

/-- REGISTER_WRITE (R9, R11, R12, R14 to R16). A host access needs Memory Space Enable. -/
def execRegisterWrite (ag : Agent) (a v : W32) (s : State) : Host.Outcome State Fault Refusal :=
  if isHost ag && !s.tnt.memSpace then .next s.unsupported else .next (s.writeReg ag a.toNat v)

/-! ### Reads -/

/-- A read of register `a` that is refused: a thread or a warden slot gets 0, the host 0xFFFF_FFFF and an entry in the log
(R24, R180, R461, R611). -/
def State.refuseReg (s : State) (ag : Agent) (a : Nat) (st : Status) : State :=
  if isHost ag then (s.logHost (hostOffset ag a) st false false ag).answer st 0xFFFFFFFF#64 else s.answer st 0#64

/-- The fields of a register that a read clears (R10): those with access RC. -/
def State.readClears (s : State) (ag : Agent) (a : Nat) : State :=
  match regAt a with
  | some d =>
    if d.rc = 0 then s
    else
      let k := if d.perAgent then agKey ag a else a
      s.setReg k (s.reg k &&& ~~~(w32 d.rc))
  | none => s

/-- The high half that a read of a low cell, of TB_NOW_LO or of TB_CYCSTART_LO copies into the agent's latch (R17, R88). -/
def State.readLatches (s : State) (ag : Agent) (a : Nat) : State :=
  if isCtrLow a then s.setLatch ag (hi32 (s.counter a))
  else if a = A.tbNowLo then s.setLatch ag (hi32 s.tb.now)
  else if a = A.tbCycstartLo then s.setLatch ag (hi32 s.tb.cycStart)
  else s

/-- A read of a register that returns its view, with what the read does. A normal-world agent's read of a secure source's
count has no effect (R547). -/
def State.readPlain (s : State) (ag : Agent) (a : Nat) : State :=
  let v := s.view ag a
  let hid := inArr a (A.evrCount 720) 4 32 && !isWarden ag
  ((if hid then s else s.readClears ag a).readLatches ag a).answer .ok (v.setWidth 64)

/-- A read of a block register: the pops, or its view. -/
def State.blockRead (s : State) (ag : Agent) (a : Nat) : State :=
  if !s.mayRead ag a then s.refuseReg ag a .refusedRights
  else if s.regOff a then s.refuseReg ag a .refusedNotReady
  else if inArr a (A.prtTspop0 0) 0x10 9 then landed s (execTspop ag (Fin.ofNat 9 ((a - A.prtTspop0 0) / 0x10)) s)
  else if inArr a (A.stbCpop0 0) 0x20 16 then landed s (execCapturePop ag (Fin.ofNat 16 ((a - A.stbCpop0 0) / 0x20)) s)
  else if inArr a (A.shfRx 0) 0x40 24 then landed s (execShiftRxPop ag (Fin.ofNat 24 ((a - A.shfRx 0) / 0x40)) s)
  else s.readPlain ag a

/-- A read in tenant `t`'s window at offset `o` (Table 16-7, R467). -/
def State.windowRead (s : State) (t o : Nat) : State :=
  let ag := BitVec.ofNat 12 (0x400 + t)
  let a := tntWin t o
  let val := fun (v : W32) => s.answer .ok (v.setWidth 64)
  if o = 0x100 then val (s.reg (A.tntTstat t))
  else if s.tenantState t ≠ 1 then s.answer .refusedNotReady 0#64
  else if (o < 0x20 ∧ o % 4 = 0) ∨ o = 0x108 then val (s.reg a)
  else if isCtrLow a || isCtrHigh a then s.readPlain ag a
  else if 0x4000 ≤ o ∧ o < 0x7000 then s.readPlain ag (0xD0000 + (o - 0x4000))
  else val 0#32

/-- A read of the MSI-X table or the pending bits. An entry reads masked until it is unmasked. -/
def State.msixRead (s : State) (a : Nat) : W32 :=
  let n := (a - 0x1200000) / 16
  if a < 0x1202000 then
    if a % 16 = 12 then w32 (b2n (!SMap.get (fun _ => false) s.msix.unmasked n)) else s.reg a
  else
    w32 (sumNat ((rangeFrom 32 0).map (fun i =>
      b2n (SMap.get (fun _ => false) s.msix.pend ((a - 0x1202000) / 4 * 32 + i)) * 2 ^ i)))

/-- A read of the register at `a` by agent `ag`: the value and the status stand in the reply. -/
def State.readReg (s : State) (ag0 : Agent) (a : Nat) : State :=
  let ag := accessAgent ag0 a
  if 0x80000000 ≤ a then
    if isWarden ag then s.readPlain ag a else s.refuseReg ag a .refusedRights
  else if inTenantWindow a then
    if isTenant ag && decide (ag.toNat = 0x400 + windowTenant a) then s.windowRead (windowTenant a) (a % 0x10000)
    else s.refuseReg ag a .refusedRights
  else if isTenant ag || isHardware ag then s.refuseReg ag a .refusedRights
  else if 0x1000000 ≤ a then
    if ag ≠ agManager then s.refuseReg ag a .refusedRights
    else s.answer .ok ((if a < 0x1202040 then s.msixRead a else 0#32).setWidth 64)
  else s.blockRead ag a

/-- A read as a command: a host access needs Memory Space Enable. -/
def State.readCmd (s : State) (ag : Agent) (a : Nat) : State :=
  if isHost ag && !s.tnt.memSpace then s.unsupported else s.readReg ag a

/-- RC_READ: a read of a register with an RC field (R10). -/
def execRcRead (ag : Agent) (a : W32) (s : State) : Host.Outcome State Fault Refusal := .next (s.readCmd ag a.toNat)

/-- COUNTER_LOW_READ: the low half, with the high half in the reader's latch (R17). -/
def execCounterLowRead (ag : Agent) (a : W32) (s : State) : Host.Outcome State Fault Refusal := .next (s.readCmd ag a.toNat)

/-- COUNTER_HIGH_READ: the reader's latch (R18). -/
def execCounterHighRead (ag : Agent) (a : W32) (s : State) : Host.Outcome State Fault Refusal := .next (s.readCmd ag a.toNat)

/-- SHADOW_READBACK: a read of TB_SHRB_DATA, without side effects (R104). -/
def execShadowReadback (ag : Agent) (s : State) : Host.Outcome State Fault Refusal :=
  .next (s.readCmd ag A.tbShrbData)

/-! ### Host accesses of other widths (R20 to R22) -/

/-- HOST_BAR0_SUBWORD_READ: 1 byte, or 2 with `two`, of a full read (R20). -/
def execHostBar0SubwordRead (off : BitVec 25) (two : Bool) (s : State) : Host.Outcome State Fault Refusal :=
  let o := off.toNat
  let t := s.readCmd agManager (o - o % 4)
  let v := (t.reply.value.toNat >>> (8 * (o % 4))) % (if two then 0x10000 else 0x100)
  .next (if t.reply.unsupported then t else t.answer t.reply.status (BitVec.ofNat 64 v))

/-- HOST_BAR0_SUBWORD_WRITE: dropped and logged (R21). The reason code in the log is not stated and is free; a posted write has
no answer. -/
def execHostBar0SubwordWrite (off : BitVec 25) (two : Bool) (v : BitVec 16) (s : State) : Host.Outcome State Fault Refusal :=
  let a := off.toNat
  let r := bits s.fresh.1 7 0
  let t := s.fresh.2.logHost a .ok false true (accessAgent agManager a)
  let t1 := if bit (s.reg A.tntHerr1) 31 then t else t.setFld A.tntHerr1 7 0 r
  let t2 := if inTenantWindow a then t1.setReg (tntWin (windowTenant a) 0x108) (w32 (a % 0x10000 + r * 0x10000)) else t1
  let _ := (two, v)
  if !s.tnt.memSpace then .next s.unsupported else .next t2

/-- HOST_BAR0_QWORD_ACCESS: two accesses of 32 bits, the lower address first (R22). -/
def execHostBar0QwordAccess (off : BitVec 25) (write : Bool) (v : W64) (s : State) : Host.Outcome State Fault Refusal :=
  let o := off.toNat
  if !s.tnt.memSpace then .next s.unsupported
  else if write then .next ((s.writeReg agManager o (lo32 v)).writeReg agManager (o + 4) (hi32 v))
  else
    let t := s.readReg agManager o
    let u := t.readReg agManager (o + 4)
    .next (u.answer u.reply.status (cat64 (lo32 u.reply.value) (lo32 t.reply.value)))

end Sys2Proof.Machine
end

