-- ==== Sys2Proof/Machine/Debug.lean ====
section
/-! DEFINITION. The JTAG port: the debug TAP's accesses and slot control, and the boundary-scan TAP (sections 21.4 and 23.11,
R597, R647, R648). -/

namespace Sys2Proof.Machine

/-- An instruction of the debug TAP with code `ir` that needs right `what` (0 NORMAL, 1 SECURE): from S04 on, within the rights in
effect (R597). -/
def State.tap (s : State) (what ir : Nat) (f : State → State) : Host.Outcome State Fault Refusal :=
  if s.boot.step < 4 then .next s
  else if s.tapMay what then .next (f (s.tapIr ir))
  else .next s.tapDenied

/-- NMEM: a read or write of the register at BAR0 address `a` as the manager. It needs no link and no Memory Space Enable, and it
answers before S20 too. -/
def execNmem (a : BitVec 24) (write : Bool) (v : W32) (s : State) : Host.Outcome State Fault Refusal :=
  s.tap 0 0x20 (fun t => if write then t.writeReg agManager a.toNat v else t.readReg agManager a.toNat)

/-! ### Slot control -/

/-- The register of slot `w`'s thread that a register code reads: 0 to 23 of Table 7-2, 24 to 29 pc, wcur, wlive, rsp, flags and
tid; other codes are not stated and read a free value. -/
def State.tapReg (s : State) (w : SlotId) (code : Nat) : State :=
  let x := s.slot w
  if code < 24 then s.answer .ok ((x.ctx.rd (BitVec.ofNat 5 code)).setWidth 64)
  else if code < 30 then s.answer .ok ((x.special w (code - 24)).setWidth 64)
  else s.fresh.2.answer .ok (s.fresh.1.setWidth 64)

/-- Halt: the slot issues nothing until it is stepped or resumed. -/
def State.haltSlot (s : State) (w : SlotId) : State := s.setSlot w { s.slot w with halted := true, stepOne := false }

/-- Step: a halted slot issues one instruction. -/
def State.stepSlot (s : State) (w : SlotId) : State :=
  if (s.slot w).halted then s.setSlot w { s.slot w with stepOne := true } else s

/-- Resume: the slot issues again. -/
def State.resumeSlot (s : State) (w : SlotId) : State := s.setSlot w { s.slot w with halted := false, stepOne := false }

/-- The slot of a core and slot number. -/
def coreSlot (core : BitVec 6) (slot : BitVec 3) : SlotId :=
  ⟨core.toNat * 8 + slot.toNat, by have := core.isLt; have := slot.isLt; omega⟩

/-- NCORE_HALT. -/
def execNcoreHalt (core : BitVec 6) (slot : BitVec 3) (code : BitVec 5) (s : State) : Host.Outcome State Fault Refusal :=
  s.tap 0 0x21 (fun t => (t.haltSlot (coreSlot core slot)).tapReg (coreSlot core slot) code.toNat)

/-- NCORE_STEP. -/
def execNcoreStep (core : BitVec 6) (slot : BitVec 3) (code : BitVec 5) (s : State) : Host.Outcome State Fault Refusal :=
  s.tap 0 0x21 (fun t => (t.stepSlot (coreSlot core slot)).tapReg (coreSlot core slot) code.toNat)

/-- NCORE_RESUME. -/
def execNcoreResume (core : BitVec 6) (slot : BitVec 3) (code : BitVec 5) (s : State) : Host.Outcome State Fault Refusal :=
  s.tap 0 0x21 (fun t => (t.resumeSlot (coreSlot core slot)).tapReg (coreSlot core slot) code.toNat)

/-- SCORE_HALT: on a warden slot. -/
def execScoreHalt (slot : Fin 4) (code : BitVec 5) (s : State) : Host.Outcome State Fault Refusal :=
  s.tap 1 0x31 (fun t => (t.haltSlot (wslot slot)).tapReg (wslot slot) code.toNat)

/-- SCORE_STEP: on a warden slot. -/
def execScoreStep (slot : Fin 4) (code : BitVec 5) (s : State) : Host.Outcome State Fault Refusal :=
  s.tap 1 0x31 (fun t => (t.stepSlot (wslot slot)).tapReg (wslot slot) code.toNat)

/-- SCORE_RESUME: on a warden slot. -/
def execScoreResume (slot : Fin 4) (code : BitVec 5) (s : State) : Host.Outcome State Fault Refusal :=
  s.tap 1 0x31 (fun t => (t.resumeSlot (wslot slot)).tapReg (wslot slot) code.toNat)

/-! ### The security island -/

/-- A random request that an SMEM write made belongs to no slot; its timeout is not stated and is free (assumption 6). -/
def State.orphanRng (s : State) (n : Nat) : State :=
  let f := s.fresh
  let mine := fun (r : RngReq) => { r with agent := 0#12, deadline := s.time + f.1.toNat }
  if s.sec.queue.length ≤ n then s
  else { f.2 with sec := { s.sec with queue := s.sec.queue.take n ++ (s.sec.queue.drop n).map mine } }

/-- A write of the security island by the TAP: what a warden slot's write does, but no thread's OSTAT changes and no slot
holds. -/
def State.tapIsland (s : State) (a : Nat) (v : W32) : State :=
  let w := wslot 0
  let u := (s.status .ok).islandWrite 0 a v
  let x := s.slot w
  let y := u.slot w
  let u1 := if y.thread = x.thread then
      u.setSlot w { y with held := x.held, ctx := { y.ctx with flags := x.ctx.flags } } else u
  u1.orphanRng s.sec.queue.length

/-- SMEM: a read or write of a register of the security island, at its warden IO address; other addresses are unassigned. KEY is
in no register (R559, R597). -/
def execSmem (a : BitVec 24) (write : Bool) (v : W32) (s : State) : Host.Outcome State Fault Refusal :=
  let n := a.toNat
  s.tap 1 0x30 (fun t =>
    if n < 0x800000 ∨ 0x800100 ≤ n then t.status .ok
    else if write then t.tapIsland (0x80000000 + (n - 0x800000)) v
    else t.readReg 0x7F0#12 (0x80000000 + (n - 0x800000)))

/-- DEBUG_IDCODE: the identification code of the debug TAP (Table 23-16); before S04 completes the TAPs are held in
Test-Logic-Reset, and no instruction is taken (Table 3-2). -/
def execDebugIdcode (s : State) : Host.Outcome State Fault Refusal :=
  if s.boot.step < 4 then .next s else .next ((s.tapIr 0x01).answer .ok 0xB6418B47#64)

/-! ### The boundary-scan TAP -/

/-- The state with instruction `n` in the boundary-scan TAP (Table 23-15). -/
def State.scanIr (s : State) (n : Nat) : State := { s with jtag := { s.jtag with scanIr := n } }

/-- The pins are driven by the boundary register or float: EXTEST, INTEST, CLAMP or HIGHZ is in effect, and their own functions go on
unseen (section 23.11, Edges). -/
def State.pinsTaken (s : State) : Bool := decide (s.jtag.scanIr = 0 ∨ s.jtag.scanIr = 3 ∨ s.jtag.scanIr = 4 ∨ s.jtag.scanIr = 5)

/-- A boundary-scan instruction that needs the right of Table 21-1: it is not taken before S04 completes (Table 3-2), and without
the right it acts as BYPASS and is counted (R597). -/
def State.scan (s : State) (f : State → State) : Host.Outcome State Fault Refusal :=
  if s.boot.step < 4 then .next s
  else if s.tapMay 2 then .next ((f s).status .ok)
  else .next (s.tapCount.scanIr 0x1F)

/-- The boundary register loaded with `cells`. -/
def State.loadCells (s : State) (cells : BitVec 358) : State := { s with jtag := { s.jtag with scanReg := cells } }

/-- EXTEST: the boundary register, with its new cells, drives the pins. -/
def execExtest (cells : BitVec 358) (s : State) : Host.Outcome State Fault Refusal :=
  s.scan (fun t => (t.loadCells cells).scanIr 0x00)

/-- INTEST: the boundary register takes the place of the pins toward the core. -/
def execIntest (cells : BitVec 358) (s : State) : Host.Outcome State Fault Refusal :=
  s.scan (fun t => (t.loadCells cells).scanIr 0x03)

/-- SAMPLE_PRELOAD: the pins as they are (`pins`) are captured, and the boundary register is loaded; the pins keep their
functions. -/
def execSamplePreload (pins cells : BitVec 358) (s : State) : Host.Outcome State Fault Refusal :=
  s.scan (fun t =>
    let u := (t.loadCells cells).scanIr 0x01
    { u with jtag := { u.jtag with scanOut := pins } })

/-- CLAMP: the pins keep the boundary register's levels. -/
def execClamp (s : State) : Host.Outcome State Fault Refusal := s.scan (fun t => t.scanIr 0x04)

/-- HIGHZ: the pins float. -/
def execHighz (s : State) : Host.Outcome State Fault Refusal := s.scan (fun t => t.scanIr 0x05)

/-- IDCODE: the identification code of the boundary-scan TAP (R647). -/
def execIdcode (s : State) : Host.Outcome State Fault Refusal :=
  if s.boot.step < 4 then .next s else .next ((s.scanIr 0x02).answer .ok 0xB6408B47#64)

/-- BYPASS, of the debug TAP or of the boundary-scan TAP. -/
def execBypass (debug : Bool) (s : State) : Host.Outcome State Fault Refusal :=
  if s.boot.step < 4 then .next s
  else .next (if debug then (s.tapIr 0xFF).status .ok else (s.scanIr 0x1F).status .ok)

/-- TEST_LOGIC_RESET: both TAPs hold IDCODE, and the pins return to their functions. -/
def execTestLogicReset (s : State) : Host.Outcome State Fault Refusal := .next (((s.tapIr 0x01).scanIr 0x02).status .ok)

end Sys2Proof.Machine
end

