-- ==== Sys2Proof/Machine/Io.lean ====
section
/-! DEFINITION. IN, OUT, INX and OUTX: the core-local ports, the block mirror and the warden's island registers (Table 6-5,
sections 6.7 and 8.3, Table 20-2). -/

namespace Sys2Proof.Machine

/-! ### The core-local ports -/

/-- The frame that the thread in a slot works on: its ticket and itself. -/
def State.curFrame (s : State) (x : Slot) : Option (Nat × Frame) :=
  match x.thread.bind (fun n => (s.thread n).frame) with
  | some k => (s.frame k).map (fun f => (k, f))
  | none => none

/-- A core-local port that every core has: token operations, fused-unit ports but the helper cluster's, random numbers, core
information and fault ports (Tables 6-5, 8-2, 8-4). -/
def commonPort (a : Nat) : Bool :=
  inArr a 0x100 4 7 || inArr a 0x120 4 7 || decide (a = 0x200 ∨ a = 0x280) || inArr a 0x240 4 16 ||
    decide (a = 0x400 ∨ a = 0x404) || inArr a 0x500 4 3 || inArr a 0x510 4 2 || inArr a 0x520 4 3

/-- A core-local port that the warden core lacks (Table 20-2). -/
def flightPort (a : Nat) : Bool :=
  inArr a 0 4 17 || decide (a = 0x48 ∨ a = 0x4C) || inArr a 0x300 4 3

/-- A window port: WINP0 to WINP15 and WINSEL (R226). -/
def windowPort (a : Nat) : Bool := inArr a 0x240 4 16 || decide (a = 0x280)

/-- The fault kind of the word that holds IO address `a` for slot `w`, 0 when it is allowed (Tables 6-5 and 6-8, R178,
R226). -/
def State.ioWordKind (s : State) (w : SlotId) (x : Slot) (a : Nat) : Nat :=
  if 0x1000000 ≤ a then 1
  else if a < 0x100000 then
    if commonPort a || (flightPort a && !slotWarden w) then (if windowPort a && !x.ctx.inT then 2 else 0) else 1
  else if slotWarden w then (if a < 0x270000 ∨ (0x800000 ≤ a ∧ a < 0x800100) then 0 else 6)
  else
    match s.slotPound w with
    | some p => if a < 0x270000 ∧ bit p.regMask ((a - 0x100000) / 0x10000) = true then 0 else 6
    | none => 6

/-- The fault kind of an access to IO address `a` by slot `w`, 0 when it is allowed: its first and its last byte and the word
rule, the lowest kind (R173, R177, R201). -/
def State.ioKind (s : State) (w : SlotId) (x : Slot) (a : Nat) : Nat :=
  lowerKind (lowerKind (s.ioWordKind w x (a / 4 * 4)) (s.ioWordKind w x ((a + 3) % 0x100000000 / 4 * 4)))
    (if a % 4 ≠ 0 then 4 else 0)

/-- SELF: the handle, the program and the effective priority of the thread in a slot. -/
def State.selfWord (s : State) (x : Slot) : W32 :=
  match x.thread with
  | some n => w32 (s.handle n + (s.thread n).program % 32 * 0x10000 + (s.thread n).effPrio * 0x1000000)
  | none => 0#32

/-- HC_STAT: lookups outstanding in the slot's cluster, and the slots of its quadrant that wait for a unit of it. -/
def State.hcStat (s : State) (w : SlotId) : W32 :=
  let q := slotQuad w
  let waits := SMap.keysWhere (fun (k : Nat) (y : Slot) => decide (slotQuad k = q) && (match y.held with
    | some h => h.cluster || h.submit.isSome
    | none => false)) s.slots
  w32 ((s.uni.lookups.filter (fun l => decide (l.quad = q))).length + waits.length * 0x100)

/-- CORE_INFO. The warden core has no number, quadrant or pound of Table 6-1; what it reads there is not stated and is free
(assumption 6). -/
def State.coreInfo (s : State) (w : SlotId) : W32 × State :=
  if slotWarden w then
    let f := s.fresh
    (setBits (f.1 &&& 0xF00FF#32) 10 8 (w.val - 512), f.2)
  else
    let p := ((s.slotPound w).map (·.pound)).getD 0
    (w32 (w.val / 8 + slotQuad w * 0x40 + w.val % 8 * 0x100 + p * 0x10000), s)

/-- CORE_REGMASK. The warden core has no mask; what it reads is free (assumption 6). -/
def State.coreMask (s : State) (w : SlotId) : W32 × State :=
  if slotWarden w then (s.fresh.1 &&& 0x7FFFFF#32, s.fresh.2)
  else (((s.slotPound w).map (fun p => p.regMask &&& 0x7FFFFF#32)).getD 0#32, s)

/-- What a core-local port reads as; WO ports read 0. -/
def State.localIn (s : State) (w : SlotId) (x : Slot) (a : Nat) : W32 × State :=
  if a < 0x40 then
    match s.curFrame x with
    | some (k, f) => (s.recWord k f (a / 4), s)
    | none => (0#32, s)
  else if inArr a 0x100 4 4 then (nth x.tokval ((a - 0x100) / 4) 0#32, s)
  else if inArr a 0x240 4 16 then (x.ctx.preg (windowReg x.winsel.toNat ((a - 0x240) / 4)), s)
  else
    match a with
    | 0x110 => (x.tokstat, s)
    | 0x114 => (x.wake, s)
    | 0x118 => (s.selfWord x, s)
    | 0x200 => (x.dcCount, s)
    | 0x280 => (w32 x.winsel.toNat, s)
    | 0x300 => (s.hcStat w, s)
    | 0x304 => (x.unitDetail, s)
    | 0x308 => (x.unitArg, s)
    | 0x404 => (x.rngTmo, s)
    | 0x500 => s.coreInfo w
    | 0x504 => (w32 (s.dramWin w), s)
    | 0x508 => s.coreMask w
    | 0x510 => (s.cycle, s)
    | 0x514 => (w32 (s.offset % 0x800000), s)
    | 0x520 => (x.faultAddr, s)
    | 0x524 => (x.faultInfo, s)
    | 0x528 => (x.faultPc, s)
    | _ => (0#32, s)

/-- What an OUT of `v` to a core-local port does, and its status; writes to RO ports are ignored with OK. A WINP port's write is
among the writes at distance 1 (R227). -/
def State.localOut (s : State) (w : SlotId) (x : Slot) (a : Nat) (v : W32) : Status × State :=
  if a < 0x40 then
    match s.curFrame x with
    | some (k, f) => (.ok, s.recWrite (slotAgent w) k f (a / 4) v)
    | none => (.ok, s)
  else
    match a with
    | 0x40 => s.verdict w v
    | 0x48 => (.ok, s.setSlot w { s.slot w with sendBuf := v })
    | 0x4C => s.sendCtl w v
    | 0x120 => s.lkWaittmo w v
    | 0x124 => s.lkCreate w v
    | 0x128 => s.lkAbort w v
    | 0x12C => s.lkExit w v
    | 0x130 => s.lkTmtag w v
    | 0x134 => s.lkTmarm w v
    | 0x138 => s.lkPrio w v
    | 0x280 => (.ok, s.setSlot w { s.slot w with winsel := BitVec.ofNat 2 (bits v 1 0) })
    | 0x400 => s.rngReq w v
    | 0x404 =>
      if bits v 15 0 = 0 then (.zeroLength, s)
      else (.ok, s.setSlot w { s.slot w with rngTmo := w32 (bits v 15 0) })
    | _ => (.ok, s)

/-- The write of a window register through WINP (R226). -/
def winpWrite (x : Slot) (a : Nat) (v : W32) : List PWrite :=
  if inArr a 0x240 4 16 then [{ tgt := .reg (windowReg x.winsel.toNat ((a - 0x240) / 4)), val := v }] else []

/-! ### The instructions -/

/-- The register that an IO address outside the core names: in the block mirror, or on the security island. -/
def ioReg (a : Nat) : Nat := if a < 0x270000 then a - 0x100000 else 0x80000000 + (a - 0x800000)

/-- An access that left the core holds; a slot that the access took its thread from goes on with nothing, and one that holds already
keeps its hold. -/
def State.ioHold (s : State) (w : SlotId) (x : Slot) (ws : List PWrite) : State :=
  let y := s.slot w
  if y.thread ≠ x.thread then s
  else if y.held.isSome then s.setSlot w { y with ctx := { y.ctx with pc := x.next } }
  else s.hold w ws none none false x.next

/-- An access to a core-local port completes; a slot that has lost its thread goes on with nothing. -/
def State.ioDone (s : State) (w : SlotId) (x : Slot) (d1 d2 : List PWrite) : State :=
  if (s.slot w).thread ≠ x.thread then s else s.retire w d1 d2 x.next

/-- IN or INX from address `a` to `rd`: core-local ports at distance 2, all else holds (R180, R201). -/
def State.ioIn (s : State) (w : SlotId) (x : Slot) (rd : RegCode) (a : W32) : State :=
  let k := s.ioKind w x a.toNat
  if k ≠ 0 then s.accessFault w k 2 2 false a x.ctx.pc
  else if a.toNat < 0x100000 then
    let r := s.localIn w x a.toNat
    r.2.ioDone w x [] (x.ctx.dst rd r.1 ++ [ostatWrite .ok])
  else
    let u := (s.status .ok).readReg (slotAgent w) (ioReg a.toNat)
    u.ioHold w x (x.ctx.dst rd (lo32 u.reply.value) ++ [ostatWrite u.reply.status])

/-- OUT or OUTX of `v` to address `a`; one to the block mirror acts as SYNC first (R169, R180, R201, R227). -/
def State.ioOut (s : State) (w : SlotId) (x : Slot) (v a : W32) : State :=
  let k := s.ioKind w x a.toNat
  if k ≠ 0 then s.accessFault w k 2 2 true a x.ctx.pc
  else if a.toNat < 0x100000 then
    let r := s.localOut w x a.toNat v
    r.2.ioDone w x (winpWrite x a.toNat v) [ostatWrite r.1]
  else
    let u := ((s.drain w).status .ok).writeReg (slotAgent w) (ioReg a.toNat) v
    u.ioHold w x [ostatWrite u.reply.status]

/-- IN: rd ← the IO word at field × 4. -/
def execInIo (w : SlotId) (r : RegCode) (word : BitVec 21) (s : State) : Host.Outcome State Fault Refusal :=
  s.issue w (regOk r) (fun x t => t.ioIn w x r (w32 (word.toNat * 4)))

/-- OUT: the IO word at field × 4 ← the register. -/
def execOutIo (w : SlotId) (r : RegCode) (word : BitVec 21) (s : State) : Host.Outcome State Fault Refusal :=
  s.issue w (regOk r) (fun x t => t.ioOut w x (x.ctx.rd r) (w32 (word.toNat * 4)))

/-- INX: rd ← the IO word at ra + imm. -/
def execInx (w : SlotId) (rd ra : RegCode) (imm : BitVec 16) (s : State) : Host.Outcome State Fault Refusal :=
  s.issue w (regOk rd && regOk ra) (fun x t => t.ioIn w x rd (x.ctx.rd ra + simm imm))

/-- OUTX: the IO word at ra + imm ← rd. -/
def execOutx (w : SlotId) (rd ra : RegCode) (imm : BitVec 16) (s : State) : Host.Outcome State Fault Refusal :=
  s.issue w (regOk rd && regOk ra) (fun x t => t.ioOut w x (x.ctx.rd rd) (x.ctx.rd ra + simm imm))

end Sys2Proof.Machine
end

