-- ==== Sys2Proof/Machine/Undef.lean ====
section
/-! DEFINITION. Which 32-bit words are ZLC instructions (R185, Tables 7-1 to 7-11), and the issue of a word that is
none. -/

namespace Sys2Proof.Machine

/-- A register field of a word. -/
def fieldReg (v : W32) (lo : Nat) : RegCode := BitVec.ofNat 5 (bits v (lo + 4) lo)

/-- The fields rd, ra and rb of an R-format word name listed registers. -/
def rFields (v : W32) : Bool := regOk (fieldReg v 21) && regOk (fieldReg v 16) && regOk (fieldReg v 11)

/-- Bits [hi:lo] of a word are zero. -/
def zeroF (v : W32) (hi lo : Nat) : Bool := decide (bits v hi lo = 0)

/-- An ALU-group word is listed (Table 7-5). -/
def aluWord (v : W32) : Bool :=
  let f := bits v 5 0
  rFields v &&
    (if f < 0x0C then zeroF v 10 6
     else if f < 0x10 then zeroF v 15 11
     else if f < 0x13 then zeroF v 10 6
     else if f < 0x15 then zeroF v 25 21 && zeroF v 10 6
     else decide (f = 0x15) && zeroF v 15 6)

/-- A load or store word is listed. -/
def memWord (v : W32) : Bool :=
  memOk (fieldReg v 21) (fieldReg v 16) (BitVec.ofNat 2 (bits v 15 14)) (BitVec.ofNat 2 (bits v 13 12))
    (BitVec.ofNat 12 (bits v 11 0))

/-- An AMO word is listed (Table 7-8). -/
def amoWord (v : W32) : Bool :=
  zeroF v 5 0 && amoOk (bits v 8 6) (fieldReg v 21) (fieldReg v 16) (fieldReg v 11) (bits v 10 9)

/-- A SPEC-group word is listed (Table 7-7). -/
def specWord (v : W32) : Bool :=
  match bits v 10 0 with
  | 0 => regOk (fieldReg v 21) && zeroF v 20 16 && decide (bits v 15 11 < 6)
  | 1 => zeroF v 25 21 && regOk (fieldReg v 16) && decide (1 ≤ bits v 15 11 ∧ bits v 15 11 < 6)
  | 2 => zeroF v 25 21 && regOk (fieldReg v 16) && zeroF v 15 11
  | 3 => regOk (fieldReg v 21) && zeroF v 20 11
  | _ => false

/-- A CSEL word is listed (R205). -/
def cselWord (v : W32) : Bool :=
  rFields v && zeroF v 10 6 &&
    match bits v 5 4 with
    | 0 => decide (bits v 3 0 ≠ 15)
    | 1 => zeroF v 3 2
    | _ => false

/-- A DVSQ word is listed (Table 7-11). -/
def dvsqWord (v : W32) : Bool :=
  rFields v && zeroF v 10 6 &&
    match bits v 5 0 with
    | 0 | 1 => multiOk (fieldReg v 21) 2
    | 2 => true
    | 3 | 4 => zeroF v 15 11
    | _ => false

/-- A word is an instruction of the core (R185); the warden core lacks the helper-cluster opcodes (Table 20-2). -/
def wordDefined (warden : Bool) (v : W32) : Bool :=
  let rd := regOk (fieldReg v 21)
  let ra := regOk (fieldReg v 16)
  match bits v 31 26 with
  | 0x01 => aluWord v
  | 0x02 | 0x03 | 0x04 | 0x05 | 0x0E | 0x11 | 0x12 => rd && ra
  | 0x06 => zeroF v 25 21 && ra
  | 0x07 => rd && zeroF v 20 16
  | 0x08 | 0x0A => memWord v
  | 0x09 => memWord v && decide (bits v 13 12 ≠ 3)
  | 0x0B => amoWord v
  | 0x0C | 0x0D | 0x18 | 0x19 | 0x1A | 0x1E => zeroF v 25 0
  | 0x0F | 0x10 => rd
  | 0x13 => decide (bits v 25 22 ≠ 15) && decide (bits v 21 20 ≠ 3) && zeroF v 19 16
  | 0x14 | 0x15 => zeroF v 25 13
  | 0x16 | 0x17 | 0x1C => ra && zeroF v 25 21 && zeroF v 15 0
  | 0x1B => zeroF v 25 3
  | 0x1D => specWord v
  | 0x1F => zeroF v 25 21 && ra && regOk (fieldReg v 11) && zeroF v 10 9 && decide (bits v 8 6 ≤ 4) && zeroF v 5 0
  | 0x20 => zeroF v 25 21 && ra && regOk (fieldReg v 11) && zeroF v 10 0
  | 0x21 => rFields v && zeroF v 10 3 && decide (bits v 1 0 ≠ 3)
  | 0x22 => rd && ra && decide (bits v 5 0 < 3) && decide (bits v 15 11 + bits v 10 6 + 1 ≤ 32)
  | 0x23 => rFields v && zeroF v 5 1
  | 0x24 => cselWord v
  | 0x25 | 0x26 => rFields v && zeroF v 10 2
  | 0x27 => !warden && dvsqWord v
  | 0x28 => !warden && multiOk (fieldReg v 21) 2 && ra && zeroF v 15 2 && decide (bits v 1 0 ≠ 3)
  | 0x29 => !warden && zeroF v 25 21 && ra && regOk (fieldReg v 11) && zeroF v 10 2 && decide (bits v 1 0 ≠ 3)
  | 0x2A | 0x2B => !warden && zeroF v 25 21 && ra && regOk (fieldReg v 11) && zeroF v 10 0
  | _ => false

/-- UNDEFINED_INSTRUCTION: the slot issues a word that is no instruction, and traps (R185, R156). A defined word is issued by
its own command. -/
def execUndefinedInstruction (w : SlotId) (word : BitVec 32) (s : State) : Host.Outcome State Fault Refusal :=
  if wordDefined (slotWarden w) word then .next s else s.issue w false (fun _ t => t)

end Sys2Proof.Machine
end

