-- ==== Sys2Proof/Machine/Dispatch.lean ====
section
/-! DEFINITION. The dispatch: one arm for each command, each a direct call of its meaning. -/

namespace Sys2Proof.Machine

def exec (i : Instr) (s : State) : Host.Outcome State Fault Refusal :=
  match i with
  | .registerWrite ag a v => Sys2Proof.Machine.execRegisterWrite ag a v s
  | .rcRead ag a => Sys2Proof.Machine.execRcRead ag a s
  | .counterLowRead ag a => Sys2Proof.Machine.execCounterLowRead ag a s
  | .counterHighRead ag a => Sys2Proof.Machine.execCounterHighRead ag a s
  | .hostBar0SubwordRead off two => Sys2Proof.Machine.execHostBar0SubwordRead off two s
  | .hostBar0SubwordWrite off two v => Sys2Proof.Machine.execHostBar0SubwordWrite off two v s
  | .hostBar0QwordAccess off write v => Sys2Proof.Machine.execHostBar0QwordAccess off write v s
  | .preReadyRequest posted bar => Sys2Proof.Machine.execPreReadyRequest posted bar s
  | .preReadyConfigRequest => Sys2Proof.Machine.execPreReadyConfigRequest s
  | .vinGood test => Sys2Proof.Machine.execVinGood test s
  | .regulators vfsel bad => Sys2Proof.Machine.execRegulators vfsel bad s
  | .regulatorRetry vfsel bad => Sys2Proof.Machine.execRegulatorRetry vfsel bad s
  | .alwaysOn drspd => Sys2Proof.Machine.execAlwaysOn drspd s
  | .otpAndLifeCycle bad => Sys2Proof.Machine.execOtpAndLifeCycle bad s
  | .batteryDomainAndTamper => Sys2Proof.Machine.execBatteryDomainAndTamper s
  | .wardenRomSelfTest bad => Sys2Proof.Machine.execWardenRomSelfTest bad s
  | .flashAndUpdateRecord bad => Sys2Proof.Machine.execFlashAndUpdateRecord bad s
  | .imageSelectAndVerify => Sys2Proof.Machine.execImageSelectAndVerify s
  | .shapeLoad => Sys2Proof.Machine.execShapeLoad s
  | .sramRepairAndInitialisation bad => Sys2Proof.Machine.execSramRepairAndInitialisation bad s
  | .timebasePll lock => Sys2Proof.Machine.execTimebasePll lock s
  | .dramATraining bad replay slow differs two => Sys2Proof.Machine.execDramATraining bad replay slow differs two s
  | .dramBTraining bad replay slow differs two => Sys2Proof.Machine.execDramBTraining bad replay slow differs two s
  | .serdesCalibration bad => Sys2Proof.Machine.execSerdesCalibration bad s
  | .pcieLink => Sys2Proof.Machine.execPcieLink s
  | .coreSelfTestAndQuarantine bad => Sys2Proof.Machine.execCoreSelfTestAndQuarantine bad s
  | .governorCalibration cal bad => Sys2Proof.Machine.execGovernorCalibration cal bad s
  | .tableInitialisation bad => Sys2Proof.Machine.execTableInitialisation bad s
  | .secureWorldStart bad => Sys2Proof.Machine.execSecureWorldStart bad s
  | .ready us vinmin tjmax => Sys2Proof.Machine.execReady us vinmin tjmax s
  | .startStepTimeout => Sys2Proof.Machine.execStartStepTimeout s
  | .internalRestart => Sys2Proof.Machine.execInternalRestart s
  | .powerOnReset vbat => Sys2Proof.Machine.execPowerOnReset vbat s
  | .perstAssert => Sys2Proof.Machine.execPerstAssert s
  | .perstRelease => Sys2Proof.Machine.execPerstRelease s
  | .softReset ag v => Sys2Proof.Machine.execSoftReset ag v s
  | .retryAll ag v => Sys2Proof.Machine.execRetryAll ag v s
  | .secureWatchdogReset => Sys2Proof.Machine.execSecureWatchdogReset s
  | .functionLevelReset link => Sys2Proof.Machine.execFunctionLevelReset link s
  | .flrComplete => Sys2Proof.Machine.execFlrComplete s
  | .shpApply ag => Sys2Proof.Machine.execShpApply ag s
  | .shpAbandon ag => Sys2Proof.Machine.execShpAbandon ag s
  | .deltaCheckDone => Sys2Proof.Machine.execDeltaCheckDone s
  | .deltaPrepareDone bad => Sys2Proof.Machine.execDeltaPrepareDone bad s
  | .reshapeDrainTimeout => Sys2Proof.Machine.execReshapeDrainTimeout s
  | .turn => Sys2Proof.Machine.execTurn s
  | .turnFenceBegin => Sys2Proof.Machine.execTurnFenceBegin s
  | .heldWritesApply => Sys2Proof.Machine.execHeldWritesApply s
  | .correctionEdge => Sys2Proof.Machine.execCorrectionEdge s
  | .tbRateWrite ag v => Sys2Proof.Machine.execTbRateWrite ag v s
  | .tbPeriodWrite ag v => Sys2Proof.Machine.execTbPeriodWrite ag v s
  | .tbPhaseWrite ag v => Sys2Proof.Machine.execTbPhaseWrite ag v s
  | .stepArm ag v => Sys2Proof.Machine.execStepArm ag v s
  | .snapshotTake ag => Sys2Proof.Machine.execSnapshotTake ag s
  | .tbNowRead ag => Sys2Proof.Machine.execTbNowRead ag s
  | .shadowReadback ag => Sys2Proof.Machine.execShadowReadback ag s
  | .armGroups ag v => Sys2Proof.Machine.execArmGroups ag v s
  | .disarmGroups ag v => Sys2Proof.Machine.execDisarmGroups ag v s
  | .frameArrival p bytes => Sys2Proof.Machine.execFrameArrival p bytes s
  | .frameAdmission p => Sys2Proof.Machine.execFrameAdmission p s
  | .arrivalTokenHoldExpiry p => Sys2Proof.Machine.execArrivalTokenHoldExpiry p s
  | .frameFcsReceived p asm => Sys2Proof.Machine.execFrameFcsReceived p asm s
  | .frameOversize p => Sys2Proof.Machine.execFrameOversize p s
  | .lookupResult k n => Sys2Proof.Machine.execLookupResult k n s
  | .sendCtl w v => Sys2Proof.Machine.execSendCtl w v s
  | .verdictRoute w rest => Sys2Proof.Machine.execVerdictRoute w rest s
  | .verdictDrop w rest => Sys2Proof.Machine.execVerdictDrop w rest s
  | .verdictConsumeKeep w rest => Sys2Proof.Machine.execVerdictConsumeKeep w rest s
  | .verdictConsumeFree w rest => Sys2Proof.Machine.execVerdictConsumeFree w rest s
  | .towpathRelease p c => Sys2Proof.Machine.execTowpathRelease p c s
  | .egressFcsReached p => Sys2Proof.Machine.execEgressFcsReached p s
  | .classmapWrite ag v => Sys2Proof.Machine.execClassmapWrite ag v s
  | .dropLogResize ag cells => Sys2Proof.Machine.execDropLogResize ag cells s
  | .add w rd ra rb => Sys2Proof.Machine.execAdd w rd ra rb s
  | .addc w rd ra rb => Sys2Proof.Machine.execAddc w rd ra rb s
  | .sub w rd ra rb => Sys2Proof.Machine.execSub w rd ra rb s
  | .subc w rd ra rb => Sys2Proof.Machine.execSubc w rd ra rb s
  | .andR w rd ra rb => Sys2Proof.Machine.execAndR w rd ra rb s
  | .orR w rd ra rb => Sys2Proof.Machine.execOrR w rd ra rb s
  | .xor w rd ra rb => Sys2Proof.Machine.execXor w rd ra rb s
  | .andn w rd ra rb => Sys2Proof.Machine.execAndn w rd ra rb s
  | .shl w rd ra rb => Sys2Proof.Machine.execShl w rd ra rb s
  | .shr w rd ra rb => Sys2Proof.Machine.execShr w rd ra rb s
  | .sar w rd ra rb => Sys2Proof.Machine.execSar w rd ra rb s
  | .ror w rd ra rb => Sys2Proof.Machine.execRor w rd ra rb s
  | .shli w rd ra sh => Sys2Proof.Machine.execShli w rd ra sh s
  | .shri w rd ra sh => Sys2Proof.Machine.execShri w rd ra sh s
  | .sari w rd ra sh => Sys2Proof.Machine.execSari w rd ra sh s
  | .rori w rd ra sh => Sys2Proof.Machine.execRori w rd ra sh s
  | .mul w rd ra rb => Sys2Proof.Machine.execMul w rd ra rb s
  | .mulh w rd ra rb => Sys2Proof.Machine.execMulh w rd ra rb s
  | .mulhu w rd ra rb => Sys2Proof.Machine.execMulhu w rd ra rb s
  | .cmp w ra rb => Sys2Proof.Machine.execCmp w ra rb s
  | .tst w ra rb => Sys2Proof.Machine.execTst w ra rb s
  | .clz w rd ra => Sys2Proof.Machine.execClz w rd ra s
  | .addi w rd ra imm => Sys2Proof.Machine.execAddi w rd ra imm s
  | .andi w rd ra imm => Sys2Proof.Machine.execAndi w rd ra imm s
  | .ori w rd ra imm => Sys2Proof.Machine.execOri w rd ra imm s
  | .xori w rd ra imm => Sys2Proof.Machine.execXori w rd ra imm s
  | .cmpi w ra imm => Sys2Proof.Machine.execCmpi w ra imm s
  | .lui w rd imm => Sys2Proof.Machine.execLui w rd imm s
  | .ld w rd rb mode size imm => Sys2Proof.Machine.execLd w rd rb mode size imm s
  | .lds w rd rb mode size imm => Sys2Proof.Machine.execLds w rd rb mode size imm s
  | .st w rd rb mode size imm => Sys2Proof.Machine.execSt w rd rb mode size imm s
  | .aliasClaim w rs rb disp => Sys2Proof.Machine.execAliasClaim w rs rb disp s
  | .aliasRelease w rs rb disp => Sys2Proof.Machine.execAliasRelease w rs rb disp s
  | .postedStorePerformed w k => Sys2Proof.Machine.execPostedStorePerformed w k s
  | .holdComplete w => Sys2Proof.Machine.execHoldComplete w s
  | .amoFadd w rd rb ra size => Sys2Proof.Machine.execAmoFadd w rd rb ra size s
  | .amoSwap w rd rb ra size => Sys2Proof.Machine.execAmoSwap w rd rb ra size s
  | .amoCas w rd rb ra size => Sys2Proof.Machine.execAmoCas w rd rb ra size s
  | .amoMin w rd rb ra size => Sys2Proof.Machine.execAmoMin w rd rb ra size s
  | .amoMax w rd rb ra size => Sys2Proof.Machine.execAmoMax w rd rb ra size s
  | .amoMinu w rd rb ra size => Sys2Proof.Machine.execAmoMinu w rd rb ra size s
  | .amoMaxu w rd rb ra size => Sys2Proof.Machine.execAmoMaxu w rd rb ra size s
  | .amoWadd w rd rb ra => Sys2Proof.Machine.execAmoWadd w rd rb ra s
  | .sync w => Sys2Proof.Machine.execSync w s
  | .nop w => Sys2Proof.Machine.execNop w s
  | .ild w rd ra imm => Sys2Proof.Machine.execIld w rd ra imm s
  | .inIo w r word => Sys2Proof.Machine.execInIo w r word s
  | .outIo w r word => Sys2Proof.Machine.execOutIo w r word s
  | .inx w rd ra imm => Sys2Proof.Machine.execInx w rd ra imm s
  | .outx w rd ra imm => Sys2Proof.Machine.execOutx w rd ra imm s
  | .bcc w cond hint off => Sys2Proof.Machine.execBcc w cond hint off s
  | .jmp w word => Sys2Proof.Machine.execJmp w word s
  | .call w word => Sys2Proof.Machine.execCall w word s
  | .jmpr w ra => Sys2Proof.Machine.execJmpr w ra s
  | .callr w ra => Sys2Proof.Machine.execCallr w ra s
  | .ret w => Sys2Proof.Machine.execRet w s
  | .enter w => Sys2Proof.Machine.execEnter w s
  | .leave w => Sys2Proof.Machine.execLeave w s
  | .trap w k => Sys2Proof.Machine.execTrap w k s
  | .texit w ra => Sys2Proof.Machine.execTexit w ra s
  | .rds w rd sr => Sys2Proof.Machine.execRds w rd sr s
  | .wrs w sr ra => Sys2Proof.Machine.execWrs w sr ra s
  | .rspush w ra => Sys2Proof.Machine.execRspush w ra s
  | .rspop w rd => Sys2Proof.Machine.execRspop w rd s
  | .take w => Sys2Proof.Machine.execTake w s
  | .wait w ra rb n => Sys2Proof.Machine.execWait w ra rb n s
  | .give w ra rb => Sys2Proof.Machine.execGive w ra rb s
  | .crc w rd ra rb count ieee => Sys2Proof.Machine.execCrc w rd ra rb count ieee s
  | .bfxu w rd ra pos lenm1 => Sys2Proof.Machine.execBfxu w rd ra pos lenm1 s
  | .bfxs w rd ra pos lenm1 => Sys2Proof.Machine.execBfxs w rd ra pos lenm1 s
  | .bfi w rd ra pos lenm1 => Sys2Proof.Machine.execBfi w rd ra pos lenm1 s
  | .macs w rd ra rb sh round => Sys2Proof.Machine.execMacs w rd ra rb sh round s
  | .cselSel w rd ra rb cond => Sys2Proof.Machine.execCselSel w rd ra rb cond s
  | .cselMinmax w rd ra rb op => Sys2Proof.Machine.execCselMinmax w rd ra rb op s
  | .dce w rd ra rb table => Sys2Proof.Machine.execDce w rd ra rb table s
  | .dcd w rd ra rb table => Sys2Proof.Machine.execDcd w rd ra rb table s
  | .divs w rd ra rb => Sys2Proof.Machine.execDivs w rd ra rb s
  | .divu w rd ra rb => Sys2Proof.Machine.execDivu w rd ra rb s
  | .divq w rd ra rb => Sys2Proof.Machine.execDivq w rd ra rb s
  | .sqrtu w rd ra => Sys2Proof.Machine.execSqrtu w rd ra s
  | .sqrtq w rd ra => Sys2Proof.Machine.execSqrtq w rd ra s
  | .hash w rd ra table => Sys2Proof.Machine.execHash w rd ra table s
  | .lkup w ra rb table => Sys2Proof.Machine.execLkup w ra rb table s
  | .lkupResult k => Sys2Proof.Machine.execLkupResult k s
  | .fsub w ra rb => Sys2Proof.Machine.execFsub w ra rb s
  | .sprd w ra rb => Sys2Proof.Machine.execSprd w ra rb s
  | .lkCreate w addr => Sys2Proof.Machine.execLkCreate w addr s
  | .threadCreate w => Sys2Proof.Machine.execThreadCreate w s
  | .lkExit w v => Sys2Proof.Machine.execLkExit w v s
  | .threadExit n => Sys2Proof.Machine.execThreadExit n s
  | .lkAbort w v => Sys2Proof.Machine.execLkAbort w v s
  | .lkpAbort ag handle => Sys2Proof.Machine.execLkpAbort ag handle s
  | .lkWaittmo w v => Sys2Proof.Machine.execLkWaittmo w v s
  | .lkPrio w v => Sys2Proof.Machine.execLkPrio w v s
  | .lkTmarm w delay => Sys2Proof.Machine.execLkTmarm w delay s
  | .timerExpiry k => Sys2Proof.Machine.execTimerExpiry k s
  | .waitTimeout n => Sys2Proof.Machine.execWaitTimeout n s
  | .dispatch program => Sys2Proof.Machine.execDispatch program s
  | .saveAreaPresent w => Sys2Proof.Machine.execSaveAreaPresent w s
  | .coreQuarantine core reason => Sys2Proof.Machine.execCoreQuarantine core reason s
  | .lkpQcmdQuarantine ag core => Sys2Proof.Machine.execLkpQcmdQuarantine ag core s
  | .lkpQcmdReturn ag core => Sys2Proof.Machine.execLkpQcmdReturn ag core s
  | .coreReturnPrepared pass => Sys2Proof.Machine.execCoreReturnPrepared pass s
  | .contextFillComplete ctx bad => Sys2Proof.Machine.execContextFillComplete ctx bad s
  | .alloc ag size => Sys2Proof.Machine.execAlloc ag size s
  | .allocp ag pool => Sys2Proof.Machine.execAllocp ag pool s
  | .allocc ag count => Sys2Proof.Machine.execAllocc ag count s
  | .allocb ag => Sys2Proof.Machine.execAllocb ag s
  | .free ag buf => Sys2Proof.Machine.execFree ag buf s
  | .chainCellReturn => Sys2Proof.Machine.execChainCellReturn s
  | .xfer ag buf => Sys2Proof.Machine.execXfer ag buf s
  | .chain ag tail => Sys2Proof.Machine.execChain ag tail s
  | .split ag cell => Sys2Proof.Machine.execSplit ag cell s
  | .next ag cell => Sys2Proof.Machine.execNext ag cell s
  | .spill ag buf => Sys2Proof.Machine.execSpill ag buf s
  | .spillCopyDone k => Sys2Proof.Machine.execSpillCopyDone k s
  | .fill ag handle => Sys2Proof.Machine.execFill ag handle s
  | .fillCopyDone k => Sys2Proof.Machine.execFillCopyDone k s
  | .fillTokenRetry => Sys2Proof.Machine.execFillTokenRetry s
  | .reclaim ag idx => Sys2Proof.Machine.execReclaim ag idx s
  | .tableAdd ag table token tag => Sys2Proof.Machine.execTableAdd ag table token tag s
  | .tableDel ag table token tag => Sys2Proof.Machine.execTableDel ag table token tag s
  | .tableFence ag table token tag => Sys2Proof.Machine.execTableFence ag table token tag s
  | .fenceComplete => Sys2Proof.Machine.execFenceComplete s
  | .tableFlush ag table token tag => Sys2Proof.Machine.execTableFlush ag table token tag s
  | .tableRehash ag table token tag => Sys2Proof.Machine.execTableRehash ag table token tag s
  | .rehashComplete n => Sys2Proof.Machine.execRehashComplete n s
  | .rehashFail n => Sys2Proof.Machine.execRehashFail n s
  | .tableRead ag table token tag => Sys2Proof.Machine.execTableRead ag table token tag s
  | .tableTokenRetry => Sys2Proof.Machine.execTableTokenRetry s
  | .learnInsert => Sys2Proof.Machine.execLearnInsert s
  | .ageingSweep => Sys2Proof.Machine.execAgeingSweep s
  | .brgCommit ag v => Sys2Proof.Machine.execBrgCommit ag v s
  | .commitCopyDone ag => Sys2Proof.Machine.execCommitCopyDone ag s
  | .bargeSeal n => Sys2Proof.Machine.execBargeSeal n s
  | .inboundCheck k => Sys2Proof.Machine.execInboundCheck k s
  | .receiveWindowClose p => Sys2Proof.Machine.execReceiveWindowClose p s
  | .admitPartner ag => Sys2Proof.Machine.execAdmit ag s
  | .welcome ag => Sys2Proof.Machine.execWelcome ag s
  | .release ag => Sys2Proof.Machine.execRelease ag s
  | .bind ag => Sys2Proof.Machine.execBind ag s
  | .partnerRead ag => Sys2Proof.Machine.execPartnerRead ag s
  | .portLinkUp p speed halfDup => Sys2Proof.Machine.execPortLinkUp p speed halfDup s
  | .portReturnCount p => Sys2Proof.Machine.execPortReturnCount p s
  | .portLeaveService p => Sys2Proof.Machine.execPortLeaveService p s
  | .pauseReceived p quanta => Sys2Proof.Machine.execPauseReceived p quanta s
  | .pauseExpiry p => Sys2Proof.Machine.execPauseExpiry p s
  | .pauseqWrite ag p v => Sys2Proof.Machine.execPauseqWrite ag p v s
  | .gateEntryBegin p => Sys2Proof.Machine.execGateEntryBegin p s
  | .egressFrameStart p => Sys2Proof.Machine.execEgressFrameStart p s
  | .fragmentPreempt p => Sys2Proof.Machine.execFragmentPreempt p s
  | .egressFrameSent p => Sys2Proof.Machine.execEgressFrameSent p s
  | .verifyFrameSend p => Sys2Proof.Machine.execVerifyFrameSend p s
  | .verifyResponse p => Sys2Proof.Machine.execVerifyResponse p s
  | .tspop ag p => Sys2Proof.Machine.execTspop ag p s
  | .mdioWrite ag b phy reg cl45 token data => Sys2Proof.Machine.execMdioWrite ag b phy reg cl45 token data s
  | .mdioRead ag b phy reg cl45 token => Sys2Proof.Machine.execMdioRead ag b phy reg cl45 token s
  | .mdioAddress ag b phy reg token data => Sys2Proof.Machine.execMdioAddress ag b phy reg token data s
  | .mdioReadIncrement ag b phy reg token => Sys2Proof.Machine.execMdioReadIncrement ag b phy reg token s
  | .mdioComplete b data => Sys2Proof.Machine.execMdioComplete b data s
  | .dramRequestStart x => Sys2Proof.Machine.execDramRequestStart x s
  | .dramRequestComplete x ecc => Sys2Proof.Machine.execDramRequestComplete x ecc s
  | .requestPromotion x k => Sys2Proof.Machine.execRequestPromotion x k s
  | .refreshPerBank x bank => Sys2Proof.Machine.execRefreshPerBank x bank s
  | .forcedRefresh x bank => Sys2Proof.Machine.execForcedRefresh x bank s
  | .mr4Poll x rate hot => Sys2Proof.Machine.execMr4Poll x rate hot s
  | .zqCalibrationStart x => Sys2Proof.Machine.execZqCalibrationStart x s
  | .zqLatch x inRange => Sys2Proof.Machine.execZqLatch x inRange s
  | .selfRefreshAutoEntry x => Sys2Proof.Machine.execSelfRefreshAutoEntry x s
  | .selfRefreshExit x => Sys2Proof.Machine.execSelfRefreshExit x s
  | .srEnter ag x mask => Sys2Proof.Machine.execSrEnter ag x mask s
  | .srHeldEntered x => Sys2Proof.Machine.execSrHeldEntered x s
  | .srExit ag x => Sys2Proof.Machine.execSrExit ag x s
  | .srExitComplete x => Sys2Proof.Machine.execSrExitComplete x s
  | .zeroFillComplete x r => Sys2Proof.Machine.execZeroFillComplete x r s
  | .scrubRead x ecc => Sys2Proof.Machine.execScrubRead x ecc s
  | .semaphoreClaim ag n v => Sys2Proof.Machine.execSemaphoreClaim ag n v s
  | .semaphoreRelease ag n => Sys2Proof.Machine.execSemaphoreRelease ag n s
  | .semaphoreAcknowledge ag n => Sys2Proof.Machine.execSemaphoreAcknowledge ag n s
  | .forceRelease ag n => Sys2Proof.Machine.execForceRelease ag n s
  | .groupWrite ag g v => Sys2Proof.Machine.execGroupWrite ag g v s
  | .watchArm ag k v => Sys2Proof.Machine.execWatchArm ag k v s
  | .watchDisarm ag k v => Sys2Proof.Machine.execWatchDisarm ag k v s
  | .watchTokenRetry => Sys2Proof.Machine.execWatchTokenRetry s
  | .hostAtomicFadd ag size => Sys2Proof.Machine.execHostAtomicFadd ag size s
  | .hostAtomicSwap ag size => Sys2Proof.Machine.execHostAtomicSwap ag size s
  | .hostAtomicCas ag size => Sys2Proof.Machine.execHostAtomicCas ag size s
  | .hostAtomicMin ag size => Sys2Proof.Machine.execHostAtomicMin ag size s
  | .hostAtomicMax ag size => Sys2Proof.Machine.execHostAtomicMax ag size s
  | .hostAtomicMinu ag size => Sys2Proof.Machine.execHostAtomicMinu ag size s
  | .hostAtomicMaxu ag size => Sys2Proof.Machine.execHostAtomicMaxu ag size s
  | .hostAtomicWadd ag size => Sys2Proof.Machine.execHostAtomicWadd ag size s
  | .bar2Read off n => Sys2Proof.Machine.execBar2Read off n s
  | .bar2Write off bytes => Sys2Proof.Machine.execBar2Write off bytes s
  | .mailboxDoorbell v => Sys2Proof.Machine.execMailboxDoorbell v s
  | .mailboxEntryReadFail timeout => Sys2Proof.Machine.execMailboxEntryReadFail timeout s
  | .mailboxNop => Sys2Proof.Machine.execMailboxNop s
  | .tenantCreate => Sys2Proof.Machine.execTenantCreate s
  | .tenantReset => Sys2Proof.Machine.execTenantReset s
  | .tenantSelfReset t v => Sys2Proof.Machine.execTenantSelfReset t v s
  | .tenantResetComplete t => Sys2Proof.Machine.execTenantResetComplete t s
  | .tenantDestroy => Sys2Proof.Machine.execTenantDestroy s
  | .hostwinSet => Sys2Proof.Machine.execHostwinSet s
  | .qpCreate => Sys2Proof.Machine.execQpCreate s
  | .qpDestroy => Sys2Proof.Machine.execQpDestroy s
  | .mailboxStatus => Sys2Proof.Machine.execMailboxStatus s
  | .sqDoorbell t q v => Sys2Proof.Machine.execSqDoorbell t q v s
  | .cqDoorbell t q v => Sys2Proof.Machine.execCqDoorbell t q v s
  | .descriptorNop t q => Sys2Proof.Machine.execDescriptorNop t q s
  | .copyIn t q => Sys2Proof.Machine.execCopyIn t q s
  | .copyOut t q => Sys2Proof.Machine.execCopyOut t q s
  | .tx t q => Sys2Proof.Machine.execTx t q s
  | .hostTxAdmit t q k => Sys2Proof.Machine.execHostTxAdmit t q k s
  | .txWaitExpiry t q k => Sys2Proof.Machine.execTxWaitExpiry t q k s
  | .rx t q => Sys2Proof.Machine.execRx t q s
  | .send t q => Sys2Proof.Machine.execSend t q s
  | .recv t q => Sys2Proof.Machine.execRecv t q s
  | .descriptorComplete t q posted => Sys2Proof.Machine.execDescriptorComplete t q posted s
  | .hostFrameDeliver t q => Sys2Proof.Machine.execHostFrameDeliver t q s
  | .post ag => Sys2Proof.Machine.execPost ag s
  | .dmaReadTimeout t q => Sys2Proof.Machine.execDmaReadTimeout t q s
  | .streamArm ag n => Sys2Proof.Machine.execStreamArm ag n s
  | .streamDisarm ag n => Sys2Proof.Machine.execStreamDisarm ag n s
  | .streamRestart ag n => Sys2Proof.Machine.execStreamRestart ag n s
  | .chunkCellOutput n => Sys2Proof.Machine.execChunkCellOutput n s
  | .chunkRingOutput n => Sys2Proof.Machine.execChunkRingOutput n s
  | .chunkTokenRetry => Sys2Proof.Machine.execChunkTokenRetry s
  | .timeArm ag n hi => Sys2Proof.Machine.execTimeArm ag n hi s
  | .strobeDisarm ag n => Sys2Proof.Machine.execStrobeDisarm ag n s
  | .strobeFire n => Sys2Proof.Machine.execStrobeFire n s
  | .strobePulseEnd n => Sys2Proof.Machine.execStrobePulseEnd n s
  | .predict k => Sys2Proof.Machine.execPredict k s
  | .residual k => Sys2Proof.Machine.execResidual k s
  | .captureEdge n rise => Sys2Proof.Machine.execCaptureEdge n rise s
  | .capturePop ag n => Sys2Proof.Machine.execCapturePop ag n s
  | .captureEdgeConfig ag n v => Sys2Proof.Machine.execCaptureEdgeConfig ag n v s
  | .shiftTxPush ag n v => Sys2Proof.Machine.execShiftTxPush ag n v s
  | .shiftRxPop ag n => Sys2Proof.Machine.execShiftRxPop ag n s
  | .shiftStart ag n v => Sys2Proof.Machine.execShiftStart ag n v s
  | .shiftAbort ag n => Sys2Proof.Machine.execShiftAbort ag n s
  | .shiftDisable ag n v => Sys2Proof.Machine.execShiftDisable ag n v s
  | .shiftEnable ag n v => Sys2Proof.Machine.execShiftEnable ag n v s
  | .shiftStallTimeout n => Sys2Proof.Machine.execShiftStallTimeout n s
  | .shiftTokenRetry => Sys2Proof.Machine.execShiftTokenRetry s
  | .yield n => Sys2Proof.Machine.execYield n s
  | .pin n => Sys2Proof.Machine.execPin n s
  | .shift n => Sys2Proof.Machine.execShift n s
  | .shiftComplete n din startBit stopBit => Sys2Proof.Machine.execShiftComplete n din startBit stopBit s
  | .ldx n => Sys2Proof.Machine.execLdx n s
  | .push n => Sys2Proof.Machine.execPush n s
  | .delay n => Sys2Proof.Machine.execDelay n s
  | .delayExpiry n => Sys2Proof.Machine.execDelayExpiry n s
  | .waitt n => Sys2Proof.Machine.execWaitt n s
  | .waittExpiry n => Sys2Proof.Machine.execWaittExpiry n s
  | .waite n => Sys2Proof.Machine.execWaite n s
  | .waiteEdge n => Sys2Proof.Machine.execWaiteEdge n s
  | .waiteTimeout n => Sys2Proof.Machine.execWaiteTimeout n s
  | .setl n => Sys2Proof.Machine.execSetl n s
  | .djnz n => Sys2Proof.Machine.execDjnz n s
  | .microJmp n => Sys2Proof.Machine.execMicroJmp n s
  | .jb n => Sys2Proof.Machine.execJb n s
  | .done n => Sys2Proof.Machine.execDone n s
  | .microNop n => Sys2Proof.Machine.execMicroNop n s
  | .microcodeWrite ag v => Sys2Proof.Machine.execMicrocodeWrite ag v s
  | .bankVerify ag words => Sys2Proof.Machine.execBankVerify ag words s
  | .bankVerifyDone => Sys2Proof.Machine.execBankVerifyDone s
  | .routeWrite ag e v => Sys2Proof.Machine.execRouteWrite ag e v s
  | .pendClear ag k v => Sys2Proof.Machine.execPendClear ag k v s
  | .eventTokenRetry => Sys2Proof.Machine.execEventTokenRetry s
  | .evtoutPulseEnd p => Sys2Proof.Machine.execEvtoutPulseEnd p s
  | .loadRoot k blk => Sys2Proof.Machine.execLoadRoot k blk s
  | .loadMem k blk => Sys2Proof.Machine.execLoadMem k blk s
  | .kdf k blk => Sys2Proof.Machine.execKdf k blk s
  | .kdfOut k blk => Sys2Proof.Machine.execKdfOut k blk s
  | .unwrap k blk => Sys2Proof.Machine.execUnwrap k blk s
  | .ecbEncrypt k blk => Sys2Proof.Machine.execEcbEncrypt k blk s
  | .ecbDecrypt k blk => Sys2Proof.Machine.execEcbDecrypt k blk s
  | .ctr k blk => Sys2Proof.Machine.execCtr k blk s
  | .cmac k blk => Sys2Proof.Machine.execCmac k blk s
  | .sign k blk => Sys2Proof.Machine.execSign k blk s
  | .pubkey k blk => Sys2Proof.Machine.execPubkey k blk s
  | .clear k blk => Sys2Proof.Machine.execClear k blk s
  | .sha256 k blk => Sys2Proof.Machine.execSha256 k blk s
  | .sha384 k blk => Sys2Proof.Machine.execSha384 k blk s
  | .verify k blk => Sys2Proof.Machine.execVerify k blk s
  | .tagWindowClose => Sys2Proof.Machine.execTagWindowClose s
  | .secureHoldWrite w k v => Sys2Proof.Machine.execSecureHoldWrite w k v s
  | .install k addr => Sys2Proof.Machine.execInstall k addr s
  | .generate k => Sys2Proof.Machine.execGenerate k s
  | .tamperDetect source seconds vin => Sys2Proof.Machine.execTamperDetect source seconds vin s
  | .rngReq w v => Sys2Proof.Machine.execRngReq w v s
  | .randomServe => Sys2Proof.Machine.execRandomServe s
  | .randomTimeout k => Sys2Proof.Machine.execRandomTimeout k s
  | .entropyFailure => Sys2Proof.Machine.execEntropyFailure s
  | .entropyStartupComplete => Sys2Proof.Machine.execEntropyStartupComplete s
  | .watchdogKick k v => Sys2Proof.Machine.execWatchdogKick k v s
  | .watchdogExpiry => Sys2Proof.Machine.execWatchdogExpiry s
  | .wardenReset k v => Sys2Proof.Machine.execWardenReset k v s
  | .wardenStatus ag seq => Sys2Proof.Machine.execWardenStatus ag seq s
  | .random ag seq => Sys2Proof.Machine.execRandom ag seq s
  | .mailboxForward ag op seq => Sys2Proof.Machine.execMailboxForward ag op seq s
  | .mailboxDone k v => Sys2Proof.Machine.execMailboxDone k v s
  | .mailboxTimeout => Sys2Proof.Machine.execMailboxTimeout s
  | .challenge ag seq tap => Sys2Proof.Machine.execChallenge ag seq tap s
  | .nonceExpiry => Sys2Proof.Machine.execNonceExpiry s
  | .lcsRequest ag seq tap bytes => Sys2Proof.Machine.execLcsRequest ag seq tap bytes s
  | .transition keysOk got => Sys2Proof.Machine.execTransition keysOk got s
  | .transitionWipe => Sys2Proof.Machine.execTransitionWipe s
  | .debugGrant => Sys2Proof.Machine.execDebugGrant s
  | .debugRevoke ag seq => Sys2Proof.Machine.execDebugRevoke ag seq s
  | .debugGrantExpiry => Sys2Proof.Machine.execDebugGrantExpiry s
  | .updBegin ag seq => Sys2Proof.Machine.execUpdBegin ag seq s
  | .updData ag seq good => Sys2Proof.Machine.execUpdData ag seq good s
  | .updVerify ag seq => Sys2Proof.Machine.execUpdVerify ag seq s
  | .updActivate ag seq => Sys2Proof.Machine.execUpdActivate ag seq s
  | .updConfirm ag seq => Sys2Proof.Machine.execUpdConfirm ag seq s
  | .updAbort ag seq => Sys2Proof.Machine.execUpdAbort ag seq s
  | .updStatus ag seq => Sys2Proof.Machine.execUpdStatus ag seq s
  | .scrapRaw v got => Sys2Proof.Machine.execScrapRaw v got s
  | .otpProg target v => Sys2Proof.Machine.execOtpProg target v s
  | .nmem a write v => Sys2Proof.Machine.execNmem a write v s
  | .ncoreHalt core slot code => Sys2Proof.Machine.execNcoreHalt core slot code s
  | .ncoreStep core slot code => Sys2Proof.Machine.execNcoreStep core slot code s
  | .ncoreResume core slot code => Sys2Proof.Machine.execNcoreResume core slot code s
  | .smem a write v => Sys2Proof.Machine.execSmem a write v s
  | .scoreHalt slot code => Sys2Proof.Machine.execScoreHalt slot code s
  | .scoreStep slot code => Sys2Proof.Machine.execScoreStep slot code s
  | .scoreResume slot code => Sys2Proof.Machine.execScoreResume slot code s
  | .debugIdcode => Sys2Proof.Machine.execDebugIdcode s
  | .extest cells => Sys2Proof.Machine.execExtest cells s
  | .intest cells => Sys2Proof.Machine.execIntest cells s
  | .samplePreload pins cells => Sys2Proof.Machine.execSamplePreload pins cells s
  | .idcode => Sys2Proof.Machine.execIdcode s
  | .clamp => Sys2Proof.Machine.execClamp s
  | .highz => Sys2Proof.Machine.execHighz s
  | .bypass debug => Sys2Proof.Machine.execBypass debug s
  | .domainOn ag d => Sys2Proof.Machine.execDomainOn ag d s
  | .domainRetain ag d => Sys2Proof.Machine.execDomainRetain ag d s
  | .domainOff ag d => Sys2Proof.Machine.execDomainOff ag d s
  | .domainSwitchComplete d replay => Sys2Proof.Machine.execDomainSwitchComplete d replay s
  | .clockGate ag v => Sys2Proof.Machine.execClockGate ag v s
  | .governorDecision pm rpl => Sys2Proof.Machine.execGovernorDecision pm rpl s
  | .temperatureSample tj => Sys2Proof.Machine.execTemperatureSample tj s
  | .thermalRecovery => Sys2Proof.Machine.execThermalRecovery s
  | .railSample mv settled => Sys2Proof.Machine.execRailSample mv settled s
  | .undefinedInstruction w word => Sys2Proof.Machine.execUndefinedInstruction w word s
  | .configurationWrite busMaster memSpace msixEnable msixMask => Sys2Proof.Machine.execConfigurationWrite busMaster memSpace msixEnable msixMask s
  | .linkLossDuringBringUp => Sys2Proof.Machine.execLinkLossDuringBringUp s
  | .srAutoExitComplete x => Sys2Proof.Machine.execSrAutoExitComplete x s
  | .laneRecalibrationComplete hi => Sys2Proof.Machine.execLaneRecalibrationComplete hi s
  | .entropyFailureCountReset => Sys2Proof.Machine.execEntropyFailureCountReset s
  | .testLogicReset => Sys2Proof.Machine.execTestLogicReset s

end Sys2Proof.Machine
end

