-- ==== Sys2Proof/Safety.lean ====
section
/-! DEFINITION. The words that the statements use: that a command completes with a property, what it leaves alone, and what
it means that a slot issues an instruction, writes registers and flags, holds, or traps. -/

namespace Sys2Proof.Machine

/-! ### Commands -/

/-- Command `c` completes in state `s`, and the next state has property `P`. -/
def Completes (c : Instr) (s : State) (P : State → Prop) : Prop := ∃ t, exec c s = .next t ∧ P t

/-- Every byte of memory reads as before. -/
def SameMemory (s t : State) : Prop := ∀ k, t.readByte k = s.readByte k

/-- Every byte outside the `n` bytes from key `k` reads as before. -/
def SameMemoryBut (s t : State) (k n : Nat) : Prop := ∀ j, j < k ∨ k + n ≤ j → t.readByte j = s.readByte j

/-- Every register but those named reads as before. -/
def SameRegsBut (s t : State) (l : List Nat) : Prop := ∀ a, a ∉ l → t.reg a = s.reg a

/-- A register of the event router that a raise writes: EVR_PENDk, EVR_SECNOTE, EVR_COUNTe (R539, R548). -/
def EventReg (a : Nat) : Prop := 0x120C00 ≤ a ∧ a < 0x121C00

/-- Every register but those named and the event router's records of raises reads as before. -/
def SameRegsButEvents (s t : State) (l : List Nat) : Prop := ∀ a, a ∉ l → ¬ EventReg a → t.reg a = s.reg a

/-- Nothing but the answer to the sender differs. -/
def OnlyReply (s t : State) : Prop := t = { s with reply := t.reply }

/-- Nothing but registers and the answer differs, and of the registers only those named. -/
def OnlyRegs (s t : State) (l : List Nat) : Prop := t = { s with regs := t.regs, reply := t.reply } ∧ SameRegsBut s t l

/-- A command is refused with status `st` as its answer, and does nothing else but log the refusal: memory, tables, frames,
threads and every register but the logs stay (R180, R461). -/
def RefusedWith (s : State) (st : Status) (t : State) : Prop :=
  t.reply.status = st ∧ t.mem = s.mem ∧ t.slots = s.slots ∧ t.flt = s.flt ∧ t.tbl = s.tbl ∧ t.bsn = s.bsn ∧
    t.brg = s.brg ∧ t.drc = s.drc ∧ t.shp = s.shp ∧ t.sec = s.sec ∧ t.lcs = s.lcs ∧ t.shadow = s.shadow ∧
      ∀ a, a < 0x1000000 → ¬ EventReg a → a ≠ A.tntHerr0 → a ≠ A.tntHerr1 → t.reg a = s.reg a

/-! ### A slot that issues an instruction -/

/-- Slot `w` issues: a thread is in it, it neither holds nor is halted, no squashed shadow is left behind, and its pc lies in
I-space (R146, R183). -/
def Issues (s : State) (w : SlotId) : Prop :=
  (s.slot w).thread.isSome = true ∧ (s.slot w).held = none ∧ ((s.slot w).halted = false ∨ (s.slot w).stepOne = true) ∧
    (s.slot w).shadow = none ∧ (s.slot w).ctx.pc.toNat < 0x8000

/-- The thread in slot `w` once the pending writes of its earlier instructions have landed (R215). -/
def State.landed (s : State) (w : SlotId) : Ctx := (landList (s.slot w).late ((s.slot w).ctx, s.free)).1

/-- Nothing but slot `w` and the count of free values differs. -/
def OnlySlot (s : State) (w : SlotId) (t : State) : Prop :=
  t = { s with slots := t.slots, free := t.free } ∧ ∀ j : Nat, j ≠ w.val → t.slot j = s.slot j

/-- Nothing but the slots, memory and the count of free values differs, and of the slots only `w`. -/
def OnlySlotAndMemory (s : State) (w : SlotId) (t : State) : Prop :=
  t = { s with slots := t.slots, free := t.free, mem := t.mem } ∧ ∀ j : Nat, j ≠ w.val → t.slot j = s.slot j

/-- The flags `f` after an instruction that found `b`: C, V, and N and Z of a result, `none` where it leaves them; SAT is
sticky; OSTAT `o` where it writes it (Table 7-3). -/
structure FlagSet where
  c : Option Bool := none
  v : Option Bool := none
  nz : Option W32 := none
  sat : Bool := false
  ostat : Option Nat := none

/-- The flags `f` are those of `fs` over the flags `b`. -/
def FlagsAre (fs : FlagSet) (b f : W32) : Prop :=
  bit f 0 = fs.c.getD (bit b 0) ∧ bit f 1 = fs.v.getD (bit b 1) ∧
    bit f 2 = (fs.nz.map (fun r => decide (r = 0#32))).getD (bit b 2) ∧ bit f 3 = (fs.nz.map (·.msb)).getD (bit b 3) ∧
      bit f 4 = (bit b 4 || fs.sat) ∧ bits f 15 8 = fs.ostat.getD (bits b 15 8)

/-- The physical registers that an instruction writes, with their values: nothing, or the register of a code. A code that
names g0 writes nothing (R149). -/
def oneReg (x : Ctx) (rd : RegCode) (v : W32) (p : Nat) : Option W32 :=
  if x.phys rd.toNat = some p then some v else none

/-- The physical registers of a pair: the even register takes the low word (R184). -/
def pairReg (x : Ctx) (rd : RegCode) (lo hi : W32) (p : Nat) : Option W32 :=
  if x.phys (rd + 1#5).toNat = some p then some hi else if x.phys rd.toNat = some p then some lo else none

/-- No register is written. -/
def noReg (_ : Nat) : Option W32 := none

/-- The thread `y` is `b` with the registers `res` written and the flags of `fs`, at `pc`; windows, the return stack and the
trap state stay. -/
def CtxWrote (b y : Ctx) (res : Nat → Option W32) (fs : FlagSet) (pc : W32) : Prop :=
  (∀ p, y.preg p = (res p).getD (b.preg p)) ∧ FlagsAre fs b.flags y.flags ∧
    y = { b with regs := y.regs, flags := y.flags, pc := pc }

/-- Slot `w` completed an instruction whose writes are there for its next one (distance 1), and nothing else changed. -/
def Wrote (s : State) (w : SlotId) (res : Nat → Option W32) (fs : FlagSet) (pc : W32) (t : State) : Prop :=
  CtxWrote (s.landed w) (t.slot w).ctx res fs pc ∧ (t.slot w).late = [] ∧ OnlySlot s w t

/-- Slot `w` completed an instruction of distance 2: its next instruction still reads the old values, and once the pending
writes have landed the new ones stand; nothing else changed (R187, R215). -/
def WroteLate (s : State) (w : SlotId) (res : Nat → Option W32) (fs : FlagSet) (pc : W32) (t : State) : Prop :=
  (t.slot w).ctx = { s.landed w with pc := pc } ∧ CtxWrote (s.landed w) (t.landed w) res fs pc ∧ OnlySlot s w t

/-- Slot `w` holds, and the end of its hold writes the results (R217). -/
def HoldsThen (s : State) (w : SlotId) (res : Nat → Option W32) (fs : FlagSet) (pc : W32) (t : State) : Prop :=
  (t.slot w).held.isSome = true ∧
    Completes (.holdComplete w) t (fun u => CtxWrote (s.landed w) (u.slot w).ctx res fs pc ∧ (u.slot w).held = none)

/-- Nothing of another block keeps slot `w` holding: no commit's copy and no random words are awaited for it (R353,
R559). -/
def NoWaits (s : State) (w : SlotId) : Prop := s.commitWaits w = false

/-- The thread of slot `w` has entered the trap window at a vector, from address `pc`: T's w14 holds the address, the next
instruction is the vector's first, WINSEL is the interrupted window, and every earlier write has landed (R210, R235). -/
def Trapped (s : State) (w : SlotId) (vec : Nat) (pc : W32) (t : State) : Prop :=
  (t.slot w).ctx.inT = true ∧ (t.slot w).ctx.pc = w32 (vec * 16) ∧ (t.slot w).ctx.preg 62 = pc ∧
    bits ((t.slot w).ctx.preg 63) 15 8 = vec ∧ (t.slot w).winsel = (s.landed w).win ∧
      (∀ p, p ≠ 62 → p ≠ 63 → (t.slot w).ctx.preg p = (s.landed w).preg p) ∧ (t.slot w).late = [] ∧ OnlySlot s w t

/-! ### Tokens -/

/-- No thread's wait set names tag `g`. -/
def Unwanted (s : State) (g : Nat) : Prop := ∀ n, g ∉ (s.thread n).waitSet

/-- Token `k` has joined the end of the queue of tag `g`; later tokens may stand behind it. -/
def Queued (s t : State) (g : Nat) (k : Token) : Prop := ∃ l, t.tokens g = s.tokens g ++ k :: l

/-- The pending bit of event `e` is set (R539). -/
def Raised (t : State) (e : Nat) : Prop := bit (t.reg (A.evrPend (e / 32))) (e % 32) = true

end Sys2Proof.Machine
end

