-- ==== Sys2Proof/Certificates/Slice0/Obligations.lean ====
section
/-! DEFINITION. The statements for the provers, family by family. -/

open Sys2Proof Sys2Proof.Machine

/-- O1 (tier 1; section 0.5, assumption 2). For every state whose queue begins with c, one step is exec of c on that state
with the rest of the queue. With an empty queue the step is one tick of the clock (the model's choice, assumption 2). -/
def Obligations.StepPerformsTheFrontCommand : Prop :=
  (∀ (s : State) (c : Instr) (rest : List Instr), s.pending = c :: rest → step s = exec c { s with pending := rest }) ∧
    ∀ s : State, s.pending = [] → step s = .next s.tick

/-- O2 (tier 2; section 0.6 (Table 0-5), R23, R186). For every command of the table, with any operands and in any state,
exec answers a next state: what is refused answers a status, what traps enters its vector, and nothing faults or goes
unmodelled. -/
def Obligations.EveryCommandAnswersAState : Prop := ∀ (c : Instr) (s : State), ∃ t, exec c s = .next t

/-- O3 (tier 3; section 0.5, R16). Whatever a step does, it takes exactly the front command from the queue and leaves the
commands behind it in their order; with an empty queue it leaves the queue empty. No command of the table adds, drops
or reorders waiting commands. -/
def Obligations.StepTakesExactlyTheFrontCommand : Prop :=
  ∀ (s t : State), step s = .next t → t.pending = s.pending.tail

/-- O4 (tier 3; section 3.3, section 6.2, assumption 5). If the list of memory cells has rising keys and no entry equal to
what an unlisted byte reads as, then so has the list after any step, whatever command it performs, so that equal
memories are equal data. -/
def Obligations.StepKeepsMemoryCanonical : Prop :=
  ∀ (s t : State), Memory.wf s.mem = true → step s = .next t → Memory.wf t.mem = true

/-- O5 (tier 1; section 3.1, R18, R85, the registers of each chapter (reset column), assumption 5). At reset TOP_ID reads
0x6408_B000, LKP_CTRL, BSN_LOW, MON_THERM and EVR_PINCFG read their stated reset values, every latch is 0, TB time
stands at 0, no bring-up step is completed, no slot has a thread, no frame is in flight, no context is present, no
token waits, the queue is empty, and the memory is in its canonical form with the flash erased (the model's choice
where the spec gives no content, assumption 5). -/
def Obligations.ResetStateIsTheStatedOne : Prop :=
  let s := State.reset
  s.reg 0 = 0x6408B000#32 ∧ s.reg A.lkpCtrl = 0x0E000001#32 ∧
    (∀ n, n < 8 → s.reg (A.bsnLow n) = 1#32) ∧ s.reg A.monTherm = 0x02BC786E#32 ∧
    (∀ p, p < 4 → s.reg (A.evrPincfg p) = 0x0003E800#32) ∧ (∀ ag, s.latchOf ag = 0#32) ∧ s.tb.now = 0#64 ∧
    s.boot.step = 0 ∧ (∀ w, (s.slot w).thread = none) ∧ (∀ k, s.frame k = none) ∧ (∀ c, s.present c = false) ∧
    (∀ g, s.tokens g = []) ∧ s.pending = [] ∧ Memory.wf s.mem = true ∧
    ∀ o, o < 0x800000 → s.readByte (kFlash + o) = 0xFF#8

/-- O6 (tier 2; R17, R18, R20). With Memory Space Enable set: a write of EVR_PINCFGp sets its RW bits only, a zero width
is refused with ZERO_LENGTH and changes nothing, and a 1 written to TNT_HERR1[31] by the manager clears the host-error
log. A read of EVR_SECNOTE or FLT_TKT_PEAK answers the value from before and clears its RC bits. A low-cell read of a
counter answers bits [31:0] and copies bits [63:32] to the reader's latch, and a high-cell read answers the latch and
keeps it. A host read of 1 or 2 bytes answers those bytes with the effects of the whole read; a sub-word write is
dropped and logged; an 8-byte access is two, lower address first. Before S20 a memory request is unsupported or, if
posted, dropped. -/
def Obligations.RegisterAccessesFollowTheirFields : Prop :=
  ∀ (s : State) (ag : Agent), s.tnt.memSpace = true → (ag = agManager ∨ isWarden ag = true) →
    (∀ (p : Fin 4) (v : W32),
      (bits v 27 8 ≠ 0 → Completes (.registerWrite ag (BitVec.ofNat 32 (A.evrPincfg p)) v) s (fun t =>
        t.reg (A.evrPincfg p) = (s.reg (A.evrPincfg p) &&& 0xF00000FC#32) ||| (v &&& 0x0FFFFF03#32) ∧
          t.reply.status = .ok ∧ OnlyRegs s t [A.evrPincfg p])) ∧
      (bits v 27 8 = 0 → Completes (.registerWrite ag (BitVec.ofNat 32 (A.evrPincfg p)) v) s (fun t =>
        t.reply.status = .zeroLength ∧ OnlyReply s t))) ∧
    (∀ v : W32, ag = agManager → s.regOff A.tntHerr1 = false →
      Completes (.registerWrite ag (BitVec.ofNat 32 A.tntHerr1) v) s (fun t =>
        t.reg A.tntHerr1 = (if bit v 31 then 0#32 else s.reg A.tntHerr1) ∧ t.reply.status = .ok ∧
          OnlyRegs s t [A.tntHerr0, A.tntHerr1])) ∧
    Completes (.rcRead ag (BitVec.ofNat 32 A.evrSecnote)) s (fun t =>
      t.reply.value = (s.reg A.evrSecnote).setWidth 64 ∧ t.reg A.evrSecnote = 0#32 ∧ OnlyRegs s t [A.evrSecnote]) ∧
    (s.regOff A.fltTktPeak = false → Completes (.rcRead ag (BitVec.ofNat 32 A.fltTktPeak)) s (fun t =>
      t.reply.value = (s.reg A.fltTktPeak).setWidth 64 ∧ t.reg A.fltTktPeak = s.reg A.fltTktPeak &&& 0xFFFFF800#32 ∧
        OnlyRegs s t [A.fltTktPeak])) ∧
    (∀ i, i < 7 → s.regOff (0x70100 + 8 * i) = false → s.regOff (0x70104 + 8 * i) = false →
      Completes (.counterLowRead ag (BitVec.ofNat 32 (0x70100 + 8 * i))) s (fun t =>
        t.reply.value = ((s.counter (0x70100 + 8 * i)).setWidth 32).setWidth 64 ∧
          t.latchOf ag = (s.counter (0x70100 + 8 * i) >>> 32).setWidth 32 ∧
          (∀ b : Agent, b ≠ ag → t.latchOf b = s.latchOf b) ∧ t.regs = s.regs ∧ t.ctr = s.ctr ∧ t.mem = s.mem) ∧
      Completes (.counterHighRead ag (BitVec.ofNat 32 (0x70104 + 8 * i))) s (fun t =>
        t.reply.value = (s.latchOf ag).setWidth 64 ∧ OnlyReply s t)) ∧
    (∀ i : Fin 4, Completes (.hostBar0SubwordRead (BitVec.ofNat 25 (A.evrSecnote + i)) false) s (fun t =>
      t.reply.value = BitVec.ofNat 64 ((s.reg A.evrSecnote).toNat / 2 ^ (8 * i.val) % 256) ∧
        t.reg A.evrSecnote = 0#32 ∧ OnlyRegs s t [A.evrSecnote])) ∧
    (∀ (off : BitVec 25) (two : Bool) (v : BitVec 16), Completes (.hostBar0SubwordWrite off two v) s (fun t =>
      bit (t.reg A.tntHerr1) 31 = true ∧ t.mem = s.mem ∧ t.shadow = s.shadow ∧
        (bit (s.reg A.tntHerr1) 31 = false → t.reg A.tntHerr0 = BitVec.ofNat 32 off.toNat) ∧
        ∀ a, a < 0x1000000 → ¬ EventReg a → a ≠ A.tntHerr0 → a ≠ A.tntHerr1 → t.reg a = s.reg a)) ∧
    (∀ v : W64, bits (v.setWidth 32) 27 8 ≠ 0 → bits ((v >>> 32).setWidth 32) 27 8 ≠ 0 →
      Completes (.hostBar0QwordAccess (BitVec.ofNat 25 (A.evrPincfg 0)) true v) s (fun t =>
        t.reg (A.evrPincfg 0) = (s.reg (A.evrPincfg 0) &&& 0xF00000FC#32) ||| (v.setWidth 32 &&& 0x0FFFFF03#32) ∧
        t.reg (A.evrPincfg 1) = (s.reg (A.evrPincfg 1) &&& 0xF00000FC#32) ||| ((v >>> 32).setWidth 32 &&& 0x0FFFFF03#32) ∧
          OnlyRegs s t [A.evrPincfg 0, A.evrPincfg 1])) ∧
    (∀ posted : Bool, s.boot.step < 20 → Completes (.preReadyRequest posted none) s (fun t =>
      t.reply.unsupported = !posted ∧ OnlyReply s t))

/-- O7 (tier 2; section 0.7, section 6.7, R178, R180, R458, R467). A register write of a thread slot to a block slot that
its REG_MASK leaves out is answered with a status that is not OK and changes no memory, table, frame, buffer, shape or
key state and no register below the tenant windows but the logs of refusals; its read there answers 0 and changes
nothing. A tenant's write outside its own window is refused with REFUSED_RIGHTS in the same way, and any agent but a
warden slot is refused on the security island. -/
def Obligations.AgentsOutsideTheirRightsChangeNothing : Prop :=
  ∀ (s : State) (ag : Agent) (a v : W32), s.tnt.memSpace = true →
    (isThread ag = true → a.toNat < 0x1000000 → s.reaches ag (a.toNat / 0x10000) = false →
      Completes (.registerWrite ag a v) s (fun t => t.reply.status ≠ .ok ∧ RefusedWith s t.reply.status t) ∧
      Completes (.rcRead ag a) s (fun t => t.reply.value = 0#64 ∧ t.reply.status ≠ .ok ∧ OnlyReply s t)) ∧
    (isTenant ag = true → a.toNat < 0x1000000 →
      Completes (.registerWrite ag a v) s (RefusedWith s .refusedRights)) ∧
    (isTenant ag = true → 0x1000000 ≤ a.toNat → a.toNat < 0x1200000 → (a.toNat - 0x1000000) / 0x10000 + 0x400 ≠ ag.toNat →
      a.toNat % 0x10000 < 0x100 → s.tenantState ((a.toNat - 0x1000000) / 0x10000) ≠ 1 →
      Completes (.registerWrite ag a v) s (RefusedWith s .refusedNotReady)) ∧
    (isWarden ag = false → 0x80000000 ≤ a.toNat → Completes (.registerWrite ag a v) s (RefusedWith s .refusedRights))

/-- O8 (tier 2; section 2.4, R57, R58, R59, R61, R62, Table 2-12). APPLY and ABANDON by an agent other than the manager or
a warden slot are refused with REFUSED_RIGHTS. APPLY in IDLE with a full shape and a staging region that holds the
delta goes to CHECKING and locks that region, and from then a store into it changes no byte; in any other state it
answers REFUSED_NOT_READY and changes nothing. ABANDON in CHECKING to ARMED returns to IDLE without a delta, with the
region open, group 17 disarmed and the shape as before; in DRAINING it answers REFUSED_NOT_READY, in IDLE OK, and
changes nothing. A delta that passes the checks goes to PREPARING with its parsed sections; one that fails leaves its
check code, status, section and offset in SHP_LOADERR and SHP_ERROFF and returns to IDLE. When every joining core is
ready the state is ARMED and group 17 is armed (held in the fence for after the turn); a joining core that fails its
test ends the delta. 64 turns after turn A every frame of the old fabric has left or is stomped; before that the
timeout does nothing. -/
def Obligations.LiveReshapeFollowsItsStates : Prop :=
  (∀ (s : State) (ag : Agent), isBoss ag = false →
    Completes (.shpApply ag) s (RefusedWith s .refusedRights) ∧
    Completes (.shpAbandon ag) s (RefusedWith s .refusedRights)) ∧
  (∀ (s : State) (ag : Agent), isBoss ag = true →
    (∀ r, s.shpState = 0 → s.shp.full = true → imageSlots (lcsCode s.lcs.otp.groups) ≠ [] → s.stagingFor = some r →
      Completes (.shpApply ag) s (fun t => t.shpState = 1 ∧ t.reply.status = .ok ∧ t.shp.lockBase = r.base ∧
        t.shp.lockLen = r.length ∧ t.shp.fabric = s.shp.fabric ∧ t.mem = s.mem ∧ SameRegsBut s t [A.shpStat] ∧
        (t.shp.delta.map (fun d => (d.addr, d.len))) = some (s.deltaAddr, s.fld A.shpDeltaLen 20 0) ∧
        ∀ o bs, r.base < o + bs.length → o < r.base + r.length → t.sramWrite o bs = t)) ∧
    (s.shpState ≠ 0 → Completes (.shpApply ag) s (fun t => t.reply.status = .refusedNotReady ∧ OnlyReply s t)) ∧
    (s.shpState = 0 → s.shp.full = true → imageSlots (lcsCode s.lcs.otp.groups) ≠ [] → s.stagingFor = none →
      Completes (.shpApply ag) s (fun t => t.reply.status = .refusedRange ∧ OnlyReply s t)) ∧
    (1 ≤ s.shpState → s.shpState ≤ 3 →
      Completes (.shpAbandon ag) s (fun t => t.shpState = 0 ∧ t.reply.status = .ok ∧ t.shp.delta = none ∧
        t.shp.lockLen = 0 ∧ t.shp.fabric = s.shp.fabric ∧ t.shp.memory = s.shp.memory ∧ t.shp.programs = s.shp.programs ∧
        t.shp.power = s.shp.power ∧ t.mem = s.mem ∧ t.groupArmed 17 = false ∧ ∀ c, c ∈ s.joiners → (t.core c).joins = none)) ∧
    (s.shpState = 4 → Completes (.shpAbandon ag) s (fun t => t.reply.status = .refusedNotReady ∧ OnlyReply s t)) ∧
    (s.shpState = 0 → Completes (.shpAbandon ag) s (fun t => t.reply.status = .ok ∧ OnlyReply s t))) ∧
  (∀ (s : State) (d0 : Delta), s.shp.delta = some d0 → s.shpState = 1 →
    let r := s.sramRd d0.addr
    let d := parseDelta r d0.addr d0.len
    (s.deltaFails r d d0.len = none → Completes .deltaCheckDone s (fun t => t.shpState = 2 ∧ t.shp.delta = some d ∧
      t.shp.fabric = s.shp.fabric ∧ t.mem = s.mem ∧ ∀ c p, c < 64 → s.joinsBy d c = some p → (t.core c).joins = some p)) ∧
    (∀ e, s.deltaFails r d d0.len = some e → Completes .deltaCheckDone s (fun t => t.shpState = 0 ∧ t.shp.delta = none ∧
      t.shp.fabric = s.shp.fabric ∧ t.mem = s.mem ∧ t.reg A.shpErroff = BitVec.ofNat 32 (e.off % 0x400000) ∧
      t.reg A.shpLoaderr = BitVec.ofNat 32 (e.code + (codeStatus e.code).code * 0x100 + e.sect * 0x10000)))) ∧
  (∀ (s : State) (d : Delta), s.shp.delta = some d → s.shpState = 2 → (∀ c, c ∈ s.joiners → s.pdOn c = true) →
    Completes (.deltaPrepareDone none) s (fun t => t.shpState = 3 ∧ t.shp.lockLen = 0 ∧ t.shp.fabric = s.shp.fabric ∧
      (if s.tb.fence then t.tb.held = s.tb.held ++ [Held.hwArm 17] else t.groupArmed 17 = true)) ∧
    (∀ c : Fin 64, c.val ∈ s.joiners → Completes (.deltaPrepareDone (some c)) s (fun t =>
      t.shpState = 0 ∧ t.shp.delta = none ∧ t.shp.fabric = s.shp.fabric ∧ (t.core c).st = .quarantined))) ∧
  (∀ s : State,
    (s.shpState = 4 → 64 ≤ (s.cycle - s.shp.turnA).toNat → Completes .reshapeDrainTimeout s (fun t =>
      ∀ k g, t.frame k = some g → g.fab ≠ t.flt.fabGen → g.fr.stomp = true ∨ g.early = true)) ∧
    ((s.cycle - s.shp.turnA).toNat < 64 → Completes .reshapeDrainTimeout s (fun t => t = s)))

/-- O9 (tier 2; R67, R68, R75, R78, R82, R83, R607, Table 3-1, Table 3-5, section 3.2, section 3.4). A start step does
nothing unless it is the one that runs. The plain steps complete: S03 powers PD79, S05 zeroes a root whose CRC fails,
S10 zeroes every on-chip SRAM, S11 starts TB time at 0, S18 clears the tables; S11 of a limp start and S14 complete
S15 with them when the link is in L0. A failing step records step, cause and DETAIL, up to S07 in the always-on domain
and from S08 on in the start's log entry, and waits for its restart, or halts the device in a limp start at S02, S06,
S10 or S11. A regulator fault is tried again. A step that does not end fails with STEP_TIMEOUT, but S01 and S15. The
link comes up from S03 on, and its loss during bring-up takes only L0 away. -/
def Obligations.StartStepsRunInOrderAndFail : Prop :=
  ∀ (s : State) (test vf lock rp sl df two : Bool) (rail : Option (Fin 8)) (dr : BitVec 2) (w16 : Option (BitVec 16))
      (rom : Option (Fin 4)) (ph : Option (Fin 6)) (core : Option (Fin 64)) (tab : Option (Fin 3))
      (cal : List (List (BitVec 16))) (us : W32) (vm tj : BitVec 16),
    let passed := fun (n : Nat) (t : State) => t.boot.step = n ∧ bits (t.reg A.bootStat) 4 0 = n ∧ t.boot.failed = none ∧
      t.boot.limp = s.boot.limp
    let logSafe := ∀ k, s.boot.entry = some k → kFlash ≤ k ∧ k + 64 ≤ kImageStore
    let failed := fun (n cause detail : Nat) (t : State) =>
      (s.boot.limp = true → n = 2 ∨ n = 6 ∨ n = 10 ∨ n = 11 → t.boot.halted = true ∧ t.boot.running = false ∧
        t.boot.l0 = false ∧ t.pdState 79 = 0) ∧
      (¬ (s.boot.limp = true ∧ (n = 2 ∨ n = 6 ∨ n = 10 ∨ n = 11)) → ∃ f, t.boot.failed = some f ∧ f.step = n ∧
        f.cause = cause ∧ f.detail = detail ∧ t.boot.step = s.boot.step) ∧
      (n ≤ 7 → (∃ f, t.boot.early = some f ∧ f.step = n ∧ f.cause = cause ∧ f.detail = detail) ∧ t.mem = s.mem ∧
        t.boot.s07Fails = if n = 7 then s.boot.s07Fails + 1 else s.boot.s07Fails) ∧
      (7 < n → t.boot.early = s.boot.early ∧ (s.boot.entry = none → t.mem = s.mem) ∧
        ∀ k, s.boot.entry = some k → (t.readByte (k + 0x14)).toNat = n ∧ (t.readByte (k + 0x15)).toNat = cause ∧
          t.readLE (k + 0x16) 2 = detail ∧ SameMemoryBut s t (k + 0x14) 4)
    (∀ i n, (i, n) ∈ [(Instr.vinGood test, 1), (.regulators vf rail, 2), (.alwaysOn dr, 3), (.otpAndLifeCycle w16, 4),
        (.batteryDomainAndTamper, 5), (.wardenRomSelfTest rom, 6), (.flashAndUpdateRecord w16, 7), (.imageSelectAndVerify, 8),
        (.shapeLoad, 9), (.sramRepairAndInitialisation w16, 10), (.timebasePll lock, 11), (.dramATraining ph rp sl df two, 12),
        (.dramBTraining ph rp sl df two, 13), (.serdesCalibration rail, 14), (.coreSelfTestAndQuarantine core, 16),
        (.governorCalibration cal core, 17), (.tableInitialisation tab, 18), (.secureWorldStart w16, 19), (.ready us vm tj, 20)] →
      (s.stepDue n = false → Completes i s (fun t => t = s)) ∧
      (s.boot.limp = false → s.stepDue n = true → s.boot.step = n - 1 ∧ s.boot.running = true ∧ s.boot.held = false ∧
        s.boot.failed = none) ∧
      (s.boot.limp = true → n ∈ [12, 13, 14, 16, 17, 18] → s.stepDue n = false)) ∧
    (s.stepDue 1 = true → Completes (.vinGood false) s (passed 1) ∧ Completes (.vinGood true) s (fun t => t = s)) ∧
    (s.stepDue 2 = true → Completes (.regulators vf none) s (fun t => passed 2 t ∧ t.boot.vfsel = vf) ∧
      ∀ r : Fin 8, Completes (.regulators vf (some r)) s (failed 2 0x02 r.val)) ∧
    (s.railFault = false → Completes (.regulatorRetry vf rail) s (fun t => t = s)) ∧
    (s.railFault = true → Completes (.regulatorRetry vf none) s (fun t => passed 2 t ∧ t.boot.vfsel = vf) ∧
      ∀ r : Fin 8, Completes (.regulatorRetry vf (some r)) s (failed 2 0x02 r.val)) ∧
    (s.stepDue 3 = true → Completes (.alwaysOn dr) s (fun t => passed 3 t ∧ t.pdState 79 = 2 ∧ t.boot.drspd = dr.toNat)) ∧
    (s.stepDue 4 = true →
      (s.fusesAgree = true → Completes (.otpAndLifeCycle none) s (fun t => passed 4 t ∧ t.lcs = s.lcs)) ∧
      (s.fusesAgree = false → Completes (.otpAndLifeCycle none) s (fun t => ∃ f, t.boot.failed = some f ∧ f.step = 4 ∧
        f.cause = 0x04 ∧ t.lcs = s.lcs)) ∧
      ∀ d : BitVec 16, Completes (.otpAndLifeCycle (some d)) s (failed 4 0x04 d.toNat)) ∧
    (s.stepDue 5 = true → Completes .batteryDomainAndTamper s (fun t => passed 5 t ∧
      t.sec.root = if s.sec.rootCrc = crc32c (bytes256 s.sec.root) then s.sec.root else 0#256)) ∧
    (s.stepDue 6 = true → Completes (.wardenRomSelfTest none) s (passed 6) ∧
      ∀ r : Fin 4, Completes (.wardenRomSelfTest (some r)) s (failed 6 0x06 r.val)) ∧
    (s.stepDue 10 = true → (logSafe → Completes (.sramRepairAndInitialisation none) s (fun t => passed 10 t ∧
        (∀ k, k < kFlash ∨ (kImageStore ≤ k ∧ k < kDramCh 0) → t.readByte k = 0#8) ∧
        (∀ k, kDramCh 0 ≤ k → t.readByte k = s.readByte k))) ∧
      ∀ d : BitVec 16, Completes (.sramRepairAndInitialisation (some d)) s (failed 10 0x0A d.toNat)) ∧
    (s.stepDue 11 = true → Completes (.timebasePll true) s (fun t => t.tb.started = true ∧ t.tb.now = 0#64 ∧
        passed (if s.boot.limp = true ∧ s.boot.l0 = true then 15 else 11) t) ∧
      Completes (.timebasePll false) s (failed 11 0x0B 0)) ∧
    (s.stepDue 14 = true →
      (∀ r : Option (Fin 8), (∀ l, r = some l → s.laneUsed l = false) →
        Completes (.serdesCalibration r) s (passed (if s.boot.l0 = true then 15 else 14))) ∧
      ∀ l : Fin 8, s.laneUsed l = true → Completes (.serdesCalibration (some l)) s (failed 14 0x0E l.val)) ∧
    (s.stepDue 18 = true → (logSafe → Completes (.tableInitialisation none) s (fun t => passed 18 t ∧
        t.tbl = State.reset.tbl ∧ (∀ a, a < 0x200000 → t.readByte (kTable + a) = 0#8) ∧
        ∀ i, i < 3 → i < s.shp.tables.length → ∀ c, s.shp.tables[i]? = some c →
          t.reg (A.tblSeeda i) = c.seedA ∧ t.reg (A.tblSeedb i) = c.seedB)) ∧
      ∀ i : Fin 3, Completes (.tableInitialisation (some i)) s (failed 18 0x12 i.val)) ∧
    (s.boot.running = false ∨ s.boot.held = true ∨ s.boot.failed.isSome = true ∨ s.boot.step = 0 ∨
      (s.boot.limp = false ∧ s.boot.step = 14) → Completes .startStepTimeout s (fun t => t = s)) ∧
    (s.boot.running = true → s.boot.held = false → s.boot.failed = none → s.boot.limp = false → s.boot.step ≠ 0 →
      s.boot.step ≠ 14 → s.boot.step < 20 → Completes .startStepTimeout s (failed (s.boot.step + 1) 0x20 0)) ∧
    (s.boot.held = true ∨ s.boot.halted = true ∨ s.boot.step < 3 → Completes .pcieLink s (fun t => t = s)) ∧
    (s.boot.held = false → s.boot.halted = false → 3 ≤ s.boot.step → Completes .pcieLink s (fun t => t.boot.l0 = true ∧
      t.boot.step = (if s.boot.running = true ∧ s.boot.failed = none ∧
        (s.boot.step = 14 ∨ (s.boot.limp = true ∧ s.boot.step = 11)) then 15 else s.boot.step))) ∧
    (s.boot.running = true → Completes .linkLossDuringBringUp s (fun t => t = { s with boot := { s.boot with l0 := false } })) ∧
    (s.boot.running = false → Completes .linkLossDuringBringUp s (fun t => t = s))

/-- O10 (tier 2; R55, R56, R79, R81, R83, R84, R92, R600, R601, R622, Table 3-6). S07 fails on a flash it cannot read or
on two invalid records, becomes a limp start after repeated failures, and otherwise counts a trial, ends it after
three, or burns pending fuses. S08 takes the record's bank or the other; a failed check fails the step, or loads the
limp shape when the other bank failed before. S09 loads the image or the limp shape. Training fails the first time,
then replays, trains at 2133 MT/s or disables the channel. S16 puts the lowest spare core in the place of a
quarantined one; S17 sets VCORE or holds VC_MAX; S19 starts the secure world; S20 shows the fallbacks, sets DEV_READY
and starts the cycle timer. The log entry lies in the flash outside the record. -/
def Obligations.StartsUseTheRecordTheImageAndTheirFallbacks : Prop :=
  ∀ s : State, (∀ k, s.boot.entry = some k → kData + 0x1FE000 ≤ k ∧ k + 64 ≤ kData + 0x200000) →
    let fails := fun (n cause detail : Nat) (t : State) => ∃ f, t.boot.failed = some f ∧ f.step = n ∧ f.cause = cause ∧
      f.detail = detail ∧ t.boot.step = s.boot.step
    (s.stepDue 7 = true →
      (∀ d : BitVec 16,
        (s.boot.s07Fails < 3 → s.boot.limp = false → Completes (.flashAndUpdateRecord (some d)) s (fun t => fails 7 7 d.toNat t ∧
          t.boot.s07Fails = s.boot.s07Fails + 1)) ∧
        (3 ≤ s.boot.s07Fails → Completes (.flashAndUpdateRecord (some d)) s (fun t => t.boot.step = 7 ∧ t.boot.limp = true ∧
          t.boot.noLog = true))) ∧
      (let limp := limpNow s.countedNow
       let r := s.updRec
       let keep := (s.lcs' ≠ 5 ∧ s.lcs' ≠ 6) ∨ r.wiped = true
       let cmd := Instr.flashAndUpdateRecord none
       (s.recNewest = none → limp = false → s.boot.limp = false → Completes cmd s (fails 7 7 0xFFFF)) ∧
       (s.recNewest.isSome = true ∨ limp = true → Completes cmd s (fun t => t.boot.step = 7 ∧ t.boot.limp = limp ∧
         t.boot.early = none ∧ t.boot.s07Fails = 0 ∧ t.boot.entry.isSome = true ∧
         (keep → r.state ≠ 3 → r.arbPending = false → t.updRec = r) ∧
         (keep → r.state = 3 → r.tries < 3 → r.arbPending = false →
           t.updRec = { r with tries := r.tries + 1, seq := r.seq + 1#32 }) ∧
         (keep → r.state = 3 → r.tries = 3 → r.arbPending = false → t.boot.fellBack = true ∧
           t.updRec = { r with active := 1 - r.active, state := 4, reason := 1, seq := r.seq + 1#32 }) ∧
         (keep → r.state ≠ 3 → r.arbPending = true → t.updRec = { r with arbPending := false, seq := r.seq + 1#32 } ∧
           t.lcs.otp.arb = max s.lcs.otp.arb (min 127 r.secver.toNat)))))) ∧
    (s.stepDue 8 = true →
      let b := if bit s.boot.fallback 0 = true then 1 - s.updRec.active % 2 else s.updRec.active % 2
      let cmd := Instr.imageSelectAndVerify
      (s.boot.limp = true → Completes cmd s (fun t => t.boot.step = 8 ∧ t.boot.limp = true)) ∧
      (s.boot.limp = false → s.lcs' = 1 ∨ s.lcs' = 6 → Completes cmd s (fun t => t.boot.step = 8 ∧ t.boot.limp = true)) ∧
      (s.boot.limp = false → s.lcs' ≠ 1 → s.lcs' ≠ 6 →
        (fullHead (s.bankRd b) s.lcs.otp = none → Completes cmd s (fun t => t.boot.step = 8 ∧ t.boot.limp = false ∧
          t.boot.bank = some b)) ∧
        (∀ e, fullHead (s.bankRd b) s.lcs.otp = some e →
          (s.boot.bankFail = none ∨ s.boot.bankFail = some b → Completes cmd s (fun t => fails 8 8 e.code t ∧
            t.boot.bankFail = some b ∧ bits (t.reg A.shpLoaderr) 7 0 = e.code % 256)) ∧
          (∀ o, s.boot.bankFail = some o → o ≠ b → Completes cmd s (fun t => t.boot.step = 8 ∧ t.boot.limp = true ∧
            t.boot.failed = none))))) ∧
    (s.stepDue 9 = true →
      (s.boot.limp = true → Completes .shapeLoad s (fun t => t.boot.step = 9 ∧ t.shp.full = false ∧ t.shp.fabric.pounds = [] ∧
        t.reg A.shpStat = 8#32)) ∧
      (∀ b, s.boot.limp = false → s.boot.bank = some b →
        (fullBody (s.bankRd b) s.sec.root s.boot.vfsel = none → Completes .shapeLoad s (fun t => t.boot.step = 9 ∧
          t.shp.full = true ∧ t.shp.loaded = true ∧ t.shp.digest = imgDigest (s.bankRd b) ∧
          t.reg A.shpStat = BitVec.ofNat 32 (b * 16) ∧ t.pdState 79 = 2 ∧ t.pdState 81 = 2)) ∧
        (∀ e, fullBody (s.bankRd b) s.sec.root s.boot.vfsel = some e →
          (s.boot.bankFail = none → Completes .shapeLoad s (fails 9 8 e.code)) ∧
          (∀ o, s.boot.bankFail = some o → o ≠ b → Completes .shapeLoad s (fun t => t.boot.step = 9 ∧ t.boot.limp = true ∧
            t.shp.full = false ∧ t.reg A.shpStat = 8#32))))) ∧
    (∀ (x : Fin 2) (rp sl df two : Bool),
      let n := 12 + x.val
      let cmd := fun (bad : Option (Fin 6)) => if x = 0 then Instr.dramATraining bad rp sl df two
        else .dramBTraining bad rp sl df two
      let size := if x = 0 then s.shp.memory.densA else s.shp.memory.densB
      let on := fun (k : Nat) => bit s.boot.fallback (1 + 3 * x.val + k) = true
      let how := fun (t : State) => bits (t.reg (A.drcStat x)) 10 9
      s.stepDue n = true → size < 8 → s.boot.drspd < 4 →
        (∀ bad, size = 0 → Completes (cmd bad) s (fun t => t.boot.step = n ∧ t.boot.fallback = s.boot.fallback)) ∧
        (size ≠ 0 → ¬ on 0 → ¬ on 1 → ¬ on 2 →
          Completes (cmd none) s (fun t => t.boot.step = n ∧ how t = 0 ∧ t.boot.fallback = s.boot.fallback ∧
            (df = true → x.val ∈ t.boot.train)) ∧
          ∀ d : Fin 6, Completes (cmd (some d)) s (fails n 0x0C (d.val + 1))) ∧
        (∀ bad, size ≠ 0 → on 0 → x.val ∈ s.boot.train → rp = true → Completes (cmd bad) s (fun t => t.boot.step = n ∧
          how t = 1 ∧ t.boot.fallback = s.boot.fallback)) ∧
        (∀ bad, size ≠ 0 → on 0 → ¬ on 2 → x.val ∉ s.boot.train ∨ rp = false →
          (sl = true → Completes (cmd bad) s (fun t => t.boot.step = n ∧ how t = 2 ∧
            bit t.boot.fallback (2 + 3 * x.val) = true ∧ bit t.boot.fallback (1 + 3 * x.val) = false)) ∧
          (sl = false → Completes (cmd bad) s (fun t => t.boot.step = n ∧ bit t.boot.fallback (3 + 3 * x.val) = true)))) ∧
    (∀ bad : Option (Fin 64), s.stepDue 16 = true →
      (s.boot.quar = 0#64 → s.poundEmpty = false →
        (∀ c, bad = some c → (s.core c).st ≠ .member) → Completes (.coreSelfTestAndQuarantine bad) s (fun t =>
          t.boot.step = 16 ∧ t.cores = s.cores)) ∧
      (∀ c, bad = some c → s.boot.quar = 0#64 → s.poundEmpty = false → (s.core c).st = .member →
        Completes (.coreSelfTestAndQuarantine bad) s (fails 16 0x10 c.val)) ∧
      (s.applyQuar.poundEmpty = true → Completes (.coreSelfTestAndQuarantine bad) s (fun t => t.boot.limp = true ∧
        t.boot.step = 16 ∧ t.shp.full = false)) ∧
      (∀ (c k : Fin 64) (p : PoundCfg), bad = none → s.boot.quar = (1#64 <<< c.val) → (s.core c).cfg = some p → k ≠ c →
        (s.core k).st = .spare → (∀ j, j < k.val → j ≠ c.val → (s.core j).st ≠ .spare) → s.applyQuar.poundEmpty = false →
        Completes (.coreSelfTestAndQuarantine bad) s (fun t => t.boot.step = 16 ∧ (t.core c).st = .quarantined ∧
          (t.core k).st = .member ∧ (t.core k).cfg = some p ∧ t.pdState c = 0 ∧ t.pdState k = 2 ∧
          ∀ j, j ≠ k.val → j ≠ c.val → t.core j = s.core j))) ∧
    (∀ (cal : List (List (BitVec 16))) (bad : Option (Fin 64)), s.stepDue 17 = true → s.shp.power.vcMax < 1024 →
      s.shp.power.vcInit < 1024 →
      (bit s.boot.fallback 7 = true → Completes (.governorCalibration cal bad) s (fun t => t.boot.step = 17 ∧
        bits (t.reg A.pwrVcore) 9 0 = s.shp.power.vcMax ∧ bit (t.reg A.pwrVcore) 31 = true)) ∧
      (bit s.boot.fallback 7 = false →
        (∀ c, bad = some c → Completes (.governorCalibration cal bad) s (fails 17 0x11 c.val)) ∧
        (bad = none → Completes (.governorCalibration cal bad) s (fun t => t.boot.step = 17 ∧ t.pwr.cal = calMap cal ∧
          bits (t.reg A.pwrVcore) 9 0 = s.shp.power.vcInit ∧ bit (t.reg A.pwrVcore) 31 = false)))) ∧
    (s.stepDue 19 = true →
      (∀ d : BitVec 16,
        (s.boot.limp = true → Completes (.secureWorldStart (some d)) s (fun t => t.boot.step = 19 ∧ t.sec = s.sec)) ∧
        (s.boot.limp = false → Completes (.secureWorldStart (some d)) s (fails 19 0x13 d.toNat))) ∧
      Completes (.secureWorldStart none) s (fun t => t.boot.step = 19 ∧ bit (t.reg A.secNstat) 4 = true ∧
        t.sec.wdEnd = s.time + bits (s.reg A.secWdcfg) 13 0 * 1000000 ∧
        (s.sec.lateTamper = true → t.sec.lateTamper = false ∧ Raised t 726 ∧ Raised t 727) ∧
        (s.boot.fellBack = true → Raised t 739) ∧
        (bit s.boot.fallback 0 = true → s.boot.limp = false → Raised t 742))) ∧
    (∀ (us : W32) (vm tj : BitVec 16),
      let cmd := Instr.ready us vm tj
      let p := s.shp.fabric.period
      let up := fun (x : Nat) => (if x = 0 then s.shp.memory.densA else s.shp.memory.densB) ≠ 0 ∧
        bit s.boot.fallback (3 + 3 * x) = false ∧ s.boot.limp = false
      (s.boot.l0 = false → Completes cmd s (fun t => t = s)) ∧
      (s.stepDue 20 = true → s.boot.l0 = true → Completes cmd s (fun t => t.boot.step = 20 ∧ t.boot.running = false ∧
        bit (t.reg A.bootStat) 5 = true ∧
        (bit (t.reg A.bootStat) 6 = true ↔ s.boot.limp = true ∨ s.boot.fallback ≠ 0#32) ∧
        t.reg A.bootFallback = s.boot.fallback ∧ (t.reg (A.bootQuar 0)).toNat = s.boot.quar.toNat % 0x100000000 ∧
        t.reg A.bootElapsed = us ∧ t.reg A.tbPeriod = BitVec.ofNat 32 p ∧ t.tb.timer = true ∧ t.tb.cycRun = false ∧
        t.tb.cycStart = BitVec.ofNat 64 ((s.time / p + 1) * p) ∧
        (∀ x, x < 2 → up x → bits (t.reg (A.drcStat x)) 2 0 = if (s.ch x).fills = [] then 1 else 4) ∧
        (bit (t.reg A.topCaps) 18 = true ↔ s.boot.limp = true) ∧
        (bit (t.reg A.topCaps) 16 = true ↔ up 0) ∧ (bit (t.reg A.topCaps) 17 = true ↔ up 1) ∧
        (s.boot.limp = true → bits (t.reg A.topCaps) 15 0 = 0))))

/-- O11 (tier 2; R69, R73, R74, R75, R76, R77, R79, R456, R486, R489, R580, Table 3-4). A power-on reset, PERST#, the
watchdog, a soft reset with its key and an internal restart set BOOT_CAUSE, start at their step, empty memory but for
the flash and the host's, and keep fuses, flash and, with VBAT, root and tamper record. An internal restart keeps the
link and adds the fallback of the failed step; RETRY_ALL drops every fallback at the next start. A BOOT_CTRL write
without its key or right is refused. An FLR stops the mailbox and, when complete, leaves no tenant, disables bus
mastering, memory space and MSI-X and raises EV584. Before S20 and during an FLR configuration requests are retried;
after it a configuration write takes effect, and a pending vector is sent once it may be. -/
def Obligations.ResetsClearAndKeepWhatTheirTableLists : Prop :=
  (∀ s : State,
    let cleared := fun (kind step : Nat) (t : State) => t.reg A.bootCause = BitVec.ofNat 32 kind ∧ t.boot.step = step ∧
      t.boot.failed = none ∧ t.boot.limp = false ∧ t.boot.halted = false ∧ t.lcs.otp = s.lcs.otp ∧ t.lcs.grant = none ∧
        t.sec.nonce = none ∧ t.sec.key = 0#256 ∧ t.slots = [] ∧ t.flt = State.reset.flt ∧ t.tb = State.reset.tb ∧
          t.reg A.topCaps = State.reset.reg A.topCaps ∧
            ∀ k, t.readByte k = if keptKey k = true then s.readByte k else memDefault k
    let battery := fun (t : State) => t.sec.root = s.sec.root ∧ t.sec.rootCrc = s.sec.rootCrc ∧
      ∀ a, a ∈ [A.secTampcfg, A.secTamprec, A.secTamptime, A.pwrShutrec] → t.reg a = s.reg a
    let chip := fun (kind step : Nat) (t : State) => cleared kind step t ∧ battery t
    let kept := fun (t : State) => s.boot.retry = false → t.boot.fallback = s.boot.fallback ∧ t.boot.quar = s.boot.quar
    let dropped := fun (t : State) => t.boot.fallback = 0#32 ∧ t.boot.quar = 0#64 ∧ t.boot.retry = false
    Completes (.powerOnReset true) s (fun t => chip 1 0 t ∧ kept t ∧ t.boot.running = true ∧ t.boot.early = none ∧
      t.boot.s07Fails = 0) ∧
    Completes (.powerOnReset false) s (fun t => cleared 1 0 t ∧ kept t ∧ t.sec.root = 0#256 ∧
      ∀ a, a ∈ [A.secTampcfg, A.secTamprec, A.secTamptime, A.pwrShutrec] → t.reg a = 0#32) ∧
    Completes .perstAssert s (fun t => chip 2 (min 3 s.boot.step) t ∧ kept t ∧ t.boot.held = true ∧ t.boot.running = false) ∧
    (s.boot.held = false → Completes .perstRelease s (fun t => t = s)) ∧
    (s.boot.held = true → Completes .perstRelease s (fun t => chip 2 (min 3 s.boot.step) t ∧ kept t ∧ t.boot.held = false ∧
      t.boot.running = true)) ∧
    (s.sec.wdExpired = false → Completes .secureWatchdogReset s (fun t => t = s)) ∧
    (s.sec.wdExpired = true → Completes .secureWatchdogReset s (fun t => chip 3 3 t ∧ kept t ∧ t.boot.running = true)) ∧
    (∀ (ag : Agent) (v : W32),
      let st := s.bootKey ag v
      (s.boot.step < 20 → st = .refusedNotReady) ∧ (20 ≤ s.boot.step → isBoss ag = false → st = .refusedRights) ∧
      (20 ≤ s.boot.step → isBoss ag = true → st = if bits v 31 16 = 0xA5C3 then .ok else .refusedRange) ∧
      (st ≠ .ok → Completes (.softReset ag v) s (RefusedWith s st) ∧ Completes (.retryAll ag v) s (RefusedWith s st)) ∧
      (st = .ok → Completes (.softReset ag v) s (fun t => chip 4 3 t ∧ t.boot.running = true ∧ t.reply.status = .ok ∧
        (bit v 1 = true → dropped t) ∧ (bit v 1 = false → kept t))) ∧
      (st = .ok → bit v 0 = false → Completes (.retryAll ag v) s (fun t => t.boot = { s.boot with retry := true } ∧
        bit (t.reg A.bootStat) 24 = true ∧ t.mem = s.mem ∧ t.slots = s.slots ∧ OnlyRegs { s with boot := t.boot } t [A.bootStat]))) ∧
    (s.boot.failed = none → Completes .internalRestart s (fun t => t = s)) ∧
    (∀ f, s.boot.failed = some f →
      (f.step = 2 → Completes .internalRestart s (fun t => t = s)) ∧
      (f.step ≠ 2 → Completes .internalRestart s (fun t => chip 5 3 t ∧ t.boot.running = true ∧ t.boot.l0 = s.boot.l0 ∧
        t.tnt.busMaster = s.tnt.busMaster ∧ (s.boot.retry = true → dropped t) ∧
        (s.boot.retry = false →
          (f.step = 8 ∨ f.step = 9 → bit t.boot.fallback 0 = !bit s.boot.fallback 0) ∧
          (f.step = 12 → bit t.boot.fallback 1 = true) ∧ (f.step = 13 → bit t.boot.fallback 4 = true) ∧
          (f.step = 14 → bit t.boot.fallback (8 + f.detail % 8) = true) ∧ (f.step = 17 → bit t.boot.fallback 7 = true) ∧
          (f.step = 16 → t.boot.quar = s.boot.quar ||| (1#64 <<< (f.detail % 64)) ∧ t.boot.fallback = s.boot.fallback) ∧
          (f.step ∉ [8, 9, 12, 13, 14, 16, 17] → kept t)))))) ∧
  (∀ (s : State) (link : Bool),
    (s.boot.step < 20 → Completes (.functionLevelReset link) s (fun t => t = s)) ∧
    (20 ≤ s.boot.step → Completes (.functionLevelReset link) s (fun t => t.tnt = { s.tnt with flr := true } ∧
      t.mem = s.mem ∧ t.boot.l0 = (s.boot.l0 && !link) ∧
      (s.mboxBusy = true → bits (t.reg A.secMstat) 9 8 = 2 ∧ bits (t.reg A.secMstat) 7 0 = Status.timeout.code ∧
        ∀ r, r ∈ t.sec.queue → r.kind ≠ 1))) ∧
    (s.tnt.flr = false → Completes .flrComplete s (fun t => t = s)) ∧
    (s.tnt.flr = true → Completes .flrComplete s (fun t => (∀ n, n < 32 → t.tenantState n = 0) ∧ t.tnt.busMaster = false ∧
      t.tnt.memSpace = false ∧ t.tnt.flr = false ∧ t.msix.enable = false ∧ t.msix.unmasked = [] ∧ t.reg A.tntMcfg = 0#32 ∧
      Raised t 584 ∧ t.boot = s.boot ∧ t.tb = s.tb))) ∧
  (∀ (s : State) (bm ms me mm : Bool),
    let away := s.boot.step < 20 ∨ s.tnt.flr = true
    ((s.boot.step = 20 ∧ s.tnt.flr = false) ∨ s.boot.l0 = false → Completes .preReadyConfigRequest s (fun t => t = s)) ∧
    (away → s.boot.l0 = true → Completes .preReadyConfigRequest s (fun t => t.reply.retry = true ∧ OnlyReply s t)) ∧
    (away → Completes (.configurationWrite bm ms me mm) s (fun t => t.reply.retry = true ∧ OnlyReply s t)) ∧
    (¬ away → Completes (.configurationWrite bm ms me mm) s (fun t =>
      t.reply.retry = false ∧ t.tnt = { s.tnt with busMaster := bm, memSpace := ms } ∧ t.msix.enable = me ∧ t.msix.fmask = mm ∧
      t.msix.unmasked = s.msix.unmasked ∧ t = { s with tnt := t.tnt, msix := t.msix, reply := t.reply } ∧
      (bm = false ∨ me = false ∨ mm = true → t.msix.sent = s.msix.sent ∧ t.msix.pend = s.msix.pend) ∧
      (bm = true → me = true → mm = false → ∀ v, SMap.get (fun _ => false) s.msix.pend v = true →
        SMap.get (fun _ => false) s.msix.unmasked v = true →
        v ∈ t.msix.sent ∧ SMap.get (fun _ => false) t.msix.pend v = false))))

/-- O12 (tier 2; R86, R88, R89, R90, R93, R94, R95, R99, R102, R103, R104, R106). For an agent that reaches the TB block:
TB_RATE takes a value within 500 ppm and refuses others, keeping the old one. Outside the fence TB_PERIOD (10 000 to 4
000 000, others refused), TB_PHASE and TB_STEP_HI go to their shadows, the live values stay, and groups 0, 2 and 1 are
armed; a write of TB_STEP_HI captures TB_STEP_LO with it. Inside the fence they are held, answered DELAYED, and no
shadow changes. A snapshot leaves the time, the cycle and the offset in the agent's own copy; TB_NOW_LO answers the
low half of TB time and leaves the high half in the agent's latch; a read of TB_SHRB_DATA answers the pending shadow.
An EXPLICIT group is armed; disarming clears the arm and reloads the shadow; a HW group is refused with
REFUSED_RIGHTS, and group 22 of another agent than a warden slot with REFUSED_SECURE. -/
def Obligations.TimebaseRegistersCheckShadowAndArm : Prop :=
  ∀ (s : State) (ag : Agent) (v : W32), s.reaches ag 0x03 = true →
    let held := fun (c : Instr) (a g : Nat) => Completes c s (fun t =>
      t.tb.held = s.tb.held ++ [Held.write ag a v] ∧ t.shadow = s.shadow ∧ t.reply.status = .delayed ∧
        bits (t.reg A.tbTurnstat) 7 0 = g)
    let shadowed := fun (t : State) (a : Nat) => t.reg a = s.reg a ∧ t.reply.status = .ok ∧ SameRegsBut s t [A.tbArmed]
    (-0x20C49BA5 ≤ v.toInt → v.toInt ≤ 0x20C49BA5 → Completes (.tbRateWrite ag v) s (fun t =>
      t.reg A.tbRate = v ∧ t.reply.status = .ok ∧ OnlyRegs s t [A.tbRate])) ∧
    (v.toInt < -0x20C49BA5 ∨ 0x20C49BA5 < v.toInt → Completes (.tbRateWrite ag v) s (RefusedWith s .refusedRange)) ∧
    (bits v 21 0 < 10000 ∨ 4000000 < bits v 21 0 → Completes (.tbPeriodWrite ag v) s (RefusedWith s .refusedRange)) ∧
    (s.tb.fence = false →
      (10000 ≤ bits v 21 0 → bits v 21 0 ≤ 4000000 → Completes (.tbPeriodWrite ag v) s (fun t =>
        bits (t.shadowOf A.tbPeriod) 21 0 = bits v 21 0 ∧ t.groupArmed 0 = true ∧ shadowed t A.tbPeriod)) ∧
      Completes (.tbPhaseWrite ag v) s (fun t =>
        t.shadowOf A.tbPhase = v ∧ t.groupArmed 2 = true ∧ shadowed t A.tbPhase) ∧
      Completes (.stepArm ag v) s (fun t => t.shadowOf A.tbStepHi = v ∧ t.shadowOf A.tbStepLo = s.reg A.tbStepLo ∧
        t.groupArmed 1 = true ∧ shadowed t A.tbStepHi)) ∧
    (s.tb.fence = true →
      (10000 ≤ bits v 21 0 → bits v 21 0 ≤ 4000000 → held (.tbPeriodWrite ag v) A.tbPeriod 0) ∧
      held (.tbPhaseWrite ag v) A.tbPhase 2 ∧ held (.stepArm ag v) A.tbStepHi 1) ∧
    Completes (.snapshotTake ag) s (fun t =>
      cat64 (t.reg (agKey ag A.tbSnapHi)) (t.reg (agKey ag A.tbSnapLo)) = s.tb.now ∧
        t.reg (agKey ag A.tbSnapCycle) = s.cycle ∧ t.reg (agKey ag A.tbSnapOffset) = BitVec.ofNat 32 s.offset ∧
        OnlyRegs s t [agKey ag A.tbSnapLo, agKey ag A.tbSnapHi, agKey ag A.tbSnapCycle, agKey ag A.tbSnapOffset]) ∧
    Completes (.tbNowRead ag) s (fun t => t.reply.value = (s.tb.now.setWidth 32).setWidth 64 ∧
      t.latchOf ag = (s.tb.now >>> 32).setWidth 32 ∧ t.regs = s.regs ∧ t.tb = s.tb ∧ t.mem = s.mem) ∧
    (isBoss ag = true → s.tnt.memSpace = true → s.reg (agKey ag A.tbShrbAddr) = BitVec.ofNat 32 A.tbPhase →
      Completes (.shadowReadback ag) s (fun t => t.reply.value = (s.shadowOf A.tbPhase).setWidth 64 ∧ OnlyReply s t)) ∧
    (∀ g, g < 23 →
      (autoGroup g = false → hwGroup g = false → (g = 22 → isWarden ag = true) → s.tb.fence = false →
        ((g = 16 → bit (s.reg A.shfBankstat) 1 = true) → Completes (.armGroups ag (BitVec.ofNat 32 (2 ^ g))) s (fun t =>
          t.groupArmed g = true ∧ t.reply.status = .ok ∧ OnlyRegs s t [A.tbArmed])) ∧
        Completes (.disarmGroups ag (BitVec.ofNat 32 (2 ^ g))) s (fun t => t.groupArmed g = false ∧
          t.reply.status = .ok ∧ SameRegsBut s t [A.tbArmed] ∧ ∀ a, groupOf a = g → t.shadowOf a = s.reg a)) ∧
      (hwGroup g = true → Completes (.armGroups ag (BitVec.ofNat 32 (2 ^ g))) s (RefusedWith s .refusedRights) ∧
        Completes (.disarmGroups ag (BitVec.ofNat 32 (2 ^ g))) s (RefusedWith s .refusedRights)) ∧
      (g = 22 → isWarden ag = false →
        Completes (.armGroups ag (BitVec.ofNat 32 (2 ^ g))) s (RefusedWith s .refusedSecure) ∧
        Completes (.disarmGroups ag (BitVec.ofNat 32 (2 ^ g))) s (RefusedWith s .refusedSecure)))

/-- O13 (tier 2; R85, R86, R87, R105, R106, assumption 3). With a positive rate that crosses a whole nanosecond at the
n-th edge, TB time stands n + 1 later after that edge; when the value skipped is the next cycle start, it is reached
exactly and the correction comes one edge later; with a negative rate TB time stands n - 1 later. With rate 0 or
before S11 nothing happens (the model's choice of one command for the edges up to the correction, assumption 3). The
fence begins 500 ns before the turn; with no cycle timer, or inside the fence, the command does nothing. Directly
after the turn the held writes and arms take effect in arrival order; inside the fence nothing does. -/
def Obligations.CorrectionsAndTheFenceFollowTheTimebase : Prop :=
  (∀ (s : State) (n : Nat), s.tb.started = true → s.tb.skipDue = false → 1 ≤ n →
    let r := (s.reg A.tbRate).toInt
    (0 < r → s.tb.acc + ((n - 1 : Nat) : Int) * r < 2 ^ 40 → 2 ^ 40 ≤ s.tb.acc + (n : Int) * r →
      (s.tb.timer = false → Completes .correctionEdge s (fun t => t = { s with tb := { s.tb with
        now := s.tb.now + BitVec.ofNat 64 (n + 1), acc := s.tb.acc + (n : Int) * r - 2 ^ 40 } })) ∧
      (s.tb.timer = true → (s.tb.now + BitVec.ofNat 64 (n - 1)).toNat + 1 = s.turnAt → s.turnAt < 2 ^ 64 →
        Completes .correctionEdge s (fun t => t = { s with tb := { s.tb with
          now := s.tb.now + BitVec.ofNat 64 (n + 2), acc := s.tb.acc + ((n + 1 : Nat) : Int) * r - 2 ^ 40 } }))) ∧
    (r < 0 → -(2 ^ 40) < s.tb.acc + ((n - 1 : Nat) : Int) * r → s.tb.acc + (n : Int) * r ≤ -(2 ^ 40) →
      Completes .correctionEdge s (fun t => t = { s with tb := { s.tb with
        now := s.tb.now + BitVec.ofNat 64 (n - 1), acc := s.tb.acc + (n : Int) * r + 2 ^ 40 } }))) ∧
  (∀ s : State, s.tb.started = false ∨ s.reg A.tbRate = 0#32 → Completes .correctionEdge s (fun t => t = s)) ∧
  (∀ s : State,
    (s.tb.timer = true → s.tb.fence = false → s.tb.held = [] → s.turnAt < 2 ^ 64 → Completes .turnFenceBegin s (fun t =>
      t.tb = { s.tb with fence := true, now := if s.time + 500 < s.turnAt then BitVec.ofNat 64 (s.turnAt - 500) else s.tb.now })) ∧
    (s.tb.timer = false ∨ s.tb.fence = true → Completes .turnFenceBegin s (fun t => t = s)) ∧
    (s.tb.fence = true → Completes .heldWritesApply s (fun t => t = s)) ∧
    (s.tb.fence = false → Completes .heldWritesApply s (fun t => t.tb.held = [])) ∧
    (∀ (a b : Agent) (u v : W32), s.tb.fence = false →
      s.tb.held = [Held.write a A.tbPhase u, Held.hwArm 19, Held.write b A.tbPhase v] →
      Completes .heldWritesApply s (fun t => t.tb.held = [] ∧ t.shadowOf A.tbPhase = v ∧ t.groupArmed 2 = true ∧
        t.groupArmed 19 = true ∧ t.mem = s.mem ∧ SameRegsBut s t [A.tbArmed])))

/-- O14 (tier 3; R90, R91, R93, R95, R96, R97, R100, R101). For every state with the cycle timer running inside the fence,
whatever else is going on: the turn ends the fence, numbers the new cycle one higher (cycle 0 stays 0), starts it at
the end of the old one plus an armed step that is in range, and gives it the period that group 0 swaps in, plus an
armed phase within the bounds of R96 and without one beyond them. TB_PERIOD and TB_TTAG take their shadows where
groups 0 and 3 are armed; groups 0 to 3 are disarmed after a swap. Every pending fire of a strobe moves by the step.
Without the cycle timer nothing happens. -/
def Obligations.TheTurnBeginsTheNextCycle : Prop :=
  (∀ s : State, s.tb.timer = true → s.tb.fence = true → s.time ≤ s.turnAt → s.turnAt < 2 ^ 63 →
    let f := (s.shadowOf A.tbPhase).toInt
    let e := (cat64 (s.shadowOf A.tbStepHi) (s.shadowOf A.tbStepLo)).toInt
    let phased := s.groupArmed 2 = true ∧ f.natAbs ≤ s.nextPeriod / 8 ∧ 10000 ≤ (s.nextPeriod : Int) + f ∧
      (s.nextPeriod : Int) + f ≤ 4000000
    let stepped := s.groupArmed 1 = true ∧ 0 ≤ (s.turnAt : Int) + e ∧ (s.turnAt : Int) + e < 2 ^ 63
    Completes .turn s (fun t =>
      t.tb.fence = false ∧ t.tb.cycRun = true ∧ t.tb.prevStart = s.tb.cycStart ∧ t.tb.held = s.tb.held ∧
      t.cycle = (if s.tb.cycRun then s.cycle + 1#32 else s.cycle) ∧
      (stepped → t.tb.cycStart = BitVec.ofInt 64 (s.turnAt + e) ∧ t.tb.now = BitVec.ofInt 64 (s.turnAt + e)) ∧
      (¬ stepped → t.tb.cycStart = BitVec.ofNat 64 s.turnAt ∧ t.tb.now = BitVec.ofNat 64 s.turnAt) ∧
      (phased → (t.tb.cycLen : Int) = s.nextPeriod + f) ∧ (¬ phased → t.tb.cycLen = s.nextPeriod) ∧
      (s.groupArmed 0 = true → bits (t.reg A.tbPeriod) 21 0 = bits (s.shadowOf A.tbPeriod) 21 0) ∧
      (s.groupArmed 0 = false → t.reg A.tbPeriod = s.reg A.tbPeriod) ∧
      (∀ n, n < 16 → s.groupArmed 3 = false → t.reg (A.tbTtag n) = s.reg (A.tbTtag n)) ∧
      (∀ n, n < 16 → s.groupArmed 3 = true → bits (t.reg (A.tbTtag n)) 15 0 = bits (s.shadowOf (A.tbTtag n)) 15 0) ∧
      (∀ g, g < 4 → t.groupArmed g = false) ∧
      ∀ n p, (s.strobe n).pend = some p → (t.strobe n).pend.map (·.due) =
        some (if s.groupArmed 1 = true ∧ 0 ≤ (s.turnAt : Int) + e ∧ (s.turnAt : Int) + e < 2 ^ 63 then p.due + BitVec.ofInt 64 e
          else p.due))) ∧
  (∀ s : State, s.tb.timer = false → Completes .turn s (fun t => t = s))

/-- O15 (tier 2; R113, R116, R117, R118, R126, R319, R371, R372, R390, section 5.1). A frame that fits waits in the FIFO
of its port, one for a port out of service is only counted, and a C3 frame that does not fit is dropped and counted.
The only waiting frame of a port, with a ticket and a buffer free, no T1 entry and an ENTRY pound with room, takes
that ticket with its port, class, buffer, bytes and the next SEQ, and its arrival token goes to that pound; a hold of
the sequencer stops admission. A held post is made once more and otherwise drops the frame. The last byte sets
FCS_DONE, with FCS_BAD for a wrong FCS; a runt and a frame beyond MAXFRAME are dropped and counted; a frame with an
assembly error is discarded with its event and its own count, or marked FCS_BAD where it holds a ticket. A pending
lookup leaves its result, LKSTAT and epoch in the record; one that is not pending changes nothing. -/
def Obligations.FramesEnterWaitAndAreChecked : Prop :=
  (∀ (s : State) (p : Fin 8) (bytes : List Byte), 14 ≤ bytes.length →
    (s.inService p = false → Completes (.frameArrival p bytes) s (fun t => t = s.count (prtCtr p 9))) ∧
    (s.inService p = true → hdrEtype bytes ≠ 0x8808 →
      let r : RxFrame := { bytes := bytes, cls := s.classify p bytes, ticket := none, gone := false, fin := false, t0 := s.time }
      (rxUse (s.rxList p) + roundUp bytes.length 64 ≤ 16384 → Completes (.frameArrival p bytes) s (fun t =>
        t.rxList p = s.rxList p ++ [r] ∧ t = { s with flt := { s.flt with rx := t.flt.rx } })) ∧
      (16384 < rxUse (s.rxList p) + roundUp bytes.length 64 → s.classify p bytes = 3 → Completes (.frameArrival p bytes) s
        (fun t => t.rxList p = s.rxList p ++ [{ r with gone := true }] ∧ t.flt.frames = s.flt.frames ∧
          t.counter (prtCtr p 5) = s.counter (prtCtr p 5) + 1#64 ∧ t.counter (fltDrop 3) = s.counter (fltDrop 3) + 1#64)))) ∧
  (∀ (s : State) (p : Fin 8), s.holding118 p = true → Completes (.frameAdmission p) s (fun t => t = s)) ∧
  (∀ (s : State) (p : Fin 8) (r : RxFrame) (k : Nat) (sh : Bool) (n : Nat), s.holding118 p = false → s.rxList p = [r] →
    mayAdmit [r] 0 = true → r.fin = false → s.takeTicket r.cls = some (k, sh) → (s.frameBuffer p r.cls r.bytes).1 = .ok →
    s.tblFind 1 (s.keyStream p r.bytes) = none → n = nth s.shp.fabric.entry r.cls 0xFF → n ≠ 0xFF →
    (s.frameBuffer p r.cls r.bytes).2.2.entryFree (0x10 + n) = true →
    Completes (.frameAdmission p) s (fun t => ∃ f, t.frame k = some f ∧ f.fr.port = p.val ∧ f.fr.cls = r.cls ∧
      f.wire = r.bytes ∧ f.fr.buf = BitVec.ofNat 32 (s.frameBuffer p r.cls r.bytes).2.1 ∧ f.pound = some n ∧ f.hold = none ∧
      f.fr.seq = SMap.get (fun _ => 0#16) s.flt.seqNext (domainOf p r.cls) ∧ f.fr.admitAt = s.tb.now ∧ f.shared = sh ∧
      t.rxList p = [{ r with ticket := some k }])) ∧
  (∀ (s : State) (p : Fin 10) (k : Nat) (f : Frame) (n : Nat), s.frame k = some f → f.pound = some n → f.eg = none →
    f.released = false →
    s.flt.frames.find? (fun x => (x.2.map (fun f => decide (f.fr.port = p.val) && f.hold.isSome)).getD false) = some (k, some f) →
    (s.entryFree (0x10 + n) = true → Completes (.arrivalTokenHoldExpiry p) s (fun t => ∃ g, t.frame k = some g ∧
      g.hold = none ∧ g.pound = some n ∧ g.fr = f.fr)) ∧
    (s.entryFree (0x10 + n) = false → Completes (.arrivalTokenHoldExpiry p) s (fun t => t.frame k = none ∧
      t.counter (fltDrop f.fr.cls) = s.counter (fltDrop f.fr.cls) + 1#64))) ∧
  (∀ (s : State) (p : Fin 8) (r : RxFrame), s.rxList p = [r] → r.fin = false → r.gone = false →
    (r.bytes.length < 64 → Completes (.frameFcsReceived p false) s (fun t => t.rxList p = [] ∧ t.flt.frames = s.flt.frames ∧
      t.counter (prtCtr p 3) = s.counter (prtCtr p 3) + 1#64 ∧ t.counter (prtCtr p 0) = s.counter (prtCtr p 0) + 1#64)) ∧
    (64 ≤ r.bytes.length → r.ticket = none → Completes (.frameFcsReceived p false) s (fun t =>
      t.rxList p = [{ r with fin := true }] ∧ t.flt.frames = s.flt.frames ∧
        t.counter (prtCtr p 1) = s.counter (prtCtr p 1) + BitVec.ofNat 64 r.bytes.length)) ∧
    (∀ k f, 64 ≤ r.bytes.length → r.ticket = some k → s.frame k = some f → f.wire = r.bytes → f.fr.port = p.val →
      (s.portCfg p).stamp = false → s.barged p r.bytes = false → f.eg = none → f.released = false → f.complete = false →
      Completes (.frameFcsReceived p false) s (fun t => ∃ g, t.frame k = some g ∧ t.rxList p = [] ∧ g.fr.fcsDone = true ∧
        g.fr.fcsBad = !fcsGood r.bytes ∧ g.fr.len = r.bytes.length ∧ g.complete = false)) ∧
    (r.ticket = none → Completes (.frameFcsReceived p true) s (fun t => t.rxList p = [] ∧ t.flt.frames = s.flt.frames ∧
      Raised t (prtEvent p 9) ∧ t.counter (prtCtr p 8) = s.counter (prtCtr p 8) + 1#64)) ∧
    (∀ k f, r.ticket = some k → s.frame k = some f → f.eg = none → f.released = false → f.complete = false →
      Completes (.frameFcsReceived p true) s (fun t => ∃ g, t.frame k = some g ∧ t.rxList p = [] ∧ g.fr.fcsDone = true ∧
        g.fr.fcsBad = true ∧ t.counter (prtCtr p 8) = s.counter (prtCtr p 8) + 1#64)) ∧
    ((s.portCfg p).maxFrame < r.bytes.length →
      (r.ticket = none → Completes (.frameOversize p) s (fun t => t.rxList p = [{ r with gone := true }] ∧
        t.counter (prtCtr p 4) = s.counter (prtCtr p 4) + 1#64 ∧ t.counter (fltDrop r.cls) = s.counter (fltDrop r.cls) + 1#64)) ∧
      (∀ k f, r.ticket = some k → s.frame k = some f → f.eg = none → Completes (.frameOversize p) s (fun t =>
        t.frame k = none ∧ t.counter (prtCtr p 4) = s.counter (prtCtr p 4) + 1#64)))) ∧
  (∀ (s : State) (k : Fin 1024) (n : Fin 3) (f : Frame), s.frame k = some f →
    (nth f.fr.lk n 0 ≠ 3 → Completes (.lookupResult k n) s (fun t => t = s)) ∧
    (nth f.fr.lk n 0 = 3 →
      let key := if n.val = 0 then s.keyDst f.fr.port f.wire else if n.val = 1 then s.keyStream f.fr.port f.wire
        else keyPartner f.fr.port f.wire
      let a := s.tblLookup n key (some f.fr.port)
      Completes (.lookupResult k n) s (fun t => ∃ g, t.frame k = some g ∧ g.wire = f.wire ∧ g.fr = { f.fr with
        res := f.fr.res.set n a.1, lk := f.fr.lk.set n a.2.1, epoch := f.fr.epoch.set n (BitVec.ofNat 16 (s.epoch n)) })))

/-- O16 (tier 2; R120, R122, R123, R124, R126, R127, R138, R139, Table 5-2). A slot whose thread has a current frame that
has not begun to leave commits a verdict: ROUTE to a pound with room sets VERDICT, LAST_POUND and the pound; without
room it answers REFUSED_CAPACITY and the frame stays; ROUTE to the towpath completes the flight; ROUTE[r] = 0xFF and
DROP drop and count the frame and free its buffer; CONSUME_FREE frees the buffer and CONSUME_KEEP passes it to the
slot's owner entry. Without a current frame every verdict answers REFUSED_NOT_READY. SEND_CTL of a sound buffer makes
a port-9 frame with its flight complete; lengths 0, below 64 and above 9216 are refused. A release hands the oldest
eligible frame to its port's queue; a run-ahead frame whose flight is not complete at its FCS is stomped and counted. -/
def Obligations.VerdictsAndSendsMoveFrames : Prop :=
  (∀ (s : State) (w : SlotId) (n k : Nat) (f : Frame) (rest : BitVec 30), (s.slot w).stores = [] →
    (s.slot w).thread = some n → (s.thread n).frame = some k → s.frame k = some f → f.eg = none → f.released = false →
    let r := (s.fabricOf f).routeOf (f.pound.getD 0) (bits (rest ++ 0#2 : W32) 3 2)
    (r ≠ 0xFE → r ≠ 0xFF → s.entryFree (0x10 + r) = true → Completes (.verdictRoute w rest) s (fun t =>
      t.reply.status = .ok ∧ ∃ g, t.frame k = some g ∧ g.pound = some r ∧ g.fr.verdict = rest ++ 0#2 ∧
        g.fr.lastPound = f.pound.getD 0 ∧ g.wire = f.wire ∧ g.fr.buf = f.fr.buf)) ∧
    (r ≠ 0xFE → r ≠ 0xFF → s.entryFree (0x10 + r) = false → Completes (.verdictRoute w rest) s (fun t =>
      t.reply.status = .refusedCapacity ∧ t.frame k = some f)) ∧
    (r = 0xFE → f.fr.fcsDone = false → Completes (.verdictRoute w rest) s (fun t => t.reply.status = .ok ∧
      ∃ g, t.frame k = some g ∧ g.complete = true ∧ g.pound = none ∧ g.fr.verdict = rest ++ 0#2)) ∧
    (r = 0xFF → Completes (.verdictRoute w rest) s (fun t => t.reply.status = .ok ∧ t.frame k = none ∧
      t.counter (fltDrop f.fr.cls) = s.counter (fltDrop f.fr.cls) + 1#64)) ∧
    Completes (.verdictDrop w rest) s (fun t => t.reply.status = .ok ∧ t.frame k = none ∧
      t.counter (fltDrop f.fr.cls) = s.counter (fltDrop f.fr.cls) + 1#64 ∧
      (bufArea f.fr.buf.toNat < 6 → t.bufTag (bufPtr f.fr.buf.toNat) = tagFree) ∧
      (s.flt.logCells ≠ [] → t.reg A.fltDlogWr = s.reg A.fltDlogWr + 1#32)) ∧
    Completes (.verdictConsumeFree w rest) s (fun t => t.reply.status = .ok ∧ t.frame k = none ∧
      t.counter (fltDrop f.fr.cls) = s.counter (fltDrop f.fr.cls) ∧
      (bufArea f.fr.buf.toNat < 6 → t.bufTag (bufPtr f.fr.buf.toNat) = tagFree)) ∧
    Completes (.verdictConsumeKeep w rest) s (fun t => t.reply.status = .ok ∧ t.frame k = none ∧
      ∀ e, s.entryOf (slotAgent w).toNat = some e → bufArea f.fr.buf.toNat ≠ 6 →
        t.bufTag (bufPtr f.fr.buf.toNat) = e)) ∧
  (∀ (s : State) (w : SlotId) (n : Nat) (rest : BitVec 30), (s.slot w).stores = [] → (s.slot w).thread = some n →
    (s.thread n).frame = none →
    let refused := fun (t : State) => t.reply.status = .refusedNotReady ∧ t.flt = s.flt ∧ t.bsn = s.bsn ∧ t.mem = s.mem ∧
      bits (t.slot w).ctx.flags 15 8 = Status.refusedNotReady.code
    Completes (.verdictRoute w rest) s refused ∧ Completes (.verdictDrop w rest) s refused ∧
    Completes (.verdictConsumeKeep w rest) s refused ∧ Completes (.verdictConsumeFree w rest) s refused) ∧
  (∀ (s : State) (w : SlotId) (v : W32), (s.slot w).stores = [] →
    let b := (s.slot w).sendBuf.toNat
    let len := bits v 29 16
    (len = 0 → Completes (.sendCtl w v) s (fun t => t.reply.status = .zeroLength ∧ t.flt = s.flt ∧ t.bsn = s.bsn)) ∧
    ((0 < len ∧ len < 64) ∨ 9216 < len → Completes (.sendCtl w v) s (fun t => t.reply.status = .refusedRange ∧
      t.flt = s.flt ∧ t.bsn = s.bsn)) ∧
    (∀ k sh e, 64 ≤ len → len ≤ 9216 → s.validBuf b = true → len ≤ s.bufBytes b →
      some (s.bufTag (bufPtr b)) = s.entryOf (slotAgent w).toNat → s.takeTicket (bits v 13 12) = some (k, sh) →
      s.entryOf 0x600 = some e → Completes (.sendCtl w v) s (fun t => t.reply.status = .ok ∧ ∃ f, t.frame k = some f ∧
        f.fr.port = 9 ∧ f.fr.cls = bits v 13 12 ∧ f.fr.len = len ∧ f.complete = true ∧ f.fr.fcsDone = true ∧
        f.fr.egress = BitVec.ofNat 16 (bits v 8 0) ∧ f.fr.queue = bits v 11 9 ∧ f.fr.buf = BitVec.ofNat 32 b ∧
        (bufArea b ≠ 6 → t.bufTag (bufPtr b) = e)))) ∧
  (∀ (s : State) (p : Fin 10) (c : Fin 4),
    let pick := s.flt.frames.find? (fun x => (x.2.map (fun f => decide (f.fr.port = p.val) && decide (f.fr.cls = c.val) &&
      f.eligible && s.oldest f)).getD false)
    (pick = none → Completes (.towpathRelease p c) s (fun t => t = s)) ∧
    (∀ (k : Nat) (f : Frame) (q : Fin 8), pick = some (k, some f) → s.frame k = some f → f.fr.egress = BitVec.ofNat 16 (2 ^ q.val) →
      s.inService q = true → s.queueRoom q f.fr.queue = true → Completes (.towpathRelease p c) s (fun t =>
        (t.port q).queue f.fr.queue = (s.port q).queue f.fr.queue ++ [s.flt.egNext] ∧
          (t.egFrame s.flt.egNext).map (fun x => (x.buf, x.cls)) = some (f.fr.buf.toNat, f.fr.cls) ∧
          (f.complete = true → f.fr.fcsDone = true → t.frame k = none)))) ∧
  (∀ (s : State) (p : Fin 8) (g : Sending) (x : EgFrame), (s.port p).sending = some g → s.egFrame g.eg = some x →
    (x.ticket = none → Completes (.egressFcsReached p) s (fun t => t = s)) ∧
    (∀ k f, x.ticket = some k → s.frame k = some f → f.complete = false → f.fr.stomp = false →
      Completes (.egressFcsReached p) s (fun t => ∃ h, t.frame k = some h ∧ h.fr.stomp = true ∧
        t.counter 0x60240 = s.counter 0x60240 + 1#64 ∧ t.counter (fltDrop f.fr.cls) = s.counter (fltDrop f.fr.cls) + 1#64)))

/-- O17 (tier 2; R115). A write of FLT_CLASSMAP by the manager or a warden slot with any PCP or UNTAG field 00 is refused
with REFUSED_RANGE and the old value is kept; any other is stored, and with such a map only a barge or a T1 entry
gives class C0. FLT_DLOG_CTRL refuses 0 cells with ZERO_LENGTH and more than 128 with REFUSED_RANGE; when the
sequencer's owner entry has the cells, they are taken, the register holds the count and the log begins at the next
record; when it has not, REFUSED_CAPACITY is answered and the old log stays. -/
def Obligations.ClassMapAndDropLogAreChecked : Prop :=
  ∀ (s : State) (ag : Agent),
    (∀ v : W32, isBoss ag = true →
      ((∃ i, i < 9 ∧ bits v (2 * i + 1) (2 * i) = 0) → Completes (.classmapWrite ag v) s (fun t =>
        RefusedWith s .refusedRange t ∧ t.reg A.fltClassmap = s.reg A.fltClassmap)) ∧
      ((∀ i, i < 9 → bits v (2 * i + 1) (2 * i) ≠ 0) → Completes (.classmapWrite ag v) s (fun t =>
        t.reg A.fltClassmap = BitVec.ofNat 32 (bits v 17 0) ∧ t.reply.status = .ok ∧ OnlyRegs s t [A.fltClassmap]))) ∧
    (∀ v : W32, isBoss ag = false → Completes (.classmapWrite ag v) s (RefusedWith s .refusedRights)) ∧
    ((∀ i, i < 9 → s.fld A.fltClassmap (2 * i + 1) (2 * i) ≠ 0) → ∀ p bs, s.classify p bs = 0 →
      bargeKind bs ≠ none ∨ s.tblFind 1 (s.keyStream p bs) ≠ none) ∧
    Completes (.dropLogResize ag 0#8) s (fun t => t.reply.status = .zeroLength ∧ OnlyReply s t) ∧
    (∀ c : BitVec 8, c ≠ 0#8 → isBoss ag = false → Completes (.dropLogResize ag c) s (RefusedWith s .refusedRights)) ∧
    (∀ c : BitVec 8, isBoss ag = true →
      (128 < c.toNat → Completes (.dropLogResize ag c) s (RefusedWith s .refusedRange)) ∧
      (c ≠ 0#8 → c.toNat ≤ 128 → s.takeLog c.toNat = none → Completes (.dropLogResize ag c) s (fun t =>
        RefusedWith s .refusedCapacity t ∧ t.flt.logCells = s.flt.logCells)) ∧
      (∀ u, c ≠ 0#8 → c.toNat ≤ 128 → s.takeLog c.toNat = some u → Completes (.dropLogResize ag c) s (fun t =>
        t.reply.status = .ok ∧ t.reg A.fltDlogCtrl = BitVec.ofNat 32 c.toNat ∧ t.flt.logCells = u.flt.logCells ∧
          t.flt.logBase = (s.reg A.fltDlogWr).toNat)))

/-- O18 (tier 2; section 7.4 (Table 7-5), Table 7-3, R190, R191, R149, R215). For every slot that issues and all listed
register codes, ADD, ADDC, SUB, SUBC, AND, OR, XOR, ANDN, SHL, SHR, SAR, ROR, CMP and TST complete with the result in
rd (nothing for g0) and C, V, N and Z as Table 7-3 has them, at distance 1; MUL, MULH and MULHU write at distance 2. C
of a subtraction is 1 when no borrow occurs; shifts use rb[4:0]. Every other register, flag, slot, memory byte and
block is unchanged, and pc moves by 4. -/
def Obligations.AluRegisterFormsWriteResultAndFlags : Prop :=
  ∀ (s : State) (w : SlotId) (rd ra rb : RegCode), Issues s w → regOk rd = true → regOk ra = true → regOk rb = true →
    let x := (s.slot w).ctx
    let a := x.rd ra
    let b := x.rd rb
    let ci : Nat := if bit x.flags 0 then 1 else 0
    let n := b.toNat % 32
    let go := fun (r : W32) (c v : Option Bool) =>
      Wrote s w (oneReg x rd r) { c := c, v := v, nz := some r } (x.pc + 4#32)
    let flagsOnly := fun (r : W32) (c v : Option Bool) => Wrote s w noReg { c := c, v := v, nz := some r } (x.pc + 4#32)
    let late := fun (r : W32) => WroteLate s w (oneReg x rd r) { nz := some r } (x.pc + 4#32)
    let out := fun (i : Nat) => if n = 0 then none else some (a.getLsbD i)
    Completes (.add w rd ra rb) s (go (a + b) (some (decide (2 ^ 32 ≤ a.toNat + b.toNat)))
      (some (decide ((a + b).toInt ≠ a.toInt + b.toInt)))) ∧
    Completes (.addc w rd ra rb) s (go (a + b + BitVec.ofNat 32 ci) (some (decide (2 ^ 32 ≤ a.toNat + b.toNat + ci)))
      (some (decide ((a + b + BitVec.ofNat 32 ci).toInt ≠ a.toInt + b.toInt + (ci : Int))))) ∧
    Completes (.sub w rd ra rb) s (go (a - b) (some (decide (b.toNat ≤ a.toNat)))
      (some (decide ((a - b).toInt ≠ a.toInt - b.toInt)))) ∧
    Completes (.subc w rd ra rb) s (go (a - b - BitVec.ofNat 32 (1 - ci)) (some (decide (b.toNat + (1 - ci) ≤ a.toNat)))
      (some (decide ((a - b - BitVec.ofNat 32 (1 - ci)).toInt ≠ a.toInt - b.toInt - ((1 - ci : Nat) : Int))))) ∧
    Completes (.andR w rd ra rb) s (go (a &&& b) none (some false)) ∧
    Completes (.orR w rd ra rb) s (go (a ||| b) none (some false)) ∧
    Completes (.xor w rd ra rb) s (go (a ^^^ b) none (some false)) ∧
    Completes (.andn w rd ra rb) s (go (a &&& ~~~b) none (some false)) ∧
    Completes (.shl w rd ra rb) s (go (a <<< n) (out (32 - n)) (some false)) ∧
    Completes (.shr w rd ra rb) s (go (a >>> n) (out (n - 1)) (some false)) ∧
    Completes (.sar w rd ra rb) s (go (a.sshiftRight n) (out (n - 1)) (some false)) ∧
    Completes (.ror w rd ra rb) s (go (a.rotateRight n) (out (n - 1)) (some false)) ∧
    Completes (.mul w rd ra rb) s (late (a * b)) ∧
    Completes (.mulh w rd ra rb) s (late (BitVec.ofInt 32 (a.toInt * b.toInt / 2 ^ 32))) ∧
    Completes (.mulhu w rd ra rb) s (late (BitVec.ofNat 32 (a.toNat * b.toNat / 2 ^ 32))) ∧
    Completes (.cmp w ra rb) s (flagsOnly (a - b) (some (decide (b.toNat ≤ a.toNat)))
      (some (decide ((a - b).toInt ≠ a.toInt - b.toInt)))) ∧
    Completes (.tst w ra rb) s (flagsOnly (a &&& b) none (some false))

/-- O19 (tier 2; section 7.4 (Tables 7-4 and 7-5), Table 7-3, R191, R149). For every slot that issues and all listed
register codes, ADDI and CMPI take the sign-extended immediate, ANDI, ORI and XORI the zero-extended one, LUI places
it in bits [31:16] and changes no flag, SHLI, SHRI, SARI and RORI shift by the constant with C the last bit out
(unchanged for 0), and CLZ counts leading zeros. Every other register, flag, slot, memory byte and block is unchanged. -/
def Obligations.ImmediateAndCountFormsWriteResultAndFlags : Prop :=
  ∀ (s : State) (w : SlotId) (rd ra : RegCode) (imm : BitVec 16) (sh : BitVec 5), Issues s w → regOk rd = true →
    regOk ra = true →
    let x := (s.slot w).ctx
    let a := x.rd ra
    let i : W32 := imm.signExtend 32
    let u : W32 := imm.setWidth 32
    let n := sh.toNat
    let go := fun (r : W32) (c v : Option Bool) =>
      Wrote s w (oneReg x rd r) { c := c, v := v, nz := some r } (x.pc + 4#32)
    let out := fun (k : Nat) => if n = 0 then none else some (a.getLsbD k)
    Completes (.addi w rd ra imm) s (go (a + i) (some (decide (2 ^ 32 ≤ a.toNat + i.toNat)))
      (some (decide ((a + i).toInt ≠ a.toInt + i.toInt)))) ∧
    Completes (.cmpi w ra imm) s (Wrote s w noReg
      { c := some (decide (i.toNat ≤ a.toNat)), v := some (decide ((a - i).toInt ≠ a.toInt - i.toInt)),
        nz := some (a - i) } (x.pc + 4#32)) ∧
    Completes (.andi w rd ra imm) s (go (a &&& u) none (some false)) ∧
    Completes (.ori w rd ra imm) s (go (a ||| u) none (some false)) ∧
    Completes (.xori w rd ra imm) s (go (a ^^^ u) none (some false)) ∧
    Completes (.lui w rd imm) s (Wrote s w (oneReg x rd (u <<< 16)) {} (x.pc + 4#32)) ∧
    Completes (.shli w rd ra sh) s (go (a <<< n) (out (32 - n)) (some false)) ∧
    Completes (.shri w rd ra sh) s (go (a >>> n) (out (n - 1)) (some false)) ∧
    Completes (.sari w rd ra sh) s (go (a.sshiftRight n) (out (n - 1)) (some false)) ∧
    Completes (.rori w rd ra sh) s (go (a.rotateRight n) (out (n - 1)) (some false)) ∧
    ∃ z : Nat, z ≤ 32 ∧ (∀ k, 32 - z ≤ k → a.getLsbD k = false) ∧ (z < 32 → a.getLsbD (31 - z) = true) ∧
      Completes (.clz w rd ra) s (go (BitVec.ofNat 32 z) none (some false))

/-- O20 (tier 2; section 7.7 (Table 7-10), R205, R206, Table 12-5, R149). For every slot that issues and operands that
Table 7-10 lists: CRC advances ra over 1, 2 or 4 bytes of rb; BFXU and BFXS extract len bits at pos, zero- and sign-
extended; BFI replaces them; CSEL selects by condition or as minimum or maximum; none changes a flag. MACS adds the
shifted product to rd, clips it and makes SAT sticky. DCE yields code 0 for no difference, a code that carries the
difference where it fits the table, and otherwise the escape prefix with C set; DCD of a code, the zero code or the
escape undoes it. -/
def Obligations.FusedUnitsWriteTheirResult : Prop :=
  ∀ (s : State) (w : SlotId) (rd ra rb : RegCode), Issues s w → regOk rd = true → regOk ra = true → regOk rb = true →
    let x := (s.slot w).ctx
    let a := x.rd ra
    let b := x.rd rb
    let d := x.rd rd
    let go := fun (r : W32) => Wrote s w (oneReg x rd r) {} (x.pc + 4#32)
    (∀ (count : BitVec 2) (ieee : Bool), count ≠ 3#2 →
      Completes (.crc w rd ra rb count ieee) s
        (go (crcBytes (if ieee then 0xEDB88320#32 else 0x82F63B78#32) a ((leBytes 4 b.toNat).take (2 ^ count.toNat))))) ∧
    (∀ (pos lenm1 : BitVec 5), pos.toNat + lenm1.toNat + 1 ≤ 32 →
      let len := lenm1.toNat + 1
      Completes (.bfxu w rd ra pos lenm1) s (go (BitVec.ofNat 32 (a.toNat / 2 ^ pos.toNat % 2 ^ len))) ∧
      Completes (.bfxs w rd ra pos lenm1) s (go ((a <<< (32 - pos.toNat - len)).sshiftRight (32 - len))) ∧
      ∃ r : W32, (∀ i, i < 32 → r.getLsbD i =
          if pos.toNat ≤ i ∧ i < pos.toNat + len then a.getLsbD (i - pos.toNat) else d.getLsbD i) ∧
        Completes (.bfi w rd ra pos lenm1) s (go r)) ∧
    (∀ cond : BitVec 4, cond ≠ 15#4 →
      Completes (.cselSel w rd ra rb cond) s (go (if condHolds cond.toNat x.flags then a else b))) ∧
    Completes (.cselMinmax w rd ra rb 0#2) s (go (if a.toInt ≤ b.toInt then a else b)) ∧
    Completes (.cselMinmax w rd ra rb 1#2) s (go (if a.toInt ≤ b.toInt then b else a)) ∧
    Completes (.cselMinmax w rd ra rb 2#2) s (go (if a.toNat ≤ b.toNat then a else b)) ∧
    Completes (.cselMinmax w rd ra rb 3#2) s (go (if a.toNat ≤ b.toNat then b else a)) ∧
    (∀ (sh : BitVec 5) (round : Bool),
      let k : Int := if round = true ∧ 0 < sh.toNat then 2 ^ (sh.toNat - 1) else 0
      let sum : Int := d.toInt + (a.toInt * b.toInt + k) / 2 ^ sh.toNat
      let r : Int := max (-(2 ^ 31)) (min (2 ^ 31 - 1) sum)
      Completes (.macs w rd ra rb sh round) s
        (WroteLate s w (oneReg x rd (BitVec.ofInt 32 r)) { sat := decide (r ≠ sum) } (x.pc + 4#32))) ∧
    (∀ (table : BitVec 2) (diff : W32),
      let width := 4 + 4 * table.toNat
      let escape : Bool := decide (diff ≠ 0#32 ∧ ¬ (-(2 ^ (width - 1)) ≤ diff.toInt ∧ diff.toInt < 2 ^ (width - 1)))
      let code : W32 := if diff = 0#32 then 0x08000000#32 else if escape then 0x10000003#32
        else BitVec.ofNat 32 ((2 + width) * 2 ^ 27 + 2 * 2 ^ width + diff.toNat % 2 ^ width)
      (a - b = diff → Completes (.dce w rd ra rb table) s (fun t =>
        WroteLate s w (oneReg x rd code) { c := some escape } (x.pc + 4#32) t ∧
          (t.slot w).dcCount = dcCountNext (s.slot w).dcCount escape)) ∧
      (a = code → Completes (.dcd w rd ra rb table) s (fun t =>
        WroteLate s w (oneReg x rd (if escape then b else b + diff)) { c := some escape } (x.pc + 4#32) t ∧
          (t.slot w).dcCount = dcCountNext (s.slot w).dcCount escape)))

/-- O21 (tier 2; section 6.4 (Table 6-6), section 7.6, R162, R167, R187, R199, R217). For every slot that issues and
listed fields, a load whose access is allowed takes its address by its mode (base plus displacement, post-increment,
pre-decrement, base plus scaled index), zero- or sign-extends the little-endian value (a pair for 8 bytes), and writes
the base back in modes 1 and 2 unless the base is loaded. From D-RAM the base is written at distance 1 and the value
at distance 2 and nothing else changes; from elsewhere the slot holds and the end of the hold writes both. Loads
through the claim alias are stated for a slot without posted stores. -/
def Obligations.LoadsReadTheirAddress : Prop :=
  ∀ (s : State) (w : SlotId) (rd rb : RegCode) (mode size : BitVec 2) (imm : BitVec 12) (signed : Bool), Issues s w →
    memOk rd rb mode size imm = true → (signed = true → size ≠ 3#2) →
    let x := (s.slot w).ctx
    let n := 2 ^ size.toNat
    let base := x.rd rb
    let a : W32 := if mode = 0#2 then base + imm.signExtend 32 else if mode = 1#2 then base
      else if mode = 2#2 then base - BitVec.ofNat 32 n else base + (x.rd (idxReg imm) <<< (imm.toNat / 32 % 4))
    let nb : W32 := if mode = 1#2 then base + BitVec.ofNat 32 n else base - BitVec.ofNat 32 n
    let v := leNat (s.loadBytes w a.toNat n)
    let lo : W32 := if signed = true then (BitVec.ofNat (8 * n) v).signExtend 32 else BitVec.ofNat 32 v
    let loaded := if size = 3#2 then pairReg x rd lo (BitVec.ofNat 32 (v / 2 ^ 32)) else oneReg x rd lo
    let moved := fun (p : Nat) => if mode = 1#2 ∨ mode = 2#2 then (if (loaded p).isSome then none else oneReg x rb nb p) else none
    let both := fun (p : Nat) => if (loaded p).isSome then loaded p else moved p
    let i : Instr := if signed = true then .lds w rd rb mode size imm else .ld w rd rb mode size imm
    s.accessKind w a.toNat n true false = 0 →
    (a.toNat < 0x4000 → Completes i s (fun t =>
      CtxWrote (s.landed w) (t.slot w).ctx moved {} (x.pc + 4#32) ∧
        CtxWrote (s.landed w) (t.landed w) both {} (x.pc + 4#32) ∧ OnlySlot s w t)) ∧
    (0x4000 ≤ a.toNat → (a.toNat < 0x18000000 ∨ 0x20000000 ≤ a.toNat ∨ (s.slot w).stores = []) → NoWaits s w →
      Completes i s (HoldsThen s w both {} (x.pc + 4#32)))

/-- O22 (tier 2; section 6.4, section 6.5, section 15.4, R162, R164, R165, R168, R199, R445). An allowed store to D-RAM
writes exactly the bytes of its value at its effective address at once; elsewhere it joins the slot's queue of posted
stores (an entry leaves first when four wait). POSTED_STORE_PERFORMED takes the oldest store of a target from the
queue, and the bytes of a store to shared SRAM outside a loading lock are there afterwards. ALIAS_CLAIM on a word that
nobody holds writes tag and agent ID, on a held word changes nothing; ALIAS_RELEASE by the holder writes 0. Registers
but the base, other slots and all other bytes stay. -/
def Obligations.StoresAndClaimAliasWriteTheirAddress : Prop :=
  (∀ (s : State) (w : SlotId) (rd rb : RegCode) (mode size : BitVec 2) (imm : BitVec 12), Issues s w →
    memOk rd rb mode size imm = true →
    let x := (s.slot w).ctx
    let n := 2 ^ size.toNat
    let base := x.rd rb
    let a := (x.ea rb mode n imm).toNat
    let nb : W32 := if mode = 1#2 then base + BitVec.ofNat 32 n else base - BitVec.ofNat 32 n
    let moved := fun (p : Nat) => if mode = 1#2 ∨ mode = 2#2 then oneReg x rb nb p else none
    let v := (x.rd rd).toNat + (if size = 3#2 then 2 ^ 32 * (x.rd (rd + 1#5)).toNat else 0)
    s.accessKind w a n false true = 0 →
    (a < 0x4000 → Completes (.st w rd rb mode size imm) s (fun t =>
      CtxWrote (s.landed w) (t.slot w).ctx moved {} (x.pc + 4#32) ∧ OnlySlotAndMemory s w t ∧
        (∀ i, i < n → t.readByte (kDram (slotCore w) + a + i) = BitVec.ofNat 8 (v / 256 ^ i)) ∧
          SameMemoryBut s t (kDram (slotCore w) + a) n)) ∧
    (0x4000 ≤ a → (a < 0x18000000 ∨ 0x20000000 ≤ a) → Completes (.st w rd rb mode size imm) s (fun t =>
      ((s.slot w).stores.length < 4 → CtxWrote (s.landed w) (t.slot w).ctx moved {} (x.pc + 4#32) ∧ OnlySlot s w t ∧
        (t.slot w).stores = (s.slot w).stores ++ [{ key := s.dKey w a, bytes := leBytes n v }]) ∧
      ((s.slot w).stores.length = 4 →
        (t.slot w).stores = (s.slot w).stores.tail ++ [{ key := s.dKey w a, bytes := leBytes n v }])))) ∧
  (∀ (s : State) (w : SlotId) (k : Fin 4) (p : PStore), (s.slot w).stores[k.val]? = some p →
    (∀ q ∈ (s.slot w).stores.take k, storeTarget q ≠ storeTarget p) →
    kShared ≤ p.key → p.key + p.bytes.length ≤ kShared + 0x400000 →
    s.sramLocked (p.key - kShared) p.bytes.length = false →
    Completes (.postedStorePerformed w k) s (fun t =>
      (t.slot w).stores = (s.slot w).stores.eraseIdx k ∧ (t.slot w).ctx = (s.slot w).ctx ∧
        (∀ i (h : i < p.bytes.length), t.readByte (p.key + i) = p.bytes[i]) ∧ SameMemoryBut s t p.key p.bytes.length)) ∧
  (∀ (s : State) (w : SlotId) (rs rb : RegCode) (disp : BitVec 12), Issues s w → regOk rs = true → regOk rb = true →
    let x := (s.slot w).ctx
    let a := (x.rd rb + disp.signExtend 32).toNat
    let v := x.rd rs
    let o := a - 0x18000000
    let m := s.readLE (kShared + o) 4
    let mine := bits v 15 0 * 0x10000 + (slotAgent w).toNat
    (s.slot w).stores = [] → s.accessKind w a 4 false true = 0 → 0x18000000 ≤ a → a < 0x18400000 →
    s.sramLocked o 4 = false → bits v 29 16 = 0 →
    (bits v 31 30 = 0 → Completes (.aliasClaim w rs rb disp) s (fun t => (t.slot w).held.isSome = true ∧
      t.readLE (kShared + o) 4 = (if m % 0x1000 = 0 then mine else m) ∧ SameMemoryBut s t (kShared + o) 4)) ∧
    (bits v 31 30 = 2 → Completes (.aliasRelease w rs rb disp) s (fun t => (t.slot w).held.isSome = true ∧
      t.readLE (kShared + o) 4 = (if m = mine then 0 else m) ∧ SameMemoryBut s t (kShared + o) 4)))

/-- O23 (tier 2; section 7.6 (Table 7-8), section 8.2, R155, R169, R200, R217, R411, R451). For every slot that issues
without posted stores and listed fields, each AMO on an aligned word of shared SRAM outside a loading lock, or of the
DRAM window, that it may access leaves the word at the new value of Table 7-8 and, at the end of its hold, the old
value in rd (CAS: Z tells whether they were equal). SYNC leaves no store posted and holds; NOP only moves pc; ILD
reads an aligned I-space word at distance 2. HOLD_COMPLETE of a hold that awaits nothing lands all pending writes and
then the hold's. -/
def Obligations.AtomicsSyncAndHoldsComplete : Prop :=
  (∀ (s : State) (w : SlotId) (rd rb ra : RegCode) (size : BitVec 2), Issues s w → (s.slot w).stores = [] → NoWaits s w →
    let x := (s.slot w).ctx
    let a := (x.rd rb).toNat
    let done := fun (i : Instr) (func sz : Nat) (new : Nat → Nat → Nat → Nat) =>
      let n := 4 * 2 ^ sz
      let old := if a < 0x40000000 then s.readLE (kShared + (a - 0x10000000)) n
        else leNat (s.dramRead (s.winAddr w a).1 (s.winAddr w a).2 n)
      let arg := x.rdMulti ra (n / 4)
      let cmp := x.rdMulti rd (n / 4)
      amoOk func rd rb ra sz = true → s.amoKind w a n = 0 →
      (a < 0x40000000 → s.sramLocked (a - 0x10000000) n = false) →
      Completes i s (fun t =>
        (if a < 0x40000000 then t.readLE (kShared + (a - 0x10000000)) n
          else leNat (t.dramRead (s.winAddr w a).1 (s.winAddr w a).2 n)) = new old arg cmp % 2 ^ (8 * n) ∧
        (t.slot w).held.isSome = true ∧
        Completes (.holdComplete w) t (fun u =>
          (∀ j, j < n / 4 → ∀ p, x.phys (rd + BitVec.ofNat 5 j).toNat = some p →
            (u.slot w).ctx.preg p = BitVec.ofNat 32 (old / 2 ^ (32 * j))) ∧
          (∀ p, (∀ j, j < n / 4 → x.phys (rd + BitVec.ofNat 5 j).toNat ≠ some p) →
            (u.slot w).ctx.preg p = (s.landed w).preg p) ∧
          (func = 2 → bit (u.slot w).ctx.flags 2 = decide (old = cmp))))
    let sgn := fun (n v : Nat) => sextNat (8 * n) v
    let nb := 4 * 2 ^ size.toNat
    done (.amoFadd w rd rb ra size) 0 size.toNat (fun o g _ => o + g) ∧
    done (.amoSwap w rd rb ra size) 1 size.toNat (fun _ g _ => g) ∧
    done (.amoCas w rd rb ra size) 2 size.toNat (fun o g c => if o = c then g else o) ∧
    done (.amoMin w rd rb ra size) 3 size.toNat (fun o g _ => if sgn nb o ≤ sgn nb g then o else g) ∧
    done (.amoMax w rd rb ra size) 4 size.toNat (fun o g _ => if sgn nb o ≤ sgn nb g then g else o) ∧
    done (.amoMinu w rd rb ra size) 5 size.toNat (fun o g _ => min o g) ∧
    done (.amoMaxu w rd rb ra size) 6 size.toNat (fun o g _ => max o g) ∧
    done (.amoWadd w rd rb ra) 7 2 (fun o g _ => o + g)) ∧
  (∀ (s : State) (w : SlotId), Issues s w →
    Completes (.nop w) s (Wrote s w noReg {} ((s.slot w).ctx.pc + 4#32)) ∧
    Completes (.sync w) s (fun t => (t.slot w).stores = [] ∧ (t.slot w).held.isSome = true)) ∧
  (∀ (s : State) (w : SlotId) (rd ra : RegCode) (imm : BitVec 16), Issues s w → regOk rd = true → regOk ra = true →
    let x := (s.slot w).ctx
    let a := x.rd ra + imm.signExtend 32
    a.toNat % 4 = 0 → a.toNat ≤ 0x7FFC →
    Completes (.ild w rd ra imm) s (WroteLate s w
      (oneReg x rd (BitVec.ofNat 32 (s.readLE (kIram (slotCore w) + a.toNat) 4))) {} (x.pc + 4#32))) ∧
  (∀ (s : State) (w : SlotId) (h : Hold), (s.slot w).held = some h → h.poisoned = false → h.submit = none → NoWaits s w →
    Completes (.holdComplete w) s (fun t => (t.slot w).ctx = (landList ((s.slot w).late ++ h.writes) ((s.slot w).ctx, s.free)).1 ∧
      (t.slot w).held = none ∧ (t.slot w).late = [] ∧ OnlySlot s w t))

/-- O24 (tier 2; R194). BCC whose prediction is right continues at its target when the condition holds and else at pc + 4;
after a wrong prediction the next issue of the slot is squashed and ends at the right address; a target outside
I-space faults only when the branch is taken. JMP and JMPR jump, JMPR above 0x7FFF faults. CALL and CALLR push pc + 4:
at DEPTH 8 WRAP mode drops the oldest entry and TRAP mode traps to vector 5 with nothing changed. RET pops the newest
entry, faults where that lies beyond I-space, and at DEPTH 0 traps to vector 6. -/
def Obligations.BranchesAndCallsMoveThePc : Prop :=
  (∀ (s : State) (w : SlotId) (cond : BitVec 4) (hint : BitVec 2) (off : BitVec 16), Issues s w → cond ≠ 15#4 →
    hint ≠ 3#2 →
    let x := (s.slot w).ctx
    let target := x.pc + 4#32 + (off.signExtend 32 <<< 2)
    let taken := condHolds cond.toNat x.flags
    let predicted : Bool := if hint = 0#2 then off.msb else decide (hint = 1#2)
    (target.toNat < 0x8000 → predicted = taken → Completes (.bcc w cond hint off) s
      (Wrote s w noReg {} (if taken then target else x.pc + 4#32))) ∧
    (target.toNat < 0x8000 → predicted ≠ taken → Completes (.bcc w cond hint off) s (fun t =>
      Wrote s w noReg {} (if predicted then target else x.pc + 4#32) t ∧
        ((s.slot w).halted = false → Completes (.nop w) t (fun u =>
          (u.slot w).ctx = { (t.slot w).ctx with pc := if taken then target else x.pc + 4#32 } ∧ OnlySlot s w u)))) ∧
    (0x8000 ≤ target.toNat → taken = false → Completes (.bcc w cond hint off) s (Wrote s w noReg {} (x.pc + 4#32))) ∧
    (0x8000 ≤ target.toNat → taken = true → predicted = true → x.inT = false →
      Completes (.bcc w cond hint off) s (fun t => Trapped s w 2 x.pc t ∧ (t.slot w).faultAddr = target ∧
        (t.slot w).faultPc = x.pc ∧ bits (t.slot w).faultInfo 10 8 = 5))) ∧
  (∀ (s : State) (w : SlotId) (ra : RegCode) (word : BitVec 13), Issues s w → regOk ra = true →
    let x := (s.slot w).ctx
    let b := s.landed w
    let jump : W32 := word.setWidth 32 <<< 2
    let dest := x.rd ra
    let pushed := fun (pc : W32) (t : State) => (t.slot w).late = [] ∧ OnlySlot s w t ∧
      (t.slot w).ctx = { b with pc := pc, rs := ((x.pc + 4#32) :: b.rs).take 8 }
    Completes (.jmp w word) s (Wrote s w noReg {} jump) ∧
    (dest.toNat ≤ 0x7FFF → Completes (.jmpr w ra) s (Wrote s w noReg {} (dest &&& 0x7FFC#32))) ∧
    (0x7FFF < dest.toNat → x.inT = false → Completes (.jmpr w ra) s (fun t => Trapped s w 2 x.pc t ∧
      (t.slot w).faultAddr = dest ∧ bits (t.slot w).faultInfo 10 8 = 5)) ∧
    ((x.rs.length < 8 ∨ x.rsTrap = false) → Completes (.call w word) s (pushed jump)) ∧
    ((x.rs.length < 8 ∨ x.rsTrap = false) → dest.toNat ≤ 0x7FFF →
      Completes (.callr w ra) s (pushed (dest &&& 0x7FFC#32))) ∧
    (8 ≤ x.rs.length → x.rsTrap = true → x.inT = false → Completes (.call w word) s (Trapped s w 5 x.pc) ∧
      (dest.toNat ≤ 0x7FFF → Completes (.callr w ra) s (Trapped s w 5 x.pc))) ∧
    (∀ (a : W32) (rest : List W32), x.rs = a :: rest →
      (a.toNat ≤ 0x7FFF → Completes (.ret w) s (fun t =>
        (t.slot w).ctx = { b with pc := a, rs := rest } ∧ (t.slot w).late = [] ∧ OnlySlot s w t)) ∧
      (0x7FFF < a.toNat → x.inT = false → Completes (.ret w) s (fun t => Trapped s w 2 x.pc t ∧
        (t.slot w).faultAddr = a ∧ bits (t.slot w).faultInfo 10 8 = 5))) ∧
    (x.rs = [] → x.inT = false → Completes (.ret w) s (Trapped s w 6 x.pc)))

/-- O25 (tier 2; R195). ENTER and LEAVE outside T move to the next or previous window and set or clear its wlive bit, or
trap to vector 3 or 4 with nothing changed. TRAP k enters T at vector 8 + k; TEXIT in T leaves it to ra AND 0x7FFC
with every pending write landed. RDS reads pc, wcur, wlive, rsp, flags and tid; WRS flags writes them at distance 2
(unused bits stay 0), WRS wcur, wlive and rsp in T only, and of tid is ignored; RSPUSH and RSPOP move one entry in T.
A word that is no instruction traps to vector 1. -/
def Obligations.WindowsTrapsAndSpecialRegisters : Prop :=
  ∀ (s : State) (w : SlotId), Issues s w →
    let x := (s.slot w).ctx
    let b := s.landed w
    let up := x.win + 1#2
    let down := x.win - 1#2
    (x.inT = false → x.wlive.getLsbD up.toNat = false → Completes (.enter w) s (fun t =>
      (t.slot w).ctx = { b with pc := x.pc + 4#32, win := up, wlive := b.wlive ||| (1#4 <<< up.toNat) } ∧
        (t.slot w).late = [] ∧ OnlySlot s w t)) ∧
    (x.inT = false → x.wlive.getLsbD up.toNat = true → Completes (.enter w) s (Trapped s w 3 x.pc)) ∧
    (x.inT = false → x.wlive.getLsbD down.toNat = true → Completes (.leave w) s (fun t =>
      (t.slot w).ctx = { b with pc := x.pc + 4#32, win := down, wlive := b.wlive &&& ~~~(1#4 <<< x.win.toNat) } ∧
        (t.slot w).late = [] ∧ OnlySlot s w t)) ∧
    (x.inT = false → x.wlive.getLsbD down.toNat = false → Completes (.leave w) s (Trapped s w 4 x.pc)) ∧
    (∀ k : BitVec 3, x.inT = false → Completes (.trap w k) s (Trapped s w (8 + k.toNat) x.pc)) ∧
    (∀ v : BitVec 32, x.inT = false → wordDefined (slotWarden w) v = false →
      Completes (.undefinedInstruction w v) s (Trapped s w 1 x.pc)) ∧
    (∀ ra : RegCode, x.inT = true → regOk ra = true → (x.rd ra).toNat ≤ 0x7FFF → Completes (.texit w ra) s (fun t =>
      (t.slot w).ctx = { b with inT := false, pc := x.rd ra &&& 0x7FFC#32 } ∧ (t.slot w).late = [] ∧ OnlySlot s w t)) ∧
    (∀ ra : RegCode, x.inT = false → regOk ra = true → Completes (.texit w ra) s (Trapped s w 1 x.pc)) ∧
    (∀ rd : RegCode, regOk rd = true →
      let rds := fun (k : BitVec 5) (v : W32) => Completes (.rds w rd k) s (Wrote s w (oneReg x rd v) {} (x.pc + 4#32))
      rds 0#5 x.pc ∧ rds 1#5 (BitVec.ofNat 32 (x.win.toNat + (if x.inT then 4 else 0))) ∧ rds 2#5 (x.wlive.setWidth 32) ∧
      rds 3#5 (BitVec.ofNat 32 (x.rs.length + (if x.rsTrap then 256 else 0))) ∧ rds 4#5 x.flags ∧
      rds 5#5 (BitVec.ofNat 32 ((s.slot w).thread.getD 0 % 2048 + (slotAgent w).toNat * 65536)) ∧
      (x.inT = true → ∀ (a : W32) (rest : List W32), x.rs = a :: rest →
        Completes (.rspop w rd) s (fun t => (∀ p, (t.slot w).ctx.preg p = (oneReg x rd a p).getD (b.preg p)) ∧
          (t.slot w).ctx.rs = b.rs.tail ∧ (t.slot w).ctx.pc = x.pc + 4#32 ∧ OnlySlot s w t))) ∧
    (∀ ra : RegCode, regOk ra = true →
      let v := x.rd ra
      Completes (.wrs w 4#5 ra) s (fun t => (t.slot w).ctx = { b with pc := x.pc + 4#32 } ∧
        (t.landed w).flags = (b.flags &&& 0xFFFF00E0#32) ||| (v &&& 0xFF1F#32) ∧ OnlySlot s w t) ∧
      Completes (.wrs w 5#5 ra) s (Wrote s w noReg {} (x.pc + 4#32)) ∧
      (x.inT = true → Completes (.wrs w 1#5 ra) s (fun t => (t.landed w).win = BitVec.ofNat 2 v.toNat ∧ OnlySlot s w t)) ∧
      (x.inT = true → Completes (.wrs w 2#5 ra) s (fun t => (t.landed w).wlive = BitVec.ofNat 4 v.toNat ∧ OnlySlot s w t)) ∧
      (x.inT = true → Completes (.wrs w 3#5 ra) s (fun t => (t.landed w).rs.length = min 8 (bits v 3 0) ∧
        (t.landed w).rsTrap = bit v 8 ∧ OnlySlot s w t)) ∧
      (x.inT = false → Completes (.wrs w 1#5 ra) s (Trapped s w 1 x.pc)) ∧
      (x.inT = true → x.rs.length < 8 → Completes (.rspush w ra) s (fun t =>
        (t.slot w).ctx = { b with pc := x.pc + 4#32, rs := ((v &&& 0x7FFC#32) :: b.rs).take 8 } ∧ OnlySlot s w t)))

/-- O26 (tier 2; section 6.6 (Table 6-8), R174, R175, R177, R210, R226). Outside T, for a slot that issues and listed
fields, an access whose check gives a fault kind changes no memory, enters vector 2 from the instruction's pc, and
leaves in the slot's fault ports the address, the pc, the KIND, the direction and the space: LD and LDS, ST, an AMO of
4 or 8 bytes, ILD beyond 0x7FFC or unaligned, IN and OUT (INX and OUTX alike). -/
def Obligations.AccessFaultsEnterVectorTwo : Prop :=
  ∀ (s : State) (w : SlotId), Issues s w → (s.slot w).ctx.inT = false →
    let x := (s.slot w).ctx
    let faulted := fun (kind space : Nat) (store : Bool) (a : W32) (t : State) =>
      Trapped s w 2 x.pc t ∧ (t.slot w).faultAddr = a ∧ (t.slot w).faultPc = x.pc ∧
        bits (t.slot w).faultInfo 10 8 = kind ∧ bit (t.slot w).faultInfo 11 = store ∧
          bits (t.slot w).faultInfo 13 12 = space
    (∀ (rd rb : RegCode) (mode size : BitVec 2) (imm : BitVec 12), memOk rd rb mode size imm = true →
      let a := x.ea rb mode (2 ^ size.toNat) imm
      (∀ k, s.accessKind w a.toNat (2 ^ size.toNat) true false = k → k ≠ 0 →
        Completes (.ld w rd rb mode size imm) s (faulted k 1 false a) ∧
          (size ≠ 3#2 → Completes (.lds w rd rb mode size imm) s (faulted k 1 false a))) ∧
      (∀ k, s.accessKind w a.toNat (2 ^ size.toNat) false true = k → k ≠ 0 →
        Completes (.st w rd rb mode size imm) s (faulted k 1 true a))) ∧
    (∀ (rd rb ra : RegCode) (size : BitVec 2), amoOk 0 rd rb ra size.toNat = true →
      ∀ k, s.amoKind w (x.rd rb).toNat (4 * 2 ^ size.toNat) = k → k ≠ 0 →
        Completes (.amoFadd w rd rb ra size) s (faulted k 1 true (x.rd rb))) ∧
    (∀ (rd ra : RegCode) (imm : BitVec 16), regOk rd = true → regOk ra = true →
      let a := x.rd ra + imm.signExtend 32
      ((a.toNat % 4 ≠ 0 ∨ 0x7FFC < a.toNat) → Completes (.ild w rd ra imm) s (faulted 4 0 false a)) ∧
      (∀ k, s.ioKind w (s.slot w) a.toNat = k → k ≠ 0 →
        Completes (.inx w rd ra imm) s (faulted k 2 false a) ∧ Completes (.outx w rd ra imm) s (faulted k 2 true a))) ∧
    (∀ (r : RegCode) (word : BitVec 21), regOk r = true →
      ∀ k, s.ioKind w (s.slot w) (word.toNat * 4) = k → k ≠ 0 →
        Completes (.inIo w r word) s (faulted k 2 false (BitVec.ofNat 32 (word.toNat * 4))) ∧
          Completes (.outIo w r word) s (faulted k 2 true (BitVec.ofNat 32 (word.toNat * 4))))

/-- O27 (tier 2; section 6.7 (Table 6-5), section 8.3 (Table 8-2), R180, R201, R226, R227). For a slot that issues, IN and
INX of TOKVAL, TOKSTAT, WAKE, FU_DCCOUNT, RNG_TMO, the cycle, the fault ports and, on a lock core, UNIT_DETAIL and
UNIT_ARG write that port's value to rd and OK to OSTAT at distance 2 and change nothing else. OUT and OUTX to
LK_WAITTMO, RNG_TMO (not 0) and, in T, WINSEL set the port. Through the mirror, IN holds and then delivers the
register's answer with its status, and OUT performs the register write with the slot's agent ID after every posted
store, holds, and delivers the status. -/
def Obligations.PortInstructionsReachTheirPort : Prop :=
  ∀ (s : State) (w : SlotId) (r ra : RegCode) (imm : BitVec 16) (word : BitVec 21) (a : Nat), Issues s w →
    regOk r = true → regOk ra = true → word.toNat * 4 = a → ((s.slot w).ctx.rd ra + imm.signExtend 32).toNat = a →
    let y := s.slot w
    let x := y.ctx
    let pc := x.pc + 4#32
    let ins := fun (P : State → Prop) => Completes (.inIo w r word) s P ∧ Completes (.inx w r ra imm) s P
    let outs := fun (P : State → Prop) => Completes (.outIo w r word) s P ∧ Completes (.outx w r ra imm) s P
    let reads := fun (v : W32) => ins (WroteLate s w (oneReg x r v) { ostat := some 0 } pc)
    let writes := fun (P : Slot → Prop) => outs (fun t => P (t.slot w) ∧ (t.slot w).ctx.pc = pc ∧
      bits (t.landed w).flags 15 8 = 0 ∧ OnlySlot s w t)
    let v := x.rd r
    (∀ i, i < 4 → a = 0x100 + 4 * i → reads (nth y.tokval i 0#32)) ∧
    (a = 0x110 → reads y.tokstat) ∧ (a = 0x114 → reads y.wake) ∧ (a = 0x200 → reads y.dcCount) ∧
    (a = 0x404 → reads y.rngTmo) ∧ (a = 0x510 → reads s.cycle) ∧ (a = 0x520 → reads y.faultAddr) ∧
    (a = 0x524 → reads y.faultInfo) ∧ (a = 0x528 → reads y.faultPc) ∧
    (a = 0x304 → w.val < 512 → reads y.unitDetail) ∧ (a = 0x308 → w.val < 512 → reads y.unitArg) ∧
    (a = 0x120 → writes (fun z => z.waitTmo = v)) ∧
    (a = 0x404 → bits v 15 0 ≠ 0 → writes (fun z => z.rngTmo = BitVec.ofNat 32 (bits v 15 0))) ∧
    (a = 0x280 → x.inT = true → writes (fun z => z.winsel = BitVec.ofNat 2 v.toNat)) ∧
    (0x100000 ≤ a → a < 0x270000 → s.ioKind w y a = 0 →
      (let u := ((s.setSlot w y.issued).status .ok).readReg (slotAgent w) (a - 0x100000)
       u.slot w = y.issued → NoWaits u w → ins (fun t => t.regs = u.regs ∧
         HoldsThen s w (oneReg x r (lo32 u.reply.value)) { ostat := some u.reply.status.code } pc t)) ∧
      (let u := (((s.setSlot w y.issued).drain w).status .ok).writeReg (slotAgent w) (a - 0x100000) v
       (u.slot w).thread = y.thread → (u.slot w).held = none → (u.slot w).ctx = x → (u.slot w).late = y.late →
         u.free = s.free → NoWaits u w → outs (fun t => t.regs = u.regs ∧ t.mem = u.mem ∧
           HoldsThen s w noReg { ostat := some u.reply.status.code } pc t)))

/-- O28 (tier 2; section 7.6, section 9.2, R202, R203, R204, R244, R246, R249, R265). For a lock-core slot that issues
without posted stores: TAKE under a standing set that passes R249, and WAIT under the first n tags of ra and rb that
passes it, leave the slot idle and the thread waiting, or matched already, on that set, to continue at pc + 4; a set
that fails leaves the thread running with the refusal in OSTAT. GIVE holds and reports OK, REFUSED_CAPACITY where no
entry is free, or REFUSED_RANGE for a tag no thread may post to; on OK its token stands at the end of the tag's queue
when no thread waits for it. -/
def Obligations.TokenInstructionsBlockAndPost : Prop :=
  ∀ (s : State) (w : SlotId) (n : Nat), Issues s w → (s.slot w).stores = [] → (s.slot w).thread = some n → w.val < 512 →
    let x := (s.slot w).ctx
    let pc := x.pc + 4#32
    let blocked := fun (ws : List Nat) (t : State) => (t.slot w).thread = none ∧
      (t.thread n).ctx = { s.landed w with pc := pc } ∧ (t.thread n).waitSet = ws ∧
        ((t.thread n).st = .waiting ∨ (t.thread n).st = .ready)
    let goesOn := fun (st : Status) (t : State) => (t.slot w).thread = some n ∧
      CtxWrote (s.landed w) (t.slot w).ctx noReg { ostat := some st.code } pc
    let stand := (s.thread n).stand
    (s.waitCheck n stand = .ok → Completes (.take w) s (blocked stand)) ∧
    (∀ st, s.waitCheck n stand = st → st ≠ .ok → Completes (.take w) s (goesOn st)) ∧
    (∀ (ra rb : RegCode) (c : BitVec 3), regOk ra = true → regOk rb = true → c.toNat ≤ 4 →
      let tags := [bits (x.rd ra) 15 0, bits (x.rd ra) 31 16, bits (x.rd rb) 15 0, bits (x.rd rb) 31 16].take c.toNat
      (s.waitCheck n tags = .ok → Completes (.wait w ra rb c) s (blocked tags)) ∧
      (∀ st, s.waitCheck n tags = st → st ≠ .ok → Completes (.wait w ra rb c) s (goesOn st))) ∧
    (∀ (ra rb : RegCode), regOk ra = true → regOk rb = true → NoWaits s w →
      let g := bits (x.rd ra) 15 0
      let st : Status := if ¬ (0x2000 ≤ g ∧ g ≤ 0xFFFF) then .refusedRange else if s.entryFree g then .ok else .refusedCapacity
      Completes (.give w ra rb) s (fun t => HoldsThen s w noReg { ostat := some st.code } pc t ∧ t.mem = s.mem ∧
        (st = .ok → Unwanted s g → Queued s t g { value := x.rd rb, status := .ok, turn := false })))

/-- O29 (tier 2; section 7.8 (Table 7-11), section 8.4 (Table 8-6), R207, R208, R209, R230, R231, R233, R314, R495). On a
lock core whose helper cluster is ON: DIVS, DIVU and DIVQ hold and write quotient and remainder rounded toward zero
(DIVS of the smallest by −1 and a DIVQ that is clipped set SAT); SQRTU and SQRTQ write the integer root of ra or ra ×
2^16; HASH writes the two seeded CRC-32C values of the key in D-RAM. LKUP and SPRD submit at the end of their hold
when the cluster has room; LKUP_RESULT ends an accepted lookup and counts it; FSUB gives its sample to an armed
stream. A zero divisor, a cluster that is not ON or an unarmed stream traps to vector 7 with unit, reason and operand
recorded, writing nothing. -/
def Obligations.HelperUnitsAnswerOrRefuse : Prop :=
  (∀ (s : State) (w : SlotId) (rd ra rb : RegCode), Issues s w → w.val < 512 → regOk rd = true → regOk ra = true →
    regOk rb = true → s.clusterOn w = true → NoWaits s w →
    let x := (s.slot w).ctx
    let a := x.rd ra
    let b := x.rd rb
    let pc := x.pc + 4#32
    let refused := fun (unit reason : Nat) (t : State) => x.inT = false → Trapped s w 7 x.pc t ∧
      (t.slot w).unitDetail = BitVec.ofNat 32 (0x41 + unit * 0x100 + reason * 0x1000) ∧ (t.slot w).unitArg = a
    (rd.toNat % 2 = 0 → b ≠ 0#32 →
      Completes (.divs w rd ra rb) s (HoldsThen s w
        (pairReg x rd (BitVec.ofInt 32 (a.toInt.tdiv b.toInt)) (BitVec.ofInt 32 (a.toInt.tmod b.toInt)))
        { sat := decide (a = 0x80000000#32 ∧ b = 0xFFFFFFFF#32) } pc) ∧
      Completes (.divu w rd ra rb) s (HoldsThen s w (pairReg x rd (a / b) (a % b)) {} pc)) ∧
    (b ≠ 0#32 →
      let q := (a.toInt * 0x10000).tdiv b.toInt
      let r := max (-(2 ^ 31)) (min (2 ^ 31 - 1) q)
      Completes (.divq w rd ra rb) s (HoldsThen s w (oneReg x rd (BitVec.ofInt 32 r)) { sat := decide (r ≠ q) } pc)) ∧
    (b = 0#32 → Completes (.divq w rd ra rb) s (refused 2 2) ∧
      (rd.toNat % 2 = 0 → Completes (.divs w rd ra rb) s (refused 2 2) ∧ Completes (.divu w rd ra rb) s (refused 2 2))) ∧
    (∀ r : Nat, r * r ≤ a.toNat → a.toNat < (r + 1) * (r + 1) →
      Completes (.sqrtu w rd ra) s (HoldsThen s w (oneReg x rd (BitVec.ofNat 32 r)) {} pc)) ∧
    (∀ r : Nat, r * r ≤ a.toNat * 0x10000 → a.toNat * 0x10000 < (r + 1) * (r + 1) →
      Completes (.sqrtq w rd ra) s (HoldsThen s w (oneReg x rd (BitVec.ofNat 32 r)) {} pc)) ∧
    (∀ table : BitVec 2, table ≠ 3#2 → a.toNat + keyBytes table.toNat ≤ 0x4000 →
      let key := s.loadBytes w a.toNat (keyBytes table.toNat)
      let g := bits b 15 0
      (rd.toNat % 2 = 0 → s.tblSize table.toNat ≠ 0 → Completes (.hash w rd ra table) s (HoldsThen s w
        (pairReg x rd (keyHash (s.placeSeeds table.toNat).1 key) (keyHash (s.placeSeeds table.toNat).2 key)) {} pc)) ∧
      Completes (.lkup w ra rb table) s (fun t => (t.slot w).held.isSome = true ∧ t.uni = s.uni ∧ t.lk = s.lk ∧
        ((s.uni.lookups.filter (fun l => decide (l.quad = slotQuad w))).length < 96 → s.entryFree g = true →
          Completes (.holdComplete w) t (fun u => (u.slot w).held = none ∧ (u.slot w).ctx.pc = pc ∧
            u.uni.lookups = s.uni.lookups ++ [{ quad := slotQuad w, table := table.toNat, key := key, tag := g }] ∧
              u.lk.reserved = s.lk.reserved + (if isPostable g then 1 else 0))))) ∧
    (a.toNat + 32 ≤ 0x4000 → Completes (.sprd w ra rb) s (fun t => (t.slot w).held.isSome = true ∧ t.uni = s.uni ∧
      (s.entryFree (bits b 15 0) = true → Completes (.holdComplete w) t (fun u => (u.slot w).held = none ∧
        u.uni.preds = s.uni.preds ++ [{ quad := slotQuad w, req := s.loadBytes w a.toNat 32, tag := bits b 15 0,
                                        agent := slotAgent w }])))) ∧
    (s.armed (bits a 5 0) = true → Completes (.fsub w ra rb) s (fun t => (t.slot w).held.isSome = true ∧
      (t.slot w).ctx.pc = pc ∧ t.reg (A.fulSseq (bits a 5 0)) = s.reg (A.fulSseq (bits a 5 0)) + 1#32)) ∧
    (s.armed (bits a 5 0) = false → Completes (.fsub w ra rb) s (refused 5 4))) ∧
  (∀ (s : State) (w : SlotId) (rd ra rb : RegCode), Issues s w → w.val < 512 → regOk rd = true → regOk ra = true →
    regOk rb = true → s.clusterOn w = false → (s.slot w).ctx.inT = false →
    let x := (s.slot w).ctx
    let off := fun (unit : Nat) (t : State) => Trapped s w 7 x.pc t ∧
      (t.slot w).unitDetail = BitVec.ofNat 32 (0x41 + unit * 0x100 + 0x1000) ∧ (t.slot w).unitArg = x.rd ra
    Completes (.sqrtu w rd ra) s (off 2) ∧ Completes (.fsub w ra rb) s (off 5) ∧
      (inDram (x.rd ra) 32 = true → Completes (.sprd w ra rb) s (off 6) ∧ Completes (.lkup w ra rb 0#2) s (off 4))) ∧
  (∀ (s : State) (k : Nat) (l : LkupOut), s.uni.lookups[k]? = some l → l.table < 3 → Completes (.lkupResult k) s (fun t =>
    t.uni.lookups = s.uni.lookups.eraseIdx k ∧ t.counter (0x90200 + 8 * l.table) = s.counter (0x90200 + 8 * l.table) + 1#64 ∧
      t.mem = s.mem ∧ (isPostable l.tag = true → Unwanted s l.tag →
        Queued s t l.tag { value := (s.tblLookup l.table l.key none).1, status := .ok, turn := false })))

/-- O30 (tier 2; R255, R256, R257, R258, R259, R260, R262, R264, R266, R267, R268, assumption 16). LK_CREATE queues a
request, at most two; at the head a sound record makes a ready thread with its pc and program and answers its handle,
a refused one its status, and without a free entry it waits. LK_EXIT empties the slot; THREAD_EXIT frees the number
with the next generation and posts handle and exit value. LK_ABORT and LKP_ABORT end the living thread that a handle
names with REFUSED_RIGHTS and answer REFUSED_NOT_READY for any other handle. LK_WAITTMO and LK_PRIO are kept; LK_TMARM
arms a timer or answers ZERO_LENGTH, REFUSED_NOT_READY or REFUSED_CAPACITY; an expiry posts the time. A timeout makes
the thread ready with TIMEOUT. A dispatch loads a highest-priority ready thread into an idle slot of a core with the
fewest running slots. -/
def Obligations.ThreadsAreCreatedRunAndEnded : Prop :=
  (∀ (s : State) (w : SlotId) (addr v : W32), (s.slot w).stores = [] →
    ((s.slot w).reqs.length < 2 → Completes (.lkCreate w addr) s (fun t => t.reply.status = .ok ∧
      (t.slot w).reqs = (s.slot w).reqs ++ [LkReq.create addr] ∧ t = { s with slots := t.slots, reply := t.reply })) ∧
    (2 ≤ (s.slot w).reqs.length → Completes (.lkCreate w addr) s (fun t => t.reply.status = .refusedCapacity ∧
      (t.slot w).reqs = (s.slot w).reqs ∧ t = { s with slots := t.slots, reply := t.reply })) ∧
    Completes (.lkWaittmo w v) s (fun t => (t.slot w).waitTmo = v ∧ t = { s with slots := t.slots, reply := t.reply }) ∧
    (∀ n, (s.slot w).thread = some n → Completes (.lkPrio w v) s (fun t =>
      (t.thread n).nextPrio = some (bits v 2 0) ∧ t.mem = s.mem ∧ t.regs = s.regs)) ∧
    (∀ n, (s.slot w).thread = some n → (s.slot w).reqs.length < 2 → (s.thread n).st = .running w.val →
      Completes (.lkExit w v) s (fun t => t.reply.status = .ok ∧ (t.slot w).thread = none ∧
        (t.thread n).st = .exiting .ok (bits v 15 0))) ∧
    ((s.slot w).tmTag = none → Completes (.lkTmarm w v) s (fun t => t.reply.status = .refusedNotReady ∧ t.lk = s.lk)) ∧
    (∀ g, (s.slot w).tmTag = some g → (s.slot w).reqs = [] →
      Completes (.lkTmarm w 0#32) s (fun t => t.reply.status = .zeroLength ∧ t.lk = s.lk) ∧
      (v ≠ 0#32 → s.lk.timers.length < 256 → s.entryFree g = true → Completes (.lkTmarm w v) s (fun t =>
        t.reply.status = .ok ∧ t.lk.timers = s.lk.timers ++ [{ tag := g, deadline := s.time + v.toNat }] ∧
          t.lk.toks = s.lk.toks)) ∧
      (v ≠ 0#32 → 256 ≤ s.lk.timers.length → Completes (.lkTmarm w v) s (fun t =>
        t.reply.status = .refusedCapacity ∧ t.lk = s.lk))) ∧
    ((s.slot w).reqs = [] →
      let tag := tagFor (slotWarden w) (bits v 31 16)
      (∀ m, s.handleThread (slotWarden w) (bits v 15 0) = some m → m ≠ (s.slot w).thread.getD 0 →
        Completes (.lkAbort w v) s (fun t => (t.thread m).st = .exiting .refusedRights 0 ∧ t.reply.status = .ok)) ∧
      (s.handleThread (slotWarden w) (bits v 15 0) = none → isPostable tag = true → s.entryFree tag = true → Unwanted s tag →
        Completes (.lkAbort w v) s (fun t => Queued s t tag
          { value := BitVec.ofNat 32 (bits v 15 0), status := .refusedNotReady, turn := false })))) ∧
  (∀ (s : State) (w : SlotId) (addr : W32) (k : Nat), (s.slot w).reqs = [LkReq.create addr] →
    (s.recordAt w addr = none → Completes (.threadCreate w) s (fun t => (t.slot w).reqs = [] ∧
      t.reply.status = .refusedRange ∧ Raised t 386)) ∧
    (s.recordAt w addr = some k →
      let r := s.readBytes k 32
      let tag := tagFor (slotWarden w) (leNat ((r.drop 0x14).take 2))
      let c := (s.reserve tag).create (slotWarden w) r
      (isPostable tag = true → s.entryFree tag = false → Completes (.threadCreate w) s (fun t => t = s)) ∧
      (isPostable tag = true → s.entryFree tag = true → Unwanted s tag → c.1 = .ok → ∀ n,
        s.freeThread (slotWarden w) = some n → Completes (.threadCreate w) s (fun t => (t.slot w).reqs = [] ∧
          (t.thread n).st = .ready ∧ (t.thread n).gen = (s.thread n).gen ∧
          (t.thread n).ctx.pc = BitVec.ofNat 32 (leNat ((r.drop 2).take 2)) ∧
          Queued s t tag { value := BitVec.ofNat 32 (n % 2048 + (s.thread n).gen.toNat * 0x800), status := .ok, turn := false })) ∧
      (isPostable tag = true → s.entryFree tag = true → Unwanted s tag → c.1 ≠ .ok → Completes (.threadCreate w) s (fun t =>
        (t.slot w).reqs = [] ∧ t.reply.status = c.1 ∧ Raised t 386 ∧
          ({ value := 0#32, status := c.1, turn := false } : Token) ∈ t.tokens tag)))) ∧
  (∀ (s : State) (n : Fin 2064),
    (∀ st v, (s.thread n).st = .exiting st v → Completes (.threadExit n) s (fun t => (t.thread n).st = .free ∧
      (t.thread n).gen = (s.thread n).gen + 1#5 ∧ ((s.thread n).exitTag ≠ 0 → Unwanted s (s.thread n).exitTag →
        Queued s t (s.thread n).exitTag { value := BitVec.ofNat 32 (s.handle n + v * 0x10000), status := st, turn := false }))) ∧
    (∀ d, (s.thread n).st = .waiting → (s.thread n).deadline = some d → Completes (.waitTimeout n) s (fun t =>
      (t.thread n).st = .ready ∧ (t.thread n).timedOut = true ∧ (t.thread n).tokens = [] ∧
        (t.thread n).ostat = .timeout ∧ n.val ∈ t.lk.ready)) ∧
    ((s.thread n).st ≠ .waiting → Completes (.waitTimeout n) s (fun t => t = s))) ∧
  (∀ (s : State) (k : Fin 256) (m : Timer), s.lk.timers[k.val]? = some m → s.time < m.deadline → Unwanted s m.tag →
    Completes (.timerExpiry k) s (fun t => t.lk.timers = s.lk.timers.eraseIdx k.val ∧
      Queued s t m.tag { value := BitVec.ofNat 32 m.deadline, status := .ok, turn := false })) ∧
  (∀ (s : State) (ag : Agent) (h : BitVec 16),
    (isBoss ag = false → Completes (.lkpAbort ag h) s (RefusedWith s .refusedRights)) ∧
    (isBoss ag = true → s.regOff A.lkpAbort = false → s.handleThread false h.toNat = none →
      Completes (.lkpAbort ag h) s (fun t => t.reply.status = .refusedNotReady ∧ OnlyReply s t)) ∧
    (∀ n, isBoss ag = true → s.regOff A.lkpAbort = false → s.handleThread false h.toNat = some n →
      Completes (.lkpAbort ag h) s (fun t => t.reply.status = .ok ∧ (t.thread n).st = .exiting .refusedRights 0))) ∧
  (∀ (s : State) (p : Fin 33),
    (s.readyHead p = none → Completes (.dispatch p) s (fun t => t = s)) ∧
    (∀ n k, s.readyHead p = some n → s.idleSlot n = some k → Completes (.dispatch p) s (fun t =>
      (t.slot k).thread = some n ∧ (t.thread n).st = .running k ∧ t.lk.ready = s.lk.ready.erase n ∧
      bits (t.slot k).ctx.flags 15 8 = (s.thread n).ostat.code ∧ (t.slot k).ctx.pc = (s.thread n).ctx.pc ∧
      n ∈ s.lk.ready ∧ (s.slot k).thread = none ∧
      (∀ m, m ∈ s.lk.ready → (s.thread m).program = p.val → (s.idleSlot m).isSome = true →
        (s.thread m).effPrio ≤ (s.thread n).effPrio) ∧
      ∀ j, j ∈ s.domainSlots p → (s.slot j).thread = none → (s.slot j).halted = false →
        s.slotFits j (s.thread n).frame = true → s.coreLoad k ≤ s.coreLoad j))) ∧
  (∀ (s : State) (w : SlotId), Completes (.saveAreaPresent w) s (fun t => (t.slot w).saveWait = false ∧
    (t.slot w).ctx = (s.slot w).ctx ∧ OnlySlot s w t))

/-- O31 (tier 2; R269, R271, R272, R273, R274, R275, R276, section 9.7). A core in service or in SHADOW that fails is
quarantined: its slots are empty, its QUAR bit and LKP_QLAST show it, and its events are raised; a fault of a core
that is being returned ends the return; any other core stays. LKP_QCMD quarantines and returns a core for the manager
or a warden slot, and answers REFUSED_NOT_READY where R274 says so. A prepared return loads the program of its pound
into the core's I-RAM, leaves it in SHADOW and arms group 18 (held in the fence); a failed test quarantines it with
REASON 6. A fill makes its context present, evicting the oldest line that is neither pinned nor held when the half is
full; a bad one and one without a victim raise their events and add no line. -/
def Obligations.CoresAndContextsComeAndGo : Prop :=
  (∀ (s : State) (c : Fin 64),
    let gone := fun (reason : Nat) (t : State) => (t.core c).st = .quarantined ∧ bit (t.reg (A.lkpQuar (c / 32))) (c % 32) = true ∧
      t.reg A.lkpQlast = BitVec.ofNat 32 (c.val + reason * 0x100 + s.cycle.toNat % 0x10000 * 0x10000) ∧ Raised t 388 ∧
      Raised t (257 + 2 * c.val) ∧ ∀ i, i < 8 → (t.slot (8 * c.val + i)).thread = none
    (∀ r : Fin 3, (s.core c).st = .member ∨ (s.core c).st = .shadow → Completes (.coreQuarantine c r) s (gone (r.val + 2))) ∧
    (∀ r : Fin 3, (s.core c).st = .spare ∨ (s.core c).st = .quarantined →
      (s.returning c = false → Completes (.coreQuarantine c r) s (fun t => t = s)) ∧
      (s.returning c = true → Completes (.coreQuarantine c r) s (fun t => gone (r.val + 2) t ∧ t.returning c = false))) ∧
    (∀ ag : Agent, isBoss ag = false → Completes (.lkpQcmdQuarantine ag c) s (RefusedWith s .refusedRights) ∧
      Completes (.lkpQcmdReturn ag c) s (RefusedWith s .refusedRights)) ∧
    (∀ ag : Agent, isBoss ag = true → s.regOff A.lkpQcmd = false →
      let last := fun (st : Status) (t : State) => bits (t.reg A.lkpQcmd) 23 16 = st.code ∧ t.reply.status = st
      let no := fun (t : State) => last .refusedNotReady t ∧ OnlyRegs s t [A.lkpQcmd]
      let spare := ∃ k, k < 64 ∧ (s.core k).st = .spare ∧ (s.core k).joins = none
      ((s.core c).st = .quarantined → s.returning c = false → Completes (.lkpQcmdQuarantine ag c) s no) ∧
      ((s.core c).st = .member → s.poundCores c ≤ 1 → ¬ spare → Completes (.lkpQcmdQuarantine ag c) s no) ∧
      ((s.core c).st = .member → 1 < s.poundCores c ∨ spare → Completes (.lkpQcmdQuarantine ag c) s (fun t =>
        gone 5 t ∧ last .ok t)) ∧
      ((s.core c).st = .shadow ∨ (s.core c).st = .spare ∨ ((s.core c).st = .quarantined ∧ s.returning c = true) →
        Completes (.lkpQcmdQuarantine ag c) s (fun t => gone 5 t ∧ last .ok t)) ∧
      ((s.core c).st ≠ .quarantined → Completes (.lkpQcmdReturn ag c) s no) ∧
      ((s.core c).st = .quarantined → s.lk.ret = none → s.lk.retQ = [] → Completes (.lkpQcmdReturn ag c) s (fun t =>
        last .ok t ∧ t.lk.ret = some { core := c.val, state := 1 } ∧ t.pdTarget c = 2 ∧ t.mem = s.mem)) ∧
      (∀ r, (s.core c).st = .quarantined → s.lk.ret = some r → r.core ≠ c.val → s.lk.retQ.contains c.val = false →
        Completes (.lkpQcmdReturn ag c) s (fun t => last .ok t ∧ t.lk.ret = some r ∧ t.lk.retQ = s.lk.retQ ++ [c.val])))) ∧
  (∀ s : State, s.lk.ret = none → ∀ pass, Completes (.coreReturnPrepared pass) s (fun t => t = s)) ∧
  (∀ (s : State) (r : CoreReturn), s.lk.ret = some r → r.core < 64 → r.state ≠ 4 → s.pdOn r.core = true →
    (∀ p, (s.core r.core).goal.bind (fun q => s.program q.program) = some p →
      Completes (.coreReturnPrepared true) s (fun t => (t.core r.core).st = .shadow ∧
        t.lk.ret = some { core := r.core, state := 4 } ∧
        (if s.tb.fence then t.tb.held = s.tb.held ++ [Held.hwArm 18] else t.groupArmed 18 = true) ∧
        ∀ i, i < 0x8000 → t.readByte (kIram r.core + i) = nth p.iimage i 0#8)) ∧
    Completes (.coreReturnPrepared false) s (fun t => (t.core r.core).st = .quarantined ∧ bits (t.reg A.lkpQlast) 15 8 = 6)) ∧
  (∀ (s : State) (c : BitVec 12),
    ((∀ m, m ∈ s.lk.misses → m.ctx ≠ c.toNat) → ∀ bad, Completes (.contextFillComplete c bad) s (fun t => t = s)) ∧
    (∀ m, m ∈ s.lk.misses → m.ctx = c.toNat →
      Completes (.contextFillComplete c true) s (fun t => Raised t 392 ∧ t.present c.toNat = s.present c.toNat) ∧
      (s.lk.lines.length < 1024 → Completes (.contextFillComplete c false) s (fun t => t.present c.toNat = true)) ∧
      (∀ l, 1024 ≤ s.lk.lines.length → s.victim = some l → l.ctx ≠ c.toNat → Completes (.contextFillComplete c false) s (fun t =>
        t.present c.toNat = true ∧ t.present l.ctx = false ∧ l.pins = 0 ∧ l.holds = [])) ∧
      (1024 ≤ s.lk.lines.length → s.victim = none → Completes (.contextFillComplete c false) s (fun t =>
        Raised t 391 ∧ t.present c.toNat = s.present c.toNat))))

/-- O32 (tier 2; R284, R285, R287, R288, R292, R293, R294, R295, R296, R297, R298, R299). For every agent that reaches the
basin, after its earlier stores: ALLOC takes the newest free element of the first pool that fits, ALLOCP of the named
pool, ALLOCB a berth, ALLOCC linked cells with HEAD on the first only; each is charged to the sender's owner entry and
answered in its result registers. Zero sizes answer ZERO_LENGTH, sizes out of range REFUSED_RANGE, no owner entry
REFUSED_RIGHTS, no pool that fits, and every allocation under the limp shape, REFUSED_CAPACITY, and nothing changes.
FREE pushes the element; a second FREE and a FREE of another owner's buffer are refused, recorded and raise EV410 and
EV411. XFER retags, CHAIN links, SPLIT cuts and NEXT reads a link. A cell of a freed chain returns to its stack in the
background. -/
def Obligations.BasinAllocatesFreesAndLinks : Prop :=
  (∀ (s : State) (ag : Agent), s.regOff A.bsnCmd = false → (s.reaches ag 0x08 || isHardware ag) = true →
    let u := s.drainAgent ag
    let done := fun (st : Status) (w : Nat) (t : State) => t.reply.status = st ∧ t.reply.value = BitVec.ofNat 64 w ∧
      t.reg (agKey ag A.bsnResult) = BitVec.ofNat 32 (w + st.code * 0x1000000)
    let no := fun (st : Status) (t : State) => done st 0 t ∧ t.bsn = u.bsn ∧ t.mem = u.mem
    Completes (.alloc ag 0#14) s (no .zeroLength) ∧ Completes (.allocc ag 0#9) s (no .zeroLength) ∧
    (∀ n : BitVec 14, 10240 < n.toNat → Completes (.alloc ag n) s (no .refusedRange)) ∧
    (∀ n : BitVec 9, 256 < n.toNat → Completes (.allocc ag n) s (no .refusedRange)) ∧
    (∀ a : BitVec 3, 6 ≤ a.toNat ∨ (u.areaCount a.toNat = 0 ∧ u.boot.limp = false) → Completes (.allocp ag a) s (no .refusedRange)) ∧
    (u.boot.limp = true → Completes (.allocb ag) s (no .refusedCapacity) ∧
      (∀ n : BitVec 14, n ≠ 0#14 → n.toNat ≤ 10240 → Completes (.alloc ag n) s (no .refusedCapacity)) ∧
      (∀ n : BitVec 9, n ≠ 0#9 → n.toNat ≤ 256 → Completes (.allocc ag n) s (no .refusedCapacity)) ∧
      (∀ a : BitVec 3, a.toNat < 6 → Completes (.allocp ag a) s (no .refusedCapacity))) ∧
    (u.boot.limp = false → isThread ag = false → ag ≠ 0x600#12 → ag ≠ 0x604#12 →
      Completes (.allocb ag) s (no .refusedRights)) ∧
    (u.boot.limp = false → u.entryOf ag.toNat = none → ∀ n : BitVec 14, n ≠ 0#14 → n.toNat ≤ 10240 →
      Completes (.alloc ag n) s (no .refusedRights)) ∧
    (∀ buf : BitVec 23, u.validBuf buf.toNat = false → Completes (.free ag buf) s (no .refusedRange) ∧
      Completes (.xfer ag buf) s (no .refusedRange) ∧ Completes (.chain ag buf) s (no .refusedRange) ∧
      Completes (.split ag buf) s (no .refusedRange) ∧ Completes (.next ag buf) s (no .refusedRange)) ∧
    (∀ e, u.entryOf ag.toNat = some e →
      let took := fun (a p : Nat) (rest : List Nat) (t : State) => done .ok (p + kindOfArea a * 0x100000) t ∧ t.bufTag p = e ∧
        t.areaFreed a = rest ∧ (∀ q, q ≠ p → t.bufTag q = u.bufTag q) ∧ t.mem = u.mem
      let fits := fun (n : Nat) => (rangeFrom 6 0).filter (fun p => u.poolUsable e p && decide (n ≤ u.areaSize p))
      (∀ n : BitVec 14, u.boot.limp = false → n ≠ 0#14 → n.toNat ≤ 10240 →
        (fits n.toNat = [] → Completes (.alloc ag n) s (no .refusedCapacity)) ∧
        (∀ a more p rest, fits n.toNat = a :: more → u.ceiling e a = none → u.areaFreed a = p :: rest →
          Completes (.alloc ag n) s (took a p rest))) ∧
      (∀ (a : BitVec 3) (p : Nat) (rest : List Nat), u.boot.limp = false → a.toNat < 6 → 0 < u.areaCount a.toNat →
        (u.owner e).poolMask.getLsbD a.toNat = true →
        (u.ceiling e a.toNat = none → u.areaFreed a.toNat = p :: rest → Completes (.allocp ag a) s (took a.toNat p rest)) ∧
        (∀ c, u.ceiling e a.toNat = some c → c ≤ u.holding e a.toNat → Completes (.allocp ag a) s (no .refusedCapacity))) ∧
      (∀ p rest, u.boot.limp = false → isThread ag = true → u.areaFreed 7 = p :: rest → Completes (.allocb ag) s (took 7 p rest)) ∧
      (∀ p q rest, u.boot.limp = false → (u.owner e).poolMask.getLsbD 6 = true → u.cellCeiling e = 0xFFFF → u.areaFreed 6 = p :: q :: rest →
        p ≠ q → Completes (.allocc ag 2#9) s (fun t => done .ok (p + 0x700000) t ∧
          t.reg (agKey ag A.bsnResult2) = BitVec.ofNat 32 (q + 0x700000) ∧ t.bufTag p = e ∧ t.bufTag q = e ∧
          t.cellLink p = q ∧ t.cellLink q = endLink ∧ t.cellHead p = true ∧ t.cellHead q = false ∧ t.areaFreed 6 = rest)) ∧
      (∀ buf : BitVec 23, u.validBuf buf.toNat = true → e ≠ tagFree →
        let p := bufPtr buf.toNat
        let a := bufArea buf.toNat
        (u.bufTag p = tagFree → Completes (.free ag buf) s (fun t => done .refusedNotReady 0 t ∧ t.bsn = u.bsn ∧
          Raised t 410 ∧ t.reg A.bsnErrbuf = BitVec.ofNat 32 buf.toNat)) ∧
        (u.bufTag p ≠ tagFree → u.bufTag p ≠ e → Completes (.free ag buf) s (fun t => done .refusedRights 0 t ∧
          t.bsn = u.bsn ∧ Raised t 411 ∧ t.reg A.bsnErrbuf = BitVec.ofNat 32 buf.toNat)) ∧
        (u.bufTag p = e → a < 6 →
          Completes (.free ag buf) s (fun t => done .ok 0 t ∧ t.bufTag p = tagFree ∧ t.areaFreed a = p :: u.areaFreed a ∧
            (∀ q, q ≠ p → t.bufTag q = u.bufTag q) ∧ t.mem = u.mem) ∧
          (∀ f, u.entryOf (u.fld (agKey ag A.bsnArg) 15 0) = some f → (u.owner f).poolMask.getLsbD a = true →
            Completes (.xfer ag buf) s (fun t => done .ok 0 t ∧ t.bufTag p = f ∧
              (∀ q, q ≠ p → t.bufTag q = u.bufTag q) ∧ t.mem = u.mem)) ∧
          (u.entryOf (u.fld (agKey ag A.bsnArg) 15 0) = none → Completes (.xfer ag buf) s (no .refusedRights))) ∧
        (u.bufTag p = e → a = 6 →
          Completes (.next ag buf) s (fun t => done .ok (linkWord (u.cellLink p)) t ∧ t.bsn = u.bsn ∧ t.mem = u.mem) ∧
          Completes (.split ag buf) s (fun t => done .ok (linkWord (u.cellLink p)) t ∧ t.cellLink p = endLink ∧
            (u.cellLink p ≠ endLink → t.cellHead (u.cellLink p) = true) ∧ t.bsn.tags = u.bsn.tags ∧ t.mem = u.mem) ∧
          (∀ h, h = u.fld (agKey ag A.bsnArg) 22 0 → u.validBuf h = true → bufArea h = 6 → u.bufTag (bufPtr h) = e →
            u.cellLink p = endLink → u.cellHead (bufPtr h) = true → Completes (.chain ag buf) s (fun t => done .ok 0 t ∧
              t.cellLink p = bufPtr h ∧ t.cellHead (bufPtr h) = false ∧ t.bsn.tags = u.bsn.tags ∧ t.mem = u.mem)) ∧
          (u.cellLink p ≠ endLink → u.validBuf (u.fld (agKey ag A.bsnArg) 22 0) = true →
            bufArea (u.fld (agKey ag A.bsnArg) 22 0) = 6 → Completes (.chain ag buf) s (no .refusedNotReady)))))) ∧
  (∀ s : State, s.bsn.returning = [] → Completes .chainCellReturn s (fun t => t = s)) ∧
  (∀ (s : State) (p : Nat) (rest : List Nat), s.bsn.returning = p :: rest → Completes .chainCellReturn s (fun t =>
    t.bsn.returning = rest ∧ t.areaFreed 6 = p :: s.areaFreed 6 ∧ t.bufTag p = tagFree ∧ t.cellLink p = endLink ∧
      t = { s with bsn := t.bsn }))

/-- O33 (tier 2; R305, R306, R307, R308, R309, section 10.6). After the sender's stores, SPILL of a pool buffer it owns
takes a spill slot, passes the buffer to the basin and answers the handle; a region out of service answers
REFUSED_NOT_READY. The end of the copy frees the buffer. FILL of a held handle takes a buffer of the pool and begins
the copy; an unknown handle is refused. The end of the copy brings the content of the slot into the buffer, frees the
slot and posts the completion token, which is retried and counted until it is accepted, the first retry raising EV414.
RECLAIM by the manager or a warden slot frees every element of the entry; other agents, the sequencer's entry and
indices out of range are refused. -/
def Obligations.BasinSpillsFillsAndReclaims : Prop :=
  (∀ (s : State) (ag : Agent), s.regOff A.bsnCmd = false → (s.reaches ag 0x08 || isHardware ag) = true →
    let u := s.drainAgent ag
    let no := fun (st : Status) (t : State) => t.reply.status = st ∧ t.bsn = u.bsn ∧ t.mem = u.mem
    (∀ (buf : BitVec 23) (e : Nat), u.validBuf buf.toNat = true → bufArea buf.toNat < 6 → u.entryOf ag.toNat = some e →
      u.bufTag (bufPtr buf.toNat) = e →
      (u.spillReady = false → Completes (.spill ag buf) s (no .refusedNotReady)) ∧
      (∀ k rest, u.spillReady = true → u.bsn.spillFreed = k :: rest → Completes (.spill ag buf) s (fun t =>
        t.reply.status = .ok ∧ t.reply.value = BitVec.ofNat 64 (k + bufArea buf.toNat * 0x10000) ∧
          t.bufTag (bufPtr buf.toNat) = tagBasin ∧ t.bsn.spillFreed = rest ∧
          SMap.get (fun _ => none) t.bsn.spillRec k = some (e, bufArea buf.toNat) ∧
          t.bsn.spills = u.bsn.spills ++ [(bufPtr buf.toNat, k)] ∧ t.mem = u.mem))) ∧
    (∀ h : BitVec 19,
      let k := h.toNat % 0x10000
      let a := h.toNat / 0x10000
      (u.spillReady = false → Completes (.fill ag h) s (no .refusedNotReady)) ∧
      (u.spillReady = true → SMap.get (fun _ => none) u.bsn.spillRec k = none → Completes (.fill ag h) s (no .refusedRange)) ∧
      (∀ e q rest, u.spillReady = true → SMap.get (fun _ => none) u.bsn.spillRec k = some (e, a) →
        u.entryOf ag.toNat = some e → (u.owner e).poolMask.getLsbD a = true → u.ceiling e a = none → q < 0x100000 →
        u.areaFreed a = q :: rest → a < 6 → Completes (.fill ag h) s (fun t => t.reply.status = .ok ∧
          t.reply.value = BitVec.ofNat 64 (q + a * 0x100000) ∧ t.bufTag q = e ∧
          SMap.get (fun _ => none) t.bsn.spillRec k = none ∧ t.bsn.fills = u.bsn.fills ++
            [{ slot := k, ptr := q, pool := a, tag := u.fld (agKey ag A.bsnArg) 15 0, agent := ag, cancelled := false }]))) ∧
    (∀ i : BitVec 6,
      (isBoss ag = false → Completes (.reclaim ag i) s (no .refusedRights)) ∧
      (isBoss ag = true → 48 ≤ i.toNat → i.toNat ≠ tagOrphan → Completes (.reclaim ag i) s (no .refusedRange)) ∧
      (isBoss ag = true → i.toNat < 48 → u.entryNamed 0x600 = some i.toNat → Completes (.reclaim ag i) s (no .refusedRights)) ∧
      (isBoss ag = true → i.toNat < 48 → u.entryNamed 0x600 ≠ some i.toNat → u.bsn.fills = [] →
        (∀ q, (q, i.toNat) ∈ u.bsn.tags → u.areaAt q < 7) → Completes (.reclaim ag i) s (fun t =>
          t.reply.status = .ok ∧ t.mem = u.mem ∧ ∀ p, u.bufTag p = i.toNat → t.bufTag p = tagFree)))) ∧
  (∀ (s : State) (k : Nat),
    (s.bsn.spills.find? (fun x => decide (x.2 = k)) = none → Completes (.spillCopyDone k) s (fun t => t = s)) ∧
    (∀ p, s.bsn.spills.find? (fun x => decide (x.2 = k)) = some (p, k) → Completes (.spillCopyDone k) s (fun t =>
      t.bufTag p = tagFree ∧ t.bsn.spills = s.bsn.spills.erase (p, k))) ∧
    (s.bsn.fills.find? (fun f => decide (f.slot = k)) = none → Completes (.fillCopyDone k) s (fun t => t = s)) ∧
    (∀ f, s.bsn.fills.find? (fun f => decide (f.slot = k)) = some f → s.bsn.spills = [] → f.cancelled = false →
      isPostable f.tag = true → s.entryFree f.tag = true → Unwanted s f.tag → Completes (.fillCopyDone k) s (fun t =>
        t.bsn.fills = s.bsn.fills.erase f ∧ t.bsn.spillFreed = k :: s.bsn.spillFreed ∧
          ((s.spillBytes k (s.areaSize f.pool)).1 = true → Queued s t f.tag
            { value := BitVec.ofNat 32 (f.ptr + kindOfArea f.pool * 0x100000), status := .ok, turn := false } ∧
            ∀ i, i < (s.spillBytes k (s.areaSize f.pool)).2.length →
              t.readByte (kBasin + f.ptr * 64 + i) = nth (s.spillBytes k (s.areaSize f.pool)).2 i 0#8)))) ∧
  (∀ (s : State) (r : Retry), s.bsn.retry = [r] → isPostable r.tag = true → Unwanted s r.tag →
    (s.entryFree r.tag = true → Completes .fillTokenRetry s (fun t => t.bsn.retry = [] ∧
      Queued s t r.tag { value := r.value, status := r.status, turn := false } ∧
        t.counter 0x80170 = s.counter 0x80170 + 1#64)) ∧
    (s.entryFree r.tag = false → Completes .fillTokenRetry s (fun t => t.bsn.retry = [{ r with retried := true }] ∧
      t.counter 0x80170 = s.counter 0x80170 + 1#64 ∧ (r.retried = false → Raised t 414))))

/-- O34 (tier 2; R324, R325, R326, R327, R328, R330, R331, R333, R339, Table 11-6). A command of an agent without the
right, of table 3, or to a full queue is refused in TBL_LAST and nothing else changes. With an empty queue and fewer
than 8 FENCEs a command is performed at once: TBL_SEQ shows its number, TBL_LAST number and status. ADD of a new key
writes its entry into the first free place of its two buckets, counts it and advances the epoch by 1; no other byte of
memory changes; without a place it is REFUSED_CAPACITY and counted; bad fields and an absent table are refused. DEL
zeroes the entry and advances the epoch; FLUSH of all leaves no valid entry; READ leaves the entry in TBL_RD0 and
TBL_RD1; FENCE completes at once with no frame in flight and otherwise waits for those in flight; REHASH sets its
target seeds. -/
def Obligations.TableCommandsChangeOneTable : Prop :=
  ∀ (s : State) (ag : Agent) (n : BitVec 2) (tag : BitVec 16), s.regOff A.tblCmd = false →
    let N := n.toNat
    let staged := fun (op : Nat) => s.tblStaged ag op N false tag.toNat
    let key := ((staged 1).key).take (keyBytes N)
    let cmd : TblCmd := { staged 1 with key := key, seq := s.tbl.seq }
    let refused := fun (st : Status) (t : State) => t.reply.status = st ∧
      t.reg (agKey ag A.tblLast) = BitVec.ofNat 32 (0xFFFF + st.code * 0x1000000) ∧ OnlyRegs s t [agKey ag A.tblLast]
    let last := fun (st : Status) (t : State) => t.reply.status = .ok ∧ t.tbl.queue = [] ∧
      t.reg (agKey ag A.tblSeq) = BitVec.ofNat 32 s.tbl.seq ∧ t.tbl.seq = (if s.tbl.seq = 0xFFFE then 0 else s.tbl.seq + 1) ∧
      t.reg (agKey ag A.tblLast) = BitVec.ofNat 32 (s.tbl.seq + st.code * 0x1000000)
    (s.tblRight ag 1 N = false → N < 3 → Completes (.tableAdd ag n false tag) s (refused .refusedRights)) ∧
    (N = 3 → Completes (.tableRead ag n false tag) s (refused .refusedRange)) ∧
    (s.tblRight ag 2 N = true → N < 3 → 64 ≤ s.tbl.queue.length →
      Completes (.tableDel ag n false tag) s (refused .refusedCapacity)) ∧
    (N < 3 → s.tbl.queue = [] → s.tbl.fences.length < 8 →
      (s.tblRight ag 1 N = true →
        (s.tblSize N = 0 → Completes (.tableAdd ag n false tag) s (fun t => last .refusedNotReady t ∧ t.mem = s.mem)) ∧
        (s.tblSize N ≠ 0 → addOk cmd = false → Completes (.tableAdd ag n false tag) s (fun t =>
          last .refusedRange t ∧ t.mem = s.mem)) ∧
        (s.tblSize N ≠ 0 → addOk cmd = true → s.tblFind N key = none → (N = 2 → s.idFree (bits cmd.res 11 0) = true) →
          let b := s.buckets N (s.placeSeeds N) key
          (∀ p, s.freeIn N (slotsOf b.1 ++ slotsOf b.2) = some p → Completes (.tableAdd ag n false tag) s (fun t =>
            last .ok t ∧ t.entryAt N p = addEntry cmd ∧ t.epoch N = (s.epoch N + 1) % 65536 ∧
              bits (t.reg (A.tblStat N)) 15 0 = (bits (s.reg (A.tblStat N)) 15 0 + 1) % 65536 ∧
              SameMemoryBut s t (s.placeKey N p) (entryBytes N) ∧
              (N = 2 → t.tbl.used = bits cmd.res 11 0 :: s.tbl.used))) ∧
          (s.makeRoom N (s.placeSeeds N) key = none → Completes (.tableAdd ag n false tag) s (fun t =>
            last .refusedCapacity t ∧ t.mem = s.mem ∧ t.counter (0x90230 + 8 * N) = s.counter (0x90230 + 8 * N) + 1#64)))) ∧
      (s.tblRight ag 2 N = true →
        (s.tblFind N key = none → Completes (.tableDel ag n false tag) s (fun t => last .refusedNotReady t ∧ t.mem = s.mem)) ∧
        (∀ p, s.tblFind N key = some p → (∀ q, q ∈ s.stashPlaces N → s.placeFree N q = true) →
          Completes (.tableDel ag n false tag) s (fun t => last .ok t ∧ t.epoch N = (s.epoch N + 1) % 65536 ∧
            t.entryAt N p = List.replicate (entryBytes N) 0#8 ∧ SameMemoryBut s t (s.placeKey N p) (entryBytes N)))) ∧
      (s.tblRight ag 4 N = true →
        (s.tblSize N ≠ 0 → bit (s.reg (agKey ag A.tblAux0)) 9 = false → N ≠ 0 → Completes (.tableFlush ag n false tag) s
          (fun t => last .refusedRange t ∧ t.mem = s.mem)) ∧
        (s.tblSize N ≠ 0 → bit (s.reg (agKey ag A.tblAux0)) 9 = true → Completes (.tableFlush ag n false tag) s
          (fun t => last .ok t ∧ t.validPlaces N = [] ∧
            t.epoch N = (if s.validPlaces N = [] then s.epoch N else (s.epoch N + 1) % 65536)))) ∧
      (s.tblRight ag 3 N = true →
        (s.inFlight = [] → Completes (.tableFence ag n false tag) s (fun t => last .ok t ∧ t.mem = s.mem)) ∧
        (s.inFlight ≠ [] → Completes (.tableFence ag n false tag) s (fun t => t.tbl.queue = [] ∧ t.mem = s.mem ∧
          t.reg (agKey ag A.tblLast) = s.reg (agKey ag A.tblLast) ∧
          t.tbl.fences.map (·.tickets) = s.tbl.fences.map (·.tickets) ++ [s.inFlight]))) ∧
      (s.tblRight ag 5 N = true → s.tblSize N ≠ 0 → (∀ r, r ∈ s.tbl.rehash → r.table ≠ N) →
        let a := BitVec.ofNat 32 (leNat ((staged 5).key.take 4))
        let b := BitVec.ofNat 32 (leNat (((staged 5).key.drop 4).take 4))
        (a = b → Completes (.tableRehash ag n false tag) s (fun t => last .refusedRange t ∧ t.tbl.rehash = s.tbl.rehash)) ∧
        (a ≠ b → Completes (.tableRehash ag n false tag) s (fun t => t.tbl.rehash.map (fun r => (r.table, r.seedA, r.seedB)) =
          s.tbl.rehash.map (fun r => (r.table, r.seedA, r.seedB)) ++ [(N, a, b)] ∧ bit (t.reg (A.tblStat N)) 22 = true ∧
            t.mem = s.mem))) ∧
      (s.tblRight ag 6 N = true →
        (∀ p, s.tblFind N key = some p → Completes (.tableRead ag n false tag) s (fun t => last .ok t ∧
          t.reg (agKey ag (A.tblRd 0)) = s.placeRes N p ∧ t.reg (agKey ag (A.tblRd 1)) = s.placeCtl N p ∧ t.mem = s.mem)) ∧
        (s.tblFind N key = none → Completes (.tableRead ag n false tag) s (fun t => last .refusedNotReady t ∧
          t.reg (agKey ag (A.tblRd 0)) = 0#32 ∧ t.reg (agKey ag (A.tblRd 1)) = 0#32 ∧ t.mem = s.mem))))

/-- O35 (tier 2; R325, R331, R336, R337, R339, R340). A FENCE whose frames have all gone completes and shows it in
TBL_LAST; with none, nothing happens. A rehash whose entries all fit takes the target seeds, clears REHASHING and
raises EV444 + n; one that cannot place an entry keeps the old seeds, raises EV447 + n and answers REFUSED_CAPACITY. A
refused completion token is posted again and counted. The oldest learn request becomes an entry with LEARNED and AGED
set and its port as result, and is counted. A sweep removes an aged entry that no frame has refreshed, with an epoch
step and a count, clears HIT of one that was refreshed, and raises EV450; with period 0xFFFF it does nothing. -/
def Obligations.TablesLearnAgeFenceAndRehash : Prop :=
  (∀ s : State, (∀ f, f ∈ s.tbl.fences → f.tickets ≠ []) → Completes .fenceComplete s (fun t => t = s)) ∧
  (∀ (s : State) (f : Fence) (c : TblCmd), s.tbl.fences.find? (fun f => decide (f.tickets = [])) = some f →
    f.cmd = some c → c.token = false → s.tbl.queue = [] → Completes .fenceComplete s (fun t =>
      t.tbl.fences = s.tbl.fences.erase f ∧ t.mem = s.mem ∧
        t.reg (agKey c.agent A.tblLast) = BitVec.ofNat 32 (c.seq + Status.ok.code * 0x1000000))) ∧
  (∀ (s : State) (n : Fin 3), s.tbl.rehash.find? (fun r => decide (r.table = n.val)) = none →
    Completes (.rehashComplete n) s (fun t => t = s) ∧ Completes (.rehashFail n) s (fun t => t = s)) ∧
  (∀ (s : State) (n : Fin 3) (r : Rehash), s.tbl.rehash.find? (fun r => decide (r.table = n.val)) = some r →
    r.cmd.token = false →
    let ended := fun (t : State) => (∀ q, q ∈ t.tbl.rehash → q.table ≠ n.val) ∧ bit (t.reg (A.tblStat n)) 22 = false
    (∀ u, s.migrateAll n (r.seedA, r.seedB) = some u →
      Completes (.rehashComplete n) s (fun t => ended t ∧ t.reg (A.tblSeeda n) = r.seedA ∧ t.reg (A.tblSeedb n) = r.seedB ∧
        Raised t (444 + n.val) ∧ t.mem = u.mem ∧
        t.reg (agKey r.cmd.agent A.tblLast) = BitVec.ofNat 32 (r.cmd.seq + Status.ok.code * 0x1000000)) ∧
      Completes (.rehashFail n) s (fun t => t = s)) ∧
    (s.migrateAll n (r.seedA, r.seedB) = none →
      Completes (.rehashComplete n) s (fun t => t = s) ∧
      Completes (.rehashFail n) s (fun t => ended t ∧ t.reg (A.tblSeeda n) = s.reg (A.tblSeeda n) ∧
        t.reg (A.tblSeedb n) = s.reg (A.tblSeedb n) ∧ Raised t (447 + n.val) ∧
        t.reg (agKey r.cmd.agent A.tblLast) = BitVec.ofNat 32 (r.cmd.seq + Status.refusedCapacity.code * 0x1000000)))) ∧
  (∀ (s : State) (r : Retry), s.tbl.retry = [r] → isPostable r.tag = true → Unwanted s r.tag →
    (s.entryFree r.tag = true → Completes .tableTokenRetry s (fun t => t.tbl.retry = [] ∧
      Queued s t r.tag { value := r.value, status := r.status, turn := false } ∧
        t.counter 0x90270 = s.counter 0x90270 + 1#64)) ∧
    (s.entryFree r.tag = false → Completes .tableTokenRetry s (fun t => t.tbl.retry = [{ r with retried := true }] ∧
      t.counter 0x90270 = s.counter 0x90270 + 1#64))) ∧
  (∀ s : State, s.tbl.learn = [] → Completes .learnInsert s (fun t => t = s)) ∧
  (∀ (s : State) (l : Learn) (rest : List Learn) (p : Nat), s.tbl.learn = l :: rest → s.tblSize 0 ≠ 0 →
    s.tblFind 0 l.key = none → l.key.length = 8 → (nth l.key 7 0#8).toNat < 16 → l.port < 8 →
    s.freeIn 0 (slotsOf (s.buckets 0 (s.placeSeeds 0) l.key).1 ++ slotsOf (s.buckets 0 (s.placeSeeds 0) l.key).2) = some p →
    Completes .learnInsert s (fun t => t.tbl.learn = rest ∧ t.entryAt 0 p = l.key ++ leBytes 4 (2 ^ l.port) ++ leBytes 4 11 ∧
      t.counter 0x90248 = s.counter 0x90248 + 1#64 ∧ t.epoch 0 = (s.epoch 0 + 1) % 65536 ∧
      SameMemoryBut s t (s.placeKey 0 p) 16)) ∧
  (∀ s : State, s.fld A.tblAge 15 0 = 0xFFFF ∨ s.tblSize 0 = 0 → Completes .ageingSweep s (fun t => t = s)) ∧
  (∀ (s : State) (p : Nat), s.fld A.tblAge 15 0 ≠ 0xFFFF → s.tblSize 0 ≠ 0 → s.validPlaces 0 = [p] → p < s.tblSize 0 →
    (bit (s.placeCtl 0 p) 1 = true → bit (s.placeCtl 0 p) 2 = false → Completes .ageingSweep s (fun t =>
      t.entryAt 0 p = List.replicate 16 0#8 ∧ t.epoch 0 = (s.epoch 0 + 1) % 65536 ∧ Raised t 450 ∧
        t.counter 0x90268 = s.counter 0x90268 + 1#64)) ∧
    (bit (s.placeCtl 0 p) 1 = true → bit (s.placeCtl 0 p) 2 = true → Completes .ageingSweep s (fun t =>
      bit (t.placeCtl 0 p) 0 = true ∧ bit (t.placeCtl 0 p) 2 = false ∧ t.placeRes 0 p = s.placeRes 0 p ∧
        t.epoch 0 = s.epoch 0 ∧ Raised t 450)) ∧
    (bit (s.placeCtl 0 p) 1 = false → Completes .ageingSweep s (fun t => t.mem = s.mem ∧ t.epoch 0 = s.epoch 0 ∧
      Raised t 450)))

/-- O36 (tier 2; R343, R352, R353, R354, R355, R357, R358, R365, assumption 15). A commit with reserved bits or of an
unbound partner is refused and moves no byte; one that passes its checks with its context at hand leaves header and
payload in its slot, padded with zeros; without the context it waits for its copy. A seal sends the berth as a class-0
frame from port 9 with the descriptor's EGRESS, counts it and advances BSEQ; without a berth it raises EV467; a
descriptor that is not live or has sealed is left alone. The check of an inbound barge writes its status over the tag,
counts it, marks a partner of a good one in its window as present and sets FCS_DONE. At the close of a window a
present partner has loss 0; an absent ACTIVE one loses a cycle, and at the limit is released with EV469. -/
def Obligations.BargesAreFilledSealedAndChecked : Prop :=
  (∀ (s : State) (ag : Agent) (v : W32),
    let u := s.drainAgent ag
    let p := bits v 11 0
    let len := bits v 23 16
    let filled := fun (b : State) (n k w : Nat) (bytes : List Byte) (t : State) =>
      let seq := if len = 0 then (b.partner p).oseq else ((b.partner p).oseq + 1) % 256
      t.readBytes (kBasin + bufPtr w * 64 + descHdr b.reg n + slotOffset b.reg n k) (4 + slotCap b.reg n k) =
        beBytes 2 (p + b2n (bit v 12) * 0x2000 + b2n (bit v 13) * 0x4000) ++ leBytes 1 len ++ leBytes 1 seq ++
          (bytes ++ List.replicate (slotCap b.reg n k - bytes.length) 0#8).take (slotCap b.reg n k) ∧
      (t.out n).fresh.contains k = true ∧ t.reply.status = .ok
    (s.reaches ag 0x0A = false → Completes (.brgCommit ag v) s (RefusedWith s .refusedRights)) ∧
    (s.reaches ag 0x0A = true →
      (bits v 15 14 ≠ 0 → Completes (.brgCommit ag v) s (fun t => t.reply.status = .refusedRange ∧ t.brg = u.brg ∧ t.mem = u.mem)) ∧
      (bits v 15 14 = 0 → bits v 31 24 = 0 → (u.partner p).bind = none → Completes (.brgCommit ag v) s (fun t =>
        t.reply.status = .refusedNotReady ∧ t.brg = u.brg ∧ t.mem = u.mem)) ∧
      (∀ n k w bytes, u.commitCheck v = (.ok, n, k, w) → u.present p = true ∨ len = 0 → u.readContext p len = some bytes →
        Completes (.brgCommit ag v) s (filled u n k w bytes)) ∧
      (∀ n k w x a, u.commitCheck v = (.ok, n, k, w) → u.present p = false → len ≠ 0 → u.contextAt p = some (x, a) →
        u.chInService x = true → Completes (.brgCommit ag v) s (fun t => t.brg.commits = u.brg.commits ++ [{ agent := ag, word := v }] ∧
          t.mem = u.mem))) ∧
    ((∀ c, c ∈ s.brg.commits → c.agent ≠ ag) → Completes (.commitCopyDone ag) s (fun t => t = s)) ∧
    (∀ n k w bytes, s.brg.commits.find? (fun c => decide (c.agent = ag)) = some { agent := ag, word := v } →
      s.commitCheck v = (.ok, n, k, w) → s.readContext p len = some bytes →
      Completes (.commitCopyDone ag) s (fun t => filled s n k w bytes t ∧
        t.brg.commits = s.brg.commits.erase { agent := ag, word := v }))) ∧
  (∀ (s : State) (n : Fin 16),
    ((s.out n).live = false ∨ (s.out n).sealed = true → Completes (.bargeSeal n) s (fun t => t = s)) ∧
    ((s.out n).live = true → (s.out n).sealed = false → s.brg.commits = [] →
      (s.berthOf n = none → Completes (.bargeSeal n) s (fun t => (t.out n).sealed = true ∧ Raised t 467)) ∧
      (∀ w k sh e, s.berthOf n = some w → s.takeTicket 0 = some (k, sh) → s.entryOf 0x600 = some e →
        Completes (.bargeSeal n) s (fun t => (t.out n).sealed = true ∧ (t.out n).berth = none ∧
          t.counter 0xA0400 = s.counter 0xA0400 + 1#64 ∧
          bits (t.reg (A.brgOstat n)) 15 0 = SMap.get (fun _ => 0) s.brg.bseq n % 0x10000 ∧
          SMap.get (fun _ => 0) t.brg.bseq n = (SMap.get (fun _ => 0) s.brg.bseq n + 1) % 0x10000 ∧
          ∃ f, t.frame k = some f ∧ f.fr.port = 9 ∧ f.fr.cls = 0 ∧ f.complete = true ∧ f.fr.len = descFrame s.reg n ∧
            f.fr.egress = BitVec.ofNat 16 (s.fld (A.brgOcfg n) 15 8) ∧ f.fr.buf = BitVec.ofNat 32 w)))) ∧
  (∀ (s : State) (k : Fin 1024) (f : Frame), s.frame k = some f →
    (f.checking = false → Completes (.inboundCheck k) s (fun t => t = s)) ∧
    (f.checking = true → f.released = false → bufArea f.fr.buf.toNat ≠ 6 →
      let st := s.inboundStatus f.fr.port f.wire
      Completes (.inboundCheck k) s (fun t => t.counter 0xA0418 = s.counter 0xA0418 + 1#64 ∧
        t.counter 0xA0420 = s.counter 0xA0420 + (if st = .ok then 0#64 else 1#64) ∧
        t.readBytes (kBasin + bufPtr f.fr.buf.toNat * 64 + checkPlace f.wire) 8 = leBytes 8 st.code ∧
        (st = .refusedRights → s.once.contains 472 = false → Raised t 472) ∧
        (st = .ok → s.inWindow f = true → nth f.fr.lk 2 0 = 1 →
          (t.partner (bits (nth f.fr.res 2 0#32) 11 0)).present = true) ∧
        ∃ g, t.frame k = some g ∧ g.fr.fcsDone = true ∧ g.fr.fcsBad = false ∧ g.checking = false))) ∧
  (∀ (s : State) (p : Fin 8),
    (s.tb.cycRun = false ∨ bit (s.reg (A.brgIcfg p)) 0 = false ∨ s.brg.closed.contains p.val = true →
      Completes (.receiveWindowClose p) s (fun t => t = s)) ∧
    (∀ q, s.tb.cycRun = true → bit (s.reg (A.brgIcfg p)) 0 = true → s.brg.closed.contains p.val = false →
      s.expected p = [q] → (s.partner q).st = 2 →
      ((s.partner q).present = true → Completes (.receiveWindowClose p) s (fun t => p.val ∈ t.brg.closed ∧
        (t.partner q).st = 2 ∧ (t.partner q).loss = 0)) ∧
      ((s.partner q).present = false → (s.partner q).loss + 1 < s.fld A.brgCtrl 7 0 → Completes (.receiveWindowClose p) s
        (fun t => p.val ∈ t.brg.closed ∧ (t.partner q).st = 2 ∧ (t.partner q).loss = min 255 ((s.partner q).loss + 1))) ∧
      ((s.partner q).present = false → s.fld A.brgCtrl 7 0 ≤ (s.partner q).loss + 1 → Completes (.receiveWindowClose p) s
        (fun t => p.val ∈ t.brg.closed ∧ (t.partner q).st = 3 ∧ Raised t 469 ∧
          t.counter 0xA0430 = s.counter 0xA0430 + 1#64))))

/-- O37 (tier 2; R361, R362, R365, R366, Table 12-9, Table 12-11, assumption 6). For an agent that reaches the block,
after its stores, each command answers in BRG_RESULT. Reserved bits answer REFUSED_RANGE; ADMIT of a known partner and
a command on one that is not joined answer REFUSED_NOT_READY; ADMIT without a free ID answers REFUSED_CAPACITY and
raises EV471. A sound ADMIT takes the ID, leaves the partner JOINING with its address, and arms group 15 for its
binding; RELEASE leaves it LEAVING with EV470; BIND arms group 15; inside the fence the change is kept for the turn
after and answered DELAYED. WELCOME sends a 64-byte class-1 frame on the partner's port. READ shows the directory
entry. An agent outside its reach gets REFUSED_RIGHTS. -/
def Obligations.PartnersAreAdmittedBoundAndReleased : Prop :=
  ∀ (s : State) (ag : Agent),
    let done := fun (st : Status) (id : Nat) (t : State) => t.reply.status = st ∧ t.reply.value = BitVec.ofNat 64 id ∧
      t.reg (agKey ag A.brgResult) = BitVec.ofNat 32 (id + st.code * 0x1000000)
    (s.reaches ag 0x0A = false →
      Completes (.admitPartner ag) s (fun t => done .refusedRights 0 t ∧ t.brg = s.brg ∧ t.mem = s.mem) ∧
      Completes (.release ag) s (fun t => done .refusedRights 0 t ∧ t.brg = s.brg ∧ t.mem = s.mem)) ∧
    (s.reaches ag 0x0A = true →
      let u := s.drainAgent ag
      let no := fun (st : Status) (id : Nat) (t : State) => done st id t ∧ t.brg = u.brg ∧ t.tbl = u.tbl ∧ t.mem = u.mem
      let a0 := u.brgArg ag 0
      let a1 := u.brgArg ag 1
      let a2 := u.brgArg ag 2
      let a3 := u.brgArg ag 3
      let p := bits a0 11 0
      let joined := (u.partner p).st = 1 ∨ (u.partner p).st = 2
      let sa := leBytes 4 a0.toNat ++ leBytes 2 (bits a1 15 0)
      let port := bits a1 18 16
      let clean := bits a1 31 20 = 0 ∧ bits a2 31 25 = 0 ∧ bits a3 31 14 = 0
      (¬ clean → Completes (.admitPartner ag) s (no .refusedRange 0)) ∧
      (∀ q, clean → u.tblFind 2 (sa ++ leBytes 1 port) = some q →
        Completes (.admitPartner ag) s (no .refusedNotReady (bits (u.placeRes 2 q) 11 0))) ∧
      (clean → u.tblFind 2 (sa ++ leBytes 1 port) = none → argBind a2 = none → u.brg.freeIds = [] →
        Completes (.admitPartner ag) s (fun t => no .refusedCapacity 0 t ∧ Raised t 471)) ∧
      (∀ i, clean → u.tblFind 2 (sa ++ leBytes 1 port) = none → argBind a2 = none → u.pickId (bits a2 11 0) = some i →
        (u.tblAdd (t2Cmd 1 (sa ++ leBytes 1 port) (t2Res i 1 (bits a3 13 0)))).1 = .ok →
        (u.tb.fence = false → Completes (.admitPartner ag) s (fun t => done .ok i t ∧ t.brg.freeIds = u.brg.freeIds.erase i ∧
          (t.partner i).st = 1 ∧ (t.partner i).port = port ∧ (t.partner i).sa = sa ∧ (t.partner i).join = u.cycle + 1#32 ∧
          t.brg.changes = u.brg.changes ++ [{ pid := i, bind := none, expect := bit a1 19, release := false }] ∧
          t.groupArmed 15 = true)) ∧
        (u.tb.fence = true → Completes (.admitPartner ag) s (fun t => done .delayed i t ∧ (t.partner i).st = 1 ∧
          (t.partner i).join = u.cycle + 2#32 ∧ t.brg.changes = u.brg.changes ∧ t.brg.heldChanges =
            u.brg.heldChanges ++ [{ pid := i, bind := none, expect := bit a1 19, release := false }]))) ∧
      (p = 0 → Completes (.welcome ag) s (no .refusedRange 0) ∧ Completes (.release ag) s (no .refusedRange 0) ∧
        Completes (.bind ag) s (no .refusedRange 0) ∧ Completes (.partnerRead ag) s (no .refusedRange 0)) ∧
      (p ≠ 0 → ¬ joined →
        (bits a0 31 12 = 0 → Completes (.welcome ag) s (no .refusedNotReady 0)) ∧
        (bits a0 15 12 = 0 → bits a0 31 20 = 0 → bits a0 19 16 = 3 ∨ bits a0 19 16 = 5 →
          Completes (.release ag) s (no .refusedNotReady 0)) ∧
        (bits a0 31 12 = 0 → bits a1 31 20 = 0 → bits a1 18 0 = 0 → bits a2 31 25 = 0 →
          Completes (.bind ag) s (no .refusedNotReady 0))) ∧
      (p ≠ 0 → joined → bits a0 15 12 = 0 → bits a0 31 20 = 0 → bits a0 19 16 = 3 ∨ bits a0 19 16 = 5 → u.tb.fence = false →
        Completes (.release ag) s (fun t => done .ok 0 t ∧ (t.partner p).st = 3 ∧ Raised t 470 ∧ t.groupArmed 15 = true ∧
          t.brg.changes = u.brg.changes ++ [{ pid := p, bind := none, expect := false, release := true }])) ∧
      (p ≠ 0 → joined → bits a0 31 12 = 0 → bits a1 31 20 = 0 → bits a1 18 0 = 0 → bits a2 31 25 = 0 → u.tb.fence = false →
        (∀ b, argBind a2 = some b → u.slotTaken b p = false) → Completes (.bind ag) s (fun t => done .ok 0 t ∧
          t.groupArmed 15 = true ∧ t.brg = { u.brg with changes := u.brg.changes ++
            [{ pid := p, bind := argBind a2, expect := bit a1 19, release := false }] })) ∧
      (p ≠ 0 → bits a0 31 12 = 0 → Completes (.partnerRead ag) s (fun t => done .ok 0 t ∧ t.brg = u.brg ∧
        t.reg (agKey ag A.brgDir0) = BitVec.ofNat 32 (p + (u.partner p).st * 0x1000 + (u.partner p).port * 0x4000 +
          b2n (u.partner p).expect * 0x20000 + ((u.partner p).bind.getD (0, 0)).1 * 0x40000 +
          b2n (u.partner p).bind.isSome * 0x400000) ∧
        t.reg (agKey ag A.brgDir1) = BitVec.ofNat 32 (((u.partner p).bind.getD (0, 0)).2 + (u.partner p).oseq * 0x100 +
          (u.partner p).loss * 0x10000))) ∧
      (∀ e e' k sh, p ≠ 0 → bits a0 31 12 = 0 → joined → u.entryOf 0x604 = some e →
        let b := ((u.fresh.2).fresh.2).allocSize e 64 none
        b.1 = .ok → b.2.2.takeTicket 1 = some (k, sh) → b.2.2.entryOf 0x600 = some e' →
        Completes (.welcome ag) s (fun t => done .ok 0 t ∧ ∃ f, t.frame k = some f ∧ f.fr.port = 9 ∧ f.fr.cls = 1 ∧
          f.fr.len = 64 ∧ f.complete = true ∧ f.fr.egress = BitVec.ofNat 16 (2 ^ (u.partner p).port) ∧
          f.fr.buf = BitVec.ofNat 32 b.2.1)))

/-- O38 (tier 2; R368, R369, R377, R378, R385, R399, R400, Table 13-7). An allowed full-duplex link of a lane in service
sets LINK, SPEED and the start of its count and raises the link-up event; half duplex and a rate SPEED forbids set
their bits and raise the fault event. A port whose count has run arms group 19. A link loss takes a port in service
out of it: link and service bits, queues, reception and transmission end, and the event is raised. A PAUSE frame is
counted and raised, and sets or ends the pause where PAUSE_C3 allows; its expiry ends it. PRT_PAUSEQ refuses express
queues. Up to three verify frames go out; then the verification fails; a response activates preemption. Everything
else leaves the port alone. -/
def Obligations.PortsComeUpLeaveAndPause : Prop :=
  ∀ (s : State) (p : Fin 8),
    let stat := A.prtStat p
    let c := s.portCfg p
    let up := s.laneUp p = true ∧ s.pdOn (77 + p.val / 4) = true
    (∀ sp hd, ¬ up → Completes (.portLinkUp p sp hd) s (fun t => t = s)) ∧
    (∀ sp, up → Completes (.portLinkUp p sp true) s (fun t => t.reg stat = setBits (s.reg stat) 7 7 1 ∧ Raised t (prtEvent p 10) ∧
      t.prt = s.prt)) ∧
    (∀ sp, up → c.mode = 1 → c.speed < 3 → c.speed ≠ sp.val → Completes (.portLinkUp p sp false) s (fun t =>
      t.reg stat = setBits (s.reg stat) 8 8 1 ∧ Raised t (prtEvent p 10) ∧ t.prt = s.prt)) ∧
    (∀ sp, up → ¬ (c.mode = 1 ∧ c.speed < 3 ∧ c.speed ≠ sp.val) → Completes (.portLinkUp p sp false) s (fun t =>
      bit (t.reg stat) 0 = true ∧ bits (t.reg stat) 8 7 = 0 ∧ bit (t.reg stat) 1 = bit (s.reg stat) 1 ∧
      bits (t.reg stat) 3 2 = linkSpeed c.mode sp ∧ Raised t (prtEvent p 0) ∧ (t.port p).queues = (s.port p).queues ∧
      (t.port p).upSince = (if bit (s.reg (A.prtCtrl p)) 0 = true then none else some s.time) ∧ (t.port p).verify = 0)) ∧
    (∀ a, (s.port p).upSince = some a → s.inService p = false → (s.port p).returning = false →
      s.pwr.laneWait.contains (77 + p.val / 4) = false → Completes (.portReturnCount p) s (fun t =>
        t.port p = { s.port p with returning := true } ∧ (s.tb.fence = false → t.groupArmed 19 = true))) ∧
    ((s.port p).upSince = none ∨ s.inService p = true ∨ (s.port p).returning = true →
      Completes (.portReturnCount p) s (fun t => t = s)) ∧
    (bit (s.reg stat) 0 = false → Completes (.portLeaveService p) s (fun t => t = s)) ∧
    (bit (s.reg stat) 0 = true → Completes (.portLeaveService p) s (fun t => t.inService p = false ∧ bit (t.reg stat) 0 = false ∧
      (t.port p).queues = [] ∧ (t.port p).sending = none ∧ (t.port p).cut = none ∧ (t.port p).pauseEnd = none ∧
      (s.inService p = true → t.rxList p = [] ∧ Raised t (prtEvent p 1) ∧ Raised t (prtEvent p 12)))) ∧
    (∀ q : BitVec 16, (s.inService p = false → Completes (.pauseReceived p q) s (fun t => t = s)) ∧
      (s.inService p = true → Completes (.pauseReceived p q) s (fun t =>
        t.counter (prtCtr p 7) = s.counter (prtCtr p 7) + 1#64 ∧ Raised t (prtEvent p 7) ∧ t.flt = s.flt ∧ t.mem = s.mem ∧
        (c.pauseC3 = false → t.prt = s.prt) ∧
        (c.pauseC3 = true → q = 0#16 → (t.port p).pauseEnd = none ∧ bit (t.reg stat) 9 = false) ∧
        (c.pauseC3 = true → q ≠ 0#16 → (t.port p).pauseEnd = some (s.time + s.byteTime p (q.toNat * 64)) ∧
          bit (t.reg stat) 9 = true)))) ∧
    ((s.port p).pauseEnd = none → Completes (.pauseExpiry p) s (fun t => t = s)) ∧
    (∀ e, (s.port p).pauseEnd = some e → Completes (.pauseExpiry p) s (fun t =>
      t.port p = { s.port p with pauseEnd := none } ∧ bit (t.reg stat) 9 = false ∧ SameRegsBut s t [stat] ∧ t.mem = s.mem)) ∧
    (∀ ag v, (isBoss ag = false → Completes (.pauseqWrite ag p v) s (RefusedWith s .refusedRights)) ∧
      (isBoss ag = true → s.regOff (A.prtPauseq p) = false →
        (bits v 7 0 &&& s.fld (A.prtExpress p) 7 0 ≠ 0 → Completes (.pauseqWrite ag p v) s (RefusedWith s .refusedRange)) ∧
        (bits v 7 0 &&& s.fld (A.prtExpress p) 7 0 = 0 → Completes (.pauseqWrite ag p v) s (fun t => t.reply.status = .ok ∧
          t.reg (A.prtPauseq p) = BitVec.ofNat 32 (bits v 7 0) ∧ OnlyRegs s t [A.prtPauseq p])))) ∧
    (bits (s.reg stat) 6 5 ≠ 1 → Completes (.verifyFrameSend p) s (fun t => t = s) ∧
      Completes (.verifyResponse p) s (fun t => t = s)) ∧
    (bits (s.reg stat) 6 5 = 1 →
      ((s.port p).verify < 3 → Completes (.verifyFrameSend p) s (fun t =>
        t.port p = { s.port p with verify := (s.port p).verify + 1 } ∧ t.regs = s.regs)) ∧
      (3 ≤ (s.port p).verify → Completes (.verifyFrameSend p) s (fun t => bits (t.reg stat) 6 5 = 3 ∧
        Raised t (prtEvent p 9) ∧ t.prt = s.prt)) ∧
      Completes (.verifyResponse p) s (fun t => bits (t.reg stat) 6 5 = 2 ∧ bit (t.reg stat) 4 = true ∧
        OnlyRegs s t [stat]))

/-- O39 (tier 2; R379, R381, R384, R388, R389, R392, R393, R397, assumption 3). The next gate entry that begins in the
cycle takes effect with its hold operation. An idle port in service starts the head of the highest queue that may
start, 8 byte times later; with none it resumes a cut remainder. A preemptable frame that must give way and has 64
bytes left after its cut is cut. A finished frame appears on the wire with its FCS, inverted for a stomped one, and is
counted. A pop of a stamp FIFO removes and answers its oldest record. A free MDIO bus takes a command and reads busy;
a busy one refuses with its overrun bit; the end of a read leaves the data, and raises its event. -/
def Obligations.GatesSendFramesStampsAndMdio : Prop :=
  (∀ (s : State) (p : Fin 8),
    let k := s.gclEntry p + 1
    (s.tb.cycRun = false ∨ s.gclLen p ≤ k ∨ s.tb.cycLen ≤ s.gclBegin p k →
      Completes (.gateEntryBegin p) s (fun t => t = s)) ∧
    (s.tb.cycRun = true → k < s.gclLen p → s.gclBegin p k < s.tb.cycLen → k < 128 → Completes (.gateEntryBegin p) s (fun t =>
      t.gclEntry p = k ∧ SameRegsBut s t [A.prtStat p] ∧ (t.port p).queues = (s.port p).queues ∧
      (t.port p).hold = (if bits (s.reg (gclAddr p k)) 9 8 = 1 then true
        else if bits (s.reg (gclAddr p k)) 9 8 = 2 then false else (s.port p).hold))) ∧
    (s.inService p = false ∨ (s.port p).sending.isSome = true → Completes (.egressFrameStart p) s (fun t => t = s)) ∧
    (s.inService p = true → (s.port p).sending = none →
      let u := s.gateDrop p
      let pick := [7, 6, 5, 4, 3, 2, 1, 0].find? (fun q => u.mayStart p q)
      let t0 := u.time + u.byteTime p 8
      (∀ q e rest x, pick = some q → (u.port p).queue q = e :: rest → u.egFrame e = some x →
        Completes (.egressFrameStart p) s (fun t =>
          (t.port p).sending = some { eg := e, queue := q, t0 := t0, first := t0, sent := 0 } ∧ (t.port p).queue q = rest ∧
          (∀ j, j ≠ q → (t.port p).queue j = (u.port p).queue j) ∧
          t.egFrame e = some { x with begun := x.begun ||| (1#16 <<< p.val) })) ∧
      (pick = none → (u.port p).cut = none → Completes (.egressFrameStart p) s (fun t => t = u)) ∧
      (∀ g, pick = none → (u.port p).cut = some g → u.gateOpen p g.queue = true → (u.port p).hold = false →
        Completes (.egressFrameStart p) s (fun t => (t.port p).sending = some { g with t0 := t0 } ∧ (t.port p).cut = none ∧
          t.counter (prtCtr p 13) = u.counter (prtCtr p 13) + 1#64))) ∧
    ((s.port p).sending = none → Completes (.fragmentPreempt p) s (fun t => t = s) ∧
      Completes (.egressFrameSent p) s (fun t => t = s)) ∧
    (∀ g x, (s.port p).sending = some g → s.egFrame g.eg = some x →
      let n := max 60 (s.bytesBy p g.t0 s.time)
      (s.isExpress p g.queue = true ∨ s.mustYield p g = false ∨ x.len < g.sent + n + 64 →
        Completes (.fragmentPreempt p) s (fun t => t = s)) ∧
      (s.isExpress p g.queue = false → s.mustYield p g = true → g.sent + n + 64 ≤ x.len →
        Completes (.fragmentPreempt p) s (fun t =>
          t.port p = { s.port p with sending := none, cut := some { g with sent := g.sent + n } } ∧ t.flt = s.flt ∧ t.regs = s.regs ∧ t.mem = s.mem)) ∧
      (x.ticket = none → Completes (.egressFrameSent p) s (fun t => (t.port p).sending = none ∧
        (let body := s.bufRead x.buf 0 (x.len - 4)
         let fcs := leBytes 4 (if x.stomp = true then ~~~ fcs32 body else fcs32 body).toNat
         t.flt.sent = s.flt.sent ++ [{ port := p, bytes := body ++ fcs, good := !x.stomp }]) ∧
        t.counter (prtCtr p 10) = s.counter (prtCtr p 10) + 1#64 ∧
        t.counter (prtCtr p 11) = s.counter (prtCtr p 11) + BitVec.ofNat 64 x.len ∧
        t.counter (prtCtr p 12) = s.counter (prtCtr p 12) + (if x.stomp = true then 1#64 else 0#64))))) ∧
  (∀ (s : State) (ag : Agent) (p : Fin 9),
    (s.reaches ag 0x0B = false → Completes (.tspop ag p) s (RefusedWith s .refusedRights)) ∧
    (s.reaches ag 0x0B = true → Completes (.tspop ag p) s (fun t =>
      let r := (s.port p).stamps.headD [0#32, 0#32, 0#32, 0#32]
      t.reply.status = .ok ∧ t.reply.value = (nth r 0 0#32).setWidth 64 ∧ t.reg (agKey ag (A.prtTspop1 p)) = nth r 1 0#32 ∧
      t.reg (agKey ag (A.prtTspop2 p)) = nth r 2 0#32 ∧ t.reg (agKey ag (A.prtTspop3 p)) = nth r 3 0#32 ∧
      t.port p = { s.port p with stamps := (s.port p).stamps.tail } ∧ t.mem = s.mem))) ∧
  (∀ (s : State) (ag : Agent) (b : Fin 2) (phy reg : BitVec 5) (cl tk : Bool) (data : BitVec 16),
    let word := fun (op : Nat) (c : Bool) (d : BitVec 16) => BitVec.ofNat 32
      (phy.toNat + reg.toNat * 0x20 + op * 0x400 + b2n c * 0x1000 + b2n tk * 0x2000 + d.toNat * 0x10000)
    let outcome := fun (v : W32) (t : State) =>
      (s.reaches ag 0x0B = false → RefusedWith s .refusedRights t) ∧
      (s.reaches ag 0x0B = true → bit (s.reg (A.prtMdioStat b)) 16 = true → t.reply.status = .refusedNotReady ∧
        t.reg (A.prtMdioStat b) = setBits (s.reg (A.prtMdioStat b)) 17 17 1 ∧ OnlyRegs s t [A.prtMdioStat b]) ∧
      (s.reaches ag 0x0B = true → bit (s.reg (A.prtMdioStat b)) 16 = false → t.reply.status = .ok ∧
        t.reg (A.prtMdioStat b) = setBits (s.reg (A.prtMdioStat b)) 16 16 1 ∧
        SMap.get (fun _ => none) t.prt.mdio b.val = some { cmd := v } ∧ SameRegsBut s t [A.prtMdioStat b] ∧ t.mem = s.mem)
    Completes (.mdioWrite ag b phy reg cl tk data) s (outcome (word 1 cl data)) ∧
    Completes (.mdioRead ag b phy reg cl tk) s (outcome (word 2 cl 0#16)) ∧
    Completes (.mdioAddress ag b phy reg tk data) s (outcome (word 0 true data)) ∧
    Completes (.mdioReadIncrement ag b phy reg tk) s (outcome (word 3 true 0#16)) ∧
    (SMap.get (fun _ => none) s.prt.mdio b.val = none → Completes (.mdioComplete b data) s (fun t => t = s)) ∧
    (∀ m, SMap.get (fun _ => none) s.prt.mdio b.val = some m → Completes (.mdioComplete b data) s (fun t =>
      bit (t.reg (A.prtMdioStat b)) 16 = false ∧ SMap.get (fun _ => none) t.prt.mdio b.val = none ∧ Raised t (prtEvent b 8) ∧
      (mdioReads m.cmd = true → bits (t.reg (A.prtMdioStat b)) 15 0 = data.toNat) ∧
      (mdioReads m.cmd = false → bits (t.reg (A.prtMdioStat b)) 15 0 = bits (s.reg (A.prtMdioStat b)) 15 0) ∧ t.mem = s.mem)))

/-- O40 (tier 2; R402, R408, R412, R413, R414, R417, R418, R419, R427, R428, R431, assumption 12). The request a channel
chooses leaves its queue, becomes active and opens its row, and a waiting one enters; in CLASS mode no startable
request has a lower class than the chosen one. The oldest active request completes and is counted; a single-bit error
of an ECC read is counted, an uncorrectable one poisons its granule and faults the held load. At its age limit a
request is promoted once. A bank without requests is refreshed and closed, one with requests owes a refresh, and at a
debt of 8 it is refreshed by force. MR4 sets the refresh rate and its events, a calibration is latched or discarded,
and the scrub reads granule after granule of the ECC regions. -/
def Obligations.DramRequestsRefreshAndScrub : Prop :=
  ∀ (s : State) (x : Fin 2),
    let h := s.ch x
    (s.pickRequest x = none → Completes (.dramRequestStart x) s (fun t => t = s)) ∧
    (∀ r, s.pickRequest x = some r →
      (bit (s.reg (A.drcCtrl x)) 0 = true → ∀ y, y ∈ s.startable x [] h.queue → r.effClass ≤ y.effClass) ∧
      Completes (.dramRequestStart x) s (fun t => (t.ch x).queue = h.queue.erase r ++ h.waiting.take 1 ∧
        (t.ch x).waiting = h.waiting.drop 1 ∧ (t.ch x).active = h.active ++ [r] ∧ t.mem = s.mem ∧
        SMap.get (fun _ => none) (t.ch x).rows (s.bankOf x r.addr) = some (s.rowOf x r.addr) ∧ SameRegsBut s t [A.drcStat x] ∧
        t.counter (drcCtr x 2) = s.counter (drcCtr x 2) + (if s.rowHit x r = true then 1#64 else 0#64))) ∧
    (∀ ecc : Fin 3, (h.active = [] → Completes (.dramRequestComplete x ecc) s (fun t => t = s)) ∧
      (∀ r rest, h.active = r :: rest → Completes (.dramRequestComplete x ecc) s (fun t =>
        let checked := r.write = false ∧ s.eccAt x r.addr = true
        (t.ch x).active = rest ∧ (t.ch x).queue = h.queue ∧ t.mem = s.mem ∧
        t.counter (drcCtr x (if r.write then 1 else 0)) = s.counter (drcCtr x (if r.write then 1 else 0)) + 1#64 ∧
        (¬ (checked ∧ ecc = 2) → (t.ch x).poison = h.poison ∧ t.slots = s.slots) ∧
        (checked → ecc = 1 → t.counter (drcCtr x 5) = s.counter (drcCtr x 5) + 1#64) ∧
        (checked → ecc = 2 → r.addr / 8 * 8 ∈ (t.ch x).poison ∧ Raised t (drcEvent x 3) ∧
          t.reg (A.drcPoison x) = BitVec.ofNat 32 (r.addr / 8) ∧
          ∀ w hd, agentSlot r.agent = some w → (s.slot w).held = some hd →
            (t.slot w).held = some { hd with poisoned := true })))) ∧
    (∀ k : Fin 64, (h.queue[k.val]? = none → Completes (.requestPromotion x k) s (fun t => t = s)) ∧
      (∀ r, h.queue[k.val]? = some r →
        (bit (s.reg (A.drcCtrl x)) 0 = false ∨ r.cls = 0 ∨ r.promoted = true →
          Completes (.requestPromotion x k) s (fun t => t = s)) ∧
        (bit (s.reg (A.drcCtrl x)) 0 = true → r.cls ≠ 0 → r.promoted = false → Completes (.requestPromotion x k) s (fun t =>
          (t.ch x).queue = h.queue.set k { r with promoted := true } ∧ t.mem = s.mem ∧
            t.counter (drcCtr x 3) = s.counter (drcCtr x 3) + 1#64)))) ∧
    (∀ b : Fin 16,
      let d := SMap.get (fun _ => 0) h.debt b.val
      let refreshed := fun (t : State) => SMap.get (fun _ => 0) (t.ch x).debt b.val = d - 1 ∧
        SMap.get (fun _ => none) (t.ch x).rows b.val = none ∧ (t.ch x).queue = h.queue ∧ t.mem = s.mem
      ((∃ r, r ∈ h.queue ∧ s.bankOf x r.addr = b.val) → Completes (.refreshPerBank x b) s (fun t =>
        SMap.get (fun _ => 0) (t.ch x).debt b.val = min 8 (d + 1) ∧ (t.ch x).rows = h.rows ∧ t.regs = s.regs ∧ t.mem = s.mem)) ∧
      ((∀ r, r ∈ h.queue → s.bankOf x r.addr ≠ b.val) → Completes (.refreshPerBank x b) s (fun t =>
        refreshed t ∧ t.regs = s.regs)) ∧
      (d < 8 → Completes (.forcedRefresh x b) s (fun t => t = s)) ∧
      (8 ≤ d → Completes (.forcedRefresh x b) s (fun t => refreshed t ∧
        t.counter (drcCtr x 4) = s.counter (drcCtr x 4) + 1#64))) ∧
    (∀ (rate : Fin 3) (hot : Bool), Completes (.mr4Poll x rate hot) s (fun t =>
      bits (t.reg (A.drcStat x)) 12 11 = (if hot = true then 2 else rate.val) ∧ t.drc = s.drc ∧ t.mem = s.mem ∧
      (bits (s.reg (A.drcStat x)) 12 11 ≠ (if hot = true then 2 else rate.val) → Raised t (drcEvent x 6)) ∧
      (hot = true → Raised t (drcEvent x 7)))) ∧
    (s.chInService x = false → Completes (.zqCalibrationStart x) s (fun t => t = s)) ∧
    (s.chInService x = true → Completes (.zqCalibrationStart x) s (fun t => t.ch x = { h with zq := true } ∧ t.regs = s.regs)) ∧
    (∀ ok : Bool, (h.zq = false → Completes (.zqLatch x ok) s (fun t => t = s)) ∧
      (h.zq = true → Completes (.zqLatch x ok) s (fun t => t.ch x = { h with zq := false } ∧
        (ok = false → Raised t (drcEvent x 13)) ∧ (ok = true → t.regs = s.regs)))) ∧
    (∀ ecc : Fin 3,
      (bit (s.reg (A.drcScrub x)) 0 = false ∨ s.chInService x = false → Completes (.scrubRead x ecc) s (fun t => t = s)) ∧
      (bit (s.reg (A.drcScrub x)) 0 = true → s.chInService x = true →
        (eccByte x s.shp.memory.dregions h.scrubPos = none → Completes (.scrubRead x ecc) s (fun t =>
          t.ch x = { h with scrubPos := 0 } ∧ t.regs = s.regs)) ∧
        (∀ c, eccByte x s.shp.memory.dregions h.scrubPos = some c → Completes (.scrubRead x ecc) s (fun t =>
          (t.ch x).scrubPos = h.scrubPos + 8 ∧ t.mem = s.mem ∧
          (ecc = 0 → t.regs = s.regs ∧ (t.ch x).poison = h.poison) ∧
          (ecc = 1 → t.counter (drcCtr x 5) = s.counter (drcCtr x 5) + 1#64 ∧ (t.ch x).poison = h.poison) ∧
          (ecc = 2 → c / 8 * 8 ∈ (t.ch x).poison ∧ Raised t (drcEvent x 3) ∧
            t.reg (A.drcPoison x) = BitVec.ofNat 32 (c / 8))))))

/-- O41 (tier 2; R420, R421, R422, R423, R424, R425, R430). An idle ACTIVE channel enters SR_AUTO and a request wakes it.
CMD ENTER is refused to others than the manager and warden slots, on a channel with the context store, with a secure
region in the mask, and in other states; accepted, it takes the channel out of service with its mask. Once it has
drained it is SR_HELD: each masked segment has a new content and each region in the mask is marked lost. CMD EXIT is
accepted in SR_HELD only; at its end the channel is in service, FILLING while lost ECC regions are filled. The end of
a fill leaves every byte of its region zero without poison, and the last one makes the channel ACTIVE. -/
def Obligations.DramSelfRefreshAndFills : Prop :=
  ∀ (s : State) (x : Fin 2),
    let h := s.ch x
    let sr := A.drcSr x
    let idle := bits (s.reg (A.drcCtrl x)) 31 16
    (s.chState x = 1 → h.queue = [] → h.active = [] → idle ≠ 0xFFFF → Completes (.selfRefreshAutoEntry x) s (fun t =>
      t.chState x = 2 ∧ t.drc = s.drc ∧ Raised t (drcEvent x 8))) ∧
    (s.chState x ≠ 1 ∨ h.queue ≠ [] ∨ h.active ≠ [] ∨ idle = 0xFFFF →
      Completes (.selfRefreshAutoEntry x) s (fun t => t = s)) ∧
    (s.chState x = 2 → h.queue ≠ [] → Completes (.selfRefreshExit x) s (fun t =>
      t.ch x = { h with exiting := true } ∧ t.regs = s.regs ∧ t.mem = s.mem)) ∧
    (s.chState x ≠ 2 → Completes (.selfRefreshExit x) s (fun t => t = s) ∧ Completes (.srAutoExitComplete x) s (fun t => t = s)) ∧
    (s.chState x = 2 → h.exiting = true → Completes (.srAutoExitComplete x) s (fun t => t.chState x = 1 ∧
      t.ch x = { h with exiting := false, debt := [] } ∧ Raised t (drcEvent x 9))) ∧
    (∀ (ag : Agent) (mask : BitVec 16),
      (isBoss ag = false → Completes (.srEnter ag x mask) s (RefusedWith s .refusedRights) ∧
        Completes (.srExit ag x) s (RefusedWith s .refusedRights)) ∧
      (isBoss ag = true → s.regOff sr = true → Completes (.srEnter ag x mask) s (RefusedWith s .refusedNotReady)) ∧
      (isBoss ag = true → s.regOff sr = false →
        let held := s.shp.memory.dregions
        let no := fun (st : Status) (t : State) => t.reply.status = st ∧ bits (t.reg sr) 31 24 = st.code ∧ OnlyRegs s t [sr]
        ((∃ r, r ∈ held ∧ r.kind = 1 ∧ r.channel = x) → Completes (.srEnter ag x mask) s (no .refusedRights)) ∧
        ((∀ r, r ∈ held → ¬ (r.kind = 1 ∧ r.channel = x)) →
          ((∃ r, r ∈ held ∧ r.secure = true ∧ s.regionMasked x mask.toNat r = true) →
            Completes (.srEnter ag x mask) s (no .refusedSecure)) ∧
          ((∀ r, r ∈ held → r.secure = false ∨ s.regionMasked x mask.toNat r = false) →
            (s.chState x ≠ 1 → s.chState x ≠ 2 → Completes (.srEnter ag x mask) s (no .refusedNotReady)) ∧
            (s.chState x = 1 ∨ s.chState x = 2 → Completes (.srEnter ag x mask) s (fun t => t.reply.status = .ok ∧
              t.ch x = { h with entering := true, mask := mask.toNat } ∧ t.chInService x = false ∧
              bits (t.reg sr) 23 8 = mask.toNat ∧ bits (t.reg sr) 31 24 = 0 ∧ Raised t (drcEvent x 1) ∧ t.mem = s.mem)))) ∧
        (s.chState x ≠ 3 → Completes (.srExit ag x) s (no .refusedNotReady)) ∧
        (s.chState x = 3 → Completes (.srExit ag x) s (fun t => t.reply.status = .ok ∧ t.ch x = { h with exiting := true } ∧
          bits (t.reg sr) 31 24 = 0 ∧ SameRegsBut s t [sr])))) ∧
    (h.entering = false ∨ h.queue ≠ [] ∨ h.active ≠ [] → Completes (.srHeldEntered x) s (fun t => t = s)) ∧
    (h.entering = true → h.queue = [] → h.active = [] → Completes (.srHeldEntered x) s (fun t =>
      t.chState x = 3 ∧ (t.ch x).entering = false ∧ Raised t (drcEvent x 8) ∧
      (∀ g, g < 16 → SMap.get (fun _ => 0) (t.ch x).epoch g =
        SMap.get (fun _ => 0) h.epoch g + (if h.mask.testBit g = true then 1 else 0)) ∧
      (∀ (i : Nat) (r : DRegion), i < 32 → s.shp.memory.dregions[i]? = some r → s.regionMasked x h.mask r = true →
        bit (t.reg A.drcLost) i = true ∧ Raised t (drcEvent x 10)))) ∧
    (s.chState x ≠ 3 ∨ h.exiting = false → Completes (.srExitComplete x) s (fun t => t = s)) ∧
    (s.chState x = 3 → h.exiting = true → s.regOff sr = false → Completes (.srExitComplete x) s (fun t =>
      t.chInService x = true ∧ (t.ch x).exiting = false ∧ (t.ch x).debt = [] ∧ Raised t (drcEvent x 9) ∧ t.mem = s.mem ∧
      (∀ (i : Nat) (r : DRegion), s.shp.memory.dregions[i]? = some r → r.ecc = true → s.regionMasked x h.mask r = true →
        i ∈ (t.ch x).fills) ∧
      t.chState x = (if (t.ch x).fills = [] then 1 else 4))) ∧
    (∀ (r : Fin 32), (r.val ∉ h.fills → Completes (.zeroFillComplete x r) s (fun t => t = s)) ∧
      (∀ d, r.val ∈ h.fills → s.shp.memory.dregions[r.val]? = some d → Completes (.zeroFillComplete x r) s (fun t =>
        (∀ c, d.base * 0x100000 ≤ c → c < d.base * 0x100000 + d.bytes → t.readByte (t.dramKey x c) = 0#8) ∧
        (∀ g, g ∈ (t.ch x).poison → g ∈ h.poison) ∧ (t.ch x).fills = h.fills.erase r.val ∧
        (h.fills.erase r.val = [] → Raised t (drcEvent x 11) ∧ (s.chState x = 4 → t.chState x = 1)))))

/-- O42 (tier 2; R437). A claim of a free semaphore by an agent with the right takes it with its tag, answering OK or
ABANDONED; of its own it answers OK and changes nothing; of a held one NOT_READY; without the right it is refused,
with EV548 for a secure group. Only the owner releases, which clears the semaphore and its tag, and acknowledges,
which clears ABANDONED and LAST; anyone else gets REFUSED_RIGHTS and changes nothing. The group's master frees a held
one as ABANDONED with LAST and EV546; a free one answers NOT_READY. A group write by the master changes POUNDS and
POLICY only. -/
def Obligations.SemaphoresAreClaimedReleasedAndForced : Prop :=
  ∀ (s : State) (ag : Agent) (n : Fin 512),
    let w := s.reg (A.sauSem n)
    let tag := s.reg (A.sauTag n)
    let right := s.groupRight ag (n / 16)
    (∀ v : W32,
      (s.reaches ag 0x0D = false → isHardware ag = false →
        Completes (.semaphoreClaim ag n v) s (RefusedWith s (reachStatus s ag))) ∧
      (s.reaches ag 0x0D = true ∨ isHardware ag = true →
        (right ≠ .ok → Completes (.semaphoreClaim ag n v) s (fun t => RefusedWith s right t ∧ t.reg (A.sauSem n) = w ∧
          (right = .refusedSecure → Raised t 548))) ∧
        (right = .ok →
          (s.semOwner n = 0 → s.semDead n = false → Completes (.semaphoreClaim ag n v) s (fun t =>
            t.reply.status = (if bit w 12 = true then .abandoned else .ok) ∧ t.reg (A.sauSem n) = setBits w 11 0 ag.toNat ∧
            t.reg (A.sauTag n) = setBits tag 15 0 (bits v 15 0) ∧ t.counter 0xD2900 = s.counter 0xD2900 + 1#64)) ∧
          (s.semOwned ag n = true → ag ≠ 0#12 → Completes (.semaphoreClaim ag n v) s (fun t => t.reply.status = .ok ∧
            OnlyReply s t)) ∧
          (¬ (s.semOwner n = 0 ∧ s.semDead n = false) → s.semOwned ag n = false →
            Completes (.semaphoreClaim ag n v) s (fun t => t.reply.status = .refusedNotReady ∧ t.regs = s.regs ∧
              t.counter 0xD2908 = s.counter 0xD2908 + 1#64))))) ∧
    (s.semOwned ag n = true →
      Completes (.semaphoreRelease ag n) s (fun t => t.reply.status = .ok ∧ t.reg (A.sauSem n) = 0#32 ∧
        t.reg (A.sauTag n) = 0#32 ∧ t.mem = s.mem ∧ t.slots = s.slots) ∧
      Completes (.semaphoreAcknowledge ag n) s (fun t => t.reply.status = .ok ∧
        t.reg (A.sauSem n) = BitVec.ofNat 32 ag.toNat ∧ t.reg (A.sauTag n) = setBits tag 31 16 0 ∧ t.mem = s.mem)) ∧
    (s.semOwned ag n = false → Completes (.semaphoreRelease ag n) s (RefusedWith s .refusedRights) ∧
      Completes (.semaphoreAcknowledge ag n) s (RefusedWith s .refusedRights)) ∧
    (s.groupMaster ag (n / 16) = false → Completes (.forceRelease ag n) s (fun t => t.reply.status = .refusedRights ∧
      bits (t.reg A.sauForce) 31 24 = Status.refusedRights.code ∧ t.reg (A.sauSem n) = w ∧ t.reg (A.sauTag n) = tag)) ∧
    (s.groupMaster ag (n / 16) = true →
      (s.semOwner n = 0 → Completes (.forceRelease ag n) s (fun t => t.reply.status = .refusedNotReady ∧
        OnlyRegs s t [A.sauForce] ∧ bits (t.reg A.sauForce) 31 24 = Status.refusedNotReady.code)) ∧
      (s.semOwner n ≠ 0 → Completes (.forceRelease ag n) s (fun t => t.reply.status = .ok ∧ Raised t 546 ∧
        t.reg (A.sauSem n) = BitVec.ofNat 32 (0x1000 + s.semOwner n * 0x10000) ∧
        t.reg (A.sauTag n) = BitVec.ofNat 32 (bits tag 15 0 * 0x10000) ∧ bits (t.reg A.sauForce) 31 24 = 0))) ∧
    (∀ (g : Fin 32) (v : W32),
      (s.groupMaster ag g = false → Completes (.groupWrite ag g v) s (RefusedWith s .refusedRights)) ∧
      (s.groupMaster ag g = true → Completes (.groupWrite ag g v) s (fun t => t.reply.status = .ok ∧
        OnlyRegs s t [A.sauGrp g] ∧ bits (t.reg (A.sauGrp g)) 15 0 = bits v 15 0 ∧ bit (t.reg (A.sauGrp g)) 21 = bit v 21 ∧
        bits (t.reg (A.sauGrp g)) 20 16 = bits (s.reg (A.sauGrp g)) 20 16 ∧
        bits (t.reg (A.sauGrp g)) 31 22 = bits (s.reg (A.sauGrp g)) 31 22)))

/-- O43 (tier 2; R448, R449, R451, R452, R453, Table 15-4). An arm that passes its checks writes the slot's fields with
ARM and its owner; where the condition already holds it fires at once: ARM is cleared, FIRED set, its token posted. A
refused arm leaves its status in WSTAT and the slot as it was. A disarm clears ARM, but not of a slot armed by another
agent. A refused watch token is posted again; its first retry raises EV549. For the manager and a tenant, each host
atomic on an aligned target it may use leaves Table 15-4's new value there, the old one in SAU_ARES and OK; a FUNC and
SIZE of no operation and a target out of reach answer REFUSED_RANGE in SAU_ASTAT and change no memory. -/
def Obligations.WatchSlotsAndHostAtomics : Prop :=
  (∀ (s : State) (ag : Agent) (k : Fin 64) (v : W32),
    let ctl := A.sauWctl k
    let stat := A.sauWstat k
    let st := s.watchArmStatus ag k v
    let x := s.watchTarget k
    let holds := (bits v 17 16 = 0 ∧ bits x 11 0 = 0) ∨ (bits v 17 16 = 2 ∧ x = s.reg (A.sauWval k))
    (s.reaches ag 0x0D = false → Completes (.watchArm ag k v) s (RefusedWith s (reachStatus s ag)) ∧
      Completes (.watchDisarm ag k v) s (RefusedWith s (reachStatus s ag))) ∧
    (s.reaches ag 0x0D = true →
      (st ≠ .ok → Completes (.watchArm ag k v) s (fun t => t.reply.status = st ∧ bits (t.reg stat) 31 24 = st.code ∧
        t.reg ctl = s.reg ctl ∧ t.mem = s.mem ∧ t.sau = s.sau)) ∧
      (st = .ok → ¬ holds → Completes (.watchArm ag k v) s (fun t => t.reply.status = .ok ∧ OnlyRegs s t [ctl, stat] ∧
        t.reg ctl = BitVec.ofNat 32 (bits v 19 0 + 0x80000000) ∧ bits (t.reg stat) 11 0 = ag.toNat ∧
        bits (t.reg stat) 31 24 = 0)) ∧
      (st = .ok → holds → Completes (.watchArm ag k v) s (fun t => t.reply.status = .ok ∧ t.mem = s.mem ∧
        bit (t.reg ctl) 31 = false ∧ bit (t.reg (A.sauWfired (k / 32))) (k % 32) = true ∧
        t.counter 0xD2918 = s.counter 0xD2918 + 1#64 ∧
        (bit v 18 = true → isPostable (bits v 15 0) = true → s.entryFree (bits v 15 0) = true → Unwanted s (bits v 15 0) →
          Queued s t (bits v 15 0) { value := x, status := .ok, turn := false }) ∧
        (bit v 19 = true → Raised t (552 + k / 8)))) ∧
      (bit (s.reg ctl) 31 = true → bits (s.reg stat) 11 0 ≠ ag.toNat → isBoss ag = false →
        Completes (.watchDisarm ag k v) s (fun t => t.reply.status = .refusedNotReady ∧ OnlyRegs s t [stat])) ∧
      (bit (s.reg ctl) 31 = false ∨ bits (s.reg stat) 11 0 = ag.toNat ∨ isBoss ag = true →
        Completes (.watchDisarm ag k v) s (fun t => t.reply.status = .ok ∧ OnlyRegs s t [ctl] ∧
          t.reg ctl = BitVec.ofNat 32 (bits v 19 0))))) ∧
  (∀ s : State,
    (s.sau.retry = [] → Completes .watchTokenRetry s (fun t => t = s)) ∧
    (∀ r, s.sau.retry = [r] → isPostable r.tag = true →
      (s.entryFree r.tag = false → Completes .watchTokenRetry s (fun t => t.sau.retry = [{ r with retried := true }] ∧
        (r.retried = false → Raised t 549))) ∧
      (s.entryFree r.tag = true → Unwanted s r.tag → Completes .watchTokenRetry s (fun t => t.sau.retry = [] ∧
        Queued s t r.tag { value := r.value, status := r.status, turn := false } ∧ (r.retried = false → Raised t 549))))) ∧
  (∀ (s : State) (ag : Agent) (size : BitVec 2), isHost ag = true → isTenant ag = false ∨ s.tenantCreated (ag.toNat - 0x400) = true →
    let n := 4 * 2 ^ size.toNat
    let x := s.agWords ag A.sauAopd 0 (n / 4)
    let c := s.agWords ag A.sauAopd 2 (min 2 (n / 4))
    let sgn := sextNat (8 * n)
    let refused := fun (t : State) => t.reply.status = .refusedRange ∧ t.mem = s.mem ∧
      t.reg (agKey ag A.sauAstat) = BitVec.ofNat 32 Status.refusedRange.code
    let done := fun (i : Instr) (sized : Prop) (new : Nat → Nat) (stored : Nat → Prop) =>
      (¬ sized → Completes i s refused) ∧
      (sized → s.atomicTarget ag n = none → Completes i s refused) ∧
      (∀ a, sized → s.atomicTarget ag n = some (none, a) → s.sramLocked a n = false →
        let old := s.readLE (kShared + a) n
        Completes i s (fun t => t.reply.status = .ok ∧ t.readLE (kShared + a) n = new old ∧
          SameMemoryBut s t (kShared + a) n ∧ t.agWords ag A.sauAres 0 (n / 4) = old ∧
          (bit (t.reg (agKey ag A.sauAstat)) 8 = true ↔ stored old) ∧ t.counter 0xD2920 = s.counter 0xD2920 + 1#64)) ∧
      (∀ k a, sized → s.atomicTarget ag n = some (some k, a) →
        (s.poisoned k a n = true → Completes i s refused) ∧
        (s.poisoned k a n = false →
          let old := leNat (s.dramRead k a n)
          Completes i s (fun t => t.reply.status = .ok ∧ leNat (t.dramRead k a n) = new old ∧
            t.agWords ag A.sauAres 0 (n / 4) = old ∧ (bit (t.reg (agKey ag A.sauAstat)) 8 = true ↔ stored old))))
    let word := size.toNat < 2
    done (.hostAtomicFadd ag size) word (fun m => (m + x) % 2 ^ (8 * n)) (fun _ => False) ∧
    done (.hostAtomicSwap ag size) word (fun _ => x) (fun _ => False) ∧
    done (.hostAtomicCas ag size) word (fun m => if m = c then x else m) (fun m => m = c) ∧
    done (.hostAtomicMin ag size) word (fun m => if sgn x < sgn m then x else m) (fun _ => False) ∧
    done (.hostAtomicMax ag size) word (fun m => if sgn m < sgn x then x else m) (fun _ => False) ∧
    done (.hostAtomicMinu ag size) word (fun m => min m x) (fun _ => False) ∧
    done (.hostAtomicMaxu ag size) word (fun m => max m x) (fun _ => False) ∧
    done (.hostAtomicWadd ag size) (size = 2#2) (fun m => (m + x) % 2 ^ (8 * n)) (fun _ => False))

/-- O44 (tier 2; R456, R459, R460, R463, R464, R465, R466, R470, R481, R484, R485, Table 16-5). With Memory Space Enable 0
a BAR2 access is an Unsupported Request. An access inside one window reads or writes shared SRAM or DRAM, or reads all
ones and drops writes. TNT_MDB beyond the ring is refused; a failed entry read stops the mailbox with EV577. With no
entry ready a mailbox command does nothing, a malformed entry is refused. TENANT_CREATE, TENANT_RESET and its
completion, TENANT_DESTROY, HOSTWIN_SET, QP_CREATE, QP_DESTROY, STATUS and NOP have their effects or answer the stated
refusal, each in bytes 0x30 on of its entry with its SEQ, while HEAD moves on; no other byte of memory changes. A
tenant's own reset needs its key. -/
def Obligations.Bar2AndTheMailboxServeTheManager : Prop :=
  (∀ (s : State) (off : BitVec 28) (n : Fin 9) (bytes : List Byte),
    let space := (s.bar2Target off.toNat).1
    let a := (s.bar2Target off.toNat).2
    let fits := fun (k : Nat) (write : Bool) => ∀ i, i < k → s.bar2Ok space (a + i) write = true
    let unsupported := fun (t : State) => OnlyReply s t ∧ t.reply.unsupported = true
    (s.tnt.memSpace = false → Completes (.bar2Read off n) s unsupported ∧ Completes (.bar2Write off bytes) s unsupported) ∧
    (s.tnt.memSpace = true → off.toNat % 0x1000000 + n.val ≤ 0x1000000 → 0 < n.val →
      (fits n false → space = 1 → Completes (.bar2Read off n) s (fun t =>
        t.reply.value = BitVec.ofNat 64 (s.readLE (kShared + a) n) ∧ OnlyReply s t)) ∧
      (fits n false → space = 2 ∨ space = 3 → Completes (.bar2Read off n) s (fun t =>
        t.reply.value = BitVec.ofNat 64 (leNat (s.dramRead (space - 2) a n)) ∧ t.mem = s.mem)) ∧
      (¬ fits n false → Completes (.bar2Read off n) s (fun t =>
        t.reply.value = BitVec.ofNat 64 (256 ^ n.val - 1) ∧ t.mem = s.mem))) ∧
    (s.tnt.memSpace = true → off.toNat % 0x1000000 + bytes.length ≤ 0x1000000 → bytes ≠ [] →
      (fits bytes.length true → space = 1 → s.sramLocked a bytes.length = false → Completes (.bar2Write off bytes) s (fun t =>
        t.readBytes (kShared + a) bytes.length = bytes ∧ SameMemoryBut s t (kShared + a) bytes.length)) ∧
      (¬ fits bytes.length true → Completes (.bar2Write off bytes) s (fun t => t.mem = s.mem ∧ t.drc = s.drc)))) ∧
  (∀ (s : State) (v : W32),
    (s.tnt.flr = true → Completes (.mailboxDoorbell v) s (fun t => t = s)) ∧
    (s.tnt.flr = false →
      (s.mboxSize ≤ bits v 7 0 → Completes (.mailboxDoorbell v) s (RefusedWith s .refusedRange)) ∧
      (bits v 7 0 < s.mboxSize → Completes (.mailboxDoorbell v) s (fun t => t.reply.status = .ok ∧ t.tnt.stopped = false ∧
        bits (t.reg A.tntMdb) 7 0 = bits v 7 0 ∧ SameRegsBut s t [A.tntMdb] ∧ t.mem = s.mem)))) ∧
  (∀ (s : State) (i : Instr) (op : Nat), (i, op) ∈ [(Instr.mailboxNop, 1), (Instr.tenantCreate, 2), (Instr.tenantReset, 3),
      (Instr.tenantDestroy, 4), (Instr.hostwinSet, 5), (Instr.qpCreate, 6), (Instr.qpDestroy, 7), (Instr.mailboxStatus, 8)] →
    (s.mboxKey = none → Completes i s (fun t => t = s)) ∧
    (∀ k, s.mboxKey = some k → s.readLE k 1 = op → s.entryBad k = true → Completes i s (fun t => t.tnt.tenants = s.tnt.tenants ∧
      t.readByte (k + 0x32) = BitVec.ofNat 8 Status.refusedRange.code ∧ SameMemoryBut s t (k + 0x30) 16))) ∧
  (∀ (s : State) (k : Nat), s.mboxKey = some k →
    (∀ late : Bool, Completes (.mailboxEntryReadFail late) s (fun t => t.tnt.stopped = true ∧ Raised t 577 ∧ t.mem = s.mem ∧
      bits (t.reg A.tntMstat) 15 8 = bits (s.reg A.tntMhead) 7 0 ∧
      (late = true → bits (t.reg A.tntMstat) 7 0 = Status.timeout.code))) ∧
    (s.entryBad k = false →
      let op := s.readLE k 1
      let n := s.readLE (k + 4) 1
      let i := s.readLE (k + 5) 1
      let st := s.tenantState n
      let c := s.tenantCfg n
      let gen := (s.tenantGen n + 1) % 0x10000
      let resp := fun (a : Status) (res : List Byte) (t : State) =>
        t.readBytes (k + 0x30) 4 = s.readBytes (k + 2) 2 ++ leBytes 1 a.code ++ leBytes 1 0 ∧
        t.readBytes (k + 0x34) res.length = res ∧ SameMemoryBut s t (k + 0x30) 16 ∧ Raised t 576 ∧ t.tnt.busy = false ∧
        bits (t.reg A.tntMhead) 7 0 = (bits (s.reg A.tntMhead) 7 0 + 1) % s.mboxSize % 256
      let no := fun (a : Status) (t : State) => resp a [] t ∧ t.tnt.tenants = s.tnt.tenants
      (op = 1 → Completes .mailboxNop s (no .ok)) ∧
      (op = 2 → c.present = false → Completes .tenantCreate s (no .refusedRights)) ∧
      (op = 2 → c.present = true → st ≠ 0 → Completes .tenantCreate s (no .refusedNotReady)) ∧
      (op = 2 → c.present = true → st = 0 → Completes .tenantCreate s (fun t => t.tenantState n = 1 ∧
        t.tenantGen n = (if gen = 0 then 1 else gen) ∧ resp .ok (leBytes 2 (if gen = 0 then 1 else gen)) t ∧
        Raised t (608 + n))) ∧
      (op = 3 → st = 0 → Completes .tenantReset s (no .refusedNotReady)) ∧
      (op = 3 → st ≠ 0 → Completes .tenantReset s (fun t => t.tenantState n = 2 ∧ t.tnt.busy = true ∧ t.mem = s.mem ∧
        (t.tenant n).resets = (s.tenant n).resets ++ [true])) ∧
      (op = 4 → st = 0 → Completes .tenantDestroy s (no .refusedNotReady)) ∧
      (op = 4 → st = 2 → Completes .tenantDestroy s (fun t => t = s)) ∧
      (op = 4 → st = 1 → Completes .tenantDestroy s (fun t => t.tenantState n = 0 ∧ t.tenant n = Tenant.init ∧ resp .ok [] t ∧
        t.tenantGen n = (if gen = 0 then 1 else gen) ∧ Raised t 578)) ∧
      (op = 5 →
        let base := s.readLE (k + 8) 8
        let len := s.readLE (k + 16) 8
        let sound := i ≤ 7 ∧ base % 0x1000 = 0 ∧ len % 0x1000 = 0 ∧ base + len ≤ 0x10000000000000000
        (len = 0 → Completes .hostwinSet s (no .zeroLength)) ∧
        (len ≠ 0 → ¬ sound → Completes .hostwinSet s (no .refusedRange)) ∧
        (len ≠ 0 → sound → st = 0 → Completes .hostwinSet s (no .refusedNotReady)) ∧
        (len ≠ 0 → sound → st ≠ 0 → Completes .hostwinSet s (fun t => resp .ok [] t ∧ (t.tenant n).wins =
          (s.tenant n).wins.set i { base := base, len := len, flags := s.readLE (k + 24) 1 % 8 }))) ∧
      (op = 6 →
        let sqSize := s.readLE (k + 0x20) 2
        let cqSize := s.readLE (k + 0x22) 2
        let sound := i < c.qpairs ∧ s.readLE (k + 8) 1 = 1 ∧ s.readLE (k + 9) 1 < c.vcount ∧
          s.queueOk n 1 (s.readLE (k + 0x10) 8) sqSize = true ∧ s.queueOk n 2 (s.readLE (k + 0x18) 8) cqSize = true
        (c.qpairs ≤ i → Completes .qpCreate s (no .refusedRange)) ∧
        (sound → st ≠ 1 ∨ s.qp n i ≠ none → Completes .qpCreate s (no .refusedNotReady)) ∧
        (sound → st = 1 → s.qp n i = none → i < 4 → Completes .qpCreate s (fun t => resp .ok [] t ∧
          t.reg (tntWin n (8 * i)) = 0#32 ∧ t.reg (tntWin n (8 * i + 4)) = 0#32 ∧ bit (t.reg (A.tntTstat n)) (4 + i) = true ∧
          ∃ x, t.qp n i = some x ∧ x.frame = true ∧ x.sqSize = sqSize ∧ x.cqSize = cqSize ∧ x.sqHead = 0 ∧ x.cqTail = 0 ∧
            x.phase = true ∧ x.unread = 0 ∧ x.prog = [] ∧ x.posted = [] ∧ x.fifo = [] ∧ x.filled = []))) ∧
      (op = 7 → s.qp n i = none → Completes .qpDestroy s (no .refusedNotReady)) ∧
      (op = 7 → s.qp n i ≠ none → i < 4 → Completes .qpDestroy s (fun t => resp .ok [] t ∧ t.qp n i = none ∧
        bit (t.reg (A.tntTstat n)) (4 + i) = false)) ∧
      (op = 8 → Completes .mailboxStatus s (fun t => no .ok t ∧
        t.readBytes (k + 0x34) 4 = leBytes 1 st ++ leBytes 1 (bits (s.reg (A.tntTstat n)) 7 4) ++
          leBytes 2 (s.tenantGen n))))) ∧
  (∀ (s : State) (n : Fin 32) (v : W32),
    (s.tenantState n ≠ 1 → Completes (.tenantSelfReset n v) s (fun t => t.reply.status = .refusedNotReady ∧ t.tnt = s.tnt)) ∧
    (s.tenantState n = 1 → ¬ (bit v 0 = true ∧ bits v 31 16 = 0x5A3C) → Completes (.tenantSelfReset n v) s (fun t =>
      t.reply.status = .refusedRange ∧ t.tnt = s.tnt)) ∧
    (s.tenantState n = 1 → bit v 0 = true → bits v 31 16 = 0x5A3C → Completes (.tenantSelfReset n v) s (fun t =>
      t.reply.status = .ok ∧ t.tenantState n = 2 ∧ (t.tenant n).resets = (s.tenant n).resets ++ [false] ∧ Raised t 586)) ∧
    (s.tenantState n ≠ 2 → Completes (.tenantResetComplete n) s (fun t => t = s)) ∧
    (s.tenantState n = 2 → Completes (.tenantResetComplete n) s (fun t =>
      let gen := (s.tenantGen n + 1) % 0x10000
      (∀ q, q < 4 → t.qp n q = none) ∧ (t.tenant n).resets = (s.tenant n).resets.drop 1 ∧ Raised t 578 ∧
      t.tenantState n = (if (s.tenant n).resets.length ≤ 1 then 1 else 2) ∧
      t.tenantGen n = (if gen = 0 then 1 else gen) ∧
      (∀ m, m < 512 → t.semOwned (BitVec.ofNat 12 (0x400 + n.val)) m = false))))

/-- O45 (tier 2; R467, R468, R469, R471, R472, R473, R475, R477, R479, R480, Table 16-9, assumption 12). A doorbell of a
tenant that is not CREATED or of a missing queue pair is refused and logged, one beyond the queue dropped and logged;
otherwise the SQ tail is stored, or the CQ head frees entries and ARM asks for a message. When a descriptor may start,
the SQ head moves on; one that fails its checks keeps its status; NOP completes, COPY_IN and COPY_OUT move their bytes
between host memory and the tenant's region, TX of class C0 is refused and another reads under a ticket and buffer or
waits, RX and RECV post their buffer, SEND hands its chain over with a token at MSGTAG, or is refused for want of
cells. Otherwise nothing starts. -/
def Obligations.DoorbellsAndDescriptorsStart : Prop :=
  (∀ (s : State) (n q : Fin 32) (v : W32),
    let sq := tntWin n (8 * q.val)
    let cq := tntWin n (8 * q.val + 4)
    let no := fun (t : State) => t.reply.status = .refusedNotReady ∧ t.tnt = s.tnt ∧ t.reg sq = s.reg sq ∧ t.reg cq = s.reg cq
    let beyond := fun (o : Nat) (t : State) => t.reply.status = .refusedRange ∧ OnlyRegs s t [tntWin n 0x108] ∧
      t.reg (tntWin n 0x108) = BitVec.ofNat 32 (o + Status.refusedRange.code * 0x10000)
    (s.tnt.flr = true → Completes (.sqDoorbell n q v) s (fun t => t = s) ∧ Completes (.cqDoorbell n q v) s (fun t => t = s)) ∧
    (s.tnt.flr = false → s.tenantState n ≠ 1 ∨ s.qp n q = none →
      Completes (.sqDoorbell n q v) s no ∧ Completes (.cqDoorbell n q v) s no) ∧
    (∀ x, s.tnt.flr = false → s.tenantState n = 1 → s.qp n q = some x →
      (x.sqSize ≤ bits v 15 0 → Completes (.sqDoorbell n q v) s (beyond (8 * q.val))) ∧
      (bits v 15 0 < x.sqSize → Completes (.sqDoorbell n q v) s (fun t => t.reply.status = .ok ∧
        t.reg sq = BitVec.ofNat 32 (bits v 15 0) ∧ OnlyRegs s t [sq])) ∧
      (x.cqSize ≤ bits v 15 0 → Completes (.cqDoorbell n q v) s (beyond (8 * q.val + 4))) ∧
      (bits v 15 0 < x.cqSize → Completes (.cqDoorbell n q v) s (fun t =>
        let freed := (bits v 15 0 + x.cqSize - bits (s.reg cq) 15 0 % x.cqSize) % x.cqSize
        t.reply.status = .ok ∧ t.qp n q = some { x with unread := x.unread - freed } ∧ bits (t.reg cq) 15 0 = bits v 15 0 ∧
        (x.unread - freed = 0 → bit (t.reg cq) 31 = bit v 31) ∧ (x.unread - freed ≠ 0 → bit (t.reg cq) 31 = false))))) ∧
  (∀ (s : State) (n : Fin 32) (q : Fin 4) (i : Instr), i ∈ [Instr.descriptorNop n q, Instr.copyIn n q, Instr.copyOut n q,
      Instr.tx n q, Instr.rx n q, Instr.send n q, Instr.recv n q] →
    (s.qp n q = none → Completes i s (fun t => t = s)) ∧
    (∀ x, s.qp n q = some x → x.stopped = false → s.mayStartQp n q x = false → Completes i s (fun t => t = s))) ∧
  (∀ (s : State) (n : Fin 32) (q : Fin 4) (x : Qp), s.qp n q = some x → x.stopped = false → s.mayStartQp n q x = true →
    s.hostWindow n 1 (x.sqBase + 32 * x.sqHead) 32 = true →
    let d := s.readDesc x
    (d.flags % 2 = 0 ∨ (x.prog = [] ∧ x.posted = [] ∧ x.filled = [])) →
    let y : Qp := { x with sqHead := (x.sqHead + 1) % x.sqSize }
    let u := s.setQp n q (some y)
    let st := u.descStatus n x d
    let kept := fun (dram : Option (Nat × Nat)) (e : DescSt) (t : State) => t.qp n q = some { y with prog := x.prog ++
      [{ cid := d.cid, gen := s.tenantGen n, len := d.len, haddr := d.haddr, aux := d.aux, sqhead := y.sqHead,
         promoted := false, dram := dram, st := e }] }
    let posted := fun (t : State) => t.mem = s.mem ∧ t.qp n q = some { y with posted := x.posted ++
      [{ cid := d.cid, gen := s.tenantGen n, len := d.len, haddr := d.haddr, sqhead := y.sqHead }] }
    (∀ i op, (i, op) ∈ [(Instr.descriptorNop n q, 1), (Instr.copyIn n q, 2), (Instr.copyOut n q, 3), (Instr.tx n q, 4),
        (Instr.rx n q, 5), (Instr.send n q, 6), (Instr.recv n q, 7)] → d.opc = op → st ≠ .ok →
      Completes i s (fun t => kept none (.done st 0) t ∧ t.mem = s.mem)) ∧
    (st = .ok →
      (d.opc = 1 → Completes (.descriptorNop n q) s (fun t => kept none (.done .ok 0) t ∧ t.mem = s.mem)) ∧
      (∀ r, s.tenantRegion n = some r →
        let c := r.base * 0x100000 + d.daddr
        (d.opc = 2 → Completes (.copyIn n q) s (fun t => kept (some (r.channel, c)) (.done .ok d.len) t ∧
          t.dramRead r.channel c d.len = s.readBytes (kHost + d.haddr) d.len)) ∧
        (d.opc = 3 → Completes (.copyOut n q) s (fun t => kept (some (r.channel, c)) (.done .ok d.len) t ∧
          t.readBytes (kHost + d.haddr) d.len = s.dramRead r.channel c d.len ∧
          SameMemoryBut s t (kHost + d.haddr) d.len))) ∧
      (d.opc = 4 →
        (d.aux % 4 = 0 → Completes (.tx n q) s (fun t => kept none (.done .refusedRights 0) t ∧ t.flt = s.flt)) ∧
        (d.aux % 4 ≠ 0 →
          (∀ k sh b w, u.txTake (d.aux % 4) d.len = some (k, sh, b, w) → Completes (.tx n q) s (fun t =>
            kept none (.txRead k sh b false) t ∧ (t.frame k).isSome = true)) ∧
          (u.txTake (d.aux % 4) d.len = none → Completes (.tx n q) s (fun t => t.flt = s.flt ∧ t.bsn = s.bsn ∧
            kept none (if d.aux % 4 = 3 then .done .refusedCapacity 0 else .txWait s.time) t)))) ∧
      (d.opc = 5 → Completes (.rx n q) s posted) ∧
      (d.opc = 7 → Completes (.recv n q) s posted) ∧
      (d.opc = 6 → ∀ e f, s.entryOf (0x400 + n.val) = some e → s.entryNamed x.fwowner = some f →
        let a := u.allocChain e ((16 + d.len + 63) / 64)
        (a.1 ≠ .ok → Completes (.send n q) s (fun t => kept none (.done .refusedCapacity 0) t ∧ t.mem = s.mem)) ∧
        (a.1 = .ok → isPostable x.msgtag = true →
          (a.2.2.2.entryFree x.msgtag = true → Unwanted s x.msgtag → Completes (.send n q) s (fun t =>
            kept none (.done .ok d.len) t ∧
            Queued s t x.msgtag { value := BitVec.ofNat 32 (bufWord 6 a.2.1), status := .ok, turn := false })) ∧
          (a.2.2.2.entryFree x.msgtag = false → Completes (.send n q) s (kept none (.done .refusedCapacity 0)))))))

/-- O46 (tier 2; R457, R469, R470, R472, R474, R475, R476, R477, R478, R480, Table 16-10). A TX read whose class has none
before it is admitted from port 8 as a whole frame with its FCS, and its arrival token goes to the ENTRY pound or is
held. A TX without ticket or buffer when its wait ends is refused. The oldest ended descriptor writes its 32-byte
completion into the CQ, which moves on; a stale one is only counted. The oldest waiting frame goes into the next RX
buffer and completes it, or is discarded when it is too long. A POST that passes its checks fills the next RECV buffer
and frees the chain; else it answers the first check that fails. A TX being read completes with TIMEOUT, its ticket
freed. -/
def Obligations.DescriptorsFramesAndPostsComplete : Prop :=
  (∀ (s : State) (n : Fin 32) (q : Fin 4) (x : Qp), s.qp n q = some x →
    (∀ (k : Fin 8), x.prog[k.val]? = none → Completes (.hostTxAdmit n q k) s (fun t => t = s) ∧
      Completes (.txWaitExpiry n q k) s (fun t => t = s)) ∧
    (∀ (k : Fin 8) d m sh b late, x.prog[k.val]? = some d → d.st = .txRead m sh b late → s.linkUp = true →
      s.holding118 8 = false → (∀ e, e ∈ x.prog.take k.val → e.txClass ≠ some (d.aux % 4)) →
      let data := s.readBytes (kHost + d.haddr) d.len
      let wire := data ++ leBytes 4 (fcs32 data).toNat
      s.tblFind 1 (s.keyStream 8 wire) = none → nth s.shp.fabric.entry (d.aux % 4) 0xFF ≠ 0xFF →
      Completes (.hostTxAdmit n q k) s (fun t =>
        t.qp n q = some { x with prog := x.prog.set k { d with st := .txSent m s.flt.ordNext late } } ∧
        t.counter 0xE0400 = s.counter 0xE0400 + 1#64 ∧ ∃ f, t.frame m = some f ∧ f.fr.port = 8 ∧ f.fr.cls = d.aux % 4 ∧
          f.wire = wire ∧ f.fr.fcsDone = true ∧ f.fr.queue = d.aux / 4 % 8 ∧
          f.pound = some (nth s.shp.fabric.entry (d.aux % 4) 0xFF))) ∧
    (∀ (k : Fin 8) d since, x.prog[k.val]? = some d → d.st = .txWait since →
      let u := s.advance (since + 1000 * bits (s.reg A.tntTxwait) 15 0)
      (u.txTake (d.aux % 4) d.len = none → Completes (.txWaitExpiry n q k) s (fun t => t.flt = s.flt ∧ t.mem = s.mem ∧
        t.qp n q = some { x with prog := x.prog.set k { d with st := .done .refusedCapacity 0 } })) ∧
      (u.txTake (d.aux % 4) d.len ≠ none → Completes (.txWaitExpiry n q k) s (fun t => t = u))) ∧
    (∀ p : Bool, s.linkUp = false ∨ s.qpError n q = true ∨ x.room = false ∨ s.tenantState n ≠ 1 →
      Completes (.descriptorComplete n q p) s (fun t => t = s)) ∧
    (s.linkUp = true → s.qpError n q = false → x.room = true → s.tenantState n = 1 →
      let at32 := x.cqBase + 32 * x.cqTail
      let next := (x.cqTail + 1) % x.cqSize
      let flip := if next = 0 then !x.phase else x.phase
      let moved := fun (y : Qp) => { y with cqTail := next, phase := flip, unread := x.unread + 1 }
      let cpl := fun (cid gen sqhead len : Nat) (a : Status) (pr : Bool) (res : List W32) =>
        let c : Cpl := { cid := cid, status := a, notice := false, promoted := pr, gen := gen, sqhead := sqhead, len := len,
                         result := res }
        cplBytes c x.phase s.cycle
      (∀ d rest a len, x.prog = d :: rest → s.descEnd d = some (a, len) →
        (d.gen ≠ s.tenantGen n → Completes (.descriptorComplete n q false) s (fun t => t.mem = s.mem ∧
          t.counter 0xE0418 = s.counter 0xE0418 + 1#64 ∧ t.qp n q = some { x with prog := rest })) ∧
        (d.gen = s.tenantGen n → x.cqSize ≠ 0 → s.hostWindow n 2 at32 32 = true →
          Completes (.descriptorComplete n q false) s (fun t => t.qp n q = some (moved { x with prog := rest }) ∧
            t.readBytes (kHost + at32) 32 = cpl d.cid d.gen d.sqhead len a d.promoted [] ∧
            SameMemoryBut s t (kHost + at32) 32))) ∧
      (x.prog = [] → Completes (.descriptorComplete n q false) s (fun t => t = s)) ∧
      (∀ c a bs rest, x.filled = (c, a, bs) :: rest → c.gen = s.tenantGen n → x.cqSize ≠ 0 → s.hostWindow n 2 at32 32 = true →
        Completes (.descriptorComplete n q true) s (fun t => t.qp n q = some (moved { x with filled := rest }) ∧
          t.readBytes (kHost + at32) 32 = cplBytes c x.phase s.cycle)) ∧
      (∀ f e b more, x.fifo = [f] → s.egFrame f.eg = some e → e.toHost = true → x.posted = b :: more →
        (b.len < e.len - 4 → Completes (.hostFrameDeliver n q) s (fun t => t.mem = s.mem ∧
          t.qp n q = some { x with fifo := [] } ∧ t.counter 0xE0410 = s.counter 0xE0410 + 1#64)) ∧
        (e.len - 4 ≤ b.len → b.gen = s.tenantGen n → s.hostWindow n 2 b.haddr b.len = true → x.cqSize ≠ 0 →
          s.hostWindow n 2 at32 32 = true → at32 + 32 ≤ b.haddr ∨ b.haddr + (e.len - 4) ≤ at32 →
          Completes (.hostFrameDeliver n q) s (fun t => t.qp n q = some (moved { x with fifo := [], posted := more }) ∧
            t.readBytes (kHost + b.haddr) (e.len - 4) = s.bufRead e.buf 0 (e.len - 4) ∧
            t.readBytes (kHost + at32) 32 = cpl b.cid b.gen b.sqhead (e.len - 4) .ok false f.result ∧
            t.counter 0xE0408 = s.counter 0xE0408 + 1#64))) ∧
      (x.fifo = [] ∨ x.posted = [] → Completes (.hostFrameDeliver n q) s (fun t => t = s))) ∧
    (∀ d rest m sh b late, x.prog = d :: rest → d.st = .txRead m sh b late → Completes (.dmaReadTimeout n q) s (fun t =>
      t.qp n q = some { x with prog := { d with st := .done .timeout 0 } :: rest } ∧ t.frame m = none ∧ t.mem = s.mem))) ∧
  (∀ (s : State) (ag : Agent),
    let a0 := s.reg (agKey ag (A.tntFarg 0))
    let w := (s.reg (agKey ag (A.tntFarg 1))).toNat
    let len := (s.reg (agKey ag (A.tntFarg 2))).toNat
    let n := bits a0 4 0
    let q := bits a0 6 5
    let st := s.postStatus ag w len a0
    (isThread ag = false → isWarden ag = false → Completes (.post ag) s (RefusedWith s .refusedRights)) ∧
    (isThread ag = true ∨ isWarden ag = true → s.reaches ag 0x0E = false → Completes (.post ag) s (RefusedWith s .refusedRights)) ∧
    (isThread ag = true ∨ isWarden ag = true → s.reaches ag 0x0E = true → s.regOff A.tntFcmd = false →
      (len = 0 → Completes (.post ag) s (fun t => t.reply.status = .zeroLength ∧ OnlyReply s t)) ∧
      (16384 < len → Completes (.post ag) s (fun t => t.reply.status = .refusedRange ∧ OnlyReply s t)) ∧
      (st = .refusedCapacity → Completes (.post ag) s (fun t => t.reply.status = .refusedCapacity ∧ t.tnt = s.tnt ∧
        t.bsn = s.bsn ∧ t.counter 0xE0430 = s.counter 0xE0430 + 1#64)) ∧
      (st ≠ .ok → st ≠ .refusedCapacity → Completes (.post ag) s (fun t => t.reply.status = st ∧ OnlyReply s t)) ∧
      (∀ x b more, st = .ok → s.qp n q = some x → x.posted = b :: more → s.linkUp = true → Completes (.post ag) s (fun t =>
        t.reply.status = .ok ∧ t.readBytes (kHost + b.haddr) len = s.bufRead w 0 len ∧
        SameMemoryBut s t (kHost + b.haddr) len ∧ ∃ y c, t.qp n q = some y ∧ y.posted = more ∧
          y.filled = x.filled ++ [(c, b.haddr, [])] ∧ c.cid = b.cid ∧ c.status = .ok ∧ c.len = len))))

/-- O47 (tier 2; R494, R496, R497, R502, R503, R504, R505, R506, Table 17-3). An arm answers the first check of R494 that
fails, in its LAST field, or arms the stream with SEQ 0. Disarm and restart close the chunk in progress: it is staged,
or dropped and counted with GAP when the other buffer is full; disarm also disarms. A closed chunk for cells takes a
chain, posts its token and frees its buffer, keeps the token for retry when the post is refused, and is dropped with
EV640 when the chain is refused. A chunk for a ring is written at RPOS as header and payload, and RPOS moves on;
without its region it is dropped with EV643; behind an earlier chunk of the same ring it waits. A refused token is
posted again, with EV641 at its first retry. -/
def Obligations.StreamsCloseAndWriteChunks : Prop :=
  (∀ (s : State) (ag : Agent) (n : Fin 64) (i : Instr), i ∈ [Instr.streamArm ag n, Instr.streamDisarm ag n, Instr.streamRestart ag n] →
    (s.mayReach ag 0x0F = false → Completes i s (RefusedWith s .refusedRights)) ∧
    (s.mayReach ag 0x0F = true → s.regOff (A.fulSctl n) = true → Completes i s (RefusedWith s .refusedNotReady))) ∧
  (∀ (s : State) (ag : Agent) (n : Fin 64), s.mayReach ag 0x0F = true → s.regOff (A.fulSctl n) = false →
    let cfg := s.reg (A.fulScfg n)
    let st := s.streamStatus n
    let stat := A.fulSstat n
    let closed := fun (t : State) => (s.stream n).fill = none ∧ t.stream n = s.stream n ∨
      ∃ c, (s.stream n).fill = some c ∧ (t.stream n).fill = none ∧
        ((s.stream n).out = none → (t.stream n).out = some { c.endBlock with closed := s.ful.order } ∧
          (t.stream n).gap = (s.stream n).gap) ∧
        (∀ d, (s.stream n).out = some d → (t.stream n).out = some d ∧ (t.stream n).gap = true ∧
          t.counter 0xF0910 = s.counter 0xF0910 + 1#64)
    (s.armed n = true → st = .refusedNotReady) ∧
    (s.armed n = false → s.pdOn 69 = true → bits cfg 1 0 = 0 ∨ 1024 < bits (s.reg (A.fulSchunk n)) 10 0 → st = .refusedRange) ∧
    (st ≠ .ok → Completes (.streamArm ag n) s (fun t => t.reply.status = st ∧ OnlyRegs s t [stat] ∧
      bits (t.reg stat) 15 8 = st.code ∧ t.armed n = s.armed n)) ∧
    (st = .ok → Completes (.streamArm ag n) s (fun t => t.reply.status = .ok ∧ t.armed n = true ∧
      t.reg (A.fulSseq n) = 0#32 ∧ bits (t.reg stat) 15 8 = 0 ∧ OnlyRegs s t [stat, A.fulSseq n])) ∧
    Completes (.streamDisarm ag n) s (fun t => t.reply.status = .ok ∧ closed t ∧ t.armed n = false ∧ t.mem = s.mem) ∧
    Completes (.streamRestart ag n) s (fun t => t.reply.status = .ok ∧ closed t ∧ t.armed n = s.armed n ∧ t.mem = s.mem)) ∧
  (∀ (s : State) (n : Fin 64),
    ((s.stream n).out = none → Completes (.chunkCellOutput n) s (fun t => t = s) ∧
      Completes (.chunkRingOutput n) s (fun t => t = s)) ∧
    (∀ c, (s.stream n).out = some c →
      let dropped := fun (ev : Nat) (t : State) => (t.stream n).out = none ∧ (t.stream n).gap = true ∧
        (t.stream n).fill = (s.stream n).fill ∧ t.counter 0xF0910 = s.counter 0xF0910 + 1#64 ∧ Raised t ev ∧ t.mem = s.mem
      let written := fun (t : State) => t.stream n = { s.stream n with out := none, gap := false } ∧
        t.counter 0xF0908 = s.counter 0xF0908 + 1#64 ∧ t.counter 0xF0918 = s.counter 0xF0918 + BitVec.ofNat 64 c.escapes ∧
        t.counter 0xF0920 = s.counter 0xF0920 + BitVec.ofNat 64 (32 + c.bytes)
      (bit c.cfg 16 = true → Completes (.chunkCellOutput n) s (fun t => t = s)) ∧
      (bit c.cfg 16 = false ∨ s.ringBehind c = true → Completes (.chunkRingOutput n) s (fun t => t = s)) ∧
      (bit c.cfg 16 = false → s.fulEntry = none → Completes (.chunkCellOutput n) s (dropped 640)) ∧
      (∀ e, bit c.cfg 16 = false → s.fulEntry = some e →
        let a := s.allocChain e ((32 + c.bytes + 63) / 64)
        let tag := bits c.own 31 16
        let w := BitVec.ofNat 32 (bufWord 6 a.2.1)
        (a.1 ≠ .ok → Completes (.chunkCellOutput n) s (dropped 640)) ∧
        (a.1 = .ok → isPostable tag = true →
          (a.2.2.2.entryFree tag = true → Unwanted s tag → Completes (.chunkCellOutput n) s (fun t => written t ∧
            Queued s t tag { value := w, status := .ok, turn := false })) ∧
          (a.2.2.2.entryFree tag = false → Completes (.chunkCellOutput n) s (fun t => written t ∧ t.ful.retry = s.ful.retry ++
            [{ stream := n, tag := tag, value := w, owner := bits c.own 15 0, retried := false }])))) ∧
      (bit c.cfg 16 = true → s.ringBehind c = false →
        let d := bits c.cfg 22 18
        (s.ringRegion d = none → Completes (.chunkRingOutput n) s (dropped 643)) ∧
        (∀ r, s.ringRegion d = some r → c.bytes ≤ 4064 →
          let pos := (s.reg (A.fulRpos d)).toNat
          let at0 := r.base * 0x100000 + pos
          let need := roundUp (32 + c.bytes) 64
          pos + need ≤ r.bytes → Completes (.chunkRingOutput n) s (fun t => written t ∧
            t.dramRead r.channel at0 32 = c.header n (s.stream n).gap ∧
            t.dramRead r.channel (at0 + 32) c.bytes = c.payload ∧ t.reg (A.fulRpos d) = BitVec.ofNat 32 (pos + need)))))) ∧
  (∀ s : State, (s.ful.retry = [] → Completes .chunkTokenRetry s (fun t => t = s)) ∧
    (∀ k, s.ful.retry = [k] → isPostable k.tag = true →
      (s.entryFree k.tag = false → Completes .chunkTokenRetry s (fun t => t.ful.retry = [{ k with retried := true }] ∧
        (k.retried = false → Raised t 641))) ∧
      (s.entryFree k.tag = true → Unwanted s k.tag → Completes .chunkTokenRetry s (fun t => t.ful.retry = [] ∧
        Queued s t k.tag { value := k.value, status := .ok, turn := false }))))

/-- O48 (tier 2; R507, R508, R509, R511, R512, R513, R514, R515, R517, R518, R519, assumption 3). An arm answers RIGHTS
where MODE does not allow it, TIMEOUT less than 20 ns ahead, NOT_READY too close to a pending fire or pulse, and is
counted; otherwise its fire is pending. A disarm removes the pending fire unless it is due within 20 ns. A fire leaves
its time, is counted and raised, and starts the pulse, which ends. PREDICT finds the first instant within its horizon
at which the model meets the target, arms the strobe there and keeps the model, or is refused and counted. RESIDUAL
leaves the position and time residuals of a sample. An accepted edge enters the FIFO with its stamp, or is counted as
lost when 8 stand there; a pop answers and removes the oldest; a configuration write empties the FIFO. -/
def Obligations.StrobesPredictionsAndCaptures : Prop :=
  (∀ (s : State) (ag : Agent) (n : Fin 16) (v : W32),
    let x := s.strobe n
    let f := cat64 v (s.reg (A.stbTlo n)) + BitVec.ofInt 64 (s.strobeDelay n)
    let st := s.armStatus n f false
    let soon := ∃ p, x.pend = some p ∧ p.due.toNat < s.time + 20
    (∀ i, i ∈ [Instr.timeArm ag n v, Instr.strobeDisarm ag n, Instr.capturePop ag n, Instr.captureEdgeConfig ag n v] →
      s.mayReach ag 0x10 = false → Completes i s (RefusedWith s .refusedRights)) ∧
    (bit (s.reg (A.stbCfg n)) 0 = false → st = .refusedRights) ∧
    (bit (s.reg (A.stbCfg n)) 0 = true → f.toNat < s.time + 20 → st = .timeout) ∧
    (bit (s.reg (A.stbCfg n)) 0 = true → s.time + 20 ≤ f.toNat → soon → st = .refusedNotReady) ∧
    (bit (s.reg (A.stbCfg n)) 0 = true → s.time + 20 ≤ f.toNat → x.pend = none → x.busy = none → st = .ok) ∧
    (s.mayReach ag 0x10 = true →
      (st ≠ .ok → Completes (.timeArm ag n v) s (fun t => t.reply.status = st ∧ t.stb = s.stb ∧
        bits (t.reg (A.stbStat n)) 15 8 = st.code ∧ t.counter 0x100808 = s.counter 0x100808 + 1#64)) ∧
      (st = .ok → Completes (.timeArm ag n v) s (fun t => t.reply.status = .ok ∧ bits (t.reg (A.stbStat n)) 15 8 = 0 ∧
        t.strobe n = { x with pend := some { due := f, width := bits (s.reg (A.stbWidth n)) 15 0, predicted := false } })) ∧
      (soon → Completes (.strobeDisarm ag n) s (fun t => t.reply.status = .refusedNotReady ∧ t.stb = s.stb)) ∧
      (¬ soon → Completes (.strobeDisarm ag n) s (fun t => t.reply.status = .ok ∧ t.strobe n = { x with pend := none } ∧
        OnlyRegs { s with stb := t.stb } t [A.stbStat n])) ∧
      Completes (.capturePop ag n) s (fun t => t.reply.status = .ok ∧
        t.reply.value = (nth ((s.capture n).fifo.headD [0#32, 0#32, 0#32]) 0 0#32).setWidth 64 ∧
        t.reg (agKey ag (A.stbCpop1 n)) = nth ((s.capture n).fifo.headD [0#32, 0#32, 0#32]) 1 0#32 ∧
        t.reg (agKey ag (A.stbCpop2 n)) = nth ((s.capture n).fifo.headD [0#32, 0#32, 0#32]) 2 0#32 ∧
        t.capture n = { s.capture n with fifo := (s.capture n).fifo.drop 1 }) ∧
      Completes (.captureEdgeConfig ag n v) s (fun t => t.reply.status = .ok ∧
        t.capture n = { s.capture n with seq := 0, fifo := [] } ∧ t.reg (A.stbCcfg n) = (v &&& 0xFFFF00F7#32) ∧
        SameRegsBut s t [A.stbCcfg n]))) ∧
  (∀ (s : State) (n : Fin 16),
    let x := s.strobe n
    (x.pend = none → Completes (.strobeFire n) s (fun t => t = s)) ∧
    (∀ p, x.pend = some p → Completes (.strobeFire n) s (fun t => (t.strobe n).pend = none ∧ (t.strobe n).model = x.model ∧
      (t.strobe n).busy = (if p.width = 0 then x.busy else some (p.due + BitVec.ofNat 64 p.width)) ∧
      t.reg (A.stbLastlo n) = lo32 p.due ∧ t.reg (A.stbLasthi n) = hi32 p.due ∧ Raised t (648 + n) ∧
      t.counter 0x100800 = s.counter 0x100800 + 1#64 ∧ t.mem = s.mem)) ∧
    (x.busy = none → Completes (.strobePulseEnd n) s (fun t => t = s)) ∧
    (∀ e, x.busy = some e → Completes (.strobePulseEnd n) s (fun t => t.strobe n = { x with busy := none } ∧ t.regs = s.regs)) ∧
    (∀ rise : Bool,
      let c := s.reg (A.stbCcfg n)
      let y := s.capture n
      let stamp := s.tb.now - BitVec.ofNat 64 (bits c 7 4) + BitVec.ofInt 64 (sextNat 16 (bits (s.reg (A.stbCcorr n)) 15 0))
      let q := (y.seq + 1) % 0x10000
      (y.level = rise ∨ bit c (if rise then 0 else 1) = false → Completes (.captureEdge n rise) s (fun t =>
        t.capture n = { y with level := rise } ∧ t.regs = s.regs ∧ t.ctr = s.ctr)) ∧
      (y.level ≠ rise → bit c (if rise then 0 else 1) = true →
        (8 ≤ y.fifo.length → Completes (.captureEdge n rise) s (fun t => t.capture n = { y with level := rise, seq := q } ∧
          t.counter 0x100828 = s.counter 0x100828 + 1#64)) ∧
        (y.fifo.length < 8 → Completes (.captureEdge n rise) s (fun t => Raised t (664 + n) ∧
          t.counter 0x100820 = s.counter 0x100820 + 1#64 ∧ t.capture n = { y with level := rise, seq := q, fifo := y.fifo ++
            [[lo32 stamp, hi32 stamp, BitVec.ofNat 32 (b2n rise + q * 0x10000)]] }))))) ∧
  (∀ (s : State) (k : Nat),
    (s.uni.preds[k]? = none → Completes (.predict k) s (fun t => t = s) ∧ Completes (.residual k) s (fun t => t = s)) ∧
    (∀ p, s.uni.preds[k]? = some p →
      let u := { s with uni := { s.uni with preds := s.uni.preds.eraseIdx k } }
      let n := reqField p.req 1 1
      let p0 := reqInt p.req 0x0C 4
      let target := reqInt p.req 0x18 4
      let pos := fun (tau : Nat) => modelPos p0 (reqInt p.req 0x10 4) (reqInt p.req 0x14 4) tau
      (reqField p.req 0 1 = 2 → Completes (.predict k) s (fun t => t = s)) ∧
      (reqField p.req 0 1 ≠ 2 → Completes (.residual k) s (fun t => t = s)) ∧
      (reqField p.req 0 1 ≠ 2 →
        (∀ st, u.predictTau p.req = .error st → Completes (.predict k) s (fun t => t.uni = u.uni ∧ t.stb = s.stb ∧
          t.counter 0x100818 = s.counter 0x100818 + 1#64 ∧ t.counter 0x100810 = s.counter 0x100810 + 1#64)) ∧
        (∀ (tau : Nat) (t0 : Int), u.predictTau p.req = .ok (tau, t0) →
          let f := BitVec.ofInt 64 (t0 + tau + reqInt p.req 0x1C 2 + s.strobeDelay n)
          tau ≤ 1000 * reqField p.req 0x1E 2 ∧
          (p0 < target → target * 2 ^ 49 ≤ pos tau ∧ ∀ j, j < tau → pos j < target * 2 ^ 49) ∧
          (target < p0 → pos tau ≤ target * 2 ^ 49 ∧ ∀ j, j < tau → target * 2 ^ 49 < pos j) ∧
          (s.armStatus n f true ≠ .ok → Completes (.predict k) s (fun t => t.uni = u.uni ∧ t.stb = s.stb ∧
            t.counter 0x100818 = s.counter 0x100818 + 1#64)) ∧
          (s.armStatus n f true = .ok → Completes (.predict k) s (fun t => t.uni = u.uni ∧
            (t.strobe n).pend = some { due := f, width := reqField p.req 2 2, predicted := true } ∧
            (t.strobe n).busy = (s.strobe n).busy ∧ (t.strobe n).model.isSome = true ∧
            t.reg (A.stbTau n) = BitVec.ofNat 32 tau ∧
            (isPostable p.tag = true → Unwanted s p.tag →
              Queued s t p.tag { value := lo32 f, status := .ok, turn := false }))))) ∧
      (reqField p.req 0 1 = 2 →
        (15 < n ∨ (s.strobe n).model = none → Completes (.residual k) s (fun t => t.uni = u.uni ∧ t.stb = s.stb ∧
          t.counter 0x100810 = s.counter 0x100810 + 1#64)) ∧
        (∀ m start, n ≤ 15 → (s.strobe n).model = some m → s.cycleStart (BitVec.ofNat 32 (reqField p.req 4 4)) = some start →
          let tau := start + reqInt p.req 8 4 - m.t0
          let y := modelPos m.p0.toInt m.v.toInt m.a.toInt tau
          let d := p0 * 2 ^ 49 - y
          let vel := m.v.toInt * 2 ^ 25 + 2 * m.a.toInt * tau
          0 ≤ tau → tau ≤ 4000000 → vel ≠ 0 → Completes (.residual k) s (fun t => t.uni = u.uni ∧ t.stb = s.stb ∧
            t.reg (A.stbRespos n) = (clip32 (divRound d (2 ^ 49))).1 ∧
            t.reg (A.stbRestime n) = wInt (max (-0x7FFFFFFF) (min 0x7FFFFFFF (divRound (-d) vel))) ∧
            (bits (s.reg (A.stbReslim n)) 30 0 < (max (-0x7FFFFFFF) (min 0x7FFFFFFF (divRound (-d) vel))).natAbs →
              Raised t 683))))))

/-- O49 (tier 2; R524, R525, R526, R527, R528, R529, R532, R533, R534, R538, Table 18-2). Without reach every access is
refused. A word pushed enters the FIFO, feeds a stalled LDX, or is refused for a full FIFO; a pop answers the oldest
word and lets a stalled PUSH in, or is NOT_READY. A start is taken at YIELD, pending otherwise, or NOT_READY. An
abort, a stall timeout and a disable end the transfer with its event and count, empty the FIFOs and release the pins;
the channel restarts at its entry, or stops. Enable starts a stopped channel. A microcode write goes to the shadow
bank only, and clears VERIFIED. A verification of 1 to 2048 words leaves OK only if every word is sound and the CRC
matches, and otherwise raises EV718. A refused token is posted again. -/
def Obligations.ShiftChannelsAndBanksObeyTheirRegisters : Prop :=
  (∀ (s : State) (ag : Agent) (n : Fin 24) (v : W32),
    (∀ i, i ∈ [Instr.shiftTxPush ag n v, Instr.shiftRxPop ag n, Instr.shiftStart ag n v, Instr.shiftAbort ag n,
        Instr.shiftDisable ag n v, Instr.shiftEnable ag n v] →
      (s.mayReach ag 0x11 = false → Completes i s (RefusedWith s .refusedRights)) ∧
      (s.mayReach ag 0x11 = true → s.pdOn 70 = false → Completes i s (RefusedWith s .refusedNotReady))) ∧
    (s.mayReach ag 0x11 = true → s.pdOn 70 = true →
      let x := s.chan n
      let stat := A.shfStat n
      let last := fun (st : Status) (t : State) => bits (t.reg stat) 23 16 = st.code
      let no := fun (st : Status) (t : State) => t.reply.status = st ∧ OnlyRegs s t [stat] ∧ last st t
      let entry := bits (s.reg (A.shfEntry n)) 10 0
      let emptied := fun (t : State) => (t.chan n).tx = [] ∧ (t.chan n).rx = [] ∧ (t.chan n).oe = 0#4 ∧ (t.chan n).xfer = none ∧
        (x.xfer.isSome = true → t.counter 0x110900 = s.counter 0x110900 + 1#64 ∧ Raised t (688 + n))
      let atEntry := fun (t : State) => (t.chan n).pc = entry ∧ (t.chan n).bank = s.activeBank ∧ (t.chan n).mode = .ready
      (∀ a, x.mode = .stallTx a → Completes (.shiftTxPush ag n v) s (fun t => t.reply.status = .ok ∧ last .ok t ∧
        t.chan n = { x with x := v, pc := (x.pc + 1) % 2048, mode := .ready, done := s.tb.now })) ∧
      ((∀ a, x.mode ≠ .stallTx a) →
        (8 ≤ x.tx.length → Completes (.shiftTxPush ag n v) s (no .refusedCapacity)) ∧
        (x.tx.length < 8 → Completes (.shiftTxPush ag n v) s (fun t => t.reply.status = .ok ∧ last .ok t ∧
          t.chan n = { x with tx := x.tx ++ [v] }))) ∧
      (x.rx = [] → Completes (.shiftRxPop ag n) s (no .refusedNotReady)) ∧
      (∀ w rest, x.rx = w :: rest →
        ((∀ a y, x.mode ≠ .stallRx a y) → Completes (.shiftRxPop ag n) s (fun t => t.reply.status = .ok ∧
          t.reply.value = w.setWidth 64 ∧ t.chan n = { x with rx := rest })) ∧
        (∀ a y, x.mode = .stallRx a y → Completes (.shiftRxPop ag n) s (fun t => t.reply.value = w.setWidth 64 ∧
          t.chan n = { x with rx := rest ++ [y], pc := (x.pc + 1) % 2048, mode := .ready, done := s.tb.now }))) ∧
      (s.mayStartChan n = false → Completes (.shiftStart ag n v) s (no .refusedNotReady)) ∧
      (s.mayStartChan n = true → bits v 15 0 ≠ 0 →
        (x.mode = .yielding → Completes (.shiftStart ag n v) s (fun t => t.reply.status = .ok ∧ last .ok t ∧
          (t.chan n).l = BitVec.ofNat 16 (bits v 15 0) ∧ (t.chan n).xfer = some (bits v 15 0, bits v 31 16) ∧
          (t.chan n).mode = .ready ∧ (t.chan n).pc = (x.pc + 1) % 2048 ∧ (t.chan n).flags = 0)) ∧
        (x.mode ≠ .yielding → Completes (.shiftStart ag n v) s (fun t => t.reply.status = .ok ∧ last .ok t ∧
          t.chan n = { x with pend := some (bits v 15 0, bits v 31 16) }))) ∧
      (s.chanOn n = false → Completes (.shiftAbort ag n) s (fun t => t.reply.status = .ok ∧ OnlyReply s t)) ∧
      (s.chanOn n = true → Completes (.shiftAbort ag n) s (fun t => t.reply.status = .ok ∧ emptied t ∧ atEntry t) ∧
        Completes (.shiftDisable ag n v) s (fun t => t.reply.status = .ok ∧ emptied t ∧ (t.chan n).mode = .stopped ∧
          t.chanOn n = false) ∧
        Completes (.shiftEnable ag n v) s (fun t => t.reply.status = .ok ∧ t.chan n = x ∧ t.chanOn n = true ∧
          bits (t.reg (A.shfChctl n)) 31 16 = bits v 31 16)) ∧
      (s.chanOn n = false → Completes (.shiftEnable ag n v) s (fun t => t.reply.status = .ok ∧ t.chanOn n = true ∧ atEntry t ∧
        (t.chan n).tx = x.tx ∧ bit (t.reg (A.shfChctl n)) 2 = bit v 2)))) ∧
  (∀ (s : State) (n : Fin 24),
    let us := bits (s.reg (A.shfStall n)) 15 0
    let stalled := (∃ a, (s.chan n).mode = .stallTx a) ∨ ∃ a y, (s.chan n).mode = .stallRx a y
    (¬ stalled ∨ us = 0 → Completes (.shiftStallTimeout n) s (fun t => t = s)) ∧
    (stalled → us ≠ 0 → Completes (.shiftStallTimeout n) s (fun t => (t.chan n).tx = [] ∧ (t.chan n).rx = [] ∧
      (t.chan n).xfer = none ∧ (t.chan n).mode = .ready ∧ (t.chan n).pc = bits (s.reg (A.shfEntry n)) 10 0 ∧ Raised t 712 ∧
      t.counter 0x110908 = s.counter 0x110908 + 1#64))) ∧
  (∀ s : State, (s.shf.retry = [] → Completes .shiftTokenRetry s (fun t => t = s)) ∧
    (∀ r, s.shf.retry = [r] → isPostable r.tag = true →
      (s.entryFree r.tag = false → Completes .shiftTokenRetry s (fun t => t.shf.retry = [{ r with retried := true }] ∧
        Raised t 717 ∧ t.counter 0x110920 = s.counter 0x110920 + 1#64)) ∧
      (s.entryFree r.tag = true → Unwanted s r.tag → Completes .shiftTokenRetry s (fun t => t.shf.retry = [] ∧
        Raised t 717 ∧ Queued s t r.tag { value := r.value, status := r.status, turn := false })))) ∧
  (∀ (s : State) (ag : Agent) (v : W32) (words : BitVec 12),
    (isBoss ag = false → Completes (.microcodeWrite ag v) s (RefusedWith s .refusedRights) ∧
      Completes (.bankVerify ag words) s (RefusedWith s .refusedRights)) ∧
    (isBoss ag = true → s.pdOn 70 = true →
      let bank := bits (s.reg A.shfUaddr) 16 16
      let a := bits (s.reg A.shfUaddr) 10 0
      let busy := bit (s.reg A.shfBankstat) 2 = true ∨ s.groupArmed 16 = true
      let no := fun (st : Status) (t : State) => t.reply.status = st ∧ OnlyRegs s t [A.shfWstat] ∧
        bits (t.reg A.shfWstat) 7 0 = st.code
      (bank = s.activeBank → Completes (.microcodeWrite ag v) s (no .refusedRights)) ∧
      (bank ≠ s.activeBank → busy → Completes (.microcodeWrite ag v) s (no .refusedNotReady)) ∧
      (bank ≠ s.activeBank → ¬ busy → Completes (.microcodeWrite ag v) s (fun t => t.reply.status = .ok ∧
        t.micro bank a = cat64 v (s.reg A.shfUdataLo) ∧ (∀ b c, c < 2048 → (b, c) ≠ (bank, a) → t.micro b c = s.micro b c) ∧
        bits (t.reg A.shfUaddr) 10 0 = (a + 1) % 2048 ∧ bit (t.reg A.shfBankstat) 1 = false ∧ t.shf.chans = s.shf.chans)) ∧
      (words = 0#12 → Completes (.bankVerify ag words) s (fun t => t.reply.status = .zeroLength ∧ OnlyReply s t)) ∧
      (2048 < words.toNat → Completes (.bankVerify ag words) s (fun t => t.reply.status = .refusedRange ∧ OnlyReply s t)) ∧
      (words ≠ 0#12 → words.toNat ≤ 2048 → Completes (.bankVerify ag words) s (fun t => t.reply.status = .ok ∧
        t.shf.verify = some (words.toNat, s.tb.now + BitVec.ofNat 64 (4 * words.toNat + 200)) ∧ t.regs = s.regs)))) ∧
  (∀ s : State, (s.shf.verify = none → Completes .bankVerifyDone s (fun t => t = s)) ∧
    (∀ words e, s.shf.verify = some (words, e) →
      let r := s.verifyBank words
      let stat := A.shfBankstat
      (r.1 = .ok ↔ (∀ a, a < words → microStatus (s.micro (1 - s.activeBank) a) words = .ok) ∧
        (∀ n, n < 24 → s.chanOn n = true → bits (s.shadowOf (A.shfEntry n)) 10 0 < words) ∧
        crc32c ((rangeFrom words 0).flatMap (fun a => leBytes 8 (s.micro (1 - s.activeBank) a).toNat)) = s.reg A.shfBankcrc) ∧
      Completes .bankVerifyDone s (fun t => t.shf.verify = none ∧ bit (t.reg stat) 1 = decide (r.1 = .ok) ∧
        bits (t.reg stat) 15 8 = r.1.code ∧ (r.1 ≠ .ok → Raised t 718) ∧ t.shf.code = s.shf.code)))

/-- O50 (tier 2; R521, R522, R523, R525, R526, R528, R530, R531, R536, Table 18-3, assumption 3). A ready channel issues
the word at its PC in its next slot, 48 ns apart; any other microinstruction and a channel that is not ready change
nothing. YIELD ends the transfer, switches banks, takes a pending start or waits. PIN sets drivers and levels. SHIFT
begins at the issue or, with SYNC, at T, plus its delay, and LATE marks a start that has passed; its end leaves Y in
the order of LSBF, S and FERR. LDX and PUSH move words or stall. DELAY, WAITT and WAITE wait and end with T, a timeout
with TO at TARGET. SETL, DJNZ, JMP and JB set L and PC. DONE ends the transfer with its event. No other channel
changes. -/
def Obligations.MicroinstructionsDriveTheChannels : Prop :=
  (∀ n t : Nat, n < 24 → slotFrom n t % 48 = 2 * n ∧ t ≤ slotFrom n t ∧ slotFrom n t < t + 48) ∧
  ∀ (s : State) (n : Fin 24),
    let x := s.chan n
    let m := s.micro x.bank x.pc
    let u := s.advance (slotFrom n (max s.time (x.done.toNat + 1)))
    let now := u.tb.now
    let next := (x.pc + 1) % 2048
    let only := fun (y : ShfChan) (t : State) => t.chan n = y ∧ (∀ j, j ≠ n.val → t.chan j = s.chan j) ∧
      t = { s with tb := t.tb, shf := { s.shf with chans := t.shf.chans } }
    let stepped := fun (y : ShfChan) => only { y with pc := next, mode := .ready, done := now }
    let goes := fun (y : ShfChan) (pc : Nat) => only { y with pc := pc % 2048, mode := .ready, done := now }
    let ends := fun (t : State) => x.xfer.isSome = true → t.counter 0x110900 = s.counter 0x110900 + 1#64 ∧ Raised t (688 + n)
    (∀ i op, (i, op) ∈ [(Instr.yield n, 1), (Instr.pin n, 2), (Instr.shift n, 3), (Instr.ldx n, 4), (Instr.push n, 5),
        (Instr.delay n, 6), (Instr.waitt n, 7), (Instr.waite n, 8), (Instr.setl n, 9), (Instr.djnz n, 10), (Instr.microJmp n, 11),
        (Instr.jb n, 12), (Instr.done n, 13), (Instr.microNop n, 14)] →
      x.mode ≠ .ready ∨ mop m ≠ op → Completes i s (fun t => t = s)) ∧
    (x.mode = .ready →
      (mop m = 1 →
        (x.bank ≠ s.activeBank → Completes (.yield n) s (fun t => ends t ∧
          let e := bits (s.reg (A.shfEntry n)) 10 0
          t.chan n = { x with xfer := none, mode := .ready, pc := e, bank := s.activeBank, done := now })) ∧
        (x.bank = s.activeBank →
          (∀ p, x.pend = some p → Completes (.yield n) s (fun t => ends t ∧ (t.chan n).l = BitVec.ofNat 16 p.1 ∧
            (t.chan n).xfer = some p ∧ (t.chan n).pend = none ∧ (t.chan n).flags = 0 ∧ (t.chan n).pc = next ∧
            (t.chan n).mode = .ready)) ∧
          (x.pend = none → Completes (.yield n) s (fun t => ends t ∧
            t.chan n = { x with xfer := none, mode := .yielding })))) ∧
      (mop m = 2 →
        let mask := BitVec.ofNat 4 (mbits m 35 32)
        let oe := (x.oe &&& ~~~mask) ||| (BitVec.ofNat 4 (mbits m 39 36) &&& mask)
        let level := (x.level &&& ~~~mask) ||| (BitVec.ofNat 4 (mbits m 43 40) &&& mask)
        Completes (.pin n) s (stepped { x with oe := oe, level := level })) ∧
      (mop m = 3 →
        let d := bits (s.reg (A.shfSdly n)) 7 0
        let base := (if mbits m 49 49 = 1 then x.t.toNat else u.time) + mbits m 31 16
        let first := base + (firstAction m d).getD 0
        let late := mbits m 49 49 = 1 ∧ first < u.time
        let start := if late then base + (u.time - first) else base
        (¬ late → Completes (.shift n) s (fun t => ∃ stop mark, only { x with mode := .shifting m (BitVec.ofNat 64 start) stop mark } t ∧
          stop = BitVec.ofNat 64 (start + lastAction m d))) ∧
        (late → Completes (.shift n) s (fun t => t.counter 0x110918 = s.counter 0x110918 + 1#64 ∧ ∃ stop mark,
          t.chan n = { x with late := true, mode := .shifting m (BitVec.ofNat 64 start) stop mark }))) ∧
      (mop m = 4 →
        (mbits m 33 32 = 0 → (∀ v rest, x.tx = v :: rest → Completes (.ldx n) s (stepped { x with x := v, tx := rest })) ∧
          (x.tx = [] → Completes (.ldx n) s (only { x with mode := .stallTx now }))) ∧
        (mbits m 33 32 = 1 → Completes (.ldx n) s (stepped { x with x := BitVec.ofNat 32 (imm m) })) ∧
        (mbits m 33 32 = 2 → Completes (.ldx n) s (stepped { x with x := x.l.setWidth 32 }))) ∧
      (mop m = 5 →
        let v := if mbits m 33 32 = 0 then x.y else if mbits m 33 32 = 1 then lo32 (x.s - s.tb.cycStart)
          else if mbits m 33 32 = 2 then BitVec.ofNat 32 x.flags else BitVec.ofNat 32 (imm m)
        (x.rx.length < 8 → Completes (.push n) s (stepped { x with rx := x.rx ++ [v] })) ∧
        (8 ≤ x.rx.length → Completes (.push n) s (only { x with mode := .stallRx now v }))) ∧
      (mop m = 6 → Completes (.delay n) s (only { x with mode := .delay (now + BitVec.ofNat 64 (imm m)) })) ∧
      (mop m = 7 →
        let at0 := s.tb.cycStart.toNat + imm m
        Completes (.waitt n) s (only { x with mode := .waitt (BitVec.ofNat 64 (if at0 < u.time then at0 + s.tb.cycLen else at0)) })) ∧
      (mop m = 8 →
        let stop := if imm m = 0 then none else some (now + BitVec.ofNat 64 (imm m))
        Completes (.waite n) s (only
          { x with mode := .waite (mbits m 33 32) (decide (mbits m 34 34 = 1)) stop (mbits m 45 35) })) ∧
      (mop m = 9 → Completes (.setl n) s (stepped { x with l := BitVec.ofNat 16 (mbits m 15 0) })) ∧
      (mop m = 10 → Completes (.djnz n) s (goes { x with l := x.l - 1#16 } (if x.l = 1#16 then x.pc + 1 else mbits m 42 32))) ∧
      (mop m = 11 → Completes (.microJmp n) s (goes x (mbits m 42 32))) ∧
      (mop m = 12 →
        let r := if mbits m 38 38 = 1 then BitVec.ofNat 32 x.flags else x.y
        Completes (.jb n) s (goes x (if bit r (mbits m 36 32) = decide (mbits m 37 37 = 1) then mbits m 49 39 else x.pc + 1))) ∧
      (mop m = 13 → Completes (.done n) s (fun t => ends t ∧ t.chan n =
          { x with xfer := none, pc := next, mode := .ready, done := now } ∧
        (∀ len tag, x.xfer = some (len, tag) → tag ≠ 0 → isPostable tag = true → s.entryFree tag = true → Unwanted s tag →
          mbits m 39 32 = 0 →
          let v := BitVec.ofNat 32 ((BitVec.ofNat 16 len - x.l).toNat + mbits m 15 0 * 0x10000)
          Queued s t tag { value := v, status := .ok, turn := false }))) ∧
      (mop m = 14 → Completes (.microNop n) s (stepped x))) ∧
    (∀ (din : W32) (b0 b1 : Bool),
      ((∀ w a stop k, x.mode ≠ .shifting w a stop k) → Completes (.shiftComplete n din b0 b1) s (fun t => t = s)) ∧
      (∀ w a stop k, x.mode = .shifting w a stop k → Completes (.shiftComplete n din b0 b1) s (fun t =>
        let y := t.chan n
        y.s = k ∧ y.pc = next ∧ y.mode = .ready ∧ y.x = x.x ∧ y.l = x.l ∧ y.tx = x.tx ∧ y.rx = x.rx ∧ y.xfer = x.xfer ∧
        (∀ j, j ≠ n.val → t.chan j = s.chan j) ∧ t.regs = s.regs ∧
        y.ferr = (x.ferr || (decide (mbits w 44 44 = 1) && decide (mbits w 50 50 = 1) && (b0 || !b1))) ∧
        (mbits w 44 44 = 0 → y.y = x.y) ∧
        (mbits w 44 44 = 1 → ∀ j : Nat, j < shiftN w →
          bit y.y (if mbits w 48 48 = 1 then j else shiftN w - 1 - j) = bit din j)))) ∧
    (∀ stop, (x.mode = .delay stop → Completes (.delayExpiry n) s (fun t => t.chan n =
        { x with t := stop, pc := next, mode := .ready, done := (s.advance stop.toNat).tb.now } ∧ t.regs = s.regs)) ∧
      (x.mode = .waitt stop → Completes (.waittExpiry n) s (fun t => t.chan n =
        { x with t := stop, pc := next, mode := .ready, done := (s.advance stop.toNat).tb.now } ∧ t.regs = s.regs))) ∧
    (∀ p rise d target, x.mode = .waite p rise d target →
      ((∃ e, d = some e ∧ e.toNat < s.time) ∨ x.oe.getLsbD p = true → Completes (.waiteEdge n) s (fun t => t = s)) ∧
      ((∀ e, d = some e → s.time ≤ e.toNat) → x.oe.getLsbD p = false → Completes (.waiteEdge n) s (fun t =>
        t.chan n = { x with t := s.tb.now, pc := next, mode := .ready, done := s.tb.now } ∧ t.regs = s.regs)) ∧
      (d = none → Completes (.waiteTimeout n) s (fun t => t = s)) ∧
      (∀ e, d = some e → Completes (.waiteTimeout n) s (fun t => t.chan n =
        { x with tmo := true, pc := target % 2048, mode := .ready, done := (s.advance e.toNat).tb.now } ∧ t.regs = s.regs)))

/-- O51 (tier 2; R539, R541, R543, R545, R548, R551, assumption 3). A route write is refused with RIGHTS to others than
the manager and warden slots, with SECURE for a secure source or target unless a warden slot writes, with RANGE for a
wrong form, and otherwise stored. A write of 1 to a pending bit clears it, but a secure source's bit for a warden slot
only. A refused event token is posted again: it is counted, and stays while it is refused. A pulse on EVTOUT ends at
its time. A raise of an event sets its pending bit and adds one to its count, which stops at 65 535, whatever its
route. -/
def Obligations.EventsAreRoutedClearedAndRetried : Prop :=
  (∀ (s : State) (ag : Agent) (e : Fin 768) (v : W32),
    let secure := secureEvent e = true ∨ bits v 7 0 = 3
    (isBoss ag = false → Completes (.routeWrite ag e v) s (RefusedWith s .refusedRights)) ∧
    (isBoss ag = true → secure → isWarden ag = false → Completes (.routeWrite ag e v) s (RefusedWith s .refusedSecure)) ∧
    (isBoss ag = true → ¬ secure ∨ isWarden ag = true →
      (s.routeForm e v = false → Completes (.routeWrite ag e v) s (RefusedWith s .refusedRange)) ∧
      (bits v 15 11 ≠ 0 ∨ 4 < bits v 7 0 ∨ (bits v 7 0 = 1 ∧ bits v 31 16 < 0x2000) ∨ (bits v 7 0 = 0 ∧ bits v 31 16 ≠ 0) ∨
        (bits v 7 0 = 4 ∧ 4 ≤ bits v 31 16) ∨ (bit v 10 = true ∧ secureEvent e = false) → s.routeForm e v = false) ∧
      (s.routeForm e v = true → Completes (.routeWrite ag e v) s (fun t => t.reply.status = .ok ∧
        t.reg (A.evrRoute e) = v ∧ OnlyRegs s t [A.evrRoute e])))) ∧
  (∀ (s : State) (ag : Agent) (k : Fin 24) (v : W32),
    let p := A.evrPend k
    (s.reaches ag 0x12 = false ∨ (isBoss ag = false ∧ isThread ag = false) → Completes (.pendClear ag k v) s (fun t =>
      t.reply.status = .refusedRights)) ∧
    (s.reaches ag 0x12 = true → isBoss ag = true ∨ isThread ag = true → Completes (.pendClear ag k v) s (fun t =>
      t.reply.status = .ok ∧ OnlyRegs s t [p] ∧ ∀ i, i < 32 → bit (t.reg p) i =
        (bit (s.reg p) i && !(bit v i && (isWarden ag || !secureEvent (32 * k.val + i))))))) ∧
  (∀ s : State, (s.evr.retry = [] → s.usedMain + s.reservedMain ≤ bits (s.reg A.lkpCtrl) 28 16 →
      Completes .eventTokenRetry s (fun t => t = s)) ∧
    (∀ (e : Nat) (v : W32),
      let r := s.reg (A.evrRoute e)
      let tag := if bits r 7 0 = 3 then 0x10000 + bits r 31 16 % 0x100 else bits r 31 16
      s.evr.retry = [(e, v)] → isPostable tag = true →
      (s.entryFree tag = false → Completes .eventTokenRetry s (fun t => t.evr.retry.head? = some (e, v) ∧ t.mem = s.mem ∧
        t.counter 0x120E10 = s.counter 0x120E10 + 1#64)) ∧
      (s.entryFree tag = true → Unwanted s tag → e ≠ 385 → Completes .eventTokenRetry s (fun t => (e, v) ∉ t.evr.retry ∧
        Queued s t tag { value := v, status := .ok, turn := false } ∧ t.counter 0x120E10 = s.counter 0x120E10 + 1#64)))) ∧
  (∀ (s : State) (p : Fin 4),
    (SMap.get (fun _ => none) s.evr.pulse p.val = none → Completes (.evtoutPulseEnd p) s (fun t => t = s)) ∧
    (∀ e, SMap.get (fun _ => none) s.evr.pulse p.val = some e → Completes (.evtoutPulseEnd p) s (fun t =>
      SMap.get (fun _ => none) t.evr.pulse p.val = none ∧ t.regs = s.regs ∧ t.mem = s.mem))) ∧
  (∀ (s : State) (e : Fin 768), Raised (s.raise e) e ∧ (s.raise e).mem = s.mem ∧
    (∀ a, ¬ EventReg a → (s.raise e).reg a = s.reg a) ∧
    (∀ i : Fin 768, bit (s.reg (A.evrPend (i / 32))) (i % 32) = true → Raised (s.raise e) i) ∧
    bits ((s.recordRaise e).reg (A.evrCount e)) 15 0 = min 0xFFFF (bits (s.reg (A.evrCount e)) 15 0 + 1))

/-- O52 (tier 2; R559, R560, R561, R564, R567, R568, Table 20-3, Table 20-4, assumption 7). For each operation of a warden
slot: inside the tag window 1 to 12 answer NOT_READY with EV725; a parameter block outside D-RAM answers RANGE; a zero
length, a KIND that may not be used, and an address or length out of range answer their status; in all these the key,
memory and the register stay. Otherwise LOAD_ROOT checks the root and loads it, LOAD_MEM, KDF and UNWRAP set the key
and its KIND, CLEAR clears it, KDF_OUT, ECB, CTR, CMAC, PUBKEY and the hashes store their result and keep the key,
SIGN joins the random queue, and VERIFY answers OK or RIGHTS. The cryptographic functions themselves are opaque. -/
def Obligations.KeyOperationsFollowTheirTable : Prop :=
  ∀ (s : State) (k : Fin 4) (blk : BitVec 12),
    let ans := fun (st : Status) (t : State) => t.reply.status = st ∧ bits (t.slot (512 + k)).ctx.flags 15 8 = st.code
    let kept := fun (t : State) => t.sec = s.sec ∧ t.reg A.secKstat = s.reg A.secKstat
    let no := fun (st : Status) (t : State) => ans st t ∧ kept t ∧ t.mem = s.mem
    (∀ i op, (i, op) ∈ [(Instr.loadRoot k blk, 1), (Instr.loadMem k blk, 2), (Instr.kdf k blk, 3), (Instr.kdfOut k blk, 4),
        (Instr.unwrap k blk, 5), (Instr.ecbEncrypt k blk, 6), (Instr.ecbDecrypt k blk, 7), (Instr.ctr k blk, 8),
        (Instr.cmac k blk, 9), (Instr.sign k blk, 10), (Instr.pubkey k blk, 11), (Instr.clear k blk, 12), (Instr.sha256 k blk, 13),
        (Instr.sha384 k blk, 14), (Instr.verify k blk, 15)] →
      (op ≤ 12 → s.cycleKey.isSome = true → Completes i s (fun t => no .refusedNotReady t ∧ Raised t 725)) ∧
      (12 < op ∨ s.cycleKey = none →
        (0x4000 < blk.toNat * 4 + 0x30 → Completes i s (no .refusedRange)) ∧
        (∀ b, s.keyBlock blk.toNat = some b →
          (s.opStatus0 op b ≠ .ok → Completes i s (no (s.opStatus0 op b))) ∧
          (opLength op = true → b.len = 0 → s.opStatus0 op b = .zeroLength) ∧
          (opLength op = false ∨ b.len ≠ 0 → opKind op s.keyKind = false → s.opStatus0 op b = .refusedRights) ∧
          (opLength op = true → 65536 < b.len → opKind op s.keyKind = true → s.opStatus0 op b = .refusedRange)))) ∧
    (∀ b, s.keyBlock blk.toNat = some b →
      let key := s.sec.key
      let input := fun (n : Nat) => (s.opKey b.src n).map (fun a => s.readBytes a n)
      let stores := fun (bs : List Byte) (t : State) => ans .ok t ∧ kept t ∧
        ∀ a, s.opKey b.dst bs.length = some a → (kShared ≤ a → s.sramLocked (a - kShared) bs.length = false) →
          t.readBytes a bs.length = bs ∧ SameMemoryBut s t a bs.length
      let keyed := fun (v : BitVec 256) (kind : Nat) (t : State) => ans .ok t ∧ t.sec = { s.sec with key := v } ∧
        t.keyKind = kind ∧ t.mem = s.mem
      (s.opStatus0 13 b = .ok → ∀ bs, input b.len = some bs →
        Completes (.sha256 k blk) s (stores (beBytes 32 (Config.sha256 bs).toNat))) ∧
      (s.opStatus0 14 b = .ok → ∀ bs, input b.len = some bs →
        Completes (.sha384 k blk) s (stores (beBytes 48 (Config.sha384 bs).toNat))) ∧
      (s.opStatus0 15 b = .ok → ∀ bs, input 160 = some bs → Completes (.verify k blk) s (fun t => kept t ∧ t.mem = s.mem ∧
        ans (if Config.ecdsaVerify (word256 (bs.take 32)) (BitVec.ofNat 512 (beNat ((bs.drop 32).take 64)))
          (BitVec.ofNat 512 (beNat ((bs.drop 96).take 64))) = true then .ok else .refusedRights) t)) ∧
      (s.cycleKey = none →
        (s.sec.rootCrc = crc32c (bytes256 s.sec.root) → s.sec.root ≠ 0#256 →
          Completes (.loadRoot k blk) s (keyed s.sec.root 1)) ∧
        (s.sec.rootCrc = crc32c (bytes256 s.sec.root) → s.sec.root = 0#256 →
          Completes (.loadRoot k blk) s (no .refusedNotReady)) ∧
        (s.sec.rootCrc ≠ crc32c (bytes256 s.sec.root) → Completes (.loadRoot k blk) s (fun t => ans .refusedNotReady t ∧
          t.sec.root = 0#256 ∧ t.sec.key = key ∧ Raised t 727 ∧ t.mem = s.mem)) ∧
        (s.opStatus0 2 b = .ok → ∀ bs, input 32 = some bs → Completes (.loadMem k blk) s (keyed (word256 bs) 3)) ∧
        (s.opStatus0 3 b = .ok →
          (b.label = labelCycl → Completes (.kdf k blk) s (fun t => keyed (kdf key b.label b.context) 4 t ∧
            t.reg A.secKcycle = BitVec.ofNat 32 (beNat (b.context.take 4)))) ∧
          (b.label ≠ labelCycl → Completes (.kdf k blk) s
            (keyed (kdf key b.label b.context) (if s.keyKind = 1 ∨ s.keyKind = 2 then 2 else 3)))) ∧
        (s.opStatus0 4 b = .ok → Completes (.kdfOut k blk) s (stores (bytes256 (kdf key b.label b.context)))) ∧
        (s.opStatus0 5 b = .ok → ∀ bs, input 32 = some bs → Completes (.unwrap k blk) s
          (keyed (word256 (ecbBlocks (Config.aesDec key) 2 bs)) (if s.keyKind = 1 ∨ s.keyKind = 2 then 2 else 3))) ∧
        (s.opStatus0 6 b = .ok → ∀ bs, input b.len = some bs →
          Completes (.ecbEncrypt k blk) s (stores (ecbBlocks (Config.aesEnc key) (b.len / 16) bs))) ∧
        (s.opStatus0 7 b = .ok → ∀ bs, input b.len = some bs →
          Completes (.ecbDecrypt k blk) s (stores (ecbBlocks (Config.aesDec key) (b.len / 16) bs))) ∧
        (s.opStatus0 8 b = .ok → ∀ bs, input b.len = some bs → Completes (.ctr k blk) s (stores (aesCtr key b.iv bs))) ∧
        (s.opStatus0 9 b = .ok → ∀ bs, input b.len = some bs →
          Completes (.cmac k blk) s (stores (beBytes 16 (Config.cmac key bs).toNat))) ∧
        (s.opStatus0 10 b = .ok →
          (s.rngStatus ≠ .ok → Completes (.sign k blk) s (no s.rngStatus)) ∧
          (s.rngStatus = .ok → ∀ bs, input 32 = some bs → Completes (.sign k blk) s (fun t => t.reply.status = .ok ∧
            t.mem = s.mem ∧ t.sec.key = key ∧ ∃ r, t.sec.queue = s.sec.queue ++ [r] ∧ r.words = 8 ∧
              r.sign = some { d := key, digest := word256 bs, dst := b.dst } ∧
              ((s.slot (512 + k)).thread.isSome = true → (t.slot (512 + k)).held.isSome = true)))) ∧
        (s.opStatus0 11 b = .ok → Completes (.pubkey k blk) s (stores (beBytes 64 (Config.ecdsaPub key).toNat))) ∧
        (s.opStatus0 12 b = .ok → Completes (.clear k blk) s (keyed 0#256 0))))

/-- O53 (tier 2; R567, R569, R570, R571, R574, R575, R576, R577, R578, R596). A request is refused with HEALTH_FAIL once
FAILED is latched, for a tag nobody may post to, or for a full queue; else it joins the queue. While the DRBG runs,
the head request gets its words: a token, the response words of the mailbox, a new root, or a signature; a word whose
token is refused is lost and its request stays first. A timeout removes its request with EV723. The third consecutive
entropy failure latches FAILED and empties the queue. INSTALL sets a root on a keyless device that is not zero,
GENERATE asks for 8 words. An enabled tamper source zeroes the root and, with VIN, the key, warden D-RAM and the
secure partition, ends a grant and resets the warden. -/
def Obligations.RandomWordsTheRootAndTamper : Prop :=
  (∀ (s : State) (w : SlotId) (v : W32),
    let tag := tagFor (slotWarden w) (bits v 15 0)
    let ans := fun (st : Status) (t : State) => t.reply.status = st ∧ bits (t.slot w).ctx.flags 15 8 = st.code
    let no := fun (st : Status) (t : State) => ans st t ∧ t.sec = s.sec ∧ t.regs = s.regs
    (s.rngState = 3 → Completes (.rngReq w v) s (no .healthFail)) ∧
    (s.rngState ≠ 3 → isPostable tag = false → Completes (.rngReq w v) s (no .refusedRange)) ∧
    (s.rngState ≠ 3 → isPostable tag = true →
      (64 ≤ s.sec.queue.length → Completes (.rngReq w v) s (no .refusedCapacity)) ∧
      (s.sec.queue.length < 64 → Completes (.rngReq w v) s (fun t => ans .ok t ∧ t.regs = s.regs ∧
        t.sec.queue = s.sec.queue ++ [{ kind := 0, agent := slotAgent w, tag := tag, words := 1, sign := none,
                                        deadline := s.time + bits (s.slot w).rngTmo 15 0 * 1000 }])))) ∧
  (∀ (s : State),
    (s.sec.queue = [] ∨ s.rngState ≠ 1 → Completes .randomServe s (fun t => t = s)) ∧
    (∀ r rest, s.sec.queue = r :: rest → s.rngState = 1 →
      let words := (rangeFrom r.words s.sec.drawn).map (fun i => (Config.drbg i).setWidth 32)
      (r.kind = 0 → r.words = 1 → isPostable r.tag = true → (s.sec.drawn + 1) % 65536 ≠ 0 →
        (s.entryFree r.tag = true → Unwanted s r.tag → Completes .randomServe s (fun t => t.sec.queue = rest ∧
          t.sec.drawn = s.sec.drawn + 1 ∧
          Queued s t r.tag { value := (Config.drbg s.sec.drawn).setWidth 32, status := .ok, turn := false })) ∧
        (s.entryFree r.tag = false → Completes .randomServe s (fun t => t.sec.queue = r :: rest ∧
          t.sec.drawn = s.sec.drawn + 1))) ∧
      (r.kind = 1 → r.words ≤ 8 → Completes .randomServe s (fun t => t.sec.queue = rest ∧
        (∀ j, j < r.words → t.reg (A.secMrsp j) = nth words j 0#32) ∧ bits (t.reg A.secMstat) 9 8 = 2 ∧
        bits (t.reg A.secMstat) 7 0 = 0)) ∧
      (r.kind = 2 → Completes .randomServe s (fun t => t.sec.queue = rest ∧
        t.sec.root = BitVec.ofNat 256 (wordsNat words) ∧ t.sec.rootCrc = crc32c (bytes256 t.sec.root) ∧
        bits (t.reg A.secRootctl) 31 24 = 0)) ∧
      (∀ g a, r.kind = 3 → r.sign = some g → s.opKey g.dst 64 = some a → (kShared ≤ a → s.sramLocked (a - kShared) 64 = false) →
        Completes .randomServe s (fun t => t.sec.queue = rest ∧ SameMemoryBut s t a 64 ∧
          t.readBytes a 64 = beBytes 64 (Config.ecdsaSign g.d g.digest (BitVec.ofNat 256 (wordsNat words))).toNat))) ∧
    (∀ k : Fin 64, (s.sec.queue[k.val]? = none → Completes (.randomTimeout k) s (fun t => t = s)) ∧
      (∀ r, s.sec.queue[k.val]? = some r → Completes (.randomTimeout k) s (fun t => Raised t 723 ∧
        t.sec.queue = s.sec.queue.eraseIdx k.val ∧ t.mem = s.mem ∧
        (r.kind = 1 → bits (t.reg A.secMstat) 9 8 = 2 ∧ bits (t.reg A.secMstat) 7 0 = Status.noEntropy.code) ∧
        (r.kind = 2 → bits (t.reg A.secRootctl) 31 24 = Status.noEntropy.code)))) ∧
    (s.rngState = 1 ∨ s.rngState = 3 → Completes .entropyStartupComplete s (fun t => t = s)) ∧
    (s.rngState = 0 ∨ s.rngState = 2 → Completes .entropyStartupComplete s (fun t => t.rngState = 1 ∧ t.sec = s.sec ∧
      (s.rngState = 2 → Raised t 722))) ∧
    (s.rngState = 3 → Completes .entropyFailure s (fun t => t = s)) ∧
    (s.rngState ≠ 3 → bits (s.reg A.secRngstat) 3 2 < 2 → Completes .entropyFailure s (fun t => Raised t 720 ∧ t.sec = s.sec ∧
      bits (t.reg A.secRngstat) 3 2 = bits (s.reg A.secRngstat) 3 2 + 1 ∧
      t.rngState = (if s.rngState = 0 then 0 else 2))) ∧
    (s.rngState ≠ 3 → 2 ≤ bits (s.reg A.secRngstat) 3 2 → Completes .entropyFailure s (fun t => t.rngState = 3 ∧
      t.sec.queue = [] ∧ Raised t 720 ∧ Raised t 721)) ∧
    (s.rngState = 1 → Completes .entropyFailureCountReset s (fun t => bits (t.reg A.secRngstat) 3 2 = 0 ∧
      OnlyRegs s t [A.secRngstat])) ∧
    (s.rngState ≠ 1 → Completes .entropyFailureCountReset s (fun t => t = s))) ∧
  (∀ (s : State) (k : Fin 4) (addr : BitVec 12),
    let ans := fun (st : Status) (t : State) => t.reply.status = st ∧ bits (t.slot (512 + k)).ctx.flags 15 8 = st.code ∧
      bits (t.reg A.secRootctl) 31 24 = st.code ∧ t.mem = s.mem
    let allowed := s.sec.root = 0#256 ∧ 2 ≤ s.lcs' ∧ s.lcs' ≤ 4
    let v := word256 (s.readBytes (kDram 64 + addr.toNat * 4) 32)
    (s.sec.root ≠ 0#256 → Completes (.install k addr) s (fun t => ans .refusedNotReady t ∧ t.sec = s.sec) ∧
      Completes (.generate k) s (fun t => ans .refusedNotReady t ∧ t.sec = s.sec)) ∧
    (s.sec.root = 0#256 → s.lcs' < 2 ∨ 4 < s.lcs' → Completes (.install k addr) s (fun t => ans .refusedRights t ∧ t.sec = s.sec) ∧
      Completes (.generate k) s (fun t => ans .refusedRights t ∧ t.sec = s.sec)) ∧
    (allowed → 0x4000 < addr.toNat * 4 + 32 ∨ v = 0#256 → Completes (.install k addr) s (fun t =>
      ans .refusedRange t ∧ t.sec = s.sec)) ∧
    (allowed → addr.toNat * 4 + 32 ≤ 0x4000 → v ≠ 0#256 → Completes (.install k addr) s (fun t => ans .ok t ∧
      t.sec = { s.sec with root := v, rootCrc := crc32c (bytes256 v) })) ∧
    (allowed → s.rngStatus ≠ .ok → Completes (.generate k) s (fun t => ans s.rngStatus t ∧ t.sec = s.sec)) ∧
    (allowed → s.rngStatus = .ok → Completes (.generate k) s (fun t => t.reply.status = .ok ∧ t.regs = s.regs ∧
      ∃ r, t.sec = { s.sec with queue := s.sec.queue ++ [r] } ∧ r.kind = 2 ∧ r.words = 8))) ∧
  (∀ (s : State) (i : Fin 8) (secs : W32) (vin : Bool),
    (bit (s.reg A.secTampcfg) i = false → Completes (.tamperDetect i secs vin) s (fun t => t = s)) ∧
    (bit (s.reg A.secTampcfg) i = true → Completes (.tamperDetect i secs vin) s (fun t => t.sec.root = 0#256 ∧
      bit (t.reg A.secTamprec) i = true ∧ t.reg A.secTamptime = secs ∧ bit (t.reg A.secTampcfg) 31 = false ∧
      (vin = false → t.sec.lateTamper = true ∧ t.mem = s.mem ∧ t.sec.key = s.sec.key) ∧
      (vin = true → t.sec.key = 0#256 ∧ t.keyKind = 0 ∧ t.lcs.grant = none ∧ Raised t 726 ∧ Raised t 727 ∧
        (s.shp.secure.wardenI = [] → ∀ a, a < 0x4000 → t.readByte (kDram 64 + a) = 0#8) ∧
        (s.sramLocked s.shp.secure.ssBase s.shp.secure.ssLen = false → ∀ o, o < s.shp.secure.ssLen →
          t.readByte (kShared + s.shp.secure.ssBase + o) = 0#8)))))

/-- O54 (tier 2; R555, R556, R557, R563, R579, R580, R581, R582, R583, Table 20-8). The mailbox serves the manager and
warden slots, drops a write while BUSY, echoes SEQ and copies the request. STATUS answers SEC_NSTAT and the failure
count; RANDOM of 1 to 8 words joins the random queue; other operations below 0x80 are out of range, those above go to
the warden's tag with EV731. SEC_MDONE copies the response and its status; a timeout ends a pending request with
TIMEOUT. A kick with its key restarts the watchdog; its first expiry raises EV729 and resets the warden; so does
SEC_WRESET with its key: slots empty, key cleared, warden tokens gone, D-RAM reloaded and the root thread at 0x0100.
Hold writes store their bits. The tag window closes with a token of the cycle when its conditions hold. -/
def Obligations.TheWardenMailboxWatchdogAndHolds : Prop :=
  (∀ (s : State) (ag : Agent) (seq : BitVec 16) (op : BitVec 8),
    let stat := A.secMstat
    let taken := fun (t : State) => bits (t.reg stat) 31 16 = seq.toNat ∧
      ∀ j, j < 8 → t.reg (A.secMin j) = s.reg (A.secMreq j)
    let ended := fun (st : Status) (t : State) => taken t ∧ bits (t.reg stat) 9 8 = 2 ∧ bits (t.reg stat) 7 0 = st.code ∧
      t.reply.status = st
    let waits := fun (t : State) => taken t ∧ bits (t.reg stat) 9 8 = 1 ∧ t.reply.status = .ok ∧
      t.sec.mboxEnd = s.time + 100000000
    let n := bits (s.reg (A.secMreq 0)) 3 0
    (∀ i, i ∈ [Instr.wardenStatus ag seq, Instr.random ag seq, Instr.mailboxForward ag op seq] →
      (isBoss ag = false → Completes i s (RefusedWith s .refusedRights)) ∧
      (isBoss ag = true → s.mboxBusy = true → Completes i s (RefusedWith s .refusedNotReady))) ∧
    (isBoss ag = true → s.mboxBusy = false →
      Completes (.wardenStatus ag seq) s (fun t => ended .ok t ∧ t.reg (A.secMrsp 0) = s.nstatWord ∧
        t.reg (A.secMrsp 1) = BitVec.ofNat 32 (bits (s.reg A.secRngstat) 3 2)) ∧
      (n = 0 ∨ 8 < n → Completes (.random ag seq) s (fun t => ended .refusedRange t ∧ t.sec.queue = s.sec.queue)) ∧
      (1 ≤ n → n ≤ 8 →
        (s.rngStatus ≠ .ok → Completes (.random ag seq) s (fun t => ended s.rngStatus t ∧ t.sec.queue = s.sec.queue)) ∧
        (s.rngStatus = .ok → Completes (.random ag seq) s (fun t => waits t ∧ t.sec.queue = s.sec.queue ++
          [{ kind := 1, agent := ag, tag := 0, words := n, deadline := s.time + 1000000, sign := none }]))) ∧
      (op.toNat < 0x80 → Completes (.mailboxForward ag op seq) s (ended .refusedRange)) ∧
      (0x80 ≤ op.toNat → Completes (.mailboxForward ag op seq) s (fun t => waits t ∧ Raised t 731 ∧
        (let g := 0x10000 + bits (s.reg A.secMtag) 7 0
         g ≠ 0x10000 → s.entryFree g = true → Unwanted s g →
          Queued s t g { value := BitVec.ofNat 32 op.toNat, status := .ok, turn := false }))))) ∧
  (∀ (s : State) (k : Fin 4) (v : W32),
    let clean := fun (t : State) => t.sec.key = 0#256 ∧ t.keyKind = 0 ∧ (∀ j, j < 4 → t.slot (512 + j) = Slot.init) ∧
      (∀ g, 0x10000 ≤ g → t.tokens g = []) ∧ (s.shp.secure.wardenI ≠ [] →
        (∀ j, j < 4 → (s.slot (512 + j)).stores = []) →
        t.readBytes (kDram 64) 0x4000 = s.readBytes kImageStore 0x4000 ∧ ∃ n, 2048 ≤ n ∧ (t.thread n).st = .ready ∧
          (t.thread n).program = 32 ∧ (t.thread n).ctx.pc = 0x100#32)
    (bits v 31 16 ≠ 0xD1E5 → Completes (.wardenReset k v) s (fun t => t.reply.status = .ok ∧ t.sec = s.sec ∧ t.lk = s.lk ∧
      t.regs = s.regs ∧ t.mem = s.mem)) ∧
    (bits v 31 16 = 0xD1E5 → Completes (.wardenReset k v) s clean) ∧
    (bits v 31 16 ≠ 0x4B1C ∨ s.sec.wdEnd = 0 → Completes (.watchdogKick k v) s (fun t => t.sec = s.sec ∧ t.regs = s.regs)) ∧
    (bits v 31 16 = 0x4B1C → s.sec.wdEnd ≠ 0 → Completes (.watchdogKick k v) s (fun t => t.regs = s.regs ∧
      t.sec = { s.sec with wdEnd := s.time + bits (s.reg A.secWdcfg) 13 0 * 1000000, wdExpired := false })) ∧
    (s.sec.wdEnd = 0 ∨ s.sec.wdExpired = true → Completes .watchdogExpiry s (fun t => t = s)) ∧
    (s.sec.wdEnd ≠ 0 → s.sec.wdExpired = false → Completes .watchdogExpiry s (fun t => clean t ∧ t.sec.wdExpired = true ∧
      Raised t 729)) ∧
    (s.mboxBusy = true → s.mboxRandom = false → Completes (.mailboxDone k v) s (fun t =>
      (∀ j, j < 8 → t.reg (A.secMrsp j) = s.reg (A.secMout j)) ∧ bits (t.reg A.secMstat) 9 8 = 2 ∧
      bits (t.reg A.secMstat) 7 0 = bits v 7 0 ∧ bits (t.reg A.secMstat) 31 16 = bits (s.reg A.secMstat) 31 16)) ∧
    (s.mboxBusy = false → Completes (.mailboxDone k v) s (fun t => t.regs = s.regs ∧ t.sec = s.sec) ∧
      Completes .mailboxTimeout s (fun t => t = s)) ∧
    (s.mboxBusy = true → Completes .mailboxTimeout s (fun t => bits (t.reg A.secMstat) 9 8 = 2 ∧
      bits (t.reg A.secMstat) 7 0 = Status.timeout.code ∧ t.reply.status = .timeout ∧ t.mem = s.mem)) ∧
    (∀ w : Fin 4,
      let a := if w = 3 then A.secHoldck else A.secHoldpd w
      let mask : W32 := if w = 2 then 0xFFFFF#32 else if w = 3 then 0x3FFF#32 else 0xFFFFFFFF#32
      Completes (.secureHoldWrite k w v) s (fun t => t.reply.status = .ok ∧ t.reg a = v &&& mask ∧ SameRegsBut s t [a] ∧
        t.mem = s.mem ∧ t.pdHeld 81 = true))) ∧
  (∀ s : State,
    let open' := bit (s.reg A.secKstat) 3 = true
    let g := 0x10000 + bits (s.reg A.secKwtag) 7 0
    (¬ open' ∨ s.tagWindowDone = false → Completes .tagWindowClose s (fun t => t = s)) ∧
    (s.tb.fence = true → s.tagWindowDone = true) ∧
    (open' → s.tagWindowDone = true → Completes .tagWindowClose s (fun t => bit (t.reg A.secKstat) 3 = false ∧
      t.sec = s.sec ∧ (g ≠ 0x10000 → s.entryFree g = true → Unwanted s g →
        Queued s t g { value := s.cycle, status := .ok, turn := false }))))

/-- O55 (tier 2; R584, R586, R587, R589, R590, R591, R593, R594, R598, Table 21-4, Table 21-5, assumption 6). A request
from the mailbox, with its place checked first, or from the debug TAP fails its form, its nonce or its rights with the
status of Table 21-4, kept in LCS_STATE, and changes nothing but the nonce it used, with EV735 for DEBUG; else it is
accepted, with EV732 for a transition. An accepted transition burns the target's fuse group and no other, so that the
state is the target, ends the grant and raises EV733; OEM burns slots 2 and 3 first; ANALYSIS and SCRAP zero root and
key first and write the record with WIPED 0. Fuses that do not read back end it with TIMEOUT and EV743. The wipe
erases the flash data, and the banks for SCRAP, writes WIPED 1 and resets the chip. SCRAP_RAW and OTP_PROG act in RAW
from S04 on, each fuse field once, else they are counted and act as BYPASS. -/
def Obligations.TransitionsAreCheckedPerformedAndWiped : Prop :=
  (∀ (s : State) (ag : Agent) (seq : BitVec 16) (tap : Bool) (bytes : List Byte),
    let o := (s.reg (A.secMreq 0)).toNat
    let n := (s.reg (A.secMreq 1)).toNat
    let r := if tap = true then listRd bytes else s.sramRd o
    let kind := rdLE r 4 1
    let served := if tap = true then 4 ≤ s.boot.step else
      isBoss ag = true ∧ s.mboxBusy = false ∧ bit (s.reg A.secNstat) 4 = true
    let placed := tap = true ∨ (n = 240 ∧ s.stagingOk o 240 = true)
    let refused := fun (st : Status) (t : State) => t.reply.status = st ∧ bits (t.reg A.lcsState) 23 16 = st.code ∧
      t.lcs = { s.lcs with tapStatus := if tap = true then st.code else s.lcs.tapStatus } ∧ t.mem = s.mem ∧
        (tap = false → bits (t.reg A.secMstat) 9 8 = 2 ∧ bits (t.reg A.secMstat) 7 0 = st.code)
    let failed := fun (st : Status) (t : State) => refused st t ∧ (kind = 2 → Raised t 735)
    let cmd := Instr.lcsRequest ag seq tap bytes
    (tap = false → isBoss ag = false → Completes cmd s (RefusedWith s .refusedRights)) ∧
    (tap = false → isBoss ag = true → s.mboxBusy = true → Completes cmd s (RefusedWith s .refusedNotReady)) ∧
    (tap = true → s.boot.step < 4 → Completes cmd s (fun t => t = s)) ∧
    (tap = true → 4 ≤ s.boot.step → s.lcs.accepted.isSome = true → Completes cmd s (fun t => t.lcs = s.lcs ∧ t.regs = s.regs)) ∧
    (served → tap = false → s.lcs.accepted.isSome = true → Completes cmd s (refused .refusedNotReady)) ∧
    (served → s.lcs.accepted = none →
      (tap = false → n = 0 → Completes cmd s (refused .zeroLength)) ∧
      (tap = false → n ≠ 0 → ¬ placed → Completes cmd s (refused .refusedRange)) ∧
      (placed → s.requestForm r ≠ .ok → Completes cmd s (fun t => failed (s.requestForm r) t ∧ t.sec.nonce = s.sec.nonce)) ∧
      (placed → s.requestForm r = .ok → rdLE r 8 8 = s.unitId.toNat ∧
        (s.sec.nonce.map (·.1) ≠ some (BitVec.ofNat 128 (beNat (rdBytes r 0x10 16))) →
          Completes cmd s (fun t => failed .refusedNotReady t ∧ t.sec.nonce = none)) ∧
        (s.sec.nonce.map (·.1) = some (BitVec.ofNat 128 (beNat (rdBytes r 0x10 16))) →
          (s.requestRights r ≠ .ok → Completes cmd s (fun t => failed (s.requestRights r) t ∧ t.sec.nonce = none)) ∧
          (s.requestRights r = .ok → Completes cmd s (fun t => t.reply.status = .ok ∧ t.sec.nonce = none ∧ t.mem = s.mem ∧
            (kind = 1 → Raised t 732) ∧ t.lcs.otp = s.lcs.otp ∧ t.lcs.grant = s.lcs.grant ∧
            t.lcs.accepted = some { kind := kind, arg := rdLE r 5 1, duration := rdLE r 0x20 4, extra := rdBytes r 0x70 64,
                                    tap := tap })))))) ∧
  (∀ (s : State) (keysOk : Bool) (got : BitVec 3),
    let burned := fun (target : Nat) (v : BitVec 3) (t : State) =>
      ∀ i, i < 5 → nth t.lcs.otp.groups i 0#3 =
        if i + 2 = target then nth s.lcs.otp.groups i 0#3 ||| v else nth s.lcs.otp.groups i 0#3
    let zeroed := fun (t : State) => t.sec.root = 0#256 ∧ t.sec.key = 0#256 ∧ t.keyKind = 0 ∧ Raised t 727 ∧
      t.updRec = { s.updRec with wiped := false, seq := s.updRec.seq + 1#32 }
    let same := fun (t : State) => t.sec = s.sec ∧ t.mem = s.mem
    let entered := fun (target : Nat) (t : State) =>
      (got ≠ 7#3 → Raised t 743 ∧ t.lcs.grant = s.lcs.grant ∧ t.lcs.wipe = s.lcs.wipe) ∧
      (got = 7#3 → Raised t 733 ∧ t.lcs.grant = none ∧ (s.lcs' ≤ target → t.lcs' = target) ∧
        t.lcs.wipe = if target = 5 ∨ target = 6 then some target else s.lcs.wipe)
    (s.lcs.accepted = none → Completes (.transition keysOk got) s (fun t => t = s)) ∧
    (∀ q, s.lcs.accepted = some q → (q.kind ≠ 1 → Completes (.transition keysOk got) s (fun t => t = s)) ∧
      (q.kind = 1 → 2 ≤ q.arg → q.arg ≤ 6 → (q.arg = 3 → keysOk = true) → Completes (.transition keysOk got) s (fun t =>
        let st := if got = 7#3 then Status.ok else .timeout
        t.lcs.accepted = none ∧ t.reply.status = st ∧ bits (t.reg A.lcsState) 23 16 = st.code ∧ burned q.arg got t ∧
        entered q.arg t ∧ (if q.arg = 5 ∨ q.arg = 6 then zeroed t else same t) ∧
        (∀ i, i < 4 → nth t.lcs.otp.keys i 0#256 = if q.arg = 3 ∧ 2 ≤ i then
          nth s.lcs.otp.keys i 0#256 ||| extraHash q.extra (i - 2) else nth s.lcs.otp.keys i 0#256))) ∧
      (q.kind = 1 → q.arg = 3 → keysOk = false → Completes (.transition keysOk got) s (fun t => t.lcs.accepted = none ∧
        t.reply.status = .timeout ∧ Raised t 743 ∧ t.lcs.otp.groups = s.lcs.otp.groups ∧ same t ∧
        ∀ i, i < 2 → nth t.lcs.otp.keys i 0#256 = nth s.lcs.otp.keys i 0#256))) ∧
    (∀ v : W32,
      (s.boot.step < 4 → Completes (.scrapRaw v got) s (fun t => t = s)) ∧
      (4 ≤ s.boot.step → s.lcs' ≠ 1 → Completes (.scrapRaw v got) s (fun t => t.reply.status = .refusedRights ∧
        t.jtag.debugIr = 0xFF ∧ t.lcs = s.lcs ∧ same t ∧
        bits (t.reg A.lcsDebug) 7 3 = min 31 (bits (s.reg A.lcsDebug) 7 3 + 1))) ∧
      (4 ≤ s.boot.step → s.lcs' = 1 → v ≠ 0x53435250#32 → Completes (.scrapRaw v got) s (fun t => t.lcs = s.lcs ∧ same t)) ∧
      (4 ≤ s.boot.step → s.lcs' = 1 → v = 0x53435250#32 → Completes (.scrapRaw v got) s (fun t => burned 6 got t ∧
        entered 6 t ∧ zeroed t)))) ∧
  (∀ (s : State) (target : BitVec 8) (v : BitVec 256),
    let old := s.lcs.otp
    let ends := fun (st : Status) (t : State) => t.reply.status = st ∧ t.lcs.otpStatus = st.code ∧ t.regs = s.regs ∧
      t.mem = s.mem
    (s.boot.step < 4 → Completes (.otpProg target v) s (fun t => t = s)) ∧
    (4 ≤ s.boot.step → s.lcs' ≠ 1 → Completes (.otpProg target v) s (fun t => t.reply.status = .refusedRights ∧
      t.jtag.debugIr = 0xFF ∧ t.lcs = s.lcs)) ∧
    (4 ≤ s.boot.step → s.lcs' = 1 →
      (target = 0#8 → old.uid = none → Completes (.otpProg target v) s (fun t => ends .ok t ∧
        t.lcs.otp = { old with uid := some (v.setWidth 64) })) ∧
      (target = 0#8 → old.uid.isSome = true → Completes (.otpProg target v) s (fun t => ends .refusedRights t ∧ t.lcs.otp = old)) ∧
      (∀ i, i < 2 → target.toNat = i + 1 →
        (nth old.keys i 0#256 ≠ 0#256 → Completes (.otpProg target v) s (fun t => ends .refusedRights t ∧ t.lcs.otp = old)) ∧
        (old.keys.length = 4 → nth old.keys i 0#256 = 0#256 → Completes (.otpProg target v) s (fun t => ends .ok t ∧
          t.lcs.otp = { old with keys := old.keys.set i v }))) ∧
      (3 ≤ target.toNat → Completes (.otpProg target v) s (fun t => ends .refusedRange t ∧ t.lcs.otp = old)))) ∧
  (∀ s : State,
    (s.lcs.wipe = none → Completes .transitionWipe s (fun t => t = s)) ∧
    (∀ target, s.lcs.wipe = some target → s.shp.secure.ssBase + s.shp.secure.ssLen ≤ 0x400000 →
      Completes .transitionWipe s (fun t => t.updRec = { s.updRec with wiped := true, seq := s.updRec.seq + 1#32 } ∧
        (∀ a, a < 0x1FB000 → t.readByte (kData + a) = 0xFF#8) ∧
        (∀ a, a < 0x600000 → t.readByte (kFlash + a) = if target = 6 then 0xFF#8 else s.readByte (kFlash + a)) ∧
        (∀ a, 0x1FD000 ≤ a → a < 0x200000 → t.readByte (kData + a) = s.readByte (kData + a)) ∧
        (∀ a, a < 0x4000 → t.readByte (kDram 64 + a) = 0#8 ∧ t.readByte (kImageStore + a) = 0#8) ∧
        t.sec.key = 0#256 ∧ t.sec.root = s.sec.root ∧ t.lcs.otp = s.lcs.otp ∧ t.lcs.wipe = none ∧ t.lcs.grant = none ∧
        t.reg A.bootCause = 4#32 ∧ t.boot.running = true ∧ t.boot.step = 3)))

/-- O56 (tier 2; R588, R596, R598, section 21.4, Table 21-7). CHALLENGE through the mailbox or the debug TAP draws a nonce
that ends 600 s later, and the mailbox answers it with UNIT_ID and the state; with no random output it completes with
NO_ENTROPY or HEALTH_FAIL and leaves no nonce. The expiry removes the nonce. An accepted DEBUG request grants its
scope for its duration, in place of the grant in effect, with EV734; DEBUG_REVOKE and the expiry end it. Nothing else
of the life-cycle changes. -/
def Obligations.ChallengesAndGrantsLiveAndEnd : Prop :=
  (∀ (s : State) (ag : Agent) (seq : BitVec 16),
    let stat := A.secMstat
    let words := (rangeFrom 4 s.sec.drawn).map (fun i => (Config.drbg i).setWidth 32)
    let fresh := some (BitVec.ofNat 128 (wordsNat words), s.time + 600000000000)
    let ended := fun (st : Status) (t : State) => t.reply.status = st ∧ bits (t.reg stat) 31 16 = seq.toNat ∧
      bits (t.reg stat) 9 8 = 2 ∧ bits (t.reg stat) 7 0 = st.code ∧ t.mem = s.mem
    let none' := if s.rngState = 3 then Status.healthFail else .noEntropy
    (∀ i, i ∈ [Instr.challenge ag seq false, Instr.debugRevoke ag seq] →
      (isBoss ag = false → Completes i s (RefusedWith s .refusedRights)) ∧
      (isBoss ag = true → s.mboxBusy = true → Completes i s (RefusedWith s .refusedNotReady)) ∧
      (isBoss ag = true → s.mboxBusy = false → bit (s.reg A.secNstat) 4 = false → Completes i s (fun t =>
        ended .refusedNotReady t ∧ t.lcs = s.lcs ∧ t.sec.nonce = s.sec.nonce))) ∧
    (isBoss ag = true → s.mboxBusy = false → bit (s.reg A.secNstat) 4 = true →
      (s.rngState = 1 → Completes (.challenge ag seq false) s (fun t => ended .ok t ∧ t.sec.nonce = fresh ∧
        t.sec.drawn = s.sec.drawn + 4 ∧ t.lcs = s.lcs ∧
        (∀ j, j < 4 → t.reg (A.secMrsp j) = nth (nonceWords (BitVec.ofNat 128 (wordsNat words))) j 0#32) ∧
        t.reg (A.secMrsp 4) = s.unitId.setWidth 32 ∧ (t.reg (A.secMrsp 5)).toNat = s.unitId.toNat / 0x100000000 ∧
        (t.reg (A.secMrsp 6)).toNat % 0x100000000 = s.lcs' % 0x100000000)) ∧
      (s.rngState ≠ 1 → Completes (.challenge ag seq false) s (fun t => ended none' t ∧ t.sec.nonce = none ∧
        t.lcs = s.lcs)) ∧
      Completes (.debugRevoke ag seq) s (fun t => ended .ok t ∧ t.lcs = { s.lcs with grant := none } ∧
        t.sec.nonce = s.sec.nonce)) ∧
    (s.boot.step < 4 → Completes (.challenge ag seq true) s (fun t => t = s)) ∧
    (4 ≤ s.boot.step →
      (s.rngState = 1 → Completes (.challenge ag seq true) s (fun t => t.reply.status = .ok ∧ t.sec.nonce = fresh ∧
        t.jtag = { s.jtag with debugIr := 0x10 } ∧ t.lcs = s.lcs)) ∧
      (s.rngState ≠ 1 → Completes (.challenge ag seq true) s (fun t => t.reply.status = none' ∧ t.sec.nonce = none ∧
        t.lcs = s.lcs)))) ∧
  (∀ s : State,
    (s.sec.nonce = none → Completes .nonceExpiry s (fun t => t = s)) ∧
    (∀ n e, s.sec.nonce = some (n, e) → e < 2 ^ 64 → Completes .nonceExpiry s (fun t =>
      t.sec = { s.sec with nonce := none } ∧ t.time = max s.time e ∧ t.regs = s.regs ∧ t.mem = s.mem ∧ t.lcs = s.lcs)) ∧
    (s.lcs.accepted = none → Completes .debugGrant s (fun t => t = s)) ∧
    (∀ q, s.lcs.accepted = some q →
      (q.kind ≠ 2 → Completes .debugGrant s (fun t => t = s)) ∧
      (q.kind = 2 → Completes .debugGrant s (fun t => t.reply.status = .ok ∧ Raised t 734 ∧ t.mem = s.mem ∧ t.sec = s.sec ∧
        bits (t.reg A.lcsState) 23 16 = 0 ∧ t.lcs.accepted = none ∧ t.lcs.otp = s.lcs.otp ∧
        t.lcs.grant = some (q.arg, s.time + q.duration * 1000000000)))) ∧
    (s.lcs.grant = none → Completes .debugGrantExpiry s (fun t => t = s)) ∧
    (∀ g e, s.lcs.grant = some (g, e) → e < 2 ^ 64 → Completes .debugGrantExpiry s (fun t =>
      t.lcs = { s.lcs with grant := none } ∧ t.time = max s.time e ∧ t.regs = s.regs ∧ t.mem = s.mem)))

/-- O57 (tier 2; R599, R600, R602, R603, R604, Table 21-6, Table 21-7). Through the mailbox, an update command is refused
by the common gate with its status, and otherwise: BEGIN starts a download to the other bank; DATA puts one chunk at
RX_OFF and advances it, with EV736 at the end, or answers REFUSED_CAPACITY after a mismatch; VERIFY takes checks 0x01
to 0x08 and keeps SECVER and the digest, or returns to IDLE with the check code and EV737; ACTIVATE puts the bank on
trial with EV738; CONFIRM ends the trial and burns the counter with EV740; ABORT gives up; STATUS changes nothing. The
record in force carries SEQ + 1 for each write, memory changes only in the record's sectors and the chunk, and the UPD
registers and MRSP0 to 5 show the record. The state must hold a record whose banks and lengths are in range. -/
def Obligations.UpdatesAreReceivedVerifiedTriedAndConfirmed : Prop :=
  ∀ (s : State) (ag : Agent) (seq : BitVec 16) (good : Bool),
    let r := s.updRec
    let q := fun (j : Nat) => s.reg (A.secMreq j)
    let stat := A.secMstat
    let shows := fun (st : Status) (t : State) => t.reply.status = st ∧ bits (t.reg stat) 31 16 = seq.toNat ∧
      bits (t.reg stat) 9 8 = 2 ∧ bits (t.reg stat) 7 0 = st.code ∧ bits (t.reg A.updStat) 31 24 = st.code ∧
        bits (t.reg A.updStat) 2 0 = t.updRec.state % 8 ∧ bits (t.reg A.updStat) 3 3 = t.updRec.active % 2 ∧
          bits (t.reg A.updStat) 6 5 = t.updRec.tries % 4 ∧ (t.reg A.updRxoff).toNat = t.updRec.rxOff ∧
            (t.reg A.updRxlen).toNat = t.updRec.rxLen ∧ t.reg A.updSecver = t.updRec.secver ∧ t.reg A.updSeq = t.updRec.seq ∧
              (∀ j, j < 6 → t.reg (A.secMrsp j) = nth [t.reg A.updStat, t.reg A.updRxoff, t.reg A.updRxlen,
                t.reg A.updSecver, BitVec.ofNat 32 t.lcs.otp.arb, s.reg A.shpStat] j 0#32)
    let no := fun (st : Status) (t : State) => shows st t ∧ t.mem = s.mem ∧ t.lcs = s.lcs ∧ t.sec.root = s.sec.root ∧
      t.boot = s.boot
    let inRecord := fun (k : Nat) => recKey 0 ≤ k ∧ k < recKey 0 + 0x2000
    let wrote := fun (new : UpdRec) (t : State) => shows .ok t ∧ t.updRec = { new with seq := r.seq + 1#32 } ∧
      t.shp = s.shp ∧ ∀ k, ¬ inRecord k → t.readByte k = s.readByte k
    let cmds := [Instr.updBegin ag seq, Instr.updData ag seq good, Instr.updVerify ag seq, Instr.updActivate ag seq,
      Instr.updConfirm ag seq, Instr.updAbort ag seq, Instr.updStatus ag seq]
    (∀ i, i ∈ cmds →
      (isBoss ag = false → Completes i s (RefusedWith s .refusedRights)) ∧
      (isBoss ag = true → s.mboxBusy = true → Completes i s (RefusedWith s .refusedNotReady)) ∧
      (isBoss ag = true → s.mboxBusy = false → s.updGate ≠ .ok → Completes i s (no s.updGate))) ∧
    (s.lcs' = 1 ∨ s.lcs' = 6 → s.updGate = .refusedRights) ∧
    (isBoss ag = true → s.mboxBusy = false → s.updGate = .ok →
      Completes (.updStatus ag seq) s (no .ok) ∧
      (let bank := bits (q 0) 0 0
       let len := (q 1).toNat
       let busy := s.fullImage = true ∧ bank = bits (s.reg A.shpStat) 4 4
       let bad := len < 4096 ∨ 3145728 < len ∨ len % 16 ≠ 0
       (len = 0 → Completes (.updBegin ag seq) s (no .zeroLength)) ∧
       (len ≠ 0 → busy → Completes (.updBegin ag seq) s (no .refusedRights)) ∧
       (len ≠ 0 → ¬ busy → r.state = 3 → Completes (.updBegin ag seq) s (no .refusedNotReady)) ∧
       (len ≠ 0 → ¬ busy → r.state ≠ 3 → bad → Completes (.updBegin ag seq) s (no .refusedRange)) ∧
       (¬ busy → r.state ≠ 3 → ¬ bad → Completes (.updBegin ag seq) s
         (wrote { r with state := 1, target := bank, rxLen := len, rxOff := 0, secver := 0#32 }))) ∧
      (let src := (q 0).toNat
       let n := (q 1).toNat
       let k := kFlash + r.target * 0x300000 + r.rxOff
       let bad := (q 2).toNat ≠ r.rxOff ∨ s.stagingOk src n = false ∨ chunkOk r n = false
       let elsewhere := fun (t : State) => ∀ j, ¬ inRecord j → j < k ∨ k + (n + 4095) / 4096 * 4096 ≤ j →
         t.readByte j = s.readByte j
       (n = 0 → Completes (.updData ag seq good) s (no .zeroLength)) ∧
       (n ≠ 0 → r.state ≠ 1 → Completes (.updData ag seq good) s (no .refusedNotReady)) ∧
       (n ≠ 0 → r.state = 1 → bad → Completes (.updData ag seq good) s (no .refusedRange)) ∧
       (n ≠ 0 → r.state = 1 → ¬ bad → r.target < 2 → r.rxLen ≤ 0x300000 → r.rxOff % 4096 = 0 → src + n ≤ 0x400000 →
         (good = true → Completes (.updData ag seq good) s (fun t => shows .ok t ∧ elsewhere t ∧
           t.updRec = { r with rxOff := r.rxOff + n, seq := r.seq + 1#32 } ∧ (r.rxOff + n = r.rxLen → Raised t 736) ∧
           ∀ j, j < n → t.readByte (k + j) = s.readByte (kShared + src + j))) ∧
         (good = false → Completes (.updData ag seq good) s (fun t => shows .refusedCapacity t ∧ elsewhere t ∧
           t.updRec = r)))) ∧
      (let ready := (r.state = 1 ∧ r.rxOff = r.rxLen) ∨ r.state = 2
       let b := s.bankRd r.target
       (¬ ready → Completes (.updVerify ag seq) s (no .refusedNotReady)) ∧
       (ready → fullHead b s.lcs.otp = none → Completes (.updVerify ag seq) s
         (wrote { r with state := 2, secver := BitVec.ofNat 32 (rdLE b 0x10 4), digest := imgDigest b })) ∧
       (∀ e, ready → fullHead b s.lcs.otp = some e → Completes (.updVerify ag seq) s (fun t =>
         shows (checkStatus e.code) t ∧ t.updRec = { r with state := 0, seq := r.seq + 1#32 } ∧ Raised t 737 ∧
         t.reg A.updCheck = BitVec.ofNat 32 e.code ∧ t.reg (A.secMrsp 7) = BitVec.ofNat 32 e.code))) ∧
      (r.state ≠ 2 → Completes (.updActivate ag seq) s (no .refusedNotReady)) ∧
      (r.state = 2 → Completes (.updActivate ag seq) s (fun t => Raised t 738 ∧
        wrote { r with active := r.target, state := 3, tries := 0 } t ∧
        (r.active ≠ r.target → bit t.boot.fallback 0 = false))) ∧
      (let loaded := s.fullImage = true ∧ bits (s.reg A.shpStat) 4 4 = r.active ∧ s.shp.digest = r.digest
       let more := s.lcs.otp.arb < r.secver.toNat
       (¬ (r.state = 3 ∧ loaded) → Completes (.updConfirm ag seq) s (no .refusedNotReady)) ∧
       (r.state = 3 → loaded → Completes (.updConfirm ag seq) s (fun t => shows .ok t ∧ Raised t 740 ∧
         t.updRec = { r with state := 0, reason := 0, arbPending := false, seq := r.seq + (if more then 2#32 else 1#32) } ∧
         t.lcs.otp.arb = (if more then max s.lcs.otp.arb (min 127 r.secver.toNat) else s.lcs.otp.arb) ∧
         t.lcs.otp.groups = s.lcs.otp.groups ∧ ∀ k, ¬ inRecord k → t.readByte k = s.readByte k))) ∧
      (r.state = 0 → Completes (.updAbort ag seq) s (no .refusedNotReady)) ∧
      (r.state = 1 ∨ r.state = 2 → Completes (.updAbort ag seq) s (wrote { r with state := 0 })) ∧
      (r.state = 3 → Completes (.updAbort ag seq) s (wrote { r with active := 1 - r.active, state := 4, reason := 2 })) ∧
      (3 < r.state → Completes (.updAbort ag seq) s (no .ok)))

/-- O58 (tier 2; R556, R557, R610, R611, R612, R613, R614, R615, R616, Table 22-5). A domain request of an agent without
the right to it is refused; one that a rule forbids answers its status in the agent's LAST with EV765, and changes no
domain; one for the present state answers OK; any other joins the queue and the domain reads SWITCHING. A switch
completes only when no earlier switch of its domain is there, at most 4 domains power up, and a helper cluster that
leaves ON holds nothing. RETAIN keeps registers and memory, OFF puts the registers back to reset and loses a core's
RAM and slots, ON after OFF loads the shift program, waits for lanes, and a channel whose replay fails is OUT. A clock
gate takes its bits, or refuses with the status of the first island it may not gate and raises EV765. -/
def Obligations.DomainsAndIslandsSwitchByTheirRules : Prop :=
  (∀ (s : State) (ag : Agent) (d : BitVec 7),
    let dom := d.toNat
    let lastAt := agKey ag A.pwrPdreq
    let kept := fun (t : State) => t.pwr = s.pwr ∧ t.mem = s.mem ∧ t.slots = s.slots ∧ ∀ e, e < 84 → t.pdState e = s.pdState e
    ∀ i target, (i, target) ∈ [(Instr.domainOff ag d, 0), (Instr.domainRetain ag d, 1), (Instr.domainOn ag d, 2)] →
      let st := s.pdStatus ag dom target
      (s.reachesAs ag 0x01 = false → Completes i s (RefusedWith s .refusedRights)) ∧
      (83 < dom → st = .refusedRange) ∧
      (dom ≤ 83 → s.pdState dom = 3 → st = .refusedNotReady) ∧
      (dom = 81 → s.pdState dom ≠ 3 → target ≠ 2 → st = if isWarden ag = true then .refusedRights else .refusedSecure) ∧
      (dom ≤ 83 → dom ≠ 81 → s.pdState dom ≠ 3 → s.pdHeld dom = true → target ≠ 2 → isWarden ag = false →
        st = .refusedSecure) ∧
      (dom ≤ 83 → s.pdState dom ≠ 3 → target = 2 → st = .ok) ∧
      (s.reachesAs ag 0x01 = true →
        (st ≠ .ok → Completes i s (fun t => t.reply.status = st ∧ bits (t.reg lastAt) 31 24 = st.code ∧ kept t ∧
          (st = .refusedSecure → Raised t 730 ∧ Raised t 765) ∧ (s.once.contains 765 = false → Raised t 765))) ∧
        (st = .ok → s.pdState dom = target → Completes i s (fun t => t.reply.status = .ok ∧ t.reg lastAt = 0#32 ∧
          OnlyRegs s t [lastAt])) ∧
        (st = .ok → s.pdState dom ≠ target → Completes i s (fun t => t.reply.status = .ok ∧ t.reg lastAt = 0#32 ∧
          t.pwr = { s.pwr with queue := s.pwr.queue ++ [{ dom := dom, was := s.pdTarget dom, target := target }] } ∧
          t.pdState dom = 3 ∧ (∀ e, e < 84 → e ≠ dom → t.pdState e = s.pdState e) ∧ t.mem = s.mem ∧ t.slots = s.slots)))) ∧
  (∀ (s : State) (d : Fin 84) (replay : Bool),
    let dom := d.val
    let cmd := Instr.domainSwitchComplete d replay
    (s.switchAt dom = none → Completes cmd s (fun t => t = s)) ∧
    (∀ k x, s.switchAt dom = some k → s.pwr.queue[k]? = some x →
      let more := (s.pwr.queue.eraseIdx k).any (fun y => decide (y.dom = dom))
      let ends := fun (t : State) => t.pwr.queue = s.pwr.queue.eraseIdx k ∧ t.pdState dom = if more = true then 3 else x.target
      (s.switching k = false → Completes cmd s (fun t => t = s)) ∧
      (x.target ≠ 2 → s.clusterIdle dom = false → Completes cmd s (fun t => t = s)) ∧
      (s.switching k = true → x.target = 1 → s.clusterIdle dom = true → Completes cmd s (fun t => ends t ∧ t.mem = s.mem ∧
        t.slots = s.slots ∧ (dom ≠ 77 → dom ≠ 78 → SameRegsBut s t [A.pwrPdstat (dom / 16)]))) ∧
      (s.switching k = true → x.target = 0 → s.clusterIdle dom = true → Completes cmd s (fun t => ends t ∧
        (∀ a, a < 0x1000000 → regDomain a = some dom → dom ≠ 75 → dom ≠ 76 → dom ≠ 77 → dom ≠ 78 →
          t.reg a = State.reset.reg a) ∧
        (∀ a, a < 0x1000000 → regDomain a ≠ some dom → a ≠ A.pwrPdstat (dom / 16) → t.reg a = s.reg a) ∧
        (dom < 64 → (∀ a, a < 0x10000 → t.readByte (kDram dom + a) = 0#8 ∧ t.readByte (kIram dom + a) = 0#8) ∧
          ∀ w, w / 8 = dom → t.slot w = Slot.init) ∧
        (64 ≤ dom → dom ≠ 68 → (dom < 71 ∨ 74 < dom) → t.mem = s.mem))) ∧
      (s.switching k = true → x.target = 2 → Completes cmd s (fun t => ends t ∧ t.mem = s.mem ∧ t.slots = s.slots ∧
        (dom = 70 → x.was = 0 → t.shf.code = ((rangeFrom s.shp.shift.code.length 0).zip s.shp.shift.code).foldl
          (fun m (p : Nat × W64) => SMap.set (fun _ => 0#64) m p.1 p.2) []) ∧
        (dom = 77 ∨ dom = 78 → t.pwr.laneWait = s.pwr.laneWait ++ [dom]) ∧
        (dom = 75 ∨ dom = 76 → x.was = 0 → s.chState (dom - 75) = 3 →
          t.chState (dom - 75) = if replay = true then 3 else 0) ∧
        (64 ≤ dom → dom ≠ 70 → (dom < 75 ∨ 78 < dom) → SameRegsBut s t [A.pwrPdstat (dom / 16)])))) ∧
    (∀ hi : Bool, Completes (.laneRecalibrationComplete hi) s (fun t =>
      t = { s with pwr := { s.pwr with laneWait := s.pwr.laneWait.filter (fun k => decide (k ≠ if hi = true then 78 else 77)) } }))) ∧
  (∀ (s : State) (ag : Agent) (v : W32),
    let st := s.ckreqStatus ag v
    let lastAt := agKey ag A.pwrCkreq
    (isBoss ag = false → Completes (.clockGate ag v) s (RefusedWith s .refusedRights)) ∧
    ((∀ k, k < 14 → bit v k = true → bit (s.reg A.pwrCkreq) k = false → s.ckStatus ag k = .ok) → st = .ok) ∧
    (∀ k, k < 14 → bit v k = true → bit (s.reg A.pwrCkreq) k = false → s.ckStatus ag k ≠ .ok → st ≠ .ok) ∧
    (isBoss ag = true → st = .ok → Completes (.clockGate ag v) s (fun t => t.reply.status = .ok ∧ t.reg lastAt = 0#32 ∧
      (t.reg A.pwrCkreq).toNat = bits v 13 0 ∧ OnlyRegs s t [A.pwrCkreq, lastAt])) ∧
    (isBoss ag = true → st ≠ .ok → Completes (.clockGate ag v) s (fun t => t.reply.status = st ∧
      bits (t.reg lastAt) 31 24 = st.code ∧ t.reg A.pwrCkreq = s.reg A.pwrCkreq ∧ t.mem = s.mem ∧ t.pwr = s.pwr ∧
      (st = .refusedSecure → Raised t 730 ∧ Raised t 765) ∧ (s.once.contains 765 = false → Raised t 765))))

/-- O59 (tier 2; R617, R618, R619, R622, R623, R624, R625, R626, Table 22-1). Once in a cycle the governor records the
monitors, F, lateness and the margin. Active, it raises by three steps when late, by one below MARGIN - HYST, lowers
by one above MARGIN + HYST when the prediction allows, holds otherwise, and is capped by vmax; a change arms group 20
with EV757, lateness raises EV755, and a margin missed at vmax EV756. With VC_FIXED it changes nothing. A temperature
sample shows the highest sensor, begins and ends the warning and the throttle with EV752 and EV753, and at 135 degrees
turns every domain but PD81 off with EV754 and the record; below 100 degrees a power-on reset follows. A rail sample
shows each rail, sets LOW and HIGH with EV758, and raises EV766 when VIN falls below its warning threshold. -/
def Obligations.TheGovernorAndTheMonitorsDecide : Prop :=
  (∀ (s : State) (pm : List (BitVec 10)) (rpl : List (BitVec 16)),
    let cmd := Instr.governorDecision pm rpl
    let e := min (bits (s.reg A.pwrDeadline) 22 0) (s.tb.cycLen - 500)
    let fin := bit (s.reg A.fltFinish) 31
    let f := bits (s.reg A.fltFinish) 22 0
    let late := fin = false ∨ e < f ∨ s.once.contains 464 = true
    let m : Int := if fin = true then (e : Int) - f else -1
    let v := bits (s.reg A.pwrVcore) 9 0
    let st := bits (s.reg A.pwrGovctl) 27 24 * 10
    let vmax := s.govMax
    let margin : Int := bits (s.reg A.pwrMargin) 22 0
    let hyst : Int := bits (s.reg A.pwrGovhyst) 15 0
    let want := if late then min vmax (v + 3 * st) else if m < margin - hyst then min vmax (v + st)
      else if margin + hyst < m ∧ bits (s.reg A.pwrVclim) 9 0 + st ≤ v ∧ margin + hyst ≤ e - s.govPredict f v (v - st) then v - st
      else v
    let v' := if vmax < v then vmax else want
    let act := if vmax < v then 4 else if late then 3 else if v' < v then 1 else if v < v' then 2 else 0
    let start := s.tb.cycStart.toNat + s.decideAt
    (s.tb.cycRun = false ∨ s.pwr.decided = true ∨ s.boot.limp = true → Completes cmd s (fun t => t = s)) ∧
    (vmax = if s.pwr.throttled = true then min (bits (s.reg A.pwrVclim) 25 16) (bits (s.reg A.monTherm) 25 16 / 10 * 10)
      else bits (s.reg A.pwrVclim) 25 16) ∧
    (s.tb.cycRun = true → s.pwr.decided = false → s.boot.limp = false → start < 2 ^ 64 → Completes cmd s (fun t =>
      let fixed := bit (s.reg A.bootFallback) 7
      t.time = max s.time start ∧ t.pwr = { s.pwr with decided := true } ∧ t.mem = s.mem ∧ t.slots = s.slots ∧
      bits (t.reg A.pwrGovfin) 22 0 = (if fin = true then f else 0) ∧ (bit (t.reg A.pwrGovfin) 31 = true ↔ late) ∧
      bits (t.reg A.pwrGovstat) 31 16 = sat16 m ∧ bit (t.reg A.pwrGovstat) 3 = s.pwr.throttled ∧
      (∀ n, n < 64 → t.reg (A.monPm n) = (nth pm n 0#10).setWidth 32 ∧
        bits (t.reg (A.monRpl n)) 15 0 = (nth rpl n 0#16).toNat ∧
        ((s.core n).st = .member → (nth pm n 0#10).toNat < 200 ∨ 824 < (nth pm n 0#10).toNat → Raised t 759)) ∧
      (fixed = true → t.reg A.pwrVcore = s.reg A.pwrVcore ∧ t.tb.held = s.tb.held ∧ t.reg A.tbArmed = s.reg A.tbArmed ∧
        bits (t.reg A.pwrGovstat) 2 0 = 0) ∧
      (fixed = false → bits (t.reg A.pwrGovstat) 2 0 = act ∧ (late → Raised t 755) ∧ (v = vmax → m < margin → Raised t 756) ∧
        (v' = v → t.reg A.pwrVcore = s.reg A.pwrVcore ∧ t.reg A.tbArmed = s.reg A.tbArmed) ∧
        (v' ≠ v → Raised t 757 ∧ bits (t.reg A.pwrVcore) 25 16 = v' ∧ bits (t.reg A.pwrVcore) 9 0 = v ∧
          (s.tb.fence = false → bit (t.reg A.tbArmed) 20 = true) ∧
          (s.tb.fence = true → t.tb.held = s.tb.held ++ [.hwArm 20])))))) ∧
  (∀ (s : State) (tj : List (BitVec 12)), tj.length = 12 →
    let h := hottest tj
    let cmd := Instr.temperatureSample tj
    let warn := 4 * (bits (s.reg A.monTherm) 7 0 : Int) ≤ h.1 ∨
      (s.pwr.warned = true ∧ 4 * (bits (s.reg A.monTherm) 7 0 : Int) - 20 < h.1)
    let thr := 4 * (bits (s.reg A.monTherm) 15 8 : Int) ≤ h.1 ∨
      (s.pwr.throttled = true ∧ 4 * (bits (s.reg A.monTherm) 15 8 : Int) - 20 < h.1)
    let shows := fun (t : State) => (∀ n, n < 12 → t.reg (A.monTemp n) = (nth tj n 0#12).setWidth 32) ∧
      (BitVec.ofNat 12 (bits (t.reg A.monTjmax) 11 0)).toInt = h.1 ∧ (t.pwr.warned = true ↔ warn) ∧
      (t.pwr.throttled = true ↔ thr) ∧ (warn → s.pwr.warned = false → Raised t 752) ∧
      (thr → s.pwr.throttled = false → Raised t 753)
    (∀ n, n < 12 → (nth tj n 0#12).toInt ≤ h.1) ∧ h.2 < 12 ∧ (nth tj h.2 0#12).toInt = h.1 ∧
    (h.1 < 540 ∨ s.pwr.shut = true → Completes cmd s (fun t => shows t ∧ t.pwr.shut = s.pwr.shut ∧ t.mem = s.mem ∧
      (∀ d, d < 84 → t.pdState d = s.pdState d) ∧ t.reg A.pwrShutrec = s.reg A.pwrShutrec)) ∧
    (540 ≤ h.1 → s.pwr.shut = false → Completes cmd s (fun t => shows t ∧ t.pwr.shut = true ∧ Raised t 754 ∧
      (∀ d, d < 84 → t.pdState d = if d = 81 then s.pdState d else 0) ∧
      (∀ p, p < 8 → bit (t.reg (A.prtStat p)) 0 = false ∧ bit (t.reg (A.prtStat p)) 1 = false) ∧
      bit (t.reg A.pwrShutrec) 0 = true ∧ bits (t.reg A.pwrShutrec) 7 4 = h.2 ∧
      bits (t.reg A.pwrShutrec) 31 16 = min 0xFFFF (bits (s.reg A.pwrShutrec) 31 16 + 1)))) ∧
  (∀ s : State,
    let tj := (BitVec.ofNat 12 (bits (s.reg A.monTjmax) 11 0)).toInt
    (s.pwr.shut = false ∨ 400 ≤ tj → Completes .thermalRecovery s (fun t => t = s)) ∧
    (s.pwr.shut = true → tj < 400 → Completes .thermalRecovery s (fun t => t.reg A.bootCause = 1#32 ∧ t.boot.running = true ∧
      t.boot.step = 0 ∧ t.reg A.pwrShutrec = s.reg A.pwrShutrec ∧ t.sec.root = s.sec.root ∧ t.pwr.shut = false))) ∧
  (∀ (s : State) (mv : List (BitVec 16)) (settled : Bool),
    let m := fun (n : Nat) => (nth mv n 0#16).toNat
    let v := bits (s.reg A.pwrVcore) 9 0
    let o := fun (n : Nat) => railOutput s.boot.vfsel n
    let low := fun (n : Nat) => if n = 1 then settled = true ∧ m n + 40 < v else m n * 100 < (o n).1 * 95
    let high := fun (n : Nat) => if n = 1 then settled = true ∧ v + 40 < m n else (o n).2 * 105 < m n * 100
    Completes (.railSample mv settled) s (fun t => t.mem = s.mem ∧ t.slots = s.slots ∧ t.pwr = s.pwr ∧
      (∀ n, n < 8 → bits (t.reg (A.monRail n)) 15 0 = m n ∧
        (bit (t.reg (A.monRail n)) 16 = true ↔ low n ∨ bit (s.reg (A.monRail n)) 16 = true) ∧
        (bit (t.reg (A.monRail n)) 17 = true ↔ high n ∨ bit (s.reg (A.monRail n)) 17 = true) ∧
        (low n ∨ high n → Raised t 758)) ∧
      (m 0 < 2470 → 2470 ≤ bits (s.reg (A.monRail 0)) 15 0 → Raised t 766)))

/-- O60 (tier 2; R585, R596, R597, R647, R648, section 3.2, Table 21-1, Table 23-15, Table 23-16). Before S04 completes no
instruction is taken. From then on the rights of Table 21-1 hold: RAW opens everything, SCRAP only boundary scan, and
a grant adds its scope where the table says so. Outside its right an instruction acts as BYPASS, is counted in
LCS_DEBUG.DENIED and changes nothing else. Inside it, NMEM reads and writes registers as the manager, SMEM those of
the security island, slot control halts, steps and resumes the named slot and no other and answers the named register,
and boundary scan loads its register and captures the pins. IDCODE, BYPASS and Test-Logic-Reset are always there. -/
def Obligations.TheTestPortActsWithinItsRights : Prop :=
  ∀ s : State,
    let early := s.boot.step < 4
    let taken := 4 ≤ s.boot.step
    let ir := fun (n : Nat) => ({ s with jtag := { s.jtag with debugIr := n } } : State)
    let denied := fun (t : State) => t.reply.status = .refusedRights ∧ t.slots = s.slots ∧ t.mem = s.mem ∧ t.sec = s.sec ∧
      t.jtag.scanReg = s.jtag.scanReg ∧ bits (t.reg A.lcsDebug) 7 3 = min 31 (bits (s.reg A.lcsDebug) 7 3 + 1) ∧
        SameRegsBut s t [A.lcsDebug]
    let granted := fun (b : Nat) => ∃ g, s.lcs.grant = some g ∧ g.1 / 2 ^ b % 2 = 1
    ((s.lcs' = 1 → s.tapMay 0 = true ∧ s.tapMay 1 = true ∧ s.tapMay 2 = true) ∧
      (s.lcs' = 2 → (s.tapMay 0 = true ↔ granted 0) ∧ (s.tapMay 1 = true ↔ granted 1) ∧ s.tapMay 2 = true) ∧
      (s.lcs' = 3 → (s.tapMay 0 = true ↔ granted 0) ∧ s.tapMay 1 = false ∧ s.tapMay 2 = true) ∧
      (s.lcs' = 4 → (s.tapMay 0 = true ↔ granted 0) ∧ s.tapMay 1 = false ∧ (s.tapMay 2 = true ↔ granted 2)) ∧
      (s.lcs' = 5 → s.tapMay 0 = true ∧ (s.tapMay 1 = true ↔ granted 1) ∧ s.tapMay 2 = true) ∧
      (s.lcs' = 6 → s.tapMay 0 = false ∧ s.tapMay 1 = false ∧ s.tapMay 2 = true)) ∧
    (∀ (a : BitVec 24) (wr : Bool) (v : W32) (core : BitVec 6) (slot : BitVec 3) (code : BitVec 5) (ws : Fin 4),
      (∀ i right, (i, right) ∈ [(Instr.nmem a wr v, 0), (.ncoreHalt core slot code, 0), (.ncoreStep core slot code, 0),
          (.ncoreResume core slot code, 0), (.smem a wr v, 1), (.scoreHalt ws code, 1), (.scoreStep ws code, 1),
          (.scoreResume ws code, 1)] →
        (early → Completes i s (fun t => t = s)) ∧
        (taken → s.tapMay right = false → Completes i s (fun t => denied t ∧ t.jtag.debugIr = 0xFF ∧ t.pwr = s.pwr))) ∧
      (taken → s.tapMay 0 = true →
        Completes (.nmem a false v) s (fun t => t = (ir 0x20).readReg agManager a.toNat) ∧
        Completes (.nmem a true v) s (fun t => t = (ir 0x20).writeReg agManager a.toNat v) ∧
        Completes (.nmem (BitVec.ofNat 24 A.bootCause) false v) s (fun t => t.reply.status = .ok ∧
          t.reply.value = (s.reg A.bootCause).setWidth 64 ∧ t.regs = s.regs ∧ t.mem = s.mem) ∧
        (bits v 27 8 ≠ 0 → Completes (.nmem (BitVec.ofNat 24 (A.evrPincfg 0)) true v) s (fun t => t.reply.status = .ok ∧
          OnlyRegs (ir 0x20) t [A.evrPincfg 0] ∧
          t.reg (A.evrPincfg 0) = (s.reg (A.evrPincfg 0) &&& 0xF00000FC#32) ||| (v &&& 0x0FFFFF03#32)))) ∧
      (taken → s.tapMay 1 = true →
        (a.toNat < 0x800000 ∨ 0x800100 ≤ a.toNat → Completes (.smem a wr v) s (fun t => OnlyReply (ir 0x30) t)) ∧
        (0x800000 ≤ a.toNat → a.toNat < 0x800100 → Completes (.smem a false v) s (fun t =>
          t = (ir 0x30).readReg 0x7F0#12 (0x80000000 + (a.toNat - 0x800000)))) ∧
        (Completes (.smem 0x800020#24 true v) s (fun t => t.reg (A.secHoldpd 0) = v ∧ SameRegsBut s t [A.secHoldpd 0] ∧
          t.mem = s.mem ∧ t.sec = s.sec ∧ ∀ j, t.slot j = s.slot j))) ∧
      (∀ (w : SlotId) (n ri : Nat) (h st r : Instr),
        (ri = 0 ∧ n = 0x21 ∧ w.val = core.toNat * 8 + slot.toNat ∧ h = .ncoreHalt core slot code ∧ st = .ncoreStep core slot code ∧
            r = .ncoreResume core slot code) ∨
          (ri = 1 ∧ n = 0x31 ∧ w.val = 512 + ws.val ∧ h = .scoreHalt ws code ∧ st = .scoreStep ws code ∧
            r = .scoreResume ws code) →
        taken → s.tapMay ri = true →
        let x := s.slot w
        let shows := fun (t : State) => t.reply.status = .ok ∧ t.mem = s.mem ∧ t.regs = s.regs ∧ t.jtag.debugIr = n ∧
          (∀ j : Nat, j ≠ w.val → t.slot j = s.slot j) ∧ (code.toNat < 24 → t.reply.value = (x.ctx.rd code).setWidth 64) ∧
          (code = 24#5 → t.reply.value = x.ctx.pc.setWidth 64) ∧ (code = 28#5 → t.reply.value = x.ctx.flags.setWidth 64)
        Completes h s (fun t => shows t ∧ t.slot w = { x with halted := true, stepOne := false }) ∧
        Completes st s (fun t => shows t ∧ t.slot w = { x with stepOne := x.stepOne || x.halted }) ∧
        Completes r s (fun t => shows t ∧ t.slot w = { x with halted := false, stepOne := false }))) ∧
    (∀ (cells pins : BitVec 358),
      let scans := [Instr.extest cells, .intest cells, .samplePreload pins cells, .clamp, .highz]
      let did := fun (n : Nat) (r : BitVec 358) (t : State) => t = { s with jtag := t.jtag, reply := t.reply } ∧
        t.jtag.scanIr = n ∧ t.jtag.scanReg = r ∧ t.jtag.debugIr = s.jtag.debugIr
      (∀ i, i ∈ scans → (early → Completes i s (fun t => t = s)) ∧
        (taken → s.tapMay 2 = false → Completes i s (fun t => denied t ∧ t.jtag.scanIr = 0x1F))) ∧
      (taken → s.tapMay 2 = true →
        Completes (.extest cells) s (fun t => did 0x00 cells t ∧ t.pinsTaken = true) ∧
        Completes (.samplePreload pins cells) s (fun t => did 0x01 cells t ∧ t.jtag.scanOut = pins ∧ t.pinsTaken = false) ∧
        Completes (.intest cells) s (fun t => did 0x03 cells t ∧ t.pinsTaken = true) ∧
        Completes .clamp s (fun t => did 0x04 s.jtag.scanReg t ∧ t.pinsTaken = true) ∧
        Completes .highz s (fun t => did 0x05 s.jtag.scanReg t ∧ t.pinsTaken = true))) ∧
    (∀ i, i ∈ [Instr.debugIdcode, .idcode, .bypass true, .bypass false] → early → Completes i s (fun t => t = s)) ∧
    (taken →
      Completes .debugIdcode s (fun t => t.reply.value = 0xB6418B47#64 ∧ OnlyReply (ir 0x01) t) ∧
      Completes .idcode s (fun t => t.reply.value = 0xB6408B47#64 ∧
        OnlyReply { s with jtag := { s.jtag with scanIr := 2 } } t) ∧
      Completes (.bypass true) s (OnlyReply (ir 0xFF)) ∧
      Completes (.bypass false) s (OnlyReply { s with jtag := { s.jtag with scanIr := 0x1F } })) ∧
    Completes .testLogicReset s (fun t => OnlyReply { s with jtag := { s.jtag with scanIr := 2, debugIr := 1 } } t ∧
      t.pinsTaken = false)
end

