-- ==== Sys2Proof/Laws/Map.lean ====
section
/-! SUPPORT. The laws of sparse maps: a read after a write, and that writes, removals and restrictions keep the canonical
form. -/

namespace Sys2Proof.Machine

variable {α : Type}

theorem SMap.get_erase_same (d : Nat → α) (m : SMap α) (k : Nat) : SMap.get d (SMap.erase m k) k = d k := by
  induction m with
  | nil => rfl
  | cons p m ih =>
    obtain ⟨j, v⟩ := p
    by_cases h : j = k <;> simp [SMap.erase, SMap.get, h, ih]

theorem SMap.get_erase_ne (d : Nat → α) (m : SMap α) {k j : Nat} (h : j ≠ k) :
    SMap.get d (SMap.erase m k) j = SMap.get d m j := by
  induction m with
  | nil => rfl
  | cons p m ih =>
    obtain ⟨i, v⟩ := p
    by_cases hk : i = k
    · subst hk
      simp [SMap.erase, SMap.get, ih, Ne.symm h]
    · simp [SMap.erase, SMap.get, hk, ih]

theorem SMap.get_place_same (d : Nat → α) (m : SMap α) (k : Nat) (v : α) (h : ∀ p ∈ m, p.1 ≠ k) :
    SMap.get d (SMap.place m k v) k = v := by
  induction m with
  | nil => simp [SMap.place, SMap.get]
  | cons p m ih =>
    obtain ⟨j, u⟩ := p
    have hj : j ≠ k := h (j, u) (by simp)
    have hm := ih (fun q hq => h q (by simp [hq]))
    by_cases hl : k < j <;> simp [SMap.place, SMap.get, hl, hj, hm]

theorem SMap.get_place_ne (d : Nat → α) (m : SMap α) {k j : Nat} (v : α) (h : j ≠ k) :
    SMap.get d (SMap.place m k v) j = SMap.get d m j := by
  induction m with
  | nil => simp [SMap.place, SMap.get, Ne.symm h]
  | cons p m ih =>
    obtain ⟨i, u⟩ := p
    by_cases hl : k < i
    · simp [SMap.place, SMap.get, hl, Ne.symm h]
    · simp [SMap.place, SMap.get, hl, ih]

theorem SMap.erase_keys (m : SMap α) (k : Nat) : ∀ p ∈ SMap.erase m k, p.1 ≠ k := by
  induction m with
  | nil => intro p hp; simp [SMap.erase] at hp
  | cons q m ih =>
    obtain ⟨j, v⟩ := q
    by_cases h : j = k
    · simpa [SMap.erase, h] using ih
    · intro p hp
      simp only [SMap.erase, if_neg h, List.mem_cons] at hp
      rcases hp with rfl | hp
      · exact h
      · exact ih p hp

/-- A read after a write to the same key gives the value written. -/
@[simp] theorem SMap.get_set_same [DecidableEq α] (d : Nat → α) (m : SMap α) (k : Nat) (v : α) :
    SMap.get d (SMap.set d m k v) k = v := by
  unfold SMap.set
  split
  · next h => rw [SMap.get_erase_same, h]
  · exact SMap.get_place_same d _ k v (SMap.erase_keys m k)

/-- A write leaves every other key alone. -/
theorem SMap.get_set_ne [DecidableEq α] (d : Nat → α) (m : SMap α) {k j : Nat} (v : α) (h : j ≠ k) :
    SMap.get d (SMap.set d m k v) j = SMap.get d m j := by
  unfold SMap.set
  split
  · exact SMap.get_erase_ne d m h
  · rw [SMap.get_place_ne d _ v h, SMap.get_erase_ne d m h]

/-- A read after a write, at any key. -/
theorem SMap.get_set [DecidableEq α] (d : Nat → α) (m : SMap α) (k j : Nat) (v : α) :
    SMap.get d (SMap.set d m k v) j = if j = k then v else SMap.get d m j := by
  by_cases h : j = k
  · subst h; simp
  · simp [h, SMap.get_set_ne d m v h]

theorem SMap.wfFrom_mono [DecidableEq α] (d : Nat → α) {lo lo' : Nat} (m : SMap α) (h : lo' ≤ lo)
    (hm : SMap.wfFrom d lo m = true) : SMap.wfFrom d lo' m = true := by
  cases m with
  | nil => rfl
  | cons p m =>
    obtain ⟨j, v⟩ := p
    simp only [SMap.wfFrom, Bool.and_eq_true, decide_eq_true_eq] at hm ⊢
    exact ⟨⟨le_trans h hm.1.1, hm.1.2⟩, hm.2⟩

theorem SMap.wfFrom_erase [DecidableEq α] (d : Nat → α) (k : Nat) (m : SMap α) : ∀ {lo : Nat},
    SMap.wfFrom d lo m = true → SMap.wfFrom d lo (SMap.erase m k) = true := by
  induction m with
  | nil => intro lo _; rfl
  | cons p m ih =>
    obtain ⟨j, v⟩ := p
    intro lo hm
    simp only [SMap.wfFrom, Bool.and_eq_true, decide_eq_true_eq] at hm
    have hr := ih hm.2
    by_cases h : j = k
    · simp only [SMap.erase, if_pos h]
      exact SMap.wfFrom_mono d _ (by omega) hr
    · simp only [SMap.erase, if_neg h, SMap.wfFrom, Bool.and_eq_true, decide_eq_true_eq]
      exact ⟨hm.1, hr⟩

theorem SMap.wfFrom_place [DecidableEq α] (d : Nat → α) (k : Nat) (v : α) (hv : v ≠ d k) (m : SMap α) :
    ∀ {lo : Nat}, lo ≤ k → (∀ p ∈ m, p.1 ≠ k) → SMap.wfFrom d lo m = true →
      SMap.wfFrom d lo (SMap.place m k v) = true := by
  induction m with
  | nil => intro lo hk _ _; simp [SMap.place, SMap.wfFrom, hk, hv]
  | cons p m ih =>
    obtain ⟨j, u⟩ := p
    intro lo hk hne hm
    simp only [SMap.wfFrom, Bool.and_eq_true, decide_eq_true_eq] at hm
    have hj : j ≠ k := hne (j, u) (by simp)
    by_cases hl : k < j
    · simp only [SMap.place, if_pos hl, SMap.wfFrom, Bool.and_eq_true, decide_eq_true_eq]
      exact ⟨⟨hk, hv⟩, ⟨hl, hm.1.2⟩, hm.2⟩
    · simp only [SMap.place, if_neg hl, SMap.wfFrom, Bool.and_eq_true, decide_eq_true_eq]
      exact ⟨hm.1, ih (by omega) (fun q hq => hne q (by simp [hq])) hm.2⟩

/-- A write keeps the canonical form. -/
theorem SMap.wf_set [DecidableEq α] (d : Nat → α) (m : SMap α) (k : Nat) (v : α) (hm : SMap.wf d m = true) :
    SMap.wf d (SMap.set d m k v) = true := by
  unfold SMap.set
  have he : SMap.wf d (SMap.erase m k) = true := SMap.wfFrom_erase d k m hm
  split
  · exact he
  · next h => exact SMap.wfFrom_place d k v h _ (Nat.zero_le k) (SMap.erase_keys m k) he

/-- Removing entries keeps the canonical form. -/
theorem SMap.wf_filter [DecidableEq α] (d : Nat → α) (f : Nat × α → Bool) (m : SMap α) : ∀ {lo : Nat},
    SMap.wfFrom d lo m = true → SMap.wfFrom d lo (m.filter f) = true := by
  induction m with
  | nil => intro lo _; rfl
  | cons p m ih =>
    obtain ⟨j, v⟩ := p
    intro lo hm
    simp only [SMap.wfFrom, Bool.and_eq_true, decide_eq_true_eq] at hm
    have hr := ih hm.2
    cases hf : f (j, v)
    · simp only [List.filter_cons, hf]
      exact SMap.wfFrom_mono d _ (by omega) hr
    · simp only [List.filter_cons, hf, if_true, SMap.wfFrom, Bool.and_eq_true, decide_eq_true_eq]
      exact ⟨hm.1, hr⟩

end Sys2Proof.Machine
end

