-- ==== Sys2Proof/Laws/State.lean ====
section
/-! SUPPORT. One lemma for each field of the state and each update: what an update leaves alone, and what it reads as. -/

namespace Sys2Proof.Machine

/-! ### Reads after updates -/

@[simp] theorem State.reg_setReg_same (s : State) (a : Nat) (v : W32) : (s.setReg a v).reg a = v := by
  simp [State.reg, State.setReg]

theorem State.reg_setReg_ne (s : State) {a b : Nat} (v : W32) (h : b ≠ a) : (s.setReg a v).reg b = s.reg b := by
  simp [State.reg, State.setReg, SMap.get_set_ne _ _ _ h]

theorem State.reg_setReg (s : State) (a b : Nat) (v : W32) :
    (s.setReg a v).reg b = if b = a then v else s.reg b := by
  simp [State.reg, State.setReg, SMap.get_set]

@[simp] theorem State.counter_countBy_same (s : State) (a n : Nat) :
    (s.countBy a n).counter a = s.counter a + BitVec.ofNat 64 n := by
  simp [State.counter, State.countBy]

theorem State.counter_countBy_ne (s : State) {a b : Nat} (n : Nat) (h : b ≠ a) :
    (s.countBy a n).counter b = s.counter b := by
  simp [State.counter, State.countBy, SMap.get_set_ne _ _ _ h]

@[simp] theorem State.readByte_writeByte_same (s : State) (k : Nat) (v : Byte) : (s.writeByte k v).readByte k = v := by
  simp [State.readByte, State.writeByte]

theorem State.readByte_writeByte_ne (s : State) {k j : Nat} (v : Byte) (h : j ≠ k) :
    (s.writeByte k v).readByte j = s.readByte j := by
  simp [State.readByte, State.writeByte, SMap.get_set_ne _ _ _ h]

theorem get_memWrite_out (bs : List Byte) : ∀ (m : List Host.Cell) (k j : Nat), (j < k ∨ k + bs.length ≤ j) →
    SMap.get memDefault (memWrite m k bs) j = SMap.get memDefault m j := by
  induction bs with
  | nil => intro m k j _; rfl
  | cons b bs ih =>
    intro m k j h
    simp only [List.length_cons] at h
    rw [memWrite, ih _ _ _ (by omega), SMap.get_set_ne _ _ _ (by omega)]

theorem get_memWrite_in (bs : List Byte) : ∀ (m : List Host.Cell) (k i : Nat) (h : i < bs.length),
    SMap.get memDefault (memWrite m k bs) (k + i) = bs[i] := by
  induction bs with
  | nil => intro m k i h; exact absurd h (by simp)
  | cons b bs ih =>
    intro m k i h
    cases i with
    | zero => simp [memWrite, get_memWrite_out]
    | succ i =>
      have := ih (SMap.set memDefault m k b) (k + 1) i (by simpa using h)
      simpa [memWrite, Nat.add_assoc, Nat.add_comm 1 i] using this

/-- A byte outside the bytes written reads as before. -/
theorem State.readByte_writeBytes_out (s : State) (k j : Nat) (bs : List Byte) (h : j < k ∨ k + bs.length ≤ j) :
    (s.writeBytes k bs).readByte j = s.readByte j := get_memWrite_out bs s.mem k j h

/-- A byte written reads back. -/
theorem State.readByte_writeBytes_in (s : State) (k i : Nat) (bs : List Byte) (h : i < bs.length) :
    (s.writeBytes k bs).readByte (k + i) = bs[i] := get_memWrite_in bs s.mem k i h

/-- Writing bytes keeps the canonical form. -/
theorem memWrite_wf (bs : List Byte) : ∀ (m : List Host.Cell) (k : Nat), Memory.wf m = true →
    Memory.wf (memWrite m k bs) = true := by
  induction bs with
  | nil => intro m k h; exact h
  | cons b bs ih => intro m k h; exact ih _ _ (SMap.wf_set memDefault m k b h)

/-- A fold of byte writes keeps the canonical form. -/
theorem memFold_wf (key : Nat × Byte → Nat) (l : List (Nat × Byte)) : ∀ (m : List Host.Cell), Memory.wf m = true →
    Memory.wf (l.foldl (fun m p => SMap.set memDefault m (key p) p.2) m) = true := by
  induction l with
  | nil => intro m h; exact h
  | cons p l ih => intro m h; exact ih _ (SMap.wf_set memDefault m (key p) p.2 h)

/-- Dropping cells keeps the canonical form. -/
theorem memFilter_wf (f : Host.Cell → Bool) (m : List Host.Cell) (h : Memory.wf m = true) :
    Memory.wf (m.filter f) = true := SMap.wf_filter memDefault f m h

theorem State.writeByte_wf (s : State) (k : Nat) (v : Byte) (h : Memory.wf s.mem = true) :
    Memory.wf (s.writeByte k v).mem = true := SMap.wf_set memDefault s.mem k v h

theorem State.writeBytes_wf (s : State) (k : Nat) (bs : List Byte) (h : Memory.wf s.mem = true) :
    Memory.wf (s.writeBytes k bs).mem = true := memWrite_wf bs s.mem k h

theorem State.writeLE_wf (s : State) (k n v : Nat) (h : Memory.wf s.mem = true) :
    Memory.wf (s.writeLE k n v).mem = true := memWrite_wf _ s.mem k h

theorem State.bufWrite_wf (s : State) (w i : Nat) (bs : List Byte) (h : Memory.wf s.mem = true) :
    Memory.wf (s.bufWrite w i bs).mem = true := memFold_wf (fun p => s.bufKey w p.1) _ s.mem h

theorem State.dramWrite_wf (s : State) (x c : Nat) (bs : List Byte) (h : Memory.wf s.mem = true) :
    Memory.wf (s.dramWrite x c bs).mem = true := memFold_wf (fun p => s.dramKey x (c + p.1)) _ s.mem h

@[simp] theorem State.slot_setSlot_same (s : State) (w : Nat) (v : Slot) : (s.setSlot w v).slot w = v := by
  simp [State.slot, State.setSlot]

theorem State.slot_setSlot_ne (s : State) {w j : Nat} (v : Slot) (h : j ≠ w) : (s.setSlot w v).slot j = s.slot j := by
  simp [State.slot, State.setSlot, SMap.get_set_ne _ _ _ h]

@[simp] theorem State.core_setCore_same (s : State) (c : Nat) (v : Core) : (s.setCore c v).core c = v := by
  simp [State.core, State.setCore]

theorem State.core_setCore_ne (s : State) {c j : Nat} (v : Core) (h : j ≠ c) : (s.setCore c v).core j = s.core j := by
  simp [State.core, State.setCore, SMap.get_set_ne _ _ _ h]

@[simp] theorem State.thread_setThread_same (s : State) (n : Nat) (v : Thread) : (s.setThread n v).thread n = v := by
  simp [State.thread, State.setThread]

theorem State.thread_setThread_ne (s : State) {n j : Nat} (v : Thread) (h : j ≠ n) : (s.setThread n v).thread j = s.thread j := by
  simp [State.thread, State.setThread, SMap.get_set_ne _ _ _ h]

@[simp] theorem State.tokens_setTokens_same (s : State) (t : Nat) (v : List Token) : (s.setTokens t v).tokens t = v := by
  simp [State.tokens, State.setTokens]

theorem State.tokens_setTokens_ne (s : State) {t j : Nat} (v : List Token) (h : j ≠ t) : (s.setTokens t v).tokens j = s.tokens j := by
  simp [State.tokens, State.setTokens, SMap.get_set_ne _ _ _ h]

@[simp] theorem State.frame_setFrame_same (s : State) (k : Nat) (v : Option Frame) : (s.setFrame k v).frame k = v := by
  simp [State.frame, State.setFrame]

theorem State.frame_setFrame_ne (s : State) {k j : Nat} (v : Option Frame) (h : j ≠ k) : (s.setFrame k v).frame j = s.frame j := by
  simp [State.frame, State.setFrame, SMap.get_set_ne _ _ _ h]

@[simp] theorem State.ch_setCh_same (s : State) (x : Nat) (v : DramCh) : (s.setCh x v).ch x = v := by
  simp [State.ch, State.setCh]

theorem State.ch_setCh_ne (s : State) {x j : Nat} (v : DramCh) (h : j ≠ x) : (s.setCh x v).ch j = s.ch j := by
  simp [State.ch, State.setCh, SMap.get_set_ne _ _ _ h]

@[simp] theorem State.egFrame_setEg_same (s : State) (e : Nat) (v : Option EgFrame) : (s.setEg e v).egFrame e = v := by
  simp [State.egFrame, State.setEg]

theorem State.egFrame_setEg_ne (s : State) {e j : Nat} (v : Option EgFrame) (h : j ≠ e) : (s.setEg e v).egFrame j = s.egFrame j := by
  simp [State.egFrame, State.setEg, SMap.get_set_ne _ _ _ h]

@[simp] theorem State.port_setPort_same (s : State) (p : Nat) (v : PortSt) : (s.setPort p v).port p = v := by
  simp [State.port, State.setPort]

theorem State.port_setPort_ne (s : State) {p j : Nat} (v : PortSt) (h : j ≠ p) : (s.setPort p v).port j = s.port j := by
  simp [State.port, State.setPort, SMap.get_set_ne _ _ _ h]

@[simp] theorem State.rxList_setRx_same (s : State) (p : Nat) (v : List RxFrame) : (s.setRx p v).rxList p = v := by
  simp [State.rxList, State.setRx]

theorem State.rxList_setRx_ne (s : State) {p j : Nat} (v : List RxFrame) (h : j ≠ p) : (s.setRx p v).rxList j = s.rxList j := by
  simp [State.rxList, State.setRx, SMap.get_set_ne _ _ _ h]

@[simp] theorem State.partner_setPartner_same (s : State) (p : Nat) (v : Partner) : (s.setPartner p v).partner p = v := by
  simp [State.partner, State.setPartner]

theorem State.partner_setPartner_ne (s : State) {p j : Nat} (v : Partner) (h : j ≠ p) : (s.setPartner p v).partner j = s.partner j := by
  simp [State.partner, State.setPartner, SMap.get_set_ne _ _ _ h]

@[simp] theorem State.out_setOut_same (s : State) (n : Nat) (v : OutBarge) : (s.setOut n v).out n = v := by
  simp [State.out, State.setOut]

theorem State.out_setOut_ne (s : State) {n j : Nat} (v : OutBarge) (h : j ≠ n) : (s.setOut n v).out j = s.out j := by
  simp [State.out, State.setOut, SMap.get_set_ne _ _ _ h]

@[simp] theorem State.stream_setStream_same (s : State) (n : Nat) (v : Stream) : (s.setStream n v).stream n = v := by
  simp [State.stream, State.setStream]

theorem State.stream_setStream_ne (s : State) {n j : Nat} (v : Stream) (h : j ≠ n) : (s.setStream n v).stream j = s.stream j := by
  simp [State.stream, State.setStream, SMap.get_set_ne _ _ _ h]

@[simp] theorem State.strobe_setStrobe_same (s : State) (n : Nat) (v : Strobe) : (s.setStrobe n v).strobe n = v := by
  simp [State.strobe, State.setStrobe]

theorem State.strobe_setStrobe_ne (s : State) {n j : Nat} (v : Strobe) (h : j ≠ n) : (s.setStrobe n v).strobe j = s.strobe j := by
  simp [State.strobe, State.setStrobe, SMap.get_set_ne _ _ _ h]

@[simp] theorem State.chan_setChan_same (s : State) (n : Nat) (v : ShfChan) : (s.setChan n v).chan n = v := by
  simp [State.chan, State.setChan]

theorem State.chan_setChan_ne (s : State) {n j : Nat} (v : ShfChan) (h : j ≠ n) : (s.setChan n v).chan j = s.chan j := by
  simp [State.chan, State.setChan, SMap.get_set_ne _ _ _ h]

/-! ### What an update leaves alone -/

/-! #### `State.setReg` -/

@[simp] theorem State.shadow_setReg (s : State) (a : Nat) (v : W32) : (s.setReg a v).shadow = s.shadow := rfl
@[simp] theorem State.ctr_setReg (s : State) (a : Nat) (v : W32) : (s.setReg a v).ctr = s.ctr := rfl
@[simp] theorem State.latch_setReg (s : State) (a : Nat) (v : W32) : (s.setReg a v).latch = s.latch := rfl
@[simp] theorem State.mem_setReg (s : State) (a : Nat) (v : W32) : (s.setReg a v).mem = s.mem := rfl
@[simp] theorem State.slots_setReg (s : State) (a : Nat) (v : W32) : (s.setReg a v).slots = s.slots := rfl
@[simp] theorem State.cores_setReg (s : State) (a : Nat) (v : W32) : (s.setReg a v).cores = s.cores := rfl
@[simp] theorem State.lk_setReg (s : State) (a : Nat) (v : W32) : (s.setReg a v).lk = s.lk := rfl
@[simp] theorem State.tb_setReg (s : State) (a : Nat) (v : W32) : (s.setReg a v).tb = s.tb := rfl
@[simp] theorem State.evr_setReg (s : State) (a : Nat) (v : W32) : (s.setReg a v).evr = s.evr := rfl
@[simp] theorem State.msix_setReg (s : State) (a : Nat) (v : W32) : (s.setReg a v).msix = s.msix := rfl
@[simp] theorem State.shp_setReg (s : State) (a : Nat) (v : W32) : (s.setReg a v).shp = s.shp := rfl
@[simp] theorem State.flt_setReg (s : State) (a : Nat) (v : W32) : (s.setReg a v).flt = s.flt := rfl
@[simp] theorem State.drc_setReg (s : State) (a : Nat) (v : W32) : (s.setReg a v).drc = s.drc := rfl
@[simp] theorem State.sau_setReg (s : State) (a : Nat) (v : W32) : (s.setReg a v).sau = s.sau := rfl
@[simp] theorem State.bsn_setReg (s : State) (a : Nat) (v : W32) : (s.setReg a v).bsn = s.bsn := rfl
@[simp] theorem State.tbl_setReg (s : State) (a : Nat) (v : W32) : (s.setReg a v).tbl = s.tbl := rfl
@[simp] theorem State.prt_setReg (s : State) (a : Nat) (v : W32) : (s.setReg a v).prt = s.prt := rfl
@[simp] theorem State.brg_setReg (s : State) (a : Nat) (v : W32) : (s.setReg a v).brg = s.brg := rfl
@[simp] theorem State.sec_setReg (s : State) (a : Nat) (v : W32) : (s.setReg a v).sec = s.sec := rfl
@[simp] theorem State.lcs_setReg (s : State) (a : Nat) (v : W32) : (s.setReg a v).lcs = s.lcs := rfl
@[simp] theorem State.jtag_setReg (s : State) (a : Nat) (v : W32) : (s.setReg a v).jtag = s.jtag := rfl
@[simp] theorem State.boot_setReg (s : State) (a : Nat) (v : W32) : (s.setReg a v).boot = s.boot := rfl
@[simp] theorem State.pwr_setReg (s : State) (a : Nat) (v : W32) : (s.setReg a v).pwr = s.pwr := rfl
@[simp] theorem State.uni_setReg (s : State) (a : Nat) (v : W32) : (s.setReg a v).uni = s.uni := rfl
@[simp] theorem State.tnt_setReg (s : State) (a : Nat) (v : W32) : (s.setReg a v).tnt = s.tnt := rfl
@[simp] theorem State.ful_setReg (s : State) (a : Nat) (v : W32) : (s.setReg a v).ful = s.ful := rfl
@[simp] theorem State.shf_setReg (s : State) (a : Nat) (v : W32) : (s.setReg a v).shf = s.shf := rfl
@[simp] theorem State.stb_setReg (s : State) (a : Nat) (v : W32) : (s.setReg a v).stb = s.stb := rfl
@[simp] theorem State.free_setReg (s : State) (a : Nat) (v : W32) : (s.setReg a v).free = s.free := rfl
@[simp] theorem State.once_setReg (s : State) (a : Nat) (v : W32) : (s.setReg a v).once = s.once := rfl
@[simp] theorem State.reply_setReg (s : State) (a : Nat) (v : W32) : (s.setReg a v).reply = s.reply := rfl
@[simp] theorem State.pending_setReg (s : State) (a : Nat) (v : W32) : (s.setReg a v).pending = s.pending := rfl
@[simp] theorem State.counter_setReg (s : State) (a : Nat) (v : W32) (r : Nat) : (s.setReg a v).counter r = s.counter r := rfl
@[simp] theorem State.readByte_setReg (s : State) (a : Nat) (v : W32) (j : Nat) : (s.setReg a v).readByte j = s.readByte j := rfl
@[simp] theorem State.slot_setReg (s : State) (a : Nat) (v : W32) (i : Nat) : (s.setReg a v).slot i = s.slot i := rfl
@[simp] theorem State.core_setReg (s : State) (a : Nat) (v : W32) (i : Nat) : (s.setReg a v).core i = s.core i := rfl
@[simp] theorem State.thread_setReg (s : State) (a : Nat) (v : W32) (i : Nat) : (s.setReg a v).thread i = s.thread i := rfl
@[simp] theorem State.tokens_setReg (s : State) (a : Nat) (v : W32) (i : Nat) : (s.setReg a v).tokens i = s.tokens i := rfl
@[simp] theorem State.frame_setReg (s : State) (a : Nat) (v : W32) (i : Nat) : (s.setReg a v).frame i = s.frame i := rfl
@[simp] theorem State.ch_setReg (s : State) (a : Nat) (v : W32) (i : Nat) : (s.setReg a v).ch i = s.ch i := rfl

/-! #### `State.setFld` -/

@[simp] theorem State.shadow_setFld (s : State) (a hi lo v : Nat) : (s.setFld a hi lo v).shadow = s.shadow := rfl
@[simp] theorem State.ctr_setFld (s : State) (a hi lo v : Nat) : (s.setFld a hi lo v).ctr = s.ctr := rfl
@[simp] theorem State.latch_setFld (s : State) (a hi lo v : Nat) : (s.setFld a hi lo v).latch = s.latch := rfl
@[simp] theorem State.mem_setFld (s : State) (a hi lo v : Nat) : (s.setFld a hi lo v).mem = s.mem := rfl
@[simp] theorem State.slots_setFld (s : State) (a hi lo v : Nat) : (s.setFld a hi lo v).slots = s.slots := rfl
@[simp] theorem State.cores_setFld (s : State) (a hi lo v : Nat) : (s.setFld a hi lo v).cores = s.cores := rfl
@[simp] theorem State.lk_setFld (s : State) (a hi lo v : Nat) : (s.setFld a hi lo v).lk = s.lk := rfl
@[simp] theorem State.tb_setFld (s : State) (a hi lo v : Nat) : (s.setFld a hi lo v).tb = s.tb := rfl
@[simp] theorem State.evr_setFld (s : State) (a hi lo v : Nat) : (s.setFld a hi lo v).evr = s.evr := rfl
@[simp] theorem State.msix_setFld (s : State) (a hi lo v : Nat) : (s.setFld a hi lo v).msix = s.msix := rfl
@[simp] theorem State.shp_setFld (s : State) (a hi lo v : Nat) : (s.setFld a hi lo v).shp = s.shp := rfl
@[simp] theorem State.flt_setFld (s : State) (a hi lo v : Nat) : (s.setFld a hi lo v).flt = s.flt := rfl
@[simp] theorem State.drc_setFld (s : State) (a hi lo v : Nat) : (s.setFld a hi lo v).drc = s.drc := rfl
@[simp] theorem State.sau_setFld (s : State) (a hi lo v : Nat) : (s.setFld a hi lo v).sau = s.sau := rfl
@[simp] theorem State.bsn_setFld (s : State) (a hi lo v : Nat) : (s.setFld a hi lo v).bsn = s.bsn := rfl
@[simp] theorem State.tbl_setFld (s : State) (a hi lo v : Nat) : (s.setFld a hi lo v).tbl = s.tbl := rfl
@[simp] theorem State.prt_setFld (s : State) (a hi lo v : Nat) : (s.setFld a hi lo v).prt = s.prt := rfl
@[simp] theorem State.brg_setFld (s : State) (a hi lo v : Nat) : (s.setFld a hi lo v).brg = s.brg := rfl
@[simp] theorem State.sec_setFld (s : State) (a hi lo v : Nat) : (s.setFld a hi lo v).sec = s.sec := rfl
@[simp] theorem State.lcs_setFld (s : State) (a hi lo v : Nat) : (s.setFld a hi lo v).lcs = s.lcs := rfl
@[simp] theorem State.jtag_setFld (s : State) (a hi lo v : Nat) : (s.setFld a hi lo v).jtag = s.jtag := rfl
@[simp] theorem State.boot_setFld (s : State) (a hi lo v : Nat) : (s.setFld a hi lo v).boot = s.boot := rfl
@[simp] theorem State.pwr_setFld (s : State) (a hi lo v : Nat) : (s.setFld a hi lo v).pwr = s.pwr := rfl
@[simp] theorem State.uni_setFld (s : State) (a hi lo v : Nat) : (s.setFld a hi lo v).uni = s.uni := rfl
@[simp] theorem State.tnt_setFld (s : State) (a hi lo v : Nat) : (s.setFld a hi lo v).tnt = s.tnt := rfl
@[simp] theorem State.ful_setFld (s : State) (a hi lo v : Nat) : (s.setFld a hi lo v).ful = s.ful := rfl
@[simp] theorem State.shf_setFld (s : State) (a hi lo v : Nat) : (s.setFld a hi lo v).shf = s.shf := rfl
@[simp] theorem State.stb_setFld (s : State) (a hi lo v : Nat) : (s.setFld a hi lo v).stb = s.stb := rfl
@[simp] theorem State.free_setFld (s : State) (a hi lo v : Nat) : (s.setFld a hi lo v).free = s.free := rfl
@[simp] theorem State.once_setFld (s : State) (a hi lo v : Nat) : (s.setFld a hi lo v).once = s.once := rfl
@[simp] theorem State.reply_setFld (s : State) (a hi lo v : Nat) : (s.setFld a hi lo v).reply = s.reply := rfl
@[simp] theorem State.pending_setFld (s : State) (a hi lo v : Nat) : (s.setFld a hi lo v).pending = s.pending := rfl
@[simp] theorem State.counter_setFld (s : State) (a hi lo v : Nat) (r : Nat) : (s.setFld a hi lo v).counter r = s.counter r := rfl
@[simp] theorem State.readByte_setFld (s : State) (a hi lo v : Nat) (j : Nat) : (s.setFld a hi lo v).readByte j = s.readByte j := rfl
@[simp] theorem State.slot_setFld (s : State) (a hi lo v : Nat) (i : Nat) : (s.setFld a hi lo v).slot i = s.slot i := rfl
@[simp] theorem State.core_setFld (s : State) (a hi lo v : Nat) (i : Nat) : (s.setFld a hi lo v).core i = s.core i := rfl
@[simp] theorem State.thread_setFld (s : State) (a hi lo v : Nat) (i : Nat) : (s.setFld a hi lo v).thread i = s.thread i := rfl
@[simp] theorem State.tokens_setFld (s : State) (a hi lo v : Nat) (i : Nat) : (s.setFld a hi lo v).tokens i = s.tokens i := rfl
@[simp] theorem State.frame_setFld (s : State) (a hi lo v : Nat) (i : Nat) : (s.setFld a hi lo v).frame i = s.frame i := rfl
@[simp] theorem State.ch_setFld (s : State) (a hi lo v : Nat) (i : Nat) : (s.setFld a hi lo v).ch i = s.ch i := rfl

/-! #### `State.countBy` -/

@[simp] theorem State.regs_countBy (s : State) (a n : Nat) : (s.countBy a n).regs = s.regs := rfl
@[simp] theorem State.shadow_countBy (s : State) (a n : Nat) : (s.countBy a n).shadow = s.shadow := rfl
@[simp] theorem State.latch_countBy (s : State) (a n : Nat) : (s.countBy a n).latch = s.latch := rfl
@[simp] theorem State.mem_countBy (s : State) (a n : Nat) : (s.countBy a n).mem = s.mem := rfl
@[simp] theorem State.slots_countBy (s : State) (a n : Nat) : (s.countBy a n).slots = s.slots := rfl
@[simp] theorem State.cores_countBy (s : State) (a n : Nat) : (s.countBy a n).cores = s.cores := rfl
@[simp] theorem State.lk_countBy (s : State) (a n : Nat) : (s.countBy a n).lk = s.lk := rfl
@[simp] theorem State.tb_countBy (s : State) (a n : Nat) : (s.countBy a n).tb = s.tb := rfl
@[simp] theorem State.evr_countBy (s : State) (a n : Nat) : (s.countBy a n).evr = s.evr := rfl
@[simp] theorem State.msix_countBy (s : State) (a n : Nat) : (s.countBy a n).msix = s.msix := rfl
@[simp] theorem State.shp_countBy (s : State) (a n : Nat) : (s.countBy a n).shp = s.shp := rfl
@[simp] theorem State.flt_countBy (s : State) (a n : Nat) : (s.countBy a n).flt = s.flt := rfl
@[simp] theorem State.drc_countBy (s : State) (a n : Nat) : (s.countBy a n).drc = s.drc := rfl
@[simp] theorem State.sau_countBy (s : State) (a n : Nat) : (s.countBy a n).sau = s.sau := rfl
@[simp] theorem State.bsn_countBy (s : State) (a n : Nat) : (s.countBy a n).bsn = s.bsn := rfl
@[simp] theorem State.tbl_countBy (s : State) (a n : Nat) : (s.countBy a n).tbl = s.tbl := rfl
@[simp] theorem State.prt_countBy (s : State) (a n : Nat) : (s.countBy a n).prt = s.prt := rfl
@[simp] theorem State.brg_countBy (s : State) (a n : Nat) : (s.countBy a n).brg = s.brg := rfl
@[simp] theorem State.sec_countBy (s : State) (a n : Nat) : (s.countBy a n).sec = s.sec := rfl
@[simp] theorem State.lcs_countBy (s : State) (a n : Nat) : (s.countBy a n).lcs = s.lcs := rfl
@[simp] theorem State.jtag_countBy (s : State) (a n : Nat) : (s.countBy a n).jtag = s.jtag := rfl
@[simp] theorem State.boot_countBy (s : State) (a n : Nat) : (s.countBy a n).boot = s.boot := rfl
@[simp] theorem State.pwr_countBy (s : State) (a n : Nat) : (s.countBy a n).pwr = s.pwr := rfl
@[simp] theorem State.uni_countBy (s : State) (a n : Nat) : (s.countBy a n).uni = s.uni := rfl
@[simp] theorem State.tnt_countBy (s : State) (a n : Nat) : (s.countBy a n).tnt = s.tnt := rfl
@[simp] theorem State.ful_countBy (s : State) (a n : Nat) : (s.countBy a n).ful = s.ful := rfl
@[simp] theorem State.shf_countBy (s : State) (a n : Nat) : (s.countBy a n).shf = s.shf := rfl
@[simp] theorem State.stb_countBy (s : State) (a n : Nat) : (s.countBy a n).stb = s.stb := rfl
@[simp] theorem State.free_countBy (s : State) (a n : Nat) : (s.countBy a n).free = s.free := rfl
@[simp] theorem State.once_countBy (s : State) (a n : Nat) : (s.countBy a n).once = s.once := rfl
@[simp] theorem State.reply_countBy (s : State) (a n : Nat) : (s.countBy a n).reply = s.reply := rfl
@[simp] theorem State.pending_countBy (s : State) (a n : Nat) : (s.countBy a n).pending = s.pending := rfl
@[simp] theorem State.reg_countBy (s : State) (a n : Nat) (r : Nat) : (s.countBy a n).reg r = s.reg r := rfl
@[simp] theorem State.readByte_countBy (s : State) (a n : Nat) (j : Nat) : (s.countBy a n).readByte j = s.readByte j := rfl
@[simp] theorem State.slot_countBy (s : State) (a n : Nat) (i : Nat) : (s.countBy a n).slot i = s.slot i := rfl
@[simp] theorem State.core_countBy (s : State) (a n : Nat) (i : Nat) : (s.countBy a n).core i = s.core i := rfl
@[simp] theorem State.thread_countBy (s : State) (a n : Nat) (i : Nat) : (s.countBy a n).thread i = s.thread i := rfl
@[simp] theorem State.tokens_countBy (s : State) (a n : Nat) (i : Nat) : (s.countBy a n).tokens i = s.tokens i := rfl
@[simp] theorem State.frame_countBy (s : State) (a n : Nat) (i : Nat) : (s.countBy a n).frame i = s.frame i := rfl
@[simp] theorem State.ch_countBy (s : State) (a n : Nat) (i : Nat) : (s.countBy a n).ch i = s.ch i := rfl

/-! #### `State.count` -/

@[simp] theorem State.regs_count (s : State) (a : Nat) : (s.count a).regs = s.regs := rfl
@[simp] theorem State.shadow_count (s : State) (a : Nat) : (s.count a).shadow = s.shadow := rfl
@[simp] theorem State.latch_count (s : State) (a : Nat) : (s.count a).latch = s.latch := rfl
@[simp] theorem State.mem_count (s : State) (a : Nat) : (s.count a).mem = s.mem := rfl
@[simp] theorem State.slots_count (s : State) (a : Nat) : (s.count a).slots = s.slots := rfl
@[simp] theorem State.cores_count (s : State) (a : Nat) : (s.count a).cores = s.cores := rfl
@[simp] theorem State.lk_count (s : State) (a : Nat) : (s.count a).lk = s.lk := rfl
@[simp] theorem State.tb_count (s : State) (a : Nat) : (s.count a).tb = s.tb := rfl
@[simp] theorem State.evr_count (s : State) (a : Nat) : (s.count a).evr = s.evr := rfl
@[simp] theorem State.msix_count (s : State) (a : Nat) : (s.count a).msix = s.msix := rfl
@[simp] theorem State.shp_count (s : State) (a : Nat) : (s.count a).shp = s.shp := rfl
@[simp] theorem State.flt_count (s : State) (a : Nat) : (s.count a).flt = s.flt := rfl
@[simp] theorem State.drc_count (s : State) (a : Nat) : (s.count a).drc = s.drc := rfl
@[simp] theorem State.sau_count (s : State) (a : Nat) : (s.count a).sau = s.sau := rfl
@[simp] theorem State.bsn_count (s : State) (a : Nat) : (s.count a).bsn = s.bsn := rfl
@[simp] theorem State.tbl_count (s : State) (a : Nat) : (s.count a).tbl = s.tbl := rfl
@[simp] theorem State.prt_count (s : State) (a : Nat) : (s.count a).prt = s.prt := rfl
@[simp] theorem State.brg_count (s : State) (a : Nat) : (s.count a).brg = s.brg := rfl
@[simp] theorem State.sec_count (s : State) (a : Nat) : (s.count a).sec = s.sec := rfl
@[simp] theorem State.lcs_count (s : State) (a : Nat) : (s.count a).lcs = s.lcs := rfl
@[simp] theorem State.jtag_count (s : State) (a : Nat) : (s.count a).jtag = s.jtag := rfl
@[simp] theorem State.boot_count (s : State) (a : Nat) : (s.count a).boot = s.boot := rfl
@[simp] theorem State.pwr_count (s : State) (a : Nat) : (s.count a).pwr = s.pwr := rfl
@[simp] theorem State.uni_count (s : State) (a : Nat) : (s.count a).uni = s.uni := rfl
@[simp] theorem State.tnt_count (s : State) (a : Nat) : (s.count a).tnt = s.tnt := rfl
@[simp] theorem State.ful_count (s : State) (a : Nat) : (s.count a).ful = s.ful := rfl
@[simp] theorem State.shf_count (s : State) (a : Nat) : (s.count a).shf = s.shf := rfl
@[simp] theorem State.stb_count (s : State) (a : Nat) : (s.count a).stb = s.stb := rfl
@[simp] theorem State.free_count (s : State) (a : Nat) : (s.count a).free = s.free := rfl
@[simp] theorem State.once_count (s : State) (a : Nat) : (s.count a).once = s.once := rfl
@[simp] theorem State.reply_count (s : State) (a : Nat) : (s.count a).reply = s.reply := rfl
@[simp] theorem State.pending_count (s : State) (a : Nat) : (s.count a).pending = s.pending := rfl
@[simp] theorem State.reg_count (s : State) (a : Nat) (r : Nat) : (s.count a).reg r = s.reg r := rfl
@[simp] theorem State.readByte_count (s : State) (a : Nat) (j : Nat) : (s.count a).readByte j = s.readByte j := rfl
@[simp] theorem State.slot_count (s : State) (a : Nat) (i : Nat) : (s.count a).slot i = s.slot i := rfl
@[simp] theorem State.core_count (s : State) (a : Nat) (i : Nat) : (s.count a).core i = s.core i := rfl
@[simp] theorem State.thread_count (s : State) (a : Nat) (i : Nat) : (s.count a).thread i = s.thread i := rfl
@[simp] theorem State.tokens_count (s : State) (a : Nat) (i : Nat) : (s.count a).tokens i = s.tokens i := rfl
@[simp] theorem State.frame_count (s : State) (a : Nat) (i : Nat) : (s.count a).frame i = s.frame i := rfl
@[simp] theorem State.ch_count (s : State) (a : Nat) (i : Nat) : (s.count a).ch i = s.ch i := rfl

/-! #### `State.answer` -/

@[simp] theorem State.regs_answer (s : State) (st : Status) (v : W64) : (s.answer st v).regs = s.regs := rfl
@[simp] theorem State.shadow_answer (s : State) (st : Status) (v : W64) : (s.answer st v).shadow = s.shadow := rfl
@[simp] theorem State.ctr_answer (s : State) (st : Status) (v : W64) : (s.answer st v).ctr = s.ctr := rfl
@[simp] theorem State.latch_answer (s : State) (st : Status) (v : W64) : (s.answer st v).latch = s.latch := rfl
@[simp] theorem State.mem_answer (s : State) (st : Status) (v : W64) : (s.answer st v).mem = s.mem := rfl
@[simp] theorem State.slots_answer (s : State) (st : Status) (v : W64) : (s.answer st v).slots = s.slots := rfl
@[simp] theorem State.cores_answer (s : State) (st : Status) (v : W64) : (s.answer st v).cores = s.cores := rfl
@[simp] theorem State.lk_answer (s : State) (st : Status) (v : W64) : (s.answer st v).lk = s.lk := rfl
@[simp] theorem State.tb_answer (s : State) (st : Status) (v : W64) : (s.answer st v).tb = s.tb := rfl
@[simp] theorem State.evr_answer (s : State) (st : Status) (v : W64) : (s.answer st v).evr = s.evr := rfl
@[simp] theorem State.msix_answer (s : State) (st : Status) (v : W64) : (s.answer st v).msix = s.msix := rfl
@[simp] theorem State.shp_answer (s : State) (st : Status) (v : W64) : (s.answer st v).shp = s.shp := rfl
@[simp] theorem State.flt_answer (s : State) (st : Status) (v : W64) : (s.answer st v).flt = s.flt := rfl
@[simp] theorem State.drc_answer (s : State) (st : Status) (v : W64) : (s.answer st v).drc = s.drc := rfl
@[simp] theorem State.sau_answer (s : State) (st : Status) (v : W64) : (s.answer st v).sau = s.sau := rfl
@[simp] theorem State.bsn_answer (s : State) (st : Status) (v : W64) : (s.answer st v).bsn = s.bsn := rfl
@[simp] theorem State.tbl_answer (s : State) (st : Status) (v : W64) : (s.answer st v).tbl = s.tbl := rfl
@[simp] theorem State.prt_answer (s : State) (st : Status) (v : W64) : (s.answer st v).prt = s.prt := rfl
@[simp] theorem State.brg_answer (s : State) (st : Status) (v : W64) : (s.answer st v).brg = s.brg := rfl
@[simp] theorem State.sec_answer (s : State) (st : Status) (v : W64) : (s.answer st v).sec = s.sec := rfl
@[simp] theorem State.lcs_answer (s : State) (st : Status) (v : W64) : (s.answer st v).lcs = s.lcs := rfl
@[simp] theorem State.jtag_answer (s : State) (st : Status) (v : W64) : (s.answer st v).jtag = s.jtag := rfl
@[simp] theorem State.boot_answer (s : State) (st : Status) (v : W64) : (s.answer st v).boot = s.boot := rfl
@[simp] theorem State.pwr_answer (s : State) (st : Status) (v : W64) : (s.answer st v).pwr = s.pwr := rfl
@[simp] theorem State.uni_answer (s : State) (st : Status) (v : W64) : (s.answer st v).uni = s.uni := rfl
@[simp] theorem State.tnt_answer (s : State) (st : Status) (v : W64) : (s.answer st v).tnt = s.tnt := rfl
@[simp] theorem State.ful_answer (s : State) (st : Status) (v : W64) : (s.answer st v).ful = s.ful := rfl
@[simp] theorem State.shf_answer (s : State) (st : Status) (v : W64) : (s.answer st v).shf = s.shf := rfl
@[simp] theorem State.stb_answer (s : State) (st : Status) (v : W64) : (s.answer st v).stb = s.stb := rfl
@[simp] theorem State.free_answer (s : State) (st : Status) (v : W64) : (s.answer st v).free = s.free := rfl
@[simp] theorem State.once_answer (s : State) (st : Status) (v : W64) : (s.answer st v).once = s.once := rfl
@[simp] theorem State.pending_answer (s : State) (st : Status) (v : W64) : (s.answer st v).pending = s.pending := rfl
@[simp] theorem State.reg_answer (s : State) (st : Status) (v : W64) (r : Nat) : (s.answer st v).reg r = s.reg r := rfl
@[simp] theorem State.counter_answer (s : State) (st : Status) (v : W64) (r : Nat) : (s.answer st v).counter r = s.counter r := rfl
@[simp] theorem State.readByte_answer (s : State) (st : Status) (v : W64) (j : Nat) : (s.answer st v).readByte j = s.readByte j := rfl
@[simp] theorem State.slot_answer (s : State) (st : Status) (v : W64) (i : Nat) : (s.answer st v).slot i = s.slot i := rfl
@[simp] theorem State.core_answer (s : State) (st : Status) (v : W64) (i : Nat) : (s.answer st v).core i = s.core i := rfl
@[simp] theorem State.thread_answer (s : State) (st : Status) (v : W64) (i : Nat) : (s.answer st v).thread i = s.thread i := rfl
@[simp] theorem State.tokens_answer (s : State) (st : Status) (v : W64) (i : Nat) : (s.answer st v).tokens i = s.tokens i := rfl
@[simp] theorem State.frame_answer (s : State) (st : Status) (v : W64) (i : Nat) : (s.answer st v).frame i = s.frame i := rfl
@[simp] theorem State.ch_answer (s : State) (st : Status) (v : W64) (i : Nat) : (s.answer st v).ch i = s.ch i := rfl

/-! #### `State.status` -/

@[simp] theorem State.regs_status (s : State) (st : Status) : (s.status st).regs = s.regs := rfl
@[simp] theorem State.shadow_status (s : State) (st : Status) : (s.status st).shadow = s.shadow := rfl
@[simp] theorem State.ctr_status (s : State) (st : Status) : (s.status st).ctr = s.ctr := rfl
@[simp] theorem State.latch_status (s : State) (st : Status) : (s.status st).latch = s.latch := rfl
@[simp] theorem State.mem_status (s : State) (st : Status) : (s.status st).mem = s.mem := rfl
@[simp] theorem State.slots_status (s : State) (st : Status) : (s.status st).slots = s.slots := rfl
@[simp] theorem State.cores_status (s : State) (st : Status) : (s.status st).cores = s.cores := rfl
@[simp] theorem State.lk_status (s : State) (st : Status) : (s.status st).lk = s.lk := rfl
@[simp] theorem State.tb_status (s : State) (st : Status) : (s.status st).tb = s.tb := rfl
@[simp] theorem State.evr_status (s : State) (st : Status) : (s.status st).evr = s.evr := rfl
@[simp] theorem State.msix_status (s : State) (st : Status) : (s.status st).msix = s.msix := rfl
@[simp] theorem State.shp_status (s : State) (st : Status) : (s.status st).shp = s.shp := rfl
@[simp] theorem State.flt_status (s : State) (st : Status) : (s.status st).flt = s.flt := rfl
@[simp] theorem State.drc_status (s : State) (st : Status) : (s.status st).drc = s.drc := rfl
@[simp] theorem State.sau_status (s : State) (st : Status) : (s.status st).sau = s.sau := rfl
@[simp] theorem State.bsn_status (s : State) (st : Status) : (s.status st).bsn = s.bsn := rfl
@[simp] theorem State.tbl_status (s : State) (st : Status) : (s.status st).tbl = s.tbl := rfl
@[simp] theorem State.prt_status (s : State) (st : Status) : (s.status st).prt = s.prt := rfl
@[simp] theorem State.brg_status (s : State) (st : Status) : (s.status st).brg = s.brg := rfl
@[simp] theorem State.sec_status (s : State) (st : Status) : (s.status st).sec = s.sec := rfl
@[simp] theorem State.lcs_status (s : State) (st : Status) : (s.status st).lcs = s.lcs := rfl
@[simp] theorem State.jtag_status (s : State) (st : Status) : (s.status st).jtag = s.jtag := rfl
@[simp] theorem State.boot_status (s : State) (st : Status) : (s.status st).boot = s.boot := rfl
@[simp] theorem State.pwr_status (s : State) (st : Status) : (s.status st).pwr = s.pwr := rfl
@[simp] theorem State.uni_status (s : State) (st : Status) : (s.status st).uni = s.uni := rfl
@[simp] theorem State.tnt_status (s : State) (st : Status) : (s.status st).tnt = s.tnt := rfl
@[simp] theorem State.ful_status (s : State) (st : Status) : (s.status st).ful = s.ful := rfl
@[simp] theorem State.shf_status (s : State) (st : Status) : (s.status st).shf = s.shf := rfl
@[simp] theorem State.stb_status (s : State) (st : Status) : (s.status st).stb = s.stb := rfl
@[simp] theorem State.free_status (s : State) (st : Status) : (s.status st).free = s.free := rfl
@[simp] theorem State.once_status (s : State) (st : Status) : (s.status st).once = s.once := rfl
@[simp] theorem State.pending_status (s : State) (st : Status) : (s.status st).pending = s.pending := rfl
@[simp] theorem State.reg_status (s : State) (st : Status) (r : Nat) : (s.status st).reg r = s.reg r := rfl
@[simp] theorem State.counter_status (s : State) (st : Status) (r : Nat) : (s.status st).counter r = s.counter r := rfl
@[simp] theorem State.readByte_status (s : State) (st : Status) (j : Nat) : (s.status st).readByte j = s.readByte j := rfl
@[simp] theorem State.slot_status (s : State) (st : Status) (i : Nat) : (s.status st).slot i = s.slot i := rfl
@[simp] theorem State.core_status (s : State) (st : Status) (i : Nat) : (s.status st).core i = s.core i := rfl
@[simp] theorem State.thread_status (s : State) (st : Status) (i : Nat) : (s.status st).thread i = s.thread i := rfl
@[simp] theorem State.tokens_status (s : State) (st : Status) (i : Nat) : (s.status st).tokens i = s.tokens i := rfl
@[simp] theorem State.frame_status (s : State) (st : Status) (i : Nat) : (s.status st).frame i = s.frame i := rfl
@[simp] theorem State.ch_status (s : State) (st : Status) (i : Nat) : (s.status st).ch i = s.ch i := rfl

/-! #### `State.writeByte` -/

@[simp] theorem State.regs_writeByte (s : State) (k : Nat) (v : Byte) : (s.writeByte k v).regs = s.regs := rfl
@[simp] theorem State.shadow_writeByte (s : State) (k : Nat) (v : Byte) : (s.writeByte k v).shadow = s.shadow := rfl
@[simp] theorem State.ctr_writeByte (s : State) (k : Nat) (v : Byte) : (s.writeByte k v).ctr = s.ctr := rfl
@[simp] theorem State.latch_writeByte (s : State) (k : Nat) (v : Byte) : (s.writeByte k v).latch = s.latch := rfl
@[simp] theorem State.slots_writeByte (s : State) (k : Nat) (v : Byte) : (s.writeByte k v).slots = s.slots := rfl
@[simp] theorem State.cores_writeByte (s : State) (k : Nat) (v : Byte) : (s.writeByte k v).cores = s.cores := rfl
@[simp] theorem State.lk_writeByte (s : State) (k : Nat) (v : Byte) : (s.writeByte k v).lk = s.lk := rfl
@[simp] theorem State.tb_writeByte (s : State) (k : Nat) (v : Byte) : (s.writeByte k v).tb = s.tb := rfl
@[simp] theorem State.evr_writeByte (s : State) (k : Nat) (v : Byte) : (s.writeByte k v).evr = s.evr := rfl
@[simp] theorem State.msix_writeByte (s : State) (k : Nat) (v : Byte) : (s.writeByte k v).msix = s.msix := rfl
@[simp] theorem State.shp_writeByte (s : State) (k : Nat) (v : Byte) : (s.writeByte k v).shp = s.shp := rfl
@[simp] theorem State.flt_writeByte (s : State) (k : Nat) (v : Byte) : (s.writeByte k v).flt = s.flt := rfl
@[simp] theorem State.drc_writeByte (s : State) (k : Nat) (v : Byte) : (s.writeByte k v).drc = s.drc := rfl
@[simp] theorem State.sau_writeByte (s : State) (k : Nat) (v : Byte) : (s.writeByte k v).sau = s.sau := rfl
@[simp] theorem State.bsn_writeByte (s : State) (k : Nat) (v : Byte) : (s.writeByte k v).bsn = s.bsn := rfl
@[simp] theorem State.tbl_writeByte (s : State) (k : Nat) (v : Byte) : (s.writeByte k v).tbl = s.tbl := rfl
@[simp] theorem State.prt_writeByte (s : State) (k : Nat) (v : Byte) : (s.writeByte k v).prt = s.prt := rfl
@[simp] theorem State.brg_writeByte (s : State) (k : Nat) (v : Byte) : (s.writeByte k v).brg = s.brg := rfl
@[simp] theorem State.sec_writeByte (s : State) (k : Nat) (v : Byte) : (s.writeByte k v).sec = s.sec := rfl
@[simp] theorem State.lcs_writeByte (s : State) (k : Nat) (v : Byte) : (s.writeByte k v).lcs = s.lcs := rfl
@[simp] theorem State.jtag_writeByte (s : State) (k : Nat) (v : Byte) : (s.writeByte k v).jtag = s.jtag := rfl
@[simp] theorem State.boot_writeByte (s : State) (k : Nat) (v : Byte) : (s.writeByte k v).boot = s.boot := rfl
@[simp] theorem State.pwr_writeByte (s : State) (k : Nat) (v : Byte) : (s.writeByte k v).pwr = s.pwr := rfl
@[simp] theorem State.uni_writeByte (s : State) (k : Nat) (v : Byte) : (s.writeByte k v).uni = s.uni := rfl
@[simp] theorem State.tnt_writeByte (s : State) (k : Nat) (v : Byte) : (s.writeByte k v).tnt = s.tnt := rfl
@[simp] theorem State.ful_writeByte (s : State) (k : Nat) (v : Byte) : (s.writeByte k v).ful = s.ful := rfl
@[simp] theorem State.shf_writeByte (s : State) (k : Nat) (v : Byte) : (s.writeByte k v).shf = s.shf := rfl
@[simp] theorem State.stb_writeByte (s : State) (k : Nat) (v : Byte) : (s.writeByte k v).stb = s.stb := rfl
@[simp] theorem State.free_writeByte (s : State) (k : Nat) (v : Byte) : (s.writeByte k v).free = s.free := rfl
@[simp] theorem State.once_writeByte (s : State) (k : Nat) (v : Byte) : (s.writeByte k v).once = s.once := rfl
@[simp] theorem State.reply_writeByte (s : State) (k : Nat) (v : Byte) : (s.writeByte k v).reply = s.reply := rfl
@[simp] theorem State.pending_writeByte (s : State) (k : Nat) (v : Byte) : (s.writeByte k v).pending = s.pending := rfl
@[simp] theorem State.reg_writeByte (s : State) (k : Nat) (v : Byte) (r : Nat) : (s.writeByte k v).reg r = s.reg r := rfl
@[simp] theorem State.counter_writeByte (s : State) (k : Nat) (v : Byte) (r : Nat) : (s.writeByte k v).counter r = s.counter r := rfl
@[simp] theorem State.slot_writeByte (s : State) (k : Nat) (v : Byte) (i : Nat) : (s.writeByte k v).slot i = s.slot i := rfl
@[simp] theorem State.core_writeByte (s : State) (k : Nat) (v : Byte) (i : Nat) : (s.writeByte k v).core i = s.core i := rfl
@[simp] theorem State.thread_writeByte (s : State) (k : Nat) (v : Byte) (i : Nat) : (s.writeByte k v).thread i = s.thread i := rfl
@[simp] theorem State.tokens_writeByte (s : State) (k : Nat) (v : Byte) (i : Nat) : (s.writeByte k v).tokens i = s.tokens i := rfl
@[simp] theorem State.frame_writeByte (s : State) (k : Nat) (v : Byte) (i : Nat) : (s.writeByte k v).frame i = s.frame i := rfl
@[simp] theorem State.ch_writeByte (s : State) (k : Nat) (v : Byte) (i : Nat) : (s.writeByte k v).ch i = s.ch i := rfl

/-! #### `State.writeBytes` -/

@[simp] theorem State.regs_writeBytes (s : State) (k : Nat) (bs : List Byte) : (s.writeBytes k bs).regs = s.regs := rfl
@[simp] theorem State.shadow_writeBytes (s : State) (k : Nat) (bs : List Byte) : (s.writeBytes k bs).shadow = s.shadow := rfl
@[simp] theorem State.ctr_writeBytes (s : State) (k : Nat) (bs : List Byte) : (s.writeBytes k bs).ctr = s.ctr := rfl
@[simp] theorem State.latch_writeBytes (s : State) (k : Nat) (bs : List Byte) : (s.writeBytes k bs).latch = s.latch := rfl
@[simp] theorem State.slots_writeBytes (s : State) (k : Nat) (bs : List Byte) : (s.writeBytes k bs).slots = s.slots := rfl
@[simp] theorem State.cores_writeBytes (s : State) (k : Nat) (bs : List Byte) : (s.writeBytes k bs).cores = s.cores := rfl
@[simp] theorem State.lk_writeBytes (s : State) (k : Nat) (bs : List Byte) : (s.writeBytes k bs).lk = s.lk := rfl
@[simp] theorem State.tb_writeBytes (s : State) (k : Nat) (bs : List Byte) : (s.writeBytes k bs).tb = s.tb := rfl
@[simp] theorem State.evr_writeBytes (s : State) (k : Nat) (bs : List Byte) : (s.writeBytes k bs).evr = s.evr := rfl
@[simp] theorem State.msix_writeBytes (s : State) (k : Nat) (bs : List Byte) : (s.writeBytes k bs).msix = s.msix := rfl
@[simp] theorem State.shp_writeBytes (s : State) (k : Nat) (bs : List Byte) : (s.writeBytes k bs).shp = s.shp := rfl
@[simp] theorem State.flt_writeBytes (s : State) (k : Nat) (bs : List Byte) : (s.writeBytes k bs).flt = s.flt := rfl
@[simp] theorem State.drc_writeBytes (s : State) (k : Nat) (bs : List Byte) : (s.writeBytes k bs).drc = s.drc := rfl
@[simp] theorem State.sau_writeBytes (s : State) (k : Nat) (bs : List Byte) : (s.writeBytes k bs).sau = s.sau := rfl
@[simp] theorem State.bsn_writeBytes (s : State) (k : Nat) (bs : List Byte) : (s.writeBytes k bs).bsn = s.bsn := rfl
@[simp] theorem State.tbl_writeBytes (s : State) (k : Nat) (bs : List Byte) : (s.writeBytes k bs).tbl = s.tbl := rfl
@[simp] theorem State.prt_writeBytes (s : State) (k : Nat) (bs : List Byte) : (s.writeBytes k bs).prt = s.prt := rfl
@[simp] theorem State.brg_writeBytes (s : State) (k : Nat) (bs : List Byte) : (s.writeBytes k bs).brg = s.brg := rfl
@[simp] theorem State.sec_writeBytes (s : State) (k : Nat) (bs : List Byte) : (s.writeBytes k bs).sec = s.sec := rfl
@[simp] theorem State.lcs_writeBytes (s : State) (k : Nat) (bs : List Byte) : (s.writeBytes k bs).lcs = s.lcs := rfl
@[simp] theorem State.jtag_writeBytes (s : State) (k : Nat) (bs : List Byte) : (s.writeBytes k bs).jtag = s.jtag := rfl
@[simp] theorem State.boot_writeBytes (s : State) (k : Nat) (bs : List Byte) : (s.writeBytes k bs).boot = s.boot := rfl
@[simp] theorem State.pwr_writeBytes (s : State) (k : Nat) (bs : List Byte) : (s.writeBytes k bs).pwr = s.pwr := rfl
@[simp] theorem State.uni_writeBytes (s : State) (k : Nat) (bs : List Byte) : (s.writeBytes k bs).uni = s.uni := rfl
@[simp] theorem State.tnt_writeBytes (s : State) (k : Nat) (bs : List Byte) : (s.writeBytes k bs).tnt = s.tnt := rfl
@[simp] theorem State.ful_writeBytes (s : State) (k : Nat) (bs : List Byte) : (s.writeBytes k bs).ful = s.ful := rfl
@[simp] theorem State.shf_writeBytes (s : State) (k : Nat) (bs : List Byte) : (s.writeBytes k bs).shf = s.shf := rfl
@[simp] theorem State.stb_writeBytes (s : State) (k : Nat) (bs : List Byte) : (s.writeBytes k bs).stb = s.stb := rfl
@[simp] theorem State.free_writeBytes (s : State) (k : Nat) (bs : List Byte) : (s.writeBytes k bs).free = s.free := rfl
@[simp] theorem State.once_writeBytes (s : State) (k : Nat) (bs : List Byte) : (s.writeBytes k bs).once = s.once := rfl
@[simp] theorem State.reply_writeBytes (s : State) (k : Nat) (bs : List Byte) : (s.writeBytes k bs).reply = s.reply := rfl
@[simp] theorem State.pending_writeBytes (s : State) (k : Nat) (bs : List Byte) : (s.writeBytes k bs).pending = s.pending := rfl
@[simp] theorem State.reg_writeBytes (s : State) (k : Nat) (bs : List Byte) (r : Nat) : (s.writeBytes k bs).reg r = s.reg r := rfl
@[simp] theorem State.counter_writeBytes (s : State) (k : Nat) (bs : List Byte) (r : Nat) : (s.writeBytes k bs).counter r = s.counter r := rfl
@[simp] theorem State.slot_writeBytes (s : State) (k : Nat) (bs : List Byte) (i : Nat) : (s.writeBytes k bs).slot i = s.slot i := rfl
@[simp] theorem State.core_writeBytes (s : State) (k : Nat) (bs : List Byte) (i : Nat) : (s.writeBytes k bs).core i = s.core i := rfl
@[simp] theorem State.thread_writeBytes (s : State) (k : Nat) (bs : List Byte) (i : Nat) : (s.writeBytes k bs).thread i = s.thread i := rfl
@[simp] theorem State.tokens_writeBytes (s : State) (k : Nat) (bs : List Byte) (i : Nat) : (s.writeBytes k bs).tokens i = s.tokens i := rfl
@[simp] theorem State.frame_writeBytes (s : State) (k : Nat) (bs : List Byte) (i : Nat) : (s.writeBytes k bs).frame i = s.frame i := rfl
@[simp] theorem State.ch_writeBytes (s : State) (k : Nat) (bs : List Byte) (i : Nat) : (s.writeBytes k bs).ch i = s.ch i := rfl

/-! #### `State.writeLE` -/

@[simp] theorem State.regs_writeLE (s : State) (k n v : Nat) : (s.writeLE k n v).regs = s.regs := rfl
@[simp] theorem State.shadow_writeLE (s : State) (k n v : Nat) : (s.writeLE k n v).shadow = s.shadow := rfl
@[simp] theorem State.ctr_writeLE (s : State) (k n v : Nat) : (s.writeLE k n v).ctr = s.ctr := rfl
@[simp] theorem State.latch_writeLE (s : State) (k n v : Nat) : (s.writeLE k n v).latch = s.latch := rfl
@[simp] theorem State.slots_writeLE (s : State) (k n v : Nat) : (s.writeLE k n v).slots = s.slots := rfl
@[simp] theorem State.cores_writeLE (s : State) (k n v : Nat) : (s.writeLE k n v).cores = s.cores := rfl
@[simp] theorem State.lk_writeLE (s : State) (k n v : Nat) : (s.writeLE k n v).lk = s.lk := rfl
@[simp] theorem State.tb_writeLE (s : State) (k n v : Nat) : (s.writeLE k n v).tb = s.tb := rfl
@[simp] theorem State.evr_writeLE (s : State) (k n v : Nat) : (s.writeLE k n v).evr = s.evr := rfl
@[simp] theorem State.msix_writeLE (s : State) (k n v : Nat) : (s.writeLE k n v).msix = s.msix := rfl
@[simp] theorem State.shp_writeLE (s : State) (k n v : Nat) : (s.writeLE k n v).shp = s.shp := rfl
@[simp] theorem State.flt_writeLE (s : State) (k n v : Nat) : (s.writeLE k n v).flt = s.flt := rfl
@[simp] theorem State.drc_writeLE (s : State) (k n v : Nat) : (s.writeLE k n v).drc = s.drc := rfl
@[simp] theorem State.sau_writeLE (s : State) (k n v : Nat) : (s.writeLE k n v).sau = s.sau := rfl
@[simp] theorem State.bsn_writeLE (s : State) (k n v : Nat) : (s.writeLE k n v).bsn = s.bsn := rfl
@[simp] theorem State.tbl_writeLE (s : State) (k n v : Nat) : (s.writeLE k n v).tbl = s.tbl := rfl
@[simp] theorem State.prt_writeLE (s : State) (k n v : Nat) : (s.writeLE k n v).prt = s.prt := rfl
@[simp] theorem State.brg_writeLE (s : State) (k n v : Nat) : (s.writeLE k n v).brg = s.brg := rfl
@[simp] theorem State.sec_writeLE (s : State) (k n v : Nat) : (s.writeLE k n v).sec = s.sec := rfl
@[simp] theorem State.lcs_writeLE (s : State) (k n v : Nat) : (s.writeLE k n v).lcs = s.lcs := rfl
@[simp] theorem State.jtag_writeLE (s : State) (k n v : Nat) : (s.writeLE k n v).jtag = s.jtag := rfl
@[simp] theorem State.boot_writeLE (s : State) (k n v : Nat) : (s.writeLE k n v).boot = s.boot := rfl
@[simp] theorem State.pwr_writeLE (s : State) (k n v : Nat) : (s.writeLE k n v).pwr = s.pwr := rfl
@[simp] theorem State.uni_writeLE (s : State) (k n v : Nat) : (s.writeLE k n v).uni = s.uni := rfl
@[simp] theorem State.tnt_writeLE (s : State) (k n v : Nat) : (s.writeLE k n v).tnt = s.tnt := rfl
@[simp] theorem State.ful_writeLE (s : State) (k n v : Nat) : (s.writeLE k n v).ful = s.ful := rfl
@[simp] theorem State.shf_writeLE (s : State) (k n v : Nat) : (s.writeLE k n v).shf = s.shf := rfl
@[simp] theorem State.stb_writeLE (s : State) (k n v : Nat) : (s.writeLE k n v).stb = s.stb := rfl
@[simp] theorem State.free_writeLE (s : State) (k n v : Nat) : (s.writeLE k n v).free = s.free := rfl
@[simp] theorem State.once_writeLE (s : State) (k n v : Nat) : (s.writeLE k n v).once = s.once := rfl
@[simp] theorem State.reply_writeLE (s : State) (k n v : Nat) : (s.writeLE k n v).reply = s.reply := rfl
@[simp] theorem State.pending_writeLE (s : State) (k n v : Nat) : (s.writeLE k n v).pending = s.pending := rfl
@[simp] theorem State.reg_writeLE (s : State) (k n v : Nat) (r : Nat) : (s.writeLE k n v).reg r = s.reg r := rfl
@[simp] theorem State.counter_writeLE (s : State) (k n v : Nat) (r : Nat) : (s.writeLE k n v).counter r = s.counter r := rfl
@[simp] theorem State.slot_writeLE (s : State) (k n v : Nat) (i : Nat) : (s.writeLE k n v).slot i = s.slot i := rfl
@[simp] theorem State.core_writeLE (s : State) (k n v : Nat) (i : Nat) : (s.writeLE k n v).core i = s.core i := rfl
@[simp] theorem State.thread_writeLE (s : State) (k n v : Nat) (i : Nat) : (s.writeLE k n v).thread i = s.thread i := rfl
@[simp] theorem State.tokens_writeLE (s : State) (k n v : Nat) (i : Nat) : (s.writeLE k n v).tokens i = s.tokens i := rfl
@[simp] theorem State.frame_writeLE (s : State) (k n v : Nat) (i : Nat) : (s.writeLE k n v).frame i = s.frame i := rfl
@[simp] theorem State.ch_writeLE (s : State) (k n v : Nat) (i : Nat) : (s.writeLE k n v).ch i = s.ch i := rfl

/-! #### `State.setSlot` -/

@[simp] theorem State.regs_setSlot (s : State) (w : Nat) (x : Slot) : (s.setSlot w x).regs = s.regs := rfl
@[simp] theorem State.shadow_setSlot (s : State) (w : Nat) (x : Slot) : (s.setSlot w x).shadow = s.shadow := rfl
@[simp] theorem State.ctr_setSlot (s : State) (w : Nat) (x : Slot) : (s.setSlot w x).ctr = s.ctr := rfl
@[simp] theorem State.latch_setSlot (s : State) (w : Nat) (x : Slot) : (s.setSlot w x).latch = s.latch := rfl
@[simp] theorem State.mem_setSlot (s : State) (w : Nat) (x : Slot) : (s.setSlot w x).mem = s.mem := rfl
@[simp] theorem State.cores_setSlot (s : State) (w : Nat) (x : Slot) : (s.setSlot w x).cores = s.cores := rfl
@[simp] theorem State.lk_setSlot (s : State) (w : Nat) (x : Slot) : (s.setSlot w x).lk = s.lk := rfl
@[simp] theorem State.tb_setSlot (s : State) (w : Nat) (x : Slot) : (s.setSlot w x).tb = s.tb := rfl
@[simp] theorem State.evr_setSlot (s : State) (w : Nat) (x : Slot) : (s.setSlot w x).evr = s.evr := rfl
@[simp] theorem State.msix_setSlot (s : State) (w : Nat) (x : Slot) : (s.setSlot w x).msix = s.msix := rfl
@[simp] theorem State.shp_setSlot (s : State) (w : Nat) (x : Slot) : (s.setSlot w x).shp = s.shp := rfl
@[simp] theorem State.flt_setSlot (s : State) (w : Nat) (x : Slot) : (s.setSlot w x).flt = s.flt := rfl
@[simp] theorem State.drc_setSlot (s : State) (w : Nat) (x : Slot) : (s.setSlot w x).drc = s.drc := rfl
@[simp] theorem State.sau_setSlot (s : State) (w : Nat) (x : Slot) : (s.setSlot w x).sau = s.sau := rfl
@[simp] theorem State.bsn_setSlot (s : State) (w : Nat) (x : Slot) : (s.setSlot w x).bsn = s.bsn := rfl
@[simp] theorem State.tbl_setSlot (s : State) (w : Nat) (x : Slot) : (s.setSlot w x).tbl = s.tbl := rfl
@[simp] theorem State.prt_setSlot (s : State) (w : Nat) (x : Slot) : (s.setSlot w x).prt = s.prt := rfl
@[simp] theorem State.brg_setSlot (s : State) (w : Nat) (x : Slot) : (s.setSlot w x).brg = s.brg := rfl
@[simp] theorem State.sec_setSlot (s : State) (w : Nat) (x : Slot) : (s.setSlot w x).sec = s.sec := rfl
@[simp] theorem State.lcs_setSlot (s : State) (w : Nat) (x : Slot) : (s.setSlot w x).lcs = s.lcs := rfl
@[simp] theorem State.jtag_setSlot (s : State) (w : Nat) (x : Slot) : (s.setSlot w x).jtag = s.jtag := rfl
@[simp] theorem State.boot_setSlot (s : State) (w : Nat) (x : Slot) : (s.setSlot w x).boot = s.boot := rfl
@[simp] theorem State.pwr_setSlot (s : State) (w : Nat) (x : Slot) : (s.setSlot w x).pwr = s.pwr := rfl
@[simp] theorem State.uni_setSlot (s : State) (w : Nat) (x : Slot) : (s.setSlot w x).uni = s.uni := rfl
@[simp] theorem State.tnt_setSlot (s : State) (w : Nat) (x : Slot) : (s.setSlot w x).tnt = s.tnt := rfl
@[simp] theorem State.ful_setSlot (s : State) (w : Nat) (x : Slot) : (s.setSlot w x).ful = s.ful := rfl
@[simp] theorem State.shf_setSlot (s : State) (w : Nat) (x : Slot) : (s.setSlot w x).shf = s.shf := rfl
@[simp] theorem State.stb_setSlot (s : State) (w : Nat) (x : Slot) : (s.setSlot w x).stb = s.stb := rfl
@[simp] theorem State.free_setSlot (s : State) (w : Nat) (x : Slot) : (s.setSlot w x).free = s.free := rfl
@[simp] theorem State.once_setSlot (s : State) (w : Nat) (x : Slot) : (s.setSlot w x).once = s.once := rfl
@[simp] theorem State.reply_setSlot (s : State) (w : Nat) (x : Slot) : (s.setSlot w x).reply = s.reply := rfl
@[simp] theorem State.pending_setSlot (s : State) (w : Nat) (x : Slot) : (s.setSlot w x).pending = s.pending := rfl
@[simp] theorem State.reg_setSlot (s : State) (w : Nat) (x : Slot) (r : Nat) : (s.setSlot w x).reg r = s.reg r := rfl
@[simp] theorem State.counter_setSlot (s : State) (w : Nat) (x : Slot) (r : Nat) : (s.setSlot w x).counter r = s.counter r := rfl
@[simp] theorem State.readByte_setSlot (s : State) (w : Nat) (x : Slot) (j : Nat) : (s.setSlot w x).readByte j = s.readByte j := rfl
@[simp] theorem State.core_setSlot (s : State) (w : Nat) (x : Slot) (i : Nat) : (s.setSlot w x).core i = s.core i := rfl
@[simp] theorem State.thread_setSlot (s : State) (w : Nat) (x : Slot) (i : Nat) : (s.setSlot w x).thread i = s.thread i := rfl
@[simp] theorem State.tokens_setSlot (s : State) (w : Nat) (x : Slot) (i : Nat) : (s.setSlot w x).tokens i = s.tokens i := rfl
@[simp] theorem State.frame_setSlot (s : State) (w : Nat) (x : Slot) (i : Nat) : (s.setSlot w x).frame i = s.frame i := rfl
@[simp] theorem State.ch_setSlot (s : State) (w : Nat) (x : Slot) (i : Nat) : (s.setSlot w x).ch i = s.ch i := rfl

/-! #### `State.setCore` -/

@[simp] theorem State.regs_setCore (s : State) (c : Nat) (x : Core) : (s.setCore c x).regs = s.regs := rfl
@[simp] theorem State.shadow_setCore (s : State) (c : Nat) (x : Core) : (s.setCore c x).shadow = s.shadow := rfl
@[simp] theorem State.ctr_setCore (s : State) (c : Nat) (x : Core) : (s.setCore c x).ctr = s.ctr := rfl
@[simp] theorem State.latch_setCore (s : State) (c : Nat) (x : Core) : (s.setCore c x).latch = s.latch := rfl
@[simp] theorem State.mem_setCore (s : State) (c : Nat) (x : Core) : (s.setCore c x).mem = s.mem := rfl
@[simp] theorem State.slots_setCore (s : State) (c : Nat) (x : Core) : (s.setCore c x).slots = s.slots := rfl
@[simp] theorem State.lk_setCore (s : State) (c : Nat) (x : Core) : (s.setCore c x).lk = s.lk := rfl
@[simp] theorem State.tb_setCore (s : State) (c : Nat) (x : Core) : (s.setCore c x).tb = s.tb := rfl
@[simp] theorem State.evr_setCore (s : State) (c : Nat) (x : Core) : (s.setCore c x).evr = s.evr := rfl
@[simp] theorem State.msix_setCore (s : State) (c : Nat) (x : Core) : (s.setCore c x).msix = s.msix := rfl
@[simp] theorem State.shp_setCore (s : State) (c : Nat) (x : Core) : (s.setCore c x).shp = s.shp := rfl
@[simp] theorem State.flt_setCore (s : State) (c : Nat) (x : Core) : (s.setCore c x).flt = s.flt := rfl
@[simp] theorem State.drc_setCore (s : State) (c : Nat) (x : Core) : (s.setCore c x).drc = s.drc := rfl
@[simp] theorem State.sau_setCore (s : State) (c : Nat) (x : Core) : (s.setCore c x).sau = s.sau := rfl
@[simp] theorem State.bsn_setCore (s : State) (c : Nat) (x : Core) : (s.setCore c x).bsn = s.bsn := rfl
@[simp] theorem State.tbl_setCore (s : State) (c : Nat) (x : Core) : (s.setCore c x).tbl = s.tbl := rfl
@[simp] theorem State.prt_setCore (s : State) (c : Nat) (x : Core) : (s.setCore c x).prt = s.prt := rfl
@[simp] theorem State.brg_setCore (s : State) (c : Nat) (x : Core) : (s.setCore c x).brg = s.brg := rfl
@[simp] theorem State.sec_setCore (s : State) (c : Nat) (x : Core) : (s.setCore c x).sec = s.sec := rfl
@[simp] theorem State.lcs_setCore (s : State) (c : Nat) (x : Core) : (s.setCore c x).lcs = s.lcs := rfl
@[simp] theorem State.jtag_setCore (s : State) (c : Nat) (x : Core) : (s.setCore c x).jtag = s.jtag := rfl
@[simp] theorem State.boot_setCore (s : State) (c : Nat) (x : Core) : (s.setCore c x).boot = s.boot := rfl
@[simp] theorem State.pwr_setCore (s : State) (c : Nat) (x : Core) : (s.setCore c x).pwr = s.pwr := rfl
@[simp] theorem State.uni_setCore (s : State) (c : Nat) (x : Core) : (s.setCore c x).uni = s.uni := rfl
@[simp] theorem State.tnt_setCore (s : State) (c : Nat) (x : Core) : (s.setCore c x).tnt = s.tnt := rfl
@[simp] theorem State.ful_setCore (s : State) (c : Nat) (x : Core) : (s.setCore c x).ful = s.ful := rfl
@[simp] theorem State.shf_setCore (s : State) (c : Nat) (x : Core) : (s.setCore c x).shf = s.shf := rfl
@[simp] theorem State.stb_setCore (s : State) (c : Nat) (x : Core) : (s.setCore c x).stb = s.stb := rfl
@[simp] theorem State.free_setCore (s : State) (c : Nat) (x : Core) : (s.setCore c x).free = s.free := rfl
@[simp] theorem State.once_setCore (s : State) (c : Nat) (x : Core) : (s.setCore c x).once = s.once := rfl
@[simp] theorem State.reply_setCore (s : State) (c : Nat) (x : Core) : (s.setCore c x).reply = s.reply := rfl
@[simp] theorem State.pending_setCore (s : State) (c : Nat) (x : Core) : (s.setCore c x).pending = s.pending := rfl
@[simp] theorem State.reg_setCore (s : State) (c : Nat) (x : Core) (r : Nat) : (s.setCore c x).reg r = s.reg r := rfl
@[simp] theorem State.counter_setCore (s : State) (c : Nat) (x : Core) (r : Nat) : (s.setCore c x).counter r = s.counter r := rfl
@[simp] theorem State.readByte_setCore (s : State) (c : Nat) (x : Core) (j : Nat) : (s.setCore c x).readByte j = s.readByte j := rfl
@[simp] theorem State.slot_setCore (s : State) (c : Nat) (x : Core) (i : Nat) : (s.setCore c x).slot i = s.slot i := rfl
@[simp] theorem State.thread_setCore (s : State) (c : Nat) (x : Core) (i : Nat) : (s.setCore c x).thread i = s.thread i := rfl
@[simp] theorem State.tokens_setCore (s : State) (c : Nat) (x : Core) (i : Nat) : (s.setCore c x).tokens i = s.tokens i := rfl
@[simp] theorem State.frame_setCore (s : State) (c : Nat) (x : Core) (i : Nat) : (s.setCore c x).frame i = s.frame i := rfl
@[simp] theorem State.ch_setCore (s : State) (c : Nat) (x : Core) (i : Nat) : (s.setCore c x).ch i = s.ch i := rfl

/-! #### `State.setThread` -/

@[simp] theorem State.regs_setThread (s : State) (n : Nat) (x : Thread) : (s.setThread n x).regs = s.regs := rfl
@[simp] theorem State.shadow_setThread (s : State) (n : Nat) (x : Thread) : (s.setThread n x).shadow = s.shadow := rfl
@[simp] theorem State.ctr_setThread (s : State) (n : Nat) (x : Thread) : (s.setThread n x).ctr = s.ctr := rfl
@[simp] theorem State.latch_setThread (s : State) (n : Nat) (x : Thread) : (s.setThread n x).latch = s.latch := rfl
@[simp] theorem State.mem_setThread (s : State) (n : Nat) (x : Thread) : (s.setThread n x).mem = s.mem := rfl
@[simp] theorem State.slots_setThread (s : State) (n : Nat) (x : Thread) : (s.setThread n x).slots = s.slots := rfl
@[simp] theorem State.cores_setThread (s : State) (n : Nat) (x : Thread) : (s.setThread n x).cores = s.cores := rfl
@[simp] theorem State.tb_setThread (s : State) (n : Nat) (x : Thread) : (s.setThread n x).tb = s.tb := rfl
@[simp] theorem State.evr_setThread (s : State) (n : Nat) (x : Thread) : (s.setThread n x).evr = s.evr := rfl
@[simp] theorem State.msix_setThread (s : State) (n : Nat) (x : Thread) : (s.setThread n x).msix = s.msix := rfl
@[simp] theorem State.shp_setThread (s : State) (n : Nat) (x : Thread) : (s.setThread n x).shp = s.shp := rfl
@[simp] theorem State.flt_setThread (s : State) (n : Nat) (x : Thread) : (s.setThread n x).flt = s.flt := rfl
@[simp] theorem State.drc_setThread (s : State) (n : Nat) (x : Thread) : (s.setThread n x).drc = s.drc := rfl
@[simp] theorem State.sau_setThread (s : State) (n : Nat) (x : Thread) : (s.setThread n x).sau = s.sau := rfl
@[simp] theorem State.bsn_setThread (s : State) (n : Nat) (x : Thread) : (s.setThread n x).bsn = s.bsn := rfl
@[simp] theorem State.tbl_setThread (s : State) (n : Nat) (x : Thread) : (s.setThread n x).tbl = s.tbl := rfl
@[simp] theorem State.prt_setThread (s : State) (n : Nat) (x : Thread) : (s.setThread n x).prt = s.prt := rfl
@[simp] theorem State.brg_setThread (s : State) (n : Nat) (x : Thread) : (s.setThread n x).brg = s.brg := rfl
@[simp] theorem State.sec_setThread (s : State) (n : Nat) (x : Thread) : (s.setThread n x).sec = s.sec := rfl
@[simp] theorem State.lcs_setThread (s : State) (n : Nat) (x : Thread) : (s.setThread n x).lcs = s.lcs := rfl
@[simp] theorem State.jtag_setThread (s : State) (n : Nat) (x : Thread) : (s.setThread n x).jtag = s.jtag := rfl
@[simp] theorem State.boot_setThread (s : State) (n : Nat) (x : Thread) : (s.setThread n x).boot = s.boot := rfl
@[simp] theorem State.pwr_setThread (s : State) (n : Nat) (x : Thread) : (s.setThread n x).pwr = s.pwr := rfl
@[simp] theorem State.uni_setThread (s : State) (n : Nat) (x : Thread) : (s.setThread n x).uni = s.uni := rfl
@[simp] theorem State.tnt_setThread (s : State) (n : Nat) (x : Thread) : (s.setThread n x).tnt = s.tnt := rfl
@[simp] theorem State.ful_setThread (s : State) (n : Nat) (x : Thread) : (s.setThread n x).ful = s.ful := rfl
@[simp] theorem State.shf_setThread (s : State) (n : Nat) (x : Thread) : (s.setThread n x).shf = s.shf := rfl
@[simp] theorem State.stb_setThread (s : State) (n : Nat) (x : Thread) : (s.setThread n x).stb = s.stb := rfl
@[simp] theorem State.free_setThread (s : State) (n : Nat) (x : Thread) : (s.setThread n x).free = s.free := rfl
@[simp] theorem State.once_setThread (s : State) (n : Nat) (x : Thread) : (s.setThread n x).once = s.once := rfl
@[simp] theorem State.reply_setThread (s : State) (n : Nat) (x : Thread) : (s.setThread n x).reply = s.reply := rfl
@[simp] theorem State.pending_setThread (s : State) (n : Nat) (x : Thread) : (s.setThread n x).pending = s.pending := rfl
@[simp] theorem State.reg_setThread (s : State) (n : Nat) (x : Thread) (r : Nat) : (s.setThread n x).reg r = s.reg r := rfl
@[simp] theorem State.counter_setThread (s : State) (n : Nat) (x : Thread) (r : Nat) : (s.setThread n x).counter r = s.counter r := rfl
@[simp] theorem State.readByte_setThread (s : State) (n : Nat) (x : Thread) (j : Nat) : (s.setThread n x).readByte j = s.readByte j := rfl
@[simp] theorem State.slot_setThread (s : State) (n : Nat) (x : Thread) (i : Nat) : (s.setThread n x).slot i = s.slot i := rfl
@[simp] theorem State.core_setThread (s : State) (n : Nat) (x : Thread) (i : Nat) : (s.setThread n x).core i = s.core i := rfl
@[simp] theorem State.frame_setThread (s : State) (n : Nat) (x : Thread) (i : Nat) : (s.setThread n x).frame i = s.frame i := rfl
@[simp] theorem State.ch_setThread (s : State) (n : Nat) (x : Thread) (i : Nat) : (s.setThread n x).ch i = s.ch i := rfl

/-! #### `State.setTokens` -/

@[simp] theorem State.regs_setTokens (s : State) (t : Nat) (q : List Token) : (s.setTokens t q).regs = s.regs := rfl
@[simp] theorem State.shadow_setTokens (s : State) (t : Nat) (q : List Token) : (s.setTokens t q).shadow = s.shadow := rfl
@[simp] theorem State.ctr_setTokens (s : State) (t : Nat) (q : List Token) : (s.setTokens t q).ctr = s.ctr := rfl
@[simp] theorem State.latch_setTokens (s : State) (t : Nat) (q : List Token) : (s.setTokens t q).latch = s.latch := rfl
@[simp] theorem State.mem_setTokens (s : State) (t : Nat) (q : List Token) : (s.setTokens t q).mem = s.mem := rfl
@[simp] theorem State.slots_setTokens (s : State) (t : Nat) (q : List Token) : (s.setTokens t q).slots = s.slots := rfl
@[simp] theorem State.cores_setTokens (s : State) (t : Nat) (q : List Token) : (s.setTokens t q).cores = s.cores := rfl
@[simp] theorem State.tb_setTokens (s : State) (t : Nat) (q : List Token) : (s.setTokens t q).tb = s.tb := rfl
@[simp] theorem State.evr_setTokens (s : State) (t : Nat) (q : List Token) : (s.setTokens t q).evr = s.evr := rfl
@[simp] theorem State.msix_setTokens (s : State) (t : Nat) (q : List Token) : (s.setTokens t q).msix = s.msix := rfl
@[simp] theorem State.shp_setTokens (s : State) (t : Nat) (q : List Token) : (s.setTokens t q).shp = s.shp := rfl
@[simp] theorem State.flt_setTokens (s : State) (t : Nat) (q : List Token) : (s.setTokens t q).flt = s.flt := rfl
@[simp] theorem State.drc_setTokens (s : State) (t : Nat) (q : List Token) : (s.setTokens t q).drc = s.drc := rfl
@[simp] theorem State.sau_setTokens (s : State) (t : Nat) (q : List Token) : (s.setTokens t q).sau = s.sau := rfl
@[simp] theorem State.bsn_setTokens (s : State) (t : Nat) (q : List Token) : (s.setTokens t q).bsn = s.bsn := rfl
@[simp] theorem State.tbl_setTokens (s : State) (t : Nat) (q : List Token) : (s.setTokens t q).tbl = s.tbl := rfl
@[simp] theorem State.prt_setTokens (s : State) (t : Nat) (q : List Token) : (s.setTokens t q).prt = s.prt := rfl
@[simp] theorem State.brg_setTokens (s : State) (t : Nat) (q : List Token) : (s.setTokens t q).brg = s.brg := rfl
@[simp] theorem State.sec_setTokens (s : State) (t : Nat) (q : List Token) : (s.setTokens t q).sec = s.sec := rfl
@[simp] theorem State.lcs_setTokens (s : State) (t : Nat) (q : List Token) : (s.setTokens t q).lcs = s.lcs := rfl
@[simp] theorem State.jtag_setTokens (s : State) (t : Nat) (q : List Token) : (s.setTokens t q).jtag = s.jtag := rfl
@[simp] theorem State.boot_setTokens (s : State) (t : Nat) (q : List Token) : (s.setTokens t q).boot = s.boot := rfl
@[simp] theorem State.pwr_setTokens (s : State) (t : Nat) (q : List Token) : (s.setTokens t q).pwr = s.pwr := rfl
@[simp] theorem State.uni_setTokens (s : State) (t : Nat) (q : List Token) : (s.setTokens t q).uni = s.uni := rfl
@[simp] theorem State.tnt_setTokens (s : State) (t : Nat) (q : List Token) : (s.setTokens t q).tnt = s.tnt := rfl
@[simp] theorem State.ful_setTokens (s : State) (t : Nat) (q : List Token) : (s.setTokens t q).ful = s.ful := rfl
@[simp] theorem State.shf_setTokens (s : State) (t : Nat) (q : List Token) : (s.setTokens t q).shf = s.shf := rfl
@[simp] theorem State.stb_setTokens (s : State) (t : Nat) (q : List Token) : (s.setTokens t q).stb = s.stb := rfl
@[simp] theorem State.free_setTokens (s : State) (t : Nat) (q : List Token) : (s.setTokens t q).free = s.free := rfl
@[simp] theorem State.once_setTokens (s : State) (t : Nat) (q : List Token) : (s.setTokens t q).once = s.once := rfl
@[simp] theorem State.reply_setTokens (s : State) (t : Nat) (q : List Token) : (s.setTokens t q).reply = s.reply := rfl
@[simp] theorem State.pending_setTokens (s : State) (t : Nat) (q : List Token) : (s.setTokens t q).pending = s.pending := rfl
@[simp] theorem State.reg_setTokens (s : State) (t : Nat) (q : List Token) (r : Nat) : (s.setTokens t q).reg r = s.reg r := rfl
@[simp] theorem State.counter_setTokens (s : State) (t : Nat) (q : List Token) (r : Nat) : (s.setTokens t q).counter r = s.counter r := rfl
@[simp] theorem State.readByte_setTokens (s : State) (t : Nat) (q : List Token) (j : Nat) : (s.setTokens t q).readByte j = s.readByte j := rfl
@[simp] theorem State.slot_setTokens (s : State) (t : Nat) (q : List Token) (i : Nat) : (s.setTokens t q).slot i = s.slot i := rfl
@[simp] theorem State.core_setTokens (s : State) (t : Nat) (q : List Token) (i : Nat) : (s.setTokens t q).core i = s.core i := rfl
@[simp] theorem State.frame_setTokens (s : State) (t : Nat) (q : List Token) (i : Nat) : (s.setTokens t q).frame i = s.frame i := rfl
@[simp] theorem State.ch_setTokens (s : State) (t : Nat) (q : List Token) (i : Nat) : (s.setTokens t q).ch i = s.ch i := rfl

/-! #### `State.setFrame` -/

@[simp] theorem State.regs_setFrame (s : State) (k : Nat) (x : Option Frame) : (s.setFrame k x).regs = s.regs := rfl
@[simp] theorem State.shadow_setFrame (s : State) (k : Nat) (x : Option Frame) : (s.setFrame k x).shadow = s.shadow := rfl
@[simp] theorem State.ctr_setFrame (s : State) (k : Nat) (x : Option Frame) : (s.setFrame k x).ctr = s.ctr := rfl
@[simp] theorem State.latch_setFrame (s : State) (k : Nat) (x : Option Frame) : (s.setFrame k x).latch = s.latch := rfl
@[simp] theorem State.mem_setFrame (s : State) (k : Nat) (x : Option Frame) : (s.setFrame k x).mem = s.mem := rfl
@[simp] theorem State.slots_setFrame (s : State) (k : Nat) (x : Option Frame) : (s.setFrame k x).slots = s.slots := rfl
@[simp] theorem State.cores_setFrame (s : State) (k : Nat) (x : Option Frame) : (s.setFrame k x).cores = s.cores := rfl
@[simp] theorem State.lk_setFrame (s : State) (k : Nat) (x : Option Frame) : (s.setFrame k x).lk = s.lk := rfl
@[simp] theorem State.tb_setFrame (s : State) (k : Nat) (x : Option Frame) : (s.setFrame k x).tb = s.tb := rfl
@[simp] theorem State.evr_setFrame (s : State) (k : Nat) (x : Option Frame) : (s.setFrame k x).evr = s.evr := rfl
@[simp] theorem State.msix_setFrame (s : State) (k : Nat) (x : Option Frame) : (s.setFrame k x).msix = s.msix := rfl
@[simp] theorem State.shp_setFrame (s : State) (k : Nat) (x : Option Frame) : (s.setFrame k x).shp = s.shp := rfl
@[simp] theorem State.drc_setFrame (s : State) (k : Nat) (x : Option Frame) : (s.setFrame k x).drc = s.drc := rfl
@[simp] theorem State.sau_setFrame (s : State) (k : Nat) (x : Option Frame) : (s.setFrame k x).sau = s.sau := rfl
@[simp] theorem State.bsn_setFrame (s : State) (k : Nat) (x : Option Frame) : (s.setFrame k x).bsn = s.bsn := rfl
@[simp] theorem State.tbl_setFrame (s : State) (k : Nat) (x : Option Frame) : (s.setFrame k x).tbl = s.tbl := rfl
@[simp] theorem State.prt_setFrame (s : State) (k : Nat) (x : Option Frame) : (s.setFrame k x).prt = s.prt := rfl
@[simp] theorem State.brg_setFrame (s : State) (k : Nat) (x : Option Frame) : (s.setFrame k x).brg = s.brg := rfl
@[simp] theorem State.sec_setFrame (s : State) (k : Nat) (x : Option Frame) : (s.setFrame k x).sec = s.sec := rfl
@[simp] theorem State.lcs_setFrame (s : State) (k : Nat) (x : Option Frame) : (s.setFrame k x).lcs = s.lcs := rfl
@[simp] theorem State.jtag_setFrame (s : State) (k : Nat) (x : Option Frame) : (s.setFrame k x).jtag = s.jtag := rfl
@[simp] theorem State.boot_setFrame (s : State) (k : Nat) (x : Option Frame) : (s.setFrame k x).boot = s.boot := rfl
@[simp] theorem State.pwr_setFrame (s : State) (k : Nat) (x : Option Frame) : (s.setFrame k x).pwr = s.pwr := rfl
@[simp] theorem State.uni_setFrame (s : State) (k : Nat) (x : Option Frame) : (s.setFrame k x).uni = s.uni := rfl
@[simp] theorem State.tnt_setFrame (s : State) (k : Nat) (x : Option Frame) : (s.setFrame k x).tnt = s.tnt := rfl
@[simp] theorem State.ful_setFrame (s : State) (k : Nat) (x : Option Frame) : (s.setFrame k x).ful = s.ful := rfl
@[simp] theorem State.shf_setFrame (s : State) (k : Nat) (x : Option Frame) : (s.setFrame k x).shf = s.shf := rfl
@[simp] theorem State.stb_setFrame (s : State) (k : Nat) (x : Option Frame) : (s.setFrame k x).stb = s.stb := rfl
@[simp] theorem State.free_setFrame (s : State) (k : Nat) (x : Option Frame) : (s.setFrame k x).free = s.free := rfl
@[simp] theorem State.once_setFrame (s : State) (k : Nat) (x : Option Frame) : (s.setFrame k x).once = s.once := rfl
@[simp] theorem State.reply_setFrame (s : State) (k : Nat) (x : Option Frame) : (s.setFrame k x).reply = s.reply := rfl
@[simp] theorem State.pending_setFrame (s : State) (k : Nat) (x : Option Frame) : (s.setFrame k x).pending = s.pending := rfl
@[simp] theorem State.reg_setFrame (s : State) (k : Nat) (x : Option Frame) (r : Nat) : (s.setFrame k x).reg r = s.reg r := rfl
@[simp] theorem State.counter_setFrame (s : State) (k : Nat) (x : Option Frame) (r : Nat) : (s.setFrame k x).counter r = s.counter r := rfl
@[simp] theorem State.readByte_setFrame (s : State) (k : Nat) (x : Option Frame) (j : Nat) : (s.setFrame k x).readByte j = s.readByte j := rfl
@[simp] theorem State.slot_setFrame (s : State) (k : Nat) (x : Option Frame) (i : Nat) : (s.setFrame k x).slot i = s.slot i := rfl
@[simp] theorem State.core_setFrame (s : State) (k : Nat) (x : Option Frame) (i : Nat) : (s.setFrame k x).core i = s.core i := rfl
@[simp] theorem State.thread_setFrame (s : State) (k : Nat) (x : Option Frame) (i : Nat) : (s.setFrame k x).thread i = s.thread i := rfl
@[simp] theorem State.tokens_setFrame (s : State) (k : Nat) (x : Option Frame) (i : Nat) : (s.setFrame k x).tokens i = s.tokens i := rfl
@[simp] theorem State.ch_setFrame (s : State) (k : Nat) (x : Option Frame) (i : Nat) : (s.setFrame k x).ch i = s.ch i := rfl

/-! #### `State.setShadow` -/

@[simp] theorem State.regs_setShadow (s : State) (a : Nat) (v : W32) : (s.setShadow a v).regs = s.regs := rfl
@[simp] theorem State.ctr_setShadow (s : State) (a : Nat) (v : W32) : (s.setShadow a v).ctr = s.ctr := rfl
@[simp] theorem State.latch_setShadow (s : State) (a : Nat) (v : W32) : (s.setShadow a v).latch = s.latch := rfl
@[simp] theorem State.mem_setShadow (s : State) (a : Nat) (v : W32) : (s.setShadow a v).mem = s.mem := rfl
@[simp] theorem State.slots_setShadow (s : State) (a : Nat) (v : W32) : (s.setShadow a v).slots = s.slots := rfl
@[simp] theorem State.cores_setShadow (s : State) (a : Nat) (v : W32) : (s.setShadow a v).cores = s.cores := rfl
@[simp] theorem State.lk_setShadow (s : State) (a : Nat) (v : W32) : (s.setShadow a v).lk = s.lk := rfl
@[simp] theorem State.tb_setShadow (s : State) (a : Nat) (v : W32) : (s.setShadow a v).tb = s.tb := rfl
@[simp] theorem State.evr_setShadow (s : State) (a : Nat) (v : W32) : (s.setShadow a v).evr = s.evr := rfl
@[simp] theorem State.msix_setShadow (s : State) (a : Nat) (v : W32) : (s.setShadow a v).msix = s.msix := rfl
@[simp] theorem State.shp_setShadow (s : State) (a : Nat) (v : W32) : (s.setShadow a v).shp = s.shp := rfl
@[simp] theorem State.flt_setShadow (s : State) (a : Nat) (v : W32) : (s.setShadow a v).flt = s.flt := rfl
@[simp] theorem State.drc_setShadow (s : State) (a : Nat) (v : W32) : (s.setShadow a v).drc = s.drc := rfl
@[simp] theorem State.sau_setShadow (s : State) (a : Nat) (v : W32) : (s.setShadow a v).sau = s.sau := rfl
@[simp] theorem State.bsn_setShadow (s : State) (a : Nat) (v : W32) : (s.setShadow a v).bsn = s.bsn := rfl
@[simp] theorem State.tbl_setShadow (s : State) (a : Nat) (v : W32) : (s.setShadow a v).tbl = s.tbl := rfl
@[simp] theorem State.prt_setShadow (s : State) (a : Nat) (v : W32) : (s.setShadow a v).prt = s.prt := rfl
@[simp] theorem State.brg_setShadow (s : State) (a : Nat) (v : W32) : (s.setShadow a v).brg = s.brg := rfl
@[simp] theorem State.sec_setShadow (s : State) (a : Nat) (v : W32) : (s.setShadow a v).sec = s.sec := rfl
@[simp] theorem State.lcs_setShadow (s : State) (a : Nat) (v : W32) : (s.setShadow a v).lcs = s.lcs := rfl
@[simp] theorem State.jtag_setShadow (s : State) (a : Nat) (v : W32) : (s.setShadow a v).jtag = s.jtag := rfl
@[simp] theorem State.boot_setShadow (s : State) (a : Nat) (v : W32) : (s.setShadow a v).boot = s.boot := rfl
@[simp] theorem State.pwr_setShadow (s : State) (a : Nat) (v : W32) : (s.setShadow a v).pwr = s.pwr := rfl
@[simp] theorem State.uni_setShadow (s : State) (a : Nat) (v : W32) : (s.setShadow a v).uni = s.uni := rfl
@[simp] theorem State.tnt_setShadow (s : State) (a : Nat) (v : W32) : (s.setShadow a v).tnt = s.tnt := rfl
@[simp] theorem State.ful_setShadow (s : State) (a : Nat) (v : W32) : (s.setShadow a v).ful = s.ful := rfl
@[simp] theorem State.shf_setShadow (s : State) (a : Nat) (v : W32) : (s.setShadow a v).shf = s.shf := rfl
@[simp] theorem State.stb_setShadow (s : State) (a : Nat) (v : W32) : (s.setShadow a v).stb = s.stb := rfl
@[simp] theorem State.free_setShadow (s : State) (a : Nat) (v : W32) : (s.setShadow a v).free = s.free := rfl
@[simp] theorem State.once_setShadow (s : State) (a : Nat) (v : W32) : (s.setShadow a v).once = s.once := rfl
@[simp] theorem State.reply_setShadow (s : State) (a : Nat) (v : W32) : (s.setShadow a v).reply = s.reply := rfl
@[simp] theorem State.pending_setShadow (s : State) (a : Nat) (v : W32) : (s.setShadow a v).pending = s.pending := rfl
@[simp] theorem State.reg_setShadow (s : State) (a : Nat) (v : W32) (r : Nat) : (s.setShadow a v).reg r = s.reg r := rfl
@[simp] theorem State.counter_setShadow (s : State) (a : Nat) (v : W32) (r : Nat) : (s.setShadow a v).counter r = s.counter r := rfl
@[simp] theorem State.readByte_setShadow (s : State) (a : Nat) (v : W32) (j : Nat) : (s.setShadow a v).readByte j = s.readByte j := rfl
@[simp] theorem State.slot_setShadow (s : State) (a : Nat) (v : W32) (i : Nat) : (s.setShadow a v).slot i = s.slot i := rfl
@[simp] theorem State.core_setShadow (s : State) (a : Nat) (v : W32) (i : Nat) : (s.setShadow a v).core i = s.core i := rfl
@[simp] theorem State.thread_setShadow (s : State) (a : Nat) (v : W32) (i : Nat) : (s.setShadow a v).thread i = s.thread i := rfl
@[simp] theorem State.tokens_setShadow (s : State) (a : Nat) (v : W32) (i : Nat) : (s.setShadow a v).tokens i = s.tokens i := rfl
@[simp] theorem State.frame_setShadow (s : State) (a : Nat) (v : W32) (i : Nat) : (s.setShadow a v).frame i = s.frame i := rfl
@[simp] theorem State.ch_setShadow (s : State) (a : Nat) (v : W32) (i : Nat) : (s.setShadow a v).ch i = s.ch i := rfl

/-! #### `State.setCh` -/

@[simp] theorem State.regs_setCh (s : State) (x : Nat) (c : DramCh) : (s.setCh x c).regs = s.regs := rfl
@[simp] theorem State.shadow_setCh (s : State) (x : Nat) (c : DramCh) : (s.setCh x c).shadow = s.shadow := rfl
@[simp] theorem State.ctr_setCh (s : State) (x : Nat) (c : DramCh) : (s.setCh x c).ctr = s.ctr := rfl
@[simp] theorem State.latch_setCh (s : State) (x : Nat) (c : DramCh) : (s.setCh x c).latch = s.latch := rfl
@[simp] theorem State.mem_setCh (s : State) (x : Nat) (c : DramCh) : (s.setCh x c).mem = s.mem := rfl
@[simp] theorem State.slots_setCh (s : State) (x : Nat) (c : DramCh) : (s.setCh x c).slots = s.slots := rfl
@[simp] theorem State.cores_setCh (s : State) (x : Nat) (c : DramCh) : (s.setCh x c).cores = s.cores := rfl
@[simp] theorem State.lk_setCh (s : State) (x : Nat) (c : DramCh) : (s.setCh x c).lk = s.lk := rfl
@[simp] theorem State.tb_setCh (s : State) (x : Nat) (c : DramCh) : (s.setCh x c).tb = s.tb := rfl
@[simp] theorem State.evr_setCh (s : State) (x : Nat) (c : DramCh) : (s.setCh x c).evr = s.evr := rfl
@[simp] theorem State.msix_setCh (s : State) (x : Nat) (c : DramCh) : (s.setCh x c).msix = s.msix := rfl
@[simp] theorem State.shp_setCh (s : State) (x : Nat) (c : DramCh) : (s.setCh x c).shp = s.shp := rfl
@[simp] theorem State.flt_setCh (s : State) (x : Nat) (c : DramCh) : (s.setCh x c).flt = s.flt := rfl
@[simp] theorem State.sau_setCh (s : State) (x : Nat) (c : DramCh) : (s.setCh x c).sau = s.sau := rfl
@[simp] theorem State.bsn_setCh (s : State) (x : Nat) (c : DramCh) : (s.setCh x c).bsn = s.bsn := rfl
@[simp] theorem State.tbl_setCh (s : State) (x : Nat) (c : DramCh) : (s.setCh x c).tbl = s.tbl := rfl
@[simp] theorem State.prt_setCh (s : State) (x : Nat) (c : DramCh) : (s.setCh x c).prt = s.prt := rfl
@[simp] theorem State.brg_setCh (s : State) (x : Nat) (c : DramCh) : (s.setCh x c).brg = s.brg := rfl
@[simp] theorem State.sec_setCh (s : State) (x : Nat) (c : DramCh) : (s.setCh x c).sec = s.sec := rfl
@[simp] theorem State.lcs_setCh (s : State) (x : Nat) (c : DramCh) : (s.setCh x c).lcs = s.lcs := rfl
@[simp] theorem State.jtag_setCh (s : State) (x : Nat) (c : DramCh) : (s.setCh x c).jtag = s.jtag := rfl
@[simp] theorem State.boot_setCh (s : State) (x : Nat) (c : DramCh) : (s.setCh x c).boot = s.boot := rfl
@[simp] theorem State.pwr_setCh (s : State) (x : Nat) (c : DramCh) : (s.setCh x c).pwr = s.pwr := rfl
@[simp] theorem State.uni_setCh (s : State) (x : Nat) (c : DramCh) : (s.setCh x c).uni = s.uni := rfl
@[simp] theorem State.tnt_setCh (s : State) (x : Nat) (c : DramCh) : (s.setCh x c).tnt = s.tnt := rfl
@[simp] theorem State.ful_setCh (s : State) (x : Nat) (c : DramCh) : (s.setCh x c).ful = s.ful := rfl
@[simp] theorem State.shf_setCh (s : State) (x : Nat) (c : DramCh) : (s.setCh x c).shf = s.shf := rfl
@[simp] theorem State.stb_setCh (s : State) (x : Nat) (c : DramCh) : (s.setCh x c).stb = s.stb := rfl
@[simp] theorem State.free_setCh (s : State) (x : Nat) (c : DramCh) : (s.setCh x c).free = s.free := rfl
@[simp] theorem State.once_setCh (s : State) (x : Nat) (c : DramCh) : (s.setCh x c).once = s.once := rfl
@[simp] theorem State.reply_setCh (s : State) (x : Nat) (c : DramCh) : (s.setCh x c).reply = s.reply := rfl
@[simp] theorem State.pending_setCh (s : State) (x : Nat) (c : DramCh) : (s.setCh x c).pending = s.pending := rfl
@[simp] theorem State.reg_setCh (s : State) (x : Nat) (c : DramCh) (r : Nat) : (s.setCh x c).reg r = s.reg r := rfl
@[simp] theorem State.counter_setCh (s : State) (x : Nat) (c : DramCh) (r : Nat) : (s.setCh x c).counter r = s.counter r := rfl
@[simp] theorem State.readByte_setCh (s : State) (x : Nat) (c : DramCh) (j : Nat) : (s.setCh x c).readByte j = s.readByte j := rfl
@[simp] theorem State.slot_setCh (s : State) (x : Nat) (c : DramCh) (i : Nat) : (s.setCh x c).slot i = s.slot i := rfl
@[simp] theorem State.core_setCh (s : State) (x : Nat) (c : DramCh) (i : Nat) : (s.setCh x c).core i = s.core i := rfl
@[simp] theorem State.thread_setCh (s : State) (x : Nat) (c : DramCh) (i : Nat) : (s.setCh x c).thread i = s.thread i := rfl
@[simp] theorem State.tokens_setCh (s : State) (x : Nat) (c : DramCh) (i : Nat) : (s.setCh x c).tokens i = s.tokens i := rfl
@[simp] theorem State.frame_setCh (s : State) (x : Nat) (c : DramCh) (i : Nat) : (s.setCh x c).frame i = s.frame i := rfl

/-! #### `State.setEg` -/

@[simp] theorem State.regs_setEg (s : State) (e : Nat) (x : Option EgFrame) : (s.setEg e x).regs = s.regs := rfl
@[simp] theorem State.shadow_setEg (s : State) (e : Nat) (x : Option EgFrame) : (s.setEg e x).shadow = s.shadow := rfl
@[simp] theorem State.ctr_setEg (s : State) (e : Nat) (x : Option EgFrame) : (s.setEg e x).ctr = s.ctr := rfl
@[simp] theorem State.latch_setEg (s : State) (e : Nat) (x : Option EgFrame) : (s.setEg e x).latch = s.latch := rfl
@[simp] theorem State.mem_setEg (s : State) (e : Nat) (x : Option EgFrame) : (s.setEg e x).mem = s.mem := rfl
@[simp] theorem State.slots_setEg (s : State) (e : Nat) (x : Option EgFrame) : (s.setEg e x).slots = s.slots := rfl
@[simp] theorem State.cores_setEg (s : State) (e : Nat) (x : Option EgFrame) : (s.setEg e x).cores = s.cores := rfl
@[simp] theorem State.lk_setEg (s : State) (e : Nat) (x : Option EgFrame) : (s.setEg e x).lk = s.lk := rfl
@[simp] theorem State.tb_setEg (s : State) (e : Nat) (x : Option EgFrame) : (s.setEg e x).tb = s.tb := rfl
@[simp] theorem State.evr_setEg (s : State) (e : Nat) (x : Option EgFrame) : (s.setEg e x).evr = s.evr := rfl
@[simp] theorem State.msix_setEg (s : State) (e : Nat) (x : Option EgFrame) : (s.setEg e x).msix = s.msix := rfl
@[simp] theorem State.shp_setEg (s : State) (e : Nat) (x : Option EgFrame) : (s.setEg e x).shp = s.shp := rfl
@[simp] theorem State.drc_setEg (s : State) (e : Nat) (x : Option EgFrame) : (s.setEg e x).drc = s.drc := rfl
@[simp] theorem State.sau_setEg (s : State) (e : Nat) (x : Option EgFrame) : (s.setEg e x).sau = s.sau := rfl
@[simp] theorem State.bsn_setEg (s : State) (e : Nat) (x : Option EgFrame) : (s.setEg e x).bsn = s.bsn := rfl
@[simp] theorem State.tbl_setEg (s : State) (e : Nat) (x : Option EgFrame) : (s.setEg e x).tbl = s.tbl := rfl
@[simp] theorem State.prt_setEg (s : State) (e : Nat) (x : Option EgFrame) : (s.setEg e x).prt = s.prt := rfl
@[simp] theorem State.brg_setEg (s : State) (e : Nat) (x : Option EgFrame) : (s.setEg e x).brg = s.brg := rfl
@[simp] theorem State.sec_setEg (s : State) (e : Nat) (x : Option EgFrame) : (s.setEg e x).sec = s.sec := rfl
@[simp] theorem State.lcs_setEg (s : State) (e : Nat) (x : Option EgFrame) : (s.setEg e x).lcs = s.lcs := rfl
@[simp] theorem State.jtag_setEg (s : State) (e : Nat) (x : Option EgFrame) : (s.setEg e x).jtag = s.jtag := rfl
@[simp] theorem State.boot_setEg (s : State) (e : Nat) (x : Option EgFrame) : (s.setEg e x).boot = s.boot := rfl
@[simp] theorem State.pwr_setEg (s : State) (e : Nat) (x : Option EgFrame) : (s.setEg e x).pwr = s.pwr := rfl
@[simp] theorem State.uni_setEg (s : State) (e : Nat) (x : Option EgFrame) : (s.setEg e x).uni = s.uni := rfl
@[simp] theorem State.tnt_setEg (s : State) (e : Nat) (x : Option EgFrame) : (s.setEg e x).tnt = s.tnt := rfl
@[simp] theorem State.ful_setEg (s : State) (e : Nat) (x : Option EgFrame) : (s.setEg e x).ful = s.ful := rfl
@[simp] theorem State.shf_setEg (s : State) (e : Nat) (x : Option EgFrame) : (s.setEg e x).shf = s.shf := rfl
@[simp] theorem State.stb_setEg (s : State) (e : Nat) (x : Option EgFrame) : (s.setEg e x).stb = s.stb := rfl
@[simp] theorem State.free_setEg (s : State) (e : Nat) (x : Option EgFrame) : (s.setEg e x).free = s.free := rfl
@[simp] theorem State.once_setEg (s : State) (e : Nat) (x : Option EgFrame) : (s.setEg e x).once = s.once := rfl
@[simp] theorem State.reply_setEg (s : State) (e : Nat) (x : Option EgFrame) : (s.setEg e x).reply = s.reply := rfl
@[simp] theorem State.pending_setEg (s : State) (e : Nat) (x : Option EgFrame) : (s.setEg e x).pending = s.pending := rfl
@[simp] theorem State.reg_setEg (s : State) (e : Nat) (x : Option EgFrame) (r : Nat) : (s.setEg e x).reg r = s.reg r := rfl
@[simp] theorem State.counter_setEg (s : State) (e : Nat) (x : Option EgFrame) (r : Nat) : (s.setEg e x).counter r = s.counter r := rfl
@[simp] theorem State.readByte_setEg (s : State) (e : Nat) (x : Option EgFrame) (j : Nat) : (s.setEg e x).readByte j = s.readByte j := rfl
@[simp] theorem State.slot_setEg (s : State) (e : Nat) (x : Option EgFrame) (i : Nat) : (s.setEg e x).slot i = s.slot i := rfl
@[simp] theorem State.core_setEg (s : State) (e : Nat) (x : Option EgFrame) (i : Nat) : (s.setEg e x).core i = s.core i := rfl
@[simp] theorem State.thread_setEg (s : State) (e : Nat) (x : Option EgFrame) (i : Nat) : (s.setEg e x).thread i = s.thread i := rfl
@[simp] theorem State.tokens_setEg (s : State) (e : Nat) (x : Option EgFrame) (i : Nat) : (s.setEg e x).tokens i = s.tokens i := rfl
@[simp] theorem State.ch_setEg (s : State) (e : Nat) (x : Option EgFrame) (i : Nat) : (s.setEg e x).ch i = s.ch i := rfl

/-! #### `State.setPort` -/

@[simp] theorem State.regs_setPort (s : State) (p : Nat) (x : PortSt) : (s.setPort p x).regs = s.regs := rfl
@[simp] theorem State.shadow_setPort (s : State) (p : Nat) (x : PortSt) : (s.setPort p x).shadow = s.shadow := rfl
@[simp] theorem State.ctr_setPort (s : State) (p : Nat) (x : PortSt) : (s.setPort p x).ctr = s.ctr := rfl
@[simp] theorem State.latch_setPort (s : State) (p : Nat) (x : PortSt) : (s.setPort p x).latch = s.latch := rfl
@[simp] theorem State.mem_setPort (s : State) (p : Nat) (x : PortSt) : (s.setPort p x).mem = s.mem := rfl
@[simp] theorem State.slots_setPort (s : State) (p : Nat) (x : PortSt) : (s.setPort p x).slots = s.slots := rfl
@[simp] theorem State.cores_setPort (s : State) (p : Nat) (x : PortSt) : (s.setPort p x).cores = s.cores := rfl
@[simp] theorem State.lk_setPort (s : State) (p : Nat) (x : PortSt) : (s.setPort p x).lk = s.lk := rfl
@[simp] theorem State.tb_setPort (s : State) (p : Nat) (x : PortSt) : (s.setPort p x).tb = s.tb := rfl
@[simp] theorem State.evr_setPort (s : State) (p : Nat) (x : PortSt) : (s.setPort p x).evr = s.evr := rfl
@[simp] theorem State.msix_setPort (s : State) (p : Nat) (x : PortSt) : (s.setPort p x).msix = s.msix := rfl
@[simp] theorem State.shp_setPort (s : State) (p : Nat) (x : PortSt) : (s.setPort p x).shp = s.shp := rfl
@[simp] theorem State.flt_setPort (s : State) (p : Nat) (x : PortSt) : (s.setPort p x).flt = s.flt := rfl
@[simp] theorem State.drc_setPort (s : State) (p : Nat) (x : PortSt) : (s.setPort p x).drc = s.drc := rfl
@[simp] theorem State.sau_setPort (s : State) (p : Nat) (x : PortSt) : (s.setPort p x).sau = s.sau := rfl
@[simp] theorem State.bsn_setPort (s : State) (p : Nat) (x : PortSt) : (s.setPort p x).bsn = s.bsn := rfl
@[simp] theorem State.tbl_setPort (s : State) (p : Nat) (x : PortSt) : (s.setPort p x).tbl = s.tbl := rfl
@[simp] theorem State.brg_setPort (s : State) (p : Nat) (x : PortSt) : (s.setPort p x).brg = s.brg := rfl
@[simp] theorem State.sec_setPort (s : State) (p : Nat) (x : PortSt) : (s.setPort p x).sec = s.sec := rfl
@[simp] theorem State.lcs_setPort (s : State) (p : Nat) (x : PortSt) : (s.setPort p x).lcs = s.lcs := rfl
@[simp] theorem State.jtag_setPort (s : State) (p : Nat) (x : PortSt) : (s.setPort p x).jtag = s.jtag := rfl
@[simp] theorem State.boot_setPort (s : State) (p : Nat) (x : PortSt) : (s.setPort p x).boot = s.boot := rfl
@[simp] theorem State.pwr_setPort (s : State) (p : Nat) (x : PortSt) : (s.setPort p x).pwr = s.pwr := rfl
@[simp] theorem State.uni_setPort (s : State) (p : Nat) (x : PortSt) : (s.setPort p x).uni = s.uni := rfl
@[simp] theorem State.tnt_setPort (s : State) (p : Nat) (x : PortSt) : (s.setPort p x).tnt = s.tnt := rfl
@[simp] theorem State.ful_setPort (s : State) (p : Nat) (x : PortSt) : (s.setPort p x).ful = s.ful := rfl
@[simp] theorem State.shf_setPort (s : State) (p : Nat) (x : PortSt) : (s.setPort p x).shf = s.shf := rfl
@[simp] theorem State.stb_setPort (s : State) (p : Nat) (x : PortSt) : (s.setPort p x).stb = s.stb := rfl
@[simp] theorem State.free_setPort (s : State) (p : Nat) (x : PortSt) : (s.setPort p x).free = s.free := rfl
@[simp] theorem State.once_setPort (s : State) (p : Nat) (x : PortSt) : (s.setPort p x).once = s.once := rfl
@[simp] theorem State.reply_setPort (s : State) (p : Nat) (x : PortSt) : (s.setPort p x).reply = s.reply := rfl
@[simp] theorem State.pending_setPort (s : State) (p : Nat) (x : PortSt) : (s.setPort p x).pending = s.pending := rfl
@[simp] theorem State.reg_setPort (s : State) (p : Nat) (x : PortSt) (r : Nat) : (s.setPort p x).reg r = s.reg r := rfl
@[simp] theorem State.counter_setPort (s : State) (p : Nat) (x : PortSt) (r : Nat) : (s.setPort p x).counter r = s.counter r := rfl
@[simp] theorem State.readByte_setPort (s : State) (p : Nat) (x : PortSt) (j : Nat) : (s.setPort p x).readByte j = s.readByte j := rfl
@[simp] theorem State.slot_setPort (s : State) (p : Nat) (x : PortSt) (i : Nat) : (s.setPort p x).slot i = s.slot i := rfl
@[simp] theorem State.core_setPort (s : State) (p : Nat) (x : PortSt) (i : Nat) : (s.setPort p x).core i = s.core i := rfl
@[simp] theorem State.thread_setPort (s : State) (p : Nat) (x : PortSt) (i : Nat) : (s.setPort p x).thread i = s.thread i := rfl
@[simp] theorem State.tokens_setPort (s : State) (p : Nat) (x : PortSt) (i : Nat) : (s.setPort p x).tokens i = s.tokens i := rfl
@[simp] theorem State.frame_setPort (s : State) (p : Nat) (x : PortSt) (i : Nat) : (s.setPort p x).frame i = s.frame i := rfl
@[simp] theorem State.ch_setPort (s : State) (p : Nat) (x : PortSt) (i : Nat) : (s.setPort p x).ch i = s.ch i := rfl

/-! #### `State.setRx` -/

@[simp] theorem State.regs_setRx (s : State) (p : Nat) (l : List RxFrame) : (s.setRx p l).regs = s.regs := rfl
@[simp] theorem State.shadow_setRx (s : State) (p : Nat) (l : List RxFrame) : (s.setRx p l).shadow = s.shadow := rfl
@[simp] theorem State.ctr_setRx (s : State) (p : Nat) (l : List RxFrame) : (s.setRx p l).ctr = s.ctr := rfl
@[simp] theorem State.latch_setRx (s : State) (p : Nat) (l : List RxFrame) : (s.setRx p l).latch = s.latch := rfl
@[simp] theorem State.mem_setRx (s : State) (p : Nat) (l : List RxFrame) : (s.setRx p l).mem = s.mem := rfl
@[simp] theorem State.slots_setRx (s : State) (p : Nat) (l : List RxFrame) : (s.setRx p l).slots = s.slots := rfl
@[simp] theorem State.cores_setRx (s : State) (p : Nat) (l : List RxFrame) : (s.setRx p l).cores = s.cores := rfl
@[simp] theorem State.lk_setRx (s : State) (p : Nat) (l : List RxFrame) : (s.setRx p l).lk = s.lk := rfl
@[simp] theorem State.tb_setRx (s : State) (p : Nat) (l : List RxFrame) : (s.setRx p l).tb = s.tb := rfl
@[simp] theorem State.evr_setRx (s : State) (p : Nat) (l : List RxFrame) : (s.setRx p l).evr = s.evr := rfl
@[simp] theorem State.msix_setRx (s : State) (p : Nat) (l : List RxFrame) : (s.setRx p l).msix = s.msix := rfl
@[simp] theorem State.shp_setRx (s : State) (p : Nat) (l : List RxFrame) : (s.setRx p l).shp = s.shp := rfl
@[simp] theorem State.drc_setRx (s : State) (p : Nat) (l : List RxFrame) : (s.setRx p l).drc = s.drc := rfl
@[simp] theorem State.sau_setRx (s : State) (p : Nat) (l : List RxFrame) : (s.setRx p l).sau = s.sau := rfl
@[simp] theorem State.bsn_setRx (s : State) (p : Nat) (l : List RxFrame) : (s.setRx p l).bsn = s.bsn := rfl
@[simp] theorem State.tbl_setRx (s : State) (p : Nat) (l : List RxFrame) : (s.setRx p l).tbl = s.tbl := rfl
@[simp] theorem State.prt_setRx (s : State) (p : Nat) (l : List RxFrame) : (s.setRx p l).prt = s.prt := rfl
@[simp] theorem State.brg_setRx (s : State) (p : Nat) (l : List RxFrame) : (s.setRx p l).brg = s.brg := rfl
@[simp] theorem State.sec_setRx (s : State) (p : Nat) (l : List RxFrame) : (s.setRx p l).sec = s.sec := rfl
@[simp] theorem State.lcs_setRx (s : State) (p : Nat) (l : List RxFrame) : (s.setRx p l).lcs = s.lcs := rfl
@[simp] theorem State.jtag_setRx (s : State) (p : Nat) (l : List RxFrame) : (s.setRx p l).jtag = s.jtag := rfl
@[simp] theorem State.boot_setRx (s : State) (p : Nat) (l : List RxFrame) : (s.setRx p l).boot = s.boot := rfl
@[simp] theorem State.pwr_setRx (s : State) (p : Nat) (l : List RxFrame) : (s.setRx p l).pwr = s.pwr := rfl
@[simp] theorem State.uni_setRx (s : State) (p : Nat) (l : List RxFrame) : (s.setRx p l).uni = s.uni := rfl
@[simp] theorem State.tnt_setRx (s : State) (p : Nat) (l : List RxFrame) : (s.setRx p l).tnt = s.tnt := rfl
@[simp] theorem State.ful_setRx (s : State) (p : Nat) (l : List RxFrame) : (s.setRx p l).ful = s.ful := rfl
@[simp] theorem State.shf_setRx (s : State) (p : Nat) (l : List RxFrame) : (s.setRx p l).shf = s.shf := rfl
@[simp] theorem State.stb_setRx (s : State) (p : Nat) (l : List RxFrame) : (s.setRx p l).stb = s.stb := rfl
@[simp] theorem State.free_setRx (s : State) (p : Nat) (l : List RxFrame) : (s.setRx p l).free = s.free := rfl
@[simp] theorem State.once_setRx (s : State) (p : Nat) (l : List RxFrame) : (s.setRx p l).once = s.once := rfl
@[simp] theorem State.reply_setRx (s : State) (p : Nat) (l : List RxFrame) : (s.setRx p l).reply = s.reply := rfl
@[simp] theorem State.pending_setRx (s : State) (p : Nat) (l : List RxFrame) : (s.setRx p l).pending = s.pending := rfl
@[simp] theorem State.reg_setRx (s : State) (p : Nat) (l : List RxFrame) (r : Nat) : (s.setRx p l).reg r = s.reg r := rfl
@[simp] theorem State.counter_setRx (s : State) (p : Nat) (l : List RxFrame) (r : Nat) : (s.setRx p l).counter r = s.counter r := rfl
@[simp] theorem State.readByte_setRx (s : State) (p : Nat) (l : List RxFrame) (j : Nat) : (s.setRx p l).readByte j = s.readByte j := rfl
@[simp] theorem State.slot_setRx (s : State) (p : Nat) (l : List RxFrame) (i : Nat) : (s.setRx p l).slot i = s.slot i := rfl
@[simp] theorem State.core_setRx (s : State) (p : Nat) (l : List RxFrame) (i : Nat) : (s.setRx p l).core i = s.core i := rfl
@[simp] theorem State.thread_setRx (s : State) (p : Nat) (l : List RxFrame) (i : Nat) : (s.setRx p l).thread i = s.thread i := rfl
@[simp] theorem State.tokens_setRx (s : State) (p : Nat) (l : List RxFrame) (i : Nat) : (s.setRx p l).tokens i = s.tokens i := rfl
@[simp] theorem State.ch_setRx (s : State) (p : Nat) (l : List RxFrame) (i : Nat) : (s.setRx p l).ch i = s.ch i := rfl

/-! #### `State.setPartner` -/

@[simp] theorem State.regs_setPartner (s : State) (p : Nat) (x : Partner) : (s.setPartner p x).regs = s.regs := rfl
@[simp] theorem State.shadow_setPartner (s : State) (p : Nat) (x : Partner) : (s.setPartner p x).shadow = s.shadow := rfl
@[simp] theorem State.ctr_setPartner (s : State) (p : Nat) (x : Partner) : (s.setPartner p x).ctr = s.ctr := rfl
@[simp] theorem State.latch_setPartner (s : State) (p : Nat) (x : Partner) : (s.setPartner p x).latch = s.latch := rfl
@[simp] theorem State.mem_setPartner (s : State) (p : Nat) (x : Partner) : (s.setPartner p x).mem = s.mem := rfl
@[simp] theorem State.slots_setPartner (s : State) (p : Nat) (x : Partner) : (s.setPartner p x).slots = s.slots := rfl
@[simp] theorem State.cores_setPartner (s : State) (p : Nat) (x : Partner) : (s.setPartner p x).cores = s.cores := rfl
@[simp] theorem State.lk_setPartner (s : State) (p : Nat) (x : Partner) : (s.setPartner p x).lk = s.lk := rfl
@[simp] theorem State.tb_setPartner (s : State) (p : Nat) (x : Partner) : (s.setPartner p x).tb = s.tb := rfl
@[simp] theorem State.evr_setPartner (s : State) (p : Nat) (x : Partner) : (s.setPartner p x).evr = s.evr := rfl
@[simp] theorem State.msix_setPartner (s : State) (p : Nat) (x : Partner) : (s.setPartner p x).msix = s.msix := rfl
@[simp] theorem State.shp_setPartner (s : State) (p : Nat) (x : Partner) : (s.setPartner p x).shp = s.shp := rfl
@[simp] theorem State.flt_setPartner (s : State) (p : Nat) (x : Partner) : (s.setPartner p x).flt = s.flt := rfl
@[simp] theorem State.drc_setPartner (s : State) (p : Nat) (x : Partner) : (s.setPartner p x).drc = s.drc := rfl
@[simp] theorem State.sau_setPartner (s : State) (p : Nat) (x : Partner) : (s.setPartner p x).sau = s.sau := rfl
@[simp] theorem State.bsn_setPartner (s : State) (p : Nat) (x : Partner) : (s.setPartner p x).bsn = s.bsn := rfl
@[simp] theorem State.tbl_setPartner (s : State) (p : Nat) (x : Partner) : (s.setPartner p x).tbl = s.tbl := rfl
@[simp] theorem State.prt_setPartner (s : State) (p : Nat) (x : Partner) : (s.setPartner p x).prt = s.prt := rfl
@[simp] theorem State.sec_setPartner (s : State) (p : Nat) (x : Partner) : (s.setPartner p x).sec = s.sec := rfl
@[simp] theorem State.lcs_setPartner (s : State) (p : Nat) (x : Partner) : (s.setPartner p x).lcs = s.lcs := rfl
@[simp] theorem State.jtag_setPartner (s : State) (p : Nat) (x : Partner) : (s.setPartner p x).jtag = s.jtag := rfl
@[simp] theorem State.boot_setPartner (s : State) (p : Nat) (x : Partner) : (s.setPartner p x).boot = s.boot := rfl
@[simp] theorem State.pwr_setPartner (s : State) (p : Nat) (x : Partner) : (s.setPartner p x).pwr = s.pwr := rfl
@[simp] theorem State.uni_setPartner (s : State) (p : Nat) (x : Partner) : (s.setPartner p x).uni = s.uni := rfl
@[simp] theorem State.tnt_setPartner (s : State) (p : Nat) (x : Partner) : (s.setPartner p x).tnt = s.tnt := rfl
@[simp] theorem State.ful_setPartner (s : State) (p : Nat) (x : Partner) : (s.setPartner p x).ful = s.ful := rfl
@[simp] theorem State.shf_setPartner (s : State) (p : Nat) (x : Partner) : (s.setPartner p x).shf = s.shf := rfl
@[simp] theorem State.stb_setPartner (s : State) (p : Nat) (x : Partner) : (s.setPartner p x).stb = s.stb := rfl
@[simp] theorem State.free_setPartner (s : State) (p : Nat) (x : Partner) : (s.setPartner p x).free = s.free := rfl
@[simp] theorem State.once_setPartner (s : State) (p : Nat) (x : Partner) : (s.setPartner p x).once = s.once := rfl
@[simp] theorem State.reply_setPartner (s : State) (p : Nat) (x : Partner) : (s.setPartner p x).reply = s.reply := rfl
@[simp] theorem State.pending_setPartner (s : State) (p : Nat) (x : Partner) : (s.setPartner p x).pending = s.pending := rfl
@[simp] theorem State.reg_setPartner (s : State) (p : Nat) (x : Partner) (r : Nat) : (s.setPartner p x).reg r = s.reg r := rfl
@[simp] theorem State.counter_setPartner (s : State) (p : Nat) (x : Partner) (r : Nat) : (s.setPartner p x).counter r = s.counter r := rfl
@[simp] theorem State.readByte_setPartner (s : State) (p : Nat) (x : Partner) (j : Nat) : (s.setPartner p x).readByte j = s.readByte j := rfl
@[simp] theorem State.slot_setPartner (s : State) (p : Nat) (x : Partner) (i : Nat) : (s.setPartner p x).slot i = s.slot i := rfl
@[simp] theorem State.core_setPartner (s : State) (p : Nat) (x : Partner) (i : Nat) : (s.setPartner p x).core i = s.core i := rfl
@[simp] theorem State.thread_setPartner (s : State) (p : Nat) (x : Partner) (i : Nat) : (s.setPartner p x).thread i = s.thread i := rfl
@[simp] theorem State.tokens_setPartner (s : State) (p : Nat) (x : Partner) (i : Nat) : (s.setPartner p x).tokens i = s.tokens i := rfl
@[simp] theorem State.frame_setPartner (s : State) (p : Nat) (x : Partner) (i : Nat) : (s.setPartner p x).frame i = s.frame i := rfl
@[simp] theorem State.ch_setPartner (s : State) (p : Nat) (x : Partner) (i : Nat) : (s.setPartner p x).ch i = s.ch i := rfl

/-! #### `State.setTag` -/

@[simp] theorem State.regs_setTag (s : State) (p t : Nat) : (s.setTag p t).regs = s.regs := rfl
@[simp] theorem State.shadow_setTag (s : State) (p t : Nat) : (s.setTag p t).shadow = s.shadow := rfl
@[simp] theorem State.ctr_setTag (s : State) (p t : Nat) : (s.setTag p t).ctr = s.ctr := rfl
@[simp] theorem State.latch_setTag (s : State) (p t : Nat) : (s.setTag p t).latch = s.latch := rfl
@[simp] theorem State.mem_setTag (s : State) (p t : Nat) : (s.setTag p t).mem = s.mem := rfl
@[simp] theorem State.slots_setTag (s : State) (p t : Nat) : (s.setTag p t).slots = s.slots := rfl
@[simp] theorem State.cores_setTag (s : State) (p t : Nat) : (s.setTag p t).cores = s.cores := rfl
@[simp] theorem State.lk_setTag (s : State) (p t : Nat) : (s.setTag p t).lk = s.lk := rfl
@[simp] theorem State.tb_setTag (s : State) (p t : Nat) : (s.setTag p t).tb = s.tb := rfl
@[simp] theorem State.evr_setTag (s : State) (p t : Nat) : (s.setTag p t).evr = s.evr := rfl
@[simp] theorem State.msix_setTag (s : State) (p t : Nat) : (s.setTag p t).msix = s.msix := rfl
@[simp] theorem State.shp_setTag (s : State) (p t : Nat) : (s.setTag p t).shp = s.shp := rfl
@[simp] theorem State.flt_setTag (s : State) (p t : Nat) : (s.setTag p t).flt = s.flt := rfl
@[simp] theorem State.drc_setTag (s : State) (p t : Nat) : (s.setTag p t).drc = s.drc := rfl
@[simp] theorem State.sau_setTag (s : State) (p t : Nat) : (s.setTag p t).sau = s.sau := rfl
@[simp] theorem State.tbl_setTag (s : State) (p t : Nat) : (s.setTag p t).tbl = s.tbl := rfl
@[simp] theorem State.prt_setTag (s : State) (p t : Nat) : (s.setTag p t).prt = s.prt := rfl
@[simp] theorem State.brg_setTag (s : State) (p t : Nat) : (s.setTag p t).brg = s.brg := rfl
@[simp] theorem State.sec_setTag (s : State) (p t : Nat) : (s.setTag p t).sec = s.sec := rfl
@[simp] theorem State.lcs_setTag (s : State) (p t : Nat) : (s.setTag p t).lcs = s.lcs := rfl
@[simp] theorem State.jtag_setTag (s : State) (p t : Nat) : (s.setTag p t).jtag = s.jtag := rfl
@[simp] theorem State.boot_setTag (s : State) (p t : Nat) : (s.setTag p t).boot = s.boot := rfl
@[simp] theorem State.pwr_setTag (s : State) (p t : Nat) : (s.setTag p t).pwr = s.pwr := rfl
@[simp] theorem State.uni_setTag (s : State) (p t : Nat) : (s.setTag p t).uni = s.uni := rfl
@[simp] theorem State.tnt_setTag (s : State) (p t : Nat) : (s.setTag p t).tnt = s.tnt := rfl
@[simp] theorem State.ful_setTag (s : State) (p t : Nat) : (s.setTag p t).ful = s.ful := rfl
@[simp] theorem State.shf_setTag (s : State) (p t : Nat) : (s.setTag p t).shf = s.shf := rfl
@[simp] theorem State.stb_setTag (s : State) (p t : Nat) : (s.setTag p t).stb = s.stb := rfl
@[simp] theorem State.free_setTag (s : State) (p t : Nat) : (s.setTag p t).free = s.free := rfl
@[simp] theorem State.once_setTag (s : State) (p t : Nat) : (s.setTag p t).once = s.once := rfl
@[simp] theorem State.reply_setTag (s : State) (p t : Nat) : (s.setTag p t).reply = s.reply := rfl
@[simp] theorem State.pending_setTag (s : State) (p t : Nat) : (s.setTag p t).pending = s.pending := rfl
@[simp] theorem State.reg_setTag (s : State) (p t : Nat) (r : Nat) : (s.setTag p t).reg r = s.reg r := rfl
@[simp] theorem State.counter_setTag (s : State) (p t : Nat) (r : Nat) : (s.setTag p t).counter r = s.counter r := rfl
@[simp] theorem State.readByte_setTag (s : State) (p t : Nat) (j : Nat) : (s.setTag p t).readByte j = s.readByte j := rfl
@[simp] theorem State.slot_setTag (s : State) (p t : Nat) (i : Nat) : (s.setTag p t).slot i = s.slot i := rfl
@[simp] theorem State.core_setTag (s : State) (p t : Nat) (i : Nat) : (s.setTag p t).core i = s.core i := rfl
@[simp] theorem State.thread_setTag (s : State) (p t : Nat) (i : Nat) : (s.setTag p t).thread i = s.thread i := rfl
@[simp] theorem State.tokens_setTag (s : State) (p t : Nat) (i : Nat) : (s.setTag p t).tokens i = s.tokens i := rfl
@[simp] theorem State.frame_setTag (s : State) (p t : Nat) (i : Nat) : (s.setTag p t).frame i = s.frame i := rfl
@[simp] theorem State.ch_setTag (s : State) (p t : Nat) (i : Nat) : (s.setTag p t).ch i = s.ch i := rfl

/-! #### `State.setLink` -/

@[simp] theorem State.regs_setLink (s : State) (p l : Nat) : (s.setLink p l).regs = s.regs := rfl
@[simp] theorem State.shadow_setLink (s : State) (p l : Nat) : (s.setLink p l).shadow = s.shadow := rfl
@[simp] theorem State.ctr_setLink (s : State) (p l : Nat) : (s.setLink p l).ctr = s.ctr := rfl
@[simp] theorem State.latch_setLink (s : State) (p l : Nat) : (s.setLink p l).latch = s.latch := rfl
@[simp] theorem State.mem_setLink (s : State) (p l : Nat) : (s.setLink p l).mem = s.mem := rfl
@[simp] theorem State.slots_setLink (s : State) (p l : Nat) : (s.setLink p l).slots = s.slots := rfl
@[simp] theorem State.cores_setLink (s : State) (p l : Nat) : (s.setLink p l).cores = s.cores := rfl
@[simp] theorem State.lk_setLink (s : State) (p l : Nat) : (s.setLink p l).lk = s.lk := rfl
@[simp] theorem State.tb_setLink (s : State) (p l : Nat) : (s.setLink p l).tb = s.tb := rfl
@[simp] theorem State.evr_setLink (s : State) (p l : Nat) : (s.setLink p l).evr = s.evr := rfl
@[simp] theorem State.msix_setLink (s : State) (p l : Nat) : (s.setLink p l).msix = s.msix := rfl
@[simp] theorem State.shp_setLink (s : State) (p l : Nat) : (s.setLink p l).shp = s.shp := rfl
@[simp] theorem State.flt_setLink (s : State) (p l : Nat) : (s.setLink p l).flt = s.flt := rfl
@[simp] theorem State.drc_setLink (s : State) (p l : Nat) : (s.setLink p l).drc = s.drc := rfl
@[simp] theorem State.sau_setLink (s : State) (p l : Nat) : (s.setLink p l).sau = s.sau := rfl
@[simp] theorem State.tbl_setLink (s : State) (p l : Nat) : (s.setLink p l).tbl = s.tbl := rfl
@[simp] theorem State.prt_setLink (s : State) (p l : Nat) : (s.setLink p l).prt = s.prt := rfl
@[simp] theorem State.brg_setLink (s : State) (p l : Nat) : (s.setLink p l).brg = s.brg := rfl
@[simp] theorem State.sec_setLink (s : State) (p l : Nat) : (s.setLink p l).sec = s.sec := rfl
@[simp] theorem State.lcs_setLink (s : State) (p l : Nat) : (s.setLink p l).lcs = s.lcs := rfl
@[simp] theorem State.jtag_setLink (s : State) (p l : Nat) : (s.setLink p l).jtag = s.jtag := rfl
@[simp] theorem State.boot_setLink (s : State) (p l : Nat) : (s.setLink p l).boot = s.boot := rfl
@[simp] theorem State.pwr_setLink (s : State) (p l : Nat) : (s.setLink p l).pwr = s.pwr := rfl
@[simp] theorem State.uni_setLink (s : State) (p l : Nat) : (s.setLink p l).uni = s.uni := rfl
@[simp] theorem State.tnt_setLink (s : State) (p l : Nat) : (s.setLink p l).tnt = s.tnt := rfl
@[simp] theorem State.ful_setLink (s : State) (p l : Nat) : (s.setLink p l).ful = s.ful := rfl
@[simp] theorem State.shf_setLink (s : State) (p l : Nat) : (s.setLink p l).shf = s.shf := rfl
@[simp] theorem State.stb_setLink (s : State) (p l : Nat) : (s.setLink p l).stb = s.stb := rfl
@[simp] theorem State.free_setLink (s : State) (p l : Nat) : (s.setLink p l).free = s.free := rfl
@[simp] theorem State.once_setLink (s : State) (p l : Nat) : (s.setLink p l).once = s.once := rfl
@[simp] theorem State.reply_setLink (s : State) (p l : Nat) : (s.setLink p l).reply = s.reply := rfl
@[simp] theorem State.pending_setLink (s : State) (p l : Nat) : (s.setLink p l).pending = s.pending := rfl
@[simp] theorem State.reg_setLink (s : State) (p l : Nat) (r : Nat) : (s.setLink p l).reg r = s.reg r := rfl
@[simp] theorem State.counter_setLink (s : State) (p l : Nat) (r : Nat) : (s.setLink p l).counter r = s.counter r := rfl
@[simp] theorem State.readByte_setLink (s : State) (p l : Nat) (j : Nat) : (s.setLink p l).readByte j = s.readByte j := rfl
@[simp] theorem State.slot_setLink (s : State) (p l : Nat) (i : Nat) : (s.setLink p l).slot i = s.slot i := rfl
@[simp] theorem State.core_setLink (s : State) (p l : Nat) (i : Nat) : (s.setLink p l).core i = s.core i := rfl
@[simp] theorem State.thread_setLink (s : State) (p l : Nat) (i : Nat) : (s.setLink p l).thread i = s.thread i := rfl
@[simp] theorem State.tokens_setLink (s : State) (p l : Nat) (i : Nat) : (s.setLink p l).tokens i = s.tokens i := rfl
@[simp] theorem State.frame_setLink (s : State) (p l : Nat) (i : Nat) : (s.setLink p l).frame i = s.frame i := rfl
@[simp] theorem State.ch_setLink (s : State) (p l : Nat) (i : Nat) : (s.setLink p l).ch i = s.ch i := rfl

/-! #### `State.setHead` -/

@[simp] theorem State.regs_setHead (s : State) (p : Nat) (h : Bool) : (s.setHead p h).regs = s.regs := rfl
@[simp] theorem State.shadow_setHead (s : State) (p : Nat) (h : Bool) : (s.setHead p h).shadow = s.shadow := rfl
@[simp] theorem State.ctr_setHead (s : State) (p : Nat) (h : Bool) : (s.setHead p h).ctr = s.ctr := rfl
@[simp] theorem State.latch_setHead (s : State) (p : Nat) (h : Bool) : (s.setHead p h).latch = s.latch := rfl
@[simp] theorem State.mem_setHead (s : State) (p : Nat) (h : Bool) : (s.setHead p h).mem = s.mem := rfl
@[simp] theorem State.slots_setHead (s : State) (p : Nat) (h : Bool) : (s.setHead p h).slots = s.slots := rfl
@[simp] theorem State.cores_setHead (s : State) (p : Nat) (h : Bool) : (s.setHead p h).cores = s.cores := rfl
@[simp] theorem State.lk_setHead (s : State) (p : Nat) (h : Bool) : (s.setHead p h).lk = s.lk := rfl
@[simp] theorem State.tb_setHead (s : State) (p : Nat) (h : Bool) : (s.setHead p h).tb = s.tb := rfl
@[simp] theorem State.evr_setHead (s : State) (p : Nat) (h : Bool) : (s.setHead p h).evr = s.evr := rfl
@[simp] theorem State.msix_setHead (s : State) (p : Nat) (h : Bool) : (s.setHead p h).msix = s.msix := rfl
@[simp] theorem State.shp_setHead (s : State) (p : Nat) (h : Bool) : (s.setHead p h).shp = s.shp := rfl
@[simp] theorem State.flt_setHead (s : State) (p : Nat) (h : Bool) : (s.setHead p h).flt = s.flt := rfl
@[simp] theorem State.drc_setHead (s : State) (p : Nat) (h : Bool) : (s.setHead p h).drc = s.drc := rfl
@[simp] theorem State.sau_setHead (s : State) (p : Nat) (h : Bool) : (s.setHead p h).sau = s.sau := rfl
@[simp] theorem State.tbl_setHead (s : State) (p : Nat) (h : Bool) : (s.setHead p h).tbl = s.tbl := rfl
@[simp] theorem State.prt_setHead (s : State) (p : Nat) (h : Bool) : (s.setHead p h).prt = s.prt := rfl
@[simp] theorem State.brg_setHead (s : State) (p : Nat) (h : Bool) : (s.setHead p h).brg = s.brg := rfl
@[simp] theorem State.sec_setHead (s : State) (p : Nat) (h : Bool) : (s.setHead p h).sec = s.sec := rfl
@[simp] theorem State.lcs_setHead (s : State) (p : Nat) (h : Bool) : (s.setHead p h).lcs = s.lcs := rfl
@[simp] theorem State.jtag_setHead (s : State) (p : Nat) (h : Bool) : (s.setHead p h).jtag = s.jtag := rfl
@[simp] theorem State.boot_setHead (s : State) (p : Nat) (h : Bool) : (s.setHead p h).boot = s.boot := rfl
@[simp] theorem State.pwr_setHead (s : State) (p : Nat) (h : Bool) : (s.setHead p h).pwr = s.pwr := rfl
@[simp] theorem State.uni_setHead (s : State) (p : Nat) (h : Bool) : (s.setHead p h).uni = s.uni := rfl
@[simp] theorem State.tnt_setHead (s : State) (p : Nat) (h : Bool) : (s.setHead p h).tnt = s.tnt := rfl
@[simp] theorem State.ful_setHead (s : State) (p : Nat) (h : Bool) : (s.setHead p h).ful = s.ful := rfl
@[simp] theorem State.shf_setHead (s : State) (p : Nat) (h : Bool) : (s.setHead p h).shf = s.shf := rfl
@[simp] theorem State.stb_setHead (s : State) (p : Nat) (h : Bool) : (s.setHead p h).stb = s.stb := rfl
@[simp] theorem State.free_setHead (s : State) (p : Nat) (h : Bool) : (s.setHead p h).free = s.free := rfl
@[simp] theorem State.once_setHead (s : State) (p : Nat) (h : Bool) : (s.setHead p h).once = s.once := rfl
@[simp] theorem State.reply_setHead (s : State) (p : Nat) (h : Bool) : (s.setHead p h).reply = s.reply := rfl
@[simp] theorem State.pending_setHead (s : State) (p : Nat) (h : Bool) : (s.setHead p h).pending = s.pending := rfl
@[simp] theorem State.reg_setHead (s : State) (p : Nat) (h : Bool) (r : Nat) : (s.setHead p h).reg r = s.reg r := rfl
@[simp] theorem State.counter_setHead (s : State) (p : Nat) (h : Bool) (r : Nat) : (s.setHead p h).counter r = s.counter r := rfl
@[simp] theorem State.readByte_setHead (s : State) (p : Nat) (h : Bool) (j : Nat) : (s.setHead p h).readByte j = s.readByte j := rfl
@[simp] theorem State.slot_setHead (s : State) (p : Nat) (h : Bool) (i : Nat) : (s.setHead p h).slot i = s.slot i := rfl
@[simp] theorem State.core_setHead (s : State) (p : Nat) (h : Bool) (i : Nat) : (s.setHead p h).core i = s.core i := rfl
@[simp] theorem State.thread_setHead (s : State) (p : Nat) (h : Bool) (i : Nat) : (s.setHead p h).thread i = s.thread i := rfl
@[simp] theorem State.tokens_setHead (s : State) (p : Nat) (h : Bool) (i : Nat) : (s.setHead p h).tokens i = s.tokens i := rfl
@[simp] theorem State.frame_setHead (s : State) (p : Nat) (h : Bool) (i : Nat) : (s.setHead p h).frame i = s.frame i := rfl
@[simp] theorem State.ch_setHead (s : State) (p : Nat) (h : Bool) (i : Nat) : (s.setHead p h).ch i = s.ch i := rfl

/-! #### `State.setOut` -/

@[simp] theorem State.regs_setOut (s : State) (n : Nat) (o : OutBarge) : (s.setOut n o).regs = s.regs := rfl
@[simp] theorem State.shadow_setOut (s : State) (n : Nat) (o : OutBarge) : (s.setOut n o).shadow = s.shadow := rfl
@[simp] theorem State.ctr_setOut (s : State) (n : Nat) (o : OutBarge) : (s.setOut n o).ctr = s.ctr := rfl
@[simp] theorem State.latch_setOut (s : State) (n : Nat) (o : OutBarge) : (s.setOut n o).latch = s.latch := rfl
@[simp] theorem State.mem_setOut (s : State) (n : Nat) (o : OutBarge) : (s.setOut n o).mem = s.mem := rfl
@[simp] theorem State.slots_setOut (s : State) (n : Nat) (o : OutBarge) : (s.setOut n o).slots = s.slots := rfl
@[simp] theorem State.cores_setOut (s : State) (n : Nat) (o : OutBarge) : (s.setOut n o).cores = s.cores := rfl
@[simp] theorem State.lk_setOut (s : State) (n : Nat) (o : OutBarge) : (s.setOut n o).lk = s.lk := rfl
@[simp] theorem State.tb_setOut (s : State) (n : Nat) (o : OutBarge) : (s.setOut n o).tb = s.tb := rfl
@[simp] theorem State.evr_setOut (s : State) (n : Nat) (o : OutBarge) : (s.setOut n o).evr = s.evr := rfl
@[simp] theorem State.msix_setOut (s : State) (n : Nat) (o : OutBarge) : (s.setOut n o).msix = s.msix := rfl
@[simp] theorem State.shp_setOut (s : State) (n : Nat) (o : OutBarge) : (s.setOut n o).shp = s.shp := rfl
@[simp] theorem State.flt_setOut (s : State) (n : Nat) (o : OutBarge) : (s.setOut n o).flt = s.flt := rfl
@[simp] theorem State.drc_setOut (s : State) (n : Nat) (o : OutBarge) : (s.setOut n o).drc = s.drc := rfl
@[simp] theorem State.sau_setOut (s : State) (n : Nat) (o : OutBarge) : (s.setOut n o).sau = s.sau := rfl
@[simp] theorem State.bsn_setOut (s : State) (n : Nat) (o : OutBarge) : (s.setOut n o).bsn = s.bsn := rfl
@[simp] theorem State.tbl_setOut (s : State) (n : Nat) (o : OutBarge) : (s.setOut n o).tbl = s.tbl := rfl
@[simp] theorem State.prt_setOut (s : State) (n : Nat) (o : OutBarge) : (s.setOut n o).prt = s.prt := rfl
@[simp] theorem State.sec_setOut (s : State) (n : Nat) (o : OutBarge) : (s.setOut n o).sec = s.sec := rfl
@[simp] theorem State.lcs_setOut (s : State) (n : Nat) (o : OutBarge) : (s.setOut n o).lcs = s.lcs := rfl
@[simp] theorem State.jtag_setOut (s : State) (n : Nat) (o : OutBarge) : (s.setOut n o).jtag = s.jtag := rfl
@[simp] theorem State.boot_setOut (s : State) (n : Nat) (o : OutBarge) : (s.setOut n o).boot = s.boot := rfl
@[simp] theorem State.pwr_setOut (s : State) (n : Nat) (o : OutBarge) : (s.setOut n o).pwr = s.pwr := rfl
@[simp] theorem State.uni_setOut (s : State) (n : Nat) (o : OutBarge) : (s.setOut n o).uni = s.uni := rfl
@[simp] theorem State.tnt_setOut (s : State) (n : Nat) (o : OutBarge) : (s.setOut n o).tnt = s.tnt := rfl
@[simp] theorem State.ful_setOut (s : State) (n : Nat) (o : OutBarge) : (s.setOut n o).ful = s.ful := rfl
@[simp] theorem State.shf_setOut (s : State) (n : Nat) (o : OutBarge) : (s.setOut n o).shf = s.shf := rfl
@[simp] theorem State.stb_setOut (s : State) (n : Nat) (o : OutBarge) : (s.setOut n o).stb = s.stb := rfl
@[simp] theorem State.free_setOut (s : State) (n : Nat) (o : OutBarge) : (s.setOut n o).free = s.free := rfl
@[simp] theorem State.once_setOut (s : State) (n : Nat) (o : OutBarge) : (s.setOut n o).once = s.once := rfl
@[simp] theorem State.reply_setOut (s : State) (n : Nat) (o : OutBarge) : (s.setOut n o).reply = s.reply := rfl
@[simp] theorem State.pending_setOut (s : State) (n : Nat) (o : OutBarge) : (s.setOut n o).pending = s.pending := rfl
@[simp] theorem State.reg_setOut (s : State) (n : Nat) (o : OutBarge) (r : Nat) : (s.setOut n o).reg r = s.reg r := rfl
@[simp] theorem State.counter_setOut (s : State) (n : Nat) (o : OutBarge) (r : Nat) : (s.setOut n o).counter r = s.counter r := rfl
@[simp] theorem State.readByte_setOut (s : State) (n : Nat) (o : OutBarge) (j : Nat) : (s.setOut n o).readByte j = s.readByte j := rfl
@[simp] theorem State.slot_setOut (s : State) (n : Nat) (o : OutBarge) (i : Nat) : (s.setOut n o).slot i = s.slot i := rfl
@[simp] theorem State.core_setOut (s : State) (n : Nat) (o : OutBarge) (i : Nat) : (s.setOut n o).core i = s.core i := rfl
@[simp] theorem State.thread_setOut (s : State) (n : Nat) (o : OutBarge) (i : Nat) : (s.setOut n o).thread i = s.thread i := rfl
@[simp] theorem State.tokens_setOut (s : State) (n : Nat) (o : OutBarge) (i : Nat) : (s.setOut n o).tokens i = s.tokens i := rfl
@[simp] theorem State.frame_setOut (s : State) (n : Nat) (o : OutBarge) (i : Nat) : (s.setOut n o).frame i = s.frame i := rfl
@[simp] theorem State.ch_setOut (s : State) (n : Nat) (o : OutBarge) (i : Nat) : (s.setOut n o).ch i = s.ch i := rfl

/-! #### `State.setStream` -/

@[simp] theorem State.regs_setStream (s : State) (n : Nat) (x : Stream) : (s.setStream n x).regs = s.regs := rfl
@[simp] theorem State.shadow_setStream (s : State) (n : Nat) (x : Stream) : (s.setStream n x).shadow = s.shadow := rfl
@[simp] theorem State.ctr_setStream (s : State) (n : Nat) (x : Stream) : (s.setStream n x).ctr = s.ctr := rfl
@[simp] theorem State.latch_setStream (s : State) (n : Nat) (x : Stream) : (s.setStream n x).latch = s.latch := rfl
@[simp] theorem State.mem_setStream (s : State) (n : Nat) (x : Stream) : (s.setStream n x).mem = s.mem := rfl
@[simp] theorem State.slots_setStream (s : State) (n : Nat) (x : Stream) : (s.setStream n x).slots = s.slots := rfl
@[simp] theorem State.cores_setStream (s : State) (n : Nat) (x : Stream) : (s.setStream n x).cores = s.cores := rfl
@[simp] theorem State.lk_setStream (s : State) (n : Nat) (x : Stream) : (s.setStream n x).lk = s.lk := rfl
@[simp] theorem State.tb_setStream (s : State) (n : Nat) (x : Stream) : (s.setStream n x).tb = s.tb := rfl
@[simp] theorem State.evr_setStream (s : State) (n : Nat) (x : Stream) : (s.setStream n x).evr = s.evr := rfl
@[simp] theorem State.msix_setStream (s : State) (n : Nat) (x : Stream) : (s.setStream n x).msix = s.msix := rfl
@[simp] theorem State.shp_setStream (s : State) (n : Nat) (x : Stream) : (s.setStream n x).shp = s.shp := rfl
@[simp] theorem State.flt_setStream (s : State) (n : Nat) (x : Stream) : (s.setStream n x).flt = s.flt := rfl
@[simp] theorem State.drc_setStream (s : State) (n : Nat) (x : Stream) : (s.setStream n x).drc = s.drc := rfl
@[simp] theorem State.sau_setStream (s : State) (n : Nat) (x : Stream) : (s.setStream n x).sau = s.sau := rfl
@[simp] theorem State.bsn_setStream (s : State) (n : Nat) (x : Stream) : (s.setStream n x).bsn = s.bsn := rfl
@[simp] theorem State.tbl_setStream (s : State) (n : Nat) (x : Stream) : (s.setStream n x).tbl = s.tbl := rfl
@[simp] theorem State.prt_setStream (s : State) (n : Nat) (x : Stream) : (s.setStream n x).prt = s.prt := rfl
@[simp] theorem State.brg_setStream (s : State) (n : Nat) (x : Stream) : (s.setStream n x).brg = s.brg := rfl
@[simp] theorem State.sec_setStream (s : State) (n : Nat) (x : Stream) : (s.setStream n x).sec = s.sec := rfl
@[simp] theorem State.lcs_setStream (s : State) (n : Nat) (x : Stream) : (s.setStream n x).lcs = s.lcs := rfl
@[simp] theorem State.jtag_setStream (s : State) (n : Nat) (x : Stream) : (s.setStream n x).jtag = s.jtag := rfl
@[simp] theorem State.boot_setStream (s : State) (n : Nat) (x : Stream) : (s.setStream n x).boot = s.boot := rfl
@[simp] theorem State.pwr_setStream (s : State) (n : Nat) (x : Stream) : (s.setStream n x).pwr = s.pwr := rfl
@[simp] theorem State.uni_setStream (s : State) (n : Nat) (x : Stream) : (s.setStream n x).uni = s.uni := rfl
@[simp] theorem State.tnt_setStream (s : State) (n : Nat) (x : Stream) : (s.setStream n x).tnt = s.tnt := rfl
@[simp] theorem State.shf_setStream (s : State) (n : Nat) (x : Stream) : (s.setStream n x).shf = s.shf := rfl
@[simp] theorem State.stb_setStream (s : State) (n : Nat) (x : Stream) : (s.setStream n x).stb = s.stb := rfl
@[simp] theorem State.free_setStream (s : State) (n : Nat) (x : Stream) : (s.setStream n x).free = s.free := rfl
@[simp] theorem State.once_setStream (s : State) (n : Nat) (x : Stream) : (s.setStream n x).once = s.once := rfl
@[simp] theorem State.reply_setStream (s : State) (n : Nat) (x : Stream) : (s.setStream n x).reply = s.reply := rfl
@[simp] theorem State.pending_setStream (s : State) (n : Nat) (x : Stream) : (s.setStream n x).pending = s.pending := rfl
@[simp] theorem State.reg_setStream (s : State) (n : Nat) (x : Stream) (r : Nat) : (s.setStream n x).reg r = s.reg r := rfl
@[simp] theorem State.counter_setStream (s : State) (n : Nat) (x : Stream) (r : Nat) : (s.setStream n x).counter r = s.counter r := rfl
@[simp] theorem State.readByte_setStream (s : State) (n : Nat) (x : Stream) (j : Nat) : (s.setStream n x).readByte j = s.readByte j := rfl
@[simp] theorem State.slot_setStream (s : State) (n : Nat) (x : Stream) (i : Nat) : (s.setStream n x).slot i = s.slot i := rfl
@[simp] theorem State.core_setStream (s : State) (n : Nat) (x : Stream) (i : Nat) : (s.setStream n x).core i = s.core i := rfl
@[simp] theorem State.thread_setStream (s : State) (n : Nat) (x : Stream) (i : Nat) : (s.setStream n x).thread i = s.thread i := rfl
@[simp] theorem State.tokens_setStream (s : State) (n : Nat) (x : Stream) (i : Nat) : (s.setStream n x).tokens i = s.tokens i := rfl
@[simp] theorem State.frame_setStream (s : State) (n : Nat) (x : Stream) (i : Nat) : (s.setStream n x).frame i = s.frame i := rfl
@[simp] theorem State.ch_setStream (s : State) (n : Nat) (x : Stream) (i : Nat) : (s.setStream n x).ch i = s.ch i := rfl

/-! #### `State.setStrobe` -/

@[simp] theorem State.regs_setStrobe (s : State) (n : Nat) (x : Strobe) : (s.setStrobe n x).regs = s.regs := rfl
@[simp] theorem State.shadow_setStrobe (s : State) (n : Nat) (x : Strobe) : (s.setStrobe n x).shadow = s.shadow := rfl
@[simp] theorem State.ctr_setStrobe (s : State) (n : Nat) (x : Strobe) : (s.setStrobe n x).ctr = s.ctr := rfl
@[simp] theorem State.latch_setStrobe (s : State) (n : Nat) (x : Strobe) : (s.setStrobe n x).latch = s.latch := rfl
@[simp] theorem State.mem_setStrobe (s : State) (n : Nat) (x : Strobe) : (s.setStrobe n x).mem = s.mem := rfl
@[simp] theorem State.slots_setStrobe (s : State) (n : Nat) (x : Strobe) : (s.setStrobe n x).slots = s.slots := rfl
@[simp] theorem State.cores_setStrobe (s : State) (n : Nat) (x : Strobe) : (s.setStrobe n x).cores = s.cores := rfl
@[simp] theorem State.lk_setStrobe (s : State) (n : Nat) (x : Strobe) : (s.setStrobe n x).lk = s.lk := rfl
@[simp] theorem State.tb_setStrobe (s : State) (n : Nat) (x : Strobe) : (s.setStrobe n x).tb = s.tb := rfl
@[simp] theorem State.evr_setStrobe (s : State) (n : Nat) (x : Strobe) : (s.setStrobe n x).evr = s.evr := rfl
@[simp] theorem State.msix_setStrobe (s : State) (n : Nat) (x : Strobe) : (s.setStrobe n x).msix = s.msix := rfl
@[simp] theorem State.shp_setStrobe (s : State) (n : Nat) (x : Strobe) : (s.setStrobe n x).shp = s.shp := rfl
@[simp] theorem State.flt_setStrobe (s : State) (n : Nat) (x : Strobe) : (s.setStrobe n x).flt = s.flt := rfl
@[simp] theorem State.drc_setStrobe (s : State) (n : Nat) (x : Strobe) : (s.setStrobe n x).drc = s.drc := rfl
@[simp] theorem State.sau_setStrobe (s : State) (n : Nat) (x : Strobe) : (s.setStrobe n x).sau = s.sau := rfl
@[simp] theorem State.bsn_setStrobe (s : State) (n : Nat) (x : Strobe) : (s.setStrobe n x).bsn = s.bsn := rfl
@[simp] theorem State.tbl_setStrobe (s : State) (n : Nat) (x : Strobe) : (s.setStrobe n x).tbl = s.tbl := rfl
@[simp] theorem State.prt_setStrobe (s : State) (n : Nat) (x : Strobe) : (s.setStrobe n x).prt = s.prt := rfl
@[simp] theorem State.brg_setStrobe (s : State) (n : Nat) (x : Strobe) : (s.setStrobe n x).brg = s.brg := rfl
@[simp] theorem State.sec_setStrobe (s : State) (n : Nat) (x : Strobe) : (s.setStrobe n x).sec = s.sec := rfl
@[simp] theorem State.lcs_setStrobe (s : State) (n : Nat) (x : Strobe) : (s.setStrobe n x).lcs = s.lcs := rfl
@[simp] theorem State.jtag_setStrobe (s : State) (n : Nat) (x : Strobe) : (s.setStrobe n x).jtag = s.jtag := rfl
@[simp] theorem State.boot_setStrobe (s : State) (n : Nat) (x : Strobe) : (s.setStrobe n x).boot = s.boot := rfl
@[simp] theorem State.pwr_setStrobe (s : State) (n : Nat) (x : Strobe) : (s.setStrobe n x).pwr = s.pwr := rfl
@[simp] theorem State.uni_setStrobe (s : State) (n : Nat) (x : Strobe) : (s.setStrobe n x).uni = s.uni := rfl
@[simp] theorem State.tnt_setStrobe (s : State) (n : Nat) (x : Strobe) : (s.setStrobe n x).tnt = s.tnt := rfl
@[simp] theorem State.ful_setStrobe (s : State) (n : Nat) (x : Strobe) : (s.setStrobe n x).ful = s.ful := rfl
@[simp] theorem State.shf_setStrobe (s : State) (n : Nat) (x : Strobe) : (s.setStrobe n x).shf = s.shf := rfl
@[simp] theorem State.free_setStrobe (s : State) (n : Nat) (x : Strobe) : (s.setStrobe n x).free = s.free := rfl
@[simp] theorem State.once_setStrobe (s : State) (n : Nat) (x : Strobe) : (s.setStrobe n x).once = s.once := rfl
@[simp] theorem State.reply_setStrobe (s : State) (n : Nat) (x : Strobe) : (s.setStrobe n x).reply = s.reply := rfl
@[simp] theorem State.pending_setStrobe (s : State) (n : Nat) (x : Strobe) : (s.setStrobe n x).pending = s.pending := rfl
@[simp] theorem State.reg_setStrobe (s : State) (n : Nat) (x : Strobe) (r : Nat) : (s.setStrobe n x).reg r = s.reg r := rfl
@[simp] theorem State.counter_setStrobe (s : State) (n : Nat) (x : Strobe) (r : Nat) : (s.setStrobe n x).counter r = s.counter r := rfl
@[simp] theorem State.readByte_setStrobe (s : State) (n : Nat) (x : Strobe) (j : Nat) : (s.setStrobe n x).readByte j = s.readByte j := rfl
@[simp] theorem State.slot_setStrobe (s : State) (n : Nat) (x : Strobe) (i : Nat) : (s.setStrobe n x).slot i = s.slot i := rfl
@[simp] theorem State.core_setStrobe (s : State) (n : Nat) (x : Strobe) (i : Nat) : (s.setStrobe n x).core i = s.core i := rfl
@[simp] theorem State.thread_setStrobe (s : State) (n : Nat) (x : Strobe) (i : Nat) : (s.setStrobe n x).thread i = s.thread i := rfl
@[simp] theorem State.tokens_setStrobe (s : State) (n : Nat) (x : Strobe) (i : Nat) : (s.setStrobe n x).tokens i = s.tokens i := rfl
@[simp] theorem State.frame_setStrobe (s : State) (n : Nat) (x : Strobe) (i : Nat) : (s.setStrobe n x).frame i = s.frame i := rfl
@[simp] theorem State.ch_setStrobe (s : State) (n : Nat) (x : Strobe) (i : Nat) : (s.setStrobe n x).ch i = s.ch i := rfl

/-! #### `State.setChan` -/

@[simp] theorem State.regs_setChan (s : State) (n : Nat) (x : ShfChan) : (s.setChan n x).regs = s.regs := rfl
@[simp] theorem State.shadow_setChan (s : State) (n : Nat) (x : ShfChan) : (s.setChan n x).shadow = s.shadow := rfl
@[simp] theorem State.ctr_setChan (s : State) (n : Nat) (x : ShfChan) : (s.setChan n x).ctr = s.ctr := rfl
@[simp] theorem State.latch_setChan (s : State) (n : Nat) (x : ShfChan) : (s.setChan n x).latch = s.latch := rfl
@[simp] theorem State.mem_setChan (s : State) (n : Nat) (x : ShfChan) : (s.setChan n x).mem = s.mem := rfl
@[simp] theorem State.slots_setChan (s : State) (n : Nat) (x : ShfChan) : (s.setChan n x).slots = s.slots := rfl
@[simp] theorem State.cores_setChan (s : State) (n : Nat) (x : ShfChan) : (s.setChan n x).cores = s.cores := rfl
@[simp] theorem State.lk_setChan (s : State) (n : Nat) (x : ShfChan) : (s.setChan n x).lk = s.lk := rfl
@[simp] theorem State.tb_setChan (s : State) (n : Nat) (x : ShfChan) : (s.setChan n x).tb = s.tb := rfl
@[simp] theorem State.evr_setChan (s : State) (n : Nat) (x : ShfChan) : (s.setChan n x).evr = s.evr := rfl
@[simp] theorem State.msix_setChan (s : State) (n : Nat) (x : ShfChan) : (s.setChan n x).msix = s.msix := rfl
@[simp] theorem State.shp_setChan (s : State) (n : Nat) (x : ShfChan) : (s.setChan n x).shp = s.shp := rfl
@[simp] theorem State.flt_setChan (s : State) (n : Nat) (x : ShfChan) : (s.setChan n x).flt = s.flt := rfl
@[simp] theorem State.drc_setChan (s : State) (n : Nat) (x : ShfChan) : (s.setChan n x).drc = s.drc := rfl
@[simp] theorem State.sau_setChan (s : State) (n : Nat) (x : ShfChan) : (s.setChan n x).sau = s.sau := rfl
@[simp] theorem State.bsn_setChan (s : State) (n : Nat) (x : ShfChan) : (s.setChan n x).bsn = s.bsn := rfl
@[simp] theorem State.tbl_setChan (s : State) (n : Nat) (x : ShfChan) : (s.setChan n x).tbl = s.tbl := rfl
@[simp] theorem State.prt_setChan (s : State) (n : Nat) (x : ShfChan) : (s.setChan n x).prt = s.prt := rfl
@[simp] theorem State.brg_setChan (s : State) (n : Nat) (x : ShfChan) : (s.setChan n x).brg = s.brg := rfl
@[simp] theorem State.sec_setChan (s : State) (n : Nat) (x : ShfChan) : (s.setChan n x).sec = s.sec := rfl
@[simp] theorem State.lcs_setChan (s : State) (n : Nat) (x : ShfChan) : (s.setChan n x).lcs = s.lcs := rfl
@[simp] theorem State.jtag_setChan (s : State) (n : Nat) (x : ShfChan) : (s.setChan n x).jtag = s.jtag := rfl
@[simp] theorem State.boot_setChan (s : State) (n : Nat) (x : ShfChan) : (s.setChan n x).boot = s.boot := rfl
@[simp] theorem State.pwr_setChan (s : State) (n : Nat) (x : ShfChan) : (s.setChan n x).pwr = s.pwr := rfl
@[simp] theorem State.uni_setChan (s : State) (n : Nat) (x : ShfChan) : (s.setChan n x).uni = s.uni := rfl
@[simp] theorem State.tnt_setChan (s : State) (n : Nat) (x : ShfChan) : (s.setChan n x).tnt = s.tnt := rfl
@[simp] theorem State.ful_setChan (s : State) (n : Nat) (x : ShfChan) : (s.setChan n x).ful = s.ful := rfl
@[simp] theorem State.stb_setChan (s : State) (n : Nat) (x : ShfChan) : (s.setChan n x).stb = s.stb := rfl
@[simp] theorem State.free_setChan (s : State) (n : Nat) (x : ShfChan) : (s.setChan n x).free = s.free := rfl
@[simp] theorem State.once_setChan (s : State) (n : Nat) (x : ShfChan) : (s.setChan n x).once = s.once := rfl
@[simp] theorem State.reply_setChan (s : State) (n : Nat) (x : ShfChan) : (s.setChan n x).reply = s.reply := rfl
@[simp] theorem State.pending_setChan (s : State) (n : Nat) (x : ShfChan) : (s.setChan n x).pending = s.pending := rfl
@[simp] theorem State.reg_setChan (s : State) (n : Nat) (x : ShfChan) (r : Nat) : (s.setChan n x).reg r = s.reg r := rfl
@[simp] theorem State.counter_setChan (s : State) (n : Nat) (x : ShfChan) (r : Nat) : (s.setChan n x).counter r = s.counter r := rfl
@[simp] theorem State.readByte_setChan (s : State) (n : Nat) (x : ShfChan) (j : Nat) : (s.setChan n x).readByte j = s.readByte j := rfl
@[simp] theorem State.slot_setChan (s : State) (n : Nat) (x : ShfChan) (i : Nat) : (s.setChan n x).slot i = s.slot i := rfl
@[simp] theorem State.core_setChan (s : State) (n : Nat) (x : ShfChan) (i : Nat) : (s.setChan n x).core i = s.core i := rfl
@[simp] theorem State.thread_setChan (s : State) (n : Nat) (x : ShfChan) (i : Nat) : (s.setChan n x).thread i = s.thread i := rfl
@[simp] theorem State.tokens_setChan (s : State) (n : Nat) (x : ShfChan) (i : Nat) : (s.setChan n x).tokens i = s.tokens i := rfl
@[simp] theorem State.frame_setChan (s : State) (n : Nat) (x : ShfChan) (i : Nat) : (s.setChan n x).frame i = s.frame i := rfl
@[simp] theorem State.ch_setChan (s : State) (n : Nat) (x : ShfChan) (i : Nat) : (s.setChan n x).ch i = s.ch i := rfl

end Sys2Proof.Machine
end

