-- ==== Sys2Proof/Laws/Events.lean ====
section
/-! SUPPORT. What raising an event, posting a token, matching and logging a refused access can change: only registers,
counters, the lockkeeper, the event router's state, the MSI-X state and the once-a-cycle record; and of the registers only
pending bits and counts of EVR and, for a refusal, the host-error log. -/

namespace Sys2Proof.Machine

/-- `t` differs from `s` at most in what events touch. -/
def EventFrame (s t : State) : Prop :=
  t = { s with regs := t.regs, ctr := t.ctr, lk := t.lk, evr := t.evr, msix := t.msix, once := t.once }

theorem EventFrame.refl (s : State) : EventFrame s s := rfl

theorem EventFrame.trans {s t u : State} (h : EventFrame s t) (k : EventFrame t u) : EventFrame s u := by
  unfold EventFrame at *
  rw [h] at k
  exact k


theorem EventFrame.shadow {s t : State} (h : EventFrame s t) : t.shadow = s.shadow := by rw [h]
theorem EventFrame.latch {s t : State} (h : EventFrame s t) : t.latch = s.latch := by rw [h]
theorem EventFrame.mem {s t : State} (h : EventFrame s t) : t.mem = s.mem := by rw [h]
theorem EventFrame.slots {s t : State} (h : EventFrame s t) : t.slots = s.slots := by rw [h]
theorem EventFrame.cores {s t : State} (h : EventFrame s t) : t.cores = s.cores := by rw [h]
theorem EventFrame.tb {s t : State} (h : EventFrame s t) : t.tb = s.tb := by rw [h]
theorem EventFrame.shp {s t : State} (h : EventFrame s t) : t.shp = s.shp := by rw [h]
theorem EventFrame.flt {s t : State} (h : EventFrame s t) : t.flt = s.flt := by rw [h]
theorem EventFrame.drc {s t : State} (h : EventFrame s t) : t.drc = s.drc := by rw [h]
theorem EventFrame.sau {s t : State} (h : EventFrame s t) : t.sau = s.sau := by rw [h]
theorem EventFrame.bsn {s t : State} (h : EventFrame s t) : t.bsn = s.bsn := by rw [h]
theorem EventFrame.tbl {s t : State} (h : EventFrame s t) : t.tbl = s.tbl := by rw [h]
theorem EventFrame.prt {s t : State} (h : EventFrame s t) : t.prt = s.prt := by rw [h]
theorem EventFrame.brg {s t : State} (h : EventFrame s t) : t.brg = s.brg := by rw [h]
theorem EventFrame.sec {s t : State} (h : EventFrame s t) : t.sec = s.sec := by rw [h]
theorem EventFrame.lcs {s t : State} (h : EventFrame s t) : t.lcs = s.lcs := by rw [h]
theorem EventFrame.jtag {s t : State} (h : EventFrame s t) : t.jtag = s.jtag := by rw [h]
theorem EventFrame.boot {s t : State} (h : EventFrame s t) : t.boot = s.boot := by rw [h]
theorem EventFrame.pwr {s t : State} (h : EventFrame s t) : t.pwr = s.pwr := by rw [h]
theorem EventFrame.uni {s t : State} (h : EventFrame s t) : t.uni = s.uni := by rw [h]
theorem EventFrame.tnt {s t : State} (h : EventFrame s t) : t.tnt = s.tnt := by rw [h]
theorem EventFrame.ful {s t : State} (h : EventFrame s t) : t.ful = s.ful := by rw [h]
theorem EventFrame.shf {s t : State} (h : EventFrame s t) : t.shf = s.shf := by rw [h]
theorem EventFrame.stb {s t : State} (h : EventFrame s t) : t.stb = s.stb := by rw [h]
theorem EventFrame.free {s t : State} (h : EventFrame s t) : t.free = s.free := by rw [h]
theorem EventFrame.reply {s t : State} (h : EventFrame s t) : t.reply = s.reply := by rw [h]
theorem EventFrame.pending {s t : State} (h : EventFrame s t) : t.pending = s.pending := by rw [h]

theorem EventFrame.setReg (s : State) (a : Nat) (v : W32) : EventFrame s (s.setReg a v) := rfl
theorem EventFrame.countBy (s : State) (a n : Nat) : EventFrame s (s.countBy a n) := rfl
theorem EventFrame.count (s : State) (a : Nat) : EventFrame s (s.count a) := rfl

theorem frame_matchThread (s : State) (n : Nat) (ks : List Token) (m : SMap (List Token)) :
    EventFrame s (s.matchThread n ks m) := rfl

theorem frame_matchLoop (k : Nat) : ∀ s : State, EventFrame s (matchLoop k s) := by
  induction k with
  | zero => intro s; exact EventFrame.refl s
  | succ k ih =>
    intro s
    unfold matchLoop
    split
    · exact EventFrame.refl s
    · split
      · exact EventFrame.refl s
      · exact (frame_matchThread s _ _ _).trans (ih _)

theorem frame_matching (s : State) : EventFrame s s.matching := frame_matchLoop _ s

theorem frame_enqueue (s : State) (t : Nat) (k : Token) : EventFrame s (s.enqueue t k) :=
  EventFrame.trans (t := s.setTokens t (s.tokens t ++ [k])) rfl (frame_matching _)

theorem frame_sendMsix (s : State) (v : Nat) : EventFrame s (s.sendMsix v) := by
  have h : ∀ b : Bool, EventFrame s (if b = true then s.count 0x120E18
      else if (s.tnt.busMaster && s.msix.enable && !s.msix.fmask && SMap.get (fun _ => false) s.msix.unmasked v) = true then
        { s with msix := { s.msix with sent := s.msix.sent ++ [v] } }
      else { s with msix := { s.msix with pend := SMap.set (fun _ => false) s.msix.pend v true } }) := by
    intro b
    split
    · rfl
    · split <;> rfl
  exact h _

theorem frame_postQuiet (s : State) (t : Nat) (v : W32) (st : Status) : EventFrame s (s.postQuiet t v st).2 := by
  unfold State.postQuiet
  split
  · exact EventFrame.refl s
  · split
    · exact EventFrame.count s _
    · exact frame_enqueue s _ _

theorem frame_deliverToken (s : State) (e t : Nat) : EventFrame s (s.deliverToken e t) := by
  have hp := frame_postQuiet s t (s.eventValue e) .ok
  unfold State.deliverToken
  split
  · exact EventFrame.refl s
  · split <;> rename_i h <;> rw [h] at hp
    · exact hp.trans rfl
    · exact hp.trans rfl

theorem frame_deliverPin (s : State) (p : Nat) : EventFrame s (s.deliverPin p) := by
  unfold State.deliverPin
  simp only
  split <;> rfl

theorem frame_deliver (s : State) (e : Nat) : EventFrame s (s.deliver e) := by
  have h0 : EventFrame s { s with evr := { s.evr with delivered := s.evr.delivered ++ [e] } } := rfl
  unfold State.deliver
  simp only
  split
  · exact h0.trans (frame_deliverToken _ _ _)
  · exact h0.trans ((frame_sendMsix _ _).trans rfl)
  · exact h0.trans (frame_deliverToken _ _ _)
  · exact h0.trans (frame_deliverPin _ _)
  · exact h0

theorem recordRaise_eq (s : State) (e : Nat) : s.recordRaise e =
    ((s.setReg (A.evrPend (e / 32)) (setBit (s.reg (A.evrPend (e / 32))) (e % 32) true)).setReg (A.evrCount e)
      (setBits (s.reg (A.evrCount e)) 15 0 (min 0xFFFF (s.fld (A.evrCount e) 15 0 + 1)))).count 0x120E00 := by
  unfold State.recordRaise
  rfl

theorem frame_raiseOne (s : State) (e : Nat) : EventFrame s (s.raiseOne e) := by
  have h0 : EventFrame s (s.recordRaise e) := by
    rw [recordRaise_eq]
    exact ((EventFrame.setReg s _ _).trans (EventFrame.setReg _ _ _)).trans (EventFrame.count _ _)
  unfold State.raiseOne
  simp only
  split
  · exact h0.trans (frame_deliver _ _)
  · exact h0

theorem frame_raiseMirror (s : State) (e : Nat) : EventFrame s (s.raiseMirror e) := by
  unfold State.raiseMirror
  simp only
  split
  · exact (frame_raiseOne s e).trans (EventFrame.trans (t := (s.raiseOne e).setReg A.evrSecnote
      (setBit ((s.raiseOne e).reg A.evrSecnote) (e - 720) true)) rfl (frame_raiseOne _ 764))
  · exact frame_raiseOne s e

theorem frame_raiseFirst0 (s : State) (e : Nat) : EventFrame s (s.raiseFirst0 e) := by
  unfold State.raiseFirst0
  split
  · exact EventFrame.refl s
  · exact EventFrame.trans (t := { s with once := s.once ++ [e] }) rfl (frame_raiseMirror _ e)

theorem frame_tokenWatch (s : State) (b : W64) : EventFrame s (s.tokenWatch b) := by
  unfold State.tokenWatch
  simp only
  split <;> split
  · exact (frame_raiseFirst0 s 384).trans (frame_raiseFirst0 _ 385)
  · exact frame_raiseFirst0 s 384
  · exact frame_raiseFirst0 s 385
  · exact EventFrame.refl s

theorem frame_raise (s : State) (e : Nat) : EventFrame s (s.raise e) :=
  (frame_raiseMirror s e).trans (frame_tokenWatch _ _)

theorem frame_raiseFirst (s : State) (e : Nat) : EventFrame s (s.raiseFirst e) := by
  unfold State.raiseFirst
  split
  · exact EventFrame.refl s
  · exact EventFrame.trans (t := { s with once := s.once ++ [e] }) rfl (frame_raise _ e)

theorem frame_post (s : State) (t : Nat) (v : W32) (st : Status) : EventFrame s (s.post t v st).2 :=
  (frame_postQuiet s t v st).trans (frame_tokenWatch _ _)

theorem frame_unreserve (s : State) (t : Nat) : EventFrame s (s.unreserve t) := by
  unfold State.unreserve
  split <;> rfl

theorem frame_postReserved (s : State) (t : Nat) (v : W32) (st : Status) : EventFrame s (s.postReserved t v st) :=
  ((frame_unreserve s t).trans (frame_enqueue _ _ _)).trans (frame_tokenWatch _ _)

theorem frame_postArrival (s : State) (p k : Nat) : EventFrame s (s.postArrival p k).2 := by
  unfold State.postArrival
  simp only
  split
  · exact EventFrame.trans (t := s.count 0x70110) rfl (frame_tokenWatch _ _)
  · exact (frame_enqueue s _ _).trans (frame_tokenWatch _ _)

theorem frame_logHost (s : State) (o : Nat) (st : Status) (b w : Bool) (ag : Agent) :
    EventFrame s (s.logHost o st b w ag) := by
  unfold State.logHost
  simp only
  split
  · exact EventFrame.trans (t := s.setReg A.tntHerr1 _) rfl (frame_raiseFirst _ _)
  · exact EventFrame.trans (t := (s.setReg A.tntHerr0 _).setReg A.tntHerr1 _) rfl (frame_raiseFirst _ _)

/-! #### `State.matching` -/

@[simp] theorem State.shadow_matching (s : State) : s.matching.shadow = s.shadow := (frame_matching s).shadow
@[simp] theorem State.latch_matching (s : State) : s.matching.latch = s.latch := (frame_matching s).latch
@[simp] theorem State.mem_matching (s : State) : s.matching.mem = s.mem := (frame_matching s).mem
@[simp] theorem State.slots_matching (s : State) : s.matching.slots = s.slots := (frame_matching s).slots
@[simp] theorem State.cores_matching (s : State) : s.matching.cores = s.cores := (frame_matching s).cores
@[simp] theorem State.tb_matching (s : State) : s.matching.tb = s.tb := (frame_matching s).tb
@[simp] theorem State.shp_matching (s : State) : s.matching.shp = s.shp := (frame_matching s).shp
@[simp] theorem State.flt_matching (s : State) : s.matching.flt = s.flt := (frame_matching s).flt
@[simp] theorem State.drc_matching (s : State) : s.matching.drc = s.drc := (frame_matching s).drc
@[simp] theorem State.sau_matching (s : State) : s.matching.sau = s.sau := (frame_matching s).sau
@[simp] theorem State.bsn_matching (s : State) : s.matching.bsn = s.bsn := (frame_matching s).bsn
@[simp] theorem State.tbl_matching (s : State) : s.matching.tbl = s.tbl := (frame_matching s).tbl
@[simp] theorem State.prt_matching (s : State) : s.matching.prt = s.prt := (frame_matching s).prt
@[simp] theorem State.brg_matching (s : State) : s.matching.brg = s.brg := (frame_matching s).brg
@[simp] theorem State.sec_matching (s : State) : s.matching.sec = s.sec := (frame_matching s).sec
@[simp] theorem State.lcs_matching (s : State) : s.matching.lcs = s.lcs := (frame_matching s).lcs
@[simp] theorem State.jtag_matching (s : State) : s.matching.jtag = s.jtag := (frame_matching s).jtag
@[simp] theorem State.boot_matching (s : State) : s.matching.boot = s.boot := (frame_matching s).boot
@[simp] theorem State.pwr_matching (s : State) : s.matching.pwr = s.pwr := (frame_matching s).pwr
@[simp] theorem State.uni_matching (s : State) : s.matching.uni = s.uni := (frame_matching s).uni
@[simp] theorem State.tnt_matching (s : State) : s.matching.tnt = s.tnt := (frame_matching s).tnt
@[simp] theorem State.ful_matching (s : State) : s.matching.ful = s.ful := (frame_matching s).ful
@[simp] theorem State.shf_matching (s : State) : s.matching.shf = s.shf := (frame_matching s).shf
@[simp] theorem State.stb_matching (s : State) : s.matching.stb = s.stb := (frame_matching s).stb
@[simp] theorem State.free_matching (s : State) : s.matching.free = s.free := (frame_matching s).free
@[simp] theorem State.reply_matching (s : State) : s.matching.reply = s.reply := (frame_matching s).reply
@[simp] theorem State.pending_matching (s : State) : s.matching.pending = s.pending := (frame_matching s).pending

/-! #### `State.enqueue` -/

@[simp] theorem State.shadow_enqueue (s : State) (t : Nat) (k : Token) : (s.enqueue t k).shadow = s.shadow := (frame_enqueue s t k).shadow
@[simp] theorem State.latch_enqueue (s : State) (t : Nat) (k : Token) : (s.enqueue t k).latch = s.latch := (frame_enqueue s t k).latch
@[simp] theorem State.mem_enqueue (s : State) (t : Nat) (k : Token) : (s.enqueue t k).mem = s.mem := (frame_enqueue s t k).mem
@[simp] theorem State.slots_enqueue (s : State) (t : Nat) (k : Token) : (s.enqueue t k).slots = s.slots := (frame_enqueue s t k).slots
@[simp] theorem State.cores_enqueue (s : State) (t : Nat) (k : Token) : (s.enqueue t k).cores = s.cores := (frame_enqueue s t k).cores
@[simp] theorem State.tb_enqueue (s : State) (t : Nat) (k : Token) : (s.enqueue t k).tb = s.tb := (frame_enqueue s t k).tb
@[simp] theorem State.shp_enqueue (s : State) (t : Nat) (k : Token) : (s.enqueue t k).shp = s.shp := (frame_enqueue s t k).shp
@[simp] theorem State.flt_enqueue (s : State) (t : Nat) (k : Token) : (s.enqueue t k).flt = s.flt := (frame_enqueue s t k).flt
@[simp] theorem State.drc_enqueue (s : State) (t : Nat) (k : Token) : (s.enqueue t k).drc = s.drc := (frame_enqueue s t k).drc
@[simp] theorem State.sau_enqueue (s : State) (t : Nat) (k : Token) : (s.enqueue t k).sau = s.sau := (frame_enqueue s t k).sau
@[simp] theorem State.bsn_enqueue (s : State) (t : Nat) (k : Token) : (s.enqueue t k).bsn = s.bsn := (frame_enqueue s t k).bsn
@[simp] theorem State.tbl_enqueue (s : State) (t : Nat) (k : Token) : (s.enqueue t k).tbl = s.tbl := (frame_enqueue s t k).tbl
@[simp] theorem State.prt_enqueue (s : State) (t : Nat) (k : Token) : (s.enqueue t k).prt = s.prt := (frame_enqueue s t k).prt
@[simp] theorem State.brg_enqueue (s : State) (t : Nat) (k : Token) : (s.enqueue t k).brg = s.brg := (frame_enqueue s t k).brg
@[simp] theorem State.sec_enqueue (s : State) (t : Nat) (k : Token) : (s.enqueue t k).sec = s.sec := (frame_enqueue s t k).sec
@[simp] theorem State.lcs_enqueue (s : State) (t : Nat) (k : Token) : (s.enqueue t k).lcs = s.lcs := (frame_enqueue s t k).lcs
@[simp] theorem State.jtag_enqueue (s : State) (t : Nat) (k : Token) : (s.enqueue t k).jtag = s.jtag := (frame_enqueue s t k).jtag
@[simp] theorem State.boot_enqueue (s : State) (t : Nat) (k : Token) : (s.enqueue t k).boot = s.boot := (frame_enqueue s t k).boot
@[simp] theorem State.pwr_enqueue (s : State) (t : Nat) (k : Token) : (s.enqueue t k).pwr = s.pwr := (frame_enqueue s t k).pwr
@[simp] theorem State.uni_enqueue (s : State) (t : Nat) (k : Token) : (s.enqueue t k).uni = s.uni := (frame_enqueue s t k).uni
@[simp] theorem State.tnt_enqueue (s : State) (t : Nat) (k : Token) : (s.enqueue t k).tnt = s.tnt := (frame_enqueue s t k).tnt
@[simp] theorem State.ful_enqueue (s : State) (t : Nat) (k : Token) : (s.enqueue t k).ful = s.ful := (frame_enqueue s t k).ful
@[simp] theorem State.shf_enqueue (s : State) (t : Nat) (k : Token) : (s.enqueue t k).shf = s.shf := (frame_enqueue s t k).shf
@[simp] theorem State.stb_enqueue (s : State) (t : Nat) (k : Token) : (s.enqueue t k).stb = s.stb := (frame_enqueue s t k).stb
@[simp] theorem State.free_enqueue (s : State) (t : Nat) (k : Token) : (s.enqueue t k).free = s.free := (frame_enqueue s t k).free
@[simp] theorem State.reply_enqueue (s : State) (t : Nat) (k : Token) : (s.enqueue t k).reply = s.reply := (frame_enqueue s t k).reply
@[simp] theorem State.pending_enqueue (s : State) (t : Nat) (k : Token) : (s.enqueue t k).pending = s.pending := (frame_enqueue s t k).pending

/-! #### `State.sendMsix` -/

@[simp] theorem State.shadow_sendMsix (s : State) (v : Nat) : (s.sendMsix v).shadow = s.shadow := (frame_sendMsix s v).shadow
@[simp] theorem State.latch_sendMsix (s : State) (v : Nat) : (s.sendMsix v).latch = s.latch := (frame_sendMsix s v).latch
@[simp] theorem State.mem_sendMsix (s : State) (v : Nat) : (s.sendMsix v).mem = s.mem := (frame_sendMsix s v).mem
@[simp] theorem State.slots_sendMsix (s : State) (v : Nat) : (s.sendMsix v).slots = s.slots := (frame_sendMsix s v).slots
@[simp] theorem State.cores_sendMsix (s : State) (v : Nat) : (s.sendMsix v).cores = s.cores := (frame_sendMsix s v).cores
@[simp] theorem State.tb_sendMsix (s : State) (v : Nat) : (s.sendMsix v).tb = s.tb := (frame_sendMsix s v).tb
@[simp] theorem State.shp_sendMsix (s : State) (v : Nat) : (s.sendMsix v).shp = s.shp := (frame_sendMsix s v).shp
@[simp] theorem State.flt_sendMsix (s : State) (v : Nat) : (s.sendMsix v).flt = s.flt := (frame_sendMsix s v).flt
@[simp] theorem State.drc_sendMsix (s : State) (v : Nat) : (s.sendMsix v).drc = s.drc := (frame_sendMsix s v).drc
@[simp] theorem State.sau_sendMsix (s : State) (v : Nat) : (s.sendMsix v).sau = s.sau := (frame_sendMsix s v).sau
@[simp] theorem State.bsn_sendMsix (s : State) (v : Nat) : (s.sendMsix v).bsn = s.bsn := (frame_sendMsix s v).bsn
@[simp] theorem State.tbl_sendMsix (s : State) (v : Nat) : (s.sendMsix v).tbl = s.tbl := (frame_sendMsix s v).tbl
@[simp] theorem State.prt_sendMsix (s : State) (v : Nat) : (s.sendMsix v).prt = s.prt := (frame_sendMsix s v).prt
@[simp] theorem State.brg_sendMsix (s : State) (v : Nat) : (s.sendMsix v).brg = s.brg := (frame_sendMsix s v).brg
@[simp] theorem State.sec_sendMsix (s : State) (v : Nat) : (s.sendMsix v).sec = s.sec := (frame_sendMsix s v).sec
@[simp] theorem State.lcs_sendMsix (s : State) (v : Nat) : (s.sendMsix v).lcs = s.lcs := (frame_sendMsix s v).lcs
@[simp] theorem State.jtag_sendMsix (s : State) (v : Nat) : (s.sendMsix v).jtag = s.jtag := (frame_sendMsix s v).jtag
@[simp] theorem State.boot_sendMsix (s : State) (v : Nat) : (s.sendMsix v).boot = s.boot := (frame_sendMsix s v).boot
@[simp] theorem State.pwr_sendMsix (s : State) (v : Nat) : (s.sendMsix v).pwr = s.pwr := (frame_sendMsix s v).pwr
@[simp] theorem State.uni_sendMsix (s : State) (v : Nat) : (s.sendMsix v).uni = s.uni := (frame_sendMsix s v).uni
@[simp] theorem State.tnt_sendMsix (s : State) (v : Nat) : (s.sendMsix v).tnt = s.tnt := (frame_sendMsix s v).tnt
@[simp] theorem State.ful_sendMsix (s : State) (v : Nat) : (s.sendMsix v).ful = s.ful := (frame_sendMsix s v).ful
@[simp] theorem State.shf_sendMsix (s : State) (v : Nat) : (s.sendMsix v).shf = s.shf := (frame_sendMsix s v).shf
@[simp] theorem State.stb_sendMsix (s : State) (v : Nat) : (s.sendMsix v).stb = s.stb := (frame_sendMsix s v).stb
@[simp] theorem State.free_sendMsix (s : State) (v : Nat) : (s.sendMsix v).free = s.free := (frame_sendMsix s v).free
@[simp] theorem State.reply_sendMsix (s : State) (v : Nat) : (s.sendMsix v).reply = s.reply := (frame_sendMsix s v).reply
@[simp] theorem State.pending_sendMsix (s : State) (v : Nat) : (s.sendMsix v).pending = s.pending := (frame_sendMsix s v).pending

/-! #### `State.deliver` -/

@[simp] theorem State.shadow_deliver (s : State) (e : Nat) : (s.deliver e).shadow = s.shadow := (frame_deliver s e).shadow
@[simp] theorem State.latch_deliver (s : State) (e : Nat) : (s.deliver e).latch = s.latch := (frame_deliver s e).latch
@[simp] theorem State.mem_deliver (s : State) (e : Nat) : (s.deliver e).mem = s.mem := (frame_deliver s e).mem
@[simp] theorem State.slots_deliver (s : State) (e : Nat) : (s.deliver e).slots = s.slots := (frame_deliver s e).slots
@[simp] theorem State.cores_deliver (s : State) (e : Nat) : (s.deliver e).cores = s.cores := (frame_deliver s e).cores
@[simp] theorem State.tb_deliver (s : State) (e : Nat) : (s.deliver e).tb = s.tb := (frame_deliver s e).tb
@[simp] theorem State.shp_deliver (s : State) (e : Nat) : (s.deliver e).shp = s.shp := (frame_deliver s e).shp
@[simp] theorem State.flt_deliver (s : State) (e : Nat) : (s.deliver e).flt = s.flt := (frame_deliver s e).flt
@[simp] theorem State.drc_deliver (s : State) (e : Nat) : (s.deliver e).drc = s.drc := (frame_deliver s e).drc
@[simp] theorem State.sau_deliver (s : State) (e : Nat) : (s.deliver e).sau = s.sau := (frame_deliver s e).sau
@[simp] theorem State.bsn_deliver (s : State) (e : Nat) : (s.deliver e).bsn = s.bsn := (frame_deliver s e).bsn
@[simp] theorem State.tbl_deliver (s : State) (e : Nat) : (s.deliver e).tbl = s.tbl := (frame_deliver s e).tbl
@[simp] theorem State.prt_deliver (s : State) (e : Nat) : (s.deliver e).prt = s.prt := (frame_deliver s e).prt
@[simp] theorem State.brg_deliver (s : State) (e : Nat) : (s.deliver e).brg = s.brg := (frame_deliver s e).brg
@[simp] theorem State.sec_deliver (s : State) (e : Nat) : (s.deliver e).sec = s.sec := (frame_deliver s e).sec
@[simp] theorem State.lcs_deliver (s : State) (e : Nat) : (s.deliver e).lcs = s.lcs := (frame_deliver s e).lcs
@[simp] theorem State.jtag_deliver (s : State) (e : Nat) : (s.deliver e).jtag = s.jtag := (frame_deliver s e).jtag
@[simp] theorem State.boot_deliver (s : State) (e : Nat) : (s.deliver e).boot = s.boot := (frame_deliver s e).boot
@[simp] theorem State.pwr_deliver (s : State) (e : Nat) : (s.deliver e).pwr = s.pwr := (frame_deliver s e).pwr
@[simp] theorem State.uni_deliver (s : State) (e : Nat) : (s.deliver e).uni = s.uni := (frame_deliver s e).uni
@[simp] theorem State.tnt_deliver (s : State) (e : Nat) : (s.deliver e).tnt = s.tnt := (frame_deliver s e).tnt
@[simp] theorem State.ful_deliver (s : State) (e : Nat) : (s.deliver e).ful = s.ful := (frame_deliver s e).ful
@[simp] theorem State.shf_deliver (s : State) (e : Nat) : (s.deliver e).shf = s.shf := (frame_deliver s e).shf
@[simp] theorem State.stb_deliver (s : State) (e : Nat) : (s.deliver e).stb = s.stb := (frame_deliver s e).stb
@[simp] theorem State.free_deliver (s : State) (e : Nat) : (s.deliver e).free = s.free := (frame_deliver s e).free
@[simp] theorem State.reply_deliver (s : State) (e : Nat) : (s.deliver e).reply = s.reply := (frame_deliver s e).reply
@[simp] theorem State.pending_deliver (s : State) (e : Nat) : (s.deliver e).pending = s.pending := (frame_deliver s e).pending

/-! #### `State.raiseOne` -/

@[simp] theorem State.shadow_raiseOne (s : State) (e : Nat) : (s.raiseOne e).shadow = s.shadow := (frame_raiseOne s e).shadow
@[simp] theorem State.latch_raiseOne (s : State) (e : Nat) : (s.raiseOne e).latch = s.latch := (frame_raiseOne s e).latch
@[simp] theorem State.mem_raiseOne (s : State) (e : Nat) : (s.raiseOne e).mem = s.mem := (frame_raiseOne s e).mem
@[simp] theorem State.slots_raiseOne (s : State) (e : Nat) : (s.raiseOne e).slots = s.slots := (frame_raiseOne s e).slots
@[simp] theorem State.cores_raiseOne (s : State) (e : Nat) : (s.raiseOne e).cores = s.cores := (frame_raiseOne s e).cores
@[simp] theorem State.tb_raiseOne (s : State) (e : Nat) : (s.raiseOne e).tb = s.tb := (frame_raiseOne s e).tb
@[simp] theorem State.shp_raiseOne (s : State) (e : Nat) : (s.raiseOne e).shp = s.shp := (frame_raiseOne s e).shp
@[simp] theorem State.flt_raiseOne (s : State) (e : Nat) : (s.raiseOne e).flt = s.flt := (frame_raiseOne s e).flt
@[simp] theorem State.drc_raiseOne (s : State) (e : Nat) : (s.raiseOne e).drc = s.drc := (frame_raiseOne s e).drc
@[simp] theorem State.sau_raiseOne (s : State) (e : Nat) : (s.raiseOne e).sau = s.sau := (frame_raiseOne s e).sau
@[simp] theorem State.bsn_raiseOne (s : State) (e : Nat) : (s.raiseOne e).bsn = s.bsn := (frame_raiseOne s e).bsn
@[simp] theorem State.tbl_raiseOne (s : State) (e : Nat) : (s.raiseOne e).tbl = s.tbl := (frame_raiseOne s e).tbl
@[simp] theorem State.prt_raiseOne (s : State) (e : Nat) : (s.raiseOne e).prt = s.prt := (frame_raiseOne s e).prt
@[simp] theorem State.brg_raiseOne (s : State) (e : Nat) : (s.raiseOne e).brg = s.brg := (frame_raiseOne s e).brg
@[simp] theorem State.sec_raiseOne (s : State) (e : Nat) : (s.raiseOne e).sec = s.sec := (frame_raiseOne s e).sec
@[simp] theorem State.lcs_raiseOne (s : State) (e : Nat) : (s.raiseOne e).lcs = s.lcs := (frame_raiseOne s e).lcs
@[simp] theorem State.jtag_raiseOne (s : State) (e : Nat) : (s.raiseOne e).jtag = s.jtag := (frame_raiseOne s e).jtag
@[simp] theorem State.boot_raiseOne (s : State) (e : Nat) : (s.raiseOne e).boot = s.boot := (frame_raiseOne s e).boot
@[simp] theorem State.pwr_raiseOne (s : State) (e : Nat) : (s.raiseOne e).pwr = s.pwr := (frame_raiseOne s e).pwr
@[simp] theorem State.uni_raiseOne (s : State) (e : Nat) : (s.raiseOne e).uni = s.uni := (frame_raiseOne s e).uni
@[simp] theorem State.tnt_raiseOne (s : State) (e : Nat) : (s.raiseOne e).tnt = s.tnt := (frame_raiseOne s e).tnt
@[simp] theorem State.ful_raiseOne (s : State) (e : Nat) : (s.raiseOne e).ful = s.ful := (frame_raiseOne s e).ful
@[simp] theorem State.shf_raiseOne (s : State) (e : Nat) : (s.raiseOne e).shf = s.shf := (frame_raiseOne s e).shf
@[simp] theorem State.stb_raiseOne (s : State) (e : Nat) : (s.raiseOne e).stb = s.stb := (frame_raiseOne s e).stb
@[simp] theorem State.free_raiseOne (s : State) (e : Nat) : (s.raiseOne e).free = s.free := (frame_raiseOne s e).free
@[simp] theorem State.reply_raiseOne (s : State) (e : Nat) : (s.raiseOne e).reply = s.reply := (frame_raiseOne s e).reply
@[simp] theorem State.pending_raiseOne (s : State) (e : Nat) : (s.raiseOne e).pending = s.pending := (frame_raiseOne s e).pending

/-! #### `State.raiseMirror` -/

@[simp] theorem State.shadow_raiseMirror (s : State) (e : Nat) : (s.raiseMirror e).shadow = s.shadow := (frame_raiseMirror s e).shadow
@[simp] theorem State.latch_raiseMirror (s : State) (e : Nat) : (s.raiseMirror e).latch = s.latch := (frame_raiseMirror s e).latch
@[simp] theorem State.mem_raiseMirror (s : State) (e : Nat) : (s.raiseMirror e).mem = s.mem := (frame_raiseMirror s e).mem
@[simp] theorem State.slots_raiseMirror (s : State) (e : Nat) : (s.raiseMirror e).slots = s.slots := (frame_raiseMirror s e).slots
@[simp] theorem State.cores_raiseMirror (s : State) (e : Nat) : (s.raiseMirror e).cores = s.cores := (frame_raiseMirror s e).cores
@[simp] theorem State.tb_raiseMirror (s : State) (e : Nat) : (s.raiseMirror e).tb = s.tb := (frame_raiseMirror s e).tb
@[simp] theorem State.shp_raiseMirror (s : State) (e : Nat) : (s.raiseMirror e).shp = s.shp := (frame_raiseMirror s e).shp
@[simp] theorem State.flt_raiseMirror (s : State) (e : Nat) : (s.raiseMirror e).flt = s.flt := (frame_raiseMirror s e).flt
@[simp] theorem State.drc_raiseMirror (s : State) (e : Nat) : (s.raiseMirror e).drc = s.drc := (frame_raiseMirror s e).drc
@[simp] theorem State.sau_raiseMirror (s : State) (e : Nat) : (s.raiseMirror e).sau = s.sau := (frame_raiseMirror s e).sau
@[simp] theorem State.bsn_raiseMirror (s : State) (e : Nat) : (s.raiseMirror e).bsn = s.bsn := (frame_raiseMirror s e).bsn
@[simp] theorem State.tbl_raiseMirror (s : State) (e : Nat) : (s.raiseMirror e).tbl = s.tbl := (frame_raiseMirror s e).tbl
@[simp] theorem State.prt_raiseMirror (s : State) (e : Nat) : (s.raiseMirror e).prt = s.prt := (frame_raiseMirror s e).prt
@[simp] theorem State.brg_raiseMirror (s : State) (e : Nat) : (s.raiseMirror e).brg = s.brg := (frame_raiseMirror s e).brg
@[simp] theorem State.sec_raiseMirror (s : State) (e : Nat) : (s.raiseMirror e).sec = s.sec := (frame_raiseMirror s e).sec
@[simp] theorem State.lcs_raiseMirror (s : State) (e : Nat) : (s.raiseMirror e).lcs = s.lcs := (frame_raiseMirror s e).lcs
@[simp] theorem State.jtag_raiseMirror (s : State) (e : Nat) : (s.raiseMirror e).jtag = s.jtag := (frame_raiseMirror s e).jtag
@[simp] theorem State.boot_raiseMirror (s : State) (e : Nat) : (s.raiseMirror e).boot = s.boot := (frame_raiseMirror s e).boot
@[simp] theorem State.pwr_raiseMirror (s : State) (e : Nat) : (s.raiseMirror e).pwr = s.pwr := (frame_raiseMirror s e).pwr
@[simp] theorem State.uni_raiseMirror (s : State) (e : Nat) : (s.raiseMirror e).uni = s.uni := (frame_raiseMirror s e).uni
@[simp] theorem State.tnt_raiseMirror (s : State) (e : Nat) : (s.raiseMirror e).tnt = s.tnt := (frame_raiseMirror s e).tnt
@[simp] theorem State.ful_raiseMirror (s : State) (e : Nat) : (s.raiseMirror e).ful = s.ful := (frame_raiseMirror s e).ful
@[simp] theorem State.shf_raiseMirror (s : State) (e : Nat) : (s.raiseMirror e).shf = s.shf := (frame_raiseMirror s e).shf
@[simp] theorem State.stb_raiseMirror (s : State) (e : Nat) : (s.raiseMirror e).stb = s.stb := (frame_raiseMirror s e).stb
@[simp] theorem State.free_raiseMirror (s : State) (e : Nat) : (s.raiseMirror e).free = s.free := (frame_raiseMirror s e).free
@[simp] theorem State.reply_raiseMirror (s : State) (e : Nat) : (s.raiseMirror e).reply = s.reply := (frame_raiseMirror s e).reply
@[simp] theorem State.pending_raiseMirror (s : State) (e : Nat) : (s.raiseMirror e).pending = s.pending := (frame_raiseMirror s e).pending

/-! #### `State.raiseFirst0` -/

@[simp] theorem State.shadow_raiseFirst0 (s : State) (e : Nat) : (s.raiseFirst0 e).shadow = s.shadow := (frame_raiseFirst0 s e).shadow
@[simp] theorem State.latch_raiseFirst0 (s : State) (e : Nat) : (s.raiseFirst0 e).latch = s.latch := (frame_raiseFirst0 s e).latch
@[simp] theorem State.mem_raiseFirst0 (s : State) (e : Nat) : (s.raiseFirst0 e).mem = s.mem := (frame_raiseFirst0 s e).mem
@[simp] theorem State.slots_raiseFirst0 (s : State) (e : Nat) : (s.raiseFirst0 e).slots = s.slots := (frame_raiseFirst0 s e).slots
@[simp] theorem State.cores_raiseFirst0 (s : State) (e : Nat) : (s.raiseFirst0 e).cores = s.cores := (frame_raiseFirst0 s e).cores
@[simp] theorem State.tb_raiseFirst0 (s : State) (e : Nat) : (s.raiseFirst0 e).tb = s.tb := (frame_raiseFirst0 s e).tb
@[simp] theorem State.shp_raiseFirst0 (s : State) (e : Nat) : (s.raiseFirst0 e).shp = s.shp := (frame_raiseFirst0 s e).shp
@[simp] theorem State.flt_raiseFirst0 (s : State) (e : Nat) : (s.raiseFirst0 e).flt = s.flt := (frame_raiseFirst0 s e).flt
@[simp] theorem State.drc_raiseFirst0 (s : State) (e : Nat) : (s.raiseFirst0 e).drc = s.drc := (frame_raiseFirst0 s e).drc
@[simp] theorem State.sau_raiseFirst0 (s : State) (e : Nat) : (s.raiseFirst0 e).sau = s.sau := (frame_raiseFirst0 s e).sau
@[simp] theorem State.bsn_raiseFirst0 (s : State) (e : Nat) : (s.raiseFirst0 e).bsn = s.bsn := (frame_raiseFirst0 s e).bsn
@[simp] theorem State.tbl_raiseFirst0 (s : State) (e : Nat) : (s.raiseFirst0 e).tbl = s.tbl := (frame_raiseFirst0 s e).tbl
@[simp] theorem State.prt_raiseFirst0 (s : State) (e : Nat) : (s.raiseFirst0 e).prt = s.prt := (frame_raiseFirst0 s e).prt
@[simp] theorem State.brg_raiseFirst0 (s : State) (e : Nat) : (s.raiseFirst0 e).brg = s.brg := (frame_raiseFirst0 s e).brg
@[simp] theorem State.sec_raiseFirst0 (s : State) (e : Nat) : (s.raiseFirst0 e).sec = s.sec := (frame_raiseFirst0 s e).sec
@[simp] theorem State.lcs_raiseFirst0 (s : State) (e : Nat) : (s.raiseFirst0 e).lcs = s.lcs := (frame_raiseFirst0 s e).lcs
@[simp] theorem State.jtag_raiseFirst0 (s : State) (e : Nat) : (s.raiseFirst0 e).jtag = s.jtag := (frame_raiseFirst0 s e).jtag
@[simp] theorem State.boot_raiseFirst0 (s : State) (e : Nat) : (s.raiseFirst0 e).boot = s.boot := (frame_raiseFirst0 s e).boot
@[simp] theorem State.pwr_raiseFirst0 (s : State) (e : Nat) : (s.raiseFirst0 e).pwr = s.pwr := (frame_raiseFirst0 s e).pwr
@[simp] theorem State.uni_raiseFirst0 (s : State) (e : Nat) : (s.raiseFirst0 e).uni = s.uni := (frame_raiseFirst0 s e).uni
@[simp] theorem State.tnt_raiseFirst0 (s : State) (e : Nat) : (s.raiseFirst0 e).tnt = s.tnt := (frame_raiseFirst0 s e).tnt
@[simp] theorem State.ful_raiseFirst0 (s : State) (e : Nat) : (s.raiseFirst0 e).ful = s.ful := (frame_raiseFirst0 s e).ful
@[simp] theorem State.shf_raiseFirst0 (s : State) (e : Nat) : (s.raiseFirst0 e).shf = s.shf := (frame_raiseFirst0 s e).shf
@[simp] theorem State.stb_raiseFirst0 (s : State) (e : Nat) : (s.raiseFirst0 e).stb = s.stb := (frame_raiseFirst0 s e).stb
@[simp] theorem State.free_raiseFirst0 (s : State) (e : Nat) : (s.raiseFirst0 e).free = s.free := (frame_raiseFirst0 s e).free
@[simp] theorem State.reply_raiseFirst0 (s : State) (e : Nat) : (s.raiseFirst0 e).reply = s.reply := (frame_raiseFirst0 s e).reply
@[simp] theorem State.pending_raiseFirst0 (s : State) (e : Nat) : (s.raiseFirst0 e).pending = s.pending := (frame_raiseFirst0 s e).pending

/-! #### `State.tokenWatch` -/

@[simp] theorem State.shadow_tokenWatch (s : State) (b : W64) : (s.tokenWatch b).shadow = s.shadow := (frame_tokenWatch s b).shadow
@[simp] theorem State.latch_tokenWatch (s : State) (b : W64) : (s.tokenWatch b).latch = s.latch := (frame_tokenWatch s b).latch
@[simp] theorem State.mem_tokenWatch (s : State) (b : W64) : (s.tokenWatch b).mem = s.mem := (frame_tokenWatch s b).mem
@[simp] theorem State.slots_tokenWatch (s : State) (b : W64) : (s.tokenWatch b).slots = s.slots := (frame_tokenWatch s b).slots
@[simp] theorem State.cores_tokenWatch (s : State) (b : W64) : (s.tokenWatch b).cores = s.cores := (frame_tokenWatch s b).cores
@[simp] theorem State.tb_tokenWatch (s : State) (b : W64) : (s.tokenWatch b).tb = s.tb := (frame_tokenWatch s b).tb
@[simp] theorem State.shp_tokenWatch (s : State) (b : W64) : (s.tokenWatch b).shp = s.shp := (frame_tokenWatch s b).shp
@[simp] theorem State.flt_tokenWatch (s : State) (b : W64) : (s.tokenWatch b).flt = s.flt := (frame_tokenWatch s b).flt
@[simp] theorem State.drc_tokenWatch (s : State) (b : W64) : (s.tokenWatch b).drc = s.drc := (frame_tokenWatch s b).drc
@[simp] theorem State.sau_tokenWatch (s : State) (b : W64) : (s.tokenWatch b).sau = s.sau := (frame_tokenWatch s b).sau
@[simp] theorem State.bsn_tokenWatch (s : State) (b : W64) : (s.tokenWatch b).bsn = s.bsn := (frame_tokenWatch s b).bsn
@[simp] theorem State.tbl_tokenWatch (s : State) (b : W64) : (s.tokenWatch b).tbl = s.tbl := (frame_tokenWatch s b).tbl
@[simp] theorem State.prt_tokenWatch (s : State) (b : W64) : (s.tokenWatch b).prt = s.prt := (frame_tokenWatch s b).prt
@[simp] theorem State.brg_tokenWatch (s : State) (b : W64) : (s.tokenWatch b).brg = s.brg := (frame_tokenWatch s b).brg
@[simp] theorem State.sec_tokenWatch (s : State) (b : W64) : (s.tokenWatch b).sec = s.sec := (frame_tokenWatch s b).sec
@[simp] theorem State.lcs_tokenWatch (s : State) (b : W64) : (s.tokenWatch b).lcs = s.lcs := (frame_tokenWatch s b).lcs
@[simp] theorem State.jtag_tokenWatch (s : State) (b : W64) : (s.tokenWatch b).jtag = s.jtag := (frame_tokenWatch s b).jtag
@[simp] theorem State.boot_tokenWatch (s : State) (b : W64) : (s.tokenWatch b).boot = s.boot := (frame_tokenWatch s b).boot
@[simp] theorem State.pwr_tokenWatch (s : State) (b : W64) : (s.tokenWatch b).pwr = s.pwr := (frame_tokenWatch s b).pwr
@[simp] theorem State.uni_tokenWatch (s : State) (b : W64) : (s.tokenWatch b).uni = s.uni := (frame_tokenWatch s b).uni
@[simp] theorem State.tnt_tokenWatch (s : State) (b : W64) : (s.tokenWatch b).tnt = s.tnt := (frame_tokenWatch s b).tnt
@[simp] theorem State.ful_tokenWatch (s : State) (b : W64) : (s.tokenWatch b).ful = s.ful := (frame_tokenWatch s b).ful
@[simp] theorem State.shf_tokenWatch (s : State) (b : W64) : (s.tokenWatch b).shf = s.shf := (frame_tokenWatch s b).shf
@[simp] theorem State.stb_tokenWatch (s : State) (b : W64) : (s.tokenWatch b).stb = s.stb := (frame_tokenWatch s b).stb
@[simp] theorem State.free_tokenWatch (s : State) (b : W64) : (s.tokenWatch b).free = s.free := (frame_tokenWatch s b).free
@[simp] theorem State.reply_tokenWatch (s : State) (b : W64) : (s.tokenWatch b).reply = s.reply := (frame_tokenWatch s b).reply
@[simp] theorem State.pending_tokenWatch (s : State) (b : W64) : (s.tokenWatch b).pending = s.pending := (frame_tokenWatch s b).pending

/-! #### `State.raise` -/

@[simp] theorem State.shadow_raise (s : State) (e : Nat) : (s.raise e).shadow = s.shadow := (frame_raise s e).shadow
@[simp] theorem State.latch_raise (s : State) (e : Nat) : (s.raise e).latch = s.latch := (frame_raise s e).latch
@[simp] theorem State.mem_raise (s : State) (e : Nat) : (s.raise e).mem = s.mem := (frame_raise s e).mem
@[simp] theorem State.slots_raise (s : State) (e : Nat) : (s.raise e).slots = s.slots := (frame_raise s e).slots
@[simp] theorem State.cores_raise (s : State) (e : Nat) : (s.raise e).cores = s.cores := (frame_raise s e).cores
@[simp] theorem State.tb_raise (s : State) (e : Nat) : (s.raise e).tb = s.tb := (frame_raise s e).tb
@[simp] theorem State.shp_raise (s : State) (e : Nat) : (s.raise e).shp = s.shp := (frame_raise s e).shp
@[simp] theorem State.flt_raise (s : State) (e : Nat) : (s.raise e).flt = s.flt := (frame_raise s e).flt
@[simp] theorem State.drc_raise (s : State) (e : Nat) : (s.raise e).drc = s.drc := (frame_raise s e).drc
@[simp] theorem State.sau_raise (s : State) (e : Nat) : (s.raise e).sau = s.sau := (frame_raise s e).sau
@[simp] theorem State.bsn_raise (s : State) (e : Nat) : (s.raise e).bsn = s.bsn := (frame_raise s e).bsn
@[simp] theorem State.tbl_raise (s : State) (e : Nat) : (s.raise e).tbl = s.tbl := (frame_raise s e).tbl
@[simp] theorem State.prt_raise (s : State) (e : Nat) : (s.raise e).prt = s.prt := (frame_raise s e).prt
@[simp] theorem State.brg_raise (s : State) (e : Nat) : (s.raise e).brg = s.brg := (frame_raise s e).brg
@[simp] theorem State.sec_raise (s : State) (e : Nat) : (s.raise e).sec = s.sec := (frame_raise s e).sec
@[simp] theorem State.lcs_raise (s : State) (e : Nat) : (s.raise e).lcs = s.lcs := (frame_raise s e).lcs
@[simp] theorem State.jtag_raise (s : State) (e : Nat) : (s.raise e).jtag = s.jtag := (frame_raise s e).jtag
@[simp] theorem State.boot_raise (s : State) (e : Nat) : (s.raise e).boot = s.boot := (frame_raise s e).boot
@[simp] theorem State.pwr_raise (s : State) (e : Nat) : (s.raise e).pwr = s.pwr := (frame_raise s e).pwr
@[simp] theorem State.uni_raise (s : State) (e : Nat) : (s.raise e).uni = s.uni := (frame_raise s e).uni
@[simp] theorem State.tnt_raise (s : State) (e : Nat) : (s.raise e).tnt = s.tnt := (frame_raise s e).tnt
@[simp] theorem State.ful_raise (s : State) (e : Nat) : (s.raise e).ful = s.ful := (frame_raise s e).ful
@[simp] theorem State.shf_raise (s : State) (e : Nat) : (s.raise e).shf = s.shf := (frame_raise s e).shf
@[simp] theorem State.stb_raise (s : State) (e : Nat) : (s.raise e).stb = s.stb := (frame_raise s e).stb
@[simp] theorem State.free_raise (s : State) (e : Nat) : (s.raise e).free = s.free := (frame_raise s e).free
@[simp] theorem State.reply_raise (s : State) (e : Nat) : (s.raise e).reply = s.reply := (frame_raise s e).reply
@[simp] theorem State.pending_raise (s : State) (e : Nat) : (s.raise e).pending = s.pending := (frame_raise s e).pending

/-! #### `State.raiseFirst` -/

@[simp] theorem State.shadow_raiseFirst (s : State) (e : Nat) : (s.raiseFirst e).shadow = s.shadow := (frame_raiseFirst s e).shadow
@[simp] theorem State.latch_raiseFirst (s : State) (e : Nat) : (s.raiseFirst e).latch = s.latch := (frame_raiseFirst s e).latch
@[simp] theorem State.mem_raiseFirst (s : State) (e : Nat) : (s.raiseFirst e).mem = s.mem := (frame_raiseFirst s e).mem
@[simp] theorem State.slots_raiseFirst (s : State) (e : Nat) : (s.raiseFirst e).slots = s.slots := (frame_raiseFirst s e).slots
@[simp] theorem State.cores_raiseFirst (s : State) (e : Nat) : (s.raiseFirst e).cores = s.cores := (frame_raiseFirst s e).cores
@[simp] theorem State.tb_raiseFirst (s : State) (e : Nat) : (s.raiseFirst e).tb = s.tb := (frame_raiseFirst s e).tb
@[simp] theorem State.shp_raiseFirst (s : State) (e : Nat) : (s.raiseFirst e).shp = s.shp := (frame_raiseFirst s e).shp
@[simp] theorem State.flt_raiseFirst (s : State) (e : Nat) : (s.raiseFirst e).flt = s.flt := (frame_raiseFirst s e).flt
@[simp] theorem State.drc_raiseFirst (s : State) (e : Nat) : (s.raiseFirst e).drc = s.drc := (frame_raiseFirst s e).drc
@[simp] theorem State.sau_raiseFirst (s : State) (e : Nat) : (s.raiseFirst e).sau = s.sau := (frame_raiseFirst s e).sau
@[simp] theorem State.bsn_raiseFirst (s : State) (e : Nat) : (s.raiseFirst e).bsn = s.bsn := (frame_raiseFirst s e).bsn
@[simp] theorem State.tbl_raiseFirst (s : State) (e : Nat) : (s.raiseFirst e).tbl = s.tbl := (frame_raiseFirst s e).tbl
@[simp] theorem State.prt_raiseFirst (s : State) (e : Nat) : (s.raiseFirst e).prt = s.prt := (frame_raiseFirst s e).prt
@[simp] theorem State.brg_raiseFirst (s : State) (e : Nat) : (s.raiseFirst e).brg = s.brg := (frame_raiseFirst s e).brg
@[simp] theorem State.sec_raiseFirst (s : State) (e : Nat) : (s.raiseFirst e).sec = s.sec := (frame_raiseFirst s e).sec
@[simp] theorem State.lcs_raiseFirst (s : State) (e : Nat) : (s.raiseFirst e).lcs = s.lcs := (frame_raiseFirst s e).lcs
@[simp] theorem State.jtag_raiseFirst (s : State) (e : Nat) : (s.raiseFirst e).jtag = s.jtag := (frame_raiseFirst s e).jtag
@[simp] theorem State.boot_raiseFirst (s : State) (e : Nat) : (s.raiseFirst e).boot = s.boot := (frame_raiseFirst s e).boot
@[simp] theorem State.pwr_raiseFirst (s : State) (e : Nat) : (s.raiseFirst e).pwr = s.pwr := (frame_raiseFirst s e).pwr
@[simp] theorem State.uni_raiseFirst (s : State) (e : Nat) : (s.raiseFirst e).uni = s.uni := (frame_raiseFirst s e).uni
@[simp] theorem State.tnt_raiseFirst (s : State) (e : Nat) : (s.raiseFirst e).tnt = s.tnt := (frame_raiseFirst s e).tnt
@[simp] theorem State.ful_raiseFirst (s : State) (e : Nat) : (s.raiseFirst e).ful = s.ful := (frame_raiseFirst s e).ful
@[simp] theorem State.shf_raiseFirst (s : State) (e : Nat) : (s.raiseFirst e).shf = s.shf := (frame_raiseFirst s e).shf
@[simp] theorem State.stb_raiseFirst (s : State) (e : Nat) : (s.raiseFirst e).stb = s.stb := (frame_raiseFirst s e).stb
@[simp] theorem State.free_raiseFirst (s : State) (e : Nat) : (s.raiseFirst e).free = s.free := (frame_raiseFirst s e).free
@[simp] theorem State.reply_raiseFirst (s : State) (e : Nat) : (s.raiseFirst e).reply = s.reply := (frame_raiseFirst s e).reply
@[simp] theorem State.pending_raiseFirst (s : State) (e : Nat) : (s.raiseFirst e).pending = s.pending := (frame_raiseFirst s e).pending

/-! #### `State.postReserved` -/

@[simp] theorem State.shadow_postReserved (s : State) (t : Nat) (v : W32) (st : Status) : (s.postReserved t v st).shadow = s.shadow := (frame_postReserved s t v st).shadow
@[simp] theorem State.latch_postReserved (s : State) (t : Nat) (v : W32) (st : Status) : (s.postReserved t v st).latch = s.latch := (frame_postReserved s t v st).latch
@[simp] theorem State.mem_postReserved (s : State) (t : Nat) (v : W32) (st : Status) : (s.postReserved t v st).mem = s.mem := (frame_postReserved s t v st).mem
@[simp] theorem State.slots_postReserved (s : State) (t : Nat) (v : W32) (st : Status) : (s.postReserved t v st).slots = s.slots := (frame_postReserved s t v st).slots
@[simp] theorem State.cores_postReserved (s : State) (t : Nat) (v : W32) (st : Status) : (s.postReserved t v st).cores = s.cores := (frame_postReserved s t v st).cores
@[simp] theorem State.tb_postReserved (s : State) (t : Nat) (v : W32) (st : Status) : (s.postReserved t v st).tb = s.tb := (frame_postReserved s t v st).tb
@[simp] theorem State.shp_postReserved (s : State) (t : Nat) (v : W32) (st : Status) : (s.postReserved t v st).shp = s.shp := (frame_postReserved s t v st).shp
@[simp] theorem State.flt_postReserved (s : State) (t : Nat) (v : W32) (st : Status) : (s.postReserved t v st).flt = s.flt := (frame_postReserved s t v st).flt
@[simp] theorem State.drc_postReserved (s : State) (t : Nat) (v : W32) (st : Status) : (s.postReserved t v st).drc = s.drc := (frame_postReserved s t v st).drc
@[simp] theorem State.sau_postReserved (s : State) (t : Nat) (v : W32) (st : Status) : (s.postReserved t v st).sau = s.sau := (frame_postReserved s t v st).sau
@[simp] theorem State.bsn_postReserved (s : State) (t : Nat) (v : W32) (st : Status) : (s.postReserved t v st).bsn = s.bsn := (frame_postReserved s t v st).bsn
@[simp] theorem State.tbl_postReserved (s : State) (t : Nat) (v : W32) (st : Status) : (s.postReserved t v st).tbl = s.tbl := (frame_postReserved s t v st).tbl
@[simp] theorem State.prt_postReserved (s : State) (t : Nat) (v : W32) (st : Status) : (s.postReserved t v st).prt = s.prt := (frame_postReserved s t v st).prt
@[simp] theorem State.brg_postReserved (s : State) (t : Nat) (v : W32) (st : Status) : (s.postReserved t v st).brg = s.brg := (frame_postReserved s t v st).brg
@[simp] theorem State.sec_postReserved (s : State) (t : Nat) (v : W32) (st : Status) : (s.postReserved t v st).sec = s.sec := (frame_postReserved s t v st).sec
@[simp] theorem State.lcs_postReserved (s : State) (t : Nat) (v : W32) (st : Status) : (s.postReserved t v st).lcs = s.lcs := (frame_postReserved s t v st).lcs
@[simp] theorem State.jtag_postReserved (s : State) (t : Nat) (v : W32) (st : Status) : (s.postReserved t v st).jtag = s.jtag := (frame_postReserved s t v st).jtag
@[simp] theorem State.boot_postReserved (s : State) (t : Nat) (v : W32) (st : Status) : (s.postReserved t v st).boot = s.boot := (frame_postReserved s t v st).boot
@[simp] theorem State.pwr_postReserved (s : State) (t : Nat) (v : W32) (st : Status) : (s.postReserved t v st).pwr = s.pwr := (frame_postReserved s t v st).pwr
@[simp] theorem State.uni_postReserved (s : State) (t : Nat) (v : W32) (st : Status) : (s.postReserved t v st).uni = s.uni := (frame_postReserved s t v st).uni
@[simp] theorem State.tnt_postReserved (s : State) (t : Nat) (v : W32) (st : Status) : (s.postReserved t v st).tnt = s.tnt := (frame_postReserved s t v st).tnt
@[simp] theorem State.ful_postReserved (s : State) (t : Nat) (v : W32) (st : Status) : (s.postReserved t v st).ful = s.ful := (frame_postReserved s t v st).ful
@[simp] theorem State.shf_postReserved (s : State) (t : Nat) (v : W32) (st : Status) : (s.postReserved t v st).shf = s.shf := (frame_postReserved s t v st).shf
@[simp] theorem State.stb_postReserved (s : State) (t : Nat) (v : W32) (st : Status) : (s.postReserved t v st).stb = s.stb := (frame_postReserved s t v st).stb
@[simp] theorem State.free_postReserved (s : State) (t : Nat) (v : W32) (st : Status) : (s.postReserved t v st).free = s.free := (frame_postReserved s t v st).free
@[simp] theorem State.reply_postReserved (s : State) (t : Nat) (v : W32) (st : Status) : (s.postReserved t v st).reply = s.reply := (frame_postReserved s t v st).reply
@[simp] theorem State.pending_postReserved (s : State) (t : Nat) (v : W32) (st : Status) : (s.postReserved t v st).pending = s.pending := (frame_postReserved s t v st).pending

/-! #### `State.logHost` -/

@[simp] theorem State.shadow_logHost (s : State) (o : Nat) (st : Status) (b w : Bool) (ag : Agent) : (s.logHost o st b w ag).shadow = s.shadow := (frame_logHost s o st b w ag).shadow
@[simp] theorem State.latch_logHost (s : State) (o : Nat) (st : Status) (b w : Bool) (ag : Agent) : (s.logHost o st b w ag).latch = s.latch := (frame_logHost s o st b w ag).latch
@[simp] theorem State.mem_logHost (s : State) (o : Nat) (st : Status) (b w : Bool) (ag : Agent) : (s.logHost o st b w ag).mem = s.mem := (frame_logHost s o st b w ag).mem
@[simp] theorem State.slots_logHost (s : State) (o : Nat) (st : Status) (b w : Bool) (ag : Agent) : (s.logHost o st b w ag).slots = s.slots := (frame_logHost s o st b w ag).slots
@[simp] theorem State.cores_logHost (s : State) (o : Nat) (st : Status) (b w : Bool) (ag : Agent) : (s.logHost o st b w ag).cores = s.cores := (frame_logHost s o st b w ag).cores
@[simp] theorem State.tb_logHost (s : State) (o : Nat) (st : Status) (b w : Bool) (ag : Agent) : (s.logHost o st b w ag).tb = s.tb := (frame_logHost s o st b w ag).tb
@[simp] theorem State.shp_logHost (s : State) (o : Nat) (st : Status) (b w : Bool) (ag : Agent) : (s.logHost o st b w ag).shp = s.shp := (frame_logHost s o st b w ag).shp
@[simp] theorem State.flt_logHost (s : State) (o : Nat) (st : Status) (b w : Bool) (ag : Agent) : (s.logHost o st b w ag).flt = s.flt := (frame_logHost s o st b w ag).flt
@[simp] theorem State.drc_logHost (s : State) (o : Nat) (st : Status) (b w : Bool) (ag : Agent) : (s.logHost o st b w ag).drc = s.drc := (frame_logHost s o st b w ag).drc
@[simp] theorem State.sau_logHost (s : State) (o : Nat) (st : Status) (b w : Bool) (ag : Agent) : (s.logHost o st b w ag).sau = s.sau := (frame_logHost s o st b w ag).sau
@[simp] theorem State.bsn_logHost (s : State) (o : Nat) (st : Status) (b w : Bool) (ag : Agent) : (s.logHost o st b w ag).bsn = s.bsn := (frame_logHost s o st b w ag).bsn
@[simp] theorem State.tbl_logHost (s : State) (o : Nat) (st : Status) (b w : Bool) (ag : Agent) : (s.logHost o st b w ag).tbl = s.tbl := (frame_logHost s o st b w ag).tbl
@[simp] theorem State.prt_logHost (s : State) (o : Nat) (st : Status) (b w : Bool) (ag : Agent) : (s.logHost o st b w ag).prt = s.prt := (frame_logHost s o st b w ag).prt
@[simp] theorem State.brg_logHost (s : State) (o : Nat) (st : Status) (b w : Bool) (ag : Agent) : (s.logHost o st b w ag).brg = s.brg := (frame_logHost s o st b w ag).brg
@[simp] theorem State.sec_logHost (s : State) (o : Nat) (st : Status) (b w : Bool) (ag : Agent) : (s.logHost o st b w ag).sec = s.sec := (frame_logHost s o st b w ag).sec
@[simp] theorem State.lcs_logHost (s : State) (o : Nat) (st : Status) (b w : Bool) (ag : Agent) : (s.logHost o st b w ag).lcs = s.lcs := (frame_logHost s o st b w ag).lcs
@[simp] theorem State.jtag_logHost (s : State) (o : Nat) (st : Status) (b w : Bool) (ag : Agent) : (s.logHost o st b w ag).jtag = s.jtag := (frame_logHost s o st b w ag).jtag
@[simp] theorem State.boot_logHost (s : State) (o : Nat) (st : Status) (b w : Bool) (ag : Agent) : (s.logHost o st b w ag).boot = s.boot := (frame_logHost s o st b w ag).boot
@[simp] theorem State.pwr_logHost (s : State) (o : Nat) (st : Status) (b w : Bool) (ag : Agent) : (s.logHost o st b w ag).pwr = s.pwr := (frame_logHost s o st b w ag).pwr
@[simp] theorem State.uni_logHost (s : State) (o : Nat) (st : Status) (b w : Bool) (ag : Agent) : (s.logHost o st b w ag).uni = s.uni := (frame_logHost s o st b w ag).uni
@[simp] theorem State.tnt_logHost (s : State) (o : Nat) (st : Status) (b w : Bool) (ag : Agent) : (s.logHost o st b w ag).tnt = s.tnt := (frame_logHost s o st b w ag).tnt
@[simp] theorem State.ful_logHost (s : State) (o : Nat) (st : Status) (b w : Bool) (ag : Agent) : (s.logHost o st b w ag).ful = s.ful := (frame_logHost s o st b w ag).ful
@[simp] theorem State.shf_logHost (s : State) (o : Nat) (st : Status) (b w : Bool) (ag : Agent) : (s.logHost o st b w ag).shf = s.shf := (frame_logHost s o st b w ag).shf
@[simp] theorem State.stb_logHost (s : State) (o : Nat) (st : Status) (b w : Bool) (ag : Agent) : (s.logHost o st b w ag).stb = s.stb := (frame_logHost s o st b w ag).stb
@[simp] theorem State.free_logHost (s : State) (o : Nat) (st : Status) (b w : Bool) (ag : Agent) : (s.logHost o st b w ag).free = s.free := (frame_logHost s o st b w ag).free
@[simp] theorem State.reply_logHost (s : State) (o : Nat) (st : Status) (b w : Bool) (ag : Agent) : (s.logHost o st b w ag).reply = s.reply := (frame_logHost s o st b w ag).reply
@[simp] theorem State.pending_logHost (s : State) (o : Nat) (st : Status) (b w : Bool) (ag : Agent) : (s.logHost o st b w ag).pending = s.pending := (frame_logHost s o st b w ag).pending

/-! #### `State.postQuiet` -/

@[simp] theorem State.shadow_postQuiet (s : State) (t : Nat) (v : W32) (st : Status) : (s.postQuiet t v st).2.shadow = s.shadow := (frame_postQuiet s t v st).shadow
@[simp] theorem State.latch_postQuiet (s : State) (t : Nat) (v : W32) (st : Status) : (s.postQuiet t v st).2.latch = s.latch := (frame_postQuiet s t v st).latch
@[simp] theorem State.mem_postQuiet (s : State) (t : Nat) (v : W32) (st : Status) : (s.postQuiet t v st).2.mem = s.mem := (frame_postQuiet s t v st).mem
@[simp] theorem State.slots_postQuiet (s : State) (t : Nat) (v : W32) (st : Status) : (s.postQuiet t v st).2.slots = s.slots := (frame_postQuiet s t v st).slots
@[simp] theorem State.cores_postQuiet (s : State) (t : Nat) (v : W32) (st : Status) : (s.postQuiet t v st).2.cores = s.cores := (frame_postQuiet s t v st).cores
@[simp] theorem State.tb_postQuiet (s : State) (t : Nat) (v : W32) (st : Status) : (s.postQuiet t v st).2.tb = s.tb := (frame_postQuiet s t v st).tb
@[simp] theorem State.shp_postQuiet (s : State) (t : Nat) (v : W32) (st : Status) : (s.postQuiet t v st).2.shp = s.shp := (frame_postQuiet s t v st).shp
@[simp] theorem State.flt_postQuiet (s : State) (t : Nat) (v : W32) (st : Status) : (s.postQuiet t v st).2.flt = s.flt := (frame_postQuiet s t v st).flt
@[simp] theorem State.drc_postQuiet (s : State) (t : Nat) (v : W32) (st : Status) : (s.postQuiet t v st).2.drc = s.drc := (frame_postQuiet s t v st).drc
@[simp] theorem State.sau_postQuiet (s : State) (t : Nat) (v : W32) (st : Status) : (s.postQuiet t v st).2.sau = s.sau := (frame_postQuiet s t v st).sau
@[simp] theorem State.bsn_postQuiet (s : State) (t : Nat) (v : W32) (st : Status) : (s.postQuiet t v st).2.bsn = s.bsn := (frame_postQuiet s t v st).bsn
@[simp] theorem State.tbl_postQuiet (s : State) (t : Nat) (v : W32) (st : Status) : (s.postQuiet t v st).2.tbl = s.tbl := (frame_postQuiet s t v st).tbl
@[simp] theorem State.prt_postQuiet (s : State) (t : Nat) (v : W32) (st : Status) : (s.postQuiet t v st).2.prt = s.prt := (frame_postQuiet s t v st).prt
@[simp] theorem State.brg_postQuiet (s : State) (t : Nat) (v : W32) (st : Status) : (s.postQuiet t v st).2.brg = s.brg := (frame_postQuiet s t v st).brg
@[simp] theorem State.sec_postQuiet (s : State) (t : Nat) (v : W32) (st : Status) : (s.postQuiet t v st).2.sec = s.sec := (frame_postQuiet s t v st).sec
@[simp] theorem State.lcs_postQuiet (s : State) (t : Nat) (v : W32) (st : Status) : (s.postQuiet t v st).2.lcs = s.lcs := (frame_postQuiet s t v st).lcs
@[simp] theorem State.jtag_postQuiet (s : State) (t : Nat) (v : W32) (st : Status) : (s.postQuiet t v st).2.jtag = s.jtag := (frame_postQuiet s t v st).jtag
@[simp] theorem State.boot_postQuiet (s : State) (t : Nat) (v : W32) (st : Status) : (s.postQuiet t v st).2.boot = s.boot := (frame_postQuiet s t v st).boot
@[simp] theorem State.pwr_postQuiet (s : State) (t : Nat) (v : W32) (st : Status) : (s.postQuiet t v st).2.pwr = s.pwr := (frame_postQuiet s t v st).pwr
@[simp] theorem State.uni_postQuiet (s : State) (t : Nat) (v : W32) (st : Status) : (s.postQuiet t v st).2.uni = s.uni := (frame_postQuiet s t v st).uni
@[simp] theorem State.tnt_postQuiet (s : State) (t : Nat) (v : W32) (st : Status) : (s.postQuiet t v st).2.tnt = s.tnt := (frame_postQuiet s t v st).tnt
@[simp] theorem State.ful_postQuiet (s : State) (t : Nat) (v : W32) (st : Status) : (s.postQuiet t v st).2.ful = s.ful := (frame_postQuiet s t v st).ful
@[simp] theorem State.shf_postQuiet (s : State) (t : Nat) (v : W32) (st : Status) : (s.postQuiet t v st).2.shf = s.shf := (frame_postQuiet s t v st).shf
@[simp] theorem State.stb_postQuiet (s : State) (t : Nat) (v : W32) (st : Status) : (s.postQuiet t v st).2.stb = s.stb := (frame_postQuiet s t v st).stb
@[simp] theorem State.free_postQuiet (s : State) (t : Nat) (v : W32) (st : Status) : (s.postQuiet t v st).2.free = s.free := (frame_postQuiet s t v st).free
@[simp] theorem State.reply_postQuiet (s : State) (t : Nat) (v : W32) (st : Status) : (s.postQuiet t v st).2.reply = s.reply := (frame_postQuiet s t v st).reply
@[simp] theorem State.pending_postQuiet (s : State) (t : Nat) (v : W32) (st : Status) : (s.postQuiet t v st).2.pending = s.pending := (frame_postQuiet s t v st).pending

/-! #### `State.post` -/

@[simp] theorem State.shadow_post (s : State) (t : Nat) (v : W32) (st : Status) : (s.post t v st).2.shadow = s.shadow := (frame_post s t v st).shadow
@[simp] theorem State.latch_post (s : State) (t : Nat) (v : W32) (st : Status) : (s.post t v st).2.latch = s.latch := (frame_post s t v st).latch
@[simp] theorem State.mem_post (s : State) (t : Nat) (v : W32) (st : Status) : (s.post t v st).2.mem = s.mem := (frame_post s t v st).mem
@[simp] theorem State.slots_post (s : State) (t : Nat) (v : W32) (st : Status) : (s.post t v st).2.slots = s.slots := (frame_post s t v st).slots
@[simp] theorem State.cores_post (s : State) (t : Nat) (v : W32) (st : Status) : (s.post t v st).2.cores = s.cores := (frame_post s t v st).cores
@[simp] theorem State.tb_post (s : State) (t : Nat) (v : W32) (st : Status) : (s.post t v st).2.tb = s.tb := (frame_post s t v st).tb
@[simp] theorem State.shp_post (s : State) (t : Nat) (v : W32) (st : Status) : (s.post t v st).2.shp = s.shp := (frame_post s t v st).shp
@[simp] theorem State.flt_post (s : State) (t : Nat) (v : W32) (st : Status) : (s.post t v st).2.flt = s.flt := (frame_post s t v st).flt
@[simp] theorem State.drc_post (s : State) (t : Nat) (v : W32) (st : Status) : (s.post t v st).2.drc = s.drc := (frame_post s t v st).drc
@[simp] theorem State.sau_post (s : State) (t : Nat) (v : W32) (st : Status) : (s.post t v st).2.sau = s.sau := (frame_post s t v st).sau
@[simp] theorem State.bsn_post (s : State) (t : Nat) (v : W32) (st : Status) : (s.post t v st).2.bsn = s.bsn := (frame_post s t v st).bsn
@[simp] theorem State.tbl_post (s : State) (t : Nat) (v : W32) (st : Status) : (s.post t v st).2.tbl = s.tbl := (frame_post s t v st).tbl
@[simp] theorem State.prt_post (s : State) (t : Nat) (v : W32) (st : Status) : (s.post t v st).2.prt = s.prt := (frame_post s t v st).prt
@[simp] theorem State.brg_post (s : State) (t : Nat) (v : W32) (st : Status) : (s.post t v st).2.brg = s.brg := (frame_post s t v st).brg
@[simp] theorem State.sec_post (s : State) (t : Nat) (v : W32) (st : Status) : (s.post t v st).2.sec = s.sec := (frame_post s t v st).sec
@[simp] theorem State.lcs_post (s : State) (t : Nat) (v : W32) (st : Status) : (s.post t v st).2.lcs = s.lcs := (frame_post s t v st).lcs
@[simp] theorem State.jtag_post (s : State) (t : Nat) (v : W32) (st : Status) : (s.post t v st).2.jtag = s.jtag := (frame_post s t v st).jtag
@[simp] theorem State.boot_post (s : State) (t : Nat) (v : W32) (st : Status) : (s.post t v st).2.boot = s.boot := (frame_post s t v st).boot
@[simp] theorem State.pwr_post (s : State) (t : Nat) (v : W32) (st : Status) : (s.post t v st).2.pwr = s.pwr := (frame_post s t v st).pwr
@[simp] theorem State.uni_post (s : State) (t : Nat) (v : W32) (st : Status) : (s.post t v st).2.uni = s.uni := (frame_post s t v st).uni
@[simp] theorem State.tnt_post (s : State) (t : Nat) (v : W32) (st : Status) : (s.post t v st).2.tnt = s.tnt := (frame_post s t v st).tnt
@[simp] theorem State.ful_post (s : State) (t : Nat) (v : W32) (st : Status) : (s.post t v st).2.ful = s.ful := (frame_post s t v st).ful
@[simp] theorem State.shf_post (s : State) (t : Nat) (v : W32) (st : Status) : (s.post t v st).2.shf = s.shf := (frame_post s t v st).shf
@[simp] theorem State.stb_post (s : State) (t : Nat) (v : W32) (st : Status) : (s.post t v st).2.stb = s.stb := (frame_post s t v st).stb
@[simp] theorem State.free_post (s : State) (t : Nat) (v : W32) (st : Status) : (s.post t v st).2.free = s.free := (frame_post s t v st).free
@[simp] theorem State.reply_post (s : State) (t : Nat) (v : W32) (st : Status) : (s.post t v st).2.reply = s.reply := (frame_post s t v st).reply
@[simp] theorem State.pending_post (s : State) (t : Nat) (v : W32) (st : Status) : (s.post t v st).2.pending = s.pending := (frame_post s t v st).pending

/-! #### `State.postArrival` -/

@[simp] theorem State.shadow_postArrival (s : State) (p k : Nat) : (s.postArrival p k).2.shadow = s.shadow := (frame_postArrival s p k).shadow
@[simp] theorem State.latch_postArrival (s : State) (p k : Nat) : (s.postArrival p k).2.latch = s.latch := (frame_postArrival s p k).latch
@[simp] theorem State.mem_postArrival (s : State) (p k : Nat) : (s.postArrival p k).2.mem = s.mem := (frame_postArrival s p k).mem
@[simp] theorem State.slots_postArrival (s : State) (p k : Nat) : (s.postArrival p k).2.slots = s.slots := (frame_postArrival s p k).slots
@[simp] theorem State.cores_postArrival (s : State) (p k : Nat) : (s.postArrival p k).2.cores = s.cores := (frame_postArrival s p k).cores
@[simp] theorem State.tb_postArrival (s : State) (p k : Nat) : (s.postArrival p k).2.tb = s.tb := (frame_postArrival s p k).tb
@[simp] theorem State.shp_postArrival (s : State) (p k : Nat) : (s.postArrival p k).2.shp = s.shp := (frame_postArrival s p k).shp
@[simp] theorem State.flt_postArrival (s : State) (p k : Nat) : (s.postArrival p k).2.flt = s.flt := (frame_postArrival s p k).flt
@[simp] theorem State.drc_postArrival (s : State) (p k : Nat) : (s.postArrival p k).2.drc = s.drc := (frame_postArrival s p k).drc
@[simp] theorem State.sau_postArrival (s : State) (p k : Nat) : (s.postArrival p k).2.sau = s.sau := (frame_postArrival s p k).sau
@[simp] theorem State.bsn_postArrival (s : State) (p k : Nat) : (s.postArrival p k).2.bsn = s.bsn := (frame_postArrival s p k).bsn
@[simp] theorem State.tbl_postArrival (s : State) (p k : Nat) : (s.postArrival p k).2.tbl = s.tbl := (frame_postArrival s p k).tbl
@[simp] theorem State.prt_postArrival (s : State) (p k : Nat) : (s.postArrival p k).2.prt = s.prt := (frame_postArrival s p k).prt
@[simp] theorem State.brg_postArrival (s : State) (p k : Nat) : (s.postArrival p k).2.brg = s.brg := (frame_postArrival s p k).brg
@[simp] theorem State.sec_postArrival (s : State) (p k : Nat) : (s.postArrival p k).2.sec = s.sec := (frame_postArrival s p k).sec
@[simp] theorem State.lcs_postArrival (s : State) (p k : Nat) : (s.postArrival p k).2.lcs = s.lcs := (frame_postArrival s p k).lcs
@[simp] theorem State.jtag_postArrival (s : State) (p k : Nat) : (s.postArrival p k).2.jtag = s.jtag := (frame_postArrival s p k).jtag
@[simp] theorem State.boot_postArrival (s : State) (p k : Nat) : (s.postArrival p k).2.boot = s.boot := (frame_postArrival s p k).boot
@[simp] theorem State.pwr_postArrival (s : State) (p k : Nat) : (s.postArrival p k).2.pwr = s.pwr := (frame_postArrival s p k).pwr
@[simp] theorem State.uni_postArrival (s : State) (p k : Nat) : (s.postArrival p k).2.uni = s.uni := (frame_postArrival s p k).uni
@[simp] theorem State.tnt_postArrival (s : State) (p k : Nat) : (s.postArrival p k).2.tnt = s.tnt := (frame_postArrival s p k).tnt
@[simp] theorem State.ful_postArrival (s : State) (p k : Nat) : (s.postArrival p k).2.ful = s.ful := (frame_postArrival s p k).ful
@[simp] theorem State.shf_postArrival (s : State) (p k : Nat) : (s.postArrival p k).2.shf = s.shf := (frame_postArrival s p k).shf
@[simp] theorem State.stb_postArrival (s : State) (p k : Nat) : (s.postArrival p k).2.stb = s.stb := (frame_postArrival s p k).stb
@[simp] theorem State.free_postArrival (s : State) (p k : Nat) : (s.postArrival p k).2.free = s.free := (frame_postArrival s p k).free
@[simp] theorem State.reply_postArrival (s : State) (p k : Nat) : (s.postArrival p k).2.reply = s.reply := (frame_postArrival s p k).reply
@[simp] theorem State.pending_postArrival (s : State) (p k : Nat) : (s.postArrival p k).2.pending = s.pending := (frame_postArrival s p k).pending

/-! #### `State.refuse` -/

@[simp] theorem State.shadow_refuse (s : State) (ag : Agent) (a : Nat) (st : Status) : (s.refuse ag a st).shadow = s.shadow := by unfold State.refuse; simp only [State.shadow_status]; split <;> split <;> simp
@[simp] theorem State.latch_refuse (s : State) (ag : Agent) (a : Nat) (st : Status) : (s.refuse ag a st).latch = s.latch := by unfold State.refuse; simp only [State.latch_status]; split <;> split <;> simp
@[simp] theorem State.mem_refuse (s : State) (ag : Agent) (a : Nat) (st : Status) : (s.refuse ag a st).mem = s.mem := by unfold State.refuse; simp only [State.mem_status]; split <;> split <;> simp
@[simp] theorem State.slots_refuse (s : State) (ag : Agent) (a : Nat) (st : Status) : (s.refuse ag a st).slots = s.slots := by unfold State.refuse; simp only [State.slots_status]; split <;> split <;> simp
@[simp] theorem State.cores_refuse (s : State) (ag : Agent) (a : Nat) (st : Status) : (s.refuse ag a st).cores = s.cores := by unfold State.refuse; simp only [State.cores_status]; split <;> split <;> simp
@[simp] theorem State.tb_refuse (s : State) (ag : Agent) (a : Nat) (st : Status) : (s.refuse ag a st).tb = s.tb := by unfold State.refuse; simp only [State.tb_status]; split <;> split <;> simp
@[simp] theorem State.shp_refuse (s : State) (ag : Agent) (a : Nat) (st : Status) : (s.refuse ag a st).shp = s.shp := by unfold State.refuse; simp only [State.shp_status]; split <;> split <;> simp
@[simp] theorem State.flt_refuse (s : State) (ag : Agent) (a : Nat) (st : Status) : (s.refuse ag a st).flt = s.flt := by unfold State.refuse; simp only [State.flt_status]; split <;> split <;> simp
@[simp] theorem State.drc_refuse (s : State) (ag : Agent) (a : Nat) (st : Status) : (s.refuse ag a st).drc = s.drc := by unfold State.refuse; simp only [State.drc_status]; split <;> split <;> simp
@[simp] theorem State.sau_refuse (s : State) (ag : Agent) (a : Nat) (st : Status) : (s.refuse ag a st).sau = s.sau := by unfold State.refuse; simp only [State.sau_status]; split <;> split <;> simp
@[simp] theorem State.bsn_refuse (s : State) (ag : Agent) (a : Nat) (st : Status) : (s.refuse ag a st).bsn = s.bsn := by unfold State.refuse; simp only [State.bsn_status]; split <;> split <;> simp
@[simp] theorem State.tbl_refuse (s : State) (ag : Agent) (a : Nat) (st : Status) : (s.refuse ag a st).tbl = s.tbl := by unfold State.refuse; simp only [State.tbl_status]; split <;> split <;> simp
@[simp] theorem State.prt_refuse (s : State) (ag : Agent) (a : Nat) (st : Status) : (s.refuse ag a st).prt = s.prt := by unfold State.refuse; simp only [State.prt_status]; split <;> split <;> simp
@[simp] theorem State.brg_refuse (s : State) (ag : Agent) (a : Nat) (st : Status) : (s.refuse ag a st).brg = s.brg := by unfold State.refuse; simp only [State.brg_status]; split <;> split <;> simp
@[simp] theorem State.sec_refuse (s : State) (ag : Agent) (a : Nat) (st : Status) : (s.refuse ag a st).sec = s.sec := by unfold State.refuse; simp only [State.sec_status]; split <;> split <;> simp
@[simp] theorem State.lcs_refuse (s : State) (ag : Agent) (a : Nat) (st : Status) : (s.refuse ag a st).lcs = s.lcs := by unfold State.refuse; simp only [State.lcs_status]; split <;> split <;> simp
@[simp] theorem State.jtag_refuse (s : State) (ag : Agent) (a : Nat) (st : Status) : (s.refuse ag a st).jtag = s.jtag := by unfold State.refuse; simp only [State.jtag_status]; split <;> split <;> simp
@[simp] theorem State.boot_refuse (s : State) (ag : Agent) (a : Nat) (st : Status) : (s.refuse ag a st).boot = s.boot := by unfold State.refuse; simp only [State.boot_status]; split <;> split <;> simp
@[simp] theorem State.pwr_refuse (s : State) (ag : Agent) (a : Nat) (st : Status) : (s.refuse ag a st).pwr = s.pwr := by unfold State.refuse; simp only [State.pwr_status]; split <;> split <;> simp
@[simp] theorem State.uni_refuse (s : State) (ag : Agent) (a : Nat) (st : Status) : (s.refuse ag a st).uni = s.uni := by unfold State.refuse; simp only [State.uni_status]; split <;> split <;> simp
@[simp] theorem State.tnt_refuse (s : State) (ag : Agent) (a : Nat) (st : Status) : (s.refuse ag a st).tnt = s.tnt := by unfold State.refuse; simp only [State.tnt_status]; split <;> split <;> simp
@[simp] theorem State.ful_refuse (s : State) (ag : Agent) (a : Nat) (st : Status) : (s.refuse ag a st).ful = s.ful := by unfold State.refuse; simp only [State.ful_status]; split <;> split <;> simp
@[simp] theorem State.shf_refuse (s : State) (ag : Agent) (a : Nat) (st : Status) : (s.refuse ag a st).shf = s.shf := by unfold State.refuse; simp only [State.shf_status]; split <;> split <;> simp
@[simp] theorem State.stb_refuse (s : State) (ag : Agent) (a : Nat) (st : Status) : (s.refuse ag a st).stb = s.stb := by unfold State.refuse; simp only [State.stb_status]; split <;> split <;> simp
@[simp] theorem State.free_refuse (s : State) (ag : Agent) (a : Nat) (st : Status) : (s.refuse ag a st).free = s.free := by unfold State.refuse; simp only [State.free_status]; split <;> split <;> simp
@[simp] theorem State.pending_refuse (s : State) (ag : Agent) (a : Nat) (st : Status) : (s.refuse ag a st).pending = s.pending := by unfold State.refuse; simp only [State.pending_status]; split <;> split <;> simp

/-! ### Registers -/

/-- The register keys that raising an event writes: EVR_PEND, EVR_PINCFG and EVR_SECNOTE up to EVR_COUNT. -/
def evrKey (a : Nat) : Prop := 0x120C00 ≤ a ∧ a < 0x121C00

theorem reg_matchLoop (k : Nat) : ∀ (s : State) (a : Nat), (matchLoop k s).reg a = s.reg a := by
  induction k with
  | zero => intro s a; rfl
  | succ k ih =>
    intro s a
    unfold matchLoop
    split
    · rfl
    · split
      · rfl
      · rw [ih]; rfl

@[simp] theorem State.reg_matching (s : State) (a : Nat) : s.matching.reg a = s.reg a := reg_matchLoop _ s a

@[simp] theorem State.reg_enqueue (s : State) (t : Nat) (k : Token) (a : Nat) : (s.enqueue t k).reg a = s.reg a := by
  simp [State.enqueue]

@[simp] theorem State.reg_postQuiet (s : State) (t : Nat) (v : W32) (st : Status) (a : Nat) :
    (s.postQuiet t v st).2.reg a = s.reg a := by
  unfold State.postQuiet
  split
  · rfl
  · split <;> simp

@[simp] theorem State.reg_sendMsix (s : State) (v a : Nat) : (s.sendMsix v).reg a = s.reg a := by
  have h : ∀ b : Bool, (if b = true then s.count 0x120E18
      else if (s.tnt.busMaster && s.msix.enable && !s.msix.fmask && SMap.get (fun _ => false) s.msix.unmasked v) = true then
        { s with msix := { s.msix with sent := s.msix.sent ++ [v] } }
      else { s with msix := { s.msix with pend := SMap.set (fun _ => false) s.msix.pend v true } }).reg a = s.reg a := by
    intro b
    split
    · rfl
    · split <;> rfl
  exact h _

@[simp] theorem State.reg_deliverToken (s : State) (e t a : Nat) : (s.deliverToken e t).reg a = s.reg a := by
  have hp := State.reg_postQuiet s t (s.eventValue e) .ok a
  unfold State.deliverToken
  split
  · rfl
  · split <;> rename_i h <;> rw [h] at hp
    · exact hp
    · simpa using hp

@[simp] theorem State.reg_deliverPin (s : State) (p a : Nat) : (s.deliverPin p).reg a = s.reg a := by
  unfold State.deliverPin
  simp only
  split <;> rfl

@[simp] theorem State.reg_deliver (s : State) (e a : Nat) : (s.deliver e).reg a = s.reg a := by
  unfold State.deliver
  simp only
  split
  · simp only [State.reg_deliverToken]; rfl
  · simp only [State.reg_count, State.reg_sendMsix]; rfl
  · simp only [State.reg_deliverToken]; rfl
  · simp only [State.reg_deliverPin]; rfl
  · rfl

theorem State.reg_recordRaise (s : State) {e a : Nat} (he : e < 768) (ha : ¬ evrKey a) :
    (s.recordRaise e).reg a = s.reg a := by
  unfold evrKey at ha
  rw [recordRaise_eq, State.reg_count, State.reg_setReg_ne, State.reg_setReg_ne]
  · show a ≠ 0x120c00 + 0x4 * (e / 32); omega
  · show a ≠ 0x121000 + 0x4 * e; omega

theorem State.reg_raiseOne (s : State) {e a : Nat} (he : e < 768) (ha : ¬ evrKey a) :
    (s.raiseOne e).reg a = s.reg a := by
  unfold State.raiseOne
  simp only
  split <;> simp [State.reg_recordRaise s he ha]

theorem State.reg_raiseMirror (s : State) {e a : Nat} (he : e < 768) (ha : ¬ evrKey a) :
    (s.raiseMirror e).reg a = s.reg a := by
  unfold State.raiseMirror
  simp only
  split
  · rw [State.reg_raiseOne _ (by decide) ha, State.reg_setReg_ne, State.reg_raiseOne s he ha]
    unfold evrKey at ha; unfold A.evrSecnote; omega
  · exact State.reg_raiseOne s he ha

theorem State.reg_raiseFirst0 (s : State) {e a : Nat} (he : e < 768) (ha : ¬ evrKey a) :
    (s.raiseFirst0 e).reg a = s.reg a := by
  unfold State.raiseFirst0
  split
  · rfl
  · exact State.reg_raiseMirror _ he ha

theorem State.reg_tokenWatch (s : State) (b : W64) {a : Nat} (ha : ¬ evrKey a) :
    (s.tokenWatch b).reg a = s.reg a := by
  unfold State.tokenWatch
  simp only
  split <;> split <;> simp [State.reg_raiseFirst0 _ _ ha]

/-- Raising an event leaves every register outside EVR alone. -/
theorem State.reg_raise (s : State) {e a : Nat} (he : e < 768) (ha : ¬ evrKey a) : (s.raise e).reg a = s.reg a := by
  unfold State.raise
  rw [State.reg_tokenWatch _ _ ha, State.reg_raiseMirror s he ha]

theorem State.reg_raiseFirst (s : State) {e a : Nat} (he : e < 768) (ha : ¬ evrKey a) :
    (s.raiseFirst e).reg a = s.reg a := by
  unfold State.raiseFirst
  split
  · rfl
  · exact State.reg_raise _ he ha

/-- Posting a token leaves every register outside EVR alone. -/
theorem State.reg_post (s : State) (t : Nat) (v : W32) (st : Status) {a : Nat} (ha : ¬ evrKey a) :
    (s.post t v st).2.reg a = s.reg a := by
  unfold State.post
  rw [State.reg_tokenWatch _ _ ha, State.reg_postQuiet]

theorem State.reg_postReserved (s : State) (t : Nat) (v : W32) (st : Status) {a : Nat} (ha : ¬ evrKey a) :
    (s.postReserved t v st).reg a = s.reg a := by
  unfold State.postReserved
  rw [State.reg_tokenWatch _ _ ha, State.reg_enqueue]
  unfold State.unreserve
  split <;> rfl

theorem State.reg_postArrival (s : State) (p k : Nat) {a : Nat} (ha : ¬ evrKey a) :
    (s.postArrival p k).2.reg a = s.reg a := by
  unfold State.postArrival
  simp only
  split
  · rw [State.reg_tokenWatch _ _ ha, State.reg_count]
  · rw [State.reg_tokenWatch _ _ ha, State.reg_enqueue]

/-- Logging a refused host access leaves every register outside EVR and TNT_HERR alone. -/
theorem State.reg_logHost (s : State) (o : Nat) (st : Status) (b w : Bool) (ag : Agent) {a : Nat} (ha : ¬ evrKey a)
    (h0 : a ≠ A.tntHerr0) (h1 : a ≠ A.tntHerr1) : (s.logHost o st b w ag).reg a = s.reg a := by
  unfold State.logHost
  simp only
  rw [State.reg_raiseFirst _ (by decide) ha]
  split
  · rw [State.reg_setReg_ne _ _ h1]
  · rw [State.reg_setReg_ne _ _ h1, State.reg_setReg_ne _ _ h0]

/-- Refusing a command answers its status. -/
@[simp] theorem State.reply_refuse (s : State) (ag : Agent) (a : Nat) (st : Status) :
    (s.refuse ag a st).reply.status = st := rfl

/-- A raise sets the event's pending bit (R539). -/
theorem State.recordRaise_pend (s : State) (e : Nat) (he : e < 768) :
    (s.recordRaise e).reg (A.evrPend (e / 32)) = setBit (s.reg (A.evrPend (e / 32))) (e % 32) true := by
  rw [recordRaise_eq, State.reg_count, State.reg_setReg_ne, State.reg_setReg_same]
  show 0x120c00 + 0x4 * (e / 32) ≠ 0x121000 + 0x4 * e
  omega

/-- A refused command leaves every register alone but those of EVR, the host-error log and the tenant's own log. -/
theorem State.reg_refuse (s : State) (ag : Agent) (k : Nat) (st : Status) {a : Nat} (ha : ¬ evrKey a)
    (h0 : a ≠ A.tntHerr0) (h1 : a ≠ A.tntHerr1) (hw : a < 0x1000000) : (s.refuse ag k st).reg a = s.reg a := by
  unfold State.refuse
  simp only [State.reg_status]
  split <;> split
  · rw [State.reg_logHost _ _ _ _ _ _ ha h0 h1, State.reg_setReg_ne]; omega
  · rw [State.reg_logHost _ _ _ _ _ _ ha h0 h1]
  · rw [State.reg_setReg_ne]; omega
  · rfl


end Sys2Proof.Machine
end

