-- ==== Sys2Proof/WellFormed.lean ====
section
/-! DEFINITION. Which commands are well formed: register codes name a register (Table 7-2), agents are assigned
(Table 0-6), and the operands lie in the ranges that the spec gives them. -/

namespace Sys2Proof

/-- A register code that Table 7-2 lists. -/
def codeOk (r : RegCode) : Bool := decide (r.toNat < 24)

/-- An agent ID that Table 0-6 assigns (R26, R27). -/
def agentOk (a : Agent) : Bool :=
  decide (1 ≤ a.toNat ∧ a.toNat ≤ 0x200) || decide (0x400 ≤ a.toNat ∧ a.toNat ≤ 0x41F) || decide (a.toNat = 0x500) ||
    decide (0x600 ≤ a.toNat ∧ a.toNat ≤ 0x607) || decide (0x7F0 ≤ a.toNat ∧ a.toNat ≤ 0x7F3)

/-- The well-formedness of a command. -/
def Instr.wf (i : Instr) : Bool :=
  match i with
  | .registerWrite ag _ _ => agentOk ag
  | .rcRead ag _ => agentOk ag
  | .counterLowRead ag _ => agentOk ag
  | .counterHighRead ag _ => agentOk ag
  | .hostBar0SubwordRead off two => (!two || decide (off.toNat % 2 = 0))
  | .hostBar0SubwordWrite off two _ => (!two || decide (off.toNat % 2 = 0))
  | .hostBar0QwordAccess off _ _ => decide (off.toNat % 8 = 0)
  | .preReadyRequest _ _ => true
  | .preReadyConfigRequest => true
  | .vinGood _ => true
  | .regulators _ _ => true
  | .regulatorRetry _ _ => true
  | .alwaysOn _ => true
  | .otpAndLifeCycle _ => true
  | .batteryDomainAndTamper => true
  | .wardenRomSelfTest _ => true
  | .flashAndUpdateRecord _ => true
  | .imageSelectAndVerify => true
  | .shapeLoad => true
  | .sramRepairAndInitialisation _ => true
  | .timebasePll _ => true
  | .dramATraining _ _ _ _ _ => true
  | .dramBTraining _ _ _ _ _ => true
  | .serdesCalibration _ => true
  | .pcieLink => true
  | .coreSelfTestAndQuarantine _ => true
  | .governorCalibration cal _ => decide (cal.length = 64)
  | .tableInitialisation _ => true
  | .secureWorldStart _ => true
  | .ready _ _ _ => true
  | .startStepTimeout => true
  | .internalRestart => true
  | .powerOnReset _ => true
  | .perstAssert => true
  | .perstRelease => true
  | .softReset ag _ => agentOk ag
  | .retryAll ag _ => agentOk ag
  | .secureWatchdogReset => true
  | .functionLevelReset _ => true
  | .flrComplete => true
  | .shpApply ag => agentOk ag
  | .shpAbandon ag => agentOk ag
  | .deltaCheckDone => true
  | .deltaPrepareDone _ => true
  | .reshapeDrainTimeout => true
  | .turn => true
  | .turnFenceBegin => true
  | .heldWritesApply => true
  | .correctionEdge => true
  | .tbRateWrite ag _ => agentOk ag
  | .tbPeriodWrite ag _ => agentOk ag
  | .tbPhaseWrite ag _ => agentOk ag
  | .stepArm ag _ => agentOk ag
  | .snapshotTake ag => agentOk ag
  | .tbNowRead ag => agentOk ag
  | .shadowReadback ag => agentOk ag
  | .armGroups ag _ => agentOk ag
  | .disarmGroups ag _ => agentOk ag
  | .frameArrival _ bytes => decide (14 ≤ bytes.length)
  | .frameAdmission _ => true
  | .arrivalTokenHoldExpiry _ => true
  | .frameFcsReceived _ _ => true
  | .frameOversize _ => true
  | .lookupResult _ _ => true
  | .sendCtl _ _ => true
  | .verdictRoute _ _ => true
  | .verdictDrop _ _ => true
  | .verdictConsumeKeep _ _ => true
  | .verdictConsumeFree _ _ => true
  | .towpathRelease _ _ => true
  | .egressFcsReached _ => true
  | .classmapWrite ag _ => agentOk ag
  | .dropLogResize ag _ => agentOk ag
  | .add _ rd ra rb => codeOk rd && codeOk ra && codeOk rb
  | .addc _ rd ra rb => codeOk rd && codeOk ra && codeOk rb
  | .sub _ rd ra rb => codeOk rd && codeOk ra && codeOk rb
  | .subc _ rd ra rb => codeOk rd && codeOk ra && codeOk rb
  | .andR _ rd ra rb => codeOk rd && codeOk ra && codeOk rb
  | .orR _ rd ra rb => codeOk rd && codeOk ra && codeOk rb
  | .xor _ rd ra rb => codeOk rd && codeOk ra && codeOk rb
  | .andn _ rd ra rb => codeOk rd && codeOk ra && codeOk rb
  | .shl _ rd ra rb => codeOk rd && codeOk ra && codeOk rb
  | .shr _ rd ra rb => codeOk rd && codeOk ra && codeOk rb
  | .sar _ rd ra rb => codeOk rd && codeOk ra && codeOk rb
  | .ror _ rd ra rb => codeOk rd && codeOk ra && codeOk rb
  | .shli _ rd ra _ => codeOk rd && codeOk ra
  | .shri _ rd ra _ => codeOk rd && codeOk ra
  | .sari _ rd ra _ => codeOk rd && codeOk ra
  | .rori _ rd ra _ => codeOk rd && codeOk ra
  | .mul _ rd ra rb => codeOk rd && codeOk ra && codeOk rb
  | .mulh _ rd ra rb => codeOk rd && codeOk ra && codeOk rb
  | .mulhu _ rd ra rb => codeOk rd && codeOk ra && codeOk rb
  | .cmp _ ra rb => codeOk ra && codeOk rb
  | .tst _ ra rb => codeOk ra && codeOk rb
  | .clz _ rd ra => codeOk rd && codeOk ra
  | .addi _ rd ra _ => codeOk rd && codeOk ra
  | .andi _ rd ra _ => codeOk rd && codeOk ra
  | .ori _ rd ra _ => codeOk rd && codeOk ra
  | .xori _ rd ra _ => codeOk rd && codeOk ra
  | .cmpi _ ra _ => codeOk ra
  | .lui _ rd _ => codeOk rd
  | .ld _ rd rb _ _ _ => codeOk rd && codeOk rb
  | .lds _ rd rb _ _ _ => codeOk rd && codeOk rb
  | .st _ rd rb _ _ _ => codeOk rd && codeOk rb
  | .aliasClaim _ rs rb _ => codeOk rs && codeOk rb
  | .aliasRelease _ rs rb _ => codeOk rs && codeOk rb
  | .postedStorePerformed _ _ => true
  | .holdComplete _ => true
  | .amoFadd _ rd rb ra _ => codeOk rd && codeOk rb && codeOk ra
  | .amoSwap _ rd rb ra _ => codeOk rd && codeOk rb && codeOk ra
  | .amoCas _ rd rb ra _ => codeOk rd && codeOk rb && codeOk ra
  | .amoMin _ rd rb ra _ => codeOk rd && codeOk rb && codeOk ra
  | .amoMax _ rd rb ra _ => codeOk rd && codeOk rb && codeOk ra
  | .amoMinu _ rd rb ra _ => codeOk rd && codeOk rb && codeOk ra
  | .amoMaxu _ rd rb ra _ => codeOk rd && codeOk rb && codeOk ra
  | .amoWadd _ rd rb ra => codeOk rd && codeOk rb && codeOk ra
  | .sync _ => true
  | .nop _ => true
  | .ild _ rd ra _ => codeOk rd && codeOk ra
  | .inIo _ r _ => codeOk r
  | .outIo _ r _ => codeOk r
  | .inx _ rd ra _ => codeOk rd && codeOk ra
  | .outx _ rd ra _ => codeOk rd && codeOk ra
  | .bcc _ _ _ _ => true
  | .jmp _ _ => true
  | .call _ _ => true
  | .jmpr _ ra => codeOk ra
  | .callr _ ra => codeOk ra
  | .ret _ => true
  | .enter _ => true
  | .leave _ => true
  | .trap _ _ => true
  | .texit _ ra => codeOk ra
  | .rds _ rd _ => codeOk rd
  | .wrs _ _ ra => codeOk ra
  | .rspush _ ra => codeOk ra
  | .rspop _ rd => codeOk rd
  | .take _ => true
  | .wait _ ra rb _ => codeOk ra && codeOk rb
  | .give _ ra rb => codeOk ra && codeOk rb
  | .crc _ rd ra rb _ _ => codeOk rd && codeOk ra && codeOk rb
  | .bfxu _ rd ra _ _ => codeOk rd && codeOk ra
  | .bfxs _ rd ra _ _ => codeOk rd && codeOk ra
  | .bfi _ rd ra _ _ => codeOk rd && codeOk ra
  | .macs _ rd ra rb _ _ => codeOk rd && codeOk ra && codeOk rb
  | .cselSel _ rd ra rb _ => codeOk rd && codeOk ra && codeOk rb
  | .cselMinmax _ rd ra rb _ => codeOk rd && codeOk ra && codeOk rb
  | .dce _ rd ra rb _ => codeOk rd && codeOk ra && codeOk rb
  | .dcd _ rd ra rb _ => codeOk rd && codeOk ra && codeOk rb
  | .divs _ rd ra rb => codeOk rd && codeOk ra && codeOk rb
  | .divu _ rd ra rb => codeOk rd && codeOk ra && codeOk rb
  | .divq _ rd ra rb => codeOk rd && codeOk ra && codeOk rb
  | .sqrtu _ rd ra => codeOk rd && codeOk ra
  | .sqrtq _ rd ra => codeOk rd && codeOk ra
  | .hash _ rd ra _ => codeOk rd && codeOk ra
  | .lkup _ ra rb _ => codeOk ra && codeOk rb
  | .lkupResult _ => true
  | .fsub _ ra rb => codeOk ra && codeOk rb
  | .sprd _ ra rb => codeOk ra && codeOk rb
  | .lkCreate _ _ => true
  | .threadCreate _ => true
  | .lkExit _ _ => true
  | .threadExit _ => true
  | .lkAbort _ _ => true
  | .lkpAbort ag _ => agentOk ag
  | .lkWaittmo _ _ => true
  | .lkPrio _ _ => true
  | .lkTmarm _ _ => true
  | .timerExpiry _ => true
  | .waitTimeout _ => true
  | .dispatch _ => true
  | .saveAreaPresent _ => true
  | .coreQuarantine _ _ => true
  | .lkpQcmdQuarantine ag _ => agentOk ag
  | .lkpQcmdReturn ag _ => agentOk ag
  | .coreReturnPrepared _ => true
  | .contextFillComplete _ _ => true
  | .alloc ag _ => agentOk ag
  | .allocp ag _ => agentOk ag
  | .allocc ag _ => agentOk ag
  | .allocb ag => agentOk ag
  | .free ag _ => agentOk ag
  | .chainCellReturn => true
  | .xfer ag _ => agentOk ag
  | .chain ag _ => agentOk ag
  | .split ag _ => agentOk ag
  | .next ag _ => agentOk ag
  | .spill ag _ => agentOk ag
  | .spillCopyDone _ => true
  | .fill ag _ => agentOk ag
  | .fillCopyDone _ => true
  | .fillTokenRetry => true
  | .reclaim ag _ => agentOk ag
  | .tableAdd ag _ _ _ => agentOk ag
  | .tableDel ag _ _ _ => agentOk ag
  | .tableFence ag _ _ _ => agentOk ag
  | .fenceComplete => true
  | .tableFlush ag _ _ _ => agentOk ag
  | .tableRehash ag _ _ _ => agentOk ag
  | .rehashComplete _ => true
  | .rehashFail _ => true
  | .tableRead ag _ _ _ => agentOk ag
  | .tableTokenRetry => true
  | .learnInsert => true
  | .ageingSweep => true
  | .brgCommit ag _ => agentOk ag
  | .commitCopyDone ag => agentOk ag
  | .bargeSeal _ => true
  | .inboundCheck _ => true
  | .receiveWindowClose _ => true
  | .admitPartner ag => agentOk ag
  | .welcome ag => agentOk ag
  | .release ag => agentOk ag
  | .bind ag => agentOk ag
  | .partnerRead ag => agentOk ag
  | .portLinkUp _ _ _ => true
  | .portReturnCount _ => true
  | .portLeaveService _ => true
  | .pauseReceived _ _ => true
  | .pauseExpiry _ => true
  | .pauseqWrite ag _ _ => agentOk ag
  | .gateEntryBegin _ => true
  | .egressFrameStart _ => true
  | .fragmentPreempt _ => true
  | .egressFrameSent _ => true
  | .verifyFrameSend _ => true
  | .verifyResponse _ => true
  | .tspop ag _ => agentOk ag
  | .mdioWrite ag _ _ _ _ _ _ => agentOk ag
  | .mdioRead ag _ _ _ _ _ => agentOk ag
  | .mdioAddress ag _ _ _ _ _ => agentOk ag
  | .mdioReadIncrement ag _ _ _ _ => agentOk ag
  | .mdioComplete _ _ => true
  | .dramRequestStart _ => true
  | .dramRequestComplete _ _ => true
  | .requestPromotion _ _ => true
  | .refreshPerBank _ _ => true
  | .forcedRefresh _ _ => true
  | .mr4Poll _ _ _ => true
  | .zqCalibrationStart _ => true
  | .zqLatch _ _ => true
  | .selfRefreshAutoEntry _ => true
  | .selfRefreshExit _ => true
  | .srEnter ag _ _ => agentOk ag
  | .srHeldEntered _ => true
  | .srExit ag _ => agentOk ag
  | .srExitComplete _ => true
  | .zeroFillComplete _ _ => true
  | .scrubRead _ _ => true
  | .semaphoreClaim ag _ _ => agentOk ag
  | .semaphoreRelease ag _ => agentOk ag
  | .semaphoreAcknowledge ag _ => agentOk ag
  | .forceRelease ag _ => agentOk ag
  | .groupWrite ag _ _ => agentOk ag
  | .watchArm ag _ _ => agentOk ag
  | .watchDisarm ag _ _ => agentOk ag
  | .watchTokenRetry => true
  | .hostAtomicFadd ag _ => agentOk ag
  | .hostAtomicSwap ag _ => agentOk ag
  | .hostAtomicCas ag _ => agentOk ag
  | .hostAtomicMin ag _ => agentOk ag
  | .hostAtomicMax ag _ => agentOk ag
  | .hostAtomicMinu ag _ => agentOk ag
  | .hostAtomicMaxu ag _ => agentOk ag
  | .hostAtomicWadd ag _ => agentOk ag
  | .bar2Read _ n => decide (1 ≤ n.val)
  | .bar2Write _ bytes => decide (bytes ≠ [])
  | .mailboxDoorbell _ => true
  | .mailboxEntryReadFail _ => true
  | .mailboxNop => true
  | .tenantCreate => true
  | .tenantReset => true
  | .tenantSelfReset _ _ => true
  | .tenantResetComplete _ => true
  | .tenantDestroy => true
  | .hostwinSet => true
  | .qpCreate => true
  | .qpDestroy => true
  | .mailboxStatus => true
  | .sqDoorbell _ _ _ => true
  | .cqDoorbell _ _ _ => true
  | .descriptorNop _ _ => true
  | .copyIn _ _ => true
  | .copyOut _ _ => true
  | .tx _ _ => true
  | .hostTxAdmit _ _ _ => true
  | .txWaitExpiry _ _ _ => true
  | .rx _ _ => true
  | .send _ _ => true
  | .recv _ _ => true
  | .descriptorComplete _ _ _ => true
  | .hostFrameDeliver _ _ => true
  | .post ag => agentOk ag
  | .dmaReadTimeout _ _ => true
  | .streamArm ag _ => agentOk ag
  | .streamDisarm ag _ => agentOk ag
  | .streamRestart ag _ => agentOk ag
  | .chunkCellOutput _ => true
  | .chunkRingOutput _ => true
  | .chunkTokenRetry => true
  | .timeArm ag _ _ => agentOk ag
  | .strobeDisarm ag _ => agentOk ag
  | .strobeFire _ => true
  | .strobePulseEnd _ => true
  | .predict _ => true
  | .residual _ => true
  | .captureEdge _ _ => true
  | .capturePop ag _ => agentOk ag
  | .captureEdgeConfig ag _ _ => agentOk ag
  | .shiftTxPush ag _ _ => agentOk ag
  | .shiftRxPop ag _ => agentOk ag
  | .shiftStart ag _ _ => agentOk ag
  | .shiftAbort ag _ => agentOk ag
  | .shiftDisable ag _ _ => agentOk ag
  | .shiftEnable ag _ _ => agentOk ag
  | .shiftStallTimeout _ => true
  | .shiftTokenRetry => true
  | .yield _ => true
  | .pin _ => true
  | .shift _ => true
  | .shiftComplete _ _ _ _ => true
  | .ldx _ => true
  | .push _ => true
  | .delay _ => true
  | .delayExpiry _ => true
  | .waitt _ => true
  | .waittExpiry _ => true
  | .waite _ => true
  | .waiteEdge _ => true
  | .waiteTimeout _ => true
  | .setl _ => true
  | .djnz _ => true
  | .microJmp _ => true
  | .jb _ => true
  | .done _ => true
  | .microNop _ => true
  | .microcodeWrite ag _ => agentOk ag
  | .bankVerify ag _ => agentOk ag
  | .bankVerifyDone => true
  | .routeWrite ag _ _ => agentOk ag
  | .pendClear ag _ _ => agentOk ag
  | .eventTokenRetry => true
  | .evtoutPulseEnd _ => true
  | .loadRoot _ _ => true
  | .loadMem _ _ => true
  | .kdf _ _ => true
  | .kdfOut _ _ => true
  | .unwrap _ _ => true
  | .ecbEncrypt _ _ => true
  | .ecbDecrypt _ _ => true
  | .ctr _ _ => true
  | .cmac _ _ => true
  | .sign _ _ => true
  | .pubkey _ _ => true
  | .clear _ _ => true
  | .sha256 _ _ => true
  | .sha384 _ _ => true
  | .verify _ _ => true
  | .tagWindowClose => true
  | .secureHoldWrite _ _ _ => true
  | .install _ _ => true
  | .generate _ => true
  | .tamperDetect _ _ _ => true
  | .rngReq _ _ => true
  | .randomServe => true
  | .randomTimeout _ => true
  | .entropyFailure => true
  | .entropyStartupComplete => true
  | .watchdogKick _ _ => true
  | .watchdogExpiry => true
  | .wardenReset _ _ => true
  | .wardenStatus ag _ => agentOk ag
  | .random ag _ => agentOk ag
  | .mailboxForward ag _ _ => agentOk ag
  | .mailboxDone _ _ => true
  | .mailboxTimeout => true
  | .challenge ag _ _ => agentOk ag
  | .nonceExpiry => true
  | .lcsRequest ag _ tap bytes => agentOk ag && (!tap || decide (bytes.length = 240))
  | .transition _ _ => true
  | .transitionWipe => true
  | .debugGrant => true
  | .debugRevoke ag _ => agentOk ag
  | .debugGrantExpiry => true
  | .updBegin ag _ => agentOk ag
  | .updData ag _ _ => agentOk ag
  | .updVerify ag _ => agentOk ag
  | .updActivate ag _ => agentOk ag
  | .updConfirm ag _ => agentOk ag
  | .updAbort ag _ => agentOk ag
  | .updStatus ag _ => agentOk ag
  | .scrapRaw _ _ => true
  | .otpProg _ _ => true
  | .nmem _ _ _ => true
  | .ncoreHalt _ _ code => decide (code.toNat < 30)
  | .ncoreStep _ _ code => decide (code.toNat < 30)
  | .ncoreResume _ _ code => decide (code.toNat < 30)
  | .smem _ _ _ => true
  | .scoreHalt _ code => decide (code.toNat < 30)
  | .scoreStep _ code => decide (code.toNat < 30)
  | .scoreResume _ code => decide (code.toNat < 30)
  | .debugIdcode => true
  | .extest _ => true
  | .intest _ => true
  | .samplePreload _ _ => true
  | .idcode => true
  | .clamp => true
  | .highz => true
  | .bypass _ => true
  | .domainOn ag _ => agentOk ag
  | .domainRetain ag _ => agentOk ag
  | .domainOff ag _ => agentOk ag
  | .domainSwitchComplete _ _ => true
  | .clockGate ag _ => agentOk ag
  | .governorDecision pm rpl => decide (pm.length = 64 ∧ rpl.length = 64)
  | .temperatureSample tj => decide (tj.length = 12)
  | .thermalRecovery => true
  | .railSample mv _ => decide (mv.length = 8)
  | .undefinedInstruction _ _ => true
  | .configurationWrite _ _ _ _ => true
  | .linkLossDuringBringUp => true
  | .srAutoExitComplete _ => true
  | .laneRecalibrationComplete _ => true
  | .entropyFailureCountReset => true
  | .testLogicReset => true

end Sys2Proof
end

