-- ==== Sys2Proof/Tests/Slice0.lean ====
section
/-! SUPPORT. Tests: what WellFormed refuses, single steps on small states with results from the spec's own tables and examples,
and a witness for the hypotheses of each statement. -/

namespace Sys2Proof.Machine

set_option Elab.async false

/-- Command `c` answers a next state from `s`, and that state passes `p`. -/
def after (c : Instr) (s : State) (p : State → Bool) : Bool :=
  match exec c s with
  | .next t => p t
  | _ => false

/-- After S20, with the host's enables set, in the FIELD state, with every domain ON. -/
def stLive : State :=
  { State.reset with
    regs := [(A.pwrPdstat 0, 0xAAAAAAAA#32), (A.pwrPdstat 1, 0xAAAAAAAA#32), (A.pwrPdstat 2, 0xAAAAAAAA#32),
             (A.pwrPdstat 3, 0xAAAAAAAA#32), (A.pwrPdstat 4, 0xAAAAAAAA#32), (A.pwrPdstat 5, 0xAA#32)],
    boot := { State.reset.boot with running := false, step := 20, l0 := true },
    tnt := { State.reset.tnt with memSpace := true, busMaster := true },
    lcs := { State.reset.lcs with otp := { State.reset.lcs.otp with groups := [7#3, 7#3, 7#3, 0#3, 0#3] } } }

/-- A record of a frame of port 0 and class C1 with nothing written yet. -/
def recNew : FrameRec :=
  { port := 0, cls := 1, runahead := false, fcsDone := false, fcsBad := false, stomp := false, tagged := false,
    redispatched := false, standing := false, seq := 0#16, len := 0, buf := 0#32, admitAt := 0#64, res := [0#32, 0#32, 0#32],
    epoch := [0#16, 0#16, 0#16], lk := [0, 0, 0], hostq := 0#8, egress := 0#16, queue := 0, lastPound := 0, verdict := 0#32,
    vlan := 0#16, etype := 0#16, l3off := 0, scratch := [] }

/-- A frame in flight in pound 0. -/
def frameNew : Frame :=
  { fr := recNew, wire := List.replicate 64 0#8, t0 := 0, checking := false, shared := false, admitCycle := 0#32,
    pound := some 0, prevPound := 0, fab := 0, first := true, complete := false, ahead := false, released := false, gen := 0,
    ord := 0, hold := none, learn := none, eg := none, early := false }

/-- Pound 0: an entry pound on core 0 with every register in reach, whose routes are pound 0, pound 1, the towpath and none. -/
def pound0 : PoundCfg :=
  { pound := 0, control := false, program := 0, dramWin := 0, regMask := 0xFFFFFFFF#32, cores := 1#64,
    route := [0, 1, 0xFE, 0xFF], prioBase := 0 }

/-- Pound 1, on core 1. -/
def pound1 : PoundCfg := { pound0 with pound := 1, cores := 2#64 }

/-- Core 0 serves pound 0. -/
def core0 : Core := { Core.init with st := .member, cfg := some pound0 }

/-- Two pounds, and pound 0 is the entry of every class. -/
def fabric2 : Fabric :=
  { pounds := [pound0, pound1], entry := [0, 0, 0, 0], period := 31250 }

/-- A small memory configuration: one pool of 64-byte buffers, one of 2048 bytes, 64 cells, 4 berths; the sequencer, the barge
engine and pounds 0 and 1 are owners; regions for all of shared SRAM, for staging and for the manager. -/
def memCfg2 : MemCfg :=
  { pools := [{ size := 64, count := 8 }, { size := 2048, count := 4 }, { size := 0, count := 0 }, { size := 0, count := 0 },
              { size := 0, count := 0 }, { size := 0, count := 0 }],
    cells := 64, berths := 4, berthSize := 2048, densA := 1, densB := 1,
    owners := [{ agent := 0x600, poolMask := 0x7F#8, ceiling := [100, 100, 100, 100, 100, 100, 100, 100] },
               { agent := 0x604, poolMask := 0x7F#8, ceiling := [100, 100, 100, 100, 100, 100, 100, 100] },
               { agent := 0x1000, poolMask := 0x7F#8, ceiling := [100, 100, 100, 100, 100, 100, 100, 100] }],
    sregions := [{ base := 0, length := 0x10000, kind := 1, read := 0xFFFF#16, write := 0xFFFF#16 },
                 { base := 0x10000, length := 0x10000, kind := 3, read := 0xFFFF#16, write := 0xFFFF#16 },
                 { base := 0x20000, length := 0x10000, kind := 2, read := 0xFFFF#16, write := 0xFFFF#16 }],
    dregions := [{ channel := 0, ecc := false, secure := false, tenantVisible := true, cls := 3, kind := 3, base := 0,
                   length := 1 }] }

/-- A port of 1000 Mb/s. -/
def port1 : PortCfg :=
  { mode := 1, speed := 3, preempt := false, pauseC3 := false, stamp := false, mdio := 0, phy := 0, maxFrame := 1518,
    pcpMap := 0#32, pvid := 1 }

/-- A full shape in effect, in FIELD, with core 0 and core 1 in their pounds. -/
def stShape : State :=
  { stLive with
    shp := { stLive.shp with fabric := fabric2, memory := memCfg2, loaded := true, full := true,
                             ports := List.replicate 8 port1 },
    cores := [(0, core0), (1, { core0 with cfg := some pound1 })] }

/-! ### WellFormed: a term that each check accepts, and a term that each check refuses -/

theorem test_wf_accepts_1 : ([.registerWrite 0x500 0 0, .rcRead 0x500 0, .counterLowRead 0x500 0, .counterHighRead
    0x500 0, .hostBar0SubwordRead 0 false, .hostBar0SubwordWrite 0 false 0, .hostBar0QwordAccess 0 false 0, .shpApply
    0x500, .shpAbandon 0x500, .governorCalibration (List.replicate 64 []) none, .softReset 0x500 0, .retryAll 0x500 0,
    .tbRateWrite 0x500 0, .tbPeriodWrite 0x500 0, .tbPhaseWrite 0x500 0, .stepArm 0x500 0, .snapshotTake 0x500,
    .tbNowRead 0x500, .shadowReadback 0x500, .armGroups 0x500 0, .disarmGroups 0x500 0, .frameArrival 0
    (List.replicate 14 0), .classmapWrite 0x500 0, .dropLogResize 0x500 0, .add 0 0 0 0, .addc 0 0 0 0, .sub 0 0 0 0,
    .subc 0 0 0 0, .andR 0 0 0 0, .orR 0 0 0 0, .xor 0 0 0 0, .andn 0 0 0 0, .shl 0 0 0 0, .shr 0 0 0 0, .sar 0 0 0 0,
    .ror 0 0 0 0, .shli 0 0 0 0, .shri 0 0 0 0, .sari 0 0 0 0, .rori 0 0 0 0] : List Instr).all Instr.wf = true := by
    decide +kernel

theorem test_wf_accepts_2 : ([.mul 0 0 0 0, .mulh 0 0 0 0, .mulhu 0 0 0 0, .cmp 0 0 0, .tst 0 0 0, .clz 0 0 0, .addi 0
    0 0 0, .andi 0 0 0 0, .ori 0 0 0 0, .xori 0 0 0 0, .cmpi 0 0 0, .lui 0 0 0, .ld 0 0 0 0 0 0, .lds 0 0 0 0 0 0, .st
    0 0 0 0 0 0, .aliasClaim 0 0 0 0, .aliasRelease 0 0 0 0, .amoFadd 0 0 0 0 0, .amoSwap 0 0 0 0 0, .amoCas 0 0 0 0
    0, .amoMin 0 0 0 0 0, .amoMax 0 0 0 0 0, .amoMinu 0 0 0 0 0, .amoMaxu 0 0 0 0 0, .amoWadd 0 0 0 0, .ild 0 0 0 0,
    .inIo 0 0 0, .outIo 0 0 0, .inx 0 0 0 0, .outx 0 0 0 0, .jmpr 0 0, .callr 0 0, .texit 0 0, .rds 0 0 0, .wrs 0 0 0,
    .rspush 0 0, .rspop 0 0, .wait 0 0 0 0, .give 0 0 0, .crc 0 0 0 0 0 false] : List Instr).all Instr.wf = true := by
    decide +kernel

theorem test_wf_accepts_3 : ([.bfxu 0 0 0 0 0, .bfxs 0 0 0 0 0, .bfi 0 0 0 0 0, .macs 0 0 0 0 0 false, .cselSel 0 0 0
    0 0, .cselMinmax 0 0 0 0 0, .dce 0 0 0 0 0, .dcd 0 0 0 0 0, .divs 0 0 0 0, .divu 0 0 0 0, .divq 0 0 0 0, .sqrtu 0
    0 0, .sqrtq 0 0 0, .hash 0 0 0 0, .lkup 0 0 0 0, .fsub 0 0 0, .sprd 0 0 0, .lkpAbort 0x500 0, .lkpQcmdQuarantine
    0x500 0, .lkpQcmdReturn 0x500 0, .alloc 0x500 0, .allocp 0x500 0, .allocc 0x500 0, .allocb 0x500, .free 0x500 0,
    .xfer 0x500 0, .chain 0x500 0, .split 0x500 0, .next 0x500 0, .spill 0x500 0, .fill 0x500 0, .reclaim 0x500 0,
    .tableAdd 0x500 0 false 0, .tableDel 0x500 0 false 0, .tableFence 0x500 0 false 0, .tableFlush 0x500 0 false 0,
    .tableRehash 0x500 0 false 0, .tableRead 0x500 0 false 0, .brgCommit 0x500 0, .commitCopyDone 0x500] : List
    Instr).all Instr.wf = true := by decide +kernel

theorem test_wf_accepts_4 : ([.admitPartner 0x500, .welcome 0x500, .release 0x500, .bind 0x500, .partnerRead 0x500,
    .pauseqWrite 0x500 0 0, .tspop 0x500 0, .mdioWrite 0x500 0 0 0 false false 0, .mdioRead 0x500 0 0 0 false false,
    .mdioAddress 0x500 0 0 0 false 0, .mdioReadIncrement 0x500 0 0 0 false, .srEnter 0x500 0 0, .srExit 0x500 0,
    .semaphoreClaim 0x500 0 0, .semaphoreRelease 0x500 0, .semaphoreAcknowledge 0x500 0, .forceRelease 0x500 0,
    .groupWrite 0x500 0 0, .watchArm 0x500 0 0, .watchDisarm 0x500 0 0, .hostAtomicFadd 0x500 0, .hostAtomicSwap 0x500
    0, .hostAtomicCas 0x500 0, .hostAtomicMin 0x500 0, .hostAtomicMax 0x500 0, .hostAtomicMinu 0x500 0,
    .hostAtomicMaxu 0x500 0, .hostAtomicWadd 0x500 0, .bar2Read 0 1, .bar2Write 0 [0], .post 0x500, .streamArm 0x500
    0, .streamDisarm 0x500 0, .streamRestart 0x500 0, .timeArm 0x500 0 0, .strobeDisarm 0x500 0, .capturePop 0x500 0,
    .captureEdgeConfig 0x500 0 0, .shiftTxPush 0x500 0 0, .shiftRxPop 0x500 0] : List Instr).all Instr.wf = true := by
    decide +kernel

theorem test_wf_accepts_5 : ([.shiftStart 0x500 0 0, .shiftAbort 0x500 0, .shiftDisable 0x500 0 0, .shiftEnable 0x500
    0 0, .microcodeWrite 0x500 0, .bankVerify 0x500 0, .routeWrite 0x500 0 0, .pendClear 0x500 0 0, .wardenStatus
    0x500 0, .random 0x500 0, .mailboxForward 0x500 0 0, .challenge 0x500 0 false, .lcsRequest 0x500 0 false [],
    .debugRevoke 0x500 0, .updBegin 0x500 0, .updData 0x500 0 false, .updVerify 0x500 0, .updActivate 0x500 0,
    .updConfirm 0x500 0, .updAbort 0x500 0, .updStatus 0x500 0, .domainOn 0x500 0, .domainRetain 0x500 0, .domainOff
    0x500 0, .clockGate 0x500 0, .governorDecision (List.replicate 64 0) (List.replicate 64 0), .temperatureSample
    (List.replicate 12 0), .railSample (List.replicate 8 0) false, .ncoreHalt 0 0 0, .ncoreStep 0 0 0, .ncoreResume 0
    0 0, .scoreHalt 0 0, .scoreStep 0 0, .scoreResume 0 0] : List Instr).all Instr.wf = true := by decide +kernel

theorem test_wf_refuses_1 : ([.registerWrite 0 0 0, .rcRead 0 0, .counterLowRead 0 0, .counterHighRead 0 0,
    .hostBar0SubwordRead 1 true, .hostBar0SubwordWrite 1 true 0, .hostBar0QwordAccess 4 false 0, .shpApply 0,
    .shpAbandon 0, .governorCalibration [] none, .softReset 0 0, .retryAll 0 0, .tbRateWrite 0 0, .tbPeriodWrite 0 0,
    .tbPhaseWrite 0 0, .stepArm 0 0, .snapshotTake 0, .tbNowRead 0, .shadowReadback 0, .armGroups 0 0, .disarmGroups 0
    0, .frameArrival 0 (List.replicate 13 0), .classmapWrite 0 0, .dropLogResize 0 0, .add 0 24 0 0, .add 0 0 24 0,
    .add 0 0 0 24, .addc 0 24 0 0, .addc 0 0 24 0, .addc 0 0 0 24, .sub 0 24 0 0, .sub 0 0 24 0, .sub 0 0 0 24, .subc
    0 24 0 0, .subc 0 0 24 0, .subc 0 0 0 24, .andR 0 24 0 0, .andR 0 0 24 0, .andR 0 0 0 24, .orR 0 24 0 0] : List
    Instr).any Instr.wf = false := by decide +kernel

theorem test_wf_refuses_2 : ([.orR 0 0 24 0, .orR 0 0 0 24, .xor 0 24 0 0, .xor 0 0 24 0, .xor 0 0 0 24, .andn 0 24 0
    0, .andn 0 0 24 0, .andn 0 0 0 24, .shl 0 24 0 0, .shl 0 0 24 0, .shl 0 0 0 24, .shr 0 24 0 0, .shr 0 0 24 0, .shr
    0 0 0 24, .sar 0 24 0 0, .sar 0 0 24 0, .sar 0 0 0 24, .ror 0 24 0 0, .ror 0 0 24 0, .ror 0 0 0 24, .shli 0 24 0
    0, .shli 0 0 24 0, .shri 0 24 0 0, .shri 0 0 24 0, .sari 0 24 0 0, .sari 0 0 24 0, .rori 0 24 0 0, .rori 0 0 24 0,
    .mul 0 24 0 0, .mul 0 0 24 0, .mul 0 0 0 24, .mulh 0 24 0 0, .mulh 0 0 24 0, .mulh 0 0 0 24, .mulhu 0 24 0 0,
    .mulhu 0 0 24 0, .mulhu 0 0 0 24, .cmp 0 24 0, .cmp 0 0 24, .tst 0 24 0] : List Instr).any Instr.wf = false := by
    decide +kernel

theorem test_wf_refuses_3 : ([.tst 0 0 24, .clz 0 24 0, .clz 0 0 24, .addi 0 24 0 0, .addi 0 0 24 0, .andi 0 24 0 0,
    .andi 0 0 24 0, .ori 0 24 0 0, .ori 0 0 24 0, .xori 0 24 0 0, .xori 0 0 24 0, .cmpi 0 24 0, .lui 0 24 0, .ld 0 24
    0 0 0 0, .ld 0 0 24 0 0 0, .lds 0 24 0 0 0 0, .lds 0 0 24 0 0 0, .st 0 24 0 0 0 0, .st 0 0 24 0 0 0, .aliasClaim 0
    24 0 0, .aliasClaim 0 0 24 0, .aliasRelease 0 24 0 0, .aliasRelease 0 0 24 0, .amoFadd 0 24 0 0 0, .amoFadd 0 0 24
    0 0, .amoFadd 0 0 0 24 0, .amoSwap 0 24 0 0 0, .amoSwap 0 0 24 0 0, .amoSwap 0 0 0 24 0, .amoCas 0 24 0 0 0,
    .amoCas 0 0 24 0 0, .amoCas 0 0 0 24 0, .amoMin 0 24 0 0 0, .amoMin 0 0 24 0 0, .amoMin 0 0 0 24 0, .amoMax 0 24 0
    0 0, .amoMax 0 0 24 0 0, .amoMax 0 0 0 24 0, .amoMinu 0 24 0 0 0, .amoMinu 0 0 24 0 0] : List Instr).any Instr.wf
    = false := by decide +kernel

theorem test_wf_refuses_4 : ([.amoMinu 0 0 0 24 0, .amoMaxu 0 24 0 0 0, .amoMaxu 0 0 24 0 0, .amoMaxu 0 0 0 24 0,
    .amoWadd 0 24 0 0, .amoWadd 0 0 24 0, .amoWadd 0 0 0 24, .ild 0 24 0 0, .ild 0 0 24 0, .inIo 0 24 0, .outIo 0 24
    0, .inx 0 24 0 0, .inx 0 0 24 0, .outx 0 24 0 0, .outx 0 0 24 0, .jmpr 0 24, .callr 0 24, .texit 0 24, .rds 0 24
    0, .wrs 0 0 24, .rspush 0 24, .rspop 0 24, .wait 0 24 0 0, .wait 0 0 24 0, .give 0 24 0, .give 0 0 24, .crc 0 24 0
    0 0 false, .crc 0 0 24 0 0 false, .crc 0 0 0 24 0 false, .bfxu 0 24 0 0 0, .bfxu 0 0 24 0 0, .bfxs 0 24 0 0 0,
    .bfxs 0 0 24 0 0, .bfi 0 24 0 0 0, .bfi 0 0 24 0 0, .macs 0 24 0 0 0 false, .macs 0 0 24 0 0 false, .macs 0 0 0 24
    0 false, .cselSel 0 24 0 0 0, .cselSel 0 0 24 0 0] : List Instr).any Instr.wf = false := by decide +kernel

theorem test_wf_refuses_5 : ([.cselSel 0 0 0 24 0, .cselMinmax 0 24 0 0 0, .cselMinmax 0 0 24 0 0, .cselMinmax 0 0 0
    24 0, .dce 0 24 0 0 0, .dce 0 0 24 0 0, .dce 0 0 0 24 0, .dcd 0 24 0 0 0, .dcd 0 0 24 0 0, .dcd 0 0 0 24 0, .divs
    0 24 0 0, .divs 0 0 24 0, .divs 0 0 0 24, .divu 0 24 0 0, .divu 0 0 24 0, .divu 0 0 0 24, .divq 0 24 0 0, .divq 0
    0 24 0, .divq 0 0 0 24, .sqrtu 0 24 0, .sqrtu 0 0 24, .sqrtq 0 24 0, .sqrtq 0 0 24, .hash 0 24 0 0, .hash 0 0 24
    0, .lkup 0 24 0 0, .lkup 0 0 24 0, .fsub 0 24 0, .fsub 0 0 24, .sprd 0 24 0, .sprd 0 0 24, .lkpAbort 0 0,
    .lkpQcmdQuarantine 0 0, .lkpQcmdReturn 0 0, .alloc 0 0, .allocp 0 0, .allocc 0 0, .allocb 0, .free 0 0, .xfer 0 0]
    : List Instr).any Instr.wf = false := by decide +kernel

theorem test_wf_refuses_6 : ([.chain 0 0, .split 0 0, .next 0 0, .spill 0 0, .fill 0 0, .reclaim 0 0, .tableAdd 0 0
    false 0, .tableDel 0 0 false 0, .tableFence 0 0 false 0, .tableFlush 0 0 false 0, .tableRehash 0 0 false 0,
    .tableRead 0 0 false 0, .brgCommit 0 0, .commitCopyDone 0, .admitPartner 0, .welcome 0, .release 0, .bind 0,
    .partnerRead 0, .pauseqWrite 0 0 0, .tspop 0 0, .mdioWrite 0 0 0 0 false false 0, .mdioRead 0 0 0 0 false false,
    .mdioAddress 0 0 0 0 false 0, .mdioReadIncrement 0 0 0 0 false, .srEnter 0 0 0, .srExit 0 0, .semaphoreClaim 0 0
    0, .semaphoreRelease 0 0, .semaphoreAcknowledge 0 0, .forceRelease 0 0, .groupWrite 0 0 0, .watchArm 0 0 0,
    .watchDisarm 0 0 0, .hostAtomicFadd 0 0, .hostAtomicSwap 0 0, .hostAtomicCas 0 0, .hostAtomicMin 0 0,
    .hostAtomicMax 0 0, .hostAtomicMinu 0 0] : List Instr).any Instr.wf = false := by decide +kernel

theorem test_wf_refuses_7 : ([.hostAtomicMaxu 0 0, .hostAtomicWadd 0 0, .bar2Read 0 0, .bar2Write 0 [], .post 0,
    .streamArm 0 0, .streamDisarm 0 0, .streamRestart 0 0, .timeArm 0 0 0, .strobeDisarm 0 0, .capturePop 0 0,
    .captureEdgeConfig 0 0 0, .shiftTxPush 0 0 0, .shiftRxPop 0 0, .shiftStart 0 0 0, .shiftAbort 0 0, .shiftDisable 0
    0 0, .shiftEnable 0 0 0, .microcodeWrite 0 0, .bankVerify 0 0, .routeWrite 0 0 0, .pendClear 0 0 0, .wardenStatus
    0 0, .random 0 0, .mailboxForward 0 0 0, .challenge 0 0 false, .lcsRequest 0 0 false [], .lcsRequest 0x500 0 true
    (List.replicate 239 0), .debugRevoke 0 0, .updBegin 0 0, .updData 0 0 false, .updVerify 0 0, .updActivate 0 0,
    .updConfirm 0 0, .updAbort 0 0, .updStatus 0 0, .domainOn 0 0, .domainRetain 0 0, .domainOff 0 0, .clockGate 0 0]
    : List Instr).any Instr.wf = false := by decide +kernel

theorem test_wf_refuses_8 : ([.governorDecision (List.replicate 63 0) (List.replicate 64 0), .governorDecision
    (List.replicate 64 0) (List.replicate 63 0), .temperatureSample (List.replicate 11 0), .railSample (List.replicate
    9 0) false, .ncoreHalt 0 0 30, .ncoreStep 0 0 30, .ncoreResume 0 0 30, .scoreHalt 0 30, .scoreStep 0 30,
    .scoreResume 0 30] : List Instr).any Instr.wf = false := by decide +kernel

/-! ### Witnesses: states and operands that meet the hypotheses of each statement -/

/-- Reset with a command waiting. -/
def stWaiting : State := { State.reset with pending := [.entropyFailure, .thermalRecovery] }

theorem witness_StepPerformsTheFrontCommand :
    stWaiting.pending = .entropyFailure :: [.thermalRecovery] ∧ State.reset.pending = [] := ⟨rfl, rfl⟩

theorem witness_StepTakesExactlyTheFrontCommand : ∃ t, step stWaiting = .next t ∧ t.pending = [.thermalRecovery] :=
  ⟨_, rfl, rfl⟩

/-- Reset with one byte of shared SRAM. -/
def stByte : State := { State.reset with mem := [(kShared, 1#8)], pending := [.thermalRecovery] }

theorem witness_StepKeepsMemoryCanonical :
    Memory.wf stByte.mem = true ∧ Memory.wf [(kShared, 0#8)] = false ∧ ∃ t, step stByte = .next t :=
  ⟨by decide +kernel, by decide +kernel, _, rfl⟩

theorem witness_RegisterAccessesFollowTheirFields :
    stLive.tnt.memSpace = true ∧ isWarden 0x7F0#12 = true ∧ bits 0x00000100#32 27 8 ≠ 0 ∧ bits 0xF00000FF#32 27 8 = 0 ∧
      stLive.regOff A.tntHerr1 = false ∧ stLive.regOff A.fltTktPeak = false ∧
      (∀ i, i < 7 → stLive.regOff (0x70100 + 8 * i) = false ∧ stLive.regOff (0x70104 + 8 * i) = false) ∧ State.reset.boot.step < 20 := by decide +kernel

theorem witness_AgentsOutsideTheirRightsChangeNothing :
    isThread 1#12 = true ∧ stLive.reaches 1#12 0x12 = false ∧ isTenant 0x400#12 = true ∧ isTenant 0x41F#12 = true ∧
      stLive.tenantState 1 ≠ 1 ∧ (0x1010000 - 0x1000000) / 0x10000 + 0x400 ≠ (0x400#12).toNat ∧ isWarden 0x500#12 = false ∧
      after (.registerWrite 1#12 0x120000#32 5#32) stLive (fun t => decide (t.reply.status = .refusedRights)) = true := by decide +kernel

/-! ### Chapters 2, 4 and 5 -/

/-- A delta of 4096 bytes waits in the staging region; SHP_STAT.STATE is `v`. -/
def stDelta (v : Nat) : State :=
  ((stShape.setReg A.shpDeltaAddr 0x10000#32).setReg A.shpDeltaLen 4096#32).setShp v

/-- The delta under way. -/
def deltaNone : Delta :=
  { addr := 0x10000, len := 4096, fabric := none, programs := none, owners := none, events := none, power := none,
    secver := 0#32, build := 0#32, digest := 0#256 }

/-- A delta is under way in STATE `v`, and core 2 joins. -/
def stDelta1 (v : Nat) : State :=
  let s := stDelta v
  ({ s with shp := { s.shp with delta := some deltaNone } }).setCore 2 { Core.init with joins := some pound0 }

theorem witness_LiveReshapeFollowsItsStates_1 :
    isBoss 1#12 = false ∧ isBoss 0x500#12 = true ∧ (stDelta 0).shpState = 0 ∧ (stDelta 0).shp.full = true ∧
      imageSlots (lcsCode (stDelta 0).lcs.otp.groups) ≠ [] ∧ (stDelta 0).stagingFor.isSome = true ∧
      ((stDelta 0).setReg A.shpDeltaAddr 0#32).stagingFor = none ∧
      after (.shpApply 0x500#12) (stDelta 0) (fun t => decide (t.shpState = 1 ∧ t.shp.lockBase = 0x10000)) = true ∧
      after (.shpAbandon 0x500#12) (stDelta1 3) (fun t => decide (t.shpState = 0 ∧ t.shp.delta = none)) = true ∧
      after (.shpAbandon 0x500#12) (stDelta1 4) (fun t => decide (t.reply.status = .refusedNotReady)) = true := by decide +kernel

theorem witness_LiveReshapeFollowsItsStates_2 :
    (stDelta1 1).shpState = 1 ∧ (stDelta1 1).shp.delta.isSome = true ∧ (stDelta1 2).shpState = 2 ∧
      2 ∈ (stDelta1 2).joiners ∧ (∀ c, c ∈ (stDelta1 2).joiners → (stDelta1 2).pdOn c = true) ∧
      after (.deltaPrepareDone none) (stDelta1 2) (fun t => decide (t.shpState = 3) && t.groupArmed 17) = true ∧
      after .deltaCheckDone (stDelta1 1) (fun t => decide (t.shpState = 0 ∧ t.shp.delta = none)) = true := by decide +kernel

theorem witness_LiveReshapeFollowsItsStates_3 :
    let s := (stDelta 4).setReg A.tbCycle 64#32
    s.shpState = 4 ∧ 64 ≤ (s.cycle - s.shp.turnA).toNat ∧ ((stDelta 4).cycle - (stDelta 4).shp.turnA).toNat < 64 := by decide +kernel

/-- The cycle timer runs: cycle 5 of 31 250 ns from 1 000 000. -/
def stCycle : State :=
  ({ stShape with tb := { stShape.tb with started := true, timer := true, cycRun := true, now := 1030000#64,
                                          cycStart := 1000000#64, cycLen := 31250 } }.setReg A.tbCycle 5#32).setReg
    A.tbPeriod 31250#32

theorem witness_TimebaseRegistersCheckShadowAndArm :
    stCycle.reaches 0x500#12 0x03 = true ∧ stCycle.tb.fence = false ∧ isWarden 0x7F0#12 = true ∧
      (-0x20C49BA5 ≤ (0x20C49BA5#32).toInt ∧ (0x20C49BA5#32).toInt ≤ 0x20C49BA5 ∧ 0x20C49BA5 < (0x20C49BA6#32).toInt) ∧
      bits 10000#32 21 0 = 10000 ∧ bits 9999#32 21 0 < 10000 ∧ 4000000 < bits 4000001#32 21 0 ∧
      autoGroup 13 = false ∧ hwGroup 13 = false ∧ hwGroup 20 = true ∧ hwGroup 22 = false ∧ autoGroup 16 = false ∧
      after (.tbPeriodWrite 0x500#12 20000#32) stCycle (fun t => t.groupArmed 0 &&
        decide (t.shadowOf A.tbPeriod = 20000#32 ∧ t.reg A.tbPeriod = 31250#32)) = true ∧
      after (.armGroups 0x500#12 0x400000#32) stCycle (fun t => decide (t.reply.status = .refusedSecure)) = true := by decide +kernel

theorem witness_TimebaseRegistersCheckShadowAndArm_fence :
    let s : State := { stCycle with tb := { stCycle.tb with fence := true } }
    s.tb.fence = true ∧ after (.tbPhaseWrite 0x500#12 7#32) s (fun t => decide (t.reply.status = .delayed ∧
      t.tb.held = [Held.write 0x500#12 A.tbPhase 7#32])) = true := by decide +kernel

theorem witness_TimebaseRegistersCheckShadowAndArm_readback :
    let s := stCycle.setReg (agKey 0x500#12 A.tbShrbAddr) (BitVec.ofNat 32 A.tbPhase)
    isBoss 0x500#12 = true ∧ s.tnt.memSpace = true ∧
      s.reg (agKey 0x500#12 A.tbShrbAddr) = BitVec.ofNat 32 A.tbPhase := by decide +kernel

/-- A rate of `r`, with `a` accumulated. -/
def stRate (r : W32) (a : Int) (timer : Bool) : State :=
  ({ stCycle with tb := { stCycle.tb with acc := a, timer := timer, now := 1031248#64 } }).setReg A.tbRate r

theorem witness_CorrectionsAndTheFenceFollowTheTimebase_1 :
    let s := stRate 0x100#32 (2 ^ 40 - 0x100) false
    let u := stRate 0x100#32 (2 ^ 40 - 0x200) true
    let v := stRate 0xFFFFFF00#32 (-(2 ^ 40) + 0x100) true
    s.tb.acc + ((1 - 1 : Nat) : Int) * (s.reg A.tbRate).toInt < 2 ^ 40 ∧
      2 ^ 40 ≤ s.tb.acc + ((1 : Nat) : Int) * (s.reg A.tbRate).toInt ∧
      u.tb.acc + ((2 - 1 : Nat) : Int) * (u.reg A.tbRate).toInt < 2 ^ 40 ∧
      2 ^ 40 ≤ u.tb.acc + ((2 : Nat) : Int) * (u.reg A.tbRate).toInt ∧
      (u.tb.now + BitVec.ofNat 64 (2 - 1)).toNat + 1 = u.turnAt ∧ u.turnAt < 2 ^ 64 ∧ (v.reg A.tbRate).toInt < 0 ∧
      -(2 ^ 40) < v.tb.acc + ((1 - 1 : Nat) : Int) * (v.reg A.tbRate).toInt ∧
      v.tb.acc + ((1 : Nat) : Int) * (v.reg A.tbRate).toInt ≤ -(2 ^ 40) ∧
      after .correctionEdge s (fun t => decide (t.tb.now = s.tb.now + 2#64 ∧ t.tb.acc = 0)) = true ∧
      after .correctionEdge v (fun t => decide (t.tb.now = v.tb.now ∧ t.tb.acc = 0)) = true := by decide +kernel

theorem witness_CorrectionsAndTheFenceFollowTheTimebase_2 :
    let h := [Held.write 0x500#12 A.tbPhase 1#32, Held.hwArm 19, Held.write 0x7F0#12 A.tbPhase 2#32]
    let s : State := { stCycle with tb := { stCycle.tb with held := h } }
    stCycle.tb.timer = true ∧ stCycle.tb.fence = false ∧ stCycle.tb.held = [] ∧ stCycle.turnAt < 2 ^ 64 ∧
      State.reset.tb.started = false ∧ s.tb.fence = false ∧ s.tb.held = h ∧
      after .turnFenceBegin stCycle (fun t => t.tb.fence && decide (t.time = 1030750)) = true := by decide +kernel

/-- Inside the fence with groups 0 to 3 armed, a period of 20 000, a phase of -100 and a step of 1000. -/
def stFence : State :=
  let s : State := { stCycle with tb := { stCycle.tb with fence := true } }
  ((((s.setReg A.tbArmed 0xF#32).setShadow A.tbPeriod 20000#32).setShadow A.tbPhase 0xFFFFFF9C#32).setShadow A.tbStepLo
    1000#32).setShadow A.tbStepHi 0#32

theorem witness_TheTurnBeginsTheNextCycle :
    stFence.tb.timer = true ∧ stFence.tb.fence = true ∧ stFence.time ≤ stFence.turnAt ∧ stFence.turnAt < 2 ^ 63 ∧
      stFence.groupArmed 2 = true ∧ (stFence.shadowOf A.tbPhase).toInt = -100 ∧ stFence.nextPeriod = 20000 ∧
      stFence.groupArmed 1 = true ∧ State.reset.tb.timer = false ∧
      after .turn stFence (fun t => decide (t.tb.cycLen = 19900 ∧ t.tb.cycStart = 1032250#64 ∧ t.cycle = 6#32)) = true := by decide +kernel

/-- 60 bytes of an untagged frame with its FCS. -/
def wire64 : List Byte := List.replicate 12 2#8 ++ [8#8, 0#8] ++ List.replicate 46 0#8 ++ [0#8, 0#8, 0#8, 0#8]

/-- A received frame in a port's FIFO. -/
def rx64 (cls : Nat) (k : Option Nat) (n : Nat) : RxFrame :=
  { bytes := List.replicate 12 2#8 ++ [8#8, 0#8] ++ List.replicate n 0#8, cls := cls, ticket := k, gone := false, fin := false,
    t0 := 0 }

/-- Every port is in service; port 0's FIFO holds `l`, and frame `k` is `f`. -/
def stPort (l : List RxFrame) (f : Option Frame) : State :=
  let s := (rangeFrom 8 0).foldl (fun (t : State) p => t.setReg (A.prtStat p) 3#32) stShape
  { s with flt := { s.flt with rx := [(0, l)], frames := [(5, f)] } }

theorem witness_FramesEnterWaitAndAreChecked_1 :
    stShape.inService 0 = false ∧ (stPort [] none).inService 0 = true ∧ hdrEtype wire64 ≠ 0x8808 ∧
      rxUse ((stPort [] none).rxList 0) + roundUp wire64.length 64 ≤ 16384 ∧
      16384 < rxUse ((stPort [rx64 3 none 16310] none).rxList 0) + roundUp wire64.length 64 ∧
      ((stPort [] none).setReg A.fltClassmap 0x3FFFF#32).classify 0 wire64 = 3 := by decide +kernel

theorem witness_FramesEnterWaitAndAreChecked_2 :
    (stPort [] (some { frameNew with hold := some 7 })).holding118 0 = true ∧
      (let s := stPort [rx64 1 none 64] none
       let r := rx64 1 none 64
       s.holding118 0 = false ∧ s.rxList 0 = [r] ∧ mayAdmit [r] 0 = true ∧ r.fin = false ∧ (s.takeTicket 1).isSome = true ∧
         (s.frameBuffer 0 1 r.bytes).1 = .ok ∧ s.tblFind 1 (s.keyStream 0 r.bytes) = none ∧
         nth s.shp.fabric.entry 1 0xFF = 0 ∧ (s.frameBuffer 0 1 r.bytes).2.2.entryFree 0x10 = true ∧
         after (.frameAdmission 0) s (fun t => (t.frame 0).isSome && decide (t.tokens 0x10 ≠ [])) = true) := by decide +kernel

theorem witness_FramesEnterWaitAndAreChecked_3 :
    let f := { frameNew with hold := some 7 }
    let s := stPort [] (some f)
    let full : State := { s with lk := { s.lk with reserved := 4096 } }
    s.frame 5 = some f ∧ s.flt.frames.find? (fun x => (x.2.map (fun f => decide (f.fr.port = 0) && f.hold.isSome)).getD
      false) = some (5, some f) ∧ s.entryFree 0x10 = true ∧ full.entryFree 0x10 = false ∧
      after (.arrivalTokenHoldExpiry 0) s (fun t => (t.frame 5).any (fun g => decide (g.hold = none))) = true := by decide +kernel

theorem witness_FramesEnterWaitAndAreChecked_4 :
    let f := { frameNew with wire := (rx64 1 (some 5) 50).bytes }
    let s := stPort [rx64 1 (some 5) 50] (some f)
    let b := stPort [rx64 1 none 1600] none
    (rx64 1 none 20).bytes.length < 64 ∧ (rx64 1 none 50).bytes.length = 64 ∧ s.frame 5 = some f ∧ f.wire = wire64 ∧
      (s.portCfg 0).stamp = false ∧ s.barged 0 f.wire = false ∧ (b.portCfg 0).maxFrame < (rx64 1 none 1600).bytes.length ∧
      after (.frameFcsReceived 0 false) s (fun t => (t.frame 5).any (fun g => g.fr.fcsDone && g.fr.fcsBad)) = true ∧
      after (.frameFcsReceived 0 true) s (fun t => (t.frame 5).any (fun g => g.fr.fcsDone && g.fr.fcsBad)) = true ∧
      after (.frameFcsReceived 0 true) b (fun t => decide (t.rxList 0 = [] ∧ t.counter (prtCtr 0 8) = 1#64)) = true ∧
      after (.frameOversize 0) b (fun t => decide (t.counter (prtCtr 0 4) = 1#64)) = true := by decide +kernel

theorem witness_FramesEnterWaitAndAreChecked_5 :
    let f := { frameNew with fr := { recNew with lk := [3, 0, 0] } }
    (stPort [] (some f)).frame 5 = some f ∧ nth f.fr.lk 0 0 = 3 ∧ nth f.fr.lk 1 0 ≠ 3 ∧
      after (.lookupResult 5 0) (stPort [] (some f)) (fun t => (t.frame 5).any (fun g => decide (nth g.fr.lk 0 0 ≠ 3))) = true := by decide +kernel

/-- Thread 3 runs in slot 0 on frame 5. -/
def stVerdict (f : Option Frame) : State :=
  let s := stPort [] f
  (s.setSlot 0 { Slot.init with thread := some 3 }).setThread 3 { Thread.init with st := .running 0, frame := if f.isSome then some 5 else none }

theorem witness_VerdictsAndSendsMoveFrames_1 :
    let s := stVerdict (some frameNew)
    let full : State := { s with lk := { s.lk with reserved := 4096 } }
    let r := fun (n : Nat) => (s.fabricOf frameNew).routeOf 0 n
    (s.slot 0).stores = [] ∧ (s.slot 0).thread = some 3 ∧ (s.thread 3).frame = some 5 ∧ s.frame 5 = some frameNew ∧
      r 0 = 0 ∧ r 1 = 1 ∧ r 2 = 0xFE ∧ r 3 = 0xFF ∧ s.entryFree 0x11 = true ∧ full.entryFree 0x11 = false ∧
      (stVerdict none).thread 3 = { Thread.init with st := .running 0 } ∧
      after (.verdictRoute 0 1#30) s (fun t => (t.frame 5).any (fun g => decide (g.pound = some 1))) = true ∧
      after (.verdictRoute 0 2#30) s (fun t => (t.frame 5).any (fun g => g.complete)) = true ∧
      after (.verdictDrop 0 0#30) (stVerdict none) (fun t => decide (t.reply.status = .refusedNotReady)) = true := by decide +kernel

/-- Slot 0, on core 0 of pound 0, has chosen the first buffer of pool 1 to send, and its entry owns it. -/
def stSend : State :=
  let s := stVerdict none
  let b := (s.areaBase 1) + 0x100000
  (s.setSlot 0 { s.slot 0 with sendBuf := BitVec.ofNat 32 b }).setTag (bufPtr b) ((s.entryOf (slotAgent 0).toNat).getD 0)

theorem witness_VerdictsAndSendsMoveFrames_2 :
    let b := (stSend.slot 0).sendBuf.toNat
    let v : W32 := 0x00401001#32
    (stSend.slot 0).stores = [] ∧ bits v 29 16 = 64 ∧ stSend.validBuf b = true ∧ 64 ≤ stSend.bufBytes b ∧
      some (stSend.bufTag (bufPtr b)) = stSend.entryOf (slotAgent 0).toNat ∧ (stSend.takeTicket (bits v 13 12)).isSome = true ∧
      (stSend.entryOf 0x600).isSome = true ∧ bits 0x003F0000#32 29 16 < 64 ∧ 9216 < bits 0x24010000#32 29 16 ∧
      after (.sendCtl 0 v) stSend (fun t => (t.frame 0).any (fun g => decide (g.fr.port = 9 ∧ g.fr.len = 64))) = true := by decide +kernel

theorem witness_VerdictsAndSendsMoveFrames_3 :
    let f := { frameNew with complete := true, pound := none, fr := { recNew with fcsDone := true, egress := 2#16 } }
    let s := stPort [] (some f)
    let pick := fun (c : Nat) => s.flt.frames.find? (fun x => (x.2.map (fun f => decide (f.fr.port = 0) && decide (f.fr.cls = c) &&
      f.eligible && s.oldest f)).getD false)
    pick 2 = none ∧ pick 1 = some (5, some f) ∧ f.fr.egress = BitVec.ofNat 16 (2 ^ 1) ∧ s.inService 1 = true ∧
      s.queueRoom 1 0 = true ∧ after (.towpathRelease 0 1) s (fun t => decide ((t.port 1).queue 0 = [0] ∧ t.frame 5 = none)) = true := by decide +kernel

theorem witness_VerdictsAndSendsMoveFrames_4 :
    let s := stPort [] (some frameNew)
    let x : EgFrame := { ticket := some 5, buf := 0, len := 64, fin := false, cls := 1, queue := 0, ports := 1#16, begun := 1#16,
                         stomp := false, owned := true, toHost := false, tkt := 5, inPort := 0, hostq := 0 }
    let g : Sending := { eg := 0, queue := 0, t0 := 0, first := 0, sent := 0 }
    let u : State := ({ s with flt := { s.flt with eg := [(0, some x)] } }).setPort 0 { s.port 0 with sending := some g }
    (u.port 0).sending = some g ∧ u.egFrame 0 = some x ∧ u.frame 5 = some frameNew ∧
      after (.egressFcsReached 0) u (fun t => (t.frame 5).any (fun h => h.fr.stomp)) = true := by decide +kernel

theorem witness_ClassMapAndDropLogAreChecked :
    isBoss 0x500#12 = true ∧ isBoss 1#12 = false ∧ bits 0x15555#32 17 16 ≠ 0 ∧ bits 0x05555#32 17 16 = 0 ∧
      (∀ i, i < 9 → bits 0x15555#32 (2 * i + 1) (2 * i) ≠ 0) ∧
      (∀ i, i < 9 → (stShape.setReg A.fltClassmap 0x15555#32).fld A.fltClassmap (2 * i + 1) (2 * i) ≠ 0) ∧
      128 < (129#8).toNat ∧ stLive.takeLog 128 = none ∧ (stShape.takeLog 4).isSome = true ∧
      after (.dropLogResize 0x500#12 4#8) stShape (fun t => decide (t.flt.logCells.length = 4)) = true := by decide +kernel

/-! ### Chapters 6 to 8: ZLC -/

/-- Thread 3 runs in slot 0 with these physical registers; code 17 names register 65, 18 names 66 and so on. -/
def stRun (l : List (Nat × W32)) : State :=
  (stShape.setSlot 0 { Slot.init with thread := some 3, ctx := { Ctx.init with regs := l } }).setThread 3
    { Thread.init with st := .running 0 }

/-- The same with a context. -/
def stCtx (x : Ctx) : State := stShape.setSlot 0 { Slot.init with thread := some 3, ctx := x }

/-- Register `p` and the flags of slot 0 once pending writes have landed. -/
def shows (p : Nat) (v f : W32) (t : State) : Bool := decide ((t.landed 0).preg p = v ∧ (t.landed 0).flags = f)

/-- The slot holds, and once the hold has ended register `p` is `v`. -/
def holdShows (p : Nat) (v : W32) (t : State) : Bool :=
  decide ((t.slot 0).held.isSome = true) && after (.holdComplete 0) t (fun u => decide ((u.slot 0).ctx.preg p = v))

theorem witness_AluRegisterFormsWriteResultAndFlags :
    let s := stRun [(65, 0x80000000#32), (66, 0xFFFFFFFF#32)]
    Issues s 0 ∧ regOk 23#5 = true ∧ regOk 0#5 = true ∧
      after (.add 0 19#5 17#5 18#5) s (shows 67 0x7FFFFFFF#32 3#32) = true ∧
      after (.sub 0 19#5 18#5 17#5) s (shows 67 0x7FFFFFFF#32 1#32) = true ∧
      after (.subc 0 19#5 17#5 17#5) s (shows 67 0xFFFFFFFF#32 8#32) = true ∧
      after (.sar 0 19#5 17#5 18#5) s (shows 67 0xFFFFFFFF#32 8#32) = true ∧
      after (.mulh 0 19#5 17#5 17#5) s (shows 67 0x40000000#32 0#32) = true ∧
      after (.mulhu 0 19#5 18#5 18#5) s (shows 67 0xFFFFFFFE#32 8#32) = true ∧
      after (.cmp 0 17#5 18#5) s (shows 67 0#32 8#32) = true := by unfold Issues; decide +kernel

theorem witness_ImmediateAndCountFormsWriteResultAndFlags :
    let s := stRun [(65, 0x00010000#32)]
    Issues s 0 ∧ regOk 17#5 = true ∧
      after (.addi 0 19#5 17#5 0xFFFF#16) s (shows 67 0xFFFF#32 1#32) = true ∧
      after (.lui 0 19#5 0x8000#16) s (shows 67 0x80000000#32 0#32) = true ∧
      after (.shli 0 19#5 17#5 16#5) s (shows 67 0#32 5#32) = true ∧
      after (.clz 0 19#5 17#5) s (shows 67 15#32 0#32) = true ∧
      after (.clz 0 19#5 16#5) s (shows 67 32#32 0#32) = true := by unfold Issues; decide +kernel

theorem witness_FusedUnitsWriteTheirResult :
    let s := stRun [(65, 100#32), (66, 101#32), (67, 0x7FFFFFFF#32), (68, 0x10000003#32)]
    Issues s 0 ∧ (2#2 : BitVec 2) ≠ 3#2 ∧ (31#5).toNat + (0#5).toNat + 1 ≤ 32 ∧ (14#4 : BitVec 4) ≠ 15#4 ∧
      100#32 - 101#32 = 0xFFFFFFFF#32 ∧
      after (.dce 0 20#5 17#5 18#5 0#2) s (shows 68 (BitVec.ofNat 32 (6 * 2 ^ 27 + 0x2F)) 0#32) = true ∧
      after (.dce 0 20#5 17#5 17#5 3#2) s (shows 68 0x08000000#32 0#32) = true ∧
      after (.dce 0 20#5 19#5 18#5 3#2) s (shows 68 0x10000003#32 1#32) = true ∧
      after (.dcd 0 21#5 20#5 18#5 1#2) s (shows 69 101#32 1#32) = true ∧
      after (.macs 0 19#5 17#5 18#5 0#5 false) s (shows 67 0x7FFFFFFF#32 0x10#32) = true ∧
      after (.bfxs 0 20#5 18#5 5#5 1#5) s (shows 68 0xFFFFFFFF#32 0#32) = true ∧
      after (.cselMinmax 0 20#5 17#5 18#5 1#2) s (shows 68 101#32 0#32) = true := by unfold Issues; decide +kernel

theorem test_crc_words :
    let s := stRun [(65, 0xFFFFFFFF#32), (66, 0x34333231#32)]
    after (.crc 0 17#5 17#5 18#5 2#2 false) s (fun t => decide ((t.landed 0).preg 65 = 0x09C50B11#32)) = true ∧
      after (.crc 0 17#5 17#5 18#5 0#2 true) s (fun t => decide ((t.landed 0).preg 65 = 0x7C231048#32)) = true := by decide +kernel

/-- A load from D-RAM, and one from shared SRAM, with a word in each. -/
def stMem : State :=
  (stRun [(65, 0x100#32), (66, 0x10000040#32), (67, 0x4000#32), (68, 0xFFFFFFFE#32), (69, 5#32), (70, 0x18000040#32),
          (71, 0x80000001#32)]).writeBytes (kShared + 0x40) [0x80#8, 0xFF#8, 3#8, 4#8]

theorem witness_LoadsReadTheirAddress :
    let s := stMem.writeBytes (kDram 0 + 0xFE) [0xFE#8, 0xFF#8]
    Issues s 0 ∧ memOk 20#5 17#5 2#2 1#2 0#12 = true ∧ memOk 20#5 18#5 0#2 3#2 0#12 = true ∧
      s.accessKind 0 0xFE 2 true false = 0 ∧ s.accessKind 0 0x10000040 8 true false = 0 ∧ NoWaits s 0 ∧
      (s.slot 0).stores = [] ∧
      after (.lds 0 20#5 17#5 2#2 1#2 0#12) s (fun t => shows 68 0xFFFFFFFE#32 0#32 t && shows 65 0xFE#32 0#32 t) = true ∧
      after (.ld 0 20#5 18#5 0#2 2#2 0#12) s (holdShows 68 0x0403FF80#32) = true := by unfold Issues NoWaits; decide +kernel

theorem witness_StoresAndClaimAliasWriteTheirAddress :
    let s := stMem
    let p : PStore := { key := kShared + 0x40, bytes := [9#8] }
    let u := s.setSlot 0 { s.slot 0 with stores := [p] }
    Issues s 0 ∧ memOk 20#5 17#5 0#2 0#2 0#12 = true ∧ s.accessKind 0 0x100 1 false true = 0 ∧
      s.accessKind 0 0x10000040 1 false true = 0 ∧ (s.slot 0).stores.length < 4 ∧ (u.slot 0).stores[0]? = some p ∧
      s.sramLocked 0x40 4 = false ∧ s.accessKind 0 0x18000040 4 false true = 0 ∧
      bits 0x00001234#32 31 30 = 0 ∧ bits 0x80000001#32 31 30 = 2 ∧ bits 0x80000001#32 29 16 = 0 ∧
      after (.postedStorePerformed 0 0) u (fun t => decide ((t.slot 0).stores = [] ∧ t.readByte (kShared + 0x40) = 9#8)) = true ∧
      after (.st 0 20#5 17#5 0#2 2#2 0#12) s (fun t => decide (t.readLE (kDram 0 + 0x100) 4 = 0xFFFFFFFE)) = true := by
  unfold Issues; decide +kernel

theorem witness_StoresAndClaimAliasWriteTheirAddress_alias :
    let s := stMem.writeBytes (kShared + 0x40) [0#8, 0#8, 0#8, 0#8]
    let u := stMem.writeBytes (kShared + 0x40) (leBytes 4 (0x10000 + (slotAgent 0).toNat))
    Issues s 0 ∧ Issues u 0 ∧ (s.slot 0).stores = [] ∧
      after (.aliasClaim 0 21#5 22#5 0#12) s (fun t => decide (t.readLE (kShared + 0x40) 4 = 0x50000 + (slotAgent 0).toNat)) = true ∧
      after (.aliasRelease 0 23#5 22#5 0#12) u (fun t => decide (t.readLE (kShared + 0x40) 4 = 0)) = true := by
  unfold Issues; decide +kernel

theorem witness_AtomicsSyncAndHoldsComplete :
    let s := stMem
    let h : Hold := { writes := [{ tgt := .reg 65, val := 9#32 }], submit := none, addr := none, poisoned := false, cluster := false }
    let u := s.setSlot 0 { s.slot 0 with held := some h }
    Issues s 0 ∧ NoWaits s 0 ∧ NoWaits u 0 ∧ (s.slot 0).stores = [] ∧ amoOk 7 20#5 18#5 20#5 2 = true ∧
      amoOk 2 19#5 18#5 21#5 0 = true ∧ s.amoKind 0 0x10000040 4 = 0 ∧ s.sramLocked 0x40 4 = false ∧
      (0x100#32 + (0#16).signExtend 32).toNat % 4 = 0 ∧ (u.slot 0).held = some h ∧ h.submit = none ∧
      after (.amoFadd 0 19#5 18#5 21#5 0#2) s (fun t => holdShows 67 0x0403FF80#32 t &&
        decide (t.readLE (kShared + 0x40) 4 = 0x0403FF85)) = true ∧
      after (.amoMin 0 19#5 18#5 20#5 0#2) s (fun t => decide (t.readLE (kShared + 0x40) 4 = 0xFFFFFFFE)) = true ∧
      after (.amoMinu 0 19#5 18#5 20#5 0#2) s (fun t => decide (t.readLE (kShared + 0x40) 4 = 0x0403FF80)) = true ∧
      after (.holdComplete 0) u (fun t => decide ((t.slot 0).ctx.preg 65 = 9#32)) = true := by
  unfold Issues NoWaits; decide +kernel

/-- A thread at 0x100 whose return stack is `l`. -/
def stAt (l : List W32) (trap : Bool) (f : W32) : State :=
  stCtx { Ctx.init with pc := 0x100#32, rs := l, rsTrap := trap, flags := f, regs := [(65, 0x8000#32), (66, 0x202#32)] }

theorem witness_BranchesAndCallsMoveThePc :
    let s := stAt [0x40#32] false 4#32
    let d := stAt (List.replicate 8 0x40#32) true 4#32
    Issues s 0 ∧ Issues d 0 ∧ (d.slot 0).ctx.inT = false ∧ (stAt [] false 4#32).slot 0 ≠ s.slot 0 ∧
      (0x100#32 + 4#32 + ((0xFFFE#16).signExtend 32 <<< 2)).toNat < 0x8000 ∧ (0xFFFE#16).msb = condHolds 0 4#32 ∧
      condHolds 1 4#32 = false ∧ 0x8000 ≤ (0x100#32 + 4#32 + ((0x1FFF#16).signExtend 32 <<< 2)).toNat ∧
      after (.bcc 0 0#4 0#2 0xFFFE#16) s (fun t => decide ((t.slot 0).ctx.pc = 0xFC#32)) = true ∧
      after (.bcc 0 1#4 0#2 0xFFFE#16) s (fun t => after (.nop 0) t (fun u => decide ((u.slot 0).ctx.pc = 0x104#32))) = true ∧
      after (.call 0 0x10#13) s (fun t => decide ((t.slot 0).ctx.pc = 0x40#32 ∧ (t.slot 0).ctx.rs = [0x104#32, 0x40#32])) = true ∧
      after (.call 0 0x10#13) d (fun t => decide ((t.slot 0).ctx.pc = 0x50#32 ∧ (t.slot 0).ctx.inT = true)) = true ∧
      after (.jmpr 0 17#5) s (fun t => decide ((t.slot 0).ctx.pc = 0x20#32)) = true ∧
      after (.jmpr 0 18#5) s (fun t => decide ((t.slot 0).ctx.pc = 0x200#32)) = true ∧
      after (.ret 0) s (fun t => decide ((t.slot 0).ctx.pc = 0x40#32 ∧ (t.slot 0).ctx.rs = [])) = true ∧
      after (.ret 0) (stAt [0x8000#32] false 4#32) (fun t => decide ((t.slot 0).faultAddr = 0x8000#32 ∧
        (t.slot 0).ctx.rs = [0x8000#32])) = true := by
  unfold Issues; decide +kernel

theorem witness_WindowsTrapsAndSpecialRegisters :
    let s := stAt [0x40#32] false 4#32
    let f := stCtx { Ctx.init with wlive := 0b1011#4 }
    let y := stCtx { Ctx.init with inT := true, rs := [0x40#32], regs := [(65, 0x102#32)] }
    Issues s 0 ∧ Issues f 0 ∧ Issues y 0 ∧ (s.slot 0).ctx.wlive.getLsbD 1 = false ∧ (f.slot 0).ctx.wlive.getLsbD 1 = true ∧
      (f.slot 0).ctx.wlive.getLsbD 3 = true ∧ (s.slot 0).ctx.wlive.getLsbD 3 = false ∧ (y.slot 0).ctx.inT = true ∧
      after (.enter 0) s (fun t => decide ((t.slot 0).ctx.win = 1#2 ∧ (t.slot 0).ctx.wlive = 3#4)) = true ∧
      after (.enter 0) f (fun t => decide ((t.slot 0).ctx.pc = 0x30#32)) = true ∧
      after (.leave 0) f (fun t => decide ((t.slot 0).ctx.win = 3#2 ∧ (t.slot 0).ctx.wlive = 0b1010#4)) = true ∧
      after (.texit 0 17#5) y (fun t => decide ((t.slot 0).ctx.pc = 0x100#32 ∧ (t.slot 0).ctx.inT = false)) = true ∧
      after (.wrs 0 3#5 17#5) y (fun t => decide ((t.landed 0).rs.length = 2 ∧ (t.landed 0).rsTrap = true)) = true := by
  unfold Issues; decide +kernel

theorem witness_AccessFaultsEnterVectorTwo :
    let s := stMem
    Issues s 0 ∧ (s.slot 0).ctx.inT = false ∧ memOk 20#5 19#5 0#2 2#2 0#12 = true ∧
      s.accessKind 0 0x4000 4 true false ≠ 0 ∧ s.accessKind 0 0x4000 4 false true ≠ 0 ∧ amoOk 0 20#5 17#5 20#5 0 = true ∧
      s.amoKind 0 0x100 4 ≠ 0 ∧ 0x7FFC < (0xFFFFFFFE#32).toNat ∧ s.ioKind 0 (s.slot 0) 0x280 = 2 ∧
      after (.ld 0 20#5 19#5 0#2 2#2 0#12) s (fun t => decide ((t.slot 0).ctx.pc = 0x20#32 ∧ (t.slot 0).faultAddr = 0x4000#32 ∧
        bits (t.slot 0).faultInfo 10 8 = 1)) = true := by unfold Issues; decide +kernel

theorem witness_PortInstructionsReachTheirPort :
    let s := stMem
    let y := (stMem.slot 0).issued
    let m := stRun [(65, 0x1#32)]
    let a := 0x100000 + A.tbPeriod
    Issues s 0 ∧ regOk 17#5 = true ∧ (0x404 : Nat) % 4 = 0 ∧ bits 5#32 15 0 ≠ 0 ∧ s.ioKind 0 (s.slot 0) a = 0 ∧ 0x100000 ≤ a ∧ a < 0x270000 ∧
      (let u := ((s.setSlot 0 y).status .ok).readReg (slotAgent 0) A.tbPeriod
       u.slot 0 = y ∧ NoWaits u 0) ∧
      (let u := (((s.setSlot 0 y).drain 0).status .ok).writeReg (slotAgent 0) A.tbPeriod 20000#32
       (u.slot 0).thread = some 3 ∧ (u.slot 0).held = none ∧ (u.slot 0).ctx = (s.slot 0).ctx ∧ (u.slot 0).late = [] ∧
         u.free = s.free ∧ NoWaits u 0) ∧
      after (.inIo 0 20#5 0x101#21) s (shows 68 0x3E8#32 0#32) = true ∧
      after (.outIo 0 17#5 0x48#21) m (fun t => decide ((t.slot 0).waitTmo = 1#32)) = true := by
  unfold Issues NoWaits; decide +kernel

theorem witness_TokenInstructionsBlockAndPost :
    let s := stRun [(65, 0x00004000#32), (66, 7#32), (67, 0#32)]
    let u := s.setThread 3 { s.thread 3 with stand := [0x4000] }
    Issues s 0 ∧ Issues u 0 ∧ (s.slot 0).stores = [] ∧ (s.slot 0).thread = some 3 ∧
      u.waitCheck 3 [0x4000] = .ok ∧ s.waitCheck 3 [0] = .refusedRange ∧ NoWaits s 0 ∧ s.entryFree 0x4000 = true ∧
      (∀ n, n < 16 → 0x4000 ∉ (s.thread n).waitSet) ∧
      after (.wait 0 17#5 18#5 1#3) s (fun t => decide ((t.slot 0).thread = none ∧ (t.thread 3).waitSet = [0x4000])) = true ∧
      after (.wait 0 19#5 18#5 1#3) s (fun t => decide ((t.slot 0).thread = some 3)) = true ∧
      after (.give 0 17#5 18#5) s (fun t => decide ((t.tokens 0x4000).map (·.value) = [7#32])) = true := by
  unfold Issues NoWaits; decide +kernel

theorem witness_HelperUnitsAnswerOrRefuse_1 :
    let s := stRun [(65, 0xFFFFFFF9#32), (66, 2#32), (67, 0x80000000#32), (68, 0xFFFFFFFF#32), (69, 0#32)]
    Issues s 0 ∧ s.clusterOn 0 = true ∧ NoWaits s 0 ∧ 2#32 ≠ 0#32 ∧ (3 : Nat) * 3 ≤ 15 ∧ 15 < (3 + 1) * (3 + 1) ∧
      after (.divs 0 22#5 17#5 18#5) s (fun t => holdShows 70 0xFFFFFFFD#32 t && holdShows 71 0xFFFFFFFF#32 t) = true ∧
      after (.divs 0 22#5 19#5 20#5) s (fun t => holdShows 70 0x80000000#32 t && holdShows 71 0#32 t) = true ∧
      after (.divq 0 22#5 17#5 21#5) s (fun t => decide ((t.slot 0).ctx.pc = 0x70#32 ∧ (t.slot 0).unitDetail = 0x2241#32)) = true ∧
      after (.sqrtu 0 22#5 20#5) s (holdShows 70 0xFFFF#32) = true := by unfold Issues NoWaits; decide +kernel

theorem witness_HelperUnitsAnswerOrRefuse_2 :
    let s := (stRun [(65, 0x3FE0#32), (66, 0x4000#32), (67, 4#32)]).setReg (A.fulSstat 4) 1#32
    let off := State.reset.setSlot 0 (s.slot 0)
    let l : LkupOut := { quad := 0, table := 0, key := [], tag := 0x4000 }
    let u : State := { s with uni := { s.uni with lookups := [l] } }
    Issues s 0 ∧ Issues off 0 ∧ off.clusterOn 0 = false ∧ s.armed 4 = true ∧ s.armed 5 = false ∧ inDram 0x3FE0#32 32 = true ∧
      s.entryFree 0x4000 = true ∧ u.uni.lookups[0]? = some l ∧ l.table < 3 ∧ isPostable l.tag = true ∧
      ((0x100#32).toNat + keyBytes 2 ≤ 0x4000) ∧
      after (.fsub 0 19#5 17#5) s (fun t => decide ((t.slot 0).held.isSome = true ∧ t.reg (A.fulSseq 4) = 1#32)) = true ∧
      after (.sqrtu 0 17#5 18#5) off (fun t => decide ((t.slot 0).ctx.pc = 0x70#32)) = true ∧
      after (.sprd 0 17#5 18#5) s (fun t => after (.holdComplete 0) t (fun v => decide (v.uni.preds.length = 1))) = true ∧
      after (.lkupResult 0) u (fun t => decide (t.uni.lookups = [] ∧ (t.tokens 0x4000).length = 1)) = true := by
  unfold Issues; decide +kernel

/-! ### Chapters 9 and 10 -/

/-- Thread 3 runs in slot 0, thread 4 waits until a deadline, thread 5 is ready and thread 6 exits. -/
def stThreads : State :=
  let s := stRun []
  let t := { Thread.init with st := .waiting, waitSet := [0x4000], deadline := some 50 }
  let u := s.setThread 4 t
  let v := u.setThread 5 { Thread.init with st := .ready, prio := 2, ostat := .timeout }
  let x := v.setThread 6 { Thread.init with st := .exiting .ok 7, exitTag := 0x4001 }
  { x with lk := { x.lk with ready := [5] } }

/-- Slot 0 has a creation request whose record lies at `a` of D-RAM: program 0, entry 0x100, reply tag 0x4002. -/
def stCreate (a : Nat) (prog : Byte) : State :=
  let s := stRun []
  let q := [prog, 0#8, 0#8, 1#8] ++ List.replicate 16 0#8 ++ [2#8, 0x40#8]
  (s.setSlot 0 { s.slot 0 with reqs := [LkReq.create (w32 a)] }).writeBytes (kDram 0 + a) q

theorem witness_ThreadsAreCreatedRunAndEnded_1 :
    let s := stThreads
    let g := s.setSlot 0 { s.slot 0 with tmTag := some 0x4000 }
    let full : State := { g with lk := { g.lk with timers := List.replicate 256 { tag := 1, deadline := 2 } } }
    (s.slot 0).stores = [] ∧ (s.slot 0).reqs.length < 2 ∧ (s.slot 0).thread = some 3 ∧ (s.thread 3).st = .running 0 ∧
      (s.slot 0).tmTag = none ∧ g.entryFree 0x4000 = true ∧ (g.slot 0).reqs = [] ∧ 256 ≤ full.lk.timers.length ∧
      s.handleThread false 4 = some 4 ∧ s.handleThread false 0x804 = none ∧ isPostable (tagFor false 0x4000) = true ∧
      after (.lkExit 0 9#32) s (fun t => decide ((t.slot 0).thread = none ∧ (t.thread 3).st = .exiting .ok 9)) = true ∧
      after (.lkTmarm 0 100#32) g (fun t => decide (t.lk.timers = [{ tag := 0x4000, deadline := 100 }])) = true ∧
      after (.lkTmarm 0 100#32) full (fun t => decide (t.reply.status = .refusedCapacity)) = true ∧
      after (.lkAbort 0 4#32) s (fun t => decide ((t.thread 4).st = .exiting .refusedRights 0)) = true := by decide +kernel

theorem witness_ThreadsAreCreatedRunAndEnded_2 :
    let s := stCreate 0x200 0#8
    let b := stCreate 0x200 40#8
    let r := s.readBytes (kDram 0 + 0x200) 32
    let full : State := { s with lk := { s.lk with reserved := 4096 } }
    s.recordAt 0 0x200#32 = some (kDram 0 + 0x200) ∧ s.recordAt 0 0x4000#32 = none ∧ tagFor false (leNat ((r.drop 0x14).take 2)) = 0x4002 ∧
      s.entryFree 0x4002 = true ∧ full.entryFree 0x4002 = false ∧ ((s.reserve 0x4002).create false r).1 = .ok ∧
      s.freeThread false = some 0 ∧ ((b.reserve 0x4002).create false (b.readBytes (kDram 0 + 0x200) 32)).1 = .refusedRange ∧
      after (.threadCreate 0) s (fun t => decide ((t.thread 0).st = .ready ∧ (t.thread 0).ctx.pc = 0x100#32)) = true := by decide +kernel

theorem witness_ThreadsAreCreatedRunAndEnded_3 :
    let s := stThreads
    let m : Timer := { tag := 0x4003, deadline := 70 }
    let u : State := { s with lk := { s.lk with timers := [m] } }
    (s.thread 6).st = .exiting .ok 7 ∧ (s.thread 4).st = .waiting ∧ (s.thread 4).deadline = some 50 ∧ (s.thread 5).st ≠ .waiting ∧
      u.lk.timers[0]? = some m ∧ u.time < m.deadline ∧ isBoss 1#12 = false ∧ isBoss 0x500#12 = true ∧
      s.regOff A.lkpAbort = false ∧ s.readyHead 0 = some 5 ∧ s.idleSlot 5 = some 8 ∧ s.readyHead 1 = none ∧
      after (.threadExit 6) s (fun t => decide ((t.thread 6).st = .free ∧ (t.thread 6).gen = 1#5 ∧
        (t.tokens 0x4001).map (·.value) = [0x70006#32])) = true ∧
      after (.waitTimeout 4) s (fun t => decide ((t.thread 4).st = .ready ∧ t.lk.ready = [5, 4])) = true ∧
      after (.timerExpiry 0) u (fun t => decide (t.time = 70 ∧ (t.tokens 0x4003).length = 1)) = true ∧
      after (.lkpAbort 0x500#12 4#16) s (fun t => decide ((t.thread 4).st = .exiting .refusedRights 0)) = true ∧
      after (.dispatch 0) s (fun t => decide ((t.slot 8).thread = some 5)) = true := by decide +kernel

/-- Core 1 is quarantined; the lists of lines and misses are as given. -/
def stCores (l : List Line) (m : List Miss) (r : Option CoreReturn) : State :=
  let s := stShape.setCore 1 { core0 with st := .quarantined }
  { s with lk := { s.lk with lines := l, misses := m, ret := r } }

/-- 1024 lines with pins `p`. -/
def lines1024 (p : Nat) : List Line :=
  (rangeFrom 1024 0).map (fun c => { ctx := c, pins := p, holds := [], dirty := false, used := false })

theorem witness_CoresAndContextsComeAndGo_1 :
    let s := stCores [] [] none
    let ret : CoreReturn := { core := 5, state := 1 }
    let u := stCores [] [] (some ret)
    let v := stCores [] [] (some { ret with core := 1 })
    (s.core 0).st = .member ∧ (s.core 7).st = .spare ∧ (s.core 1).st = .quarantined ∧ isBoss 0x500#12 = true ∧
      s.regOff A.lkpQcmd = false ∧ s.poundCores 0 ≤ 1 ∧ (s.core 2).st = .spare ∧ s.lk.ret = none ∧ s.lk.retQ = [] ∧
      u.lk.ret = some ret ∧ ret.core ≠ 1 ∧ u.lk.retQ.contains 1 = false ∧
      s.returning 1 = false ∧ v.returning 1 = true ∧ (s.core 7).joins = none ∧
      after (.coreQuarantine 1 1) v (fun t => decide ((t.core 1).st = .quarantined ∧ t.lk.ret.map (·.core) = some 2)) = true ∧
      after (.lkpQcmdQuarantine 0x500#12 7) s (fun t => decide ((t.core 7).st = .quarantined ∧ t.reply.status = .ok)) = true ∧
      after (.lkpQcmdQuarantine 0x500#12 1) s (fun t => decide (t.reply.status = .refusedNotReady)) = true ∧
      after (.coreQuarantine 0 1) s (fun t => decide ((t.core 0).st = .quarantined ∧ bits (t.reg A.lkpQlast) 15 8 = 3)) = true ∧
      after (.lkpQcmdReturn 0x500#12 1) s (fun t => decide (t.lk.ret = some { core := 1, state := 1 })) = true ∧
      after (.lkpQcmdReturn 0x500#12 1) u (fun t => decide (t.lk.retQ = [1])) = true ∧
      after (.lkpQcmdReturn 0x500#12 0) s (fun t => decide (t.reply.status = .refusedNotReady)) = true := by decide +kernel

theorem witness_CoresAndContextsComeAndGo_2 :
    let ret : CoreReturn := { core := 1, state := 1 }
    let pr : ProgCfg := { index := 0, level := 0, entry := 0x100, iimage := [], dimage := [], crc := 0#32 }
    let s := stCores [] [] (some ret)
    let u : State := { s with shp := { s.shp with programs := [pr] } }
    let m : Miss := { ctx := 7, hold := .demand 3 }
    let full := stCores (lines1024 0) [{ m with ctx := 2000 }] none
    u.lk.ret = some ret ∧ ret.core < 64 ∧ ret.state ≠ 4 ∧ u.pdOn 1 = true ∧
      ((u.core 1).goal.bind (fun q => u.program q.program)) = some pr ∧ u.tb.fence = false ∧
      (stCores [] [m] none).lk.misses = [m] ∧ (stCores [] [m] none).lk.lines.length < 1024 ∧
      full.lk.lines.length = 1024 ∧ full.victim.isSome = true ∧
      (stCores (lines1024 1) [m] none).victim = none ∧
      after (.coreReturnPrepared false) s (fun t => decide (bits (t.reg A.lkpQlast) 15 8 = 6)) = true ∧
      after (.contextFillComplete 7#12 false) (stCores [] [m] none) (fun t => t.present 7) = true ∧
      after (.contextFillComplete 2000#12 false) full (fun t => t.present 2000 && !t.present 0) = true := by decide +kernel

/-- Slot 0's entry 2 is unlimited but for pool 1, where its ceiling is 0; one element of each stack is free, cells `c` and
`c + 1` too; it owns the second element of pool 0 and the cells `c + 2` and `c + 3`, each a chain. -/
def stBasin : State :=
  let o : List OwnerCfg := [{ agent := 0x600, poolMask := 0x7F#8, ceiling := List.replicate 8 0xFFFF },
    { agent := 0x604, poolMask := 0x7F#8, ceiling := List.replicate 8 0xFFFF },
    { agent := 0x1000, poolMask := 0x7F#8, ceiling := 0xFFFF :: 0 :: List.replicate 6 0xFFFF }]
  let g : List DRegion := [{ channel := 0, ecc := false, secure := false, tenantVisible := false, cls := 1, kind := 2, base := 0,
                             length := 16 }]
  let m := { memCfg2 with owners := o, dregions := g }
  let s := stRun []
  let u : State := { s with shp := { s.shp with memory := m } }
  let c := u.areaBase 6
  let b : Bsn := { u.bsn with freed := [(0, [u.areaBase 0]), (6, [c, c + 1]), (7, [u.areaBase 7])],
                              tags := [(u.areaBase 0 + 1, 2), (c + 2, 2), (c + 3, 2)],
                              heads := [(c + 2, true), (c + 3, true)] }
  { u with bsn := b }

/-- The buffer word of the element of area `a` at place `i`. -/
def word0 (a i : Nat) : BitVec 23 := BitVec.ofNat 23 (bufWord a (stBasin.areaBase a + i))

theorem witness_BasinAllocatesFreesAndLinks_1 :
    let s := stBasin
    let ag := slotAgent 0
    let l : State := { s with boot := { s.boot with limp := true } }
    s.regOff A.bsnCmd = false ∧ s.reaches ag 8 = true ∧ s.drainAgent ag = s ∧ s.entryOf ag.toNat = some 2 ∧ isThread ag = true ∧
      10240 < (10241#14).toNat ∧ 256 < (257#9).toNat ∧ s.areaCount 3 = 0 ∧ isThread 0x605#12 = false ∧
      s.entryOf 0x601 = none ∧ s.validBuf (word0 0 1).toNat = true ∧ s.validBuf 0x7FFFFF = false ∧
      (rangeFrom 6 0).filter (fun p => s.poolUsable 2 p && decide (64 ≤ s.areaSize p)) = [0, 1] ∧
      (rangeFrom 6 0).filter (fun p => s.poolUsable 2 p && decide (4096 ≤ s.areaSize p)) = [] ∧
      s.boot.limp = false ∧ s.ceiling 2 0 = none ∧ s.ceiling 2 1 = some 0 ∧ 0 ≤ s.holding 2 1 ∧ s.areaFreed 0 = [s.areaBase 0] ∧
      s.areaFreed 7 = [s.areaBase 7] ∧ s.areaFreed 6 = [s.areaBase 6, s.areaBase 6 + 1] ∧ s.cellCeiling 2 = 0xFFFF ∧
      after (.alloc ag 64#14) s (fun t => decide (t.reply.value = BitVec.ofNat 64 (bufWord 0 (s.areaBase 0)) ∧ t.areaFreed 0 = [])) = true ∧
      after (.allocp ag 1#3) s (fun t => decide (t.reply.status = .refusedCapacity)) = true ∧
      after (.allocc ag 2#9) s (fun t => decide (t.areaFreed 6 = [] ∧ t.cellLink (s.areaBase 6) = s.areaBase 6 + 1)) = true ∧
      l.boot.limp = true ∧ l.drainAgent ag = l ∧ l.reaches ag 8 = true ∧
      after (.alloc ag 64#14) l (fun t => decide (t.reply.status = .refusedCapacity)) = true ∧
      after (.alloc ag 0#14) l (fun t => decide (t.reply.status = .zeroLength)) = true := by decide +kernel

theorem witness_BasinAllocatesFreesAndLinks_2 :
    let s := stBasin
    let ag := slotAgent 0
    let u := s.setReg (agKey ag A.bsnArg) ((word0 6 3).setWidth 32)
    let x := s.setReg (agKey ag A.bsnArg) 0x604#32
    let l := u.setLink (bufPtr (word0 6 2).toNat) (bufPtr (word0 6 0).toNat)
    let b := s.setTag (bufPtr (word0 0 1).toNat) 1
    let r : State := { s with bsn := { s.bsn with returning := [bufPtr (word0 6 2).toNat] } }
    s.validBuf (word0 0 1).toNat = true ∧ s.bufTag (bufPtr (word0 0 1).toNat) = 2 ∧ bufArea (word0 0 1).toNat < 6 ∧
      s.bufTag (bufPtr (word0 0 0).toNat) = tagFree ∧ (2 : Nat) ≠ tagFree ∧ b.bufTag (bufPtr (word0 0 1).toNat) = 1 ∧
      x.entryOf (x.fld (agKey ag A.bsnArg) 15 0) = some 1 ∧ (x.owner 1).poolMask.getLsbD 0 = true ∧
      s.entryOf (s.fld (agKey ag A.bsnArg) 15 0) = none ∧ bufArea (word0 6 2).toNat = 6 ∧ s.bufTag (bufPtr (word0 6 2).toNat) = 2 ∧
      (word0 6 3).toNat = u.fld (agKey ag A.bsnArg) 22 0 ∧ u.cellLink (bufPtr (word0 6 2).toNat) = endLink ∧
      u.cellHead (bufPtr (word0 6 3).toNat) = true ∧ l.cellLink (bufPtr (word0 6 2).toNat) ≠ endLink ∧
      l.validBuf (l.fld (agKey ag A.bsnArg) 22 0) = true ∧ s.bsn.returning = [] ∧ r.bsn.returning ≠ [] ∧
      after (.free ag (word0 0 1)) s (fun t => decide (t.areaFreed 0 = [s.areaBase 0 + 1, s.areaBase 0])) = true ∧
      after (.free ag (word0 0 0)) s (fun t => decide (t.reply.status = .refusedNotReady)) = true ∧
      after (.free ag (word0 0 1)) b (fun t => decide (t.reply.status = .refusedRights)) = true ∧
      after (.xfer ag (word0 0 1)) x (fun t => decide (t.bufTag (bufPtr (word0 0 1).toNat) = 1)) = true ∧
      after (.chain ag (word0 6 2)) u (fun t => decide (t.cellLink (bufPtr (word0 6 2).toNat) = bufPtr (word0 6 3).toNat)) = true ∧
      after .chainCellReturn r (fun t => decide ((t.areaFreed 6).length = 3)) = true := by decide +kernel

theorem witness_BasinSpillsFillsAndReclaims_1 :
    let s := stBasin.setReg A.topCaps 0x30000#32
    let s := { s with bsn := { s.bsn with spillFreed := [9], spillRec := [(8, some (2, 0))] } }
    let ag := slotAgent 0
    stBasin.spillReady = false ∧ s.spillReady = true ∧ s.drainAgent ag = s ∧ s.bsn.spillFreed = [9] ∧
      SMap.get (fun _ => none) s.bsn.spillRec 8 = some (2, 0) ∧ SMap.get (fun _ => none) s.bsn.spillRec 7 = none ∧
      s.areaFreed 0 = [s.areaBase 0] ∧ s.areaBase 0 < 0x100000 ∧ s.entryNamed 0x600 = some 0 ∧ (40#6).toNat ≠ tagOrphan ∧
      48 ≤ (50#6).toNat ∧ s.bsn.fills = [] ∧ s.bsn.tags.all (fun q => decide (s.areaAt q.1 < 7)) = true ∧
      after (.spill ag (word0 0 1)) s (fun t => decide (t.reply.value = 9#64 ∧ t.bsn.spills.length = 1)) = true ∧
      after (.fill ag 8#19) s (fun t => decide (t.reply.value = BitVec.ofNat 64 (bufWord 0 (s.areaBase 0)))) = true ∧
      after (.reclaim 0x500#12 2#6) s (fun t => decide (t.reply.status = .ok) && t.bsn.tags.all (fun q => decide (q.2 ≠ 2))) = true := by decide +kernel

theorem witness_BasinSpillsFillsAndReclaims_2 :
    let s := stBasin.setReg A.topCaps 0x30000#32
    let f : FillCopy := { slot := 8, ptr := s.areaBase 0, pool := 0, tag := 0x4000, agent := slotAgent 0, cancelled := false }
    let u : State := { s with bsn := { s.bsn with fills := [f] } }
    let v : State := { s with bsn := { s.bsn with spills := [(5, 8)] } }
    let r : Retry := { src := 0, tag := 0x4000, value := 7#32, status := .ok, retried := false }
    let x : State := { s with bsn := { s.bsn with retry := [r] } }
    let y : State := { x with lk := { x.lk with reserved := 4096 } }
    s.bsn.spills.find? (fun x => decide (x.2 = 8)) = none ∧ v.bsn.spills.find? (fun x => decide (x.2 = 8)) = some (5, 8) ∧
      u.bsn.fills.find? (fun f => decide (f.slot = 8)) = some f ∧ u.bsn.spills = [] ∧ u.entryFree 0x4000 = true ∧
      (u.spillBytes 8 64).1 = true ∧ x.bsn.retry = [r] ∧ x.entryFree 0x4000 = true ∧ y.entryFree 0x4000 = false ∧
      after (.fillCopyDone 8) u (fun t => decide (t.bsn.spillFreed = [8] ∧ (t.tokens 0x4000).length = 1)) = true ∧
      after .fillTokenRetry x (fun t => decide (t.bsn.retry = [] ∧ t.counter 0x80170 = 1#64)) = true := by decide +kernel

/-! ### Chapter 11 -/

/-- Tables of 16 entries with seeds 1 and 2; the manager's staged key is a station of port 0 and its result EGRESS 1. -/
def stTbl : State :=
  let t : TableCfg := { size := 16, seedA := 1#32, seedB := 2#32, policy := 0, age := 0 }
  let s : State := { stShape with shp := { stShape.shp with tables := [t, t, t] } }
  let u := (rangeFrom 3 0).foldl (fun (s : State) n => (s.setReg (A.tblSeeda n) 1#32).setReg (A.tblSeedb n) 2#32) s
  ((u.setReg (agKey 0x500#12 (A.tblKey 0)) 0x04030201#32).setReg (agKey 0x500#12 (A.tblKey 1)) 0x00000605#32).setReg
    (agKey 0x500#12 A.tblRes) 1#32

/-- The staged key of T0. -/
def key0 : List Byte := [1#8, 2#8, 3#8, 4#8, 5#8, 6#8, 0#8, 0#8]

/-- The command staged for T0. -/
def cmd0 : TblCmd := { stTbl.tblStaged 0x500#12 1 0 false 0 with key := key0, seq := stTbl.tbl.seq }

/-- The state in which that entry stands at its first place with this CTL word. -/
def stEntry (ctl : W32) : State :=
  let b := (stTbl.buckets 0 (1#32, 2#32) key0).1
  stTbl.writeBytes (stTbl.placeKey 0 (4 * b)) (key0 ++ leBytes 4 1 ++ leBytes 4 ctl.toNat)

/-- The same with a frame in flight. -/
def stFlying : State := { stTbl with flt := { stTbl.flt with frames := [(5, some frameNew)] } }

theorem witness_TableCommandsChangeOneTable_1 :
    let s := stTbl
    let q : State := { s with tbl := { s.tbl with queue := List.replicate 64 cmd0 } }
    let none0 : State := stShape
    s.regOff A.tblCmd = false ∧ s.tblRight 0x600#12 1 0 = false ∧ s.tblRight 0x500#12 1 0 = true ∧ s.tblRight 0x500#12 2 0 = true ∧
      64 ≤ q.tbl.queue.length ∧ s.tbl.queue = [] ∧ s.tbl.fences.length < 8 ∧ none0.tblSize 0 = 0 ∧ s.tblSize 0 ≠ 0 ∧
      addOk cmd0 = true ∧ addOk { cmd0 with res := 0x20000#32 } = false ∧ s.tblFind 0 key0 = none ∧
      (s.freeIn 0 (slotsOf (s.buckets 0 (1#32, 2#32) key0).1)).isSome = true ∧
      (s.freeIn 0 (slotsOf (s.buckets 0 (s.placeSeeds 0) key0).1 ++ slotsOf (s.buckets 0 (s.placeSeeds 0) key0).2)).isSome = true ∧
      after (.tableAdd 0x500#12 0#2 false 0#16) s (fun t => decide (t.reply.status = .ok ∧ t.epoch 0 = 1) &&
        (t.tblFind 0 key0).isSome) = true ∧
      after (.tableRead 0x500#12 3#2 false 0#16) s (fun t => decide (t.reply.status = .refusedRange)) = true ∧
      after (.tableDel 0x500#12 0#2 false 0#16) q (fun t => decide (t.reply.status = .refusedCapacity)) = true := by decide +kernel

/-- Every place of T0 holds an entry of another key. -/
def stFull : State :=
  stTbl.writeBytes kTable ((rangeFrom 16 0).flatMap (fun i => [BitVec.ofNat 8 (100 + i), 0#8, 0#8, 0#8, 0#8, 0#8, 0#8, 0#8,
    1#8, 0#8, 0#8, 0#8, 1#8, 0#8, 0#8, 0#8]))

/-- The stash of T0 is full too. -/
def stStash : State :=
  stFull.writeBytes (stFull.placeKey 0 16) ((rangeFrom 16 0).flatMap (fun i => [BitVec.ofNat 8 (200 + i), 0#8, 0#8, 0#8, 0#8, 0#8, 0#8, 0#8,
    1#8, 0#8, 0#8, 0#8, 1#8, 0#8, 0#8, 0#8]))

theorem witness_TableCommandsChangeOneTable_2 :
    let e := stEntry 1#32
    let a := stTbl.setReg (agKey 0x500#12 A.tblAux0) 0x200#32
    let p := 4 * (stTbl.buckets 0 (1#32, 2#32) key0).1
    e.tblFind 0 key0 = some p ∧ (∀ q, q ∈ e.stashPlaces 0 → e.placeFree 0 q = true) ∧ e.tblRight 0x500#12 4 0 = true ∧
      bit (a.reg (agKey 0x500#12 A.tblAux0)) 9 = true ∧ bit (e.reg (agKey 0x500#12 A.tblAux0)) 9 = false ∧
      e.tblRight 0x500#12 3 0 = true ∧ e.inFlight = [] ∧ stFlying.inFlight ≠ [] ∧ e.tblRight 0x500#12 5 0 = true ∧
      e.tbl.rehash = [] ∧ BitVec.ofNat 32 (leNat (key0.take 4)) ≠ BitVec.ofNat 32 (leNat ((key0.drop 4).take 4)) ∧
      e.tblRight 0x500#12 6 0 = true ∧ stTbl.idFree 7 = true ∧
      after (.tableDel 0x500#12 0#2 false 0#16) e (fun t => decide (t.tblFind 0 key0 = none ∧ t.epoch 0 = 1)) = true ∧
      after (.tableRead 0x500#12 0#2 false 0#16) e (fun t => decide (t.reg (agKey 0x500#12 (A.tblRd 0)) = 1#32)) = true ∧
      after (.tableFlush 0x500#12 0#2 false 0#16) a (fun t => decide (t.validPlaces 0 = [])) = true ∧
      after (.tableFence 0x500#12 0#2 false 0#16) stFlying (fun t => decide (t.tbl.fences.map (·.tickets) = [[5]])) = true ∧
      after (.tableRehash 0x500#12 0#2 false 0#16) e (fun t => decide (t.tbl.rehash.length = 1)) = true := by decide +kernel

theorem witness_TableCommandsChangeOneTable_3 :
    stStash.makeRoom 0 (stStash.placeSeeds 0) key0 = none ∧ stStash.tblFind 0 key0 = none ∧
      (stFull.makeRoom 0 (stFull.placeSeeds 0) key0).isSome = true ∧
      after (.tableAdd 0x500#12 0#2 false 0#16) stStash (fun t => decide (t.counter 0x90230 = 1#64)) = true := by decide +kernel

/-- Every place of T0 holds an entry whose two buckets under the seeds 3 and 4 are 0 and 1, and the stash is full. -/
def stJammed : State :=
  stStash.writeBytes kTable ([0, 3, 4, 7, 9, 10, 13, 14, 16, 19, 20, 23, 25, 26, 29, 30].flatMap (fun i => [BitVec.ofNat 8 i, 0#8, 0#8, 0#8,
    0#8, 0#8, 0#8, 0#8, 1#8, 0#8, 0#8, 0#8, 1#8, 0#8, 0#8, 0#8]))

theorem witness_TablesLearnAgeFenceAndRehash_1 :
    let s := stTbl
    let f : Fence := { tickets := [], cmd := some cmd0, ids := [] }
    let u : State := { s with tbl := { s.tbl with fences := [f] } }
    let r : Rehash := { table := 0, seedA := 3#32, seedB := 4#32, cmd := cmd0 }
    let v : State := { stEntry 1#32 with tbl := { (stEntry 1#32).tbl with rehash := [r] } }
    let x : State := { stJammed with tbl := { stJammed.tbl with rehash := [r] } }
    u.tbl.fences.find? (fun f => decide (f.tickets = [])) = some f ∧ cmd0.token = false ∧ s.tbl.fences = [] ∧
      s.tbl.rehash.find? (fun r => decide (r.table = 0)) = none ∧ v.tbl.rehash.find? (fun r => decide (r.table = 0)) = some r ∧
      (v.migrateAll 0 (3#32, 4#32)).isSome = true ∧ (x.migrateAll 0 (3#32, 4#32)).isNone = true ∧
      after .fenceComplete u (fun t => decide (t.tbl.fences = [])) = true ∧
      after (.rehashComplete 0) v (fun t => decide (t.reg (A.tblSeeda 0) = 3#32 ∧ t.tbl.rehash = []) && (t.tblFind 0 key0).isSome) = true ∧
      after (.rehashFail 0) x (fun t => decide (t.reg (A.tblSeeda 0) = 1#32 ∧ t.tbl.rehash = [])) = true := by decide +kernel

theorem witness_TablesLearnAgeFenceAndRehash_2 :
    let s := stTbl.setReg A.tblAge 10#32
    let l : Learn := { key := key0, port := 3, refresh := false }
    let u : State := { s with tbl := { s.tbl with learn := [l] } }
    let r : Retry := { src := 0, tag := 0x4000, value := 7#32, status := .ok, retried := false }
    let x : State := { s with tbl := { s.tbl with retry := [r] } }
    let y : State := { x with lk := { x.lk with reserved := 4096 } }
    let e := fun (c : W32) => (stEntry c).setReg A.tblAge 10#32
    u.tbl.learn = [l] ∧ u.tblSize 0 ≠ 0 ∧ u.tblFind 0 key0 = none ∧ (nth key0 7 0#8).toNat < 16 ∧ s.tbl.learn = [] ∧
      x.tbl.retry = [r] ∧ x.entryFree 0x4000 = true ∧ y.entryFree 0x4000 = false ∧ (stTbl.setReg A.tblAge 0xFFFF#32).fld A.tblAge 15 0 = 0xFFFF ∧
      (e 0xB#32).validPlaces 0 = [4 * (s.buckets 0 (1#32, 2#32) key0).1] ∧ 4 * (s.buckets 0 (1#32, 2#32) key0).1 < 16 ∧
      bit 0xB#32 1 = true ∧ bit 0xB#32 2 = false ∧ bit 0xF#32 2 = true ∧ bit 1#32 1 = false ∧
      (e 0xF#32).placeCtl 0 (4 * (s.buckets 0 (1#32, 2#32) key0).1) = 0xF#32 ∧
      after .learnInsert u (fun t => decide (t.counter 0x90248 = 1#64) && (t.tblFind 0 key0).isSome) = true ∧
      after .ageingSweep (e 0xB#32) (fun t => decide (t.validPlaces 0 = [])) = true ∧
      after .ageingSweep (e 0xF#32) (fun t => decide (t.validPlaces 0 ≠ [])) = true := by decide +kernel

/-! ### Chapter 12 -/

/-- Descriptor 0, untagged, has two slots of 8 and 16 bytes, is live and holds the first berth; partners 7 and 8 are ACTIVE on
port 0; partner 7 is bound to its slot 1 and partner 8 to slot 0. -/
def stBarge : State :=
  let s := stShape
  let w := bufWord 7 (s.areaBase 7)
  let x : Partner := { Partner.init with st := 2, port := 0, sa := [1#8, 2#8, 3#8, 4#8, 5#8, 6#8], expect := true, bind := some (0, 1), loss := 1 }
  let y := { x with bind := some (0, 0), expect := false }
  let b : Brg := { s.brg with dir := [(7, x), (8, y)], out := [(0, { OutBarge.init with berth := some w, live := true })], freeIds := [20, 21] }
  let u : State := { s with brg := b, tb := { s.tb with started := true, timer := true, cycRun := true, cycStart := 100#64, now := 150#64 } }
  ((((((u.setTag (bufPtr w) 1).setReg (A.brgOcfg 0) 0x02000301#32).setReg (A.brgOslot 0) 8#32).setReg (A.brgOslot 1) 16#32).setReg
    (A.brgIcfg 0) 1#32).setReg (A.brgIclose 0) 1000#32).setReg A.brgCtrl 3#32

/-- The same with a context store in channel 0, in service. -/
def stStore : State :=
  let g : List DRegion := [{ channel := 0, ecc := false, secure := false, tenantVisible := false, cls := 1, kind := 1, base := 0, length := 16 }]
  let m := { memCfg2 with dregions := g }
  State.setReg { stBarge with shp := { stBarge.shp with memory := m } } A.topCaps 0x30000#32

theorem witness_BargesAreFilledSealedAndChecked_1 :
    let s := stBarge
    let d := stStore
    let v : W32 := 0x00080007#32
    let w := bufWord 7 (s.areaBase 7)
    let l : Line := { ctx := 7, pins := 0, holds := [], dirty := false, used := false }
    let p : State := { d with lk := { d.lk with lines := [l] } }
    let c : State := { d with brg := { d.brg with commits := [{ agent := 0x500#12, word := v }] } }
    s.reaches 0x600#12 0x0A = false ∧ s.reaches 0x500#12 0x0A = true ∧ s.drainAgent 0x500#12 = s ∧ bits 0x4000#32 15 14 ≠ 0 ∧
      bits v 15 14 = 0 ∧ bits v 31 24 = 0 ∧ (s.partner 9).bind = none ∧ s.commitCheck 0x00000007#32 = (.ok, 0, 1, w) ∧
      s.readContext 7 0 = some [] ∧ d.commitCheck v = (.ok, 0, 1, w) ∧ d.present 7 = false ∧ d.contextAt 7 = some (0, 0xE00) ∧
      d.chInService 0 = true ∧ p.present 7 = true ∧ (p.readContext 7 8).isSome = true ∧ s.brg.commits = [] ∧
      c.commitCheck v = (.ok, 0, 1, w) ∧ (c.readContext 7 8).isSome = true ∧
      after (.brgCommit 0x500#12 0x00000007#32) s (fun t => decide (t.reply.status = .ok ∧
        t.readBytes (kBasin + bufPtr w * 64 + 14 + 28) 4 = [0#8, 7#8, 0#8, 0#8])) = true ∧
      after (.brgCommit 0x500#12 v) d (fun t => decide (t.brg.commits.length = 1)) = true ∧
      after (.commitCopyDone 0x500#12) c (fun t => decide (t.brg.commits = []) && (t.out 0).fresh.contains 1) = true := by decide +kernel

theorem witness_BargesAreFilledSealedAndChecked_2 :
    let s := stBarge
    let n : State := s.setTag (bufPtr (bufWord 7 (s.areaBase 7))) 0
    (s.out 1).live = false ∧ (s.out 0).live = true ∧ (s.out 0).sealed = false ∧ s.brg.commits = [] ∧ n.berthOf 0 = none ∧
      (s.berthOf 0).isSome = true ∧ (s.takeTicket 0).isSome = true ∧ s.entryOf 0x600 = some 0 ∧
      after (.bargeSeal 0) s (fun t => decide (t.counter 0xA0400 = 1#64) && (t.frame 0).any (fun f => decide (f.fr.port = 9 ∧
        f.fr.egress = 3#16 ∧ f.fr.len = 66))) = true ∧
      after (.bargeSeal 0) n (fun t => bit (t.reg (A.evrPend (467 / 32))) (467 % 32)) = true := by decide +kernel

/-- A barge of 24 bytes of cycle 0 without a tag, received on port 0 from partner 7. -/
def stInbound : State :=
  let wire := List.replicate 12 2#8 ++ [0x22#8, 0xF3#8, 0x10#8, 0#8, 0#8, 24#8] ++ List.replicate 46 0#8
  let f := { frameNew with wire := wire, checking := true, fr := { recNew with buf := w32 (bufWord 0 (stBarge.areaBase 0)), lk := [0, 0, 1],
                                                                               res := [0#32, 0#32, 7#32], admitAt := 120#64 } }
  { stBarge with flt := { stBarge.flt with frames := [(5, some f), (6, some { f with checking := false }),
      (8, some { f with wire := wire.take 14 ++ [0x20#8] ++ wire.drop 15 })] } }

theorem witness_BargesAreFilledSealedAndChecked_3 :
    let s := stInbound
    (s.frame 5).any (fun f => f.checking && !f.released && decide (bufArea f.fr.buf.toNat ≠ 6) && s.inWindow f &&
      decide (s.inboundStatus f.fr.port f.wire = .ok ∧ nth f.fr.lk 2 0 = 1)) = true ∧
      (s.frame 6).any (fun f => decide (f.checking = false)) = true ∧
      (s.frame 8).any (fun f => decide (s.inboundStatus f.fr.port f.wire = .refusedRange)) = true ∧
      after (.inboundCheck 5) s (fun t => (t.partner 7).present && decide (t.counter 0xA0418 = 1#64 ∧ t.counter 0xA0420 = 0#64)) = true ∧
      after (.inboundCheck 8) s (fun t => decide (t.counter 0xA0420 = 1#64)) = true := by decide +kernel

theorem witness_BargesAreFilledSealedAndChecked_4 :
    let s := stBarge
    let p := s.setPartner 7 { s.partner 7 with present := true }
    let g := s.setReg A.brgCtrl 2#32
    s.tb.cycRun = true ∧ bit (s.reg (A.brgIcfg 0)) 0 = true ∧ s.brg.closed = [] ∧ s.expected 0 = [7] ∧ (s.partner 7).st = 2 ∧
      (p.partner 7).present = true ∧ (s.partner 7).loss + 1 < s.fld A.brgCtrl 7 0 ∧ g.fld A.brgCtrl 7 0 ≤ (g.partner 7).loss + 1 ∧
      bit (s.reg (A.brgIcfg 1)) 0 = false ∧
      after (.receiveWindowClose 0) s (fun t => decide ((t.partner 7).loss = 2 ∧ t.brg.closed = [0])) = true ∧
      after (.receiveWindowClose 0) p (fun t => decide ((t.partner 7).loss = 0)) = true ∧
      after (.receiveWindowClose 0) g (fun t => decide ((t.partner 7).st = 3 ∧ t.counter 0xA0430 = 1#64)) = true := by decide +kernel

/-- The manager's ARG0 to ARG3 are these words, over tables of 16 entries. -/
def stArgs (a b c d : W32) : State :=
  let s : State := { stBarge with shp := { stBarge.shp with tables := stTbl.shp.tables } }
  (((s.setReg (agKey 0x500#12 (A.brgArg 0)) a).setReg (agKey 0x500#12 (A.brgArg 1)) b).setReg (agKey 0x500#12 (A.brgArg 2)) c).setReg
    (agKey 0x500#12 (A.brgArg 3)) d

theorem witness_PartnersAreAdmittedBoundAndReleased_1 :
    let s := stArgs 0x04030201#32 0x00010605#32 0#32 9#32
    let f : State := { s with tb := { s.tb with fence := true } }
    let e : State := { s with brg := { s.brg with freeIds := [] } }
    let key : List Byte := [1#8, 2#8, 3#8, 4#8, 5#8, 6#8, 1#8]
    s.reaches 0x600#12 0x0A = false ∧ s.reaches 0x500#12 0x0A = true ∧ s.drainAgent 0x500#12 = s ∧
      bits 0x00100000#32 31 20 ≠ 0 ∧ s.tblFind 2 key = none ∧ argBind 0#32 = none ∧ s.pickId 0 = some 20 ∧
      (s.tblAdd (t2Cmd 1 key (t2Res 20 1 9))).1 = .ok ∧ s.tb.fence = false ∧ f.tb.fence = true ∧ e.brg.freeIds = [] ∧
      after (.admitPartner 0x500#12) s (fun t => decide (t.reply.value = 20#64 ∧ (t.partner 20).st = 1) && (t.tblFind 2 key).isSome &&
        after (.admitPartner 0x500#12) t (fun u => decide (u.reply.status = .refusedNotReady ∧ u.reply.value = 20#64))) = true ∧
      after (.admitPartner 0x500#12) f (fun t => decide (t.reply.status = .delayed)) = true ∧
      after (.admitPartner 0x500#12) e (fun t => decide (t.reply.status = .refusedCapacity)) = true := by decide +kernel

theorem witness_PartnersAreAdmittedBoundAndReleased_2 :
    let s := stArgs 0x00030007#32 0#32 0x01002000#32 0#32
    let z := stArgs 7#32 0#32 0x01002000#32 0#32
    let b := (z.fresh.2).fresh.2.allocSize 1 64 none
    bits 0x00030007#32 11 0 = 7 ∧ (s.partner 7).st = 2 ∧ (s.partner 9).st = 0 ∧ bits 0x00030007#32 15 12 = 0 ∧ bits 0x00030007#32 31 20 = 0 ∧
      bits 0x00030007#32 19 16 = 3 ∧ s.tb.fence = false ∧ bits 7#32 31 12 = 0 ∧ argBind 0x01002000#32 = some (2, 0) ∧
      z.slotTaken (2, 0) 7 = false ∧ z.slotTaken (0, 0) 7 = true ∧ z.entryOf 0x604 = some 1 ∧ b.1 = .ok ∧ (b.2.2.takeTicket 1).isSome = true ∧
      b.2.2.entryOf 0x600 = some 0 ∧
      after (.release 0x500#12) s (fun t => decide ((t.partner 7).st = 3) && t.groupArmed 15) = true ∧
      after (.bind 0x500#12) z (fun t => decide (t.brg.changes = [{ pid := 7, bind := some (2, 0), expect := false, release := false }])) = true ∧
      after (.partnerRead 0x500#12) z (fun t => decide (t.reg (agKey 0x500#12 A.brgDir0) = 0x00422007#32 ∧
        t.reg (agKey 0x500#12 A.brgDir1) = 0x00010001#32)) = true ∧
      after (.welcome 0x500#12) z (fun t => (t.frame 0).any (fun f => decide (f.fr.len = 64 ∧ f.fr.egress = 1#16))) = true := by decide +kernel

/-! ### Chapters 13 and 14 -/

/-- Lane 0 is in service; PRT_STAT0 is `v`; port 0's entry has MODE `m`, SPEED `sp`. -/
def stLane (v : W32) (m sp : Nat) : State :=
  let s : State := { stShape with shp := { stShape.shp with ports := { port1 with mode := m, speed := sp, pauseC3 := true } :: List.replicate 7 port1 } }
  (s.setReg A.topCaps 0x0300#32).setReg (A.prtStat 0) v

theorem witness_PortsComeUpLeaveAndPause_1 :
    let s := stLane 0#32 1 1
    let u := (stLane 1#32 1 1).setPort 0 { PortSt.init with upSince := some 0 }
    s.laneUp 0 = true ∧ s.pdOn 77 = true ∧ stShape.laneUp 0 = false ∧ (s.portCfg 0).mode = 1 ∧ (s.portCfg 0).speed ≠ 2 ∧
      (u.port 0).upSince = some 0 ∧ u.inService 0 = false ∧ (u.port 0).returning = false ∧ u.pwr.laneWait.contains 77 = false ∧
      u.tb.fence = false ∧ bit (s.reg (A.prtStat 0)) 0 = false ∧ bit ((stLane 3#32 1 1).reg (A.prtStat 0)) 0 = true ∧
      (stLane 3#32 1 1).inService 0 = true ∧
      after (.portLinkUp 0 1 false) s (fun t => decide (t.reg (A.prtStat 0) = 5#32)) = true ∧
      after (.portLinkUp 0 2 false) s (fun t => decide (t.reg (A.prtStat 0) = 0x100#32)) = true ∧
      after (.portLinkUp 0 1 true) s (fun t => decide (t.reg (A.prtStat 0) = 0x80#32)) = true ∧
      after (.portReturnCount 0) u (fun t => t.groupArmed 19) = true ∧
      after (.portLeaveService 0) (stLane 3#32 1 1) (fun t => !t.inService 0 && !bit (t.reg (A.prtStat 0)) 0) = true := by decide +kernel

theorem witness_PortsComeUpLeaveAndPause_2 :
    let s := stLane 0x23#32 1 1
    let q := s.setReg (A.prtExpress 0) 1#32
    let e := s.setPort 0 { PortSt.init with pauseEnd := some 9, verify := 3 }
    s.inService 0 = true ∧ (s.portCfg 0).pauseC3 = true ∧ (stShape.portCfg 0).pauseC3 = false ∧ (s.port 0).pauseEnd = none ∧ (e.port 0).pauseEnd = some 9 ∧
      isBoss 0x500#12 = true ∧ isBoss 1#12 = false ∧ s.regOff (A.prtPauseq 0) = false ∧ bits 1#32 7 0 &&& q.fld (A.prtExpress 0) 7 0 ≠ 0 ∧
      bits 2#32 7 0 &&& q.fld (A.prtExpress 0) 7 0 = 0 ∧ bits (s.reg (A.prtStat 0)) 6 5 = 1 ∧ (s.port 0).verify < 3 ∧ 3 ≤ (e.port 0).verify ∧
      after (.pauseReceived 0 10#16) s (fun t => (t.port 0).pauseEnd.isSome && bit (t.reg (A.prtStat 0)) 9) = true ∧
      after (.pauseqWrite 0x500#12 0 1#32) q (fun t => decide (t.reply.status = .refusedRange)) = true ∧
      after (.verifyFrameSend 0) e (fun t => decide (bits (t.reg (A.prtStat 0)) 6 5 = 3)) = true ∧
      after (.verifyResponse 0) s (fun t => decide (bits (t.reg (A.prtStat 0)) 6 4 = 5)) = true := by decide +kernel

/-- A released frame of 64 bytes in a buffer, for port 0's queue 1. -/
def egOne : EgFrame :=
  { ticket := none, buf := 0, len := 64, fin := false, cls := 1, queue := 1, ports := 1#16, begun := 0#16, stomp := true, owned := false,
    toHost := false, tkt := 5, inPort := 0, hostq := 0 }

/-- Port 0 is in service, its queue 1 holds entry 0 of `n` bytes, and its port state is `x`. -/
def stQueue (x : PortSt) (n : Nat) : State :=
  let s := stLane 0x13#32 1 3
  ({ s with flt := { s.flt with eg := [(0, some { egOne with len := n })] } }).setPort 0 x

theorem witness_GatesSendFramesStampsAndMdio_1 :
    let s := ((stCycle.setReg (gclLenAddr 0) 2#32).setReg (gclAddr 0 0) 0x3FFFF#32).setReg (gclAddr 0 1) 0x3FD01#32
    s.tb.cycRun = true ∧ s.gclEntry 0 + 1 < s.gclLen 0 ∧ s.gclBegin 0 1 < s.tb.cycLen ∧ s.gclLen 1 ≤ s.gclEntry 1 + 1 ∧
      after (.gateEntryBegin 0) s (fun t => (t.port 0).hold && decide (t.gclEntry 0 = 1)) = true := by decide +kernel

theorem witness_GatesSendFramesStampsAndMdio_2 :
    let s := stQueue { PortSt.init with queues := [(1, [0])] } 64
    let g : Sending := { eg := 0, queue := 1, t0 := 0, first := 0, sent := 0 }
    let cut := stQueue { PortSt.init with cut := some g } 200
    let snd := (stQueue { PortSt.init with sending := some g, hold := true } 200)
    let done := (stQueue { PortSt.init with sending := some g } 64)
    let pick := fun (s : State) => [7, 6, 5, 4, 3, 2, 1, 0].find? (fun q => (s.gateDrop 0).mayStart 0 q)
    s.inService 0 = true ∧ (s.port 0).sending = none ∧ pick s = some 1 ∧ ((s.gateDrop 0).port 0).queue 1 = [0] ∧
      (s.gateDrop 0).egFrame 0 = some egOne ∧ pick cut = none ∧ ((cut.gateDrop 0).port 0).cut = some g ∧ (cut.gateDrop 0).gateOpen 0 1 = true ∧
      (snd.port 0).sending = some g ∧ snd.isExpress 0 1 = false ∧ snd.mustYield 0 g = true ∧
      0 + max 60 (snd.bytesBy 0 0 snd.time) + 64 ≤ 200 ∧ done.mustYield 0 g = false ∧ (done.egFrame 0).any (fun x => decide (x.ticket = none)) = true ∧
      after (.egressFrameStart 0) s (fun t => (t.port 0).sending.isSome && decide ((t.port 0).queue 1 = [])) = true ∧
      after (.egressFrameStart 0) cut (fun t => (t.port 0).sending.isSome && decide (t.counter (prtCtr 0 13) = 1#64)) = true ∧
      after (.fragmentPreempt 0) snd (fun t => decide ((t.port 0).cut = some { g with sent := 60 })) = true ∧
      after (.egressFrameSent 0) done (fun t => decide (t.flt.sent.map (·.good) = [false] ∧ t.counter (prtCtr 0 12) = 1#64)) = true := by
  decide +kernel

theorem witness_GatesSendFramesStampsAndMdio_3 :
    let s := stShape.setPort 0 { PortSt.init with stamps := [[1#32, 2#32, 3#32, 4#32]] }
    let b := stShape.setReg (A.prtMdioStat 0) 0x10000#32
    let m : State := { b with prt := { b.prt with mdio := [(0, some { cmd := 0x800#32 })] } }
    s.reaches 0x500#12 0x0B = true ∧ s.reaches 0x600#12 0x0B = false ∧ bit (s.reg (A.prtMdioStat 0)) 16 = false ∧
      bit (b.reg (A.prtMdioStat 0)) 16 = true ∧ SMap.get (fun _ => none) m.prt.mdio 0 = some { cmd := 0x800#32 } ∧ mdioReads 0x800#32 = true ∧
      mdioReads 0x400#32 = false ∧ SMap.get (fun _ => none) s.prt.mdio 0 = none ∧
      after (.tspop 0x500#12 0) s (fun t => decide (t.reply.value = 1#64 ∧ (t.port 0).stamps = [])) = true ∧
      after (.mdioRead 0x500#12 0 1#5 2#5 false false) s (fun t => decide (SMap.get (fun _ => none) t.prt.mdio 0 = some { cmd := 0x841#32 })) = true ∧
      after (.mdioComplete 0 0xBEEF#16) m (fun t => decide (t.reg (A.prtMdioStat 0) = 0xBEEF#32)) = true := by decide +kernel

/-- Channel 0 of stStore holds the requests `q` and has `a` active; its control word is `c`. -/
def stDram (q a : List DramReq) (c : W32) : State :=
  let s := stStore.setReg (A.drcCtrl 0) c
  s.setCh 0 { s.ch 0 with queue := q, active := a }

/-- A read of class 2. -/
def req2 : DramReq :=
  { agent := 1#12, cls := 2, addr := 0x1000, len := 8, write := false, locked := false, entry := 0, promoted := false }

theorem witness_DramRequestsRefreshAndScrub_1 :
    let r := { req2 with addr := 0x2000, cls := 1 }
    let s := stDram [req2, r] [req2] 1#32
    let d : List DRegion := [{ channel := 0, ecc := true, secure := false, tenantVisible := false, cls := 1, kind := 3, base := 0, length := 1 }]
    let m := { memCfg2 with dregions := d }
    let e : State := { s with shp := { s.shp with memory := m } }
    (stDram [] [] 0#32).pickRequest 0 = none ∧ s.pickRequest 0 = some r ∧ bit (s.reg (A.drcCtrl 0)) 0 = true ∧ (s.ch 0).active = [req2] ∧
      e.eccAt 0 0x1000 = true ∧ s.eccAt 0 0x1000 = false ∧ (s.ch 0).queue[0]? = some req2 ∧ req2.cls ≠ 0 ∧ (s.ch 0).queue[5]? = none ∧
      agentSlot 1#12 = some 0 ∧
      after (.dramRequestStart 0) s (fun t => decide ((t.ch 0).queue = [req2] ∧ (t.ch 0).active = [req2, r])) = true ∧
      after (.dramRequestComplete 0 2) e (fun t => decide ((t.ch 0).poison = [0x1000] ∧ (t.ch 0).active = [])) = true ∧
      after (.requestPromotion 0 0) s (fun t => decide (t.counter (drcCtr 0 3) = 1#64)) = true := by decide +kernel

theorem witness_DramRequestsRefreshAndScrub_2 :
    let s := stDram [req2] [] 1#32
    let b := s.bankOf 0 req2.addr
    let f := s.setCh 0 { s.ch 0 with debt := [(3, 8)], zq := true }
    let c := s.setReg (A.drcScrub 0) 1#32
    b ≠ 3 ∧ b < 16 ∧ 8 ≤ SMap.get (fun _ => 0) (f.ch 0).debt 3 ∧ SMap.get (fun _ => 0) (s.ch 0).debt 3 < 8 ∧ s.chInService 0 = true ∧
      stShape.chInService 0 = false ∧ (f.ch 0).zq = true ∧ (s.ch 0).zq = false ∧ bit (c.reg (A.drcScrub 0)) 0 = true ∧
      eccByte 0 c.shp.memory.dregions (c.ch 0).scrubPos = none ∧
      eccByte 0 [{ channel := 0, ecc := true, secure := false, tenantVisible := false, cls := 1, kind := 3, base := 2, length := 1 }] 8 = some 0x200008 ∧
      after (.refreshPerBank 0 3) s (fun t => decide (SMap.get (fun _ => 0) (t.ch 0).debt 3 = 0)) = true ∧
      after (.forcedRefresh 0 3) f (fun t => decide (SMap.get (fun _ => 0) (t.ch 0).debt 3 = 7 ∧ t.counter (drcCtr 0 4) = 1#64)) = true ∧
      after (.mr4Poll 0 1 false) s (fun t => decide (bits (t.reg (A.drcStat 0)) 12 11 = 1)) = true ∧
      after (.zqLatch 0 true) f (fun t => !(t.ch 0).zq) = true := by decide +kernel

/-- An ECC region in segment 1 of channel 1. -/
def eccRegion : DRegion :=
  { channel := 1, ecc := true, secure := false, tenantVisible := true, cls := 1, kind := 3, base := 64, length := 1 }

/-- Channel 1, without a context store, in STATE `v`; a secure region lies in segment 0 of channel 1 and an ECC region in segment 1. -/
def stSr (v : Nat) : State :=
  let g : List DRegion := [{ channel := 0, ecc := false, secure := false, tenantVisible := false, cls := 1, kind := 1, base := 0, length := 16 },
    { channel := 1, ecc := false, secure := true, tenantVisible := false, cls := 1, kind := 6, base := 0, length := 1 },
    eccRegion]
  let m := { memCfg2 with dregions := g }
  State.setReg (State.setReg { stStore with shp := { stStore.shp with memory := m } } (A.drcStat 1) (BitVec.ofNat 32 (v + 64))) (A.drcCtrl 1) 0x00100000#32

theorem witness_DramSelfRefreshAndFills_1 :
    let s := stSr 1
    let a := stSr 2
    let w := a.setCh 1 { a.ch 1 with queue := [req2] }
    let x := a.setCh 1 { a.ch 1 with exiting := true }
    s.chState 1 = 1 ∧ (s.ch 1).queue = [] ∧ bits (s.reg (A.drcCtrl 1)) 31 16 ≠ 0xFFFF ∧ a.chState 1 = 2 ∧ (w.ch 1).queue ≠ [] ∧
      (x.ch 1).exiting = true ∧ isBoss 0x500#12 = true ∧ isBoss 1#12 = false ∧ s.regOff (A.drcSr 1) = false ∧
      s.shp.memory.dregions.any (fun r => decide (r.kind = 1 ∧ r.channel = 0)) = true ∧
      s.shp.memory.dregions.all (fun r => decide (¬ (r.kind = 1 ∧ r.channel = 1))) = true ∧
      s.shp.memory.dregions.any (fun r => r.secure && s.regionMasked 1 1 r) = true ∧
      s.shp.memory.dregions.all (fun r => !r.secure || !s.regionMasked 1 2 r) = true ∧ (stSr 4).chState 1 = 4 ∧
      after (.selfRefreshAutoEntry 1) s (fun t => decide (t.chState 1 = 2)) = true ∧
      after (.srAutoExitComplete 1) x (fun t => decide (t.chState 1 = 1)) = true ∧
      after (.srEnter 0x500#12 1 1#16) s (fun t => decide (t.reply.status = .refusedSecure)) = true ∧
      after (.srEnter 0x500#12 0 2#16) s (fun t => decide (t.reply.status = .refusedRights)) = true ∧
      after (.srEnter 0x500#12 1 2#16) s (fun t => (t.ch 1).entering && !t.chInService 1) = true := by decide +kernel

theorem witness_DramSelfRefreshAndFills_2 :
    let s := stSr 1
    let e := s.setCh 1 { s.ch 1 with entering := true, mask := 2 }
    let h := stSr 3
    let x := (h.setCh 1 { h.ch 1 with exiting := true, mask := 2 })
    let f := (stSr 4).setCh 1 { (stSr 4).ch 1 with fills := [2] }
    (e.ch 1).entering = true ∧ (e.ch 1).queue = [] ∧ (e.ch 1).active = [] ∧ e.regionMasked 1 2 eccRegion = true ∧ h.chState 1 = 3 ∧ (x.ch 1).exiting = true ∧
      x.regOff (A.drcSr 1) = false ∧ (f.ch 1).fills = [2] ∧ f.shp.memory.dregions[2]?.isSome = true ∧ (h.ch 1).exiting = false ∧
      after (.srHeldEntered 1) e (fun t => decide (t.chState 1 = 3 ∧ SMap.get (fun _ => 0) (t.ch 1).epoch 1 = 1) && bit (t.reg A.drcLost) 2) = true ∧
      after (.srExit 0x500#12 1) h (fun t => (t.ch 1).exiting) = true ∧
      after (.srExitComplete 1) x (fun t => t.chInService 1 && decide ((t.ch 1).fills = [2] ∧ t.chState 1 = 4)) = true := by decide +kernel

/-! ### Chapters 15 and 16 -/

/-- Semaphore 0 is `w`; group 0 is open to pounds 0 and 1; group 1 is secure. -/
def stSem (w : W32) : State :=
  ((stRun []).setReg (A.sauSem 0) w).setReg (A.sauGrp 0) 3#32 |>.setReg (A.sauTag 0) 0x00070009#32

theorem witness_SemaphoresAreClaimedReleasedAndForced :
    let f := stSem 0x1000#32
    let o := stSem 1#32
    f.reaches 1#12 0x0D = true ∧ (f.groupRight 1#12 0 = .ok) ∧ f.groupRight 0x605#12 0 ≠ .ok ∧ f.semOwner 0 = 0 ∧ f.semDead 0 = false ∧
      o.semOwned 1#12 0 = true ∧ o.semOwned 9#12 0 = false ∧ ¬ (o.semOwner 0 = 0) ∧ f.groupMaster 0x500#12 0 = true ∧
      f.groupMaster 1#12 0 = false ∧ o.semOwner 0 ≠ 0 ∧
      after (.semaphoreClaim 1#12 0 0x1234#32) f (fun t => decide (t.reply.status = .abandoned ∧ t.reg (A.sauSem 0) = 0x1001#32)) = true ∧
      after (.semaphoreClaim 9#12 0 0x1234#32) o (fun t => decide (t.reply.status = .refusedNotReady ∧ t.counter 0xD2908 = 1#64)) = true ∧
      after (.semaphoreRelease 1#12 0) o (fun t => decide (t.reg (A.sauSem 0) = 0#32)) = true ∧
      after (.forceRelease 0x500#12 0) o (fun t => decide (t.reg (A.sauSem 0) = 0x11000#32 ∧ t.reg (A.sauTag 0) = 0x90000#32)) = true ∧
      after (.groupWrite 0x500#12 0 0x0020000F#32) o (fun t => decide (t.reg (A.sauGrp 0) = 0x0020000F#32)) = true := by decide +kernel

theorem witness_WatchSlotsAndHostAtomics_1 :
    let s := stSem 1#32
    let f := stSem 0#32
    let a := (s.setReg (A.sauWctl 0) 0x80000000#32).setReg (A.sauWstat 0) 9#32
    let r : Retry := { src := 0, tag := 0x4000, value := 7#32, status := .ok, retried := false }
    let x : State := { s with sau := { s.sau with retry := [r] } }
    s.reaches 1#12 0x0D = true ∧ s.reaches 0x605#12 0x0D = false ∧ s.watchArmStatus 1#12 0 0x00044000#32 = .ok ∧
      s.watchArmStatus 1#12 0 0x00030000#32 = .refusedRange ∧ bits (s.watchTarget 0) 11 0 ≠ 0 ∧ bits (f.watchTarget 0) 11 0 = 0 ∧
      bit (a.reg (A.sauWctl 0)) 31 = true ∧ bits (a.reg (A.sauWstat 0)) 11 0 ≠ (1#12).toNat ∧ isBoss 1#12 = false ∧
      f.entryFree 0x4000 = true ∧ s.sau.retry = [] ∧ x.sau.retry = [r] ∧
      after (.watchArm 1#12 0 0x00044000#32) s (fun t => decide (t.reg (A.sauWctl 0) = 0x80044000#32)) = true ∧
      after (.watchArm 1#12 0 0x00044000#32) f (fun t => decide ((t.tokens 0x4000).length = 1 ∧ bit (t.reg (A.sauWctl 0)) 31 = false)) = true ∧
      after (.watchDisarm 1#12 0 0#32) a (fun t => decide (t.reply.status = .refusedNotReady)) = true ∧
      after .watchTokenRetry x (fun t => decide (t.sau.retry = [] ∧ (t.tokens 0x4000).length = 1)) = true := by decide +kernel

/-- The tenant 0: CREATED in generation 5 with 4 queue pairs and the visible region 0 of channel 0, one host window, and
queue pair 0 for frames (`x`) and 1 for messages (`y`). -/
def stTenant (x y : Option Qp) : State :=
  let o : List OwnerCfg := memCfg2.owners ++ [{ agent := 0x400, poolMask := 0x7F#8, ceiling := List.replicate 8 0xFFFF }]
  let c : TenantCfg := { present := true, qpairs := 4, vbase := 8, vcount := 4, dregion := 0, semGroups := 1#32 }
  let m := { memCfg2 with owners := o }
  let s := stRun []
  let t : Tenant := { Tenant.init with wins := { base := 0, len := 0x100000, flags := 7 } :: Tenant.init.wins.tail, qps := [(0, x), (1, y)] }
  let u : State := { s with shp := { s.shp with memory := m, tenants := [c], mgrVectors := 4 }, tnt := { s.tnt with tenants := [(0, t)] } }
  (u.setReg A.topCaps 0x10000#32).setReg (A.tntTstat 0) 0x00050001#32

/-- A queue pair with its SQ at 0x1000 and its CQ at 0x2000, 64 entries each. -/
def qp0 (frame : Bool) : Qp :=
  { frame := frame, vector := 0, msgtag := 0x4000, fwowner := 0x1000, sqBase := 0x1000, cqBase := 0x2000, sqSize := 64, cqSize := 64,
    sqHead := 0, cqTail := 0, phase := true, unread := 0, prog := [], posted := [], fifo := [], filled := [] }

theorem witness_WatchSlotsAndHostAtomics_2 :
    let s := ((stTenant none none).setReg (agKey 0x400#12 A.sauAaddr) 0x40#32).setReg (agKey 0x400#12 (A.sauAopd 0)) 3#32
    let m := ((stTenant none none).setReg (agKey 0x500#12 A.sauAaddr) 0x20040#32).setReg (agKey 0x500#12 (A.sauAopd 0)) 0xFFFFFFFF#32
    isHost 0x400#12 = true ∧ isTenant 0x400#12 = true ∧ s.tenantCreated 0 = true ∧ isHost 0x500#12 = true ∧ isTenant 0x500#12 = false ∧
      s.atomicTarget 0x400#12 4 = some (some 0, 0x40) ∧ s.poisoned 0 0x40 4 = false ∧
      (m.setReg (agKey 0x500#12 A.sauAaddr) 0x2#32).atomicTarget 0x500#12 4 = none ∧ (0#2).toNat < 2 ∧
      after (.hostAtomicFadd 0x400#12 0#2) s (fun t => decide (leNat (t.dramRead 0 0x40 4) = 3 ∧ t.agWords 0x400#12 A.sauAres 0 1 = 0)) = true ∧
      after (.hostAtomicFadd 0x400#12 2#2) s (fun t => decide (t.reply.status = .refusedRange)) = true := by decide +kernel

/-- The manager reaches shared SRAM at 0x20000 for its host atomics. -/
def stMgrAtomic : State :=
  (((stTenant none none).setReg (agKey 0x500#12 A.sauAaddr) 0x20040#32).setReg (agKey 0x500#12 (A.sauAopd 0)) 0xFFFFFFFF#32).writeBytes
    (kShared + 0x20040) [5#8]

theorem witness_WatchSlotsAndHostAtomics_3 :
    let m := stMgrAtomic
    m.atomicTarget 0x500#12 4 = some (none, 0x20040) ∧ m.sramLocked 0x20040 4 = false ∧
      after (.hostAtomicMin 0x500#12 0#2) m (fun t => decide (t.readLE (kShared + 0x20040) 4 = 0xFFFFFFFF ∧
        t.agWords 0x500#12 A.sauAres 0 1 = 5)) = true ∧
      after (.hostAtomicMinu 0x500#12 0#2) m (fun t => decide (t.readLE (kShared + 0x20040) 4 = 5)) = true := by decide +kernel

theorem witness_Bar2AndTheMailboxServeTheManager_1 :
    let s := (stTenant none none).setReg (A.tntB2win 0) 0x00020001#32
    let d := (stTenant none none).setReg (A.tntB2win 0) 2#32
    State.reset.tnt.memSpace = false ∧ s.tnt.memSpace = true ∧ s.bar2Target 0x40 = (1, 0x20040) ∧ s.bar2Ok 1 0x20040 true = true ∧
      s.bar2Ok 0 0 false = false ∧ d.bar2Target 0x40 = (2, 0x40) ∧ d.bar2Ok 2 0x40 false = true ∧ s.sramLocked 0x20040 4 = false ∧
      s.tnt.flr = false ∧ s.mboxSize = 1 ∧ bits 0#32 7 0 < s.mboxSize ∧ s.mboxSize ≤ bits 1#32 7 0 ∧
      after (.bar2Write 0x40#28 [9#8]) s (fun t => after (.bar2Read 0x40#28 2) t (fun u => decide (u.reply.value = 9#64))) = true ∧
      after (.bar2Read 0x1000040#28 2) s (fun t => decide (t.reply.value = 0xFFFF#64)) = true := by decide +kernel

/-- A mailbox entry of these bytes is ready at HEAD; the tenant's state word is `st`. -/
def stMbox (l : List Byte) (st : W32) (y : Option Qp) : State :=
  ((((stTenant y none).setReg A.tntMcfg 0x301#32).setReg A.tntMdb 1#32).setReg (A.tntTstat 0) st).writeBytes kHost l

theorem witness_Bar2AndTheMailboxServeTheManager_2 :
    let s := stMbox [2#8, 0#8, 7#8, 0#8] 0x00050000#32 none
    let w := stMbox ([5#8, 0#8, 7#8, 0#8, 0#8, 1#8] ++ List.replicate 11 0#8 ++ [0x10#8] ++ List.replicate 6 0#8 ++ [3#8]) 0x00050001#32 none
    let b := stMbox [2#8, 1#8, 7#8, 0#8] 0x00050000#32 none
    s.mboxKey = some kHost ∧ s.readLE kHost 1 = 2 ∧ s.entryBad kHost = false ∧ b.entryBad kHost = true ∧ (s.tenantCfg 0).present = true ∧
      (s.tenantCfg 1).present = false ∧ s.tenantState 0 = 0 ∧ w.readLE (kHost + 16) 8 = 0x1000 ∧ w.tenantState 0 = 1 ∧ stLive.mboxKey = none ∧
      after .tenantCreate s (fun t => decide (t.tenantState 0 = 1 ∧ t.tenantGen 0 = 6)) = true ∧
      after .hostwinSet w (fun t => decide ((t.tenant 0).wins[1]? = some { base := 0, len := 0x1000, flags := 3 })) = true ∧
      after (.mailboxEntryReadFail true) s (fun t => t.tnt.stopped) = true := by decide +kernel

theorem witness_Bar2AndTheMailboxServeTheManager_3 :
    let q := [6#8, 0#8, 7#8, 0#8, 0#8, 2#8, 0#8, 0#8, 1#8, 3#8, 0#8, 0x40#8, 0#8, 0x10#8, 0#8, 0#8] ++ leBytes 8 0x1000 ++ leBytes 8 0x2000 ++ [64#8, 0#8, 64#8, 0#8]
    let s := stMbox q 0x00050001#32 none
    let d := stMbox [7#8, 0#8, 7#8, 0#8] 0x00050011#32 (some (qp0 true))
    let e := fun (o : Byte) (st : W32) => stMbox [o, 0#8, 7#8, 0#8] st none
    s.mboxKey = some kHost ∧ s.entryBad kHost = false ∧ s.readLE (kHost + 9) 1 < 4 ∧ s.queueOk 0 1 0x1000 64 = true ∧
      s.queueOk 0 2 0x2000 64 = true ∧ s.qp 0 2 = none ∧ d.qp 0 0 ≠ none ∧ (e 8#8 0x50002#32).tenantState 0 = 2 ∧
      after .qpCreate s (fun t => decide ((t.qp 0 2).isSome = true) && bit (t.reg (A.tntTstat 0)) 6) = true ∧
      after .qpDestroy d (fun t => decide (t.qp 0 0 = none)) = true ∧
      after .mailboxStatus (e 8#8 0x50002#32) (fun t => decide (t.reg A.tntMhead = 1#32)) = true ∧
      after .tenantReset (e 3#8 0x50001#32) (fun t => decide (t.tenantState 0 = 2 ∧ (t.tenant 0).resets = [true])) = true ∧
      after .tenantDestroy (e 4#8 0x50001#32) (fun t => decide (t.tenantState 0 = 0 ∧ t.tenantGen 0 = 6)) = true ∧
      after .mailboxNop (e 1#8 0x50001#32) (fun t => decide (t.reg A.tntMhead = 1#32)) = true := by decide +kernel

theorem witness_Bar2AndTheMailboxServeTheManager_4 :
    let s := stTenant (some (qp0 true)) none
    let r := s.setReg (A.tntTstat 0) 0x50012#32
    let v : W32 := 0x5A3C0001#32
    s.tenantState 0 = 1 ∧ s.tenantState 1 ≠ 1 ∧ bit v 0 = true ∧ bits v 31 16 = 0x5A3C ∧ r.tenantState 0 = 2 ∧ (r.tenant 0).resets.length ≤ 1 ∧
      after (.tenantSelfReset 0 v) s (fun t => decide (t.tenantState 0 = 2)) = true ∧
      after (.tenantResetComplete 0) r (fun t => decide (t.qp 0 0 = none ∧ t.tenantGen 0 = 6 ∧ t.tenantState 0 = 1)) = true := by decide +kernel

/-- The descriptor at the head of queue pair `q`'s SQ, which holds one. -/
def stDesc (q : Nat) (l : List Byte) : State :=
  ((stTenant (some (qp0 true)) (some (qp0 false))).setReg (tntWin 0 (8 * q)) 1#32).writeBytes (kHost + 0x1000) l

/-- The first 24 bytes of a descriptor of `len` bytes at host address 0x3000. -/
def desc (opc len aux : Nat) : List Byte :=
  leBytes 1 opc ++ leBytes 1 0 ++ leBytes 2 0x77 ++ leBytes 4 len ++ leBytes 8 0x3000 ++ leBytes 4 0x40 ++ leBytes 4 aux

theorem witness_DoorbellsAndDescriptorsStart_1 :
    let s := stTenant (some { qp0 true with unread := 1 }) (some (qp0 false))
    let f : State := { s with tnt := { s.tnt with flr := true } }
    s.tnt.flr = false ∧ f.tnt.flr = true ∧ s.tenantState 1 ≠ 1 ∧ s.tenantState 0 = 1 ∧ s.qp 0 0 = some { qp0 true with unread := 1 } ∧
      (qp0 true).sqSize ≤ bits 64#32 15 0 ∧ bits 63#32 15 0 < (qp0 true).cqSize ∧ s.mayStartQp 0 0 (qp0 true) = false ∧ (qp0 true).stopped = false ∧
      s.qp 0 3 = none ∧
      after (.sqDoorbell 0 0 64#32) s (fun t => decide (t.reg (tntWin 0 0x108) = BitVec.ofNat 32 (Status.refusedRange.code * 0x10000))) = true ∧
      after (.cqDoorbell 0 0 0x80000001#32) s (fun t => decide ((t.qp 0 0).map (·.unread) = some 0) && bit (t.reg (tntWin 0 4)) 31) = true := by decide +kernel

theorem witness_DoorbellsAndDescriptorsStart_2 :
    let c := (stDesc 0 (desc 2 4 0)).writeBytes (kHost + 0x3000) [1#8, 2#8, 3#8, 4#8]
    let o := stDesc 0 (desc 3 4 0)
    let x := stDesc 0 (desc 4 60 1)
    let z := stDesc 0 (desc 4 60 0)
    let r := stDesc 0 (desc 5 64 0)
    let g := stDesc 1 (desc 6 100 0)
    let bad := stDesc 0 (desc 2 0 0)
    let u := fun (s : State) (q : Nat) => s.setQp 0 q (some { qp0 (decide (q = 0)) with sqHead := 1 })
    c.mayStartQp 0 0 (qp0 true) = true ∧ c.hostWindow 0 1 0x1000 32 = true ∧ (c.readDesc (qp0 true)).opc = 2 ∧
      (u c 0).descStatus 0 (qp0 true) (c.readDesc (qp0 true)) = .ok ∧ (u bad 0).descStatus 0 (qp0 true) (bad.readDesc (qp0 true)) ≠ .ok ∧
      (c.tenantRegion 0).isSome = true ∧ (u x 0).descStatus 0 (qp0 true) (x.readDesc (qp0 true)) = .ok ∧ ((u x 0).txTake 1 60).isSome = true ∧
      (u r 0).descStatus 0 (qp0 true) (r.readDesc (qp0 true)) = .ok ∧ (u g 1).descStatus 0 (qp0 false) (g.readDesc (qp0 false)) = .ok ∧
      g.entryOf 0x400 = some 3 ∧ g.entryNamed 0x1000 = some 2 ∧ ((u g 1).allocChain 3 2).1 = .ok ∧ ((u g 1).allocChain 3 2).2.2.2.entryFree 0x4000 = true ∧
      after (.copyIn 0 0) c (fun t => decide (t.dramRead 0 0x40 4 = [1#8, 2#8, 3#8, 4#8])) = true ∧
      after (.copyOut 0 0) o (fun t => decide ((t.qp 0 0).map (·.sqHead) = some 1)) = true ∧
      after (.tx 0 0) x (fun t => (t.frame 0).isSome) = true ∧
      after (.tx 0 0) z (fun t => (t.qp 0 0).any (fun y => y.prog.any (fun d => decide (d.st = .done .refusedRights 0)))) = true ∧
      after (.rx 0 0) r (fun t => (t.qp 0 0).any (fun y => decide (y.posted.length = 1))) = true ∧
      after (.send 0 1) g (fun t => decide ((t.tokens 0x4000).length = 1)) = true := by decide +kernel

/-- Queue pair 0 has this descriptor in progress, queue pair 1 is `y`; frames of port 8 may enter pound 0. -/
def stProg (st : DescSt) (y : Qp) : State :=
  let d : Desc := { cid := 0x77, gen := 5, len := 60, haddr := 0x3000, aux := 1, sqhead := 1, promoted := false, dram := none, st := st }
  let s := stTenant (some { qp0 true with prog := [d] }) (some y)
  { s with flt := { s.flt with frames := [(0, some { frameNew with early := true, pound := none, fr := { recNew with port := 8 } })] } }

theorem witness_DescriptorsFramesAndPostsComplete_1 :
    let s := stProg (.txRead 0 false (bufWord 0 0) false) (qp0 false)
    let w := stProg (.txWait 0) (qp0 false)
    let e := stProg (.done .ok 0) (qp0 false)
    let none0 : State := { w with bsn := { w.bsn with fresh := [(0, 8), (1, 4)] } }
    s.linkUp = true ∧ s.holding118 8 = false ∧ s.shp.fabric.entry = [0, 0, 0, 0] ∧ (s.qp 0 0).any (fun x => x.room && decide (x.prog[1]? = none)) = true ∧
      (w.txTake 1 60).isSome = true ∧ none0.txTake 1 60 = none ∧ s.qpError 0 0 = false ∧ s.tenantState 0 = 1 ∧
      e.hostWindow 0 2 0x2000 32 = true ∧ (stTenant none none).qp 0 0 = none ∧
      after (.hostTxAdmit 0 0 0) s (fun t => (t.frame 0).any (fun f => decide (f.fr.port = 8 ∧ f.wire.length = 64 ∧ f.pound = some 0))) = true ∧
      after (.txWaitExpiry 0 0 0) none0 (fun t => (t.qp 0 0).any (fun y => y.prog.any (fun d => decide (d.st = .done .refusedCapacity 0)))) = true ∧
      after (.descriptorComplete 0 0 false) e (fun t => decide (t.readBytes (kHost + 0x2000) 6 = [0x77#8, 0#8, 0#8, 1#8, 5#8, 0#8])) = true ∧
      after (.dmaReadTimeout 0 0) s (fun t => decide (t.frame 0 = none)) = true := by decide +kernel

theorem witness_DescriptorsFramesAndPostsComplete_2 :
    let b : RxBuf := { cid := 0x78, gen := 5, len := 64, haddr := 0x3000, sqhead := 1 }
    let x := { egOne with toHost := true, owned := false, buf := bufWord 0 0 }
    let s := stTenant (some { qp0 true with posted := [b], fifo := [{ eg := 0, result := [] }] }) (some { qp0 false with posted := [b] })
    let s : State := { s with flt := { s.flt with eg := [(0, some x)] } }
    let cell := bufWord 6 (s.areaBase 6)
    let p := ((((s.setTag (bufPtr cell) 2).setReg (agKey 1#12 (A.tntFarg 0)) 0x00050020#32).setReg (agKey 1#12 (A.tntFarg 1)) (w32 cell)).setReg
      (agKey 1#12 (A.tntFarg 2)) 40#32).writeBytes (kBasin + bufPtr cell * 64) [9#8]
    let big := s.setQp 0 0 (some { qp0 true with posted := [{ b with len := 32 }], fifo := [{ eg := 0, result := [] }] })
    s.egFrame 0 = some x ∧ x.len - 4 ≤ b.len ∧ s.hostWindow 0 2 0x3000 64 = true ∧ s.hostWindow 0 2 0x2000 32 = true ∧
      p.postStatus 1#12 cell 40 0x00050020#32 = .ok ∧ isThread 1#12 = true ∧ p.reaches 1#12 0x0E = true ∧ p.regOff A.tntFcmd = false ∧
      p.postStatus 1#12 cell 40 0x00040020#32 = .staleGeneration ∧ isThread 0x500#12 = false ∧ isWarden 0x500#12 = false ∧
      after (.hostFrameDeliver 0 0) s (fun t => decide (t.counter 0xE0408 = 1#64 ∧ t.readBytes (kHost + 0x2000) 2 = [0x78#8, 0#8])) = true ∧
      after (.hostFrameDeliver 0 0) big (fun t => decide (t.counter 0xE0410 = 1#64)) = true ∧
      after (.post 1#12) p (fun t => decide (t.reply.status = .ok ∧ t.readByte (kHost + 0x3000) = 9#8)) = true := by decide +kernel

/-! ### Chapters 17 and 18 -/

/-- A chunk of three samples whose payload is 8 bytes. -/
def chunk0 (cfg : W32) : Chunk :=
  { cfg := cfg, own := 0x40001000#32, seq := 0#32, first := 0#64, last := 0#64, count := 3, cycle := 0#32, code := List.replicate 64 true,
    escapes := 1, ref := 0, blkCode := [], blkFirst := 0, blkMin := 0, blkMax := 0, blkLen := 0, closed := 0 }

/-- Stream 4 is `x`, with the engine an owner of cells and region 1 a trace ring. -/
def stStream (x : Stream) : State :=
  let o : List OwnerCfg := memCfg2.owners ++ [{ agent := 0x603, poolMask := 0x40#8, ceiling := List.replicate 8 0xFFFF }]
  let d : List DRegion := memCfg2.dregions ++ [{ channel := 0, ecc := false, secure := false, tenantVisible := false, cls := 2, kind := 4, base := 1, length := 1 }]
  let m := { memCfg2 with owners := o, dregions := d }
  let s := stRun []
  let u : State := { s with shp := { s.shp with memory := m }, ful := { s.ful with streams := [(4, x)] } }
  (((u.setReg A.topCaps 0x10000#32).setReg (A.fulScfg 4) 1#32).setReg (A.fulSown 4) 0x40001000#32).setReg (A.fulSchunk 4) 0#32

theorem witness_StreamsCloseAndWriteChunks_1 :
    let s := stStream { Stream.init with fill := some (chunk0 1#32) }
    let full := stStream { Stream.init with fill := some (chunk0 1#32), out := some (chunk0 1#32) }
    let a := s.setReg (A.fulSstat 4) 1#32
    s.mayReach 0x500#12 0x0F = true ∧ s.mayReach 0x605#12 0x0F = false ∧ s.regOff (A.fulSctl 4) = false ∧ State.reset.regOff (A.fulSctl 4) = true ∧
      s.streamStatus 4 = .ok ∧ a.armed 4 = true ∧ a.streamStatus 4 = .refusedNotReady ∧ (s.setReg (A.fulSchunk 4) 1025#32).streamStatus 4 = .refusedRange ∧
      s.pdOn 69 = true ∧ (full.stream 4).out.isSome = true ∧
      after (.streamArm 0x500#12 4) s (fun t => t.armed 4) = true ∧
      after (.streamDisarm 0x500#12 4) a (fun t => !t.armed 4 && (t.stream 4).out.isSome) = true ∧
      after (.streamRestart 0x500#12 4) full (fun t => (t.stream 4).gap && decide (t.counter 0xF0910 = 1#64)) = true := by decide +kernel

theorem witness_StreamsCloseAndWriteChunks_2 :
    let c := stStream { Stream.init with out := some (chunk0 1#32) }
    let r := stStream { Stream.init with out := some (chunk0 0x50001#32) }
    let far := stStream { Stream.init with out := some (chunk0 0x10001#32) }
    let g := stRun []
    let bad : State := { g with ful := { g.ful with streams := [(4, { Stream.init with out := some (chunk0 1#32) })] } }
    let k : ChunkTok := { stream := 4, tag := 0x4000, value := 7#32, owner := 0x1000, retried := false }
    let x : State := { c with ful := { c.ful with retry := [k] } }
    let y : State := { c with lk := { c.lk with reserved := 4096 } }
    bit 1#32 16 = false ∧ c.fulEntry = some 3 ∧ bad.fulEntry = none ∧ (c.allocChain 3 1).1 = .ok ∧ isPostable 0x4000 = true ∧
      ((c.allocChain 3 1).2.2.2).entryFree 0x4000 = true ∧ ((y.allocChain 3 1).2.2.2).entryFree 0x4000 = false ∧ r.ringBehind (chunk0 0x50001#32) = false ∧
      (r.ringRegion 1).isSome = true ∧ far.ringRegion 0 = none ∧ (chunk0 1#32).bytes ≤ 4064 ∧ x.ful.retry = [k] ∧ x.entryFree 0x4000 = true ∧
      (r.reg (A.fulRpos 1)).toNat + roundUp (32 + (chunk0 1#32).bytes) 64 ≤ 0x100000 ∧
      after (.chunkCellOutput 4) c (fun t => decide (t.counter 0xF0908 = 1#64 ∧ (t.tokens 0x4000).length = 1)) = true ∧
      after (.chunkCellOutput 4) bad (fun t => decide (t.counter 0xF0910 = 1#64)) = true ∧
      after (.chunkRingOutput 4) r (fun t => decide (t.reg (A.fulRpos 1) = 64#32 ∧ t.dramRead 0 0x100020 2 = [0xFF#8, 0xFF#8])) = true ∧
      after (.chunkRingOutput 4) far (fun t => decide (t.counter 0xF0910 = 1#64)) = true ∧
      after .chunkTokenRetry x (fun t => decide (t.ful.retry = [] ∧ (t.tokens 0x4000).length = 1)) = true := by decide +kernel

/-- Strobe 0 has CFG `c` and the given state, T low is 2 000 000; capture 0 records rising edges; the time is that of cycle 5. -/
def stStrobe (c : W32) (x : Strobe) (y : Capture) : State :=
  let s : State := { stCycle with stb := { stCycle.stb with strobes := [(0, x)], captures := [(0, y)] } }
  (((s.setReg (A.stbCfg 0) c).setReg (A.stbTlo 0) 2000000#32).setReg (A.stbCcfg 0) 0x11#32).setReg (A.stbWidth 0) 100#32

theorem witness_StrobesPredictionsAndCaptures_1 :
    let s := stStrobe 3#32 Strobe.init Capture.init
    let p : Fire := { due := 1030010#64, width := 100, predicted := false }
    let soon := stStrobe 3#32 { Strobe.init with pend := some p } Capture.init
    let late := s.setReg (A.stbTlo 0) 1030019#32
    let cap := stStrobe 3#32 Strobe.init { Capture.init with fifo := [[1#32, 2#32, 3#32]] }
    let f := cat64 0#32 (s.reg (A.stbTlo 0)) + BitVec.ofInt 64 (s.strobeDelay 0)
    s.mayReach 0x500#12 0x10 = true ∧ s.mayReach 0x605#12 0x10 = false ∧ s.armStatus 0 f false = .ok ∧
      (stStrobe 0#32 Strobe.init Capture.init).armStatus 0 f false = .refusedRights ∧ late.armStatus 0 1030019#64 false = .timeout ∧
      p.due.toNat < soon.time + 20 ∧ soon.armStatus 0 f false = .refusedNotReady ∧
      after (.timeArm 0x500#12 0 0#32) s (fun t => decide ((t.strobe 0).pend = some { due := 2000000#64, width := 100, predicted := false })) = true ∧
      after (.timeArm 0x500#12 0 0#32) late (fun t => decide (t.reply.status = .timeout ∧ t.counter 0x100808 = 1#64)) = true ∧
      after (.strobeDisarm 0x500#12 0) soon (fun t => decide (t.reply.status = .refusedNotReady)) = true ∧
      after (.capturePop 0x500#12 0) cap (fun t => decide (t.reply.value = 1#64 ∧ (t.capture 0).fifo = [])) = true ∧
      after (.captureEdgeConfig 0x500#12 0 2#32) cap (fun t => decide (t.reg (A.stbCcfg 0) = 2#32)) = true := by decide +kernel

theorem witness_StrobesPredictionsAndCaptures_2 :
    let p : Fire := { due := 2000000#64, width := 100, predicted := false }
    let s := stStrobe 3#32 { Strobe.init with pend := some p } Capture.init
    let b := stStrobe 3#32 { Strobe.init with busy := some 2000000#64 } { Capture.init with fifo := List.replicate 8 [1#32, 2#32, 3#32] }
    (s.strobe 0).pend = some p ∧ (b.strobe 0).busy = some 2000000#64 ∧ (s.capture 0).level = false ∧ bit (s.reg (A.stbCcfg 0)) 0 = true ∧
      (s.capture 0).fifo.length < 8 ∧ 8 ≤ (b.capture 0).fifo.length ∧ bit (s.reg (A.stbCcfg 0)) 1 = false ∧
      after (.strobeFire 0) s (fun t => decide (t.time = 2000000 ∧ (t.strobe 0).busy = some 2000100#64 ∧ t.reg (A.stbLastlo 0) = 2000000#32)) = true ∧
      after (.strobePulseEnd 0) b (fun t => decide ((t.strobe 0).busy = none)) = true ∧
      after (.captureEdge 0 true) s (fun t => decide ((t.capture 0).fifo = [[1029999#32, 0#32, 0x00010001#32]])) = true ∧
      after (.captureEdge 0 true) b (fun t => decide (t.counter 0x100828 = 1#64 ∧ (t.capture 0).fifo.length = 8)) = true := by decide +kernel

/-- A request of KIND `k` for strobe 0 in cycle 5 at offset `o`: P0 `p`, V 2^22, A 0, TARGET 1, WIDTH 100, HORIZON `h`. -/
def req0 (k o p h : Nat) : List Byte :=
  [BitVec.ofNat 8 k, 0#8, 100#8, 0#8] ++ leBytes 4 5 ++ leBytes 4 o ++ leBytes 4 p ++ leBytes 4 0x400000 ++ leBytes 4 0 ++ leBytes 4 1 ++
    leBytes 2 0 ++ leBytes 2 h

/-- The request is at the head of the unit; strobe 0 keeps a model from cycle 5. -/
def stPred (req : List Byte) : State :=
  let s := stStrobe 3#32 { Strobe.init with model := some { p0 := 0#32, v := 0x400000#32, a := 0#32, t0 := 1000000 } } Capture.init
  { s with uni := { s.uni with preds := [{ quad := 0, req := req, tag := 0x4000, agent := 1#12 }] } }

/-- The crossing of a PREDICT, if there is one. -/
def tauOf (s : State) (req : List Byte) : Option (Nat × Int) :=
  match s.predictTau req with
  | .ok x => some x
  | .error _ => none

theorem witness_StrobesPredictionsAndCaptures_3 :
    let s := stPred (req0 1 40000 0 1)
    let f := BitVec.ofInt 64 (1040000 + 4)
    let r := stPred (req0 2 8 2 0)
    let z := stPred (req0 1 40000 0 0)
    s.uni.preds[1]?.isNone = true ∧ tauOf s (req0 1 40000 0 1) = some (4, 1040000) ∧ tauOf z (req0 1 40000 0 0) = none ∧ s.armStatus 0 f true = .ok ∧
      (stPred (req0 1 20000 0 1)).armStatus 0 (BitVec.ofInt 64 1020004) true = .timeout ∧ s.entryFree 0x4000 = true ∧
      (r.strobe 0).model.isSome = true ∧ r.cycleStart 5#32 = some 1000000 ∧
      after (.predict 0) s (fun t => decide ((t.strobe 0).pend = some { due := 1040004#64, width := 100, predicted := true } ∧
        t.reg (A.stbTau 0) = 4#32 ∧ (t.tokens 0x4000).map (·.value) = [1040004#32])) = true ∧
      after (.predict 0) z (fun t => decide (t.counter 0x100818 = 1#64)) = true ∧
      after (.residual 0) r (fun t => decide (t.reg (A.stbRespos 0) = 0#32 ∧ t.reg (A.stbRestime 0) = 0#32)) = true := by decide +kernel

/-- Channel 0 of the shift engine is `x` and is enabled; the word at its pc is `m`. -/
def stShf (x : ShfChan) (m : W64) : State :=
  let s : State := { stCycle with shf := { stCycle.shf with chans := [(0, x)], code := [(x.bank * 2048 + x.pc, m)] } }
  (s.setReg (A.shfChctl 0) 1#32).setReg (A.shfStall 0) 10#32

/-- A channel that is ready at address 0. -/
def chanNew : ShfChan := { ShfChan.init with mode := .ready }

theorem witness_ShiftChannelsAndBanksObeyTheirRegisters_1 :
    let s := stShf chanNew 0#64
    let full := stShf { chanNew with tx := List.replicate 8 1#32, rx := [5#32] } 0#64
    let st := stShf { chanNew with mode := .stallTx 0#64 } 0#64
    let sr := stShf { chanNew with mode := .stallRx 0#64 9#32, rx := List.replicate 8 5#32 } 0#64
    let y := stShf { chanNew with mode := .yielding } 0#64
    let off := s.setReg (A.shfChctl 0) 0#32
    s.mayReach 0x500#12 0x11 = true ∧ s.mayReach 0x600#12 0x11 = false ∧ s.pdOn 70 = true ∧ State.reset.pdOn 70 = false ∧ (s.chan 0).tx.length < 8 ∧
      8 ≤ (full.chan 0).tx.length ∧ (s.chan 0).rx = [] ∧ s.mayStartChan 0 = true ∧ off.mayStartChan 0 = false ∧ bits 0x40000010#32 15 0 ≠ 0 ∧
      s.chanOn 0 = true ∧ off.chanOn 0 = false ∧ bits (st.reg (A.shfStall 0)) 15 0 ≠ 0 ∧
      after (.shiftTxPush 0x500#12 0 7#32) st (fun t => decide ((t.chan 0).x = 7#32 ∧ (t.chan 0).mode = .ready ∧ (t.chan 0).pc = 1)) = true ∧
      after (.shiftTxPush 0x500#12 0 7#32) full (fun t => decide (t.reply.status = .refusedCapacity)) = true ∧
      after (.shiftRxPop 0x500#12 0) sr (fun t => decide (t.reply.value = 5#64 ∧ (t.chan 0).rx.length = 8 ∧ (t.chan 0).mode = .ready)) = true ∧
      after (.shiftStart 0x500#12 0 0x40000010#32) y (fun t => decide ((t.chan 0).xfer = some (16, 0x4000) ∧ (t.chan 0).l = 16#16)) = true ∧
      after (.shiftStart 0x500#12 0 0x40000010#32) s (fun t => decide ((t.chan 0).pend = some (16, 0x4000))) = true ∧
      after (.shiftAbort 0x500#12 0) full (fun t => decide ((t.chan 0).tx = [])) = true ∧
      after (.shiftStallTimeout 0) st (fun t => decide (t.counter 0x110908 = 1#64 ∧ (t.chan 0).mode = .ready)) = true ∧
      after (.shiftEnable 0x500#12 0 1#32) off (fun t => t.chanOn 0) = true := by decide +kernel

theorem witness_ShiftChannelsAndBanksObeyTheirRegisters_2 :
    let s := (stShf chanNew 0#64).setReg A.shfUaddr 0x10005#32
    let r : Retry := { src := 0, tag := 0x4000, value := 7#32, status := .ok, retried := false }
    let u : State := { s with shf := { s.shf with retry := [r], verify := some (1, 2000000#64), code := [(2048, 14 * 2 ^ 59)] } }
    let a := s.setReg A.shfUaddr 5#32
    let busy := s.setReg A.shfBankstat 4#32
    isBoss 0x500#12 = true ∧ s.activeBank = 0 ∧ bits (s.reg A.shfUaddr) 16 16 ≠ s.activeBank ∧ bits (a.reg A.shfUaddr) 16 16 = a.activeBank ∧
      bit (busy.reg A.shfBankstat) 2 = true ∧ s.groupArmed 16 = false ∧ 2048 < (2049#12).toNat ∧ u.shf.verify = some (1, 2000000#64) ∧
      u.shf.retry = [r] ∧ u.entryFree 0x4000 = true ∧ (u.verifyBank 1).1 = .refusedRange ∧
      after (.microcodeWrite 0x500#12 9#32) s (fun t => decide (t.micro 1 5 = 0x900000000#64 ∧ bits (t.reg A.shfUaddr) 10 0 = 6)) = true ∧
      after (.microcodeWrite 0x500#12 9#32) a (fun t => decide (t.reply.status = .refusedRights)) = true ∧
      after (.bankVerify 0x500#12 4#12) s (fun t => decide (t.shf.verify = some (4, 1030216#64))) = true ∧
      after .bankVerifyDone u (fun t => decide (t.shf.verify = none ∧ t.time = 2000000)) = true ∧
      after .shiftTokenRetry u (fun t => decide (t.shf.retry = [] ∧ (t.tokens 0x4000).length = 1)) = true := by decide +kernel

/-- A microinstruction of opcode `op` with these low bits. -/
def micro0 (op low : Nat) : W64 := BitVec.ofNat 64 (op * 2 ^ 59 + low)

theorem witness_MicroinstructionsDriveTheChannels_1 :
    let e := fun (op low : Nat) (x : ShfChan) => stShf x (micro0 op low)
    let x := { chanNew with l := 1#16, y := 5#32, xfer := some (16, 0x4000) }
    mop (micro0 5 3) = 5 ∧ (e 1 0 x).activeBank = 0 ∧ (chanNew).pend = none ∧ (e 1 0 { x with bank := 1 }).activeBank ≠ 1 ∧ (x.rx).length < 8 ∧
      slotFrom 3 100 % 48 = 6 ∧ mbits (micro0 13 0) 39 32 = 0 ∧ isPostable 0x4000 = true ∧
      after (.yield 0) (e 1 0 x) (fun t => decide ((t.chan 0).mode = .yielding ∧ t.counter 0x110900 = 1#64)) = true ∧
      after (.pin 0) (e 2 0x1F300000000 x) (fun t => decide ((t.chan 0).oe = 3#4 ∧ (t.chan 0).level = 1#4)) = true ∧
      after (.ldx 0) (e 4 0x100001234 x) (fun t => decide ((t.chan 0).x = 0x1234#32 ∧ (t.chan 0).pc = 1)) = true ∧
      after (.ldx 0) (e 4 0 x) (fun t => decide ((t.chan 0).state = 4)) = true ∧
      after (.push 0) (e 5 0 x) (fun t => decide ((t.chan 0).rx = [5#32])) = true ∧
      after (.setl 0) (e 9 77 x) (fun t => decide ((t.chan 0).l = 77#16)) = true ∧
      after (.djnz 0) (e 10 0x900000000 x) (fun t => decide ((t.chan 0).l = 0#16 ∧ (t.chan 0).pc = 1)) = true ∧
      after (.microJmp 0) (e 11 0x900000000 x) (fun t => decide ((t.chan 0).pc = 9)) = true ∧
      after (.jb 0) (e 12 0x4A200000000 x) (fun t => decide ((t.chan 0).pc = 9)) = true ∧
      after (.done 0) (e 13 0 x) (fun t => decide ((t.chan 0).xfer = none ∧ (t.tokens 0x4000).map (·.value) = [15#32])) = true := by decide +kernel

theorem witness_MicroinstructionsDriveTheChannels_2 :
    let e := fun (op low : Nat) (x : ShfChan) => stShf x (micro0 op low)
    let sh := { chanNew with mode := .shifting (micro0 3 (7 * 2 ^ 32 + 2 ^ 44)) 0#64 2000000#64 7#64 }
    let w := { chanNew with mode := .waite 1 true (some 2000000#64) 9 }
    let d := { chanNew with mode := .delay 2000000#64 }
    shiftN (micro0 3 (7 * 2 ^ 32 + 2 ^ 44)) = 8 ∧ mbits (micro0 3 (2 ^ 44)) 44 44 = 1 ∧ (w.oe).getLsbD 1 = false ∧ (e 0 0 w).time ≤ 2000000 ∧
      (firstAction (micro0 3 (2 ^ 49 + 100)) 0).getD 0 + 0 + 0 < (e 0 0 chanNew).time ∧ mbits (micro0 3 (2 ^ 49 + 100)) 49 49 = 1 ∧
      after (.shift 0) (e 3 (2 ^ 49 + 2 ^ 43 + 100) chanNew) (fun t => (t.chan 0).late && decide (t.counter 0x110918 = 1#64)) = true ∧
      after (.shift 0) (e 3 (2 ^ 43 + 100) chanNew) (fun t => !(t.chan 0).late && decide ((t.chan 0).mode ≠ .ready)) = true ∧
      after (.delay 0) (e 6 100 chanNew) (fun t => decide ((t.chan 0).mode = .delay (t.tb.now + 100#64))) = true ∧
      after (.waitt 0) (e 7 31000 chanNew) (fun t => decide ((t.chan 0).mode = .waitt 1031000#64)) = true ∧
      after (.waitt 0) (e 7 100 chanNew) (fun t => decide ((t.chan 0).mode = .waitt 1031350#64)) = true ∧
      after (.shiftComplete 0 0x80#32 false true) (e 0 0 sh) (fun t => decide ((t.chan 0).y = 1#32 ∧ (t.chan 0).s = 7#64)) = true ∧
      after (.delayExpiry 0) (e 0 0 d) (fun t => decide ((t.chan 0).t = 2000000#64 ∧ (t.chan 0).mode = .ready)) = true ∧
      after (.waiteEdge 0) (e 0 0 w) (fun t => decide ((t.chan 0).t = 1030000#64)) = true ∧
      after (.waiteTimeout 0) (e 0 0 w) (fun t => decide ((t.chan 0).tmo = true ∧ (t.chan 0).pc = 9)) = true := by decide +kernel

/-! ### Chapters 19 and 20 -/

theorem witness_EventsAreRoutedClearedAndRetried_1 :
    let s := (stTenant none none).setReg (A.evrPend 22) 0x00010003#32
    isBoss 0x500#12 = true ∧ isWarden 0x7F0#12 = true ∧ isWarden 0x500#12 = false ∧ secureEvent 720 = true ∧ secureEvent 719 = false ∧ secureEvent 752 = false ∧
      s.routeForm 5 0x40000001#32 = true ∧ s.routeForm 5 0x1FFF0001#32 = false ∧ s.routeForm 5 0x00030002#32 = true ∧ bits 0x30004003#32 7 0 = 3 ∧
      s.routeForm 5 0x00040004#32 = false ∧ s.reaches 0x500#12 0x12 = true ∧ s.reaches 0x605#12 0x12 = false ∧
      after (.routeWrite 0x500#12 5 0x40000001#32) s (fun t => decide (t.reg (A.evrRoute 5) = 0x40000001#32)) = true ∧
      after (.routeWrite 0x500#12 720 0x40000001#32) s (fun t => decide (t.reply.status = .refusedSecure)) = true ∧
      after (.routeWrite 0x7F0#12 720 0x40000001#32) s (fun t => decide (t.reply.status = .ok)) = true ∧
      after (.pendClear 0x500#12 22 0xFFFFFFFF#32) s (fun t => decide (t.reg (A.evrPend 22) = 0x00010000#32)) = true ∧
      after (.pendClear 0x7F0#12 22 0xFFFFFFFF#32) s (fun t => decide (t.reg (A.evrPend 22) = 0#32)) = true := by decide +kernel

theorem witness_EventsAreRoutedClearedAndRetried_2 :
    let s := (stRun []).setReg (A.evrRoute 5) 0x40000001#32
    let r : State := { s with evr := { s.evr with retry := [(5, 7#32)], pulse := [(2, some 50)] } }
    let f : State := { r with lk := { r.lk with reserved := 4096 } }
    s.evr.retry = [] ∧ s.usedMain + s.reservedMain ≤ bits (s.reg A.lkpCtrl) 28 16 ∧ r.evr.retry = [(5, 7#32)] ∧ r.entryFree 0x4000 = true ∧
      f.entryFree 0x4000 = false ∧ SMap.get (fun _ => none) r.evr.pulse 2 = some 50 ∧ SMap.get (fun _ => none) r.evr.pulse 1 = none ∧
      after .eventTokenRetry r (fun t => decide (t.evr.retry = [] ∧ (t.tokens 0x4000).length = 1 ∧ t.counter 0x120E10 = 1#64)) = true ∧
      after .eventTokenRetry f (fun t => decide (t.evr.retry = [(5, 7#32)])) = true ∧
      after (.evtoutPulseEnd 2) r (fun t => decide (SMap.get (fun _ => none) t.evr.pulse 2 = none ∧ t.time = 50)) = true := by decide +kernel

/-- The parameter block at 0x100: SRC 0x200, DST 0x300, LENGTH `n`, with this label. -/
def block0 (label : List Byte) (n : Nat) : List Byte :=
  label ++ List.replicate 16 1#8 ++ leBytes 4 0x200 ++ leBytes 4 0x300 ++ leBytes 4 n ++ List.replicate 16 2#8

/-- Warden slot 0 runs thread 2048; the key register has KIND `kind` and key 5; D-RAM holds that block. -/
def stKey (kind : Nat) (label : List Byte) (n : Nat) : State :=
  let s := stRun []
  let u : State := { s with sec := { s.sec with key := 5#256, root := 9#256, rootCrc := crc32c (bytes256 9#256) } }
  ((u.setReg A.secKstat (BitVec.ofNat 32 kind)).writeBytes (kDram 64 + 0x100) (block0 label n)).setSlot 512 { Slot.init with thread := some 2048 }

/-- The block of `stKey` as the operations read it. -/
def keyBlock0 (label : List Byte) (n : Nat) : KeyBlock :=
  { label := label, context := List.replicate 16 1#8, src := 0x200, dst := 0x300, len := n, iv := BitVec.ofNat 128 (beNat (List.replicate 16 2#8)) }

theorem witness_KeyOperationsFollowTheirTable_1 :
    let s := stKey 2 labelCycl 32
    let b := keyBlock0 labelCycl 32
    let z := { b with len := 0 }
    let w := (((s.setReg A.secNstat 0x20#32).setReg A.secKstat 0xC#32).setReg A.secKcycle 0#32)
    s.keyBlock 0x40 = some b ∧ s.cycleKey = none ∧ w.cycleKey.isSome = true ∧ 0x4000 < 0xFFF * 4 + 0x30 ∧ s.opStatus0 6 z = .zeroLength ∧
      s.opStatus0 4 b = .refusedRights ∧ opKind 4 s.keyKind = false ∧ s.opStatus0 13 { b with len := 65537 } = .refusedRange ∧
      s.opKey 0x200 32 = some (kDram 64 + 0x200) ∧ (stKey 3 labelCycl 32).opStatus0 4 b = .ok ∧
      (rangeFrom 16 1).all (fun op => (op = 16) || (op = 4) || decide (s.opStatus0 op b = .ok)) = true ∧
      (s.sec.rootCrc = crc32c (bytes256 s.sec.root) ∧ s.sec.root ≠ 0#256) ∧ s.rngStatus = .ok ∧
      after (.clear 0 0x40#12) s (fun t => decide (t.sec.key = 0#256 ∧ t.keyKind = 0 ∧ t.reply.status = .ok)) = true ∧
      after (.loadRoot 0 0x40#12) s (fun t => decide (t.sec.key = 9#256 ∧ t.keyKind = 1)) = true ∧
      after (.loadMem 0 0x40#12) s (fun t => decide (t.sec.key = 0#256 ∧ t.keyKind = 3)) = true ∧
      after (.kdf 0 0x40#12) s (fun t => decide (t.keyKind = 4 ∧ t.reg A.secKcycle = 0x01010101#32)) = true ∧
      after (.kdf 0 0x40#12) w (fun t => decide (t.reply.status = .refusedNotReady)) = true ∧
      after (.sign 0 0x40#12) s (fun t => decide (t.sec.queue.length = 1) && (t.slot 512).held.isSome) = true ∧
      after (.kdfOut 0 0x40#12) s (fun t => decide (t.reply.status = .refusedRights)) = true := by decide +kernel

/-- The root is `r`, the CRC of it `good` or not, the random queue `q` and SEC_RNGSTAT `v`. -/
def stRng (r : BitVec 256) (good : Bool) (q : List RngReq) (v : W32) : State :=
  let s := stKey 2 labelCycl 32
  State.setReg { s with sec := { s.sec with root := r, rootCrc := if good then crc32c (bytes256 r) else 0xDEAD#32, queue := q } } A.secRngstat v

/-- A random request for one word with a token. -/
def rng0 (kind : Nat) : RngReq :=
  { kind := kind, agent := 1#12, tag := 0x4000, words := 1, deadline := 1000, sign := none }

theorem witness_KeyOperationsFollowTheirTable_2 :
    let e := stRng 0#256 true [] 1#32
    let b := stRng 9#256 false [] 1#32
    let f := stRng 9#256 true [] 3#32
    (e.sec.rootCrc = crc32c (bytes256 e.sec.root) ∧ e.sec.root = 0#256) ∧ b.sec.rootCrc ≠ crc32c (bytes256 b.sec.root) ∧ f.rngStatus ≠ .ok ∧
      after (.loadRoot 0 0x40#12) e (fun t => decide (t.reply.status = .refusedNotReady ∧ t.sec.key = 5#256)) = true ∧
      after (.loadRoot 0 0x40#12) b (fun t => decide (t.sec.root = 0#256)) = true ∧
      after (.sign 0 0x40#12) f (fun t => decide (t.reply.status = .healthFail)) = true := by decide +kernel

theorem witness_RandomWordsTheRootAndTamper_1 :
    let s := stRng 9#256 true [] 1#32
    let q := stRng 9#256 true [rng0 0] 1#32
    let full : State := { q with lk := { q.lk with reserved := 4096 } }
    let sg : SignReq := { d := 5#256, digest := 6#256, dst := 0x300 }
    s.rngState = 1 ∧ (stRng 9#256 true [] 3#32).rngState = 3 ∧ isPostable (tagFor false 0x4000) = true ∧ isPostable (tagFor false 0) = false ∧
      64 ≤ (stRng 9#256 true (List.replicate 64 (rng0 0)) 1#32).sec.queue.length ∧ q.sec.queue = [rng0 0] ∧ (q.sec.drawn + 1) % 65536 ≠ 0 ∧
      q.entryFree 0x4000 = true ∧ full.entryFree 0x4000 = false ∧ s.opKey sg.dst 64 = some (kDram 64 + 0x300) ∧ bits 5#32 3 2 < 2 ∧ 2 ≤ bits 9#32 3 2 ∧
      (stRng 9#256 true [] 0#32).rngState = 0 ∧ (stRng 9#256 true [] 2#32).rngState = 2 ∧
      after (.rngReq 0 0x4000#32) s (fun t => decide (t.sec.queue.length = 1)) = true ∧
      after .randomServe q (fun t => decide (t.sec.queue = [] ∧ (t.tokens 0x4000).length = 1 ∧ t.sec.drawn = 1)) = true ∧
      after .randomServe full (fun t => decide (t.sec.queue = [rng0 0] ∧ t.sec.drawn = 1)) = true ∧
      after (.randomTimeout 0) q (fun t => decide (t.sec.queue = [])) = true ∧
      after .entropyFailure (stRng 9#256 true [rng0 0] 9#32) (fun t => decide (t.rngState = 3 ∧ t.sec.queue = [])) = true ∧
      after .entropyStartupComplete (stRng 9#256 true [] 2#32) (fun t => decide (t.rngState = 1)) = true ∧
      after .entropyFailureCountReset (stRng 9#256 true [] 5#32) (fun t => decide (t.reg A.secRngstat = 1#32)) = true := by decide +kernel

theorem witness_RandomWordsTheRootAndTamper_2 :
    let s := (stRng 0#256 true [] 1#32).writeBytes (kDram 64 + 0x200) [7#8]
    let t := (stRng 9#256 true [] 1#32).setReg A.secTampcfg 2#32
    let raw : State := { s with lcs := State.reset.lcs }
    s.sec.root = 0#256 ∧ (2 ≤ s.lcs' ∧ s.lcs' ≤ 4) ∧ (raw.lcs' < 2 ∨ 4 < raw.lcs') ∧ 0x4000 < (0xFFF#12).toNat * 4 + 32 ∧
      word256 (s.readBytes (kDram 64 + 0x200) 32) ≠ 0#256 ∧ s.rngStatus = .ok ∧ (stRng 0#256 true [] 3#32).rngStatus ≠ .ok ∧
      bit (t.reg A.secTampcfg) 1 = true ∧ bit (t.reg A.secTampcfg) 0 = false ∧ t.shp.secure.wardenI = [] ∧
      t.sramLocked t.shp.secure.ssBase t.shp.secure.ssLen = false ∧
      after (.install 0 0x80#12) s (fun t => decide (t.sec.root = word256 (7#8 :: List.replicate 31 0#8))) = true ∧
      after (.install 0 0x80#12) raw (fun t => decide (t.reply.status = .refusedRights)) = true ∧
      after (.generate 0) s (fun t => decide (t.sec.queue.map (·.kind) = [2])) = true ∧
      after (.tamperDetect 1 77#32 true) t (fun u => decide (u.sec.root = 0#256 ∧ u.sec.key = 0#256 ∧ u.reg A.secTamprec = 2#32)) = true ∧
      after (.tamperDetect 1 77#32 false) t (fun u => decide (u.sec.key = 5#256) && u.sec.lateTamper) = true := by decide +kernel

/-- SEC_MSTAT is `v`, SEC_MREQ0 `m`, and the watchdog ends at `wd`. -/
def stMail (v m : W32) (wd : Nat) : State :=
  let s := stRng 9#256 true [] 1#32
  ((State.setReg { s with sec := { s.sec with wdEnd := wd } } A.secMstat v).setReg (A.secMreq 0) m).setReg A.secMtag 7#32

theorem witness_TheWardenMailboxWatchdogAndHolds_1 :
    let s := stMail 0#32 4#32 0
    let z := stMail 0#32 9#32 0
    let b := stMail 0x00050100#32 4#32 0
    s.mboxBusy = false ∧ b.mboxBusy = true ∧ isBoss 0x500#12 = true ∧ isBoss 1#12 = false ∧ 1 ≤ bits (s.reg (A.secMreq 0)) 3 0 ∧
      8 < bits (z.reg (A.secMreq 0)) 3 0 ∧ s.rngStatus = .ok ∧ s.entryFree 0x10007 = true ∧ b.mboxRandom = false ∧ (0x80#8).toNat = 0x80 ∧
      after (.wardenStatus 0x500#12 3#16) s (fun t => decide (t.reg A.secMstat = 0x00030200#32)) = true ∧
      after (.random 0x500#12 3#16) s (fun t => decide (t.reg A.secMstat = 0x00030100#32 ∧ t.sec.queue.map (·.words) = [4])) = true ∧
      after (.random 0x500#12 3#16) z (fun t => decide (t.reply.status = .refusedRange)) = true ∧
      after (.mailboxForward 0x500#12 0x80#8 3#16) s (fun t => decide ((t.tokens 0x10007).map (·.value) = [0x80#32])) = true ∧
      after (.mailboxDone 0 0#32) b (fun t => decide (t.reg A.secMstat = 0x00050200#32)) = true ∧
      after .mailboxTimeout b (fun t => decide (t.reply.status = .timeout)) = true := by decide +kernel

theorem witness_TheWardenMailboxWatchdogAndHolds_2 :
    let s := (stMail 0#32 4#32 500).setReg A.secWdcfg 3#32
    let i : State := { s with shp := { s.shp with secure := { s.shp.secure with wardenI := [1#8] } } }
    let k := ((stKey 4 labelCycl 32).setReg A.secKstat 0xC#32).setReg A.secKwtag 9#32
    let f : State := { k with tb := { k.tb with fence := true } }
    bits 0xD1E50000#32 31 16 = 0xD1E5 ∧ bits 0x4B1C0000#32 31 16 = 0x4B1C ∧ s.sec.wdEnd ≠ 0 ∧ s.sec.wdExpired = false ∧ i.shp.secure.wardenI ≠ [] ∧
      (s.slot 512).stores = [] ∧ bit (f.reg A.secKstat) 3 = true ∧ f.tagWindowDone = true ∧ bit (s.reg A.secKstat) 3 = false ∧ f.entryFree 0x10009 = true ∧
      after (.wardenReset 0 0xD1E50000#32) s (fun t => decide (t.sec.key = 0#256 ∧ t.slot 512 = Slot.init)) = true ∧
      after (.watchdogKick 0 0x4B1C0000#32) s (fun t => decide (t.sec.wdEnd = 3000000)) = true ∧
      after .watchdogExpiry s (fun t => t.sec.wdExpired && decide (t.sec.key = 0#256)) = true ∧
      after (.secureHoldWrite 0 2 0xFFFFFFFF#32) s (fun t => decide (t.reg (A.secHoldpd 2) = 0xFFFFF#32)) = true ∧
      after .tagWindowClose f (fun t => decide ((t.tokens 0x10009).length = 1 ∧ bit (t.reg A.secKstat) 3 = false)) = true := by decide +kernel

/-! ### Chapters 21 and 22 -/

/-- A signed request: KIND, ARG, SLOT, NONCE and DURATION; the unit is number 0, and EXTRA is zero. -/
def request0 (kind arg slot nonce dur : Nat) : List Byte :=
  [0x5A#8, 0x4C#8, 0x43#8, 0x52#8] ++ leBytes 1 kind ++ leBytes 1 arg ++ leBytes 1 slot ++ List.replicate 9 0#8 ++ beBytes 16 nonce ++
    leBytes 4 dur ++ List.replicate 204 0#8

/-- The nonce is `n`; the request stands at 0x20000 of shared SRAM, where the manager sees it. -/
def stRequest (n : Nat) (r : List Byte) : State :=
  let s : State := { stShape with sec := { stShape.sec with nonce := some (BitVec.ofNat 128 n, 600) } }
  (((s.setReg A.secNstat 0x10#32).setReg (A.secMreq 0) 0x20000#32).setReg (A.secMreq 1) 240#32).writeBytes (kShared + 0x20000) r

theorem witness_TransitionsAreCheckedPerformedAndWiped_1 :
    let d := request0 2 1 0 7 60
    let z := request0 2 1 0 7 0
    let x := request0 3 1 0 7 0
    let s := stRequest 7 d
    s.lcs' = 4 ∧ s.mboxBusy = false ∧ isBoss 0x500#12 = true ∧ bit (s.reg A.secNstat) 4 = true ∧ s.stagingOk 0x20000 240 = true ∧
      s.stagingOk 0 240 = false ∧ s.lcs.accepted = none ∧ s.requestForm (s.sramRd 0x20000) = .ok ∧ s.requestForm (listRd d) = .ok ∧
      s.requestForm (listRd z) = .zeroLength ∧ s.requestForm (listRd x) = .refusedRange ∧
      s.sec.nonce.map (·.1) = some (BitVec.ofNat 128 (beNat (rdBytes (listRd d) 0x10 16))) ∧ s.requestRights (listRd d) = .refusedRights ∧
      (stRequest 8 d).sec.nonce.map (·.1) ≠ some (BitVec.ofNat 128 (beNat (rdBytes (listRd d) 0x10 16))) ∧
      after (.lcsRequest 0x500#12 3#16 false []) s (fun t => decide (t.reply.status = .refusedRights ∧ t.sec.nonce = none)) = true ∧
      after (.lcsRequest 0#12 0#16 true z) s (fun t => decide (t.reply.status = .zeroLength ∧ t.sec.nonce = s.sec.nonce)) = true ∧
      after (.lcsRequest 0#12 0#16 true x) s (fun t => decide (bits (t.reg A.lcsState) 23 16 = Status.refusedRange.code)) = true ∧
      after (.lcsRequest 0#12 0#16 true d) (stRequest 8 d) (fun t => decide (t.reply.status = .refusedNotReady ∧ t.sec.nonce = none)) = true := by
  decide +kernel

/-- A request that was accepted in state `g` of the fuse groups. -/
def stAccepted (g : List (BitVec 3)) (kind arg : Nat) : State :=
  let q : LcsReq := { kind := kind, arg := arg, duration := 60, extra := 1#8 :: List.replicate 63 0#8, tap := false }
  let otp : Otp := { State.reset.lcs.otp with groups := g }
  let s : State := { stShape with lcs := { stShape.lcs with otp := otp, accepted := some q, grant := some (1, 90) } }
  { s with sec := { s.sec with key := 5#256, root := 9#256 } }

theorem witness_TransitionsAreCheckedPerformedAndWiped_2 :
    let b := stAccepted [7#3, 0#3, 0#3, 0#3, 0#3] 1 3
    let f := stAccepted [7#3, 7#3, 0#3, 0#3, 0#3] 1 4
    (∃ q, b.lcs.accepted = some q ∧ q.kind = 1 ∧ q.arg = 3) ∧ (∃ q, f.lcs.accepted = some q ∧ q.kind = 1 ∧ 2 ≤ q.arg ∧ q.arg ≤ 6) ∧
      b.lcs' = 2 ∧ f.lcs' = 3 ∧ stShape.lcs.accepted = none ∧ (∃ q, (stAccepted [] 2 1).lcs.accepted = some q ∧ q.kind ≠ 1) ∧
      after (.transition true 7#3) b (fun t => decide (t.lcs' = 3 ∧ t.lcs.grant = none)) = true ∧
      after (.transition true 7#3) f (fun t => decide (t.lcs' = 4 ∧ t.lcs.wipe = none ∧ t.sec.key = 5#256)) = true ∧
      after (.transition true 3#3) f (fun t => decide (t.reply.status = .timeout ∧ t.lcs.grant = some (1, 90))) = true ∧
      after (.transition false 7#3) b (fun t => decide (t.reply.status = .timeout ∧ t.lcs' = 2)) = true := by
  refine ⟨⟨_, rfl, rfl, rfl⟩, ⟨_, rfl, rfl, by decide, by decide⟩, by decide +kernel, by decide +kernel, rfl, ⟨_, rfl, by decide⟩,
    by decide +kernel, by decide +kernel, by decide +kernel, by decide +kernel⟩

theorem witness_TransitionsAreCheckedPerformedAndWiped_3 :
    let s := stAccepted [7#3, 7#3, 7#3, 0#3, 0#3] 1 5
    let raw := stAccepted [0#3, 0#3, 0#3, 0#3, 0#3] 2 0
    let w : State := { s with lcs := { s.lcs with wipe := some 5 } }
    let full : State := { raw with lcs := { raw.lcs with otp := { raw.lcs.otp with uid := some 4#64, keys := [3#256, 0#256, 0#256, 0#256] } } }
    s.lcs' = 4 ∧ raw.lcs' = 1 ∧ 4 ≤ raw.boot.step ∧ State.reset.boot.step < 4 ∧ full.lcs.otp.uid.isSome = true ∧ nth full.lcs.otp.keys 0 0#256 ≠ 0#256 ∧
      nth full.lcs.otp.keys 1 0#256 = 0#256 ∧ raw.lcs.otp.keys.length = 4 ∧ w.lcs.wipe = some 5 ∧ s.lcs.wipe = none ∧
      w.shp.secure.ssBase + w.shp.secure.ssLen ≤ 0x400000 ∧
      after (.scrapRaw 0x53435251#32 7#3) raw (fun t => decide (t.lcs' = 1 ∧ t.sec.root = 9#256)) = true ∧
      after (.scrapRaw 0x53435250#32 7#3) s (fun t => decide (t.reply.status = .refusedRights)) = true ∧
      after (.otpProg 0#8 6#256) raw (fun t => decide (t.unitId = 6#64)) = true ∧
      after (.otpProg 0#8 6#256) full (fun t => decide (t.unitId = 4#64 ∧ t.reply.status = .refusedRights)) = true ∧
      after (.otpProg 1#8 6#256) full (fun t => decide (t.lcs.otp.keys = full.lcs.otp.keys)) = true ∧
      after (.otpProg 2#8 6#256) full (fun t => decide (t.lcs.otp.keys = [3#256, 6#256, 0#256, 0#256])) = true ∧
      after (.otpProg 3#8 6#256) full (fun t => decide (t.reply.status = .refusedRange)) = true := by decide +kernel

theorem witness_ChallengesAndGrantsLiveAndEnd :
    let s := (stRng 9#256 true [] 1#32).setReg A.secNstat 0x10#32
    let h := (stRng 9#256 true [] 3#32).setReg A.secNstat 0x10#32
    let n := (stRng 9#256 true [] 0#32).setReg A.secNstat 0x10#32
    let g := stAccepted [7#3, 7#3, 7#3, 0#3, 0#3] 2 1
    let r := stRequest 7 []
    s.rngState = 1 ∧ h.rngState = 3 ∧ n.rngState = 0 ∧ s.mboxBusy = false ∧ bit (s.reg A.secNstat) 4 = true ∧ 4 ≤ s.boot.step ∧ isBoss 0x500#12 = true ∧
      (stRng 9#256 true [] 1#32).rngState = 1 ∧ bit ((stRng 9#256 true [] 1#32).reg A.secNstat) 4 = false ∧ r.sec.nonce = some (7#128, 600) ∧
      s.sec.nonce = none ∧ g.lcs.grant = some (1, 90) ∧ s.lcs.grant = none ∧ g.lcs.accepted.map (·.kind) = some 2 ∧
      after (.challenge 0x500#12 3#16 false) h (fun t => decide (t.reply.status = .healthFail)) = true ∧
      after (.challenge 0#12 0#16 true) n (fun t => decide (t.reply.status = .noEntropy)) = true ∧
      after (.debugRevoke 0x500#12 3#16) (g.setReg A.secNstat 0x10#32) (fun t => decide (t.lcs.grant = none)) = true ∧
      after .nonceExpiry r (fun t => decide (t.sec.nonce = none ∧ t.time = 600)) = true ∧
      after .debugGrant g (fun t => decide (t.lcs.grant = some (1, g.time + 60000000000) ∧ t.lcs.accepted = none)) = true ∧
      after .debugGrantExpiry g (fun t => decide (t.lcs.grant = none ∧ t.time = 90)) = true := by decide +kernel

/-- The record of Example 21-1's kind: a download of 8192 bytes to bank B has begun. -/
def updRec0 (state off : Nat) : UpdRec :=
  { UpdRec.none' with seq := 5#32, state := state, target := 1, rxLen := 8192, rxOff := off }

/-- The flash holds that record in copy 0, the device is in FIELD with the warden ready, and the update mailbox words are `q`. -/
def stUpd (r : UpdRec) (q : List W32) : State :=
  let s := (stShape.setReg A.secNstat 0x10#32).writeBytes (recKey 0) r.bytes
  ((s.setReg (A.secMreq 0) (nth q 0 0#32)).setReg (A.secMreq 1) (nth q 1 0#32)).setReg (A.secMreq 2) (nth q 2 0#32)

theorem witness_UpdatesAreReceivedVerifiedTriedAndConfirmed_1 :
    let i := stUpd (updRec0 0 0) [1#32, 8192#32]
    let s := stUpd (updRec0 1 4096) [0x20000#32, 4096#32, 4096#32]
    let raw : State := { i with lcs := State.reset.lcs }
    isBoss 0x500#12 = true ∧ i.mboxBusy = false ∧ i.updGate = .ok ∧ i.updRec = updRec0 0 0 ∧ s.updRec = updRec0 1 4096 ∧ i.fullImage = true ∧
      bits (i.reg A.shpStat) 4 4 = 0 ∧ raw.updGate = .refusedRights ∧ raw.lcs' = 1 ∧ s.stagingOk 0x20000 4096 = true ∧ chunkOk s.updRec 4096 = true ∧
      chunkOk (stUpd (updRec0 1 0) []).updRec 1024 = false ∧ s.updRec.rxOff % 4096 = 0 ∧
      after (.updStatus 0x500#12 3#16) i (fun t => decide (t.reg (A.secMrsp 2) = 8192#32)) = true ∧
      after (.updStatus 0x500#12 3#16) raw (fun t => decide (t.reply.status = .refusedRights)) = true ∧
      after (.updBegin 0x500#12 3#16) (stUpd (updRec0 3 0) [1#32, 8192#32]) (fun t => decide (t.reply.status = .refusedNotReady)) = true ∧
      after (.updBegin 0x500#12 3#16) (stUpd (updRec0 0 0) [0#32, 8192#32]) (fun t => decide (t.reply.status = .refusedRights)) = true ∧
      after (.updBegin 0x500#12 3#16) (stUpd (updRec0 0 0) [1#32, 8200#32]) (fun t => decide (t.reply.status = .refusedRange)) = true := by
  decide +kernel

theorem witness_UpdatesAreReceivedVerifiedTriedAndConfirmed_2 :
    let a := stUpd (updRec0 1 4096) [0x20000#32, 4096#32, 4096#32]
    let v := stUpd (updRec0 2 8192) []
    let t3 := stUpd { updRec0 3 8192 with active := 0, digest := 0#256, secver := 4#32 } []
    v.updRec.state = 2 ∧ t3.updRec.state = 3 ∧ t3.fullImage = true ∧ bits (t3.reg A.shpStat) 4 4 = t3.updRec.active ∧ t3.shp.digest = t3.updRec.digest ∧
      t3.lcs.otp.arb < t3.updRec.secver.toNat ∧ (fullHead (v.bankRd 1) v.lcs.otp).map (·.code) = some 1 ∧
      (stUpd (updRec0 1 4096) [0x20000#32, 4096#32, 0#32]).updRec.state = 1 ∧
      ¬ ((a.updRec.state = 1 ∧ a.updRec.rxOff = a.updRec.rxLen) ∨ a.updRec.state = 2) ∧
      after (.updData 0x500#12 3#16 true) (stUpd (updRec0 1 4096) [0x20000#32, 4096#32, 0#32]) (fun t => decide (t.reply.status = .refusedRange)) = true ∧
      after (.updData 0x500#12 3#16 true) v (fun t => decide (t.reply.status = .zeroLength)) = true ∧
      after (.updVerify 0x500#12 3#16) a (fun t => decide (t.reply.status = .refusedNotReady)) = true ∧
      after (.updConfirm 0x500#12 3#16) v (fun t => decide (t.reply.status = .refusedNotReady)) = true ∧
      after (.updAbort 0x500#12 3#16) (stUpd (updRec0 0 0) []) (fun t => decide (t.reply.status = .refusedNotReady)) = true := by
  decide +kernel

/-- stShape with one switch of domain `d` in the queue. -/
def stSwitch (d was target : Nat) : State :=
  let x : PdSwitch := { dom := d, was := was, target := target }
  State.setPd { stShape with pwr := { stShape.pwr with queue := [x] } } d 3

theorem witness_DomainsAndIslandsSwitchByTheirRules_1 :
    let s := stShape
    s.reachesAs 0x500#12 0x01 = true ∧ s.reachesAs 0x605#12 0x01 = false ∧ s.pdStatus 0x500#12 0 0 = .refusedNotReady ∧
      s.pdStatus 0x500#12 84 0 = .refusedRange ∧ (stSwitch 64 2 1).pdState 64 = 3 ∧ s.pdStatus 0x500#12 81 1 = .refusedSecure ∧
      s.pdStatus 0x7F0#12 81 1 = .refusedRights ∧ ((s.setReg (A.secHoldpd 0) 1#32).pdHeld 0 = true) ∧ s.pdStatus 0x500#12 64 1 = .ok ∧
      s.pdState 64 ≠ 1 ∧ s.pdStatus 0x500#12 64 2 = .ok ∧ s.pdState 64 = 2 ∧ s.once.contains 765 = false ∧
      after (.domainRetain 0x500#12 64#7) s (fun t => decide (t.pdState 64 = 3 ∧ t.pwr.queue.length = 1)) = true ∧
      after (.domainOn 0x500#12 64#7) s (fun t => decide (t.reply.status = .ok ∧ t.pdState 64 = 2)) = true ∧
      after (.domainOff 0x500#12 0#7) s (fun t => decide (t.reply.status = .refusedNotReady ∧ t.pdState 0 = 2)) = true ∧
      after (.domainOff 0x605#12 0#7) s (fun t => decide (t.reply.status = .refusedRights)) = true := by decide +kernel

theorem witness_DomainsAndIslandsSwitchByTheirRules_2 :
    let o := stSwitch 5 2 0
    let r := stSwitch 64 2 1
    let n := (stSwitch 77 0 2)
    let c := (stSwitch 75 0 2).setReg (A.drcStat 0) 3#32
    o.switchAt 5 = some 0 ∧ o.switching 0 = true ∧ o.clusterIdle 5 = true ∧ r.switching 0 = true ∧ r.clusterIdle 64 = true ∧
      n.switching 0 = true ∧ c.chState 0 = 3 ∧ o.switchAt 6 = none ∧
      { r with uni := { r.uni with lookups := r.uni.lookups } }.switchAt 64 = some 0 ∧
      after (.domainSwitchComplete 5 true) (o.setSlot 40 { Slot.init with halted := true }) (fun t =>
        decide (t.pdState 5 = 0 ∧ t.pwr.queue = [] ∧ t.slot 40 = Slot.init)) = true ∧
      after (.domainSwitchComplete 64 true) r (fun t => decide (t.pdState 64 = 1)) = true ∧
      after (.domainSwitchComplete 77 true) n (fun t => decide (t.pdState 77 = 2 ∧ t.pwr.laneWait = [77])) = true ∧
      after (.laneRecalibrationComplete false) { n with pwr := { n.pwr with laneWait := [77, 78] } } (fun t => decide (t.pwr.laneWait = [78])) = true ∧
      after (.domainSwitchComplete 75 false) c (fun t => decide (t.chState 0 = 0)) = true ∧
      after (.domainSwitchComplete 75 true) c (fun t => decide (t.chState 0 = 3)) = true := by decide +kernel

theorem witness_DomainsAndIslandsSwitchByTheirRules_3 :
    let s := stShape.setReg A.secHoldck 8#32
    s.ckreqStatus 0x500#12 4#32 = .ok ∧ s.ckStatus 0x500#12 0 = .refusedRights ∧ s.ckStatus 0x500#12 3 = .refusedSecure ∧
      s.ckStatus 0x7F0#12 3 = .ok ∧ bit (1#32) 0 = true ∧ bit (s.reg A.pwrCkreq) 0 = false ∧
      after (.clockGate 0x500#12 4#32) s (fun t => decide (t.reg A.pwrCkreq = 4#32)) = true ∧
      after (.clockGate 0x500#12 0xC#32) s (fun t => decide (t.reply.status = .refusedSecure ∧ t.reg A.pwrCkreq = 0#32)) = true ∧
      after (.clockGate 1#12 4#32) s (fun t => decide (t.reply.status = .refusedRights)) = true := by decide +kernel

/-- A cycle of 31 250 ns runs; VCORE is `v` of 700 to 900 mV, the deadline 29 000, the margin 1000, the hysteresis 300, one step of 10 mV;
the cycle's frames finished at `f` (0: not yet). -/
def stGov (v f : Nat) : State :=
  let s : State := { stShape with tb := { stShape.tb with cycRun := true, cycLen := 31250, timer := true } }
  let s1 := (((s.setReg A.pwrVcore (BitVec.ofNat 32 v)).setReg A.pwrDeadline 29000#32).setReg A.pwrMargin 1000#32).setReg A.pwrGovhyst 300#32
  ((s1.setReg A.pwrGovctl 0x01000000#32).setReg A.pwrVclim (BitVec.ofNat 32 (700 + 900 * 65536))).setReg A.fltFinish
    (BitVec.ofNat 32 (if f = 0 then 0 else 0x80000000 + f))

theorem witness_TheGovernorAndTheMonitorsDecide_1 :
    let s := stGov 800 28500
    let l := stGov 800 0
    let top := stGov 900 28500
    let hold := stGov 800 28000
    let fx : State := { s with boot := { s.boot with fallback := 0x80#32 } }
    s.tb.cycRun = true ∧ s.pwr.decided = false ∧ s.boot.limp = false ∧ s.tb.cycStart.toNat + s.decideAt < 2 ^ 64 ∧ s.govMax = 900 ∧
      bit (s.reg A.fltFinish) 31 = true ∧ bit (l.reg A.fltFinish) 31 = false ∧ bit ((fx.setReg A.bootFallback 0x80#32).reg A.bootFallback) 7 = true ∧
      after (.governorDecision [] []) s (fun t => decide (bits (t.reg A.pwrVcore) 25 16 = 810 ∧ bits (t.reg A.pwrGovstat) 2 0 = 2)) = true ∧
      after (.governorDecision [] []) l (fun t => decide (bits (t.reg A.pwrVcore) 25 16 = 830 ∧ bits (t.reg A.pwrGovstat) 2 0 = 3)) = true ∧
      after (.governorDecision [] []) hold (fun t => decide (t.reg A.pwrVcore = 800#32 ∧ bits (t.reg A.pwrGovstat) 2 0 = 0)) = true ∧
      after (.governorDecision [] []) top (fun t => decide (t.reg A.pwrVcore = 900#32)) = true ∧
      after (.governorDecision [] []) (stGov 950 28000) (fun t => decide (bits (t.reg A.pwrVcore) 25 16 = 900 ∧ bits (t.reg A.pwrGovstat) 2 0 = 4)) = true ∧
      after (.governorDecision [] []) (stGov 800 20000) (fun t => decide (bits (t.reg A.pwrVcore) 25 16 = 790 ∧ bits (t.reg A.pwrGovstat) 2 0 = 1)) = true ∧
      after (.governorDecision [] []) (fx.setReg A.bootFallback 0x80#32) (fun t => decide (t.reg A.pwrVcore = 800#32)) = true := by decide +kernel

/-- Example 22-1: the RP-40 at `v` mV with the cycle's frames finished at `f` (0: not yet), and the replica delays of tile 31. -/
def stExample221 (v f : Nat) : State :=
  let s := stGov v f
  let s1 := ((s.setReg A.pwrDeadline 25000#32).setReg A.pwrMargin 4000#32).setReg A.pwrGovhyst 500#32
  let s2 := (s1.setReg A.pwrGovctl (BitVec.ofNat 32 (22000 + 2 * 0x1000000))).setReg A.pwrVclim (BitVec.ofNat 32 (640 + 900 * 65536))
  let cal : SMap Nat := [(64 * 31 + 6, 1372), (64 * 31 + 8, 1302), (64 * 31 + 10, 1240), (64 * 31 + 12, 1185)]
  { s2 with pwr := { s2.pwr with cal := cal }, cores := s2.cores ++ [(31, core0)] }

/-- Example 22-1, cycles N to N+4. -/
theorem test_example_22_1 :
    let run := fun (v f t w act : Nat) (m : Int) => after (.governorDecision (List.replicate 64 512#10) []) (stExample221 v f) (fun u =>
      decide (u.time = t ∧ bits (u.reg A.pwrVcore) 25 16 % 1024 = w ∧ bits (u.reg A.pwrGovstat) 2 0 = act ∧
        bits (u.reg A.pwrGovstat) 31 16 = sat16 m))
    run 700 17200 22000 680 1 7800 = true ∧ run 680 18100 22000 660 1 6900 = true ∧ run 660 21300 22000 0 0 3700 = true ∧
      run 660 0 25000 720 3 (-1) = true ∧ run 720 19000 22000 700 1 6000 = true ∧ (stExample221 680 18100).govPredict 18100 680 660 = 19074 ∧
      (stExample221 720 19000).govPredict 19000 720 700 = 19882 := by
  decide +kernel

theorem witness_TheGovernorAndTheMonitorsDecide_2 :
    let s := stShape.setReg A.monTherm 0x0320695F#32
    let cold := List.replicate 12 100#12
    let hot := 380#12 :: List.replicate 11 100#12
    let dead := 100#12 :: 540#12 :: List.replicate 10 100#12
    let shut : State := { s with pwr := { s.pwr with shut := true } }
    cold.length = 12 ∧ (hottest hot).1 = 380 ∧ (hottest dead).1 = 540 ∧ (hottest dead).2 = 1 ∧ s.pwr.shut = false ∧
      (BitVec.ofNat 12 (bits ((shut.setReg A.monTjmax 399#32).reg A.monTjmax) 11 0)).toInt < 400 ∧
      400 ≤ (BitVec.ofNat 12 (bits ((shut.setReg A.monTjmax 400#32).reg A.monTjmax) 11 0)).toInt ∧
      after (.temperatureSample cold) s (fun t => decide (t.reg A.monTjmax = 100#32 ∧ t.pwr.warned = false)) = true ∧
      after (.temperatureSample hot) s (fun t => decide (t.pwr.warned = true ∧ t.pwr.throttled = false)) = true ∧
      after (.temperatureSample dead) s (fun t => decide (t.pwr.shut = true ∧ t.pdState 3 = 0 ∧ t.pdState 81 = 2 ∧ bits (t.reg A.pwrShutrec) 7 4 = 1)) = true ∧
      after .thermalRecovery (shut.setReg A.monTjmax 399#32) (fun t => decide (t.boot.step = 0 ∧ t.pwr.shut = false ∧ t.reg A.bootCause = 1#32)) = true ∧
      after .thermalRecovery (shut.setReg A.monTjmax 400#32) (fun t => decide (t.boot.step = 20)) = true := by decide +kernel

theorem witness_TheGovernorAndTheMonitorsDecide_3 :
    let s := (stShape.setReg A.pwrVcore 800#32).setReg (A.monRail 0) 2470#32
    let mv := [2469#16, 759#16, 841#16, 1709#16, 900#16, 600#16, 1800#16, 3600#16]
    2470 ≤ bits (s.reg (A.monRail 0)) 15 0 ∧ (nth mv 0 0#16).toNat < 2470 ∧ (nth mv 1 0#16).toNat + 40 < 800 ∧ (nth mv 3 0#16).toNat * 100 < 1800 * 95 ∧
      after (.railSample mv true) s (fun t => decide (bits (t.reg (A.monRail 1)) 17 16 = 1 ∧ bits (t.reg (A.monRail 2)) 17 16 = 2 ∧
        bits (t.reg (A.monRail 3)) 17 16 = 1 ∧ bits (t.reg (A.monRail 4)) 17 16 = 0)) = true ∧
      after (.railSample mv false) s (fun t => decide (bits (t.reg (A.monRail 1)) 17 16 = 0)) = true := by decide +kernel

/-! ### Chapters 3 and 23 -/

/-- A start whose last completed step is `n`, with the shape loaded, an open log entry in the flash, and rail and link as given. -/
def stStart (n : Nat) (limp l0 : Bool) : State :=
  let s := stShape
  { s with boot := { s.boot with running := true, step := n, limp := limp, l0 := l0, entry := some (kData + 0x1FE040) } }

/-- That start failed at step `n` with DETAIL `d`. -/
def stFailed (n d : Nat) : State :=
  let f : Failure := { step := n, cause := n, detail := d, steps := 0#32, kind := 1 }
  let s := stStart (n - 1) false true
  { s with boot := { s.boot with failed := some f } }

theorem witness_StartStepsRunInOrderAndFail_1 :
    let r := State.reset
    let k := kData + 0x1FE040
    r.stepDue 1 = true ∧ (stStart 1 false false).stepDue 2 = true ∧ (stStart 2 false false).stepDue 3 = true ∧ (stStart 3 false false).stepDue 4 = true ∧
      (stStart 4 false false).stepDue 5 = true ∧ (stStart 5 false false).stepDue 6 = true ∧ (stStart 9 false false).stepDue 10 = true ∧
      (stStart 10 false false).stepDue 11 = true ∧ (stStart 13 false false).stepDue 14 = true ∧ (stStart 17 false false).stepDue 18 = true ∧
      (stStart 4 false false).stepDue 6 = false ∧ (stStart 11 true false).stepDue 12 = false ∧ (stFailed 2 3).railFault = true ∧ r.railFault = false ∧
      (stStart 3 false false).fusesAgree = true ∧ (stAccepted [1#3] 1 2).fusesAgree = false ∧ (kFlash ≤ k ∧ k + 64 ≤ kImageStore) ∧
      (stStart 13 false true).laneUsed 3 = true ∧ State.reset.laneUsed 3 = false ∧
      after (.vinGood true) r (fun t => decide (t.boot.step = 0)) = true ∧
      after (.vinGood false) r (fun t => decide (t.boot.step = 1 ∧ bits (t.reg A.bootStat) 4 0 = 1)) = true ∧
      after (.regulators true none) (stStart 1 false false) (fun t => decide (t.boot.step = 2) && t.boot.vfsel) = true ∧
      after (.regulators true (some 3)) (stStart 1 false false) (fun t => decide (t.boot.failed.map (·.detail) = some 3)) = true ∧
      after (.regulatorRetry true none) (stFailed 2 3) (fun t => decide (t.boot.step = 2 ∧ t.boot.failed = none)) = true ∧
      after (.alwaysOn 2#2) (stStart 2 false false) (fun t => decide (t.boot.drspd = 2 ∧ t.pdState 79 = 2)) = true := by decide +kernel

theorem witness_StartStepsRunInOrderAndFail_2 :
    let b := stStart 4 false false
    let bad : State := { b with sec := { b.sec with root := 5#256, rootCrc := 0#32 } }
    after (.otpAndLifeCycle none) (stStart 3 false false) (fun t => decide (t.boot.step = 4)) = true ∧
      after (.otpAndLifeCycle (some 7#16)) (stStart 3 false false) (fun t => decide (t.boot.failed.map (·.detail) = some 7)) = true ∧
      after .batteryDomainAndTamper bad (fun t => decide (t.boot.step = 5 ∧ t.sec.root = 0#256)) = true ∧
      after (.wardenRomSelfTest (some 2)) (stStart 5 true false) (fun t => t.boot.halted && !t.boot.l0) = true ∧
      after (.timebasePll true) (stStart 10 false false) (fun t => t.tb.started && decide (t.tb.now = 0#64 ∧ t.boot.step = 11)) = true ∧
      after (.timebasePll true) (stStart 10 true true) (fun t => decide (t.boot.step = 15)) = true ∧
      after (.timebasePll false) (stStart 10 false false) (fun t => decide (t.boot.failed.map (·.cause) = some 0x0B)) = true ∧
      after (.serdesCalibration (some 3)) (stStart 13 false true) (fun t => decide (t.boot.failed.map (·.detail) = some 3)) = true ∧
      after (.serdesCalibration none) (stStart 13 false true) (fun t => decide (t.boot.step = 15)) = true ∧
      after (.serdesCalibration none) (stStart 13 false false) (fun t => decide (t.boot.step = 14)) = true ∧
      after (.tableInitialisation (some 1)) (stStart 17 false true) (fun t =>
        decide (t.readLE (kData + 0x1FE054) 4 = 0x00011212)) = true ∧
      after .startStepTimeout (stStart 13 false true) (fun t => decide (t.boot.step = 13 ∧ t.boot.failed.map (·.cause) = some 0x20)) = true ∧
      after .startStepTimeout (stStart 14 false true) (fun t => decide (t.boot.failed = none)) = true ∧
      after .pcieLink (stStart 14 false false) (fun t => t.boot.l0 && decide (t.boot.step = 15)) = true ∧
      after .pcieLink (stStart 2 false false) (fun t => !t.boot.l0) = true ∧
      after .linkLossDuringBringUp (stStart 7 false true) (fun t => !t.boot.l0 && decide (t.boot.step = 7)) = true := by decide +kernel

/-- The fallbacks `f` are kept, and channel 0's values are stored. -/
def stKept (n : Nat) (f : W32) : State :=
  let s := stStart n false true
  { s with boot := { s.boot with fallback := f, train := [0] } }

theorem witness_StartsUseTheRecordTheImageAndTheirFallbacks_1 :
    let s := stStart 6 false false
    let three : State := { s with boot := { s.boot with s07Fails := 3 } }
    let u := (stStart 6 false false).writeBytes (recKey 1) (updRec0 3 0).bytes
    let e := stStart 7 false false
    let other : State := { e with boot := { e.boot with bankFail := some 1 } }
    s.stepDue 7 = true ∧ s.boot.s07Fails < 3 ∧ 3 ≤ three.boot.s07Fails ∧ s.recNewest = none ∧ limpNow s.countedNow = false ∧ u.recNewest = some (1, updRec0 3 0) ∧
      (u.updRec.tries < 3) ∧ e.stepDue 8 = true ∧ e.lcs' = 4 ∧ (fullHead (e.bankRd 0) e.lcs.otp).map (·.code) = some 1 ∧ e.boot.bankFail = none ∧
      other.boot.bankFail = some 1 ∧ (1 : Nat) ≠ 0 ∧
      limpNow [(16, 16), (16, 16), (16, 16)] = true ∧ limpNow [(16, 16), (15, 1), (16, 16), (9, 8)] = true ∧ limpNow [(16, 16), (15, 1), (16, 16), (0xFF, 0xFF)] = false ∧
      after (.flashAndUpdateRecord (some 9#16)) s (fun t => decide (t.boot.failed.map (·.detail) = some 9 ∧ t.boot.s07Fails = 1)) = true ∧
      after (.flashAndUpdateRecord (some 9#16)) three (fun t => t.boot.limp && t.boot.noLog && decide (t.boot.step = 7)) = true ∧
      after (.flashAndUpdateRecord none) s (fun t => decide (t.boot.failed.map (·.detail) = some 0xFFFF)) = true ∧
      after .imageSelectAndVerify (stStart 7 true false) (fun t => decide (t.boot.step = 8)) = true ∧
      after .imageSelectAndVerify e (fun t => decide (t.boot.bankFail = some 0 ∧ t.boot.failed.map (·.cause) = some 8)) = true ∧
      after .imageSelectAndVerify other (fun t => t.boot.limp && decide (t.boot.step = 8 ∧ t.boot.failed = none)) = true := by decide +kernel

theorem witness_StartsUseTheRecordTheImageAndTheirFallbacks_2 :
    let s := stStart 8 false false
    let im : State := { s with boot := { s.boot with bank := some 0 } }
    im.stepDue 9 = true ∧ (fullBody (im.bankRd 0) im.sec.root im.boot.vfsel).isSome = true ∧ (stKept 11 0#32).stepDue 12 = true ∧ (stKept 12 0#32).stepDue 13 = true ∧
      stShape.shp.memory.densA = 1 ∧ stLive.shp.memory.densA = 0 ∧ bit (stKept 11 2#32).boot.fallback 1 = true ∧ 0 ∈ (stKept 11 2#32).boot.train ∧
      1 ∉ (stKept 11 2#32).boot.train ∧ bit (stKept 12 0x10#32).boot.fallback 4 = true ∧
      after .shapeLoad im (fun t => decide (t.boot.failed.map (·.step) = some 9)) = true ∧
      after (.dramATraining none false false true true) (stKept 11 0#32) (fun t => decide (t.boot.step = 12 ∧ bits (t.reg (A.drcStat 0)) 10 9 = 0)) = true ∧
      after (.dramATraining (some 2) false false true true) (stKept 11 0#32) (fun t => decide (t.boot.failed.map (·.detail) = some 3)) = true ∧
      after (.dramATraining none true false true true) (stKept 11 2#32) (fun t => decide (bits (t.reg (A.drcStat 0)) 10 9 = 1)) = true ∧
      after (.dramATraining none false true true true) (stKept 11 2#32) (fun t => decide (bits (t.reg (A.drcStat 0)) 10 9 = 2 ∧ t.boot.fallback = 4#32)) = true ∧
      after (.dramBTraining none true false true true) (stKept 12 0x10#32) (fun t => bit t.boot.fallback 6) = true := by decide +kernel

/-- The quarantines `m` are kept; core 2 is the lowest spare one (Example 3-1 in small). -/
def stQuar (m : BitVec 64) : State :=
  let s := stStart 15 false true
  { s with boot := { s.boot with quar := m } }

theorem witness_StartsUseTheRecordTheImageAndTheirFallbacks_3 :
    let s := stStart 15 false true
    let q := stQuar (BitVec.allOnes 64)
    let p := (stKept 16 0#32)
    let p' : State := { p with shp := { p.shp with power := { p.shp.power with vcMax := 900, vcInit := 800 } } }
    let f : State := { p' with boot := { p'.boot with fallback := 0x80#32 } }
    s.stepDue 16 = true ∧ s.poundEmpty = false ∧ (s.core 1).st = .member ∧ (s.core 9).st ≠ .member ∧ q.applyQuar.poundEmpty = true ∧
      (stQuar 1#64).applyQuar.poundEmpty = false ∧ (stQuar 1#64).boot.quar = (1#64 <<< 0) ∧ ((stQuar 1#64).core 0).cfg = some pound0 ∧ ((stQuar 1#64).core 2).st = .spare ∧
      ((stQuar 1#64).core 1).st ≠ .spare ∧ p'.stepDue 17 = true ∧ p'.shp.power.vcMax < 1024 ∧ p'.shp.power.vcInit < 1024 ∧
      bit f.boot.fallback 7 = true ∧
      after (.coreSelfTestAndQuarantine (some 1)) s (fun t => decide (t.boot.failed.map (·.detail) = some 1)) = true ∧
      after (.coreSelfTestAndQuarantine (some 9)) s (fun t => decide (t.boot.step = 16)) = true ∧
      after (.coreSelfTestAndQuarantine none) (stQuar 1#64) (fun t => decide ((t.core 0).st = .quarantined ∧ (t.core 2).cfg = some pound0 ∧ t.pdState 2 = 2 ∧
        (t.core 3).st = .spare)) = true ∧
      after (.governorCalibration [[5#16]] none) p' (fun t => decide (bits (t.reg A.pwrVcore) 9 0 = 800 ∧ t.calAt 0 600 = 5)) = true ∧
      after (.governorCalibration [] (some 4)) p' (fun t => decide (t.boot.failed.map (·.cause) = some 0x11)) = true ∧
      after (.governorCalibration [] none) f (fun t => decide (bits (t.reg A.pwrVcore) 9 0 = 900) && bit (t.reg A.pwrVcore) 31) = true := by decide +kernel

theorem witness_StartsUseTheRecordTheImageAndTheirFallbacks_4 :
    let s := stStart 18 false true
    let r := stStart 19 false true
    let c : State := { r with boot := { r.boot with quar := (1#64 <<< 37), fallback := 0#32 } }
    let d := c.setCore 37 { Core.init with st := .quarantined }
    let l : State := { r with boot := { r.boot with limp := true } }
    s.stepDue 19 = true ∧ r.stepDue 20 = true ∧ r.boot.l0 = true ∧ (stStart 19 false false).boot.l0 = false ∧ d.time = 0 ∧ d.shp.fabric.period = 31250 ∧
      after (.secureWorldStart (some 4#16)) s (fun t => decide (t.boot.failed.map (·.detail) = some 4)) = true ∧
      after (.secureWorldStart (some 4#16)) (stStart 15 true true) (fun t => decide (t.boot.step = 19)) = true ∧
      after (.ready 104150#32 0#16 0#16) d (fun t => bit (t.reg A.bootStat) 5 && !bit (t.reg A.bootStat) 6 &&
        decide (t.reg (A.bootQuar 1) = 0x20#32 ∧ t.reg A.topCaps = 0x0003FF3F#32 ∧ t.reg A.bootElapsed = 104150#32)) = true ∧
      after (.ready 104150#32 0#16 0#16) d (fun t => t.tb.timer && decide (t.tb.cycStart = 31250#64 ∧ t.reg A.tbPeriod = 31250#32)) = true ∧
      after (.ready 0#32 0#16 0#16) l (fun t => decide (t.reg A.topCaps = 0x00040000#32)) = true := by decide +kernel

theorem witness_ResetsClearAndKeepWhatTheirTableLists :
    let s := (stKey 2 labelCycl 32).writeBytes (kData + 4) [7#8]
    let h := stStart 9 false true
    let held : State := { h with boot := { h.boot with held := true, running := false } }
    let wd : State := { s with sec := { s.sec with wdExpired := true } }
    let f : State := { s with tnt := { s.tnt with flr := true } }
    let v : State := { s with msix := { s.msix with pend := [(3, true)], unmasked := [(3, true)] } }
    s.boot.held = false ∧ held.boot.held = true ∧ wd.sec.wdExpired = true ∧ s.boot.step = 20 ∧ bits 0xA5C30001#32 31 16 = 0xA5C3 ∧
      s.bootKey 0x500#12 0xA5C30000#32 = .ok ∧ s.bootKey 0x500#12 0x15C30000#32 = .refusedRange ∧ s.bootKey 1#12 0#32 = .refusedRights ∧
      h.bootKey 0x500#12 0#32 = .refusedNotReady ∧ (stFailed 12 1).boot.failed.map (·.step) = some 12 ∧ f.tnt.flr = true ∧
      SMap.get (fun _ => false) v.msix.pend 3 = true ∧ SMap.get (fun _ => false) v.msix.unmasked 3 = true ∧
      after (.powerOnReset true) s (fun t => decide (t.boot.step = 0 ∧ t.sec.root = 9#256 ∧ t.sec.key = 0#256 ∧ t.slots = [] ∧
        t.readByte (kData + 4) = 7#8 ∧ t.readByte (kDram 64 + 0x100) = 0#8)) = true ∧
      after (.powerOnReset false) s (fun t => decide (t.sec.root = 0#256)) = true ∧
      after .perstAssert s (fun t => t.boot.held && decide (t.boot.step = 3 ∧ t.reg A.bootCause = 2#32)) = true ∧
      after .perstRelease held (fun t => t.boot.running && !t.boot.held) = true ∧
      after .secureWatchdogReset wd (fun t => decide (t.reg A.bootCause = 3#32 ∧ t.boot.step = 3)) = true ∧
      after (.softReset 0x500#12 0xA5C30001#32) s (fun t => decide (t.reg A.bootCause = 4#32)) = true ∧
      after (.softReset 0x500#12 0x15C30001#32) s (fun t => decide (t.reply.status = .refusedRange ∧ t.boot.step = 20)) = true ∧
      after (.retryAll 0x500#12 0xA5C30002#32) s (fun t => t.boot.retry) = true ∧
      after .internalRestart (stFailed 12 1) (fun t => decide (t.boot.fallback = 2#32 ∧ t.boot.step = 3) && t.boot.l0) = true ∧
      after .internalRestart (stFailed 16 37) (fun t => decide (t.boot.quar = (1#64 <<< 37) ∧ t.boot.fallback = 0#32)) = true ∧
      after .internalRestart (stFailed 8 1) (fun t => decide (t.boot.fallback = 1#32)) = true ∧
      after (.functionLevelReset true) s (fun t => t.tnt.flr && !t.boot.l0) = true ∧
      after .preReadyConfigRequest h (fun t => t.reply.retry) = true ∧
      after (.configurationWrite true true true false) h (fun t => t.reply.retry) = true ∧
      after (.configurationWrite true true true false) v (fun t => decide (t.msix.sent = [3])) = true ∧
      after (.configurationWrite true true true true) v (fun t => decide (t.msix.sent = [])) = true := by decide +kernel

/-- A unit in the state that `g` spells, with the grant `scope`. -/
def stTap (g : List (BitVec 3)) (scope : Option Nat) : State :=
  { stShape with lcs := { stShape.lcs with otp := { stShape.lcs.otp with groups := g }, grant := scope.map (fun x => (x, 1000)) } }

theorem witness_TheTestPortActsWithinItsRights_1 :
    let raw := stTap [0#3, 0#3, 0#3, 0#3, 0#3] none
    let prov := stTap [7#3, 0#3, 0#3, 0#3, 0#3] none
    let fld := stTap [7#3, 7#3, 7#3, 0#3, 0#3] none
    let g1 := stTap [7#3, 7#3, 7#3, 0#3, 0#3] (some 1)
    let scrap := stTap [7#3, 7#3, 7#3, 0#3, 7#3] none
    raw.lcs' = 1 ∧ prov.lcs' = 2 ∧ fld.lcs' = 4 ∧ scrap.lcs' = 6 ∧ raw.tapMay 1 = true ∧ prov.tapMay 0 = false ∧ fld.tapMay 2 = false ∧ g1.tapMay 0 = true ∧
      scrap.tapMay 2 = true ∧ scrap.tapMay 0 = false ∧ bits 0x0000FF00#32 27 8 ≠ 0 ∧ 4 ≤ raw.boot.step ∧ State.reset.boot.step < 4 ∧
      after .debugIdcode fld (fun t => decide (t.reply.value = 0xB6418B47#64)) = true ∧ after .idcode fld (fun t => decide (t.reply.value = 0xB6408B47#64)) = true ∧
      after (.bypass true) fld (fun t => decide (t.jtag.debugIr = 0xFF)) = true ∧
      after (.nmem (BitVec.ofNat 24 A.bootCause) false 0#32) g1 (fun t => decide (t.reply.status = .ok ∧ t.jtag.debugIr = 0x20)) = true ∧
      after (.nmem (BitVec.ofNat 24 A.bootCause) false 0#32) fld (fun t =>
        decide (t.reply.status = .refusedRights ∧ t.jtag.debugIr = 0xFF ∧ bits (t.reg A.lcsDebug) 7 3 = 1)) = true ∧
      after (.nmem (BitVec.ofNat 24 (A.evrPincfg 0)) true 0xFFFFFFFF#32) g1 (fun t =>
        decide (t.reg (A.evrPincfg 0) &&& 0x0FFFFF03#32 = 0x0FFFFF03#32)) = true ∧
      after (.smem 0x800020#24 true 5#32) raw (fun t => decide (t.reg (A.secHoldpd 0) = 5#32)) = true ∧
      after (.smem 0x800020#24 true 5#32) g1 (fun t => decide (t.reg (A.secHoldpd 0) = 0#32)) = true := by decide +kernel

theorem witness_TheTestPortActsWithinItsRights_2 :
    let s := (stTap [0#3, 0#3, 0#3, 0#3, 0#3] none).setSlot 0 { Slot.init with thread := some 3 }
    let h := s.setSlot 0 { Slot.init with thread := some 3, halted := true }
    let fld := stTap [7#3, 7#3, 7#3, 0#3, 0#3] none
    s.tapMay 2 = true ∧ fld.tapMay 2 = false ∧ (0#6).toNat * 8 + (0#3).toNat = 0 ∧
      after (.ncoreHalt 0#6 0#3 24#5) s (fun t => (t.slot 0).halted && decide ((t.slot 0).thread = some 3)) = true ∧
      after (.ncoreStep 0#6 0#3 24#5) h (fun t => (t.slot 0).stepOne) = true ∧
      after (.ncoreResume 0#6 0#3 24#5) h (fun t => !(t.slot 0).halted) = true ∧
      after (.scoreHalt 2 5#5) s (fun t => (t.slot 514).halted && !(t.slot 513).halted) = true ∧
      after (.ncoreHalt 0#6 0#3 24#5) fld (fun t => !(t.slot 0).halted) = true ∧
      after (.extest 5#358) s (fun t => t.pinsTaken && decide (t.jtag.scanReg = 5#358)) = true ∧
      after (.samplePreload 9#358 5#358) s (fun t => !t.pinsTaken && decide (t.jtag.scanOut = 9#358)) = true ∧
      after (.intest 5#358) fld (fun t => !t.pinsTaken && decide (t.jtag.scanIr = 0x1F)) = true ∧
      after .clamp s (fun t => t.pinsTaken) = true ∧ after .highz s (fun t => decide (t.jtag.scanIr = 5)) = true ∧
      after .testLogicReset s (fun t => decide (t.jtag.scanIr = 2 ∧ t.jtag.debugIr = 1)) = true := by decide +kernel

end Sys2Proof.Machine
end

section
/-! SUPPORT. What every operation of the block leaves alone: no operation adds, drops or reorders the commands that
wait, and each keeps the canonical form of memory. One rule for each operation carries `Kept` over it, from the shared
operations up to the commands; each rule cites the rules of the operations that its own calls. `exec_goes` then says
of every command that it answers a next state that keeps both (section 0.5, R16, Table 0-5). -/

namespace Sys2Proof.Machine

/-- What every operation of the block keeps: the commands that wait, and the canonical form of memory. -/
def Kept (s t : State) : Prop := t.pending = s.pending ∧ (Memory.wf s.mem = true → Memory.wf t.mem = true)

/-- A command answers a next state that keeps what every operation keeps. -/
def Goes (s : State) (o : Host.Outcome State Fault Refusal) : Prop := ∃ t, o = .next t ∧ Kept s t

section
variable {s₀ s : State}

theorem Kept.refl (s : State) : Kept s s := ⟨rfl, id⟩

theorem Kept.trans {t : State} (h : Kept s₀ s) (k : Kept s t) : Kept s₀ t := ⟨k.1.trans h.1, fun w => k.2 (h.2 w)⟩

/-- An update of any fields but memory and the queue. -/
theorem Kept.update {regs : SMap W32} {shadow : SMap (Option W32)} {ctr : SMap W64} {latch : SMap W32}
    {slots : SMap Slot} {cores : SMap Core} {lk : Lk} {tb : Tb} {evr : Evr} {msix : Msix} {shp : Shp} {flt : Flt}
    {drc : SMap DramCh} {sau : Sau} {bsn : Bsn} {tbl : Tbl} {prt : Prt} {brg : Brg} {sec : Sec} {lcs : Lcs}
    {jtag : Jtag} {boot : Boot} {pwr : Pwr} {uni : Uni} {tnt : Tnt} {ful : Ful} {shf : Shf} {stb : Stb} {free : Nat}
    {once : List Nat} {reply : Reply} (hs : Kept s₀ s) :
    Kept s₀ (State.mk regs shadow ctr latch s.mem slots cores lk tb evr msix shp flt drc sau bsn tbl prt brg sec lcs
      jtag boot pwr uni tnt ful shf stb free once reply s.pending) := hs

theorem Kept.foldl {α : Type} {f : State → α → State} (hs : Kept s₀ s) (l : List α)
    (hf : ∀ u x, Kept s₀ u → Kept s₀ (f u x)) : Kept s₀ (l.foldl f s) := by
  induction l generalizing s with
  | nil => exact hs
  | cons x l ih => exact ih (hf s x hs)

theorem Goes.next (hs : Kept s₀ s) : Goes s₀ (.next s) := ⟨s, rfl, hs⟩

theorem Kept.ite {c : Prop} [Decidable c] {a b : State} (ha : Kept s₀ a) (hb : Kept s₀ b) :
    Kept s₀ (if c then a else b) := by
  split
  · exact ha
  · exact hb

/-- A fold that carries a value beside the state. -/
theorem Kept.foldlSnd {α β : Type} {f : β × State → α → β × State} {p : β × State} (hs : Kept s₀ p.2) (l : List α)
    (hf : ∀ q x, Kept s₀ q.2 → Kept s₀ (f q x).2) : Kept s₀ (l.foldl f p).2 := by
  induction l generalizing p with
  | nil => exact hs
  | cons x l ih => exact ih (hf p x hs)

theorem Kept.event {t : State} (hs : Kept s₀ s) (h : EventFrame s t) : Kept s₀ t :=
  hs.trans ⟨h.pending, fun w => by rw [h.mem]; exact w⟩

theorem Goes.ite {c : Prop} [Decidable c] {a b : Host.Outcome State Fault Refusal} (ha : Goes s₀ a) (hb : Goes s₀ b) :
    Goes s₀ (if c then a else b) := by
  split
  · exact ha
  · exact hb

/-! ### Shared operations -/

theorem Kept.setReg (hs : Kept s₀ s) (a : Nat) (v : W32) : Kept s₀ (s.setReg a v) := hs.update

theorem Kept.setFld (hs : Kept s₀ s) (a hi lo v : Nat) : Kept s₀ (s.setFld a hi lo v) := hs.setReg _ _

theorem Kept.countBy (hs : Kept s₀ s) (a n : Nat) : Kept s₀ (s.countBy a n) := hs.update

theorem Kept.count (hs : Kept s₀ s) (a : Nat) : Kept s₀ (s.count a) := hs.countBy _ _

theorem Kept.answer (hs : Kept s₀ s) (st : Status) (v : W64) : Kept s₀ (s.answer st v) := hs.update

theorem Kept.status (hs : Kept s₀ s) (st : Status) : Kept s₀ (s.status st) := hs.answer _ _

theorem Kept.fresh (hs : Kept s₀ s) : Kept s₀ s.fresh.2 := hs.update

theorem Kept.writeByte (hs : Kept s₀ s) (k : Nat) (v : Byte) : Kept s₀ (s.writeByte k v) :=
  hs.trans ⟨rfl, State.writeByte_wf s k v⟩

theorem Kept.writeBytes (hs : Kept s₀ s) (k : Nat) (bs : List Byte) : Kept s₀ (s.writeBytes k bs) :=
  hs.trans ⟨rfl, State.writeBytes_wf s k bs⟩

theorem Kept.writeLE (hs : Kept s₀ s) (k n v : Nat) : Kept s₀ (s.writeLE k n v) := hs.writeBytes _ _

theorem Kept.advance (hs : Kept s₀ s) (t : Nat) : Kept s₀ (s.advance t) := .ite hs.update hs

theorem Kept.setSlot (hs : Kept s₀ s) (w : Nat) (x : Slot) : Kept s₀ (s.setSlot w x) := hs.update

theorem Kept.setCore (hs : Kept s₀ s) (c : Nat) (x : Core) : Kept s₀ (s.setCore c x) := hs.update

theorem Kept.setThread (hs : Kept s₀ s) (n : Nat) (x : Thread) : Kept s₀ (s.setThread n x) := hs.update

theorem Kept.setFrame (hs : Kept s₀ s) (k : Nat) (x : Option Frame) : Kept s₀ (s.setFrame k x) := hs.update

theorem Kept.setTokens (hs : Kept s₀ s) (t : Nat) (q : List Token) : Kept s₀ (s.setTokens t q) := hs.update

theorem Kept.reserve (hs : Kept s₀ s) (t : Nat) : Kept s₀ (s.reserve t) := .ite hs.update hs.update

theorem Kept.matching (hs : Kept s₀ s) : Kept s₀ s.matching := hs.event (frame_matching s)

theorem Kept.enqueue (hs : Kept s₀ s) (t : Nat) (k : Token) : Kept s₀ (s.enqueue t k) := hs.event (frame_enqueue s t k)

theorem Kept.sendMsix (hs : Kept s₀ s) (v : Nat) : Kept s₀ (s.sendMsix v) := hs.event (frame_sendMsix s v)

theorem Kept.postQuiet (hs : Kept s₀ s) (t : Nat) (v : W32) (st : Status) : Kept s₀ (s.postQuiet t v st).2 :=
  hs.event (frame_postQuiet s t v st)

theorem Kept.tokenWatch (hs : Kept s₀ s) (before : W64) : Kept s₀ (s.tokenWatch before) :=
  hs.event (frame_tokenWatch s before)

theorem Kept.raise (hs : Kept s₀ s) (e : Nat) : Kept s₀ (s.raise e) := hs.event (frame_raise s e)

theorem Kept.raiseFirst (hs : Kept s₀ s) (e : Nat) : Kept s₀ (s.raiseFirst e) := hs.event (frame_raiseFirst s e)

theorem Kept.post (hs : Kept s₀ s) (t : Nat) (v : W32) (st : Status) : Kept s₀ (s.post t v st).2 :=
  hs.event (frame_post s t v st)

theorem Kept.postReserved (hs : Kept s₀ s) (t : Nat) (v : W32) (st : Status) : Kept s₀ (s.postReserved t v st) :=
  hs.event (frame_postReserved s t v st)

theorem Kept.postArrival (hs : Kept s₀ s) (pound ticket : Nat) : Kept s₀ (s.postArrival pound ticket).2 :=
  hs.event (frame_postArrival s pound ticket)

theorem Kept.logHost (hs : Kept s₀ s) (off : Nat) (st : Status) (bar2 write : Bool) (ag : Agent) :
    Kept s₀ (s.logHost off st bar2 write ag) :=
  hs.event (frame_logHost s off st bar2 write ag)

theorem Kept.refuse (hs : Kept s₀ s) (ag : Agent) (a : Nat) (st : Status) : Kept s₀ (s.refuse ag a st) :=
  (Kept.ite ((Kept.ite (hs.setReg _ _) hs).logHost _ _ _ _ _) (.ite (hs.setReg _ _) hs)).status _

theorem Kept.postOr (hs : Kept s₀ s) (t : Nat) (v : W32) (st : Status) (later : State → State)
    (hlater : ∀ u, Kept s₀ u → Kept s₀ (later u)) : Kept s₀ (s.postOr t v st later) := by
  have hp := hs.post t v st
  unfold State.postOr
  split
  next h => exact hlater _ (by rwa [h] at hp)
  next h => rwa [h] at hp

theorem Kept.repost (hs : Kept s₀ s) (r : Retry) : Kept s₀ (s.repost r).2 := hs.post _ _ _

theorem kept_repostAll (hs : Kept s₀ s) (l : List Retry) : Kept s₀ (repostAll l s).2.2 := by
  induction l generalizing s with
  | nil => exact hs
  | cons r rest ih => exact ih (hs.repost r)

theorem Kept.setShadow (hs : Kept s₀ s) (a : Nat) (v : W32) : Kept s₀ (s.setShadow a v) := hs.update

theorem Kept.armNow (hs : Kept s₀ s) (g : Nat) : Kept s₀ (s.armNow g) := hs.setReg _ _

theorem Kept.noteDelayed (hs : Kept s₀ s) (g : Nat) : Kept s₀ (s.noteDelayed g) :=
  ((hs.setFld _ _ _ _).setFld _ _ _ _).raiseFirst _

theorem Kept.hwArm (hs : Kept s₀ s) (g : Nat) : Kept s₀ (s.hwArm g) := .ite (hs.update.noteDelayed _) (hs.armNow _)

/-! ### Operand forms -/

theorem Kept.land (hs : Kept s₀ s) (w : Nat) (ws : List PWrite) : Kept s₀ (s.land w ws) := hs.update.setSlot _ _

theorem Kept.landAll (hs : Kept s₀ s) (w : Nat) : Kept s₀ (s.landAll w) := (hs.land _ _).setSlot _ _

theorem Kept.retire (hs : Kept s₀ s) (w : Nat) (d1 d2 : List PWrite) (next : W32) : Kept s₀ (s.retire w d1 d2 next) :=
  (hs.land _ _).setSlot _ _

theorem Kept.hold (hs : Kept s₀ s) (w : Nat) (ws : List PWrite) (submit : Option UnitReq) (addr : Option (W32 × Nat))
    (cluster : Bool) (next : W32) : Kept s₀ (s.hold w ws submit addr cluster next) :=
  hs.setSlot _ _

/-! ### Power domains -/

theorem Kept.setPd (hs : Kept s₀ s) (d v : Nat) : Kept s₀ (s.setPd d v) := hs.setFld _ _ _ _

theorem Kept.pdSwitch (hs : Kept s₀ s) (d target : Nat) : Kept s₀ (s.pdSwitch d target) := hs.update.setPd _ _

theorem Kept.hwSwitch (hs : Kept s₀ s) (d target : Nat) : Kept s₀ (s.hwSwitch d target) := .ite hs (hs.pdSwitch _ _)

/-! ### The host link -/

theorem Kept.setTenant (hs : Kept s₀ s) (t : Nat) (x : Tenant) : Kept s₀ (s.setTenant t x) := hs.update

theorem Kept.setQp (hs : Kept s₀ s) (t q : Nat) (x : Option Qp) : Kept s₀ (s.setQp t q x) :=
  (hs.setTenant _ _).setFld _ _ _ _

theorem Kept.setTenantState (hs : Kept s₀ s) (t v : Nat) : Kept s₀ (s.setTenantState t v) :=
  .ite hs ((hs.setFld _ _ _ _).raise _)

theorem Kept.nextGen (hs : Kept s₀ s) (t : Nat) : Kept s₀ (s.nextGen t) := hs.setFld _ _ _ _

theorem Kept.tntCount (hs : Kept s₀ s) (t i n : Nat) : Kept s₀ (s.tntCount t i n) := (hs.countBy _ _).countBy _ _

theorem Kept.failQp (hs : Kept s₀ s) (t q : Nat) : Kept s₀ (s.failQp t q) := .ite hs ((hs.setFld _ _ _ _).raise _)

theorem Kept.logTerr (hs : Kept s₀ s) (t o : Nat) (st : Status) : Kept s₀ (s.logTerr t o st) := (hs.setReg _ _).status _

theorem Kept.armedMsix (hs : Kept s₀ s) (t q : Nat) : Kept s₀ (s.armedMsix t q) := by
  dsimp only [State.armedMsix]
  split
  · split
    · exact (hs.setFld _ _ _ _).sendMsix _
    · exact hs
  · exact hs

theorem Kept.writeCpl (hs : Kept s₀ s) (t q : Nat) (c : Cpl) : Kept s₀ (s.writeCpl t q c) := by
  dsimp only [State.writeCpl]
  split
  · exact hs
  · exact .ite ((hs.tntCount _ _ _).raiseFirst _) (.ite (hs.tntCount _ _ _)
      (.ite (hs.failQp _ _) (((hs.writeBytes _ _).setQp _ _ _).armedMsix _ _)))

theorem Kept.notice (hs : Kept s₀ s) (t q : Nat) : Kept s₀ (s.notice t q) := by
  unfold State.notice
  split
  · exact hs
  · exact .ite (hs.writeCpl _ _ _) (hs.tntCount _ _ _)

theorem Kept.regionLost (hs : Kept s₀ s) (lost : List Nat) : Kept s₀ (s.regionLost lost) :=
  hs.foldl _ fun _ _ h => .ite ((h.setFld _ _ _ _).foldl _ fun _ _ k => k.notice _ _) h

theorem Kept.mapCopies (hs : Kept s₀ s) (x c : Nat) (f : Desc → Desc) : Kept s₀ (s.mapCopies x c f) := hs.update

theorem Kept.promoteCopies (hs : Kept s₀ s) (x c : Nat) : Kept s₀ (s.promoteCopies x c) := hs.mapCopies _ _ _

theorem Kept.refuseCopies (hs : Kept s₀ s) (x c : Nat) : Kept s₀ (s.refuseCopies x c) := hs.mapCopies _ _ _

theorem Kept.queueHost (hs : Kept s₀ s) (e hostq : Nat) (result : List W32) (live : Nat → Bool) :
    Kept s₀ (s.queueHost e hostq result live).2 := by
  unfold State.queueHost
  split
  · exact (hs.count _).raiseFirst _
  · split
    · exact hs.tntCount _ _ _
    · exact hs.setQp _ _ _

/-! ### The DRAM controller -/

theorem Kept.setCh (hs : Kept s₀ s) (x : Nat) (c : DramCh) : Kept s₀ (s.setCh x c) := hs.update

theorem Kept.dramWrite (hs : Kept s₀ s) (x c : Nat) (bs : List Byte) : Kept s₀ (s.dramWrite x c bs) :=
  hs.trans ⟨rfl, State.dramWrite_wf s x c bs⟩

theorem Kept.dramEnter (hs : Kept s₀ s) (x : Nat) (ag : Agent) (cls c n : Nat) (write locked : Bool) :
    Kept s₀ (s.dramEnter x ag cls c n write locked) :=
  .ite ((hs.setCh _ _).setFld _ _ _ _) (((hs.setCh _ _).count _).raiseFirst _)

theorem Kept.touchLine (hs : Kept s₀ s) (k : Nat) (write : Bool) : Kept s₀ (s.touchLine k write) := by
  dsimp only [State.touchLine]
  split
  · exact hs.update
  · exact hs

theorem Kept.dramAccess (hs : Kept s₀ s) (x : Nat) (ag : Agent) (c n : Nat) (write locked : Bool) :
    Kept s₀ (s.dramAccess x ag c n write locked) := by
  unfold State.dramAccess
  split
  · exact hs.touchLine _ _
  · exact hs.dramEnter _ _ _ _ _ _ _

theorem goes_execDramRequestStart (hs : Kept s₀ s) (x : Fin 2) : Goes s₀ (execDramRequestStart x s) := by
  dsimp only [execDramRequestStart]
  split
  · exact .next hs
  · exact .next (.ite (((hs.setCh _ _).setFld _ _ _ _).count _) ((hs.setCh _ _).setFld _ _ _ _))

theorem Kept.poisonAt (hs : Kept s₀ s) (x c : Nat) : Kept s₀ (s.poisonAt x c) :=
  (((hs.setCh _ _).count _).setReg _ _).raise _

theorem Kept.correctAt (hs : Kept s₀ s) (x : Nat) : Kept s₀ (s.correctAt x) := (hs.count _).raiseFirst _

theorem Kept.refuseRead (hs : Kept s₀ s) (ag : Agent) : Kept s₀ (s.refuseRead ag) := by
  dsimp only [State.refuseRead]
  split
  · exact hs
  · split
    · exact hs
    · exact hs.setSlot _ _

theorem goes_execDramRequestComplete (hs : Kept s₀ s) (x : Fin 2) (ecc : Fin 3) :
    Goes s₀ (execDramRequestComplete x ecc s) := by
  unfold execDramRequestComplete
  split
  · exact .next hs
  · have hc : ∀ c n, Kept s₀ ((s.setCh x c).count n) := fun c n => (hs.setCh _ _).count _
    grind [Kept.setReg, Kept.setFld, Kept.refuseCopies, Kept.poisonAt, Kept.correctAt, Kept.refuseRead, Goes.next]

theorem goes_execRequestPromotion (hs : Kept s₀ s) (x : Fin 2) (k : Fin 64) : Goes s₀ (execRequestPromotion x k s) := by
  dsimp only [execRequestPromotion]
  split
  · exact .next hs
  · exact .ite (.next hs) (.next (((Kept.ite (((hs.advance _).setCh _ _).promoteCopies _ _)
      ((hs.advance _).setCh _ _)).count _).raiseFirst _))

theorem goes_execRefreshPerBank (hs : Kept s₀ s) (x : Fin 2) (bank : Fin 16) : Goes s₀ (execRefreshPerBank x bank s) :=
  .ite (.next (hs.setCh _ _)) (.next (hs.setCh _ _))

theorem goes_execForcedRefresh (hs : Kept s₀ s) (x : Fin 2) (bank : Fin 16) : Goes s₀ (execForcedRefresh x bank s) :=
  .ite (.next hs) (.next (((hs.setCh _ _).count _).raiseFirst _))

theorem goes_execMr4Poll (hs : Kept s₀ s) (x : Fin 2) (rate : Fin 3) (hot : Bool) :
    Goes s₀ (execMr4Poll x rate hot s) :=
  .next (.ite ((Kept.ite (hs.setFld _ _ _ _) ((hs.setFld _ _ _ _).raise _)).raise _)
    (.ite (hs.setFld _ _ _ _) ((hs.setFld _ _ _ _).raise _)))

theorem goes_execZqCalibrationStart (hs : Kept s₀ s) (x : Fin 2) : Goes s₀ (execZqCalibrationStart x s) :=
  .ite (.next (hs.setCh _ _)) (.next hs)

theorem goes_execZqLatch (hs : Kept s₀ s) (x : Fin 2) (inRange : Bool) : Goes s₀ (execZqLatch x inRange s) :=
  .ite (.next (.ite (hs.setCh _ _) ((hs.setCh _ _).raise _))) (.next hs)

theorem goes_execSelfRefreshAutoEntry (hs : Kept s₀ s) (x : Fin 2) : Goes s₀ (execSelfRefreshAutoEntry x s) :=
  .ite (.next (((hs.advance _).setFld _ _ _ _).raise _)) (.next hs)

theorem goes_execSelfRefreshExit (hs : Kept s₀ s) (x : Fin 2) : Goes s₀ (execSelfRefreshExit x s) :=
  .ite (.next (hs.setCh _ _)) (.next hs)

theorem goes_execSrAutoExitComplete (hs : Kept s₀ s) (x : Fin 2) : Goes s₀ (execSrAutoExitComplete x s) :=
  .ite (.next (((hs.setCh _ _).setFld _ _ _ _).raise _)) (.next hs)

theorem goes_execSrEnter (hs : Kept s₀ s) (ag : Agent) (x : Fin 2) (mask : BitVec 16) :
    Goes s₀ (execSrEnter ag x mask s) := by
  unfold execSrEnter
  split
  · exact .next (hs.refuse _ _ _)
  split
  · exact .next (hs.refuse _ _ _)
  simp only
  split
  · exact .next ((((((hs.setFld _ _ _ _).setFld _ _ _ _).setReg _ _).setCh _ _).raise _).status _)
  · exact .next ((hs.setFld _ _ _ _).status _)

theorem goes_execSrHeldEntered (hs : Kept s₀ s) (x : Fin 2) : Goes s₀ (execSrHeldEntered x s) := by
  unfold execSrHeldEntered
  have hr : ∀ c l, Kept s₀ ((((s.setCh x c).setFld (A.drcStat x) 2 0 3).setReg A.drcLost l).raise (drcEvent x 8)) :=
    fun c l => (((hs.setCh _ _).setFld _ _ _ _).setReg _ _).raise _
  grind [Kept.raise, Kept.regionLost, Goes.next]

theorem goes_execSrExit (hs : Kept s₀ s) (ag : Agent) (x : Fin 2) : Goes s₀ (execSrExit ag x s) :=
  .ite (.next (hs.refuse _ _ _)) (.ite (.next (hs.refuse _ _ _))
    (.ite (.next (((hs.setFld _ _ _ _).setCh _ _).status _)) (.next ((hs.setFld _ _ _ _).status _))))

theorem Kept.ringsLost (hs : Kept s₀ s) (lost : List Nat) : Kept s₀ (s.ringsLost lost) :=
  .ite hs (hs.foldl _ fun _ _ h => (h.setReg _ _).setReg _ _).update

theorem goes_execSrExitComplete (hs : Kept s₀ s) (x : Fin 2) : Goes s₀ (execSrExitComplete x s) :=
  .ite (.next (((((hs.setCh _ _).setFld _ _ _ _).setReg _ _).ringsLost _).raise _)) (.next hs)

theorem Kept.zeroDram (hs : Kept s₀ s) (x c n : Nat) : Kept s₀ (s.zeroDram x c n) := by
  induction n generalizing s with
  | zero => exact hs
  | succ n ih => exact ih (hs.writeByte _ _)

theorem goes_execZeroFillComplete (hs : Kept s₀ s) (x : Fin 2) (r : Fin 32) : Goes s₀ (execZeroFillComplete x r s) := by
  unfold execZeroFillComplete
  simp only
  split
  · have h2 := fun d c => (hs.zeroDram x d c).setCh x
    grind [Kept.setFld, Kept.raise, Goes.next]
  · exact .next hs

theorem goes_execScrubRead (hs : Kept s₀ s) (x : Fin 2) (ecc : Fin 3) : Goes s₀ (execScrubRead x ecc s) := by
  dsimp only [execScrubRead]
  split
  · split
    · exact .next (hs.setCh _ _)
    · exact .next (.ite ((hs.setCh _ _).correctAt _) (.ite ((hs.setCh _ _).poisonAt _ _) (hs.setCh _ _)))
  · exact .next hs

/-! ### Regions, stores to shared SRAM and watch slots -/

theorem Kept.watchFire (hs : Kept s₀ s) (w : Nat) (v : W32) : Kept s₀ (s.watchFire w v) :=
  .ite ((Kept.ite ((((hs.setReg _ _).setReg _ _).count _).postOr _ _ _ _ (fun _ h => h.update))
    (((hs.setReg _ _).setReg _ _).count _)).raise _)
    (.ite ((((hs.setReg _ _).setReg _ _).count _).postOr _ _ _ _ (fun _ h => h.update))
    (((hs.setReg _ _).setReg _ _).count _))

theorem kept_watchChange (hs : Kept s₀ s) (tgt old new : W32) (ws : List Nat) :
    Kept s₀ (watchChange tgt old new ws s) := by
  induction ws generalizing s with
  | nil => exact hs
  | cons w rest ih => exact ih (.ite (hs.watchFire w new) hs)

theorem kept_watchWords (hs : Kept s₀ s) (ws : List Nat) (l : List (Nat × W32)) : Kept s₀ (watchWords ws l s) := by
  induction l generalizing s with
  | nil => exact hs
  | cons p rest ih => exact ih (kept_watchChange hs _ _ _ ws)

theorem Kept.sramWrite (hs : Kept s₀ s) (o : Nat) (bs : List Byte) : Kept s₀ (s.sramWrite o bs) :=
  .ite hs (.ite (hs.writeBytes _ _) (kept_watchWords (hs.writeBytes _ _) _ _))

theorem Kept.sramAtomic (hs : Kept s₀ s) (o func n x c : Nat) : Kept s₀ (s.sramAtomic o func n x c).2 :=
  hs.sramWrite _ _

theorem Kept.dramAtomic (hs : Kept s₀ s) (ch a func n x c : Nat) (ag : Agent) :
    Kept s₀ (s.dramAtomic ch a func n x c ag).2 :=
  (hs.dramAccess _ _ _ _ _ _).dramWrite _ _ _

/-! ### Semaphores and atomics -/

theorem Kept.refuseGroup (hs : Kept s₀ s) (ag : Agent) (a : Nat) (st : Status) : Kept s₀ (s.refuseGroup ag a st) :=
  .ite (((hs.refuse _ _ _).raiseFirst _).raise _) ((hs.refuse _ _ _).raiseFirst _)

theorem Kept.setSem (hs : Kept s₀ s) (n : Nat) (v tags : W32) : Kept s₀ (s.setSem n v tags) :=
  kept_watchChange ((hs.setReg _ _).setReg _ _) _ _ _ _

theorem Kept.claim (hs : Kept s₀ s) (ag : Agent) (n : Nat) (tag : Nat) : Kept s₀ (s.claim ag n tag).2 := by
  dsimp only [State.claim]
  split
  · exact (hs.setSem _ _ _).count _
  · split
    · exact hs
    · exact hs.count _

theorem goes_execSemaphoreClaim (hs : Kept s₀ s) (ag : Agent) (n : Fin 512) (v : W32) :
    Goes s₀ (execSemaphoreClaim ag n v s) :=
  .ite (.next (hs.refuse _ _ _)) (.ite (.next ((hs.claim _ _ _).status _)) (.next ((hs.count _).refuseGroup _ _ _)))

theorem goes_execSemaphoreRelease (hs : Kept s₀ s) (ag : Agent) (n : Fin 512) : Goes s₀ (execSemaphoreRelease ag n s) :=
  .ite (.next ((hs.setSem _ _ _).status _)) (.next (hs.refuse _ _ _))

theorem goes_execSemaphoreAcknowledge (hs : Kept s₀ s) (ag : Agent) (n : Fin 512) :
    Goes s₀ (execSemaphoreAcknowledge ag n s) :=
  .ite (.next ((hs.setSem _ _ _).status _)) (.next (hs.refuse _ _ _))

theorem Kept.abandon (hs : Kept s₀ s) (n : Nat) : Kept s₀ (s.abandon n) := hs.setSem _ _ _

theorem goes_execForceRelease (hs : Kept s₀ s) (ag : Agent) (n : Fin 512) : Goes s₀ (execForceRelease ag n s) :=
  .ite (.next (((((hs.setFld _ _ _ _).abandon _).setReg _ _).raise _).status _))
    (.ite (.next ((hs.setFld _ _ _ _).refuse _ _ _)) (.next ((hs.setFld _ _ _ _).status _)))

theorem goes_execGroupWrite (hs : Kept s₀ s) (ag : Agent) (g : Fin 32) (v : W32) : Goes s₀ (execGroupWrite ag g v s) :=
  .ite (.next ((hs.setReg _ _).status _)) (.next (hs.refuse _ _ _))

theorem Kept.semDeath (hs : Kept s₀ s) (ag : Agent) (event n : Nat) : Kept s₀ (s.semDeath ag event n) :=
  .ite (((((hs.setReg _ _).count _).setSem _ _ _).setReg _ _).raise _) ((((hs.setReg _ _).count _).abandon _).raise _)

theorem Kept.agentDies (hs : Kept s₀ s) (ag : Agent) (event : Nat) : Kept s₀ (s.agentDies ag event) :=
  hs.foldl _ fun _ _ h => h.semDeath _ _ _

theorem Kept.disarmAgent (hs : Kept s₀ s) (ag : Agent) : Kept s₀ (s.disarmAgent ag) :=
  hs.foldl _ fun _ _ h => h.setFld _ _ _ _

theorem goes_execWatchArm (hs : Kept s₀ s) (ag : Agent) (w : Fin 64) (v : W32) : Goes s₀ (execWatchArm ag w v s) :=
  .ite (.next (hs.refuse _ _ _)) (.ite (.next ((Kept.ite
    ((((hs.setFld _ _ _ _).setReg _ _).setFld _ _ _ _).watchFire _ _)
    (((hs.setFld _ _ _ _).setReg _ _).setFld _ _ _ _)).status _))
    (.ite (.next ((hs.setFld _ _ _ _).refuse _ _ _)) (.next ((hs.setFld _ _ _ _).status _))))

theorem goes_execWatchDisarm (hs : Kept s₀ s) (ag : Agent) (w : Fin 64) (v : W32) :
    Goes s₀ (execWatchDisarm ag w v s) :=
  .ite (.next (hs.refuse _ _ _)) (.ite (.next ((hs.setFld _ _ _ _).status _)) (.next ((hs.setReg _ _).status _)))

theorem goes_execWatchTokenRetry (hs : Kept s₀ s) : Goes s₀ (execWatchTokenRetry s) :=
  .next (.ite (((kept_repostAll hs _).update).raise _) ((kept_repostAll hs _).update))

theorem Kept.setAres (hs : Kept s₀ s) (ag : Agent) (v : Nat) : Kept s₀ (s.setAres ag v) :=
  hs.foldl _ fun _ _ h => h.setReg _ _

theorem Kept.hostAtomic (hs : Kept s₀ s) (ag : Agent) (func size : Nat) : Kept s₀ (s.hostAtomic ag func size) := by
  unfold State.hostAtomic
  grind [Kept.setReg, Kept.count, Kept.status, Kept.raiseFirst, Kept.refuse, Kept.sramAtomic, Kept.dramAtomic,
    Kept.setAres]

theorem goes_execHostAtomicFadd (hs : Kept s₀ s) (ag : Agent) (size : BitVec 2) :
    Goes s₀ (execHostAtomicFadd ag size s) :=
  .next (hs.hostAtomic _ _ _)

theorem goes_execHostAtomicSwap (hs : Kept s₀ s) (ag : Agent) (size : BitVec 2) :
    Goes s₀ (execHostAtomicSwap ag size s) :=
  .next (hs.hostAtomic _ _ _)

theorem goes_execHostAtomicCas (hs : Kept s₀ s) (ag : Agent) (size : BitVec 2) :
    Goes s₀ (execHostAtomicCas ag size s) :=
  .next (hs.hostAtomic _ _ _)

theorem goes_execHostAtomicMin (hs : Kept s₀ s) (ag : Agent) (size : BitVec 2) :
    Goes s₀ (execHostAtomicMin ag size s) :=
  .next (hs.hostAtomic _ _ _)

theorem goes_execHostAtomicMax (hs : Kept s₀ s) (ag : Agent) (size : BitVec 2) :
    Goes s₀ (execHostAtomicMax ag size s) :=
  .next (hs.hostAtomic _ _ _)

theorem goes_execHostAtomicMinu (hs : Kept s₀ s) (ag : Agent) (size : BitVec 2) :
    Goes s₀ (execHostAtomicMinu ag size s) :=
  .next (hs.hostAtomic _ _ _)

theorem goes_execHostAtomicMaxu (hs : Kept s₀ s) (ag : Agent) (size : BitVec 2) :
    Goes s₀ (execHostAtomicMaxu ag size s) :=
  .next (hs.hostAtomic _ _ _)

theorem goes_execHostAtomicWadd (hs : Kept s₀ s) (ag : Agent) (size : BitVec 2) :
    Goes s₀ (execHostAtomicWadd ag size s) :=
  .next (hs.hostAtomic _ _ _)

/-! ### The layout of barges -/

theorem Kept.setOut (hs : Kept s₀ s) (n : Nat) (o : OutBarge) : Kept s₀ (s.setOut n o) := hs.update

/-! ### The basin -/

theorem Kept.setTag (hs : Kept s₀ s) (p t : Nat) : Kept s₀ (s.setTag p t) := hs.update

theorem Kept.setLink (hs : Kept s₀ s) (p l : Nat) : Kept s₀ (s.setLink p l) := hs.update

theorem Kept.setHead (hs : Kept s₀ s) (p : Nat) (h : Bool) : Kept s₀ (s.setHead p h) := hs.update

theorem Kept.bufWrite (hs : Kept s₀ s) (w i : Nat) (bs : List Byte) : Kept s₀ (s.bufWrite w i bs) :=
  hs.trans ⟨rfl, State.bufWrite_wf s w i bs⟩

theorem Kept.lowWater (hs : Kept s₀ s) (a before : Nat) : Kept s₀ (s.lowWater a before) := .ite (hs.raise _) hs

theorem Kept.takeElem (hs : Kept s₀ s) (a e : Nat) {p : Nat} {u : State} (hu : s.takeElem a e = some (p, u)) :
    Kept s₀ u := by
  unfold State.takeElem at hu
  grind [Kept.count, Kept.setTag, Kept.lowWater, Kept.update]

theorem Kept.pushFree (hs : Kept s₀ s) (a p : Nat) : Kept s₀ (s.pushFree a p) := (hs.setTag _ _).update

theorem Kept.holdBerth (hs : Kept s₀ s) (n w : Nat) : Kept s₀ (s.holdBerth n w) :=
  .ite (((hs.setOut _ _).setReg _ _).writeBytes _ _) (hs.setOut _ _)

theorem Kept.giveBerth (hs : Kept s₀ s) : Kept s₀ s.giveBerth := by
  unfold State.giveBerth
  split
  · split
    next h => exact (hs.takeElem _ _ h).holdBerth _ _
    next => exact hs
  · exact hs

theorem Kept.pushElem (hs : Kept s₀ s) (a p : Nat) : Kept s₀ (s.pushElem a p) :=
  .ite ((hs.pushFree _ _).giveBerth) (hs.pushFree _ _)

theorem Kept.noteEmpty (hs : Kept s₀ s) : Kept s₀ s.noteEmpty := hs.raiseFirst _

theorem Kept.noteCeiling (hs : Kept s₀ s) : Kept s₀ s.noteCeiling := hs.raiseFirst _

theorem Kept.allocFrom (hs : Kept s₀ s) (e : Nat) (cls : Option Nat) (fall : Bool) (ps : List Nat) :
    Kept s₀ (s.allocFrom e cls fall ps).2.2 := by
  induction ps generalizing s with
  | nil => exact hs
  | cons p rest ih =>
    unfold State.allocFrom
    grind [Kept.takeElem, Kept.noteEmpty, Kept.noteCeiling]

theorem Kept.allocSize (hs : Kept s₀ s) (e size : Nat) (cls : Option Nat) : Kept s₀ (s.allocSize e size cls).2.2 :=
  hs.allocFrom _ _ _ _

theorem Kept.allocBerth (hs : Kept s₀ s) (e : Nat) (sequencer : Bool) : Kept s₀ (s.allocBerth e sequencer).2.2 := by
  unfold State.allocBerth
  dsimp only
  split
  · exact hs.noteEmpty
  · split
    next h => exact hs.takeElem _ _ h
    next => exact hs.noteEmpty

theorem Kept.takeCells (hs : Kept s₀ s) (e n : Nat) : Kept s₀ (s.takeCells e n).2 := by
  induction n generalizing s with
  | zero => exact hs
  | succ n ih =>
    unfold State.takeCells
    split
    next => exact hs
    next h => exact ih (hs.takeElem _ _ h)

theorem Kept.linkCells (hs : Kept s₀ s) (first : Bool) (l : List Nat) : Kept s₀ (s.linkCells first l) := by
  fun_induction State.linkCells s first l with
  | case1 => exact hs
  | case2 => exact (hs.setLink _ _).setHead _ _
  | case3 _ _ _ _ _ ih => exact ih ((hs.setLink _ _).setHead _ _)

theorem Kept.allocChain (hs : Kept s₀ s) (e n : Nat) : Kept s₀ (s.allocChain e n).2.2.2 := by
  dsimp only [State.allocChain]
  split
  · exact hs.noteCeiling
  · split
    · exact hs.noteEmpty
    · exact (hs.takeCells _ _).linkCells _ _

theorem Kept.freeBuf (hs : Kept s₀ s) (w : Nat) : Kept s₀ (s.freeBuf w) :=
  .ite (((hs.pushElem _ _).setHead _ _).update) (hs.pushElem _ _)

theorem Kept.moveBuf (hs : Kept s₀ s) (w e : Nat) : Kept s₀ (s.moveBuf w e) :=
  .ite (hs.foldl _ fun _ _ h => h.setTag _ _) (hs.setTag _ _)

theorem Kept.keepBuf (hs : Kept s₀ s) (w : Nat) (ag : Agent) : Kept s₀ (s.keepBuf w ag) := by
  unfold State.keepBuf
  split
  · exact hs.moveBuf _ _
  · exact (hs.moveBuf _ _).raise _

theorem Kept.bsnDone (hs : Kept s₀ s) (ag : Agent) (st : Status) (w w2 : Nat) : Kept s₀ (s.bsnDone ag st w w2) := by
  have h1 : ∀ v v', Kept s₀ ((s.setReg (agKey ag A.bsnResult) v).setReg (agKey ag A.bsnResult2) v') :=
    fun _ _ => (hs.setReg _ _).setReg _ _
  refine Kept.answer ?_ _ _
  split
  · exact (h1 _ _).count _
  · exact (h1 _ _).count _
  · exact h1 _ _

theorem Kept.bsnError (hs : Kept s₀ s) (ag : Agent) (st : Status) (op w : Nat) : Kept s₀ (s.bsnError ag st op w) :=
  (hs.setReg _ _).setReg _ _

theorem Kept.bsnAlloc (hs : Kept s₀ s) (ag : Agent) (size : Nat) : Kept s₀ (s.bsnAlloc ag size) := by
  dsimp only [State.bsnAlloc]
  split
  · exact hs.bsnDone _ _ _ _
  · split
    · exact hs.bsnDone _ _ _ _
    · split
      · exact hs.bsnDone _ _ _ _
      · split
        · exact hs.bsnDone _ _ _ _
        · exact (hs.allocSize _ _ _).bsnDone _ _ _ _

theorem Kept.bsnAllocP (hs : Kept s₀ s) (ag : Agent) (pool : Nat) : Kept s₀ (s.bsnAllocP ag pool) := by
  dsimp only [State.bsnAllocP]
  split
  · exact hs.bsnDone _ _ _ _
  · split
    · exact hs.bsnDone _ _ _ _
    · split
      · exact hs.bsnDone _ _ _ _
      · exact .ite ((hs.allocFrom _ _ _ _).bsnDone _ _ _ _) (hs.bsnDone _ _ _ _)

theorem Kept.bsnAllocC (hs : Kept s₀ s) (ag : Agent) (n : Nat) : Kept s₀ (s.bsnAllocC ag n) := by
  dsimp only [State.bsnAllocC]
  split
  · exact hs.bsnDone _ _ _ _
  · split
    · exact hs.bsnDone _ _ _ _
    · split
      · exact hs.bsnDone _ _ _ _
      · split
        · exact hs.bsnDone _ _ _ _
        · exact .ite ((hs.allocChain _ _).bsnDone _ _ _ _) (hs.bsnDone _ _ _ _)

theorem Kept.bsnAllocB (hs : Kept s₀ s) (ag : Agent) : Kept s₀ (s.bsnAllocB ag) := by
  unfold State.bsnAllocB
  split
  · exact hs.bsnDone _ _ _ _
  split
  · split
    · exact hs.bsnDone _ _ _ _
    · exact (hs.allocBerth _ _).bsnDone _ _ _ _
  · exact hs.bsnDone _ _ _ _

theorem Kept.bsnFree (hs : Kept s₀ s) (ag : Agent) (w : Nat) : Kept s₀ (s.bsnFree ag w) :=
  .ite (hs.bsnDone _ _ _ _) (.ite ((((hs.count _).bsnError _ _ _ _).raise _).bsnDone _ _ _ _)
    (.ite ((((hs.count _).bsnError _ _ _ _).raise _).bsnDone _ _ _ _)
    (.ite (hs.bsnDone _ _ _ _) ((hs.freeBuf _).bsnDone _ _ _ _))))

theorem Kept.bsnXfer (hs : Kept s₀ s) (ag : Agent) (w : Nat) : Kept s₀ (s.bsnXfer ag w) := by
  unfold State.bsnXfer
  split
  · exact hs.bsnDone _ _ _ _
  · split
    · exact hs.bsnDone _ _ _ _
    · split
      · exact hs.bsnDone _ _ _ _
      · exact .ite ((hs.moveBuf _ _).bsnDone _ _ _ _) (hs.bsnDone _ _ _ _)

theorem Kept.bsnChain (hs : Kept s₀ s) (ag : Agent) (w : Nat) : Kept s₀ (s.bsnChain ag w) :=
  .ite (hs.bsnDone _ _ _ _) (.ite (hs.bsnDone _ _ _ _)
    (.ite (hs.bsnDone _ _ _ _) (.ite (hs.bsnDone _ _ _ _) (((hs.setLink _ _).setHead _ _).bsnDone _ _ _ _))))

theorem Kept.bsnSplit (hs : Kept s₀ s) (ag : Agent) (w : Nat) : Kept s₀ (s.bsnSplit ag w) :=
  .ite (hs.bsnDone _ _ _ _) (.ite (hs.bsnDone _ _ _ _)
    ((Kept.ite (hs.setLink _ _) ((hs.setLink _ _).setHead _ _)).bsnDone _ _ _ _))

theorem Kept.bsnNext (hs : Kept s₀ s) (ag : Agent) (w : Nat) : Kept s₀ (s.bsnNext ag w) :=
  .ite (hs.bsnDone _ _ _ _) (.ite (hs.bsnDone _ _ _ _) (hs.bsnDone _ _ _ _))

theorem Kept.pushSpill (hs : Kept s₀ s) (slot : Nat) : Kept s₀ (s.pushSpill slot) := hs.update

theorem Kept.takeSpill (hs : Kept s₀ s) {p : Nat} {u : State} (hu : s.takeSpill = some (p, u)) : Kept s₀ u := by
  unfold State.takeSpill at hu
  split at hu
  next => cases hu; exact hs.update
  next =>
    split at hu
    next => cases hu; exact hs.update
    next => cases hu

theorem Kept.setSpillRec (hs : Kept s₀ s) (k : Nat) (r : Option (Nat × Nat)) : Kept s₀ (s.setSpillRec k r) := hs.update

theorem Kept.bsnSpill (hs : Kept s₀ s) (ag : Agent) (w : Nat) : Kept s₀ (s.bsnSpill ag w) := by
  unfold State.bsnSpill
  have hd := hs.bsnDone ag
  have h2 : ∀ {k u}, s.takeSpill = some (k, u) → ∀ a t n r, Kept s₀ ((u.setTag a t).setSpillRec n r) :=
    fun h a t n r => ((hs.takeSpill h).setTag a t).setSpillRec n r
  grind [Kept.count, Kept.raise, Kept.bsnDone, Kept.update]

theorem Kept.spillDone (hs : Kept s₀ s) (p k : Nat) : Kept s₀ (s.spillDone p k) :=
  .ite (((hs.update.dramWrite _ _ _).pushElem _ _).pushSpill _) ((hs.update.dramWrite _ _ _).pushElem _ _)

theorem Kept.bsnFill (hs : Kept s₀ s) (ag : Agent) (h : Nat) : Kept s₀ (s.bsnFill ag h) := by
  dsimp only [State.bsnFill]
  split
  · exact hs.bsnDone _ _ _ _
  · split
    · exact hs.bsnDone _ _ _ _
    · exact .ite (hs.bsnDone _ _ _ _) (.ite (hs.bsnDone _ _ _ _)
        (.ite (hs.bsnDone _ _ _ _) (.ite (((((hs.allocFrom _ _ _ _).setSpillRec _ _).update).count _).bsnDone _ _ _ _)
        ((hs.allocFrom _ _ _ _).bsnDone _ _ _ _))))

theorem Kept.fillDone (hs : Kept s₀ s) (f : FillCopy) : Kept s₀ (s.fillDone f) :=
  .ite (((hs.update.writeBytes _ _).pushSpill _).pushElem _ _)
    (.ite (((hs.update.writeBytes _ _).pushSpill _).bsnError _ _ _ _)
    (((hs.update.writeBytes _ _).pushSpill _).postOr _ _ _ _ (fun _ h => h.update)))

theorem Kept.pushAll (hs : Kept s₀ s) (l : List (Nat × Nat)) : Kept s₀ (s.pushAll l) := by
  induction l generalizing s with
  | nil => exact hs
  | cons p rest ih =>
    have h1 := hs.pushElem p.1 p.2
    exact ih (.ite ((h1.setHead _ _).setLink _ _) h1)

theorem Kept.reclaim (hs : Kept s₀ s) (e : Nat) : Kept s₀ (s.reclaim e) := by
  unfold State.reclaim
  grind [Kept.pushSpill, Kept.setSpillRec, Kept.pushAll, Kept.update, Kept.foldl]

theorem Kept.cancelChunks (hs : Kept s₀ s) : Kept s₀ s.cancelChunks := (hs.countBy _ _).update

theorem Kept.bsnReclaim (hs : Kept s₀ s) (ag : Agent) (e : Nat) : Kept s₀ (s.bsnReclaim ag e) :=
  .ite (hs.bsnDone _ _ _ _) (.ite (hs.bsnDone _ _ _ _)
    (.ite (hs.bsnDone _ _ _ _) (((Kept.ite hs.cancelChunks hs).reclaim _).bsnDone _ _ _ _)))

theorem Kept.rehold (hs : Kept s₀ s) (new : List OwnerCfg) : Kept s₀ (s.rehold new) :=
  .ite (hs.update.update.raise _) hs.update.update

/-! ### The exact-match tables -/

theorem Kept.bumpEpoch (hs : Kept s₀ s) (n : Nat) : Kept s₀ (s.bumpEpoch n) := hs.setFld _ _ _ _

theorem Kept.countLookup (hs : Kept s₀ s) (n : Nat) (hit : Bool) : Kept s₀ (s.countLookup n hit) :=
  .ite ((hs.count _).count _) (hs.count _)

theorem Kept.putEntry (hs : Kept s₀ s) (n p : Nat) (bs : List Byte) : Kept s₀ (s.putEntry n p bs) := hs.writeBytes _ _

theorem Kept.zeroEntry (hs : Kept s₀ s) (n p : Nat) : Kept s₀ (s.zeroEntry n p) := hs.putEntry _ _ _

theorem Kept.moveEntry (hs : Kept s₀ s) (n p q : Nat) : Kept s₀ (s.moveEntry n p q) := (hs.putEntry _ _ _).zeroEntry _ _

theorem Kept.doMoves (hs : Kept s₀ s) (n : Nat) (l : List Nat) : Kept s₀ (s.doMoves n l) := by
  fun_induction State.doMoves s n l with
  | case1 _ _ _ _ ih => exact ih (hs.moveEntry _ _ _)
  | case2 => exact hs

theorem Kept.makeRoom (hs : Kept s₀ s) (n : Nat) (sd : W32 × W32) (key : List Byte) {p : Nat} {u : State}
    (hu : s.makeRoom n sd key = some (p, u)) : Kept s₀ u := by
  unfold State.makeRoom at hu
  dsimp only at hu
  split at hu
  next => cases hu; exact hs
  next =>
    split at hu
    next => cases hu; exact hs.doMoves _ _
    next =>
      split at hu
      next => cases hu; exact hs
      next => cases hu

theorem Kept.countIn (hs : Kept s₀ s) (n p : Nat) : Kept s₀ (s.countIn n p) :=
  .ite (.ite (((hs.setFld _ _ _ _).setFld _ _ _ _).raise _) ((hs.setFld _ _ _ _).setFld _ _ _ _)) (hs.setFld _ _ _ _)

theorem Kept.countOut (hs : Kept s₀ s) (n p : Nat) : Kept s₀ (s.countOut n p) :=
  .ite ((hs.setFld _ _ _ _).setFld _ _ _ _) (hs.setFld _ _ _ _)

theorem Kept.unstash (hs : Kept s₀ s) (n : Nat) (l : List Nat) : Kept s₀ (s.unstash n l) := by
  induction l generalizing s with
  | nil => exact hs
  | cons p rest ih =>
    unfold State.unstash
    refine .ite (ih hs) ?_
    dsimp only
    split
    · exact ih ((hs.moveEntry _ _ _).setFld _ _ _ _)
    · exact ih hs

theorem Kept.tblDone (hs : Kept s₀ s) (c : TblCmd) (st : Status) : Kept s₀ (s.tblDone c st) :=
  .ite ((hs.setReg _ _).postOr _ _ _ _ (fun _ h => h.update)) (hs.setReg _ _)

theorem Kept.fenceDone (hs : Kept s₀ s) (f : Fence) : Kept s₀ (s.fenceDone f) := by
  dsimp only [State.fenceDone]
  split
  · exact hs.update.tblDone _ _
  · exact hs.update

theorem Kept.startFence (hs : Kept s₀ s) (cmd : Option TblCmd) (ids : List Nat) : Kept s₀ (s.startFence cmd ids) :=
  .ite (hs.fenceDone _) hs.update

theorem Kept.cool (hs : Kept s₀ s) (ids : List Nat) : Kept s₀ (s.cool ids) := .ite hs (hs.update.startFence _ _)

theorem Kept.fenceDrop (hs : Kept s₀ s) (k : Nat) : Kept s₀ (s.fenceDrop k) := hs.update

theorem Kept.coolTurn (hs : Kept s₀ s) : Kept s₀ s.coolTurn.1 := hs.update

theorem Kept.insertFail (hs : Kept s₀ s) (n : Nat) : Kept s₀ (s.insertFail n) :=
  .ite ((hs.count _).raiseFirst _) (((hs.count _).setFld _ _ _ _).raise _)

theorem Kept.tblAdd (hs : Kept s₀ s) (c : TblCmd) : Kept s₀ (s.tblAdd c).2 := by
  unfold State.tblAdd
  grind [Kept.bumpEpoch, Kept.putEntry, Kept.makeRoom, Kept.countIn, Kept.cool, Kept.insertFail, Kept.update]

theorem Kept.removePlaces (hs : Kept s₀ s) (n : Nat) (l : List Nat) : Kept s₀ (s.removePlaces n l).1 := by
  induction l generalizing s with
  | nil => exact hs
  | cons p rest ih => exact ih ((hs.zeroEntry _ _).countOut _ _)

theorem Kept.removeAll (hs : Kept s₀ s) (n : Nat) (ps : List Nat) : Kept s₀ (s.removeAll n ps) :=
  .ite (hs.unstash _ _) ((((hs.removePlaces _ _).bumpEpoch _).unstash _ _).cool _)

theorem Kept.tblDel (hs : Kept s₀ s) (c : TblCmd) : Kept s₀ (s.tblDel c).2 := by
  unfold State.tblDel
  split
  · exact hs.removeAll _ _
  · exact hs

theorem Kept.tblFlush (hs : Kept s₀ s) (c : TblCmd) : Kept s₀ (s.tblFlush c).2 := by
  dsimp only [State.tblFlush]
  split
  · exact hs
  · split
    · exact hs
    · exact hs.removeAll _ _

theorem Kept.tblRead (hs : Kept s₀ s) (c : TblCmd) : Kept s₀ (s.tblRead c).2 := by
  dsimp only [State.tblRead]
  split
  · exact (((hs.setReg _ _).setReg _ _).setReg _ _).setReg _ _
  · exact (((hs.setReg _ _).setReg _ _).setReg _ _).setReg _ _

theorem Kept.tblRehash (hs : Kept s₀ s) (c : TblCmd) : Kept s₀ (s.tblRehash c).2 := by
  dsimp only [State.tblRehash]
  split
  · exact hs
  · split
    · exact hs
    · exact hs.update.setFld _ _ _ _

theorem Kept.tblPerform (hs : Kept s₀ s) (c : TblCmd) : Kept s₀ (s.tblPerform c).2 := by
  dsimp only [State.tblPerform]
  split
  · exact hs.tblAdd _
  · exact hs.tblDel _
  · exact hs.startFence _ _
  · exact hs.tblFlush _
  · exact hs.tblRehash _
  · exact hs.tblRead _

theorem kept_tblDrain (hs : Kept s₀ s) (fuel : Nat) : Kept s₀ (tblDrain fuel s) := by
  induction fuel generalizing s with
  | zero => exact hs
  | succ fuel ih =>
    unfold tblDrain
    grind [Kept.tblDone, Kept.tblPerform, Kept.update]

theorem Kept.tblRun (hs : Kept s₀ s) : Kept s₀ s.tblRun := kept_tblDrain hs _

theorem Kept.tblEnqueue (hs : Kept s₀ s) (c : TblCmd) : Kept s₀ (s.tblEnqueue c) := (hs.update.setReg _ _).tblRun

theorem Kept.tblRefuse (hs : Kept s₀ s) (ag : Agent) (st : Status) : Kept s₀ (s.tblRefuse ag st) :=
  (hs.setReg _ _).status _

theorem Kept.tblSubmit (hs : Kept s₀ s) (ag : Agent) (op table : Nat) (token : Bool) (tag : Nat) :
    Kept s₀ (s.tblSubmit ag op table token tag) :=
  .ite (hs.refuse _ _ _) (.ite (hs.tblRefuse _ _) (.ite (hs.tblRefuse _ _)
    (.ite (hs.tblRefuse _ _) ((hs.tblEnqueue _).status _))))

theorem Kept.sourceLookup (hs : Kept s₀ s) (key : List Byte) (port : Nat) : Kept s₀ (s.sourceLookup key port).1 := by
  dsimp only [State.sourceLookup]
  split
  · exact hs.countLookup _ _
  · split
    · exact hs.countLookup _ _
    · split
      · exact hs.countLookup _ _
      · exact ((hs.countLookup _ _).count _).raise _

theorem Kept.learnCommit (hs : Kept s₀ s) (l : Learn) : Kept s₀ (s.learnCommit l) := by
  dsimp only [State.learnCommit]
  split
  · split
    · exact hs.writeLE _ _ _
    · exact hs
  · exact .ite hs.update ((hs.count _).raiseFirst _)

theorem Kept.learnPerform (hs : Kept s₀ s) (l : Learn) : Kept s₀ (s.learnPerform l) := by
  dsimp only [State.learnPerform]
  split
  · exact (hs.tblAdd _).count _
  · exact .ite (.ite ((hs.count _).raise _) hs) (.ite ((((hs.tblAdd _).count _).count _).raise _)
      ((hs.tblAdd _).count _))

theorem Kept.ageSweep (hs : Kept s₀ s) : Kept s₀ s.ageSweep := ((((hs.foldl _ fun _ _ h => h.writeLE _ _ _).foldl _
    fun _ _ h => (((h.zeroEntry _ _).countOut _ _).bumpEpoch _).count _).unstash _ _).raise _)

theorem Kept.migrate (hs : Kept s₀ s) (n : Nat) (sd : W32 × W32) (l : List Nat) {u : State}
    (hu : s.migrate n sd l = some u) : Kept s₀ u := by
  induction l generalizing s with
  | nil => cases hu; exact hs
  | cons p rest ih =>
    unfold State.migrate at hu
    have ho := (hs.zeroEntry n p).countOut n p
    have hm := fun q v => (hs.moveEntry n p q).setFld (A.tblStat n) 20 16 v
    grind [Kept.putEntry, Kept.countIn, Kept.makeRoom]

theorem Kept.migrateAll (hs : Kept s₀ s) (n : Nat) (sd : W32 × W32) {u : State}
    (hu : s.migrateAll n sd = some u) : Kept s₀ u := hs.migrate _ _ _ hu

theorem Kept.rehashOver (hs : Kept s₀ s) (n : Nat) : Kept s₀ (s.rehashOver n) := hs.update.setFld _ _ _ _

theorem goes_execTableAdd (hs : Kept s₀ s) (ag : Agent) (table : BitVec 2) (token : Bool) (tag : BitVec 16) :
    Goes s₀ (execTableAdd ag table token tag s) :=
  .next (hs.tblSubmit _ _ _ _ _)

theorem goes_execTableDel (hs : Kept s₀ s) (ag : Agent) (table : BitVec 2) (token : Bool) (tag : BitVec 16) :
    Goes s₀ (execTableDel ag table token tag s) :=
  .next (hs.tblSubmit _ _ _ _ _)

theorem goes_execTableFence (hs : Kept s₀ s) (ag : Agent) (table : BitVec 2) (token : Bool) (tag : BitVec 16) :
    Goes s₀ (execTableFence ag table token tag s) :=
  .next (hs.tblSubmit _ _ _ _ _)

theorem goes_execFenceComplete (hs : Kept s₀ s) : Goes s₀ (execFenceComplete s) := by
  dsimp only [execFenceComplete]
  split
  · exact .next hs
  · exact .next ((hs.update.fenceDone _).tblRun)

theorem goes_execTableFlush (hs : Kept s₀ s) (ag : Agent) (table : BitVec 2) (token : Bool) (tag : BitVec 16) :
    Goes s₀ (execTableFlush ag table token tag s) :=
  .next (hs.tblSubmit _ _ _ _ _)

theorem goes_execTableRehash (hs : Kept s₀ s) (ag : Agent) (table : BitVec 2) (token : Bool) (tag : BitVec 16) :
    Goes s₀ (execTableRehash ag table token tag s) :=
  .next (hs.tblSubmit _ _ _ _ _)

theorem goes_execRehashComplete (hs : Kept s₀ s) (n : Fin 3) : Goes s₀ (execRehashComplete n s) := by
  unfold execRehashComplete
  split
  · exact .next hs
  split
  · exact .next hs
  · next h =>
    exact .next (((((((hs.migrateAll _ _ h).rehashOver _).setReg _ _).setReg _ _).setFld _ _ _ _).raise _).tblDone _ _)

theorem goes_execRehashFail (hs : Kept s₀ s) (n : Fin 3) : Goes s₀ (execRehashFail n s) := by
  unfold execRehashFail
  split
  · exact .next hs
  split
  · exact .next hs
  · have h1 := hs.rehashOver n
    refine .next (Kept.tblDone (Kept.raise ?_ _) _ _)
    cases h : (s.rehashOver n).migrateAll n (s.reg (A.tblSeeda n), s.reg (A.tblSeedb n)) with
    | none => exact h1
    | some u => exact h1.migrateAll _ _ h

theorem goes_execTableRead (hs : Kept s₀ s) (ag : Agent) (table : BitVec 2) (token : Bool) (tag : BitVec 16) :
    Goes s₀ (execTableRead ag table token tag s) :=
  .next (hs.tblSubmit _ _ _ _ _)

theorem goes_execTableTokenRetry (hs : Kept s₀ s) : Goes s₀ (execTableTokenRetry s) :=
  .next (((kept_repostAll hs _).update).countBy _ _)

theorem goes_execLearnInsert (hs : Kept s₀ s) : Goes s₀ (execLearnInsert s) := by
  dsimp only [execLearnInsert]
  split
  · exact .next hs
  · exact .next (hs.update.learnPerform _)

theorem goes_execAgeingSweep (hs : Kept s₀ s) : Goes s₀ (execAgeingSweep s) := .ite (.next hs) (.next hs.ageSweep)

/-! ### The flight -/

theorem Kept.logDrop (hs : Kept s₀ s) (ticket domain reason detail point egress : Nat) (ag : Agent)
    (dcode seq len : Nat) (wire : List Byte) : Kept s₀
    (s.logDrop ticket domain reason detail point egress ag dcode seq len wire) :=
  .ite hs ((hs.writeBytes _ _).setReg _ _)

theorem Kept.dropRx (hs : Kept s₀ s) (port cls detail point : Nat) (r : RxFrame) (len : Nat) :
    Kept s₀ (s.dropRx port cls detail point r len) :=
  .ite ((hs.count _).logDrop _ _ _ _ _ _ _ _ _ _ _) (hs.count _)

theorem Kept.setEg (hs : Kept s₀ s) (e : Nat) (x : Option EgFrame) : Kept s₀ (s.setEg e x) := hs.update

theorem Kept.setPort (hs : Kept s₀ s) (p : Nat) (x : PortSt) : Kept s₀ (s.setPort p x) := hs.update

theorem Kept.egSettle (hs : Kept s₀ s) (e : Nat) : Kept s₀ (s.egSettle e) := by
  unfold State.egSettle
  split
  · exact hs
  split
  · have h2 := fun b => (hs.freeBuf b).setEg e none
    have h3 := hs.setEg e none
    grind [Kept.setFrame]
  · exact hs

theorem Kept.egPortDone (hs : Kept s₀ s) (e p : Nat) : Kept s₀ (s.egPortDone e p) := by
  unfold State.egPortDone
  split
  · exact hs
  · exact (hs.setEg _ _).egSettle _

theorem Kept.forgetFrame (hs : Kept s₀ s) (k : Nat) : Kept s₀ (s.forgetFrame k) := hs.update

theorem Kept.checkFinish (hs : Kept s₀ s) : Kept s₀ s.checkFinish := .ite (hs.setReg _ _) hs

theorem Kept.endFrame (hs : Kept s₀ s) (k : Nat) : Kept s₀ (s.endFrame k) :=
  ((((hs.setFrame _ _).forgetFrame _).fenceDrop _).checkFinish).matching

theorem Kept.tryLeave (hs : Kept s₀ s) (k : Nat) : Kept s₀ (s.tryLeave k) := by
  unfold State.tryLeave
  grind [Kept.learnCommit, Kept.setEg, Kept.endFrame]

theorem Kept.recordFrame (hs : Kept s₀ s) (k : Nat) (f : Frame) (reason detail point : Nat) (ag : Agent) (dcode : Nat) :
    Kept s₀ (s.recordFrame k f reason detail point ag dcode) :=
  hs.logDrop _ _ _ _ _ _ _ _ _ _ _

theorem Kept.logFrame (hs : Kept s₀ s) (k : Nat) (f : Frame) (reason detail point : Nat) (ag : Agent) (dcode : Nat) :
    Kept s₀ (s.logFrame k f reason detail point ag dcode) :=
  .ite (hs.recordFrame _ _ _ _ _ _ _) hs

theorem Kept.dropUnsent (hs : Kept s₀ s) (e : Nat) : Kept s₀ (s.dropUnsent e) := by
  unfold State.dropUnsent
  split
  · exact hs
  · exact ((hs.foldl _ fun _ _ h => .ite h (h.setPort _ _)).setEg _ _).egSettle _

theorem Kept.stomp (hs : Kept s₀ s) (k detail point : Nat) (ag : Agent) (dcode : Nat) (done : Bool) :
    Kept s₀ (s.stomp k detail point ag dcode done) := by
  unfold State.stomp
  split
  · exact hs
  extract_lets s2 _ s3 s1 s4
  have h3 : Kept s₀ s3 := (((hs.recordFrame _ _ _ _ _ _ _).count _).count _).setFrame _ _
  have h1 : Kept s₀ s1 := by grind [Kept.dropUnsent]
  have h4 : Kept s₀ s4 := by grind [Kept.setFrame, Kept.forgetFrame]
  exact (h4.tryLeave _).checkFinish

theorem Kept.dropFrame (hs : Kept s₀ s) (k detail point : Nat) (ag : Agent) (dcode : Nat) :
    Kept s₀ (s.dropFrame k detail point ag dcode) := by
  unfold State.dropFrame
  grind [Kept.count, Kept.freeBuf, Kept.endFrame, Kept.logFrame, Kept.dropUnsent, Kept.stomp, Kept.update]

theorem Kept.performStore (hs : Kept s₀ s) (ag : Agent) (p : PStore) : Kept s₀ (s.performStore ag p) := by
  dsimp only [State.performStore]
  split
  · split
    · exact .ite (hs.stomp _ _ _ _ _ _) (hs.writeBytes _ _)
    · exact hs.writeBytes _ _
  · exact .ite (hs.sramWrite _ _) (.ite ((hs.dramAccess _ _ _ _ _ _).dramWrite _ _ _) (hs.writeBytes _ _))

theorem kept_performAll (hs : Kept s₀ s) (ag : Agent) (l : List PStore) : Kept s₀ (performAll ag l s) := by
  induction l generalizing s with
  | nil => exact hs
  | cons p rest ih => exact ih (hs.performStore ag p)

theorem Kept.drain (hs : Kept s₀ s) (w : SlotId) : Kept s₀ (s.drain w) := kept_performAll (hs.setSlot _ _) _ _

theorem Kept.drainAgent (hs : Kept s₀ s) (ag : Agent) : Kept s₀ (s.drainAgent ag) := by
  unfold State.drainAgent
  split
  · exact hs.drain _
  · exact hs

theorem Kept.notePeak (hs : Kept s₀ s) : Kept s₀ s.notePeak := .ite (hs.setReg _ _) hs

theorem Kept.frameBuffer (hs : Kept s₀ s) (p cls : Nat) (bs : List Byte) : Kept s₀ (s.frameBuffer p cls bs).2.2 := by
  dsimp only [State.frameBuffer]
  split
  · exact hs
  · split
    · exact hs.allocBerth _ _
    · exact hs.allocSize _ _ _

theorem Kept.queueOn (hs : Kept s₀ s) (e q cls mask : Nat) : Kept s₀ (s.queueOn e q cls mask) :=
  hs.foldl _ fun _ _ h => .ite (.ite (h.setPort _ _) ((h.setPort _ _).count _)) h

theorem Kept.release (hs : Kept s₀ s) (k : Nat) (f : Frame) : Kept s₀ (s.release k f) := by
  unfold State.release
  grind [Kept.countBy, Kept.setFrame, Kept.queueHost, Kept.setEg, Kept.egSettle, Kept.tryLeave, Kept.dropFrame,
    Kept.queueOn, Kept.update]

theorem Kept.tryRelease (hs : Kept s₀ s) (k : Nat) : Kept s₀ (s.tryRelease k) := by
  unfold State.tryRelease
  split
  · exact hs
  · exact .ite (hs.release _ _) hs

theorem Kept.toTowpath (hs : Kept s₀ s) (k : Nat) : Kept s₀ (s.toTowpath k) := by
  dsimp only [State.toTowpath]
  split
  · exact hs
  · exact .ite (.ite (((hs.setFrame _ _).checkFinish).tryLeave _) (((hs.setFrame _ _).checkFinish).dropFrame _ _ _ _ _))
      (((hs.setFrame _ _).checkFinish).tryLeave _)

theorem Kept.toPound (hs : Kept s₀ s) (k n : Nat) : Kept s₀ (s.toPound k n).2 := by
  unfold State.toPound
  split
  · exact hs
  · exact (hs.setFrame _ _).postArrival _ _

theorem Kept.endCurrent (hs : Kept s₀ s) (n : Nat) : Kept s₀ (s.endCurrent n) := hs.setThread _ _

theorem Kept.actVerdict (hs : Kept s₀ s) (slot : SlotId) (n k : Nat) (f : Frame) (w : W32) :
    Kept s₀ (s.actVerdict slot n k f w).2 := by
  unfold State.actVerdict
  extract_lets ag here g s0 s1
  have h1 : Kept s₀ s1 := by grind [Kept.setFrame, Kept.endCurrent, Kept.count]
  clear_value s1
  split
  · grind [Kept.toTowpath, Kept.dropFrame, Kept.toPound, Kept.count, Kept.tokenWatch]
  · exact h1.dropFrame _ _ _ _ _
  · have h2 : ∀ e x, Kept s₀ ((s1.setEg e x).dropUnsent e) := fun _ _ => (h1.setEg _ _).dropUnsent _
    grind [Kept.stomp, Kept.setEg, Kept.keepBuf, Kept.endFrame]
  · grind [Kept.stomp, Kept.dropUnsent, Kept.freeBuf, Kept.endFrame]

theorem Kept.verdict (hs : Kept s₀ s) (w : SlotId) (word : W32) : Kept s₀ (s.verdict w word).2 := by
  dsimp only [State.verdict]
  split
  · exact hs.drain _
  · split
    · exact hs.drain _
    · split
      · exact hs.drain _
      · exact (hs.drain _).actVerdict _ _ _ _ _

theorem Kept.recWrite (hs : Kept s₀ s) (ag : Agent) (k : Nat) (f : Frame) (i : Nat) (v : W32) :
    Kept s₀ (s.recWrite ag k f i v) := by
  dsimp only [State.recWrite]
  split
  · exact hs.setFrame _ _
  · exact .ite (hs.setFrame _ _) (.ite ((hs.setFrame _ _).stomp _ _ _ _ _ _)
      (.ite ((hs.setFrame _ _).setFrame _ _) (hs.setFrame _ _)))
  · exact hs.setFrame _ _
  · exact hs.setFrame _ _
  · exact hs.setFrame _ _
  · exact hs

theorem Kept.enterFrame (hs : Kept s₀ s) (k : Nat) (shared : Bool) (r : FrameRec) (wire : List Byte) (t0 : Nat) :
    Kept s₀ (s.enterFrame k shared r wire t0) :=
  ((hs.update.setFrame _ _).count _).notePeak

theorem Kept.sendFrom9 (hs : Kept s₀ s) (w len egress queue cls hostq : Nat) :
    Kept s₀ (s.sendFrom9 w len egress queue cls hostq).2 := by
  dsimp only [State.sendFrom9]
  split
  · exact ((hs.moveBuf _ _).enterFrame _ _ _ _ _).toTowpath _
  · exact hs

theorem Kept.sendCtl (hs : Kept s₀ s) (w : SlotId) (v : W32) : Kept s₀ (s.sendCtl w v).2 := by
  dsimp only [State.sendCtl]
  split
  · exact hs.drain _
  · split
    · exact hs.drain _
    · split
      · exact hs.drain _
      · split
        · exact hs.drain _
        · exact (hs.drain _).sendFrom9 _ _ _ _ _ _

theorem Kept.ageFrames (hs : Kept s₀ s) : Kept s₀ s.ageFrames := hs.foldl _ fun _ _ h => h.dropFrame _ _ _ _ _

theorem Kept.drainOld (hs : Kept s₀ s) : Kept s₀ s.drainOld := hs.foldl _ fun _ _ h => h.dropFrame _ _ _ _ _

/-! ### The commands of the flight -/

theorem Kept.setOstat (hs : Kept s₀ s) (w : SlotId) (st : Status) : Kept s₀ (s.setOstat w st) := hs.setSlot _ _

theorem Kept.stamp (hs : Kept s₀ s) (p : Nat) (r : List W32) : Kept s₀ (s.stamp p r) :=
  .ite (.ite ((hs.count _).raise _) hs) (.ite ((Kept.ite ((hs.setPort _ _).raise _) (hs.setPort _ _)).post _ _ _)
    (.ite ((hs.setPort _ _).raise _) (hs.setPort _ _)))

theorem Kept.setRx (hs : Kept s₀ s) (p : Nat) (l : List RxFrame) : Kept s₀ (s.setRx p l) := hs.update

theorem Kept.fifoDrop (hs : Kept s₀ s) (p : Nat) (r : RxFrame) : Kept s₀ (s.fifoDrop p r) :=
  ((hs.dropRx _ _ _ _ _ _).count _).raiseFirst _

theorem Kept.evict (hs : Kept s₀ s) (p c need fuel : Nat) : Kept s₀ (s.evict p c need fuel) := by
  induction fuel generalizing s with
  | zero => exact hs
  | succ fuel ih =>
    unfold State.evict
    grind [Kept.setRx, Kept.fifoDrop]

theorem goes_execFrameArrival (hs : Kept s₀ s) (p : Fin 8) (bytes : List (BitVec 8)) :
    Goes s₀ (execFrameArrival p bytes s) :=
  .ite (.next (hs.count _)) (.ite (.next ((Kept.ite hs (hs.count _)).setRx _ _))
    (.ite (.next ((Kept.ite ((Kept.ite (hs.evict _ _ _ _) hs).evict _ _ _ _) (.ite (hs.evict _ _ _ _) hs)).setRx _ _))
    (.next (((Kept.ite ((Kept.ite (hs.evict _ _ _ _) hs).evict _ _ _ _) (.ite (hs.evict _ _ _ _) hs)).fifoDrop _
    _).setRx _ _))))

theorem Kept.setDone (hs : Kept s₀ s) (k : Nat) (bad : Bool) : Kept s₀ (s.setDone k bad) := by
  dsimp only [State.setDone]
  split
  · exact hs
  · exact .ite (.ite (((hs.setFrame _ _).matching).stomp _ _ _ _ _ _)
      (.ite (((hs.setFrame _ _).matching).dropFrame _ _ _ _ _) ((hs.setFrame _ _).matching)))
      (((hs.setFrame _ _).matching).tryLeave _)

theorem Kept.finishRx (hs : Kept s₀ s) (k : Nat) : Kept s₀ (s.finishRx k) := by
  dsimp only [State.finishRx]
  split
  · exact hs
  · exact .ite ((Kept.ite (hs.stamp _ _) hs).setFrame _ _) ((Kept.ite (hs.stamp _ _) hs).setDone _ _)

theorem Kept.sendToPound (hs : Kept s₀ s) (k n : Nat) : Kept s₀ (s.sendToPound k n) := by
  dsimp only [State.sendToPound]
  split
  · exact hs.toPound _ _
  · split
    · exact hs.toPound _ _
    · exact ((hs.toPound _ _).setFrame _ _).count _

theorem Kept.entryStep (hs : Kept s₀ s) (k : Nat) (std : W32) : Kept s₀ (s.entryStep k std) := by
  dsimp only [State.entryStep]
  split
  · exact hs
  · exact .ite (.ite ((Kept.ite ((hs.setFrame _ _).count _) (hs.setFrame _ _)).toTowpath _)
      (.ite ((Kept.ite ((hs.setFrame _ _).count _) (hs.setFrame _ _)).dropFrame _ _ _ _ _)
      ((Kept.ite ((hs.setFrame _ _).count _) (hs.setFrame _ _)).sendToPound _ _)))
      (.ite (hs.dropFrame _ _ _ _ _) (hs.sendToPound _ _))

theorem Kept.admitFrame (hs : Kept s₀ s) (k : Nat) (sh : Bool) (p cls b : Nat) (bs : List Byte) (t0 : Nat) (fin : Bool)
    (eg queue hostq : Nat) : Kept s₀ (s.admitFrame k sh p cls b bs t0 fin eg queue hostq) :=
  .ite (((((hs.bufWrite _ _ _).countLookup _ _).enterFrame _ _ _ _ _).count _).dropFrame _ _ _ _ _)
    ((Kept.ite (.ite ((((hs.bufWrite _ _ _).countLookup _ _).enterFrame _ _ _ _ _).finishRx _)
    ((((hs.bufWrite _ _ _).countLookup _ _).enterFrame _ _ _ _ _).setDone _ _))
    (((hs.bufWrite _ _ _).countLookup _ _).enterFrame _ _ _ _ _)).entryStep _ _)

theorem Kept.admitFirst (hs : Kept s₀ s) (p : Nat) (l : List Nat) : Kept s₀ (s.admitFirst p l) := by
  induction l generalizing s with
  | nil => exact hs
  | cons i rest ih =>
    unfold State.admitFirst
    have hb := hs.frameBuffer
    grind [Kept.setRx, Kept.admitFrame, Kept.raiseFirst]

theorem goes_execFrameAdmission (hs : Kept s₀ s) (p : Fin 8) : Goes s₀ (execFrameAdmission p s) :=
  .ite (.next hs) (.next (hs.admitFirst _ _))

theorem goes_execArrivalTokenHoldExpiry (hs : Kept s₀ s) (p : Fin 10) : Goes s₀ (execArrivalTokenHoldExpiry p s) := by
  dsimp only [execArrivalTokenHoldExpiry]
  split
  · exact .next (.ite (((hs.advance _).setFrame _ _).toPound _ _)
      ((((hs.advance _).setFrame _ _).toPound _ _).dropFrame _ _ _ _ _))
  · exact .next hs

theorem goes_execFrameFcsReceived (hs : Kept s₀ s) (p : Fin 8) (asm : Bool) :
    Goes s₀ (execFrameFcsReceived p asm s) := by
  unfold execFrameFcsReceived
  extract_lets l
  split
  · exact .next hs
  split
  · exact .next hs
  extract_lets s0 s1 s2 s2'
  have h1 : Kept s₀ s1 := ((hs.advance _).count _).countBy _ _
  have h2 : Kept s₀ s2 := ((h1.count _).raise _).setRx _ _
  have h2' : Kept s₀ s2' := .ite h1 ((h1.count _).raiseFirst _)
  clear_value s1 s2 s2'
  grind [Kept.setDone, Kept.setRx, Kept.count, Kept.dropRx, Kept.finishRx, Goes.next]

theorem goes_execFrameOversize (hs : Kept s₀ s) (p : Fin 8) : Goes s₀ (execFrameOversize p s) := by
  unfold execFrameOversize
  extract_lets l most
  split
  · exact .next hs
  split
  · exact .next hs
  extract_lets lim s1 s2
  have h2 : Kept s₀ s2 := ((hs.advance _).count _).setRx _ _
  clear_value s2
  grind [Kept.dropFrame, Kept.dropRx, Goes.next]

theorem goes_execLookupResult (hs : Kept s₀ s) (k : Fin 1024) (n : Fin 3) : Goes s₀ (execLookupResult k n s) := by
  unfold execLookupResult
  grind [Kept.setFrame, Kept.matching, Kept.countLookup, Kept.sourceLookup, Goes.next]

theorem Kept.slotAnswer {r : Status × State} (hs : Kept s₀ r.2) (w : SlotId) : Kept s₀ (State.slotAnswer w r) :=
  (hs.setOstat _ _).status _

theorem goes_execSendCtl (hs : Kept s₀ s) (w : SlotId) (v : W32) : Goes s₀ (execSendCtl w v s) :=
  .next (Kept.slotAnswer (hs.sendCtl _ _) _)

theorem goes_execVerdictRoute (hs : Kept s₀ s) (w : SlotId) (rest : BitVec 30) : Goes s₀ (execVerdictRoute w rest s) :=
  .next (Kept.slotAnswer (hs.verdict _ _) _)

theorem goes_execVerdictDrop (hs : Kept s₀ s) (w : SlotId) (rest : BitVec 30) : Goes s₀ (execVerdictDrop w rest s) :=
  .next (Kept.slotAnswer (hs.verdict _ _) _)

theorem goes_execVerdictConsumeKeep (hs : Kept s₀ s) (w : SlotId) (rest : BitVec 30) :
    Goes s₀ (execVerdictConsumeKeep w rest s) :=
  .next (Kept.slotAnswer (hs.verdict _ _) _)

theorem goes_execVerdictConsumeFree (hs : Kept s₀ s) (w : SlotId) (rest : BitVec 30) :
    Goes s₀ (execVerdictConsumeFree w rest s) :=
  .next (Kept.slotAnswer (hs.verdict _ _) _)

theorem goes_execTowpathRelease (hs : Kept s₀ s) (p : Fin 10) (c : Fin 4) : Goes s₀ (execTowpathRelease p c s) := by
  unfold execTowpathRelease
  split
  · exact .next (hs.tryRelease _)
  · exact .next hs

theorem goes_execEgressFcsReached (hs : Kept s₀ s) (p : Fin 8) : Goes s₀ (execEgressFcsReached p s) := by
  unfold execEgressFcsReached
  split
  · exact .next hs
  · split
    · exact .next hs
    · split
      · exact .next hs
      · exact .next ((hs.advance _).stomp _ _ _ _ _ _)

theorem goes_execClassmapWrite (hs : Kept s₀ s) (ag : Agent) (v : W32) : Goes s₀ (execClassmapWrite ag v s) :=
  .ite (.next (hs.refuse _ _ _)) (.ite (.next (hs.refuse _ _ _)) (.next ((hs.setReg _ _).status _)))

theorem Kept.takeLog (hs : Kept s₀ s) (n : Nat) {u : State} (hu : s.takeLog n = some u) : Kept s₀ u := by
  unfold State.takeLog at hu
  grind [Kept.setLink, Kept.setHead, Kept.pushElem, Kept.allocChain, Kept.update, Kept.foldl]

theorem goes_execDropLogResize (hs : Kept s₀ s) (ag : Agent) (cells : BitVec 8) :
    Goes s₀ (execDropLogResize ag cells s) := by
  unfold execDropLogResize
  refine .ite (.next (hs.status _)) (.ite (.next (hs.refuse _ _ _)) (.ite (.next (hs.refuse _ _ _)) ?_))
  split
  next h => exact .next (((hs.takeLog _ h).setReg _ _).status _)
  next => exact .next (hs.refuse _ _ _)

/-! ### The lockkeeper -/

theorem Kept.setFloors (hs : Kept s₀ s) : Kept s₀ s.setFloors := hs.update

theorem Kept.startMiss (hs : Kept s₀ s) (m : Miss) : Kept s₀ (s.startMiss m) := by
  dsimp only [State.startMiss]
  split
  · exact hs
  · exact .ite hs.update (.ite ((hs.update.count _).dramEnter _ _ _ _ _ _ _) hs.update)

theorem kept_startMisses (hs : Kept s₀ s) (l : List Miss) : Kept s₀ (startMisses l s) := by
  induction l generalizing s with
  | nil => exact hs
  | cons m rest ih => exact ih (hs.startMiss m)

theorem Kept.pumpMisses (hs : Kept s₀ s) : Kept s₀ s.pumpMisses := kept_startMisses hs.update _

theorem Kept.evictLine (hs : Kept s₀ s) (l : Line) : Kept s₀ (s.evictLine l) := by
  dsimp only [State.evictLine]
  split
  · exact hs.update.dramEnter _ _ _ _ _ _ _
  · exact hs.update

theorem Kept.endMiss (hs : Kept s₀ s) (c : Nat) : Kept s₀ (s.endMiss c) := hs.update

theorem Kept.addLine (hs : Kept s₀ s) (c : Nat) : Kept s₀ (s.addLine c) := (((hs.endMiss _).update).pumpMisses).matching

theorem goes_execContextFillComplete (hs : Kept s₀ s) (ctx : BitVec 12) (bad : Bool) :
    Goes s₀ (execContextFillComplete ctx bad s) := by
  dsimp only [execContextFillComplete]
  split
  · exact .next hs
  · split
    · exact .next (((hs.endMiss _).pumpMisses).raise _)
    · split
      · exact .next (hs.addLine _)
      · split
        · exact .next ((hs.evictLine _).addLine _)
        · exact .next (hs.raise _)

theorem Kept.beginWait (hs : Kept s₀ s) (n : Nat) (ws : List Nat) (tmo : Nat) : Kept s₀ (s.beginWait n ws tmo) :=
  (kept_startMisses ((hs.update.setThread _ _).update) _).matching

theorem Kept.dropMatch (hs : Kept s₀ s) (n : Nat) : Kept s₀ (s.dropMatch n) := hs.update.setThread _ _

theorem Kept.clearSlot (hs : Kept s₀ s) (w : Nat) : Kept s₀ (s.clearSlot w) := hs.setSlot _ _

theorem Kept.block (hs : Kept s₀ s) (w : SlotId) (n : Nat) (ws : List Nat) (tmo : Nat) (used : Bool) (next : W32) :
    Kept s₀ (s.block w n ws tmo used next) :=
  (((((hs.drain _).landAll _).dropMatch _).setThread _ _).clearSlot _).beginWait _ _ _

theorem Kept.loadThread (hs : Kept s₀ s) (w n : Nat) : Kept s₀ (s.loadThread w n) :=
  (((hs.setSlot _ _).setThread _ _).update).count _

theorem goes_execDispatch (hs : Kept s₀ s) (program : Fin 33) : Goes s₀ (execDispatch program s) := by
  unfold execDispatch
  split
  · exact .next hs
  · split
    · exact .next (hs.loadThread _ _)
    · exact .next hs

theorem goes_execSaveAreaPresent (hs : Kept s₀ s) (w : SlotId) : Goes s₀ (execSaveAreaPresent w s) :=
  .next (hs.setSlot _ _)

theorem goes_execWaitTimeout (hs : Kept s₀ s) (n : Fin 2064) : Goes s₀ (execWaitTimeout n s) := by
  dsimp only [execWaitTimeout]
  split
  · exact .next (((((hs.advance _).update).setThread _ _).count _).raise _)
  · exact .next hs

theorem Kept.returnFrame (hs : Kept s₀ s) (n : Nat) : Kept s₀ (s.returnFrame n) := by
  dsimp only [State.returnFrame]
  split
  · exact hs
  · split
    · exact hs.setThread _ _
    · exact ((hs.setThread _ _).setFrame _ _).setTokens _ _

theorem Kept.vacate (hs : Kept s₀ s) (w : SlotId) (event : Nat) : Kept s₀ (s.vacate w event) :=
  (((hs.drain _).agentDies _ _).disarmAgent _).clearSlot _

theorem Kept.endThread (hs : Kept s₀ s) (n : Nat) (st : Status) (value : Nat) : Kept s₀ (s.endThread n st value) := by
  have h1 : Kept s₀ (match (s.thread n).st with
      | .running w => if h : w < 516 then s.vacate ⟨w, h⟩ 1 else s
      | _ => s) := by
    split
    · split
      · exact hs.vacate _ _
      · exact hs
    · exact hs
  exact (((h1.dropMatch _).returnFrame _).update.setThread _ _).matching

theorem Kept.abortThread (hs : Kept s₀ s) (n : Nat) (st : Status) : Kept s₀ (s.abortThread n st) :=
  ((hs.endThread _ _ _).count _).raise _

theorem goes_execThreadExit (hs : Kept s₀ s) (n : Fin 2064) : Goes s₀ (execThreadExit n s) := by
  dsimp only [execThreadExit]
  split
  · exact .next (.ite (hs.setThread _ _) ((hs.setThread _ _).postReserved _ _ _))
  · exact .next hs

theorem Kept.abortReq (hs : Kept s₀ s) (warden : Bool) (self h tag : Nat) :
    Kept s₀ (s.abortReq warden self h tag) := by
  refine Kept.post ?_ _ _ _
  split
  · split
    · exact hs
    · exact hs.abortThread _ _
  · exact hs

theorem Kept.timerReq (hs : Kept s₀ s) (tag delay : Nat) : Kept s₀ (s.timerReq tag delay).2 := by
  dsimp only [State.timerReq]
  split
  · exact hs
  · split
    · exact hs
    · exact (hs.reserve _).update

theorem Kept.passReqs (hs : Kept s₀ s) (w : Nat) (l : List LkReq) : Kept s₀ (s.passReqs w l) := by
  fun_induction State.passReqs s w l with
  | case1 _ _ _ _ _ ih => exact ih (hs.abortReq _ _ _ _)
  | case2 _ _ _ _ ih => exact ih (hs.timerReq _ _)
  | case3 => exact hs.setSlot _ _

theorem Kept.queueReq (hs : Kept s₀ s) (w : SlotId) (r : LkReq) : Kept s₀ (s.queueReq w r).2 := by
  dsimp only [State.queueReq]
  split
  · exact hs.drain _
  · split
    · exact (hs.drain _).setSlot _ _
    · split
      · exact (hs.drain _).abortReq _ _ _ _
      · exact (hs.drain _).setSlot _ _
    · split
      · exact (hs.drain _).timerReq _ _
      · exact (hs.drain _).setSlot _ _

theorem Kept.lkCreate (hs : Kept s₀ s) (w : SlotId) (addr : W32) : Kept s₀ (s.lkCreate w addr).2 := hs.queueReq _ _

theorem Kept.lkAbort (hs : Kept s₀ s) (w : SlotId) (v : W32) : Kept s₀ (s.lkAbort w v).2 := hs.queueReq _ _

theorem Kept.lkTmarm (hs : Kept s₀ s) (w : SlotId) (delay : W32) : Kept s₀ (s.lkTmarm w delay).2 := by
  unfold State.lkTmarm
  split
  · exact hs
  · split
    · exact hs
    · exact hs.queueReq _ _

theorem Kept.lkTmtag (hs : Kept s₀ s) (w : SlotId) (v : W32) : Kept s₀ (s.lkTmtag w v).2 := by
  dsimp only [State.lkTmtag]
  split
  · exact hs.setSlot _ _
  · exact hs

theorem Kept.lkExit (hs : Kept s₀ s) (w : SlotId) (v : W32) : Kept s₀ (s.lkExit w v).2 := by
  unfold State.lkExit
  split
  · exact hs
  · split
    · exact hs
    · exact hs.endThread _ _ _

theorem Kept.lkWaittmo (hs : Kept s₀ s) (w : SlotId) (v : W32) : Kept s₀ (s.lkWaittmo w v).2 := hs.setSlot _ _

theorem Kept.lkPrio (hs : Kept s₀ s) (w : SlotId) (v : W32) : Kept s₀ (s.lkPrio w v).2 := by
  dsimp only [State.lkPrio]
  split
  · exact hs
  · exact hs.setThread _ _

theorem goes_execLkCreate (hs : Kept s₀ s) (w : SlotId) (addr : W32) : Goes s₀ (execLkCreate w addr s) :=
  .next (Kept.slotAnswer (hs.lkCreate _ _) _)

theorem goes_execLkExit (hs : Kept s₀ s) (w : SlotId) (v : W32) : Goes s₀ (execLkExit w v s) :=
  .next (.ite ((hs.lkExit _ _).status _) (Kept.slotAnswer (hs.lkExit _ _) _))

theorem goes_execLkAbort (hs : Kept s₀ s) (w : SlotId) (v : W32) : Goes s₀ (execLkAbort w v s) :=
  .next (Kept.slotAnswer (hs.lkAbort _ _) _)

theorem goes_execLkWaittmo (hs : Kept s₀ s) (w : SlotId) (v : W32) : Goes s₀ (execLkWaittmo w v s) :=
  .next (Kept.slotAnswer (hs.lkWaittmo _ _) _)

theorem goes_execLkPrio (hs : Kept s₀ s) (w : SlotId) (v : W32) : Goes s₀ (execLkPrio w v s) :=
  .next (Kept.slotAnswer (hs.lkPrio _ _) _)

theorem goes_execLkTmarm (hs : Kept s₀ s) (w : SlotId) (delay : W32) : Goes s₀ (execLkTmarm w delay s) :=
  .next (Kept.slotAnswer (hs.lkTmarm _ _) _)

theorem goes_execTimerExpiry (hs : Kept s₀ s) (k : Fin 256) : Goes s₀ (execTimerExpiry k s) := by
  dsimp only [execTimerExpiry]
  split
  · exact .next hs
  · exact .next (((hs.advance _).update).postReserved _ _ _)

theorem goes_execLkpAbort (hs : Kept s₀ s) (ag : Agent) (handle : BitVec 16) : Goes s₀ (execLkpAbort ag handle s) := by
  dsimp only [execLkpAbort]
  split
  · exact .next (hs.refuse _ _ _)
  · split
    · exact .next (hs.refuse _ _ _)
    · split
      · exact .next (hs.status _)
      · exact .next ((hs.abortThread _ _).status _)

theorem Kept.makeThread (hs : Kept s₀ s) (warden : Bool) (r : List Byte) (n : Nat) :
    Kept s₀ (s.makeThread warden r n) :=
  (hs.setThread _ _).update

theorem Kept.create (hs : Kept s₀ s) (warden : Bool) (r : List Byte) : Kept s₀ (s.create warden r).2.2 := by
  dsimp only [State.create]
  split
  · exact hs
  · split
    · exact hs
    · split
      · exact hs
      · exact (Kept.ite hs (hs.reserve _)).makeThread _ _ _

theorem goes_execThreadCreate (hs : Kept s₀ s) (w : SlotId) : Goes s₀ (execThreadCreate w s) := by
  dsimp only [execThreadCreate]
  split
  · split
    · exact .next (((hs.raise _).passReqs _ _).status _)
    · exact .ite (.next (((hs.raise _).passReqs _ _).status _))
        (.ite (.next hs) (.next ((((Kept.ite ((hs.reserve _).create _ _)
        (((hs.reserve _).create _ _).raise _)).postReserved _ _ _).passReqs _ _).status _)))
  · exact .next hs

theorem Kept.rootThread (hs : Kept s₀ s) (prog entry : Nat) : Kept s₀ (s.rootThread prog entry) := by
  dsimp only [State.rootThread]
  split
  · exact hs
  · exact (hs.setThread _ _).update

theorem Kept.loadCore (hs : Kept s₀ s) (c : Nat) (p : ProgCfg) : Kept s₀ (s.loadCore c p) :=
  (hs.writeBytes _ _).writeBytes _ _

theorem Kept.addCores (hs : Kept s₀ s) (d : Int) : Kept s₀ (s.addCores d) := hs.setFld _ _ _ _

theorem Kept.setQuar (hs : Kept s₀ s) (c : Nat) (v : Bool) : Kept s₀ (s.setQuar c v) := hs.setReg _ _

theorem Kept.nextReturn (hs : Kept s₀ s) : Kept s₀ s.nextReturn := by
  dsimp only [State.nextReturn]
  split
  · exact hs.update.hwSwitch _ _
  · exact hs

theorem Kept.askReturn (hs : Kept s₀ s) (c : Nat) : Kept s₀ (s.askReturn c) := hs.update.nextReturn

theorem Kept.rollBack (hs : Kept s₀ s) (w : SlotId) : Kept s₀ (s.rollBack w) := by
  unfold State.rollBack
  grind [Kept.setThread, Kept.setFrame, Kept.vacate, Kept.update]

theorem Kept.dropReturn (hs : Kept s₀ s) (c : Nat) : Kept s₀ (s.dropReturn c) := hs.update.nextReturn

theorem Kept.noteQuarantine (hs : Kept s₀ s) (c reason : Nat) : Kept s₀ (s.noteQuarantine c reason) :=
  (((hs.setQuar _ _).setReg _ _).raise _).raise _

theorem Kept.orphans (hs : Kept s₀ s) (pound : Option Nat) : Kept s₀ (s.orphans pound) :=
  .ite hs (hs.foldl _ fun _ _ h => h.returnFrame _)

theorem Kept.quarantine (hs : Kept s₀ s) (c reason : Nat) : Kept s₀ (s.quarantine c reason) := by
  unfold State.quarantine
  extract_lets x s1 s2 s2' s3 spare
  have h1 : Kept s₀ s1 := Kept.foldl hs _ fun u w h => by grind [Kept.rollBack]
  have h2 : Kept s₀ s2' := (((h1.setCore _ _).hwSwitch _ _).dropReturn _).orphans _
  have h3 : Kept s₀ s3 := ((Kept.ite (h2.addCores _) h2).noteQuarantine _ _).matching
  clear_value s3
  grind [Kept.setCore, Kept.askReturn]

theorem goes_execCoreQuarantine (hs : Kept s₀ s) (core : Fin 64) (reason : Fin 3) :
    Goes s₀ (execCoreQuarantine core reason s) := by
  unfold execCoreQuarantine
  split
  · exact .next (hs.quarantine _ _)
  · exact .next (hs.quarantine _ _)
  · exact .next (.ite (hs.quarantine _ _) hs)

theorem Kept.qcmdDone (hs : Kept s₀ s) (st : Status) : Kept s₀ (s.qcmdDone st) := (hs.setFld _ _ _ _).status _

theorem goes_execLkpQcmdQuarantine (hs : Kept s₀ s) (ag : Agent) (core : Fin 64) :
    Goes s₀ (execLkpQcmdQuarantine ag core s) :=
  .ite (.next (hs.refuse _ _ _)) (.ite (.next (hs.refuse _ _ _))
    (.ite (.next (hs.qcmdDone _)) (.ite (.next (hs.qcmdDone _)) (.next ((hs.quarantine _ _).qcmdDone _)))))

theorem goes_execLkpQcmdReturn (hs : Kept s₀ s) (ag : Agent) (core : Fin 64) : Goes s₀ (execLkpQcmdReturn ag core s) :=
  .ite (.next (hs.refuse _ _ _)) (.ite (.next (hs.refuse _ _ _))
    (.ite (.next (hs.qcmdDone _)) (.next ((hs.askReturn _).qcmdDone _))))

theorem goes_execCoreReturnPrepared (hs : Kept s₀ s) (pass : Bool) : Goes s₀ (execCoreReturnPrepared pass s) := by
  unfold execCoreReturnPrepared
  grind [Kept.setCore, Kept.hwArm, Kept.loadCore, Kept.quarantine, Kept.update, Goes.next]

theorem Kept.coreJoins (hs : Kept s₀ s) : Kept s₀ s.coreJoins := by
  dsimp only [State.coreJoins]
  split
  · exact hs
  · split
    · exact hs
    · split
      · exact (((hs.update.setCore _ _).setQuar _ _).addCores _).nextReturn
      · exact ((((hs.update.setCore _ _).setQuar _ _).addCores _).raise _).nextReturn

theorem Kept.endPrefetch (hs : Kept s₀ s) : Kept s₀ s.endPrefetch := hs.update

theorem Kept.dropPrefetch (hs : Kept s₀ s) (named : List Nat) (swapped : Bool) :
    Kept s₀ (s.dropPrefetch named swapped) :=
  (hs.update.countBy _ _).pumpMisses

theorem Kept.prefetch (hs : Kept s₀ s) (swapped : Bool) : Kept s₀ (s.prefetch swapped) := by
  dsimp only [State.prefetch]
  split
  · exact hs.endPrefetch
  · split
    · exact hs.endPrefetch.setFld _ _ _ _
    · exact kept_startMisses ((hs.endPrefetch.dropPrefetch _ _).update) _

/-! ### Issue of an instruction -/

theorem Kept.trapStatus (hs : Kept s₀ s) (vec : Nat) (st : Status) : Kept s₀ (s.trapStatus vec st).2 := by
  unfold State.trapStatus
  split
  · exact hs.fresh
  · split
    · exact hs
    · exact hs

theorem Kept.coreFault (hs : Kept s₀ s) (w : Nat) : Kept s₀ (s.coreFault w) := .ite (hs.raise _) hs

theorem Kept.trap (hs : Kept s₀ s) (w : SlotId) (vec : Nat) (st : Status) (pc : W32) :
    Kept s₀ (s.trap w vec st pc) := by
  dsimp only [State.trap]
  split
  · split
    · exact ((hs.landAll _).abortThread _ _).coreFault _
    · exact hs.landAll _
  · exact ((hs.landAll _).trapStatus _ _).setSlot _ _

theorem Kept.undef (hs : Kept s₀ s) (w : SlotId) : Kept s₀ (s.undef w) := hs.trap _ _ _ _

theorem Kept.accessFault (hs : Kept s₀ s) (w : SlotId) (kind space size : Nat) (store : Bool) (addr pc : W32) :
    Kept s₀ (s.accessFault w kind space size store addr pc) :=
  (hs.setSlot _ _).trap _ _ _ _

theorem Kept.fetchFault (hs : Kept s₀ s) (w : SlotId) (target pc : W32) : Kept s₀ (s.fetchFault w target pc) :=
  hs.accessFault _ _ _ _ _ _ _

theorem Goes.issue (hs : Kept s₀ s) (w : SlotId) (ok : Bool) (f : Slot → State → State)
    (hf : ∀ a u, Kept s₀ u → Kept s₀ (f a u)) : Goes s₀ (s.issue w ok f) := by
  unfold State.issue
  grind [Kept.setSlot, Kept.undef, Kept.fetchFault, Goes.next]

theorem Kept.saved (hs : Kept s₀ s) (w : SlotId) : Kept s₀ (s.saved w) := .ite ((hs.landAll _).setSlot _ _) hs

theorem Kept.done1 (hs : Kept s₀ s) (w : SlotId) (x : Slot) (ws : List PWrite) : Kept s₀ (s.done1 w x ws) :=
  hs.retire _ _ _ _

theorem Kept.done2 (hs : Kept s₀ s) (w : SlotId) (x : Slot) (ws : List PWrite) : Kept s₀ (s.done2 w x ws) :=
  hs.retire _ _ _ _

theorem Goes.alu1 (hs : Kept s₀ s) (w : SlotId) (ok : Bool) (rd : RegCode) (f : Ctx → Alu) :
    Goes s₀ (s.alu1 w ok rd f) :=
  Goes.issue hs _ _ _ (fun _ _ h => h.done1 _ _ _)

theorem Goes.alu2 (hs : Kept s₀ s) (w : SlotId) (ok : Bool) (rd : RegCode) (f : Ctx → Alu) :
    Goes s₀ (s.alu2 w ok rd f) :=
  Goes.issue hs _ _ _ (fun _ _ h => h.done2 _ _ _)

theorem Kept.loadReach (hs : Kept s₀ s) (w : SlotId) (a n : Nat) : Kept s₀ (s.loadReach w a n) :=
  .ite (hs.dramAccess _ _ _ _ _ _) hs

theorem Kept.postStore (hs : Kept s₀ s) (w : SlotId) (a : Nat) (bs : List Byte) : Kept s₀ (s.postStore w a bs) := by
  dsimp only [State.postStore]
  split
  · exact hs.writeBytes _ _
  · split
    · exact .ite (((hs.setSlot _ _).performStore _ _).setSlot _ _) (hs.setSlot _ _)
    · exact hs.setSlot _ _

/-! ### Arithmetic and logic -/

theorem goes_execAdd (hs : Kept s₀ s) (w : SlotId) (rd ra rb : RegCode) : Goes s₀ (execAdd w rd ra rb s) :=
  Goes.alu1 hs _ _ _ _

theorem goes_execAddc (hs : Kept s₀ s) (w : SlotId) (rd ra rb : RegCode) : Goes s₀ (execAddc w rd ra rb s) :=
  Goes.alu1 hs _ _ _ _

theorem goes_execSub (hs : Kept s₀ s) (w : SlotId) (rd ra rb : RegCode) : Goes s₀ (execSub w rd ra rb s) :=
  Goes.alu1 hs _ _ _ _

theorem goes_execSubc (hs : Kept s₀ s) (w : SlotId) (rd ra rb : RegCode) : Goes s₀ (execSubc w rd ra rb s) :=
  Goes.alu1 hs _ _ _ _

theorem goes_execAndR (hs : Kept s₀ s) (w : SlotId) (rd ra rb : RegCode) : Goes s₀ (execAndR w rd ra rb s) :=
  Goes.alu1 hs _ _ _ _

theorem goes_execOrR (hs : Kept s₀ s) (w : SlotId) (rd ra rb : RegCode) : Goes s₀ (execOrR w rd ra rb s) :=
  Goes.alu1 hs _ _ _ _

theorem goes_execXor (hs : Kept s₀ s) (w : SlotId) (rd ra rb : RegCode) : Goes s₀ (execXor w rd ra rb s) :=
  Goes.alu1 hs _ _ _ _

theorem goes_execAndn (hs : Kept s₀ s) (w : SlotId) (rd ra rb : RegCode) : Goes s₀ (execAndn w rd ra rb s) :=
  Goes.alu1 hs _ _ _ _

theorem goes_execShl (hs : Kept s₀ s) (w : SlotId) (rd ra rb : RegCode) : Goes s₀ (execShl w rd ra rb s) :=
  Goes.alu1 hs _ _ _ _

theorem goes_execShr (hs : Kept s₀ s) (w : SlotId) (rd ra rb : RegCode) : Goes s₀ (execShr w rd ra rb s) :=
  Goes.alu1 hs _ _ _ _

theorem goes_execSar (hs : Kept s₀ s) (w : SlotId) (rd ra rb : RegCode) : Goes s₀ (execSar w rd ra rb s) :=
  Goes.alu1 hs _ _ _ _

theorem goes_execRor (hs : Kept s₀ s) (w : SlotId) (rd ra rb : RegCode) : Goes s₀ (execRor w rd ra rb s) :=
  Goes.alu1 hs _ _ _ _

theorem goes_execShli (hs : Kept s₀ s) (w : SlotId) (rd ra : RegCode) (sh : BitVec 5) :
    Goes s₀ (execShli w rd ra sh s) :=
  Goes.alu1 hs _ _ _ _

theorem goes_execShri (hs : Kept s₀ s) (w : SlotId) (rd ra : RegCode) (sh : BitVec 5) :
    Goes s₀ (execShri w rd ra sh s) :=
  Goes.alu1 hs _ _ _ _

theorem goes_execSari (hs : Kept s₀ s) (w : SlotId) (rd ra : RegCode) (sh : BitVec 5) :
    Goes s₀ (execSari w rd ra sh s) :=
  Goes.alu1 hs _ _ _ _

theorem goes_execRori (hs : Kept s₀ s) (w : SlotId) (rd ra : RegCode) (sh : BitVec 5) :
    Goes s₀ (execRori w rd ra sh s) :=
  Goes.alu1 hs _ _ _ _

theorem goes_execMul (hs : Kept s₀ s) (w : SlotId) (rd ra rb : RegCode) : Goes s₀ (execMul w rd ra rb s) :=
  Goes.alu2 hs _ _ _ _

theorem goes_execMulh (hs : Kept s₀ s) (w : SlotId) (rd ra rb : RegCode) : Goes s₀ (execMulh w rd ra rb s) :=
  Goes.alu2 hs _ _ _ _

theorem goes_execMulhu (hs : Kept s₀ s) (w : SlotId) (rd ra rb : RegCode) : Goes s₀ (execMulhu w rd ra rb s) :=
  Goes.alu2 hs _ _ _ _

theorem goes_execCmp (hs : Kept s₀ s) (w : SlotId) (ra rb : RegCode) : Goes s₀ (execCmp w ra rb s) :=
  Goes.alu1 hs _ _ _ _

theorem goes_execTst (hs : Kept s₀ s) (w : SlotId) (ra rb : RegCode) : Goes s₀ (execTst w ra rb s) :=
  Goes.alu1 hs _ _ _ _

theorem goes_execClz (hs : Kept s₀ s) (w : SlotId) (rd ra : RegCode) : Goes s₀ (execClz w rd ra s) :=
  Goes.alu1 hs _ _ _ _

theorem goes_execAddi (hs : Kept s₀ s) (w : SlotId) (rd ra : RegCode) (imm : BitVec 16) :
    Goes s₀ (execAddi w rd ra imm s) :=
  Goes.alu1 hs _ _ _ _

theorem goes_execAndi (hs : Kept s₀ s) (w : SlotId) (rd ra : RegCode) (imm : BitVec 16) :
    Goes s₀ (execAndi w rd ra imm s) :=
  Goes.alu1 hs _ _ _ _

theorem goes_execOri (hs : Kept s₀ s) (w : SlotId) (rd ra : RegCode) (imm : BitVec 16) :
    Goes s₀ (execOri w rd ra imm s) :=
  Goes.alu1 hs _ _ _ _

theorem goes_execXori (hs : Kept s₀ s) (w : SlotId) (rd ra : RegCode) (imm : BitVec 16) :
    Goes s₀ (execXori w rd ra imm s) :=
  Goes.alu1 hs _ _ _ _

theorem goes_execCmpi (hs : Kept s₀ s) (w : SlotId) (ra : RegCode) (imm : BitVec 16) : Goes s₀ (execCmpi w ra imm s) :=
  Goes.alu1 hs _ _ _ _

theorem goes_execLui (hs : Kept s₀ s) (w : SlotId) (rd : RegCode) (imm : BitVec 16) : Goes s₀ (execLui w rd imm s) :=
  Goes.alu1 hs _ _ _ _

/-! ### The Ethernet ports -/

theorem Kept.gateDrop (hs : Kept s₀ s) (p : Nat) : Kept s₀ (s.gateDrop p) := by
  refine hs.foldl _ fun u q h => .ite ?_ h
  split
  · exact h
  · exact (((h.setPort _ _).count _).raise _).egPortDone _ _

theorem goes_execPortLinkUp (hs : Kept s₀ s) (p : Fin 8) (speed : Fin 3) (halfDup : Bool) :
    Goes s₀ (execPortLinkUp p speed halfDup s) :=
  .ite (.next hs) (.ite (.next ((hs.setFld _ _ _ _).raise _))
    (.ite (.next ((hs.setFld _ _ _ _).raise _)) (.next (((hs.setReg _ _).setPort _ _).raise _))))

theorem goes_execPortReturnCount (hs : Kept s₀ s) (p : Fin 8) : Goes s₀ (execPortReturnCount p s) := by
  dsimp only [execPortReturnCount]
  split
  · exact .next hs
  · exact .ite (.next hs) (.next (((hs.advance _).setPort _ _).hwArm _))

theorem Kept.portsReturn (hs : Kept s₀ s) : Kept s₀ s.portsReturn :=
  hs.foldl _ fun _ _ h => .ite (((h.setPort _ _).setFld _ _ _ _).update.raise _) h

theorem Kept.cutSending (hs : Kept s₀ s) (p : Nat) (g : Sending) : Kept s₀ (s.cutSending p g) :=
  (hs.update.count _).egPortDone _ _

theorem Kept.leaveService (hs : Kept s₀ s) (p : Nat) : Kept s₀ (s.leaveService p) := by
  unfold State.leaveService
  extract_lets x a was s0 s1 l lost s2 s3 s4 queued s5 s6
  have h1 : Kept s₀ s1 := (hs.setReg _ _).setPort _ _
  have h2 : Kept s₀ s2 := (h1.setRx _ _).countBy _ _
  have h3 : Kept s₀ s3 := by grind [Kept.setDone]
  have h4 : Kept s₀ s4 := by grind [Kept.cutSending]
  have h5 : Kept s₀ s5 := Kept.foldl h4 _ fun _ _ h => (h.count _).egPortDone _ _
  have h6 : Kept s₀ s6 := (h5.raise _).raise _
  exact .ite h1 (.ite (h6.tblEnqueue _) h6)

theorem goes_execPortLeaveService (hs : Kept s₀ s) (p : Fin 8) : Goes s₀ (execPortLeaveService p s) :=
  .ite (.next (hs.leaveService _)) (.next hs)

theorem goes_execPauseReceived (hs : Kept s₀ s) (p : Fin 8) (quanta : BitVec 16) :
    Goes s₀ (execPauseReceived p quanta s) :=
  .ite (.next hs) (.ite (.ite (.next ((((hs.count _).raise _).setPort _ _).setFld _ _ _ _))
    (.next ((((hs.count _).raise _).setPort _ _).setFld _ _ _ _))) (.next ((hs.count _).raise _)))

theorem goes_execPauseExpiry (hs : Kept s₀ s) (p : Fin 8) : Goes s₀ (execPauseExpiry p s) := by
  dsimp only [execPauseExpiry]
  split
  · exact .next hs
  · exact .next (((hs.advance _).setPort _ _).setFld _ _ _ _)

theorem goes_execPauseqWrite (hs : Kept s₀ s) (ag : Agent) (p : Fin 8) (v : W32) : Goes s₀ (execPauseqWrite ag p v s) :=
  .ite (.next (hs.refuse _ _ _)) (.ite (.next (hs.refuse _ _ _))
    (.ite (.next (hs.refuse _ _ _)) (.next ((hs.setReg _ _).status _))))

theorem Kept.applyEntry (hs : Kept s₀ s) (p k : Nat) : Kept s₀ (s.applyEntry p k) := by
  dsimp only [State.applyEntry]
  split
  · exact (hs.setFld _ _ _ _).setPort _ _
  · exact (hs.setFld _ _ _ _).setPort _ _
  · exact hs.setFld _ _ _ _

theorem Kept.gclTurn (hs : Kept s₀ s) (p : Nat) : Kept s₀ (s.gclTurn p) :=
  .ite ((hs.setPort _ _).setFld _ _ _ _) (((hs.setPort _ _).setFld _ _ _ _).applyEntry _ _)

theorem goes_execGateEntryBegin (hs : Kept s₀ s) (p : Fin 8) : Goes s₀ (execGateEntryBegin p s) :=
  .ite (.next ((hs.advance _).applyEntry _ _)) (.next hs)

theorem Kept.startFrame (hs : Kept s₀ s) (p q e : Nat) : Kept s₀ (s.startFrame p q e) := by
  dsimp only [State.startFrame]
  split
  · exact ((hs.setPort _ _).setPort _ _).setEg _ _
  · exact (hs.setPort _ _).setPort _ _

theorem goes_execEgressFrameStart (hs : Kept s₀ s) (p : Fin 8) : Goes s₀ (execEgressFrameStart p s) := by
  dsimp only [execEgressFrameStart]
  split
  · exact .next hs
  · split
    · exact .next ((hs.gateDrop _).startFrame _ _ _)
    · split
      · exact .next (hs.gateDrop _)
      · exact .ite (.next (((hs.gateDrop _).setPort _ _).count _)) (.next (hs.gateDrop _))

theorem goes_execFragmentPreempt (hs : Kept s₀ s) (p : Fin 8) : Goes s₀ (execFragmentPreempt p s) := by
  dsimp only [execFragmentPreempt]
  split
  · exact .next hs
  · split
    · exact .next hs
    · exact .ite (.next hs) (.next ((hs.advance _).setPort _ _))

theorem goes_execEgressFrameSent (hs : Kept s₀ s) (p : Fin 8) : Goes s₀ (execEgressFrameSent p s) := by
  unfold execEgressFrameSent
  split
  · exact .next hs
  split
  · exact .next (hs.setPort _ _)
  extract_lets s0 s1 x out o _ s2 s3 s4 s5 s6
  have h1 : Kept s₀ s1 := by grind [Kept.advance, Kept.stomp]
  have h3 : Kept s₀ s3 := (h1.update.count _).countBy _ _
  have h4 : Kept s₀ s4 := .ite (h3.count _) h3
  have h5 : Kept s₀ s5 := .ite (h4.count _) h4
  have h6 : Kept s₀ s6 := .ite (h5.stamp _ _) h5
  exact .next ((h6.setPort _ _).egPortDone _ _)

theorem goes_execVerifyFrameSend (hs : Kept s₀ s) (p : Fin 8) : Goes s₀ (execVerifyFrameSend p s) :=
  .ite (.ite (.next (hs.setPort _ _)) (.next ((hs.setFld _ _ _ _).raise _))) (.next hs)

theorem goes_execVerifyResponse (hs : Kept s₀ s) (p : Fin 8) : Goes s₀ (execVerifyResponse p s) :=
  .ite (.next (hs.setFld _ _ _ _)) (.next hs)

theorem goes_execTspop (hs : Kept s₀ s) (ag : Agent) (p : Fin 9) : Goes s₀ (execTspop ag p s) :=
  .ite (.next (hs.refuse _ _ _)) (.next (((((hs.setPort _ _).setReg _ _).setReg _ _).setReg _ _).answer _ _))

theorem Kept.mdioStart (hs : Kept s₀ s) (ag : Agent) (b : Nat) (v : W32) : Kept s₀ (s.mdioStart ag b v) :=
  .ite (hs.refuse _ _ _) (.ite ((hs.setFld _ _ _ _).status _) ((hs.update.setFld _ _ _ _).status _))

theorem goes_execMdioWrite (hs : Kept s₀ s) (ag : Agent) (b : Fin 2) (phy reg : BitVec 5) (cl45 token : Bool)
    (data : BitVec 16) : Goes s₀ (execMdioWrite ag b phy reg cl45 token data s) :=
  .next (hs.mdioStart _ _ _)

theorem goes_execMdioRead (hs : Kept s₀ s) (ag : Agent) (b : Fin 2) (phy reg : BitVec 5) (cl45 token : Bool) :
    Goes s₀ (execMdioRead ag b phy reg cl45 token s) :=
  .next (hs.mdioStart _ _ _)

theorem goes_execMdioAddress (hs : Kept s₀ s) (ag : Agent) (b : Fin 2) (phy reg : BitVec 5) (token : Bool)
    (data : BitVec 16) : Goes s₀ (execMdioAddress ag b phy reg token data s) :=
  .next (hs.mdioStart _ _ _)

theorem goes_execMdioReadIncrement (hs : Kept s₀ s) (ag : Agent) (b : Fin 2) (phy reg : BitVec 5) (token : Bool) :
    Goes s₀ (execMdioReadIncrement ag b phy reg token s) :=
  .next (hs.mdioStart _ _ _)

theorem goes_execMdioComplete (hs : Kept s₀ s) (b : Fin 2) (data : BitVec 16) :
    Goes s₀ (execMdioComplete b data s) := by
  dsimp only [execMdioComplete]
  split
  · exact .next hs
  · exact .next ((Kept.ite ((hs.update.setReg _ _).post _ _ _) (hs.update.setReg _ _)).raise _)

/-! ### Barges and partners -/

theorem Kept.lateStatus (hs : Kept s₀ s) (ag : Agent) (st : Status) : Kept s₀ (s.lateStatus ag st) := by
  unfold State.lateStatus
  refine Kept.status ?_ _
  split
  · split
    · exact hs.setSlot _ _
    · exact hs
  · exact hs

theorem Kept.setPartner (hs : Kept s₀ s) (p : Nat) (x : Partner) : Kept s₀ (s.setPartner p x) := hs.update

theorem Kept.armBind (hs : Kept s₀ s) (c : BindChange) : Kept s₀ (s.armBind c).2 := by
  dsimp only [State.armBind]
  split
  · exact hs.update.hwArm _
  · exact hs.update.hwArm _

theorem Kept.applyBind (hs : Kept s₀ s) (c : BindChange) : Kept s₀ (s.applyBind c) :=
  .ite (hs.setPartner _ _) (hs.setPartner _ _)

theorem Kept.swapBinds (hs : Kept s₀ s) : Kept s₀ s.swapBinds := (hs.foldl _ fun _ _ h => h.applyBind _).update

theorem Kept.partnerToken (hs : Kept s₀ s) (p event : Nat) : Kept s₀ (s.partnerToken p event) :=
  .ite ((hs.reserve _).postReserved _ _ _) hs

theorem Kept.releasePartner (hs : Kept s₀ s) (p reason : Nat) : Kept s₀ (s.releasePartner p reason).2 := by
  have h1 := (hs.setPartner p { s.partner p with st := 3 }).tblEnqueue (t2Cmd 2 (s.partner p).key 0#32)
  have h2 := Kept.ite (c := reason = 2 ∨ reason = 4) (h1.count 0xA0430) h1
  refine Kept.armBind (Kept.partnerToken ?_ _ _) _
  split
  · exact h2.raise _
  · exact h2
  · exact h2.raise _

theorem Kept.putSlot (hs : Kept s₀ s) (n k w : Nat) (bs : List Byte) : Kept s₀ (s.putSlot n k w bs) := hs.writeBytes _ _

theorem Kept.commitCopy (hs : Kept s₀ s) (v : W32) (n k w : Nat) : Kept s₀ (s.commitCopy v n k w).2 := by
  dsimp only [State.commitCopy]
  split
  · exact hs
  · exact (hs.putSlot _ _ _ _).setOut _ _

theorem goes_execBrgCommit (hs : Kept s₀ s) (ag : Agent) (v : W32) : Goes s₀ (execBrgCommit ag v s) := by
  dsimp only [execBrgCommit]
  split
  · exact .next (hs.refuse _ _ _)
  · split
    · exact .next ((hs.drainAgent _).status _)
    · split
      · exact .next (((hs.drainAgent _).commitCopy _ _ _ _).status _)
      · split
        · exact .next ((hs.drainAgent _).status _)
        · exact .ite (.next (((hs.drainAgent _).dramEnter _ _ _ _ _ _ _).update)) (.next ((hs.drainAgent _).status _))

theorem goes_execCommitCopyDone (hs : Kept s₀ s) (ag : Agent) : Goes s₀ (execCommitCopyDone ag s) := by
  dsimp only [execCommitCopyDone]
  split
  · exact .next hs
  · exact .ite (.next (hs.update.lateStatus _ _)) (.next ((hs.update.commitCopy _ _ _ _).lateStatus _ _))

theorem Kept.sealSlot (hs : Kept s₀ s) (n w k : Nat) : Kept s₀ (s.sealSlot n w k).1 := by
  dsimp only [State.sealSlot]
  split
  · exact (hs.putSlot _ _ _ _).update
  · split
    · exact (hs.setPartner _ _).update
    · exact (hs.putSlot _ _ _ _).update

theorem Kept.sealSlots (hs : Kept s₀ s) (n w : Nat) (l : List Nat) : Kept s₀ (s.sealSlots n w l).1 := by
  induction l generalizing s with
  | nil => exact hs
  | cons k rest ih => exact ih (hs.sealSlot n w k)

theorem Kept.noteLate (hs : Kept s₀ s) (n late : Nat) : Kept s₀ (s.noteLate n late) :=
  .ite ((hs.setFld _ _ _ _).countBy _ _) (((hs.setFld _ _ _ _).countBy _ _).raiseFirst _)

theorem Kept.cutCommits (hs : Kept s₀ s) (n : Nat) : Kept s₀ (s.cutCommits n) :=
  hs.foldl _ fun _ _ h => h.update.lateStatus _ _

theorem Kept.finishBarge (hs : Kept s₀ s) (n w : Nat) : Kept s₀ (s.finishBarge n w) := by
  dsimp only [State.finishBarge]
  split
  · split
    · exact ((((hs.writeBytes _ _).writeBytes _ _).writeBytes _ _).update).writeBytes _ _
    · exact (((((((hs.writeBytes _ _).writeBytes _ _).writeBytes _ _).update).writeBytes _ _).writeBytes _ _).count
        _).raiseFirst _
  · exact (((hs.writeBytes _ _).writeBytes _ _).writeBytes _ _).update

theorem Kept.sealBarge (hs : Kept s₀ s) (n : Nat) : Kept s₀ (s.sealBarge n) := by
  unfold State.sealBarge
  extract_lets o s0 count q s1
  have h0 : Kept s₀ s0 := hs.cutCommits _
  have h1 : Kept s₀ s1 := by
    have hl := fun k => (h0.noteLate n k).raise 467
    have hw : ∀ w k, Kept s₀ (((s0.sealSlots n w (rangeFrom count 0)).1.noteLate n k).finishBarge n w) :=
      fun _ _ => ((h0.sealSlots _ _ _).noteLate _ _).finishBarge _ _
    grind [Kept.sendFrom9, Kept.count, Kept.setFld, Kept.freeBuf]
  exact .ite hs ((h1.setOut _ _).checkFinish)

theorem goes_execBargeSeal (hs : Kept s₀ s) (n : Fin 16) : Goes s₀ (execBargeSeal n s) :=
  .ite (.next ((hs.advance _).sealBarge _)) (.next hs)

theorem goes_execInboundCheck (hs : Kept s₀ s) (k : Fin 1024) : Goes s₀ (execInboundCheck k s) := by
  unfold execInboundCheck
  split
  · exact .next hs
  split
  · exact .next hs
  extract_lets st s1 s2 s3 s4
  have h1 : Kept s₀ s1 := (hs.bufWrite _ _ _).count _
  have h2 : Kept s₀ s2 := .ite h1 (h1.count _)
  have h3 : Kept s₀ s3 := .ite (h2.raiseFirst _) h2
  have h4 : Kept s₀ s4 := by grind [Kept.setPartner, Kept.raiseFirst]
  exact .next (h4.setDone _ _)

theorem Kept.evaluate (hs : Kept s₀ s) (p : Nat) : Kept s₀ (s.evaluate p) :=
  .ite (.ite (((((hs.setPartner _ _).tblAdd _).count _).raise _).partnerToken _ _) (hs.setPartner _ _))
    (.ite ((hs.setPartner _ _).releasePartner _ _) (.ite ((hs.setPartner _ _).releasePartner _ _) (hs.setPartner _ _)))

theorem Kept.closeWindow (hs : Kept s₀ s) (p : Nat) : Kept s₀ (s.closeWindow p) :=
  .ite (hs.update.foldl _ fun _ _ h => h.evaluate _).checkFinish hs

theorem goes_execReceiveWindowClose (hs : Kept s₀ s) (p : Fin 8) : Goes s₀ (execReceiveWindowClose p s) :=
  .ite (.next ((hs.advance _).closeWindow _)) (.next hs)

theorem Kept.brgDone (hs : Kept s₀ s) (ag : Agent) (st : Status) (id : Nat) : Kept s₀ (s.brgDone ag st id) :=
  (hs.setReg _ _).answer _ _

theorem Goes.brgGive (hs : Kept s₀ s) (ag : Agent) (f : State → State)
    (hf : ∀ u, Kept s₀ u → Kept s₀ (f u)) : Goes s₀ (s.brgGive ag f) :=
  .ite (.next (hf _ (hs.drainAgent _))) (.next (hs.brgDone _ _ _))

theorem Kept.admitAs (hs : Kept s₀ s) (ag : Agent) (p : Nat) (sa : List Byte) : Kept s₀ (s.admitAs ag p sa) :=
  .ite ((((((hs.tblAdd _).update).setPartner _ _).armBind _).setPartner _ _).brgDone _ _ _)
    (((hs.tblAdd _).update).brgDone _ _ _)

theorem Kept.brgAdmit (hs : Kept s₀ s) (ag : Agent) : Kept s₀ (s.brgAdmit ag) := by
  unfold State.brgAdmit
  grind [Kept.raise, Kept.brgDone, Kept.admitAs]

theorem goes_execAdmit (hs : Kept s₀ s) (ag : Agent) : Goes s₀ (execAdmit ag s) :=
  Goes.brgGive hs _ _ (fun _ h => h.brgAdmit _)

theorem Kept.brgWelcome (hs : Kept s₀ s) (ag : Agent) : Kept s₀ (s.brgWelcome ag) := by
  dsimp only [State.brgWelcome]
  split
  · exact hs.brgDone _ _ _
  · split
    · exact hs.brgDone _ _ _
    · split
      · exact hs.brgDone _ _ _
      · exact .ite (.ite ((((hs.fresh.fresh.allocSize _ _ _).bufWrite _ _ _).sendFrom9 _ _ _ _ _ _).brgDone _ _ _)
          (((((hs.fresh.fresh.allocSize _ _ _).bufWrite _ _ _).sendFrom9 _ _ _ _ _ _).freeBuf _).brgDone _ _ _))
          ((hs.fresh.fresh.allocSize _ _ _).brgDone _ _ _)

theorem goes_execWelcome (hs : Kept s₀ s) (ag : Agent) : Goes s₀ (execWelcome ag s) :=
  Goes.brgGive hs _ _ (fun _ h => h.brgWelcome _)

theorem Kept.brgRelease (hs : Kept s₀ s) (ag : Agent) : Kept s₀ (s.brgRelease ag) :=
  .ite (hs.brgDone _ _ _) (.ite (hs.brgDone _ _ _) ((hs.releasePartner _ _).brgDone _ _ _))

theorem goes_execRelease (hs : Kept s₀ s) (ag : Agent) : Goes s₀ (execRelease ag s) :=
  Goes.brgGive hs _ _ (fun _ h => h.brgRelease _)

theorem Kept.brgBind (hs : Kept s₀ s) (ag : Agent) : Kept s₀ (s.brgBind ag) :=
  .ite (hs.brgDone _ _ _) (.ite (hs.brgDone _ _ _) (.ite (hs.brgDone _ _ _) ((hs.armBind _).brgDone _ _ _)))

theorem goes_execBind (hs : Kept s₀ s) (ag : Agent) : Goes s₀ (execBind ag s) :=
  Goes.brgGive hs _ _ (fun _ h => h.brgBind _)

theorem Kept.brgRead (hs : Kept s₀ s) (ag : Agent) : Kept s₀ (s.brgRead ag) :=
  .ite (hs.brgDone _ _ _) (((hs.setReg _ _).setReg _ _).brgDone _ _ _)

theorem goes_execPartnerRead (hs : Kept s₀ s) (ag : Agent) : Goes s₀ (execPartnerRead ag s) :=
  Goes.brgGive hs _ _ (fun _ h => h.brgRead _)

theorem Kept.fenceBerths (hs : Kept s₀ s) (r : Nat → W32) : Kept s₀ (s.fenceBerths r) := by
  refine hs.foldl _ fun u n h => .ite ?_ h
  have h1 := h.setOut n { u.out n with wantNext := true }
  dsimp only
  split
  · exact .ite ((h1.allocBerth _ _).setOut _ _) (h1.allocBerth _ _)
  · exact h1

theorem Kept.dropCargo (hs : Kept s₀ s) : Kept s₀ s.dropCargo := hs.update

theorem Kept.endBarges (hs : Kept s₀ s) : Kept s₀ s.endBarges := by
  unfold State.endBarges
  extract_lets s1
  have h1 : Kept s₀ s1 := hs.foldl _ fun _ _ h => h.sealBarge _
  clear_value s1
  exact .ite (h1.foldl _ fun _ _ h => h.closeWindow _) h1

theorem Kept.startBarge (hs : Kept s₀ s) (n : Nat) : Kept s₀ (s.startBarge n) := by
  dsimp only [State.startBarge]
  split
  · exact .ite (((hs.setOut _ _).setReg _ _).writeBytes _ _) (((hs.setOut _ _).setReg _ _).freeBuf _)
  · exact (hs.setOut _ _).setReg _ _

theorem Kept.startBarges (hs : Kept s₀ s) : Kept s₀ s.startBarges :=
  (hs.foldl _ fun _ _ h => h.setPartner _ _).update.foldl _ fun _ _ h => h.startBarge _

theorem Kept.pushIds (hs : Kept s₀ s) (ids : List Nat) : Kept s₀ (s.pushIds ids) := hs.update

/-! ### The commands of the basin -/

theorem Goes.basin (hs : Kept s₀ s) (ag : Agent) (f : State → State)
    (hf : ∀ u, Kept s₀ u → Kept s₀ (f u)) : Goes s₀ (s.basin ag f) :=
  .ite (.next (hs.refuse _ _ _)) (.ite (.next (hf _ (hs.drainAgent _))) (.next (hs.refuse _ _ _)))

theorem goes_execAlloc (hs : Kept s₀ s) (ag : Agent) (size : BitVec 14) : Goes s₀ (execAlloc ag size s) :=
  Goes.basin hs _ _ (fun _ h => h.bsnAlloc _ _)

theorem goes_execAllocp (hs : Kept s₀ s) (ag : Agent) (pool : BitVec 3) : Goes s₀ (execAllocp ag pool s) :=
  Goes.basin hs _ _ (fun _ h => h.bsnAllocP _ _)

theorem goes_execAllocc (hs : Kept s₀ s) (ag : Agent) (count : BitVec 9) : Goes s₀ (execAllocc ag count s) :=
  Goes.basin hs _ _ (fun _ h => h.bsnAllocC _ _)

theorem goes_execAllocb (hs : Kept s₀ s) (ag : Agent) : Goes s₀ (execAllocb ag s) :=
  Goes.basin hs _ _ (fun _ h => h.bsnAllocB _)

theorem goes_execFree (hs : Kept s₀ s) (ag : Agent) (buf : BitVec 23) : Goes s₀ (execFree ag buf s) :=
  Goes.basin hs _ _ (fun _ h => h.bsnFree _ _)

theorem goes_execChainCellReturn (hs : Kept s₀ s) : Goes s₀ (execChainCellReturn s) := by
  dsimp only [execChainCellReturn]
  split
  · exact .next hs
  · exact .next ((hs.update.pushElem _ _).setLink _ _)

theorem goes_execXfer (hs : Kept s₀ s) (ag : Agent) (buf : BitVec 23) : Goes s₀ (execXfer ag buf s) :=
  Goes.basin hs _ _ (fun _ h => h.bsnXfer _ _)

theorem goes_execChain (hs : Kept s₀ s) (ag : Agent) (tail : BitVec 23) : Goes s₀ (execChain ag tail s) :=
  Goes.basin hs _ _ (fun _ h => h.bsnChain _ _)

theorem goes_execSplit (hs : Kept s₀ s) (ag : Agent) (cell : BitVec 23) : Goes s₀ (execSplit ag cell s) :=
  Goes.basin hs _ _ (fun _ h => h.bsnSplit _ _)

theorem goes_execNext (hs : Kept s₀ s) (ag : Agent) (cell : BitVec 23) : Goes s₀ (execNext ag cell s) :=
  Goes.basin hs _ _ (fun _ h => h.bsnNext _ _)

theorem goes_execSpill (hs : Kept s₀ s) (ag : Agent) (buf : BitVec 23) : Goes s₀ (execSpill ag buf s) :=
  Goes.basin hs _ _ (fun _ h => h.bsnSpill _ _)

theorem goes_execSpillCopyDone (hs : Kept s₀ s) (k : Nat) : Goes s₀ (execSpillCopyDone k s) := by
  unfold execSpillCopyDone
  split
  · exact .next hs
  · exact .next (hs.spillDone _ _)

theorem goes_execFill (hs : Kept s₀ s) (ag : Agent) (handle : BitVec 19) : Goes s₀ (execFill ag handle s) :=
  Goes.basin hs _ _ (fun _ h => h.bsnFill _ _)

theorem goes_execFillCopyDone (hs : Kept s₀ s) (k : Nat) : Goes s₀ (execFillCopyDone k s) := by
  unfold execFillCopyDone
  split
  · exact .next hs
  · exact .ite (.next hs) (.next (hs.fillDone _))

theorem goes_execFillTokenRetry (hs : Kept s₀ s) : Goes s₀ (execFillTokenRetry s) :=
  .next (.ite (((kept_repostAll (hs.countBy _ _) _).update).raise _) ((kept_repostAll (hs.countBy _ _) _).update))

theorem goes_execReclaim (hs : Kept s₀ s) (ag : Agent) (idx : BitVec 6) : Goes s₀ (execReclaim ag idx s) :=
  Goes.basin hs _ _ (fun _ h => h.bsnReclaim _ _)

/-! ### The secure world -/

theorem Kept.setRoot (hs : Kept s₀ s) (v : BitVec 256) : Kept s₀ (s.setRoot v) := hs.update

theorem Kept.zeroRoot (hs : Kept s₀ s) : Kept s₀ s.zeroRoot := ((hs.setRoot _).setFld _ _ _ _).raise _

theorem Kept.checkRoot (hs : Kept s₀ s) : Kept s₀ s.checkRoot := .ite hs hs.zeroRoot

theorem Kept.setKey (hs : Kept s₀ s) (v : BitVec 256) (kind : Nat) : Kept s₀ (s.setKey v kind) :=
  hs.update.setFld _ _ _ _

theorem Kept.drawWord (hs : Kept s₀ s) : Kept s₀ s.drawWord.2 := .ite (hs.update.raise _) hs.update

theorem Kept.drawWords (hs : Kept s₀ s) (n : Nat) : Kept s₀ (s.drawWords n).2 := by
  induction n generalizing s with
  | zero => exact hs
  | succ n ih => exact ih hs.drawWord

theorem Kept.rngJoin (hs : Kept s₀ s) (r : RngReq) : Kept s₀ (s.rngJoin r) := hs.update

theorem Kept.rngReq (hs : Kept s₀ s) (w : SlotId) (v : W32) : Kept s₀ (s.rngReq w v).2 := by
  dsimp only [State.rngReq]
  split
  · exact hs
  · split
    · exact hs
    · split
      · exact hs
      · exact hs.rngJoin _

theorem goes_execRngReq (hs : Kept s₀ s) (w : SlotId) (v : W32) : Goes s₀ (execRngReq w v s) :=
  .next (Kept.slotAnswer (hs.rngReq _ _) _)

theorem Kept.mboxTake (hs : Kept s₀ s) (seq : Nat) : Kept s₀ (s.mboxTake seq) :=
  ((hs.setReg _ _).foldl _ fun _ _ h => h.setReg _ _).update

theorem Kept.mboxEnds (hs : Kept s₀ s) (st : Status) : Kept s₀ (s.mboxEnds st) := (hs.setReg _ _).status _

theorem Kept.mboxWords (hs : Kept s₀ s) (l : List W32) : Kept s₀ (s.mboxWords l) :=
  hs.foldl _ fun _ _ h => h.setReg _ _

theorem Goes.mailbox (hs : Kept s₀ s) (ag : Agent) (seq : BitVec 16) (f : State → State)
    (hf : ∀ u, Kept s₀ u → Kept s₀ (f u)) : Goes s₀ (s.mailbox ag seq f) :=
  .ite (.next (hs.refuse _ _ _)) (.ite (.next (hs.refuse _ _ _)) (.next (hf _ (hs.mboxTake _))))

theorem goes_execWardenStatus (hs : Kept s₀ s) (ag : Agent) (seq : BitVec 16) : Goes s₀ (execWardenStatus ag seq s) :=
  Goes.mailbox hs _ _ _ (fun _ h => (h.mboxWords _).mboxEnds _)

theorem goes_execRandom (hs : Kept s₀ s) (ag : Agent) (seq : BitVec 16) : Goes s₀ (execRandom ag seq s) :=
  Goes.mailbox hs _ _ _ (fun _ h => .ite (h.mboxEnds _) (.ite (h.mboxEnds _) ((h.rngJoin _).status _)))

theorem goes_execMailboxForward (hs : Kept s₀ s) (ag : Agent) (op : BitVec 8) (seq : BitVec 16) :
    Goes s₀ (execMailboxForward ag op seq s) :=
  Goes.mailbox hs _ _ _ (fun _ h => .ite (h.mboxEnds _) (((Kept.ite h (h.post _ _ _)).raise _).status _))

theorem Kept.mboxCancel (hs : Kept s₀ s) (st : Status) : Kept s₀ (s.mboxCancel st) := .ite (hs.update.mboxEnds _) hs

theorem goes_execMailboxDone (hs : Kept s₀ s) (k : Fin 4) (v : W32) : Goes s₀ (execMailboxDone k v s) :=
  .ite (.next ((((hs.setOstat _ _).mboxWords _).setReg _ _).status _)) (.next ((hs.setOstat _ _).status _))

theorem goes_execMailboxTimeout (hs : Kept s₀ s) : Goes s₀ (execMailboxTimeout s) :=
  .ite (.next ((hs.advance _).mboxCancel _)) (.next hs)

theorem Kept.opStatus (hs : Kept s₀ s) (ag : Agent) (st : Status) : Kept s₀ (s.opStatus ag st) := by
  unfold State.opStatus
  split
  · split
    · exact hs.lateStatus _ _
    · split
      · exact (hs.setOstat _ _).status _
      · exact hs.status _
  · exact hs.status _

theorem Kept.rngFails (hs : Kept s₀ s) (r : RngReq) (st : Status) : Kept s₀ (s.rngFails r st) := by
  unfold State.rngFails
  split
  · exact hs.post _ _ _
  · exact hs.mboxEnds _
  · exact (hs.setFld _ _ _ _).opStatus _ _
  · exact hs.opStatus _ _

theorem goes_execRandomTimeout (hs : Kept s₀ s) (k : Fin 64) : Goes s₀ (execRandomTimeout k s) := by
  dsimp only [execRandomTimeout]
  split
  · exact .next hs
  · exact .next ((((hs.advance _).update).rngFails _ _).raise _)

theorem goes_execEntropyStartupComplete (hs : Kept s₀ s) : Goes s₀ (execEntropyStartupComplete s) := by
  unfold execEntropyStartupComplete
  split
  · exact .next (hs.setFld _ _ _ _)
  · exact .next ((hs.setFld _ _ _ _).raise _)
  · exact .next hs

theorem goes_execEntropyFailure (hs : Kept s₀ s) : Goes s₀ (execEntropyFailure s) := by
  have h1 := fun n st => ((hs.setFld A.secRngstat 3 2 n).setFld A.secRngstat 1 0 st).raise 720
  exact .ite (.next hs)
    (.ite (.next (((h1 _ _).update.foldl _ fun _ _ h => h.rngFails _ _).raise _)) (.next (h1 _ _)))

theorem goes_execEntropyFailureCountReset (hs : Kept s₀ s) : Goes s₀ (execEntropyFailureCountReset s) :=
  .ite (.next (hs.setFld _ _ _ _)) (.next hs)

theorem Kept.opStore (hs : Kept s₀ s) (k : Nat) (bs : List Byte) : Kept s₀ (s.opStore k bs) :=
  .ite (hs.sramWrite _ _) (hs.writeBytes _ _)

theorem Kept.opOutput (hs : Kept s₀ s) (op : Nat) (b : KeyBlock) (bs : List Byte) : Kept s₀ (s.opOutput op b bs) := by
  unfold State.opOutput
  split
  · exact hs.opStore _ _
  · exact hs

theorem Kept.opLoadRoot (hs : Kept s₀ s) : Kept s₀ s.opLoadRoot.2 := by
  dsimp only [State.opLoadRoot]
  split
  · exact hs.checkRoot
  · exact hs.checkRoot.setKey _ _

theorem Kept.opKdf (hs : Kept s₀ s) (b : KeyBlock) : Kept s₀ (s.opKdf b).2 := by
  dsimp only [State.opKdf]
  split
  · exact (hs.setKey _ _).setReg _ _
  · exact hs.setKey _ _

theorem Kept.opSign (hs : Kept s₀ s) (k : Fin 4) (b : KeyBlock) : Kept s₀ (s.opSign k b).2 := by
  dsimp only [State.opSign]
  split
  · exact hs
  · exact hs.rngJoin _

theorem Kept.opAct (hs : Kept s₀ s) (k : Fin 4) (op : Nat) (b : KeyBlock) : Kept s₀ (s.opAct k op b).2 := by
  unfold State.opAct
  grind [Kept.setKey, Kept.opOutput, Kept.opLoadRoot, Kept.opKdf, Kept.opSign]

theorem Kept.keyOp (hs : Kept s₀ s) (k : Fin 4) (op blk : Nat) : Kept s₀ (s.keyOp k op blk).2 := by
  unfold State.keyOp
  split
  · exact hs
  · split
    · exact hs.raise _
    · split
      · exact hs
      · split
        · exact hs.opAct _ _ _
        · exact hs

theorem Kept.holdOp (hs : Kept s₀ s) (k : Fin 4) : Kept s₀ (s.holdOp k) := .ite (hs.setSlot _ _) hs

theorem Goes.keyCmd (hs : Kept s₀ s) (k : Fin 4) (op : Nat) (blk : BitVec 12) : Goes s₀ (s.keyCmd k op blk) := by
  dsimp only [State.keyCmd]
  split
  · exact .next (Kept.slotAnswer (hs.keyOp _ _ _) _)
  · exact .next (((hs.keyOp _ _ _).holdOp _).status _)

theorem goes_execLoadRoot (hs : Kept s₀ s) (k : Fin 4) (blk : BitVec 12) : Goes s₀ (execLoadRoot k blk s) :=
  Goes.keyCmd hs _ _ _

theorem goes_execLoadMem (hs : Kept s₀ s) (k : Fin 4) (blk : BitVec 12) : Goes s₀ (execLoadMem k blk s) :=
  Goes.keyCmd hs _ _ _

theorem goes_execKdf (hs : Kept s₀ s) (k : Fin 4) (blk : BitVec 12) : Goes s₀ (execKdf k blk s) := Goes.keyCmd hs _ _ _

theorem goes_execKdfOut (hs : Kept s₀ s) (k : Fin 4) (blk : BitVec 12) : Goes s₀ (execKdfOut k blk s) :=
  Goes.keyCmd hs _ _ _

theorem goes_execUnwrap (hs : Kept s₀ s) (k : Fin 4) (blk : BitVec 12) : Goes s₀ (execUnwrap k blk s) :=
  Goes.keyCmd hs _ _ _

theorem goes_execEcbEncrypt (hs : Kept s₀ s) (k : Fin 4) (blk : BitVec 12) : Goes s₀ (execEcbEncrypt k blk s) :=
  Goes.keyCmd hs _ _ _

theorem goes_execEcbDecrypt (hs : Kept s₀ s) (k : Fin 4) (blk : BitVec 12) : Goes s₀ (execEcbDecrypt k blk s) :=
  Goes.keyCmd hs _ _ _

theorem goes_execCtr (hs : Kept s₀ s) (k : Fin 4) (blk : BitVec 12) : Goes s₀ (execCtr k blk s) := Goes.keyCmd hs _ _ _

theorem goes_execCmac (hs : Kept s₀ s) (k : Fin 4) (blk : BitVec 12) : Goes s₀ (execCmac k blk s) :=
  Goes.keyCmd hs _ _ _

theorem goes_execSign (hs : Kept s₀ s) (k : Fin 4) (blk : BitVec 12) : Goes s₀ (execSign k blk s) :=
  Goes.keyCmd hs _ _ _

theorem goes_execPubkey (hs : Kept s₀ s) (k : Fin 4) (blk : BitVec 12) : Goes s₀ (execPubkey k blk s) :=
  Goes.keyCmd hs _ _ _

theorem goes_execClear (hs : Kept s₀ s) (k : Fin 4) (blk : BitVec 12) : Goes s₀ (execClear k blk s) :=
  Goes.keyCmd hs _ _ _

theorem goes_execSha256 (hs : Kept s₀ s) (k : Fin 4) (blk : BitVec 12) : Goes s₀ (execSha256 k blk s) :=
  Goes.keyCmd hs _ _ _

theorem goes_execSha384 (hs : Kept s₀ s) (k : Fin 4) (blk : BitVec 12) : Goes s₀ (execSha384 k blk s) :=
  Goes.keyCmd hs _ _ _

theorem goes_execVerify (hs : Kept s₀ s) (k : Fin 4) (blk : BitVec 12) : Goes s₀ (execVerify k blk s) :=
  Goes.keyCmd hs _ _ _

theorem Kept.rngGives (hs : Kept s₀ s) (r : RngReq) (ws : List W32) : Kept s₀ (s.rngGives r ws) := by
  unfold State.rngGives
  split
  · exact (hs.mboxWords _).mboxEnds _
  · exact ((hs.setRoot _).setFld _ _ _ _).opStatus _ _
  · split
    · exact hs
    · split
      · exact hs.opStatus _ _
      · exact (hs.opStore _ _).opStatus _ _

theorem goes_execRandomServe (hs : Kept s₀ s) : Goes s₀ (execRandomServe s) := by
  dsimp only [execRandomServe]
  split
  · exact .next hs
  · exact .ite (.next hs) (.ite (.ite (.next ((((hs.drawWords _).update).post _ _ _).update))
      (.next (((hs.drawWords _).update).post _ _ _))) (.next (((hs.drawWords _).update).rngGives _ _)))

theorem Kept.closeTagWindow (hs : Kept s₀ s) : Kept s₀ s.closeTagWindow :=
  .ite (hs.setFld _ _ _ _) ((hs.setFld _ _ _ _).post _ _ _)

theorem goes_execTagWindowClose (hs : Kept s₀ s) : Goes s₀ (execTagWindowClose s) :=
  .ite (.next hs.closeTagWindow) (.next hs)

theorem Kept.keyTurn (hs : Kept s₀ s) : Kept s₀ s.keyTurn :=
  .ite (.ite ((hs.setFld _ _ _ _).setFld _ _ _ _) (((hs.setFld _ _ _ _).setFld _ _ _ _).raise _))
    ((hs.setFld _ _ _ _).setFld _ _ _ _)

theorem goes_execSecureHoldWrite (hs : Kept s₀ s) (w k : Fin 4) (v : W32) :
    Goes s₀ (execSecureHoldWrite w k v s) := by
  refine .next (Kept.slotAnswer ?_ _)
  split
  all_goals exact hs.setReg _ _

theorem Kept.rootInstall (hs : Kept s₀ s) (addr : Nat) : Kept s₀ (s.rootInstall addr).2 := by
  dsimp only [State.rootInstall]
  split
  · exact hs.setFld _ _ _ _
  · split
    · exact hs.setFld _ _ _ _
    · split
      · exact hs.setFld _ _ _ _
      · exact (hs.setRoot _).setFld _ _ _ _

theorem Kept.rootGenerate (hs : Kept s₀ s) (k : Fin 4) : Kept s₀ (s.rootGenerate k).2 := by
  unfold State.rootGenerate
  extract_lets st r
  split
  · exact hs.setFld _ _ _ _
  · exact hs.rngJoin _

theorem goes_execInstall (hs : Kept s₀ s) (k : Fin 4) (addr : BitVec 12) : Goes s₀ (execInstall k addr s) :=
  .next (Kept.slotAnswer (hs.rootInstall _) _)

theorem goes_execGenerate (hs : Kept s₀ s) (k : Fin 4) : Goes s₀ (execGenerate k s) := by
  dsimp only [execGenerate]
  split
  · exact .next (Kept.slotAnswer (hs.rootGenerate _) _)
  · exact .next (((hs.rootGenerate _).holdOp _).status _)

theorem Kept.emptyWarden (hs : Kept s₀ s) : Kept s₀ s.emptyWarden := hs.update

theorem Kept.stopWarden (hs : Kept s₀ s) (k : Fin 4) : Kept s₀ (s.stopWarden k) :=
  (((hs.drain _).agentDies _ _).disarmAgent _).setSlot _ _

theorem Kept.startWarden (hs : Kept s₀ s) : Kept s₀ s.startWarden := .ite hs ((hs.writeBytes _ _).rootThread _ _)

theorem Kept.tapCancel (hs : Kept s₀ s) : Kept s₀ s.tapCancel := by
  dsimp only [State.tapCancel]
  split
  · exact hs
  · exact hs.update

theorem Kept.wardenReset (hs : Kept s₀ s) : Kept s₀ s.wardenReset :=
  (((((((hs.setKey _ _).stopWarden _).stopWarden _).stopWarden _).stopWarden _).emptyWarden.mboxCancel
    _).tapCancel).startWarden

theorem goes_execWardenReset (hs : Kept s₀ s) (k : Fin 4) (v : W32) : Goes s₀ (execWardenReset k v s) :=
  .next (.ite (((Kept.slotAnswer hs _).wardenReset).status _) (Kept.slotAnswer hs _))

theorem goes_execWatchdogKick (hs : Kept s₀ s) (k : Fin 4) (v : W32) : Goes s₀ (execWatchdogKick k v s) :=
  .next (.ite ((Kept.slotAnswer hs _).update) (Kept.slotAnswer hs _))

theorem goes_execWatchdogExpiry (hs : Kept s₀ s) : Goes s₀ (execWatchdogExpiry s) :=
  .ite (.next hs) (.next ((((hs.advance _).raise _).wardenReset).update))

theorem goes_execTamperDetect (hs : Kept s₀ s) (source : Fin 8) (seconds : W32) (vin : Bool) :
    Goes s₀ (execTamperDetect source seconds vin s) :=
  .ite (.next hs) (.ite (.next (((((hs.setReg _ _).setReg _ _).setRoot _).setFld _ _ _ _).update))
    (.next (((((((((((((hs.setReg _ _).setReg _ _).zeroRoot).raise _).drain _).drain _).drain _).drain _).setKey _
    _).writeBytes _ _).sramWrite _ _).update).wardenReset)))

/-! ### Resets -/

theorem Kept.cleared (hs : Kept s₀ s) (kind step : Nat) (run : Bool) : Kept s₀ (s.cleared kind step run) := by
  unfold State.cleared
  extract_lets _ _ _ r r1
  have hr : Kept s₀ r := hs.trans ⟨rfl, fun w => memFilter_wf _ _ w⟩
  have h1 : Kept s₀ r1 := Kept.foldl hr _ fun _ _ h => h.setReg _ _
  exact h1.setReg _ _

theorem Kept.chipReset (hs : Kept s₀ s) (kind : Nat) : Kept s₀ (s.chipReset kind) := hs.cleared _ _ _

theorem Kept.internalReset (hs : Kept s₀ s) : Kept s₀ s.internalReset := (hs.cleared _ _ _).update

theorem Kept.powerOn (hs : Kept s₀ s) (vbat : Bool) : Kept s₀ (s.powerOn vbat) :=
  .ite (hs.cleared _ _ _).update ((((hs.cleared _ _ _).update.setRoot _).foldl _ fun _ _ h => h.setReg _ _).update)

/-! ### The event router -/

theorem goes_execRouteWrite (hs : Kept s₀ s) (ag : Agent) (e : Fin 768) (v : W32) : Goes s₀ (execRouteWrite ag e v s) :=
  .ite (.next ((hs.setReg _ _).status _)) (.next (hs.refuse _ _ _))

theorem goes_execPendClear (hs : Kept s₀ s) (ag : Agent) (k : Fin 24) (v : W32) : Goes s₀ (execPendClear ag k v s) :=
  .ite (.next (hs.refuse _ _ _)) (.next ((hs.setReg _ _).status _))

theorem kept_retryEvents (hs : Kept s₀ s) (l : List (Nat × W32)) : Kept s₀ (retryEvents l s).2 := by
  induction l generalizing s with
  | nil => exact hs
  | cons p rest ih =>
    have h1 := (hs.count 0x120E10).postQuiet
    exact ih (.ite ((h1 _ _ _).count _) (h1 _ _ _))

theorem goes_execEventTokenRetry (hs : Kept s₀ s) : Goes s₀ (execEventTokenRetry s) :=
  .next (((kept_retryEvents hs _).update).tokenWatch _)

theorem goes_execEvtoutPulseEnd (hs : Kept s₀ s) (p : Fin 4) : Goes s₀ (execEvtoutPulseEnd p s) := by
  dsimp only [execEvtoutPulseEnd]
  split
  · exact .next hs
  · exact .next ((hs.advance _).update)

/-! ### The shape image -/

theorem Kept.loadErr (hs : Kept s₀ s) (e : ImgErr) (st : Nat) : Kept s₀ (s.loadErr e st) := (hs.setReg _ _).setReg _ _

/-! ### Update -/

theorem Kept.eraseSector (hs : Kept s₀ s) (k : Nat) : Kept s₀ (s.eraseSector k) := hs.writeBytes _ _

theorem Kept.eraseSectors (hs : Kept s₀ s) (k n : Nat) : Kept s₀ (s.eraseSectors k n) := by
  induction n generalizing s k with
  | zero => exact hs
  | succ n ih =>
    unfold State.eraseSectors
    exact ih (hs.eraseSector k) _

theorem Kept.flashOn (hs : Kept s₀ s) : Kept s₀ s.flashOn := .ite hs (hs.setPd _ _)

theorem Kept.showRec (hs : Kept s₀ s) : Kept s₀ s.showRec :=
  ((((hs.setReg _ _).setReg _ _).setReg _ _).setReg _ _).setReg _ _

theorem Kept.putCopy (hs : Kept s₀ s) (i : Nat) (r : UpdRec) : Kept s₀ (s.putCopy i r) :=
  (hs.eraseSector _).writeBytes _ _

theorem Kept.writeRec (hs : Kept s₀ s) (r : UpdRec) : Kept s₀ (s.writeRec r) := by
  dsimp only [State.writeRec]
  split
  · exact (hs.flashOn.update.putCopy _ _).showRec
  · exact ((hs.flashOn.update.putCopy _ _).putCopy _ _).showRec

theorem Kept.updEnds (hs : Kept s₀ s) (st : Status) : Kept s₀ (s.updEnds st) :=
  (((hs.setFld _ _ _ _).showRec).mboxWords _).mboxEnds _

theorem Goes.updCmd (hs : Kept s₀ s) (ag : Agent) (seq : BitVec 16) (f : State → Status × State)
    (hf : ∀ u, Kept s₀ u → Kept s₀ (f u).2) : Goes s₀ (s.updCmd ag seq f) :=
  .mailbox hs _ _ _ fun u h => .ite (h.updEnds _) ((hf u h).updEnds _)

theorem Kept.updBegin (hs : Kept s₀ s) : Kept s₀ s.updBegin.2 := by
  dsimp only [State.updBegin]
  split
  · exact hs
  · split
    · exact hs
    · split
      · exact hs
      · split
        · exact hs
        · exact hs.writeRec _

theorem Kept.updData (hs : Kept s₀ s) (good : Bool) : Kept s₀ (s.updData good).2 := by
  dsimp only [State.updData]
  split
  · exact hs
  · split
    · exact hs
    · split
      · exact hs
      · split
        · exact .ite ((((hs.flashOn.eraseSectors _ _).writeBytes _ _).writeRec _).raise _)
            (((hs.flashOn.eraseSectors _ _).writeBytes _ _).writeRec _)
        · exact ((hs.flashOn.eraseSectors _ _).writeBytes _ _).update

theorem Kept.updVerify (hs : Kept s₀ s) : Kept s₀ s.updVerify.2 := by
  dsimp only [State.updVerify]
  split
  · split
    · exact hs.writeRec _
    · exact (((hs.writeRec _).setReg _ _).setReg _ _).raise _
  · exact hs

theorem Kept.updActivate (hs : Kept s₀ s) : Kept s₀ s.updActivate.2 := by
  dsimp only [State.updActivate]
  split
  · exact (hs.writeRec _).raise _
  · exact hs

theorem Kept.burnArb (hs : Kept s₀ s) (v : Nat) : Kept s₀ (s.burnArb v) := hs.update

theorem Kept.updConfirm (hs : Kept s₀ s) : Kept s₀ s.updConfirm.2 := by
  dsimp only [State.updConfirm]
  split
  · exact (Kept.ite (((hs.writeRec _).burnArb _).writeRec _) (hs.writeRec _)).raise _
  · exact hs

theorem Kept.updAbort (hs : Kept s₀ s) : Kept s₀ s.updAbort.2 := by
  dsimp only [State.updAbort]
  split
  · exact hs
  · exact hs.writeRec _
  · exact hs.writeRec _
  · exact hs.writeRec _
  · exact hs

theorem goes_execUpdBegin (hs : Kept s₀ s) (ag : Agent) (seq : BitVec 16) : Goes s₀ (execUpdBegin ag seq s) :=
  Goes.updCmd hs _ _ _ (fun _ h => h.updBegin)

theorem goes_execUpdData (hs : Kept s₀ s) (ag : Agent) (seq : BitVec 16) (good : Bool) :
    Goes s₀ (execUpdData ag seq good s) :=
  Goes.updCmd hs _ _ _ (fun _ h => h.updData _)

theorem goes_execUpdVerify (hs : Kept s₀ s) (ag : Agent) (seq : BitVec 16) : Goes s₀ (execUpdVerify ag seq s) :=
  Goes.updCmd hs _ _ _ (fun _ h => h.updVerify)

theorem goes_execUpdActivate (hs : Kept s₀ s) (ag : Agent) (seq : BitVec 16) : Goes s₀ (execUpdActivate ag seq s) :=
  Goes.updCmd hs _ _ _ (fun _ h => h.updActivate)

theorem goes_execUpdConfirm (hs : Kept s₀ s) (ag : Agent) (seq : BitVec 16) : Goes s₀ (execUpdConfirm ag seq s) :=
  Goes.updCmd hs _ _ _ (fun _ h => h.updConfirm)

theorem goes_execUpdAbort (hs : Kept s₀ s) (ag : Agent) (seq : BitVec 16) : Goes s₀ (execUpdAbort ag seq s) :=
  Goes.updCmd hs _ _ _ (fun _ h => h.updAbort)

theorem goes_execUpdStatus (hs : Kept s₀ s) (ag : Agent) (seq : BitVec 16) : Goes s₀ (execUpdStatus ag seq s) :=
  Goes.updCmd hs _ _ _ (fun _ h => h)

/-! ### The life-cycle -/

theorem Kept.tapIr (hs : Kept s₀ s) (n : Nat) : Kept s₀ (s.tapIr n) := hs.update

theorem Kept.tapCount (hs : Kept s₀ s) : Kept s₀ s.tapCount := (hs.setFld _ _ _ _).status _

theorem Kept.tapDenied (hs : Kept s₀ s) : Kept s₀ s.tapDenied := hs.tapCount.tapIr _

theorem Kept.challenge (hs : Kept s₀ s) : Kept s₀ s.challenge.2 := by
  dsimp only [State.challenge]
  split
  · exact hs.update
  · split
    · exact hs.update
    · exact (hs.drawWords _).update

theorem goes_execChallenge (hs : Kept s₀ s) (ag : Agent) (seq : BitVec 16) (tap : Bool) :
    Goes s₀ (execChallenge ag seq tap s) :=
  .ite (.ite (.next hs) (.next (((hs.tapIr _).challenge).answer _ _)))
    (Goes.mailbox hs _ _ _ (fun _ h => .ite (h.mboxEnds _) ((h.challenge.mboxWords _).mboxEnds _)))

theorem goes_execNonceExpiry (hs : Kept s₀ s) : Goes s₀ (execNonceExpiry s) := by
  dsimp only [execNonceExpiry]
  split
  · exact .next hs
  · exact .next ((hs.advance _).update)

theorem Kept.requestCheck (hs : Kept s₀ s) (r : Rd) : Kept s₀ (s.requestCheck r).2 := by
  dsimp only [State.requestCheck]
  split
  · exact hs
  · split
    · exact hs.update
    · exact hs.update

theorem Kept.lcsEnds (hs : Kept s₀ s) (tap : Bool) (st : Status) : Kept s₀ (s.lcsEnds tap st) :=
  .ite (((hs.setFld _ _ _ _).update).status _) ((hs.setFld _ _ _ _).mboxEnds _)

theorem Kept.request (hs : Kept s₀ s) (tap : Bool) (r : Rd) : Kept s₀ (s.request tap r) :=
  .ite ((Kept.ite (((hs.requestCheck _).update).raise _) ((hs.requestCheck _).update)).status _)
    ((Kept.ite ((hs.requestCheck _).raise _) (hs.requestCheck _)).lcsEnds _ _)

theorem goes_execLcsRequest (hs : Kept s₀ s) (ag : Agent) (seq : BitVec 16) (tap : Bool) (bytes : List (BitVec 8)) :
    Goes s₀ (execLcsRequest ag seq tap bytes s) :=
  .ite (.ite (.next hs) (.ite (.next (hs.tapIr _)) (.next ((hs.tapIr _).request _ _))))
    (Goes.mailbox hs _ _ _ (fun _ h => .ite (h.lcsEnds _ _)
    (.ite (h.lcsEnds _ _) (.ite (h.lcsEnds _ _) (h.request _ _)))))

theorem Kept.wipeBegin (hs : Kept s₀ s) (target : Nat) : Kept s₀ (s.wipeBegin target) :=
  .ite ((hs.zeroRoot.setKey _ _).writeRec _) hs

theorem Kept.burnKeys (hs : Kept s₀ s) (extra : List Byte) (good : Bool) : Kept s₀ (s.burnKeys extra good) := hs.update

theorem Kept.burnState (hs : Kept s₀ s) (target : Nat) (got : BitVec 3) : Kept s₀ (s.burnState target got) := hs.update

theorem Kept.enterState (hs : Kept s₀ s) (target : Nat) (got : BitVec 3) : Kept s₀ (s.enterState target got).2 := by
  dsimp only [State.enterState]
  split
  · exact (hs.burnState _ _).raise _
  · exact ((hs.burnState _ _).update).raise _

theorem goes_execTransition (hs : Kept s₀ s) (keysOk : Bool) (got : BitVec 3) :
    Goes s₀ (execTransition keysOk got s) := by
  dsimp only [execTransition]
  split
  · exact .next hs
  · exact .ite (.next hs) (.ite (.next ((((hs.update.wipeBegin _).burnKeys _ _).raise _).lcsEnds _ _))
      (.next (((Kept.ite ((hs.update.wipeBegin _).burnKeys _ _) (hs.update.wipeBegin _)).enterState _ _).lcsEnds _ _)))

theorem Kept.zeroSecureDram (hs : Kept s₀ s) : Kept s₀ s.zeroSecureDram := hs.foldl _ fun _ _ h => h.dramWrite _ _ _

theorem Kept.wipeFlash (hs : Kept s₀ s) (target : Nat) : Kept s₀ (s.wipeFlash target) :=
  .ite ((hs.flashOn.eraseSectors _ _).eraseSectors _ _) (hs.flashOn.eraseSectors _ _)

theorem goes_execTransitionWipe (hs : Kept s₀ s) : Goes s₀ (execTransitionWipe s) := by
  dsimp only [execTransitionWipe]
  split
  · exact .next hs
  · exact .next (((((((hs.writeBytes _ _).writeBytes _ _).sramWrite _ _).zeroSecureDram).wipeFlash _).writeRec
      _).chipReset _)

theorem goes_execScrapRaw (hs : Kept s₀ s) (v : W32) (got : BitVec 3) : Goes s₀ (execScrapRaw v got s) :=
  .ite (.next hs) (.ite (.next hs.tapDenied) (.ite (.next ((hs.tapIr _).status _))
    (.next ((((hs.tapIr _).wipeBegin _).enterState _ _).status _))))

theorem goes_execOtpProg (hs : Kept s₀ s) (target : BitVec 8) (v : BitVec 256) : Goes s₀ (execOtpProg target v s) := by
  dsimp only [execOtpProg]
  split
  · exact .next hs
  · split
    · exact .next hs.tapDenied
    · split
      · exact .ite (.next (((hs.tapIr _).update).status _)) (.next (((hs.tapIr _).update).status _))
      · exact .ite (.next (((hs.tapIr _).update).status _)) (.next (((hs.tapIr _).update).status _))
      · exact .ite (.next (((hs.tapIr _).update).status _)) (.next (((hs.tapIr _).update).status _))
      · exact .next (((hs.tapIr _).update).status _)

theorem goes_execDebugGrant (hs : Kept s₀ s) : Goes s₀ (execDebugGrant s) := by
  dsimp only [execDebugGrant]
  split
  · exact .next hs
  · exact .ite (.next hs) (.next ((hs.update.raise _).lcsEnds _ _))

theorem goes_execDebugRevoke (hs : Kept s₀ s) (ag : Agent) (seq : BitVec 16) : Goes s₀ (execDebugRevoke ag seq s) :=
  Goes.mailbox hs _ _ _ (fun _ h => .ite (h.mboxEnds _) (h.update.mboxEnds _))

theorem goes_execDebugGrantExpiry (hs : Kept s₀ s) : Goes s₀ (execDebugGrantExpiry s) := by
  dsimp only [execDebugGrantExpiry]
  split
  · exact .next hs
  · exact .next ((hs.advance _).update)

/-! ### Loads, stores and holds -/

theorem Goes.loadIns (hs : Kept s₀ s) (w : SlotId) (ok : Bool) (rd rb : RegCode) (mode size : BitVec 2)
    (imm : BitVec 12) (signed : Bool) : Goes s₀ (s.loadIns w ok rd rb mode size imm signed) :=
  Goes.issue hs _ _ _ (fun _ _ h => .ite (h.accessFault _ _ _ _ _ _ _)
    (.ite ((Kept.ite (h.drain _) h).retire _ _ _ _) (((Kept.ite (h.drain _) h).loadReach _ _ _).hold _ _ _ _ _ _)))

theorem goes_execLd (hs : Kept s₀ s) (w : SlotId) (rd rb : RegCode) (mode size : BitVec 2) (imm : BitVec 12) :
    Goes s₀ (execLd w rd rb mode size imm s) :=
  Goes.loadIns hs _ _ _ _ _ _ _ _

theorem goes_execLds (hs : Kept s₀ s) (w : SlotId) (rd rb : RegCode) (mode size : BitVec 2) (imm : BitVec 12) :
    Goes s₀ (execLds w rd rb mode size imm s) :=
  Goes.loadIns hs _ _ _ _ _ _ _ _

theorem Kept.aliasStore (hs : Kept s₀ s) (ag : Agent) (o : Nat) (v : W32) : Kept s₀ (s.aliasStore ag o v) :=
  .ite hs (.ite (hs.sramWrite _ _) (.ite (hs.sramWrite _ _) hs))

theorem Kept.storeAct (hs : Kept s₀ s) (w : SlotId) (x : Slot) (rd : RegCode) (size : BitVec 2) (a : W32)
    (wb : List PWrite) : Kept s₀ (s.storeAct w x rd size a wb) :=
  .ite (((hs.drain _).aliasStore _ _ _).hold _ _ _ _ _ _) ((hs.postStore _ _ _).done1 _ _ _)

theorem Goes.storeIns (hs : Kept s₀ s) (w : SlotId) (ok : Bool) (rd rb : RegCode) (mode size : BitVec 2)
    (imm : BitVec 12) : Goes s₀ (s.storeIns w ok rd rb mode size imm) :=
  Goes.issue hs _ _ _ (fun _ _ h => .ite (h.accessFault _ _ _ _ _ _ _) (h.storeAct _ _ _ _ _ _))

theorem goes_execSt (hs : Kept s₀ s) (w : SlotId) (rd rb : RegCode) (mode size : BitVec 2) (imm : BitVec 12) :
    Goes s₀ (execSt w rd rb mode size imm s) :=
  Goes.storeIns hs _ _ _ _ _ _ _

theorem Goes.aliasIns (hs : Kept s₀ s) (w : SlotId) (rs rb : RegCode) (disp : BitVec 12) (op : Nat) :
    Goes s₀ (s.aliasIns w rs rb disp op) :=
  .ite (Goes.storeIns hs _ _ _ _ _ _ _) (.next hs)

theorem goes_execAliasClaim (hs : Kept s₀ s) (w : SlotId) (rs rb : RegCode) (disp : BitVec 12) :
    Goes s₀ (execAliasClaim w rs rb disp s) :=
  Goes.aliasIns hs _ _ _ _ _

theorem goes_execAliasRelease (hs : Kept s₀ s) (w : SlotId) (rs rb : RegCode) (disp : BitVec 12) :
    Goes s₀ (execAliasRelease w rs rb disp s) :=
  Goes.aliasIns hs _ _ _ _ _

theorem goes_execPostedStorePerformed (hs : Kept s₀ s) (w : SlotId) (k : Fin 4) :
    Goes s₀ (execPostedStorePerformed w k s) := by
  dsimp only [execPostedStorePerformed]
  split
  · exact .next hs
  · exact .ite (.next hs) (.next ((hs.setSlot _ _).performStore _ _))

theorem Kept.acceptUnit (hs : Kept s₀ s) (w : SlotId) (r : UnitReq) {u : State} (hu : s.acceptUnit w r = some u) :
    Kept s₀ u := by
  unfold State.acceptUnit at hu
  grind [Kept.reserve, Kept.update]

theorem Kept.endHold (hs : Kept s₀ s) (w : SlotId) (ws : List PWrite) : Kept s₀ (s.endHold w ws) :=
  ((hs.landAll _).land _ _).setSlot _ _

theorem goes_execHoldComplete (hs : Kept s₀ s) (w : SlotId) : Goes s₀ (execHoldComplete w s) := by
  unfold execHoldComplete
  extract_lets x
  split
  · exact .next hs
  split
  · exact .next hs
  split
  · exact .next ((hs.setSlot _ _).accessFault _ _ _ _ _ _ _)
  split
  · exact .next (hs.endHold _ _)
  split
  · next h => exact .next ((hs.acceptUnit _ _ h).endHold _ _)
  · exact .next hs

theorem Kept.amoAct (hs : Kept s₀ s) (w : SlotId) (a func n x c : Nat) : Kept s₀ (s.amoAct w a func n x c).2 := by
  dsimp only [State.amoAct]
  split
  · exact hs.sramAtomic _ _ _ _ _
  · exact hs.dramAtomic _ _ _ _ _ _ _

theorem Kept.amoSize (hs : Kept s₀ s) (size : Nat) : Kept s₀ (s.amoSize size).2 := by
  unfold State.amoSize
  split
  · exact hs
  · exact hs.fresh

theorem Goes.amoIns (hs : Kept s₀ s) (w : SlotId) (func : Nat) (rd rb ra : RegCode) (size : Nat) :
    Goes s₀ (s.amoIns w func rd rb ra size) :=
  Goes.issue hs _ _ _ (fun _ _ h => .ite ((h.amoSize _).accessFault _ _ _ _ _ _ _)
    (((h.drain _).amoAct _ _ _ _ _ _).hold _ _ _ _ _ _))

theorem goes_execAmoFadd (hs : Kept s₀ s) (w : SlotId) (rd rb ra : RegCode) (size : BitVec 2) :
    Goes s₀ (execAmoFadd w rd rb ra size s) :=
  Goes.amoIns hs _ _ _ _ _ _

theorem goes_execAmoSwap (hs : Kept s₀ s) (w : SlotId) (rd rb ra : RegCode) (size : BitVec 2) :
    Goes s₀ (execAmoSwap w rd rb ra size s) :=
  Goes.amoIns hs _ _ _ _ _ _

theorem goes_execAmoCas (hs : Kept s₀ s) (w : SlotId) (rd rb ra : RegCode) (size : BitVec 2) :
    Goes s₀ (execAmoCas w rd rb ra size s) :=
  Goes.amoIns hs _ _ _ _ _ _

theorem goes_execAmoMin (hs : Kept s₀ s) (w : SlotId) (rd rb ra : RegCode) (size : BitVec 2) :
    Goes s₀ (execAmoMin w rd rb ra size s) :=
  Goes.amoIns hs _ _ _ _ _ _

theorem goes_execAmoMax (hs : Kept s₀ s) (w : SlotId) (rd rb ra : RegCode) (size : BitVec 2) :
    Goes s₀ (execAmoMax w rd rb ra size s) :=
  Goes.amoIns hs _ _ _ _ _ _

theorem goes_execAmoMinu (hs : Kept s₀ s) (w : SlotId) (rd rb ra : RegCode) (size : BitVec 2) :
    Goes s₀ (execAmoMinu w rd rb ra size s) :=
  Goes.amoIns hs _ _ _ _ _ _

theorem goes_execAmoMaxu (hs : Kept s₀ s) (w : SlotId) (rd rb ra : RegCode) (size : BitVec 2) :
    Goes s₀ (execAmoMaxu w rd rb ra size s) :=
  Goes.amoIns hs _ _ _ _ _ _

theorem goes_execAmoWadd (hs : Kept s₀ s) (w : SlotId) (rd rb ra : RegCode) : Goes s₀ (execAmoWadd w rd rb ra s) :=
  Goes.amoIns hs _ _ _ _ _ _

theorem goes_execSync (hs : Kept s₀ s) (w : SlotId) : Goes s₀ (execSync w s) :=
  Goes.issue hs _ _ _ (fun _ _ h => (h.drain _).hold _ _ _ _ _ _)

theorem goes_execNop (hs : Kept s₀ s) (w : SlotId) : Goes s₀ (execNop w s) :=
  Goes.issue hs _ _ _ (fun _ _ h => h.done1 _ _ _)

theorem goes_execIld (hs : Kept s₀ s) (w : SlotId) (rd ra : RegCode) (imm : BitVec 16) :
    Goes s₀ (execIld w rd ra imm s) :=
  Goes.issue hs _ _ _ (fun _ _ h => .ite (h.accessFault _ _ _ _ _ _ _) (h.done2 _ _ _))

/-! ### Helper units -/

theorem goes_execCrc (hs : Kept s₀ s) (w : SlotId) (rd ra rb : RegCode) (count : BitVec 2) (ieee : Bool) :
    Goes s₀ (execCrc w rd ra rb count ieee s) :=
  Goes.alu1 hs _ _ _ _

theorem goes_execBfxu (hs : Kept s₀ s) (w : SlotId) (rd ra : RegCode) (pos lenm1 : BitVec 5) :
    Goes s₀ (execBfxu w rd ra pos lenm1 s) :=
  Goes.alu1 hs _ _ _ _

theorem goes_execBfxs (hs : Kept s₀ s) (w : SlotId) (rd ra : RegCode) (pos lenm1 : BitVec 5) :
    Goes s₀ (execBfxs w rd ra pos lenm1 s) :=
  Goes.alu1 hs _ _ _ _

theorem goes_execBfi (hs : Kept s₀ s) (w : SlotId) (rd ra : RegCode) (pos lenm1 : BitVec 5) :
    Goes s₀ (execBfi w rd ra pos lenm1 s) :=
  Goes.alu1 hs _ _ _ _

theorem goes_execMacs (hs : Kept s₀ s) (w : SlotId) (rd ra rb : RegCode) (sh : BitVec 5) (round : Bool) :
    Goes s₀ (execMacs w rd ra rb sh round s) :=
  Goes.issue hs _ _ _ (fun _ _ h => h.done2 _ _ _)

theorem goes_execCselSel (hs : Kept s₀ s) (w : SlotId) (rd ra rb : RegCode) (cond : BitVec 4) :
    Goes s₀ (execCselSel w rd ra rb cond s) :=
  Goes.alu1 hs _ _ _ _

theorem goes_execCselMinmax (hs : Kept s₀ s) (w : SlotId) (rd ra rb : RegCode) (op : BitVec 2) :
    Goes s₀ (execCselMinmax w rd ra rb op s) :=
  Goes.alu1 hs _ _ _ _

theorem Kept.dcDone (hs : Kept s₀ s) (w : SlotId) (x : Slot) (rd : RegCode) (v : W32) (escape : Bool) :
    Kept s₀ (s.dcDone w x rd v escape) :=
  (hs.done2 _ _ _).setSlot _ _

theorem goes_execDce (hs : Kept s₀ s) (w : SlotId) (rd ra rb : RegCode) (table : BitVec 2) :
    Goes s₀ (execDce w rd ra rb table s) := by
  refine .issue hs _ _ _ fun x u h => ?_
  split
  all_goals exact h.dcDone _ _ _ _ _

theorem Kept.unitRefuse (hs : Kept s₀ s) (w : SlotId) (x : Slot) (unit reason : Nat) (arg : W32) :
    Kept s₀ (s.unitRefuse w x unit reason arg) :=
  (hs.setSlot _ _).trap _ _ _ _

theorem goes_execDcd (hs : Kept s₀ s) (w : SlotId) (rd ra rb : RegCode) (table : BitVec 2) :
    Goes s₀ (execDcd w rd ra rb table s) := by
  refine .issue hs _ _ _ fun x u h => ?_
  split
  · exact h.dcDone _ _ _ _ _
  · exact h.dcDone _ _ _ _ _
  · exact h.unitRefuse _ _ _ _ _

theorem Goes.unitIns (hs : Kept s₀ s) (w : SlotId) (ok : Bool) (f : Slot → State → State)
    (hf : ∀ a u, Kept s₀ u → Kept s₀ (f a u)) : Goes s₀ (s.unitIns w ok f) := .issue hs _ _ _ hf

theorem Kept.dvsq (hs : Kept s₀ s) (w : SlotId) (x : Slot) (ra : RegCode) (byZero : Bool) (ws : List PWrite) :
    Kept s₀ (s.dvsq w x ra byZero ws) :=
  .ite (hs.unitRefuse _ _ _ _ _) (.ite (hs.unitRefuse _ _ _ _ _) (hs.hold _ _ _ _ _ _))

theorem goes_execDivs (hs : Kept s₀ s) (w : SlotId) (rd ra rb : RegCode) : Goes s₀ (execDivs w rd ra rb s) :=
  Goes.unitIns hs _ _ _ (fun _ _ h => h.dvsq _ _ _ _ _)

theorem goes_execDivu (hs : Kept s₀ s) (w : SlotId) (rd ra rb : RegCode) : Goes s₀ (execDivu w rd ra rb s) :=
  Goes.unitIns hs _ _ _ (fun _ _ h => h.dvsq _ _ _ _ _)

theorem goes_execDivq (hs : Kept s₀ s) (w : SlotId) (rd ra rb : RegCode) : Goes s₀ (execDivq w rd ra rb s) :=
  Goes.unitIns hs _ _ _ (fun _ _ h => h.dvsq _ _ _ _ _)

theorem goes_execSqrtu (hs : Kept s₀ s) (w : SlotId) (rd ra : RegCode) : Goes s₀ (execSqrtu w rd ra s) :=
  Goes.unitIns hs _ _ _ (fun _ _ h => h.dvsq _ _ _ _ _)

theorem goes_execSqrtq (hs : Kept s₀ s) (w : SlotId) (rd ra : RegCode) : Goes s₀ (execSqrtq w rd ra s) :=
  Goes.unitIns hs _ _ _ (fun _ _ h => h.dvsq _ _ _ _ _)

theorem Kept.keyFault (hs : Kept s₀ s) (w : SlotId) (x : Slot) (a : W32) : Kept s₀ (s.keyFault w x a) :=
  hs.fresh.accessFault _ _ _ _ _ _ _

theorem goes_execHash (hs : Kept s₀ s) (w : SlotId) (rd ra : RegCode) (table : BitVec 2) :
    Goes s₀ (execHash w rd ra table s) :=
  Goes.unitIns hs _ _ _ (fun _ _ h => .ite (h.keyFault _ _ _)
    (.ite (h.unitRefuse _ _ _ _ _) (.ite (h.unitRefuse _ _ _ _ _) (h.hold _ _ _ _ _ _))))

theorem goes_execLkup (hs : Kept s₀ s) (w : SlotId) (ra rb : RegCode) (table : BitVec 2) :
    Goes s₀ (execLkup w ra rb table s) :=
  Goes.unitIns hs _ _ _ (fun _ _ h => .ite (h.keyFault _ _ _) (.ite (h.unitRefuse _ _ _ _ _) (h.hold _ _ _ _ _ _)))

theorem goes_execLkupResult (hs : Kept s₀ s) (k : Nat) : Goes s₀ (execLkupResult k s) := by
  dsimp only [execLkupResult]
  split
  · exact .next hs
  · exact .next (.ite ((hs.update.countLookup _ _).postReserved _ _ _) (hs.update.countLookup _ _))

theorem goes_execSprd (hs : Kept s₀ s) (w : SlotId) (ra rb : RegCode) : Goes s₀ (execSprd w ra rb s) :=
  Goes.unitIns hs _ _ _ (fun _ _ h => .ite (h.keyFault _ _ _) (.ite (h.unitRefuse _ _ _ _ _) (h.hold _ _ _ _ _ _)))

/-! ### Fulling -/

theorem Kept.setStream (hs : Kept s₀ s) (n : Nat) (x : Stream) : Kept s₀ (s.setStream n x) := hs.update

theorem Kept.dropChunk (hs : Kept s₀ s) (n : Nat) : Kept s₀ (s.dropChunk n) := ((hs.setStream _ _).count _).raiseFirst _

theorem Kept.closeChunk (hs : Kept s₀ s) (n : Nat) : Kept s₀ (s.closeChunk n) := by
  dsimp only [State.closeChunk]
  split
  · exact hs
  · exact .ite ((hs.setStream _ _).dropChunk _) (((hs.setStream _ _).setStream _ _).update)

theorem Kept.acceptSample (hs : Kept s₀ s) (n : Nat) (v : W32) : Kept s₀ (s.acceptSample n v) := by
  have h1 := (hs.setReg (A.fulSseq n) (s.reg (A.fulSseq n) + 1#32)).count 0xF0900
  have h2 : ∀ {u : State}, Kept s₀ u → ∀ x, Kept s₀ (u.setStream n x) := fun h x => h.setStream _ _
  unfold State.acceptSample
  extract_lets _ s1 s2 c d s3
  have k2 : Kept s₀ s2 := by
    dsimp only [s2]
    split
    · exact .ite (h1.closeChunk _) h1
    · exact h1
  exact .ite ((k2.setStream _ _).closeChunk _) (k2.setStream _ _)

theorem goes_execFsub (hs : Kept s₀ s) (w : SlotId) (ra rb : RegCode) : Goes s₀ (execFsub w ra rb s) :=
  Goes.unitIns hs _ _ _ (fun _ _ h => .ite (h.unitRefuse _ _ _ _ _)
    (.ite (h.unitRefuse _ _ _ _ _) ((h.hold _ _ _ _ _ _).acceptSample _ _)))

theorem Kept.streamLast (hs : Kept s₀ s) (n : Nat) (st : Status) : Kept s₀ (s.streamLast n st) :=
  (hs.setFld _ _ _ _).status _

theorem goes_execStreamArm (hs : Kept s₀ s) (ag : Agent) (n : Fin 64) : Goes s₀ (execStreamArm ag n s) :=
  .ite (.next (hs.refuse _ _ _)) (.ite (.next (hs.refuse _ _ _))
    (.ite (.next (((hs.setFld _ _ _ _).setReg _ _).streamLast _ _)) (.next (hs.streamLast _ _))))

theorem goes_execStreamDisarm (hs : Kept s₀ s) (ag : Agent) (n : Fin 64) : Goes s₀ (execStreamDisarm ag n s) :=
  .ite (.next (hs.refuse _ _ _)) (.ite (.next (hs.refuse _ _ _)) (.next (((hs.closeChunk _).setFld _ _ _ _).status _)))

theorem goes_execStreamRestart (hs : Kept s₀ s) (ag : Agent) (n : Fin 64) : Goes s₀ (execStreamRestart ag n s) :=
  .ite (.next (hs.refuse _ _ _)) (.ite (.next (hs.refuse _ _ _)) (.next ((hs.closeChunk _).status _)))

theorem Kept.fulTurn (hs : Kept s₀ s) : Kept s₀ s.fulTurn := hs.foldl _ fun _ _ h => .ite (h.closeChunk _) h

theorem Kept.chunkWritten (hs : Kept s₀ s) (n : Nat) (c : Chunk) : Kept s₀ (s.chunkWritten n c) :=
  (((hs.setStream _ _).count _).countBy _ _).countBy _ _

theorem Kept.outputRefused (hs : Kept s₀ s) (n ev : Nat) : Kept s₀ (s.outputRefused n ev) :=
  ((hs.setStream _ _).dropChunk _).raise _

theorem Kept.handChain (hs : Kept s₀ s) (w owner : Nat) : Kept s₀ (s.handChain w owner) := by
  unfold State.handChain
  split
  · exact hs.moveBuf _ _
  · exact hs.moveBuf _ _

theorem goes_execChunkCellOutput (hs : Kept s₀ s) (n : Fin 64) : Goes s₀ (execChunkCellOutput n s) := by
  dsimp only [execChunkCellOutput]
  split
  · exact .next hs
  · split
    · exact .next hs
    · split
      · exact .next (hs.outputRefused _ _)
      · exact .ite (.ite (.next (((((hs.allocChain _ _).bufWrite _ _ _).chunkWritten _ _).post _ _ _).update))
          (.next (((((hs.allocChain _ _).bufWrite _ _ _).chunkWritten _ _).post _ _ _).handChain _ _)))
          (.next ((hs.allocChain _ _).outputRefused _ _))

theorem kept_retryChunks (hs : Kept s₀ s) (l : List ChunkTok) : Kept s₀ (retryChunks l s).2.2 := by
  induction l generalizing s with
  | nil => exact hs
  | cons k rest ih =>
    have h1 := hs.post k.tag k.value .ok
    exact ih (.ite h1 (h1.handChain _ _))

theorem goes_execChunkTokenRetry (hs : Kept s₀ s) : Goes s₀ (execChunkTokenRetry s) :=
  .next (.ite (((kept_retryChunks hs _).update).raise _) ((kept_retryChunks hs _).update))

theorem Kept.ringWrite (hs : Kept s₀ s) (x c : Nat) (bs : List Byte) : Kept s₀ (s.ringWrite x c bs) :=
  (hs.dramAccess _ _ _ _ _ _).dramWrite _ _ _

theorem goes_execChunkRingOutput (hs : Kept s₀ s) (n : Fin 64) : Goes s₀ (execChunkRingOutput n s) := by
  dsimp only [execChunkRingOutput]
  split
  · exact .next hs
  · split
    · exact .next hs
    · split
      · exact .next (hs.outputRefused _ _)
      · exact .next (((((Kept.ite ((hs.ringWrite _ _ _).setReg _ _) hs).ringWrite _ _ _).ringWrite _ _ _).setReg _
          _).chunkWritten _ _)

/-! ### The shift engine -/

theorem Kept.setChan (hs : Kept s₀ s) (n : Nat) (x : ShfChan) : Kept s₀ (s.setChan n x) := hs.update

theorem Kept.chanLast (hs : Kept s₀ s) (n : Nat) (st : Status) : Kept s₀ (s.chanLast n st) :=
  (hs.setFld _ _ _ _).status _

theorem Kept.drained (hs : Kept s₀ s) (n : Nat) : Kept s₀ (s.drained n) :=
  .ite (.ite (((hs.setReg _ _).setFld _ _ _ _).raise _) (hs.setReg _ _)) hs

theorem Kept.toEntry (hs : Kept s₀ s) (n : Nat) : Kept s₀ (s.toEntry n) := (hs.setChan _ _).drained _

theorem Kept.shfSwap (hs : Kept s₀ s) : Kept s₀ s.shfSwap := by
  have h1 := ((hs.setFld A.shfBankstat 0 0 (1 - s.activeBank)).setFld A.shfBankstat 1 1 0).raise 713
  exact .ite (h1.raise _) (((h1.setReg _ _).setFld _ _ _ _).foldl _ fun _ _ h => .ite (h.toEntry _) h)

theorem Kept.shfToken (hs : Kept s₀ s) (n tag : Nat) (v : W32) (st : Status) : Kept s₀ (s.shfToken n tag v st) :=
  .ite hs (hs.postOr _ _ _ _ (fun _ h => h.update))

theorem Kept.endTransfer (hs : Kept s₀ s) (n : Nat) (st : Status) (code : Nat) : Kept s₀ (s.endTransfer n st code) := by
  dsimp only [State.endTransfer]
  split
  · exact hs
  · exact (((hs.setChan _ _).count _).shfToken _ _ _ _).raise _

theorem Kept.acceptStart (hs : Kept s₀ s) (n len tag : Nat) : Kept s₀ (s.acceptStart n len tag) :=
  .ite (hs.shfToken _ _ _ _) (.ite (hs.setChan _ _) (hs.setChan _ _))

theorem Kept.shfTurn (hs : Kept s₀ s) : Kept s₀ s.shfTurn :=
  hs.foldl _ fun _ _ h => .ite (.ite (h.acceptStart _ _ _) ((h.count _).raiseFirst _)) h

theorem Kept.abortChan (hs : Kept s₀ s) (n : Nat) (st : Status) (restart : Bool) : Kept s₀ (s.abortChan n st restart) :=
  .ite (((hs.endTransfer _ _ _).setChan _ _).toEntry _) (((hs.endTransfer _ _ _).setChan _ _).drained _)

theorem Goes.shfAccess (hs : Kept s₀ s) (ag : Agent) (a : Nat) (f : State → State)
    (hf : ∀ u, Kept s₀ u → Kept s₀ (f u)) : Goes s₀ (s.shfAccess ag a f) :=
  .ite (.next (hs.refuse _ _ _)) (.ite (.next (hs.refuse _ _ _)) (.next (hf _ hs)))

theorem goes_execShiftTxPush (hs : Kept s₀ s) (ag : Agent) (n : Fin 24) (v : W32) :
    Goes s₀ (execShiftTxPush ag n v s) := by
  refine .shfAccess hs _ _ _ fun u h => ?_
  dsimp only
  split
  · exact (h.setChan _ _).chanLast _ _
  · exact .ite (h.chanLast _ _) ((h.setChan _ _).chanLast _ _)

theorem goes_execShiftRxPop (hs : Kept s₀ s) (ag : Agent) (n : Fin 24) : Goes s₀ (execShiftRxPop ag n s) := by
  unfold execShiftRxPop
  grind [Kept.answer, Kept.setChan, Kept.chanLast, Goes.shfAccess]

theorem goes_execShiftStart (hs : Kept s₀ s) (ag : Agent) (n : Fin 24) (v : W32) : Goes s₀ (execShiftStart ag n v s) :=
  Goes.shfAccess hs _ _ _ (fun _ h => .ite ((h.acceptStart _ _ _).chanLast _ _) (h.chanLast _ _))

theorem goes_execShiftAbort (hs : Kept s₀ s) (ag : Agent) (n : Fin 24) : Goes s₀ (execShiftAbort ag n s) :=
  Goes.shfAccess hs _ _ _ (fun _ h => (Kept.ite (h.abortChan _ _ _) h).status _)

theorem goes_execShiftDisable (hs : Kept s₀ s) (ag : Agent) (n : Fin 24) (v : W32) :
    Goes s₀ (execShiftDisable ag n v s) :=
  Goes.shfAccess hs _ _ _ (fun _ h => ((Kept.ite (h.abortChan _ _ _) h).setReg _ _).status _)

theorem goes_execShiftEnable (hs : Kept s₀ s) (ag : Agent) (n : Fin 24) (v : W32) :
    Goes s₀ (execShiftEnable ag n v s) :=
  Goes.shfAccess hs _ _ _ (fun _ h => ((Kept.ite h (h.toEntry _)).setReg _ _).status _)

theorem goes_execShiftStallTimeout (hs : Kept s₀ s) (n : Fin 24) : Goes s₀ (execShiftStallTimeout n s) := by
  dsimp only [execShiftStallTimeout]
  split
  · exact .next hs
  · exact .ite (.next hs) (.next ((((hs.advance _).abortChan _ _ _).count _).raise _))

theorem goes_execShiftTokenRetry (hs : Kept s₀ s) : Goes s₀ (execShiftTokenRetry s) :=
  .next ((kept_repostAll hs _).update.foldl _ fun _ _ h => (h.count _).raise _)

theorem goes_execMicrocodeWrite (hs : Kept s₀ s) (ag : Agent) (v : W32) : Goes s₀ (execMicrocodeWrite ag v s) :=
  .ite (.next (hs.refuse _ _ _)) (Goes.shfAccess hs _ _ _
    (fun _ h => .ite ((((((h.setFld _ _ _ _).update).setReg _ _).setFld _ _ _ _).setFld _ _ _ _).status _)
    ((h.setFld _ _ _ _).status _)))

theorem goes_execBankVerify (hs : Kept s₀ s) (ag : Agent) (words : BitVec 12) : Goes s₀ (execBankVerify ag words s) :=
  .ite (.next (hs.refuse _ _ _)) (Goes.shfAccess hs _ _ _
    (fun _ h => .ite (h.status _) (.ite (h.status _) (h.update.status _))))

theorem goes_execBankVerifyDone (hs : Kept s₀ s) : Goes s₀ (execBankVerifyDone s) := by
  dsimp only [execBankVerifyDone]
  split
  · exact .next hs
  · exact .next (.ite ((((((hs.advance _).setFld _ _ _ _).setFld _ _ _ _).setFld _ _ _ _).setFld _ _ _ _).update)
      (((((((hs.advance _).setFld _ _ _ _).setFld _ _ _ _).setFld _ _ _ _).setFld _ _ _ _).update).raise _))

/-! ### The commands of the shift engine -/

theorem Goes.micros (hs : Kept s₀ s) (n op : Nat) (f : W64 → ShfChan → State → State)
    (hf : ∀ a b u, Kept s₀ u → Kept s₀ (f a b u)) : Goes s₀ (s.micros n op f) :=
  .ite (.next (hf _ _ _ (hs.advance _))) (.next hs)

theorem goes_execYield (hs : Kept s₀ s) (n : Fin 24) : Goes s₀ (execYield n s) := by
  refine .micros hs _ _ _ fun m x u h => ?_
  have h1 := h.endTransfer n .ok 0
  refine .ite (h1.toEntry _) ?_
  split
  all_goals exact h1.setChan _ _

theorem goes_execPin (hs : Kept s₀ s) (n : Fin 24) : Goes s₀ (execPin n s) :=
  Goes.micros hs _ _ _ (fun _ _ _ h => h.setChan _ _)

theorem goes_execShift (hs : Kept s₀ s) (n : Fin 24) : Goes s₀ (execShift n s) :=
  Goes.micros hs _ _ _ (fun _ _ _ h => .ite (((h.setChan _ _).count _).raiseFirst _) (h.setChan _ _))

theorem goes_execShiftComplete (hs : Kept s₀ s) (n : Fin 24) (din : W32) (startBit stopBit : Bool) :
    Goes s₀ (execShiftComplete n din startBit stopBit s) := by
  dsimp only [execShiftComplete]
  split
  · exact .next ((hs.advance _).setChan _ _)
  · exact .next hs

theorem goes_execLdx (hs : Kept s₀ s) (n : Fin 24) : Goes s₀ (execLdx n s) := by
  refine .micros hs _ _ _ fun m x u h => ?_
  split
  · split
    all_goals exact h.setChan _ _
  · exact h.setChan _ _
  · exact h.setChan _ _

theorem goes_execPush (hs : Kept s₀ s) (n : Fin 24) : Goes s₀ (execPush n s) :=
  Goes.micros hs _ _ _ (fun _ _ _ h => .ite (h.setChan _ _) (h.setChan _ _))

theorem goes_execDelay (hs : Kept s₀ s) (n : Fin 24) : Goes s₀ (execDelay n s) :=
  Goes.micros hs _ _ _ (fun _ _ _ h => h.setChan _ _)

theorem Kept.waitEnds (hs : Kept s₀ s) (n : Nat) (t : W64) : Kept s₀ (s.waitEnds n t) := (hs.advance _).setChan _ _

theorem goes_execDelayExpiry (hs : Kept s₀ s) (n : Fin 24) : Goes s₀ (execDelayExpiry n s) := by
  unfold execDelayExpiry
  split
  · exact .next (hs.waitEnds _ _)
  · exact .next hs

theorem goes_execWaitt (hs : Kept s₀ s) (n : Fin 24) : Goes s₀ (execWaitt n s) :=
  Goes.micros hs _ _ _ (fun _ _ _ h => h.setChan _ _)

theorem goes_execWaittExpiry (hs : Kept s₀ s) (n : Fin 24) : Goes s₀ (execWaittExpiry n s) := by
  unfold execWaittExpiry
  split
  · exact .next (hs.waitEnds _ _)
  · exact .next hs

theorem goes_execWaite (hs : Kept s₀ s) (n : Fin 24) : Goes s₀ (execWaite n s) :=
  Goes.micros hs _ _ _ (fun _ _ _ h => h.setChan _ _)

theorem goes_execWaiteEdge (hs : Kept s₀ s) (n : Fin 24) : Goes s₀ (execWaiteEdge n s) := by
  dsimp only [execWaiteEdge]
  split
  · exact .ite (.next hs) (.next (hs.setChan _ _))
  · exact .next hs

theorem goes_execWaiteTimeout (hs : Kept s₀ s) (n : Fin 24) : Goes s₀ (execWaiteTimeout n s) := by
  dsimp only [execWaiteTimeout]
  split
  · exact .next ((hs.advance _).setChan _ _)
  · exact .next hs

theorem goes_execSetl (hs : Kept s₀ s) (n : Fin 24) : Goes s₀ (execSetl n s) :=
  Goes.micros hs _ _ _ (fun _ _ _ h => h.setChan _ _)

theorem goes_execDjnz (hs : Kept s₀ s) (n : Fin 24) : Goes s₀ (execDjnz n s) :=
  Goes.micros hs _ _ _ (fun _ _ _ h => h.setChan _ _)

theorem goes_execMicroJmp (hs : Kept s₀ s) (n : Fin 24) : Goes s₀ (execMicroJmp n s) :=
  Goes.micros hs _ _ _ (fun _ _ _ h => h.setChan _ _)

theorem goes_execJb (hs : Kept s₀ s) (n : Fin 24) : Goes s₀ (execJb n s) :=
  Goes.micros hs _ _ _ (fun _ _ _ h => h.setChan _ _)

theorem goes_execDone (hs : Kept s₀ s) (n : Fin 24) : Goes s₀ (execDone n s) :=
  Goes.micros hs _ _ _ (fun _ _ _ h => (h.setChan _ _).endTransfer _ _ _)

theorem goes_execMicroNop (hs : Kept s₀ s) (n : Fin 24) : Goes s₀ (execMicroNop n s) :=
  Goes.micros hs _ _ _ (fun _ _ _ h => h.setChan _ _)

/-! ### The commands of the power chapter -/

theorem Kept.loadShf (hs : Kept s₀ s) : Kept s₀ s.loadShf :=
  (hs.foldl _ fun _ _ h => ((h.setReg _ _).setReg _ _).setReg _ _).update

theorem Kept.startShf (hs : Kept s₀ s) : Kept s₀ s.startShf := hs.foldl _ fun _ _ h => .ite (h.toEntry _) h

theorem Kept.pdRefused (hs : Kept s₀ s) (st : Status) : Kept s₀ (s.pdRefused st) :=
  .ite ((hs.raise _).raise _) (hs.raiseFirst _)

theorem Kept.pdReq (hs : Kept s₀ s) (ag : Agent) (d target : Nat) : Kept s₀ (s.pdReq ag d target) :=
  .ite ((Kept.ite (((hs.setReg _ _).pdRefused _).logHost _ _ _ _ _) ((hs.setReg _ _).pdRefused _)).status _)
    (.ite ((hs.setReg _ _).status _) (((hs.setReg _ _).pdSwitch _ _).status _))

theorem Goes.pdCmd (hs : Kept s₀ s) (ag : Agent) (d : BitVec 7) (target : Nat) : Goes s₀ (s.pdCmd ag d target) :=
  .ite (.next (hs.refuse _ _ _)) (.next (hs.pdReq _ _ _))

theorem goes_execDomainOn (hs : Kept s₀ s) (ag : Agent) (d : BitVec 7) : Goes s₀ (execDomainOn ag d s) :=
  Goes.pdCmd hs _ _ _

theorem goes_execDomainRetain (hs : Kept s₀ s) (ag : Agent) (d : BitVec 7) : Goes s₀ (execDomainRetain ag d s) :=
  Goes.pdCmd hs _ _ _

theorem goes_execDomainOff (hs : Kept s₀ s) (ag : Agent) (d : BitVec 7) : Goes s₀ (execDomainOff ag d s) :=
  Goes.pdCmd hs _ _ _

theorem Kept.domainLost (hs : Kept s₀ s) (d : Nat) : Kept s₀ (s.domainLost d) := hs.update

theorem Kept.lkOff (hs : Kept s₀ s) : Kept s₀ s.lkOff := hs.update

theorem Kept.domainOff (hs : Kept s₀ s) (d : Nat) : Kept s₀ (s.domainOff d) := by
  unfold State.domainOff
  extract_lets s1
  have h1 : Kept s₀ s1 := hs.domainLost _
  have hd : ∀ t : State, t.pending = s1.pending → ∀ k n, t.mem = memDrop s1.mem k n → Kept s₀ t :=
    fun t hp k n hm => h1.trans ⟨hp, fun w => by rw [hm]; exact memFilter_wf _ _ w⟩
  split
  · exact h1.trans ⟨rfl, fun w => memFilter_wf _ _ (memFilter_wf _ _ w)⟩
  split
  · exact hd _ rfl _ _ rfl
  split
  · exact hd _ rfl _ _ rfl
  split
  · exact hd _ rfl _ _ rfl
  · exact .ite h1.update (.ite h1.lkOff (.ite h1.update (.ite h1.update h1)))

theorem Kept.domainBack (hs : Kept s₀ s) (d was : Nat) : Kept s₀ (s.domainBack d was) := by
  dsimp only [State.domainBack]
  split
  · split
    · exact .ite hs.update hs
    · exact hs
  · exact .ite hs.loadShf.startShf (.ite hs.update hs)

theorem Kept.lanesOff (hs : Kept s₀ s) (d : Nat) : Kept s₀ (s.lanesOff d) :=
  (hs.foldl _ fun _ _ h => (h.setFld _ _ _ _).setPort _ _).update

theorem Kept.channelBack (hs : Kept s₀ s) (d was : Nat) (replay : Bool) : Kept s₀ (s.channelBack d was replay) :=
  .ite ((hs.setCh _ _).setFld _ _ _ _) hs

theorem goes_execDomainSwitchComplete (hs : Kept s₀ s) (d : Fin 84) (replay : Bool) :
    Goes s₀ (execDomainSwitchComplete d replay s) := by
  dsimp only [execDomainSwitchComplete]
  split
  · exact .next hs
  · split
    · exact .next hs
    · exact .ite (.next hs) (.ite (.next (((Kept.ite
        ((Kept.ite ((hs.update.setPd _ _).domainOff _) (hs.update.setPd _ _)).lanesOff _)
        (.ite ((hs.update.setPd _ _).domainOff _) (hs.update.setPd _ _))).channelBack _ _ _).domainBack _ _))
        (.next (.ite ((Kept.ite ((hs.update.setPd _ _).domainOff _) (hs.update.setPd _ _)).lanesOff _)
        (.ite ((hs.update.setPd _ _).domainOff _) (hs.update.setPd _ _)))))

theorem goes_execLaneRecalibrationComplete (hs : Kept s₀ s) (hi : Bool) :
    Goes s₀ (execLaneRecalibrationComplete hi s) :=
  .next hs.update

theorem Kept.ckReq (hs : Kept s₀ s) (ag : Agent) (v : W32) : Kept s₀ (s.ckReq ag v) :=
  .ite (((hs.setReg _ _).setReg _ _).status _) ((Kept.ite (((hs.setReg _ _).pdRefused _).logHost _ _ _ _ _)
    ((hs.setReg _ _).pdRefused _)).status _)

theorem goes_execClockGate (hs : Kept s₀ s) (ag : Agent) (v : W32) : Goes s₀ (execClockGate ag v s) :=
  .ite (.next (hs.refuse _ _ _)) (.next (hs.ckReq _ _))

theorem Kept.monitors (hs : Kept s₀ s) (pm : List (BitVec 10)) (rpl : List (BitVec 16)) :
    Kept s₀ (s.monitors pm rpl) :=
  hs.foldl _ fun _ _ h => .ite (((h.setReg _ _).setReg _ _).raise _) ((h.setReg _ _).setReg _ _)

theorem Kept.govern (hs : Kept s₀ s) (pm : List (BitVec 10)) (rpl : List (BitVec 16)) : Kept s₀ (s.govern pm rpl) := by
  unfold State.govern
  extract_lets s0 e fin f late m v fixed c s1 _ s2 s3 s4
  have h0 : Kept s₀ s0 := (hs.advance _).monitors _ _
  have h2 : Kept s₀ s2 := ((h0.setReg _ _).setReg _ _).update
  have h3 : Kept s₀ s3 := .ite (h2.raise _) h2
  have h4 : Kept s₀ s4 := .ite (h3.raise _) h3
  exact .ite h2 (.ite h4 (((h4.setFld _ _ _ _).hwArm _).raise _))

theorem goes_execGovernorDecision (hs : Kept s₀ s) (pm : List (BitVec 10)) (rpl : List (BitVec 16)) :
    Goes s₀ (execGovernorDecision pm rpl s) :=
  .ite (.next hs) (.next (hs.govern _ _))

theorem Kept.thermalShutdown (hs : Kept s₀ s) (sensor : Nat) : Kept s₀ (s.thermalShutdown sensor) :=
  ((hs.foldl _ fun _ _ h => (h.leaveService _).setFld _ _ _ _).update.foldl _
    fun _ _ h => .ite h ((h.setPd _ _).domainOff _)).setReg _ _

theorem goes_execTemperatureSample (hs : Kept s₀ s) (tj : List (BitVec 12)) : Goes s₀ (execTemperatureSample tj s) := by
  unfold execTemperatureSample
  extract_lets h s1 s2 warn thr _ s3 s4 s5
  have h1 : Kept s₀ s1 := Kept.foldl hs _ fun _ _ h => h.setReg _ _
  have h3 : Kept s₀ s3 := (h1.setReg _ _).update
  have h4 : Kept s₀ s4 := .ite (h3.raise _) h3
  have h5 : Kept s₀ s5 := .ite (h4.raise _) h4
  exact .ite (.next ((h5.raise _).thermalShutdown _)) (.next h5)

theorem goes_execThermalRecovery (hs : Kept s₀ s) : Goes s₀ (execThermalRecovery s) :=
  .ite (.next (hs.powerOn _)) (.next hs)

theorem goes_execRailSample (hs : Kept s₀ s) (mv : List (BitVec 16)) (settled : Bool) :
    Goes s₀ (execRailSample mv settled s) := by
  unfold execRailSample
  grind [Kept.setReg, Kept.raise, Kept.foldl, Goes.next]

/-! ### The start steps -/

theorem Kept.newEntry (hs : Kept s₀ s) (kind bank mode : Nat) : Kept s₀ (s.newEntry kind bank mode).2 :=
  (Kept.ite (hs.flashOn.eraseSector _) hs.flashOn).writeBytes _ _

theorem Kept.logPut (hs : Kept s₀ s) (o n v : Nat) : Kept s₀ (s.logPut o n v) := by
  unfold State.logPut
  split
  · exact hs
  · exact hs.flashOn.writeLE _ _ _

theorem Kept.logBit (hs : Kept s₀ s) (o i : Nat) : Kept s₀ (s.logBit o i) := by
  unfold State.logBit
  split
  · exact hs
  · exact hs.flashOn.writeLE _ _ _

theorem Kept.failedEntry (hs : Kept s₀ s) (f : Failure) : Kept s₀ (s.failedEntry f) :=
  ((((hs.newEntry _ _ _).writeLE _ _ _).writeLE _ _ _).writeLE _ _ _).writeLE _ _ _

theorem Kept.showPrev (hs : Kept s₀ s) (l : List (Nat × Nat)) : Kept s₀ (s.showPrev l) :=
  ((hs.setFld _ _ _ _).setFld _ _ _ _).setFld _ _ _ _

theorem Kept.markStep (hs : Kept s₀ s) (n : Nat) : Kept s₀ (s.markStep n) := (hs.update.setFld _ _ _ _).logBit _ _

theorem Kept.skipSteps (hs : Kept s₀ s) (l : List Nat) : Kept s₀ (s.skipSteps l) :=
  hs.foldl _ fun _ _ h => h.logBit _ _

theorem Kept.linkStep (hs : Kept s₀ s) : Kept s₀ s.linkStep :=
  .ite (.ite ((hs.markStep _).skipSteps _) (hs.markStep _)) hs

theorem Kept.stepDone (hs : Kept s₀ s) (n : Nat) : Kept s₀ (s.stepDone n) :=
  .ite ((hs.markStep _).linkStep) (.ite (((hs.markStep _).skipSteps _).linkStep) (hs.markStep _))

theorem Kept.halt (hs : Kept s₀ s) : Kept s₀ s.halt := (hs.setPd _ _).update

theorem Kept.stepFails (hs : Kept s₀ s) (n cause detail : Nat) : Kept s₀ (s.stepFails n cause detail) :=
  .ite (((Kept.ite hs.update (((hs.logPut _ _ _).logPut _ _ _).logPut _ _ _)).update).halt)
    (((Kept.ite hs.update (((hs.logPut _ _ _).logPut _ _ _).logPut _ _ _)).update).update)

theorem Goes.plainStep (hs : Kept s₀ s) (n cause : Nat) (bad : Option Nat) (f : State → State)
    (hf : ∀ u, Kept s₀ u → Kept s₀ (f u)) : Goes s₀ (s.plainStep n cause bad f) := by
  refine .ite (.next hs) ?_
  split
  · exact .next (hs.stepFails _ _ _)
  · exact .next ((hf _ hs).stepDone _)

theorem goes_execVinGood (hs : Kept s₀ s) (test : Bool) : Goes s₀ (execVinGood test s) :=
  .ite (.next hs) (.plainStep hs _ _ _ _ fun _ h => h)

theorem Kept.railsStart (hs : Kept s₀ s) (vfsel : Bool) (bad : Option (Fin 8)) : Kept s₀ (s.railsStart vfsel bad) := by
  dsimp only [State.railsStart]
  split
  · exact hs.update.stepFails _ _ _
  · exact hs.update.update.stepDone _

theorem goes_execRegulators (hs : Kept s₀ s) (vfsel : Bool) (bad : Option (Fin 8)) :
    Goes s₀ (execRegulators vfsel bad s) :=
  .ite (.next hs) (.next (hs.railsStart _ _))

theorem goes_execRegulatorRetry (hs : Kept s₀ s) (vfsel : Bool) (bad : Option (Fin 8)) :
    Goes s₀ (execRegulatorRetry vfsel bad s) :=
  .ite (.next hs) (.next (hs.railsStart _ _))

theorem goes_execAlwaysOn (hs : Kept s₀ s) (drspd : BitVec 2) : Goes s₀ (execAlwaysOn drspd s) :=
  Goes.plainStep hs _ _ _ _ (fun _ h => h.update.setPd _ _)

theorem goes_execOtpAndLifeCycle (hs : Kept s₀ s) (bad : Option (BitVec 16)) :
    Goes s₀ (execOtpAndLifeCycle bad s) :=
  .ite (.plainStep hs _ _ _ _ fun _ h => h) (.plainStep hs.update _ _ _ _ fun _ h => h)

theorem goes_execBatteryDomainAndTamper (hs : Kept s₀ s) : Goes s₀ (execBatteryDomainAndTamper s) :=
  Goes.plainStep hs _ _ _ _ (fun _ h => h.checkRoot)

theorem goes_execWardenRomSelfTest (hs : Kept s₀ s) (bad : Option (Fin 4)) :
    Goes s₀ (execWardenRomSelfTest bad s) := .plainStep hs _ _ _ _ fun _ h => h

theorem Kept.finishWipe (hs : Kept s₀ s) : Kept s₀ s.finishWipe := .ite ((hs.wipeFlash _).writeRec _) hs

theorem Kept.countTrial (hs : Kept s₀ s) : Kept s₀ s.countTrial :=
  .ite hs (.ite ((hs.writeRec _).update) (hs.writeRec _))

theorem Kept.burnPending (hs : Kept s₀ s) : Kept s₀ s.burnPending := .ite ((hs.burnArb _).writeRec _) hs

theorem Kept.flashStep (hs : Kept s₀ s) (limp : Bool) (l : List (Nat × Nat)) : Kept s₀ (s.flashStep limp l) := by
  unfold State.flashStep
  extract_lets s1 _ s2 s3 e s4
  have h1 : Kept s₀ s1 := by grind [Kept.failedEntry]
  have h3 : Kept s₀ s3 := h1.update.finishWipe.countTrial.burnPending.showPrev _
  have h4 : Kept s₀ s4 := (h3.newEntry _ _ _).writeLE _ _ _
  exact h4.update.stepDone _

theorem goes_execFlashAndUpdateRecord (hs : Kept s₀ s) (bad : Option (BitVec 16)) :
    Goes s₀ (execFlashAndUpdateRecord bad s) := by
  dsimp only [execFlashAndUpdateRecord]
  split
  · exact .next hs
  · split
    · exact .ite (.next ((hs.update.showPrev _).stepDone _)) (.next (hs.stepFails _ _ _))
    · exact .ite (.next (hs.stepFails _ _ _)) (.next (hs.flashStep _ _))

theorem Kept.toLimp (hs : Kept s₀ s) : Kept s₀ s.toLimp := hs.update

theorem Kept.imageFails (hs : Kept s₀ s) (n : Nat) (e : ImgErr) : Kept s₀ (s.imageFails n e).1 := by
  dsimp only [State.imageFails]
  split
  · exact ((((hs.loadErr _ _).logPut _ _ _).logPut _ _ _).logPut _ _ _).toLimp
  · exact (hs.loadErr _ _).stepFails _ _ _

theorem goes_execImageSelectAndVerify (hs : Kept s₀ s) : Goes s₀ (execImageSelectAndVerify s) := by
  dsimp only [execImageSelectAndVerify]
  split
  · exact .next hs
  · split
    · exact .next (hs.stepDone _)
    · split
      · exact .next (hs.toLimp.stepDone _)
      · split
        · exact .next (hs.update.stepDone _)
        · exact .next (.ite ((hs.update.imageFails _ _).stepDone _) (hs.update.imageFails _ _))

theorem Kept.showDigest (hs : Kept s₀ s) (d : BitVec 256) : Kept s₀ (s.showDigest d) :=
  hs.foldl _ fun _ _ h => h.setReg _ _

theorem Kept.setRoutes (hs : Kept s₀ s) (e : Nat) (l : List W32) : Kept s₀ (s.setRoutes e l) :=
  hs.foldl _ fun _ _ h => h.setReg _ _

theorem Kept.setDomains (hs : Kept s₀ s) (l : List Nat) : Kept s₀ (s.setDomains l) :=
  hs.foldl _ fun _ _ h => h.setPd _ _

theorem Kept.setMembers (hs : Kept s₀ s) (f : Fabric) : Kept s₀ (s.setMembers f) :=
  hs.foldl _ fun _ _ h => h.foldl _ fun _ _ k => .ite (k.setCore _ _) k

theorem Kept.setGovernor (hs : Kept s₀ s) (p : PowerCfg) : Kept s₀ (s.setGovernor p) :=
  ((hs.setReg _ _).setReg _ _).setReg _ _

theorem Kept.setSecure (hs : Kept s₀ s) (x : SecureCfg) : Kept s₀ (s.setSecure x) :=
  (((hs.foldl _ fun _ _ h => h.setReg _ _).setReg _ _).foldl _ fun _ _ h => h.setFld _ _ _ _).setRoutes _ _

theorem Kept.loadImage (hs : Kept s₀ s) (b : Nat) : Kept s₀ (s.loadImage b) :=
  (((((((((((hs.update.setReg _ _).setReg _ _).setReg _ _).showDigest _).setRoutes _ _).setSecure _).setDomains
    _).setGovernor _).setPd _ _).setPd _ _).setMembers _).loadShf

theorem Kept.loadLimp (hs : Kept s₀ s) : Kept s₀ s.loadLimp :=
  (((hs.update.setReg _ _).setRoutes _ _).setDomains _).setFld _ _ _ _

theorem goes_execShapeLoad (hs : Kept s₀ s) : Goes s₀ (execShapeLoad s) := by
  dsimp only [execShapeLoad]
  split
  · exact .next hs
  · split
    · split
      · exact .next ((hs.loadImage _).stepDone _)
      · exact .next (.ite (((hs.imageFails _ _).loadLimp).stepDone _) (hs.imageFails _ _))
    · exact .next (hs.loadLimp.stepDone _)

theorem goes_execSramRepairAndInitialisation (hs : Kept s₀ s) (bad : Option (BitVec 16)) :
    Goes s₀ (execSramRepairAndInitialisation bad s) :=
  Goes.plainStep hs _ _ _ _ fun _ h => h.trans ⟨rfl, memFilter_wf _ _⟩

theorem goes_execTimebasePll (hs : Kept s₀ s) (lock : Bool) : Goes s₀ (execTimebasePll lock s) :=
  Goes.plainStep hs _ _ _ _ (fun _ h => h.update)

theorem Kept.setFall (hs : Kept s₀ s) (x k : Nat) : Kept s₀ (s.setFall x k) := hs.update

theorem Kept.trained (hs : Kept s₀ s) (x how : Nat) (two : Bool) : Kept s₀ (s.trained x how two) :=
  (hs.setReg _ _).setCh _ _

theorem Kept.fallTrain (hs : Kept s₀ s) (x : Nat) (replay slow two : Bool) : Kept s₀ (s.fallTrain x replay slow two) :=
  .ite (hs.trained _ _ _) (.ite ((hs.setFall _ _).trained _ _ _) (hs.setFall _ _))

theorem Goes.trainStep (hs : Kept s₀ s) (x : Nat) (bad : Option (Fin 6)) (replay slow differs two : Bool) :
    Goes s₀ (s.trainStep x bad replay slow differs two) := by
  unfold State.trainStep
  grind [Kept.stepDone, Kept.stepFails, Kept.trained, Kept.fallTrain, Kept.update, Goes.next]

theorem goes_execDramATraining (hs : Kept s₀ s) (bad : Option (Fin 6)) (replay slow differs two : Bool) :
    Goes s₀ (execDramATraining bad replay slow differs two s) :=
  Goes.trainStep hs _ _ _ _ _ _

theorem goes_execDramBTraining (hs : Kept s₀ s) (bad : Option (Fin 6)) (replay slow differs two : Bool) :
    Goes s₀ (execDramBTraining bad replay slow differs two s) :=
  Goes.trainStep hs _ _ _ _ _ _

theorem goes_execSerdesCalibration (hs : Kept s₀ s) (bad : Option (Fin 8)) :
    Goes s₀ (execSerdesCalibration bad s) := .plainStep hs _ _ _ _ fun _ h => h

theorem goes_execPcieLink (hs : Kept s₀ s) : Goes s₀ (execPcieLink s) :=
  .ite (.next hs) (.next (.ite hs.update.linkStep hs.update))

theorem goes_execLinkLossDuringBringUp (hs : Kept s₀ s) : Goes s₀ (execLinkLossDuringBringUp s) :=
  .ite (.next hs.update) (.next hs)

theorem Kept.replaceCore (hs : Kept s₀ s) (c : Nat) : Kept s₀ (s.replaceCore c) := by
  dsimp only [State.replaceCore]
  split
  · exact ((((hs.setCore _ _).setPd _ _).setReg _ _).setCore _ _).setPd _ _
  · exact ((hs.setCore _ _).setPd _ _).setReg _ _

theorem Kept.applyQuar (hs : Kept s₀ s) : Kept s₀ s.applyQuar :=
  hs.foldl _ fun _ _ h => .ite (.ite (h.replaceCore _) ((h.setCore _ _).setPd _ _)) h

theorem goes_execCoreSelfTestAndQuarantine (hs : Kept s₀ s) (bad : Option (Fin 64)) :
    Goes s₀ (execCoreSelfTestAndQuarantine bad s) := by
  dsimp only [execCoreSelfTestAndQuarantine]
  split
  · exact .next hs
  · split
    · exact .next ((hs.applyQuar.toLimp.loadLimp.stepDone _).skipSteps _)
    · split
      · exact .next (hs.stepFails _ _ _)
      · exact .next (hs.applyQuar.stepDone _)

theorem Kept.setVcore (hs : Kept s₀ s) (v : Nat) (fixed : Bool) : Kept s₀ (s.setVcore v fixed) := hs.setReg _ _

theorem goes_execGovernorCalibration (hs : Kept s₀ s) (cal : List (List (BitVec 16))) (bad : Option (Fin 64)) :
    Goes s₀ (execGovernorCalibration cal bad s) := by
  dsimp only [execGovernorCalibration]
  split
  · exact .next hs
  · split
    · exact .next ((hs.setVcore _ _).stepDone _)
    · split
      · exact .next (hs.stepFails _ _ _)
      · exact .next ((hs.update.setVcore _ _).stepDone _)

theorem Kept.initTables (hs : Kept s₀ s) : Kept s₀ s.initTables := by
  unfold State.initTables
  extract_lets s1 s2
  have h1 : Kept s₀ s1 := hs.trans ⟨rfl, fun w => memFilter_wf _ _ w⟩
  have h2 : Kept s₀ s2 := Kept.foldl h1 _ fun _ _ h => (((h.setReg _ _).setReg _ _).setReg _ _).setFld _ _ _ _
  split
  · exact h2.setReg _ _
  · exact h2

theorem goes_execTableInitialisation (hs : Kept s₀ s) (bad : Option (Fin 3)) :
    Goes s₀ (execTableInitialisation bad s) :=
  Goes.plainStep hs _ _ _ _ (fun _ h => h.initTables)

theorem Kept.startSecure (hs : Kept s₀ s) : Kept s₀ s.startSecure := by
  unfold State.startSecure
  extract_lets x s1 s2 _ s3 _ s4 s5
  have h1 : Kept s₀ s1 := ((hs.writeBytes _ _).writeBytes _ _).writeBytes _ _
  have h3 : Kept s₀ s3 := ((h1.setFld _ _ _ _).startWarden).update
  have h4 : Kept s₀ s4 := .ite ((h3.update.raise _).raise _) h3
  have h5 : Kept s₀ s5 := .ite (h4.raise _) h4
  exact .ite (h5.raise _) h5

theorem goes_execSecureWorldStart (hs : Kept s₀ s) (bad : Option (BitVec 16)) :
    Goes s₀ (execSecureWorldStart bad s) := by
  unfold execSecureWorldStart
  split
  · exact .next hs
  · split
    · exact .next (hs.startSecure.stepDone _)
    · exact .ite (.next (hs.stepDone _)) (.next (hs.stepFails _ _ _))

theorem Kept.showFallback (hs : Kept s₀ s) : Kept s₀ s.showFallback := ((hs.setReg _ _).setReg _ _).setReg _ _

theorem Kept.startChannel (hs : Kept s₀ s) (x : Nat) : Kept s₀ (s.startChannel x) :=
  .ite hs (.ite (((hs.setFld _ _ _ _).setCh _ _).raise _) ((hs.setFld _ _ _ _).setCh _ _))

theorem Kept.startCores (hs : Kept s₀ s) : Kept s₀ s.startCores := by
  refine Kept.foldl (hs.foldl _ fun u c h => ?_) _ fun u i h => ?_
  · split
    · exact h.loadCore _ _
    · exact h
  · split
    · exact h.rootThread _ _
    · exact h

theorem Kept.startTimer (hs : Kept s₀ s) : Kept s₀ s.startTimer := hs.update.setReg _ _

theorem goes_execReady (hs : Kept s₀ s) (us : W32) (vinmin tjmax : BitVec 16) : Goes s₀ (execReady us vinmin tjmax s) :=
  .ite (.next hs) (.next (((((((((((((((((hs.showFallback.setReg _ _).markStep _).setFld _ _ _ _).setFld _ _ _ _).setReg
    _ _).logPut _ _ _).logPut _ _ _).logPut _ _ _).logPut _ _ _).logPut _ _ _).showRec).update).startTimer).startChannel
    _).startChannel _).startCores).startShf))

theorem goes_execStartStepTimeout (hs : Kept s₀ s) : Goes s₀ (execStartStepTimeout s) :=
  .ite (.next hs) (.ite (.next (hs.stepDone _)) (.next (hs.stepFails _ _ _)))

theorem goes_execInternalRestart (hs : Kept s₀ s) : Goes s₀ (execInternalRestart s) := by
  unfold execInternalRestart
  split
  · exact .next hs
  · exact .ite (.next hs) (.next hs.update.internalReset)

theorem goes_execPowerOnReset (hs : Kept s₀ s) (vbat : Bool) : Goes s₀ (execPowerOnReset vbat s) := .next (hs.powerOn _)

theorem goes_execPerstAssert (hs : Kept s₀ s) : Goes s₀ (execPerstAssert s) := .next ((hs.cleared _ _ _).update)

theorem goes_execPerstRelease (hs : Kept s₀ s) : Goes s₀ (execPerstRelease s) :=
  .ite (.next ((hs.chipReset _).update)) (.next hs)

theorem Kept.setRetry (hs : Kept s₀ s) : Kept s₀ s.setRetry := hs.update.setFld _ _ _ _

theorem Kept.bootCtrl (hs : Kept s₀ s) (ag : Agent) (v : W32) : Kept s₀ (s.bootCtrl ag v) :=
  .ite (hs.refuse _ _ _) (.ite (((Kept.ite hs.setRetry hs).chipReset _).status _) ((Kept.ite hs.setRetry hs).status _))

theorem goes_execSoftReset (hs : Kept s₀ s) (ag : Agent) (v : W32) : Goes s₀ (execSoftReset ag v s) :=
  .next (hs.bootCtrl _ _)

theorem goes_execRetryAll (hs : Kept s₀ s) (ag : Agent) (v : W32) : Goes s₀ (execRetryAll ag v s) :=
  .next (hs.bootCtrl _ _)

theorem goes_execSecureWatchdogReset (hs : Kept s₀ s) : Goes s₀ (execSecureWatchdogReset s) :=
  .ite (.next (hs.chipReset _)) (.next hs)

theorem goes_execPreReadyRequest (hs : Kept s₀ s) (posted : Bool) (bar : Option (Bool × BitVec 28)) :
    Goes s₀ (execPreReadyRequest posted bar s) := by
  refine .ite (.next hs) ?_
  cases bar with
  | none => exact .next (.ite (hs.status _) hs.update)
  | some b => exact .next (.ite ((hs.logHost _ _ _ _ _).status _) (hs.logHost _ _ _ _ _).update)

theorem goes_execPreReadyConfigRequest (hs : Kept s₀ s) : Goes s₀ (execPreReadyConfigRequest s) :=
  .ite (.next hs) (.next hs.update)

theorem goes_execConfigurationWrite (hs : Kept s₀ s) (busMaster memSpace msixEnable msixMask : Bool) :
    Goes s₀ (execConfigurationWrite busMaster memSpace msixEnable msixMask s) :=
  .ite (.next hs.update) (.next ((Kept.ite hs.update.update hs.update).status _))

/-! ### Control instructions -/

theorem goes_execBcc (hs : Kept s₀ s) (w : SlotId) (cond : BitVec 4) (hint : BitVec 2) (off : BitVec 16) :
    Goes s₀ (execBcc w cond hint off s) :=
  Goes.issue hs _ _ _ (fun _ _ h => .ite (.ite ((h.retire _ _ _ _).fetchFault _ _ _) (h.retire _ _ _ _))
    (.ite (h.retire _ _ _ _) ((h.retire _ _ _ _).setSlot _ _)))

theorem Kept.jumpTo (hs : Kept s₀ s) (w : SlotId) (a pc : W32) (f : W32 → State)
    (hf : ∀ a, Kept s₀ (f a)) : Kept s₀ (s.jumpTo w a pc f) := .ite (hs.fetchFault _ _ _) (hf _)

theorem goes_execJmp (hs : Kept s₀ s) (w : SlotId) (word : BitVec 13) : Goes s₀ (execJmp w word s) :=
  Goes.issue hs _ _ _ (fun _ _ h => h.retire _ _ _ _)

theorem goes_execJmpr (hs : Kept s₀ s) (w : SlotId) (ra : RegCode) : Goes s₀ (execJmpr w ra s) :=
  Goes.issue hs _ _ _ (fun _ _ h => h.jumpTo _ _ _ _ (fun _ => h.retire _ _ _ _))

theorem Kept.callTo (hs : Kept s₀ s) (w : SlotId) (x : Slot) (a : W32) : Kept s₀ (s.callTo w x a) :=
  .ite (hs.trap _ _ _ _) (((hs.retire _ _ _ _).setSlot _ _).saved _)

theorem goes_execCall (hs : Kept s₀ s) (w : SlotId) (word : BitVec 13) : Goes s₀ (execCall w word s) :=
  Goes.issue hs _ _ _ (fun _ _ h => h.callTo _ _ _)

theorem goes_execCallr (hs : Kept s₀ s) (w : SlotId) (ra : RegCode) : Goes s₀ (execCallr w ra s) :=
  Goes.issue hs _ _ _ (fun _ _ h => h.jumpTo _ _ _ _ (fun _ => h.callTo _ _ _))

theorem goes_execRet (hs : Kept s₀ s) (w : SlotId) : Goes s₀ (execRet w s) := by
  refine .issue hs _ _ _ fun x u h => ?_
  split
  · exact h.trap _ _ _ _
  · exact .ite (h.fetchFault _ _ _) (((h.retire _ _ _ _).setSlot _ _).saved _)

theorem goes_execEnter (hs : Kept s₀ s) (w : SlotId) : Goes s₀ (execEnter w s) :=
  Goes.issue hs _ _ _ (fun _ _ h => .ite (h.trap _ _ _ _) (((h.done1 _ _ _).setSlot _ _).saved _))

theorem goes_execLeave (hs : Kept s₀ s) (w : SlotId) : Goes s₀ (execLeave w s) :=
  Goes.issue hs _ _ _ (fun _ _ h => .ite (h.trap _ _ _ _) (((h.done1 _ _ _).setSlot _ _).saved _))

theorem goes_execTrap (hs : Kept s₀ s) (w : SlotId) (k : BitVec 3) : Goes s₀ (execTrap w k s) :=
  Goes.issue hs _ _ _ (fun _ _ h => h.trap _ _ _ _)

theorem goes_execTexit (hs : Kept s₀ s) (w : SlotId) (ra : RegCode) : Goes s₀ (execTexit w ra s) :=
  Goes.issue hs _ _ _ (fun _ _ h => h.jumpTo _ _ _ _ (fun _ => (h.landAll _).setSlot _ _))

theorem goes_execRds (hs : Kept s₀ s) (w : SlotId) (rd : RegCode) (sr : BitVec 5) : Goes s₀ (execRds w rd sr s) :=
  Goes.issue hs _ _ _ (fun _ _ h => h.done1 _ _ _)

theorem goes_execWrs (hs : Kept s₀ s) (w : SlotId) (sr : BitVec 5) (ra : RegCode) : Goes s₀ (execWrs w sr ra s) :=
  Goes.issue hs _ _ _ (fun _ _ h => h.done2 _ _ _)

theorem goes_execRspush (hs : Kept s₀ s) (w : SlotId) (ra : RegCode) : Goes s₀ (execRspush w ra s) :=
  Goes.issue hs _ _ _ (fun _ _ h => ((h.done1 _ _ _).setSlot _ _).saved _)

theorem goes_execRspop (hs : Kept s₀ s) (w : SlotId) (rd : RegCode) : Goes s₀ (execRspop w rd s) :=
  Goes.issue hs _ _ _ (fun _ _ h => ((h.done1 _ _ _).setSlot _ _).saved _)

theorem Kept.noBlock (hs : Kept s₀ s) (w : SlotId) (x : Slot) (st : Status) : Kept s₀ (s.noBlock w x st) :=
  ((hs.drain _).landAll _).done1 _ _ _

theorem goes_execTake (hs : Kept s₀ s) (w : SlotId) : Goes s₀ (execTake w s) := by
  refine .issue hs _ _ _ fun x u h => ?_
  split
  · exact h
  · exact .ite (h.block _ _ _ _ _ _) (h.noBlock _ _ _)

theorem goes_execWait (hs : Kept s₀ s) (w : SlotId) (ra rb : RegCode) (n : BitVec 3) :
    Goes s₀ (execWait w ra rb n s) := by
  unfold execWait
  grind [Kept.setSlot, Kept.block, Goes.issue, Kept.noBlock]

theorem goes_execGive (hs : Kept s₀ s) (w : SlotId) (ra rb : RegCode) : Goes s₀ (execGive w ra rb s) :=
  Goes.issue hs _ _ _ (fun _ _ h => ((h.drain _).post _ _ _).hold _ _ _ _ _ _)

/-! ### The commands of the host link -/

theorem Kept.bar2ReadPart (hs : Kept s₀ s) (off n : Nat) : Kept s₀ (s.bar2ReadPart off n).2 := by
  dsimp only [State.bar2ReadPart]
  split
  · split
    · exact hs
    · exact hs.dramAccess _ _ _ _ _ _
  · exact hs.logHost _ _ _ _ _

theorem goes_execBar2Read (hs : Kept s₀ s) (off : BitVec 28) (n : Fin 9) : Goes s₀ (execBar2Read off n s) := by
  unfold execBar2Read
  split
  · refine .next (Kept.answer (Kept.foldlSnd hs _ ?_) _ _)
    exact fun _ _ h => h.bar2ReadPart _ _
  · exact .next hs

theorem Kept.bar2WritePart (hs : Kept s₀ s) (off : Nat) (bs : List Byte) : Kept s₀ (s.bar2WritePart off bs) :=
  .ite (.ite (hs.sramWrite _ _) ((hs.dramAccess _ _ _ _ _ _).dramWrite _ _ _)) (hs.logHost _ _ _ _ _)

theorem goes_execBar2Write (hs : Kept s₀ s) (off : BitVec 28) (bytes : List (BitVec 8)) :
    Goes s₀ (execBar2Write off bytes s) := by
  unfold execBar2Write
  split
  · refine .next (Kept.status (Kept.foldlSnd hs _ ?_) _)
    exact fun _ _ h => h.bar2WritePart _ _
  · exact .next hs

theorem goes_execMailboxDoorbell (hs : Kept s₀ s) (v : W32) : Goes s₀ (execMailboxDoorbell v s) :=
  .ite (.next hs) (.ite (.next (hs.refuse _ _ _)) (.next ((hs.update.status _).setFld _ _ _ _)))

theorem goes_execMailboxEntryReadFail (hs : Kept s₀ s) (timeout : Bool) :
    Goes s₀ (execMailboxEntryReadFail timeout s) := by
  dsimp only [execMailboxEntryReadFail]
  split
  · exact .next hs
  · exact .next ((((Kept.ite hs hs.fresh).setReg _ _).update).raise _)

theorem Kept.respond (hs : Kept s₀ s) (k : Nat) (st : Status) (res : List Byte) : Kept s₀ (s.respond k st res) :=
  ((((hs.fresh.fresh.fresh.writeBytes _ _).setFld _ _ _ _).update).raise _).sendMsix _

theorem Goes.mboxCmd (hs : Kept s₀ s) (op : Nat) (f : Nat → Nat → Nat → Status × List Byte × State)
    (hf : ∀ a b c, Kept s₀ (f a b c).2.2) : Goes s₀ (s.mboxCmd op f) := by
  unfold State.mboxCmd
  grind [Kept.respond, Goes.next]

theorem goes_execMailboxNop (hs : Kept s₀ s) : Goes s₀ (execMailboxNop s) := Goes.mboxCmd hs _ _ (fun _ _ _ => hs)

theorem goes_execTenantCreate (hs : Kept s₀ s) : Goes s₀ (execTenantCreate s) := by
  refine .mboxCmd hs _ _ fun k t i => ?_
  split
  · exact hs
  · split
    · exact hs
    · exact (hs.nextGen _).setTenantState _ _

theorem Kept.dropDesc (hs : Kept s₀ s) (d : Desc) : Kept s₀ (s.dropDesc d) := by
  unfold State.dropDesc
  split
  · exact (hs.setFrame _ _).freeBuf _
  · exact hs

theorem Kept.dropHostFrame (hs : Kept s₀ s) (f : HostFrame) : Kept s₀ (s.dropHostFrame f) := by
  unfold State.dropHostFrame
  split
  · exact (hs.setEg _ _).egSettle _
  · exact hs

theorem Kept.destroyQp (hs : Kept s₀ s) (t q : Nat) : Kept s₀ (s.destroyQp t q) := by
  unfold State.destroyQp
  split
  · exact hs
  · exact (((hs.foldl _ fun _ _ h => h.dropDesc _).foldl _ fun _ _ h => h.dropHostFrame _).setQp _ _ _).setFld _ _ _ _

theorem Kept.agentEnds (hs : Kept s₀ s) (ag : Agent) (event : Nat) : Kept s₀ (s.agentEnds ag event) := by
  have h1 := (hs.agentDies ag event).disarmAgent ag
  unfold State.agentEnds
  extract_lets s1 s2 s3
  have h2 : Kept s₀ s2 := by
    dsimp only [s2]
    split
    · exact h1.reclaim _
    · exact h1
  exact h2.update.foldl _ fun _ _ h => h.setReg _ _

theorem Kept.tenantEnds (hs : Kept s₀ s) (t event : Nat) : Kept s₀ (s.tenantEnds t event) := by
  unfold State.tenantEnds
  extract_lets n s1 s2 s3
  have h1 : Kept s₀ s1 := (hs.nextGen t).tntCount _ _ _
  have h2 : Kept s₀ s2 := .ite h1 (h1.raiseFirst _)
  have h3 : Kept s₀ s3 := h2.foldl _ fun _ _ h => h.destroyQp _ _
  exact h3.agentEnds _ _

theorem goes_execTenantReset (hs : Kept s₀ s) : Goes s₀ (execTenantReset s) := by
  dsimp only [execTenantReset]
  split
  · exact .next hs
  · exact .ite (.next hs) (.ite (.next (hs.respond _ _ _))
      (.ite (.next (hs.respond _ _ _)) (.next (((hs.setTenant _ _).update).setTenantState _ _))))

theorem goes_execTenantSelfReset (hs : Kept s₀ s) (t : Fin 32) (v : W32) : Goes s₀ (execTenantSelfReset t v s) :=
  .ite (.next ((hs.refuse _ _ _).logTerr _ _ _)) (.ite
    (.next ((((hs.setTenant _ _).setTenantState _ _).raise _).status _)) (.next ((hs.refuse _ _ _).logTerr _ _ _)))

theorem goes_execTenantResetComplete (hs : Kept s₀ s) (t : Fin 32) : Goes s₀ (execTenantResetComplete t s) :=
  .ite (.next hs) (.ite (.next (((Kept.ite (((hs.tenantEnds _ _).setTenant _ _).setTenantState _ _)
    ((hs.tenantEnds _ _).setTenant _ _)).raise _).respond _ _ _))
    (.next ((Kept.ite (((hs.tenantEnds _ _).setTenant _ _).setTenantState _ _)
    ((hs.tenantEnds _ _).setTenant _ _)).raise _)))

theorem goes_execTenantDestroy (hs : Kept s₀ s) : Goes s₀ (execTenantDestroy s) := by
  unfold execTenantDestroy
  grind [Kept.raise, Kept.setTenant, Kept.setTenantState, Goes.mboxCmd, Kept.tenantEnds, Goes.next]

theorem goes_execHostwinSet (hs : Kept s₀ s) : Goes s₀ (execHostwinSet s) := by
  refine .mboxCmd hs _ _ fun k t i => ?_
  dsimp only
  split
  · exact hs
  · split
    · exact hs
    · split
      · exact hs
      · exact hs.setTenant _ _

theorem goes_execQpCreate (hs : Kept s₀ s) : Goes s₀ (execQpCreate s) := by
  unfold execQpCreate
  grind [Kept.setReg, Kept.setQp, Goes.mboxCmd]

theorem goes_execQpDestroy (hs : Kept s₀ s) : Goes s₀ (execQpDestroy s) := by
  refine .mboxCmd hs _ _ fun k t q => ?_
  split
  · exact hs
  · exact hs.destroyQp _ _

theorem goes_execMailboxStatus (hs : Kept s₀ s) : Goes s₀ (execMailboxStatus s) := Goes.mboxCmd hs _ _ (fun _ _ _ => hs)

theorem Kept.doorbell (hs : Kept s₀ s) (t q o : Nat) (f : Qp → State) (hf : ∀ a, Kept s₀ (f a)) :
    Kept s₀ (s.doorbell t q o f) := by
  refine .ite hs (.ite ((hs.refuse _ _ _).logTerr _ _ _) ?_)
  split
  · exact hs.logTerr _ _ _
  · exact hf _

theorem goes_execSqDoorbell (hs : Kept s₀ s) (t : Fin 32) (q : Fin 32) (v : W32) : Goes s₀ (execSqDoorbell t q v s) :=
  .next (hs.doorbell _ _ _ _ (fun _ => .ite (hs.logTerr _ _ _) ((hs.setReg _ _).status _)))

theorem goes_execCqDoorbell (hs : Kept s₀ s) (t : Fin 32) (q : Fin 32) (v : W32) : Goes s₀ (execCqDoorbell t q v s) :=
  .next (hs.doorbell _ _ _ _ (fun _ => .ite (hs.logTerr _ _ _)
    ((Kept.ite ((hs.setQp _ _ _).setReg _ _) (((hs.setQp _ _ _).setReg _ _).armedMsix _ _)).status _)))

theorem Kept.addDesc (hs : Kept s₀ s) (t q : Nat) (d : Desc) : Kept s₀ (s.addDesc t q d) := by
  unfold State.addDesc
  split
  · exact hs.setQp _ _ _
  · exact hs

theorem Goes.startDesc (hs : Kept s₀ s) (t q op : Nat) (f : SqDesc → Nat → State → State)
    (hf : ∀ a b u, Kept s₀ u → Kept s₀ (f a b u)) : Goes s₀ (s.startDesc t q op f) := by
  unfold State.startDesc
  grind [Kept.raiseFirst, Kept.setQp, Kept.failQp, Kept.addDesc, Goes.next]

theorem goes_execDescriptorNop (hs : Kept s₀ s) (t : Fin 32) (q : Fin 4) : Goes s₀ (execDescriptorNop t q s) :=
  Goes.startDesc hs _ _ _ _ (fun _ _ _ h => h.addDesc _ _ _)

theorem Kept.copyRequests (hs : Kept s₀ s) (x c n : Nat) (write : Bool) : Kept s₀ (s.copyRequests x c n write) :=
  hs.foldl _ fun _ _ h => h.dramAccess _ _ _ _ _ _

theorem goes_execCopyIn (hs : Kept s₀ s) (t : Fin 32) (q : Fin 4) : Goes s₀ (execCopyIn t q s) := by
  refine .startDesc hs _ _ _ _ fun d a u h => ?_
  split
  · exact ((h.copyRequests _ _ _ _).dramWrite _ _ _).addDesc _ _ _
  · exact h

theorem goes_execCopyOut (hs : Kept s₀ s) (t : Fin 32) (q : Fin 4) : Goes s₀ (execCopyOut t q s) := by
  refine .startDesc hs _ _ _ _ fun d a u h => ?_
  split
  · exact ((h.copyRequests _ _ _ _).writeBytes _ _).addDesc _ _ _
  · exact h

theorem Kept.txTake (hs : Kept s₀ s) (c len : Nat) {p₁ : Nat} {p₂ : Bool} {p₃ : Nat} {u : State}
    (hu : s.txTake c len = some (p₁, p₂, p₃, u)) : Kept s₀ u := by
  unfold State.txTake at hu
  grind [Kept.setFrame, Kept.allocSize, Kept.notePeak]

theorem goes_execTx (hs : Kept s₀ s) (t : Fin 32) (q : Fin 4) : Goes s₀ (execTx t q s) := by
  refine .startDesc hs _ _ _ _ fun d a u h => ?_
  refine .ite (h.addDesc _ _ _) ?_
  split
  next hx => exact (h.txTake _ _ hx).addDesc _ _ _
  next => exact h.addDesc _ _ _

theorem Kept.setDesc (hs : Kept s₀ s) (t q k : Nat) (d : Desc) : Kept s₀ (s.setDesc t q k d) := by
  unfold State.setDesc
  split
  · exact hs.setQp _ _ _
  · exact hs

theorem goes_execHostTxAdmit (hs : Kept s₀ s) (t : Fin 32) (q : Fin 4) (k : Fin 8) :
    Goes s₀ (execHostTxAdmit t q k s) := by
  unfold execHostTxAdmit
  split
  · exact .next hs
  extract_lets c go
  have hgo : ∀ {n sh b late u}, go = some (n, sh, b, late, u) → Kept s₀ u := by
    intro n sh b late u h
    dsimp only [go] at h
    split at h
    · cases h
      exact hs
    · obtain ⟨r, hr, hu⟩ := Option.map_eq_some_iff.1 h
      cases hu
      exact hs.txTake _ _ hr
    · cases h
  clear_value go
  split
  · exact .next hs
  split
  · exact .next hs
  · exact .next (((hgo rfl).setDesc _ _ _ _).tntCount _ _ _ |>.admitFrame _ _ _ _ _ _ _ _ _ _ _)

theorem goes_execTxWaitExpiry (hs : Kept s₀ s) (t : Fin 32) (q : Fin 4) (k : Fin 8) :
    Goes s₀ (execTxWaitExpiry t q k s) := by
  dsimp only [execTxWaitExpiry]
  split
  · exact .next hs
  · split
    · exact .ite (.next (hs.advance _)) (.next ((hs.advance _).setDesc _ _ _ _))
    · exact .next hs

theorem Kept.postBuf (hs : Kept s₀ s) (t q : Nat) (d : SqDesc) (head : Nat) : Kept s₀ (s.postBuf t q d head) := by
  dsimp only [State.postBuf]
  split
  · exact hs.setQp _ _ _
  · exact hs

theorem goes_execRx (hs : Kept s₀ s) (t : Fin 32) (q : Fin 4) : Goes s₀ (execRx t q s) :=
  Goes.startDesc hs _ _ _ _ (fun _ _ _ h => h.postBuf _ _ _ _)

theorem goes_execRecv (hs : Kept s₀ s) (t : Fin 32) (q : Fin 4) : Goes s₀ (execRecv t q s) :=
  Goes.startDesc hs _ _ _ _ (fun _ _ _ h => h.postBuf _ _ _ _)

theorem goes_execSend (hs : Kept s₀ s) (t : Fin 32) (q : Fin 4) : Goes s₀ (execSend t q s) := by
  refine Goes.startDesc hs _ _ _ _ fun d h u hu => ?_
  extract_lets add
  have hadd : ∀ v st, Kept s₀ v → Kept s₀ (add v st) := fun v st hv => hv.addDesc _ _ _
  clear_value add
  split
  · extract_lets a w u1 p
    have ha : Kept s₀ a.2.2.2 := hu.allocChain _ _
    split
    · have hp : Kept s₀ p.2 := (ha.bufWrite _ _ _).post _ _ _
      exact .ite (hadd _ _ (hp.moveBuf _ _)) (hadd _ _ (hp.freeBuf _))
    · exact hadd _ _ (.ite hu ha)
  · exact hadd _ _ hu

theorem goes_execDescriptorComplete (hs : Kept s₀ s) (t : Fin 32) (q : Fin 4) (posted : Bool) :
    Goes s₀ (execDescriptorComplete t q posted s) := by
  unfold execDescriptorComplete
  split
  · exact .next hs
  · split
    · exact .next hs
    · split
      · split
        · exact .next hs
        · exact .next (((hs.writeBytes _ _).setQp _ _ _).writeCpl _ _ _)
      · split
        · exact .next hs
        · split
          · exact .next hs
          · exact .next ((hs.setQp _ _ _).writeCpl _ _ _)

theorem goes_execHostFrameDeliver (hs : Kept s₀ s) (t : Fin 32) (q : Fin 4) : Goes s₀ (execHostFrameDeliver t q s) := by
  dsimp only [execHostFrameDeliver]
  split
  · exact .next hs
  · split
    · exact .ite (.next hs) (.ite (.next (((hs.setQp _ _ _).dropHostFrame _).tntCount _ _ _))
        (.ite (.next ((hs.setQp _ _ _).writeCpl _ _ _))
        (.next (((((hs.writeBytes _ _).setQp _ _ _).dropHostFrame _).tntCount _ _ _).writeCpl _ _ _))))
    · exact .next hs

theorem goes_execPost (hs : Kept s₀ s) (ag : Agent) : Goes s₀ (execPost ag s) := by
  dsimp only [execPost]
  split
  · exact .next (hs.refuse _ _ _)
  · split
    · exact .next (hs.refuse _ _ _)
    · split
      · exact .next (((hs.count _).raiseFirst _).status _)
      · split
        · exact .next (hs.status _)
        · split
          · exact .next hs
          · split
            · exact .next hs
            · exact .next ((((Kept.ite (hs.writeBytes _ _) hs).setQp _ _ _).freeBuf _).status _)

theorem goes_execDmaReadTimeout (hs : Kept s₀ s) (t : Fin 32) (q : Fin 4) : Goes s₀ (execDmaReadTimeout t q s) := by
  dsimp only [execDmaReadTimeout]
  split
  · exact .next hs
  · split
    · split
      · exact .next ((hs.dropDesc _).setDesc _ _ _ _)
      · exact .next hs
    · exact .ite (Goes.startDesc hs _ _ _ _ (fun _ _ _ h => h.addDesc _ _ _))
        (.ite (Goes.startDesc hs _ _ _ _ (fun _ _ _ h => h.addDesc _ _ _))
        (.ite (Goes.startDesc hs _ _ _ _ (fun _ _ _ h => h.addDesc _ _ _)) (.next hs)))

/-! ### Function-level reset -/

theorem goes_execFunctionLevelReset (hs : Kept s₀ s) (link : Bool) : Goes s₀ (execFunctionLevelReset link s) :=
  .ite (.next hs) (.next ((hs.mboxCancel _).update))

theorem Kept.flrTenant (hs : Kept s₀ s) (t : Nat) : Kept s₀ (s.flrTenant t) :=
  ((hs.tenantEnds _ _).setTenant _ _).setTenantState _ _

theorem Kept.flrHost (hs : Kept s₀ s) : Kept s₀ s.flrHost :=
  ((hs.setReg _ _).foldl _ fun _ _ h => h.setFld _ _ _ _).update

theorem goes_execFlrComplete (hs : Kept s₀ s) : Goes s₀ (execFlrComplete s) :=
  .ite (.next hs) (.next ((((hs.foldl _ fun _ _ h => h.flrTenant _).agentEnds _ _).flrHost).raise _))

/-! ### Strobes and captures -/

theorem Kept.setStrobe (hs : Kept s₀ s) (n : Nat) (x : Strobe) : Kept s₀ (s.setStrobe n x) := hs.update

theorem Kept.setCapture (hs : Kept s₀ s) (n : Nat) (x : Capture) : Kept s₀ (s.setCapture n x) := hs.update

theorem Kept.strobeLast (hs : Kept s₀ s) (n : Nat) (st : Status) : Kept s₀ (s.strobeLast n st) := hs.setFld _ _ _ _

theorem Kept.armStrobe (hs : Kept s₀ s) (n : Nat) (f : W64) (width : Nat) (predicted : Bool) :
    Kept s₀ (s.armStrobe n f width predicted).2 := by
  dsimp only [State.armStrobe]
  split
  · exact (hs.strobeLast _ _).setStrobe _ _
  · exact .ite (((hs.strobeLast _ _).count _).raiseFirst _) ((hs.strobeLast _ _).count _)

theorem goes_execTimeArm (hs : Kept s₀ s) (ag : Agent) (n : Fin 16) (hi : W32) : Goes s₀ (execTimeArm ag n hi s) :=
  .ite (.next (hs.refuse _ _ _)) (.next (((hs.setReg _ _).armStrobe _ _ _ _).status _))

theorem goes_execStrobeDisarm (hs : Kept s₀ s) (ag : Agent) (n : Fin 16) : Goes s₀ (execStrobeDisarm ag n s) :=
  .ite (.next (hs.refuse _ _ _)) (.ite (.next ((hs.strobeLast _ _).status _))
    (.next (((hs.setStrobe _ _).strobeLast _ _).status _)))

theorem goes_execStrobeFire (hs : Kept s₀ s) (n : Fin 16) : Goes s₀ (execStrobeFire n s) := by
  dsimp only [execStrobeFire]
  split
  · exact .next hs
  · exact .next (.ite (((((((hs.advance _).setStrobe _ _).setReg _ _).setReg _ _).count _).raise _).post _ _ _)
      ((((((hs.advance _).setStrobe _ _).setReg _ _).setReg _ _).count _).raise _))

theorem goes_execStrobePulseEnd (hs : Kept s₀ s) (n : Fin 16) : Goes s₀ (execStrobePulseEnd n s) := by
  dsimp only [execStrobePulseEnd]
  split
  · exact .next hs
  · exact .next ((hs.advance _).setStrobe _ _)

theorem Kept.sprdToken (hs : Kept s₀ s) (tag : Nat) (v : W32) (st : Status) : Kept s₀ (s.sprdToken tag v st) :=
  .ite ((hs.count _).postReserved _ _ _) (hs.count _)

theorem Kept.predictRefused (hs : Kept s₀ s) (tag : Nat) (st : Status) : Kept s₀ (s.predictRefused tag st) :=
  ((hs.fresh.count _).raiseFirst _).sprdToken _ _ _

theorem goes_execPredict (hs : Kept s₀ s) (k : Nat) : Goes s₀ (execPredict k s) := by
  dsimp only [execPredict]
  split
  · exact .next hs
  · split
    · exact .next hs
    · split
      · exact .next (hs.update.predictRefused _ _)
      · exact .ite (.next ((((hs.update.armStrobe _ _ _ _).setStrobe _ _).setReg _ _).sprdToken _ _ _))
          (.next ((hs.update.armStrobe _ _ _ _).predictRefused _ _))

theorem goes_execResidual (hs : Kept s₀ s) (k : Nat) : Goes s₀ (execResidual k s) := by
  dsimp only [execResidual]
  split
  · exact .next hs
  · split
    · exact .next hs
    · split
      · exact .next (hs.update.fresh.sprdToken _ _ _)
      · split
        · exact .next (hs.update.fresh.sprdToken _ _ _)
        · split
          · exact .next (hs.update.fresh.sprdToken _ _ _)
          · exact .ite (.next (hs.update.fresh.sprdToken _ _ _))
              (.ite (.next (((hs.update.setReg _ _).fresh).sprdToken _ _ _))
              (.next ((Kept.ite (((hs.update.setReg _ _).setReg _ _).raise _)
              ((hs.update.setReg _ _).setReg _ _)).sprdToken _ _ _)))

theorem goes_execCaptureEdge (hs : Kept s₀ s) (n : Fin 16) (rise : Bool) : Goes s₀ (execCaptureEdge n rise s) :=
  .ite (.next (hs.setCapture _ _)) (.ite (.next (((hs.setCapture _ _).count _).raiseFirst _))
    (.next (.ite ((((hs.setCapture _ _).count _).raise _).post _ _ _) (((hs.setCapture _ _).count _).raise _))))

theorem goes_execCapturePop (hs : Kept s₀ s) (ag : Agent) (n : Fin 16) : Goes s₀ (execCapturePop ag n s) :=
  .ite (.next (hs.refuse _ _ _)) (.next ((((hs.setCapture _ _).setReg _ _).setReg _ _).answer _ _))

theorem goes_execCaptureEdgeConfig (hs : Kept s₀ s) (ag : Agent) (n : Fin 16) (v : W32) :
    Goes s₀ (execCaptureEdgeConfig ag n v s) :=
  .ite (.next (hs.refuse _ _ _)) (.next (((hs.setReg _ _).setCapture _ _).status _))

/-! ### Live reshape -/

theorem Kept.setShp (hs : Kept s₀ s) (v : Nat) : Kept s₀ (s.setShp v) := hs.setFld _ _ _ _

theorem Kept.shpApply (hs : Kept s₀ s) (ag : Agent) : Kept s₀ (s.shpApply ag) := by
  dsimp only [State.shpApply]
  split
  · exact hs.refuse _ _ _
  · split
    · exact (hs.update.setShp _).status _
    · exact hs.status _

theorem goes_execShpApply (hs : Kept s₀ s) (ag : Agent) : Goes s₀ (execShpApply ag s) := .next (hs.shpApply _)

theorem Kept.shpUnlock (hs : Kept s₀ s) : Kept s₀ s.shpUnlock := hs.update

theorem Kept.dropDelta (hs : Kept s₀ s) : Kept s₀ s.dropDelta :=
  ((((hs.foldl _ fun _ _ h => (h.setCore _ _).hwSwitch _ _).update.setReg _ _).setShp _).shpUnlock)

theorem Kept.shpAbandon (hs : Kept s₀ s) (ag : Agent) : Kept s₀ (s.shpAbandon ag) :=
  .ite (hs.refuse _ _ _) (.ite (hs.status _) (.ite (hs.status _) (hs.dropDelta.status _)))

theorem goes_execShpAbandon (hs : Kept s₀ s) (ag : Agent) : Goes s₀ (execShpAbandon ag s) := .next (hs.shpAbandon _)

theorem Kept.prepare (hs : Kept s₀ s) (d : Delta) : Kept s₀ (s.prepare d) := by
  refine Kept.setShp (Kept.update (hs.foldl _ fun u c h => ?_)) _
  split
  · exact (h.setCore _ _).hwSwitch _ _
  · exact h

theorem goes_execDeltaCheckDone (hs : Kept s₀ s) : Goes s₀ (execDeltaCheckDone s) := by
  dsimp only [execDeltaCheckDone]
  split
  · exact .next hs
  · split
    · exact .next hs
    · split
      · exact .next (hs.prepare _)
      · exact .next (.ite (((hs.loadErr _ _).dropDelta).raise _) ((hs.loadErr _ _).dropDelta))

theorem Kept.shadowCore (hs : Kept s₀ s) (d : Delta) (c : Nat) : Kept s₀ (s.shadowCore d c) := by
  dsimp only [State.shadowCore]
  split
  · exact (hs.loadCore _ _).setCore _ _
  · exact hs

theorem goes_execDeltaPrepareDone (hs : Kept s₀ s) (bad : Option (Fin 64)) : Goes s₀ (execDeltaPrepareDone bad s) := by
  unfold execDeltaPrepareDone
  split
  · exact .next hs
  split
  · exact .next hs
  split
  · exact .next ((hs.loadErr _ _).dropDelta.quarantine _ _)
  · refine .next ((((Kept.foldl hs _ ?_).setShp _).shpUnlock).hwArm _)
    exact fun _ _ h => h.shadowCore _ _

theorem Kept.coresA (hs : Kept s₀ s) (f : Fabric) : Kept s₀ (s.coresA f) := by
  refine hs.foldl _ fun u c h => ?_
  dsimp only
  split
  · exact h.setCore _ _
  · split
    · exact .ite (h.setCore _ _) (h.setCore _ _)
    · exact h.setCore _ _
  · exact h

theorem Kept.spareDomains (hs : Kept s₀ s) (x : PowerCfg) : Kept s₀ (s.spareDomains x) :=
  hs.foldl _ fun _ _ h => .ite (h.hwSwitch _ _) h

theorem Kept.newRoots (hs : Kept s₀ s) (old : Fabric) : Kept s₀ (s.newRoots old) := by
  refine hs.foldl _ fun u i h => ?_
  split
  · exact h.rootThread _ _
  · exact h

theorem Kept.turnA (hs : Kept s₀ s) : Kept s₀ s.turnA := by
  unfold State.turnA
  split
  · exact hs
  extract_lets old f _ x _ s1 s2 s3 s4
  have h1 : Kept s₀ s1 := hs.update
  have h2 : Kept s₀ s2 := by grind [Kept.setRoutes]
  have h3 : Kept s₀ s3 := by grind [Kept.setGovernor, Kept.spareDomains]
  have h4 : Kept s₀ s4 := by grind [Kept.rehold]
  exact .ite hs ((((h4.coresA _).newRoots _).setFloors).setShp _)

theorem goes_execReshapeDrainTimeout (hs : Kept s₀ s) : Goes s₀ (execReshapeDrainTimeout s) :=
  .ite (.next hs.drainOld) (.next hs)

theorem Kept.detach (hs : Kept s₀ s) (power : Option PowerCfg) (c : Nat) : Kept s₀ (s.detach power c) := by
  refine .ite (((hs.foldl _ fun u w h => ?_).setCore _ _).hwSwitch _ _) (hs.setCore _ _)
  split
  · exact h.rollBack _
  · exact h

theorem Kept.dropUnnamed (hs : Kept s₀ s) : Kept s₀ s.dropUnnamed := hs.foldl _ fun _ _ h => h.abortThread _ _

theorem Kept.turnB (hs : Kept s₀ s) : Kept s₀ s.turnB := by
  unfold State.turnB
  split
  · exact hs
  extract_lets leavers s1 s2 named _ x s3 s4
  have h1 : Kept s₀ s1 := Kept.foldl hs _ fun _ _ h => h.detach _ _
  have h2 : Kept s₀ s2 := Kept.foldl h1 _ fun _ _ h => .ite (h.setCore _ _) h
  have h4 : Kept s₀ s4 := ((h2.update.dropUnnamed.showDigest _).setReg _ _).setReg _ _
  exact .ite hs ((((h4.setFld _ _ _ _).setFld _ _ _ _).setShp _).matching)

/-! ### The turn -/

theorem Kept.edge (hs : Kept s₀ s) : Kept s₀ s.edge := .ite hs.update (.ite hs.update (.ite hs.update hs.update))

theorem Kept.plainEdges (hs : Kept s₀ s) (n : Nat) : Kept s₀ (s.plainEdges n) := hs.update

theorem goes_execCorrectionEdge (hs : Kept s₀ s) : Goes s₀ (execCorrectionEdge s) := by
  dsimp only [execCorrectionEdge]
  split
  · exact .next hs
  · split
    · exact .next hs
    · exact .next (.ite (((hs.plainEdges _).edge).edge) ((hs.plainEdges _).edge))

theorem Kept.shadowWrite (hs : Kept s₀ s) (a : Nat) (v : W32) : Kept s₀ (s.shadowWrite a v) :=
  .ite ((Kept.ite ((hs.setShadow _ _).setShadow _ _) (hs.setShadow _ _)).armNow _)
    (.ite ((hs.setShadow _ _).setShadow _ _) (hs.setShadow _ _))

theorem Kept.holdWrite (hs : Kept s₀ s) (ag : Agent) (a : Nat) (v : W32) (g : Nat) : Kept s₀ (s.holdWrite ag a v g) :=
  (hs.update.noteDelayed _).status _

theorem Kept.turnWrite (hs : Kept s₀ s) (ag : Agent) (a : Nat) (v : W32) : Kept s₀ (s.turnWrite ag a v) :=
  .ite (hs.holdWrite _ _ _ _) ((hs.shadowWrite _ _).status _)

theorem Kept.dropShadows (hs : Kept s₀ s) (gs : List Nat) : Kept s₀ (s.dropShadows gs) := hs.update

theorem Kept.disarmGroup (hs : Kept s₀ s) (g : Nat) : Kept s₀ (s.disarmGroup g) := (hs.setReg _ _).dropShadows _

theorem Kept.armOne (hs : Kept s₀ s) (g : Nat) : Kept s₀ (s.armOne g).2 := by
  unfold State.armOne
  split
  · exact hs
  · split
    · exact (hs.setFld _ _ _ _).raise _
    · exact hs.armNow _

theorem Kept.armWord (hs : Kept s₀ s) (v : W32) : Kept s₀ (s.armWord v).2 := Kept.foldlSnd hs _ fun _ g h => h.armOne g

theorem Kept.disarmWord (hs : Kept s₀ s) (v : W32) : Kept s₀ (s.disarmWord v) :=
  hs.foldl _ fun _ _ h => h.disarmGroup _

theorem Kept.armAccess (hs : Kept s₀ s) (ag : Agent) (a : Nat) (v : W32) : Kept s₀ (s.armAccess ag a v) := by
  unfold State.armAccess
  extract_lets bad w r
  have hr : Kept s₀ r.2 := by
    dsimp only [r]
    split
    · exact hs
    · split
      · exact hs.holdWrite _ _ _ _
      · split
        · exact hs.armWord _
        · exact hs.disarmWord _
  exact .ite (hr.status _) (hr.refuse _ _ _)

theorem Goes.tbAccess (hs : Kept s₀ s) (ag : Agent) (a : Nat) (f : State → State)
    (hf : ∀ u, Kept s₀ u → Kept s₀ (f u)) : Goes s₀ (s.tbAccess ag a f) :=
  .ite (.next (hf _ hs)) (.next (hs.refuse _ _ _))

theorem goes_execArmGroups (hs : Kept s₀ s) (ag : Agent) (v : W32) : Goes s₀ (execArmGroups ag v s) :=
  Goes.tbAccess hs _ _ _ (fun _ h => h.armAccess _ _ _)

theorem goes_execDisarmGroups (hs : Kept s₀ s) (ag : Agent) (v : W32) : Goes s₀ (execDisarmGroups ag v s) :=
  Goes.tbAccess hs _ _ _ (fun _ h => h.armAccess _ _ _)

theorem Kept.rateWrite (hs : Kept s₀ s) (ag : Agent) (v : W32) : Kept s₀ (s.rateWrite ag v) :=
  .ite ((hs.setReg _ _).status _) (hs.refuse _ _ _)

theorem goes_execTbRateWrite (hs : Kept s₀ s) (ag : Agent) (v : W32) : Goes s₀ (execTbRateWrite ag v s) :=
  Goes.tbAccess hs _ _ _ (fun _ h => h.rateWrite _ _)

theorem Kept.periodWrite (hs : Kept s₀ s) (ag : Agent) (v : W32) : Kept s₀ (s.periodWrite ag v) :=
  .ite (hs.turnWrite _ _ _) (hs.refuse _ _ _)

theorem goes_execTbPeriodWrite (hs : Kept s₀ s) (ag : Agent) (v : W32) : Goes s₀ (execTbPeriodWrite ag v s) :=
  Goes.tbAccess hs _ _ _ (fun _ h => h.periodWrite _ _)

theorem goes_execTbPhaseWrite (hs : Kept s₀ s) (ag : Agent) (v : W32) : Goes s₀ (execTbPhaseWrite ag v s) :=
  Goes.tbAccess hs _ _ _ (fun _ h => h.turnWrite _ _ _)

theorem goes_execStepArm (hs : Kept s₀ s) (ag : Agent) (v : W32) : Goes s₀ (execStepArm ag v s) :=
  Goes.tbAccess hs _ _ _ (fun _ h => h.turnWrite _ _ _)

theorem Kept.takeSnapshot (hs : Kept s₀ s) (ag : Agent) : Kept s₀ (s.takeSnapshot ag) :=
  (((hs.setReg _ _).setReg _ _).setReg _ _).setReg _ _

theorem goes_execSnapshotTake (hs : Kept s₀ s) (ag : Agent) : Goes s₀ (execSnapshotTake ag s) :=
  Goes.tbAccess hs _ _ _ (fun _ h => (h.takeSnapshot _).status _)

theorem Kept.setLatch (hs : Kept s₀ s) (ag : Agent) (v : W32) : Kept s₀ (s.setLatch ag v) := hs.update

theorem goes_execTbNowRead (hs : Kept s₀ s) (ag : Agent) : Goes s₀ (execTbNowRead ag s) :=
  Goes.tbAccess hs _ _ _ (fun _ h => (h.setLatch _ _).answer _ _)

theorem Kept.applyHeld1 (hs : Kept s₀ s) (h : Held) : Kept s₀ (s.applyHeld1 h) := by
  unfold State.applyHeld1
  split
  · exact hs.armNow _
  · exact .ite (hs.armWord _) (.ite (hs.disarmWord _) (hs.shadowWrite _ _))

theorem Kept.applyHeld (hs : Kept s₀ s) : Kept s₀ s.applyHeld := hs.update.foldl _ fun _ _ h => h.applyHeld1 _

theorem goes_execHeldWritesApply (hs : Kept s₀ s) : Goes s₀ (execHeldWritesApply s) :=
  .ite (.next hs) (.next hs.applyHeld)

theorem Kept.fenceBegin (hs : Kept s₀ s) : Kept s₀ s.fenceBegin :=
  (Kept.ite (((hs.applyHeld.advance _).update).closeTagWindow) ((hs.applyHeld.advance _).update)).fenceBerths _

theorem goes_execTurnFenceBegin (hs : Kept s₀ s) : Goes s₀ (execTurnFenceBegin s) :=
  .ite (.next hs.fenceBegin) (.next hs)

theorem Kept.relabel (hs : Kept s₀ s) (d : Int) : Kept s₀ (s.relabel d) := .ite hs hs.update

theorem Kept.newCycle (hs : Kept s₀ s) (p : TurnPlan) : Kept s₀ (s.newCycle p) :=
  ((hs.update.setReg _ _).setReg _ _).setReg _ _

theorem Kept.turnStat (hs : Kept s₀ s) (p : TurnPlan) : Kept s₀ (s.turnStat p) := hs.setFld _ _ _ _

theorem Kept.dropRefused (hs : Kept s₀ s) (p : TurnPlan) : Kept s₀ (s.dropRefused p) :=
  .ite ((((Kept.ite (((Kept.ite ((hs.disarmGroup _).raise _) hs).disarmGroup _).raise _)
    (.ite ((hs.disarmGroup _).raise _) hs)).disarmGroup _).setFld _ _ _ _).raise _)
    (.ite (((Kept.ite ((hs.disarmGroup _).raise _) hs).disarmGroup _).raise _) (.ite ((hs.disarmGroup _).raise _) hs))

theorem Kept.swapGroups (hs : Kept s₀ s) (p : TurnPlan) : Kept s₀ (s.swapGroups p) := by
  have h1 : Kept s₀ (if p.groups.contains 13 then s.dropCargo else s) := .ite hs.dropCargo hs
  exact (((((h1.foldl _ fun _ _ h => .ite (h.setReg _ _) h).dropShadows _).setReg _ _).setReg _ _).setReg _
    _).turnStat _

theorem Kept.detachment (hs : Kept s₀ s) : Kept s₀ s.detachment := .ite (.ite (hs.turnB.setReg _ _) hs) hs

theorem Kept.turnSwaps (hs : Kept s₀ s) (p : TurnPlan) : Kept s₀ (s.turnSwaps p) := by
  have h1 : Kept s₀ (if p.groups.contains 15 then s.swapBinds else s) := .ite hs.swapBinds hs
  have h2 := Kept.ite (c := p.groups.contains 16 = true) h1.shfSwap h1
  have h3 := Kept.ite (c := p.groups.contains 17 = true) h2.turnA h2.detachment
  have h4 := Kept.ite (c := p.groups.contains 18 = true) h3.coreJoins h3
  have h5 := Kept.ite (c := p.groups.contains 19 = true) h4.portsReturn h4
  exact .ite (h5.setFld _ _ _ _) h5

theorem Kept.portsTurn (hs : Kept s₀ s) (p : TurnPlan) : Kept s₀ (s.portsTurn p) :=
  hs.foldl _ fun _ _ h => .ite ((h.gclTurn _).gateDrop _) (h.gclTurn _)

theorem Kept.turnWork (hs : Kept s₀ s) (p : TurnPlan) : Kept s₀ (s.turnWork p) :=
  (Kept.ite (((((((Kept.ite hs.fulTurn.startBarges.shfTurn hs.fulTurn.startBarges).coolTurn).pushIds
    _).keyTurn).portsTurn _).ageFrames).prefetch _)
    ((((((Kept.ite hs.fulTurn.startBarges.shfTurn hs.fulTurn.startBarges).coolTurn).pushIds _).keyTurn).portsTurn
    _).ageFrames)).checkFinish

theorem Kept.turnToken (hs : Kept s₀ s) (n : Nat) : Kept s₀ (s.turnToken n) :=
  .ite hs (.ite (((hs.setTokens _ _).setFld _ _ _ _).raise _) (hs.enqueue _ _))

theorem Kept.turnTokens (hs : Kept s₀ s) : Kept s₀ s.turnTokens := .ite (hs.foldl _ fun _ _ h => h.turnToken _) hs

theorem Kept.turn (hs : Kept s₀ s) : Kept s₀ s.turn :=
  ((((((((((Kept.ite hs hs.fenceBegin).endBarges).advance _).newCycle _).dropRefused _).swapGroups _).relabel
    _).turnSwaps _).turnWork _).turnTokens).raise _

theorem goes_execTurn (hs : Kept s₀ s) : Goes s₀ (execTurn s) := .ite (.next hs.turn) (.next hs)

theorem Kept.tick (hs : Kept s₀ s) : Kept s₀ s.tick :=
  .ite hs (.ite hs.edge (.ite hs.edge.turn.applyHeld (.ite hs.edge.fenceBegin hs.edge)))

/-! ### Register accesses -/

theorem kept_landed {o : Host.Outcome State Fault Refusal} (ho : Goes s₀ o) : Kept s₀ (landed s o) := by
  obtain ⟨t, rfl, ht⟩ := ho
  exact ht

theorem Kept.plainWrite (hs : Kept s₀ s) (ag : Agent) (a : Nat) (v : W32) : Kept s₀ (s.plainWrite ag a v) := by
  dsimp only [State.plainWrite]
  split
  · exact hs.turnWrite _ _ _
  · split
    · exact hs.status _
    · exact (hs.setReg _ _).status _

theorem Kept.bossWrite (hs : Kept s₀ s) (ag : Agent) (a : Nat) (f : State → State)
    (hf : ∀ u, Kept s₀ u → Kept s₀ (f u)) : Kept s₀ (s.bossWrite ag a f) :=
  .ite (hs.refuse _ _ _) (.ite (hs.refuse _ _ _) (hf _ hs))

theorem Kept.userWrite (hs : Kept s₀ s) (ag : Agent) (b a : Nat) (f : State → State)
    (hf : ∀ u, Kept s₀ u → Kept s₀ (f u)) : Kept s₀ (s.userWrite ag b a f) :=
  .ite (hs.refuse _ _ _) (.ite (hs.refuse _ _ _) (hf _ hs))

theorem Kept.govWrite (hs : Kept s₀ s) (ag : Agent) (a : Nat) (v : W32) : Kept s₀ (s.govWrite ag a v) :=
  .ite (hs.turnWrite _ _ _) (hs.refuse _ _ _)

theorem Kept.writePwr (hs : Kept s₀ s) (ag : Agent) (a : Nat) (v : W32) : Kept s₀ (s.writePwr ag a v) :=
  .ite (kept_landed (Goes.pdCmd hs _ _ _)) (.ite (kept_landed (goes_execClockGate hs _ _))
    (hs.bossWrite _ _ _ (fun _ h => .ite (h.govWrite _ _ _) (h.plainWrite _ _ _))))

theorem Kept.writeMon (hs : Kept s₀ s) (ag : Agent) (a : Nat) (v : W32) : Kept s₀ (s.writeMon ag a v) :=
  hs.bossWrite _ _ _ (fun _ h => .ite (h.refuse _ _ _) (h.plainWrite _ _ _))

theorem Kept.writeTb (hs : Kept s₀ s) (ag : Agent) (a : Nat) (v : W32) : Kept s₀ (s.writeTb ag a v) :=
  .ite (kept_landed (goes_execTbPeriodWrite hs _ _)) (.ite (kept_landed (goes_execTbRateWrite hs _ _))
    (.ite (kept_landed (goes_execTbPhaseWrite hs _ _)) (.ite (kept_landed (goes_execStepArm hs _ _))
    (.ite (kept_landed (goes_execArmGroups hs _ _)) (.ite (kept_landed (goes_execDisarmGroups hs _ _))
    (.ite (kept_landed (goes_execSnapshotTake hs _))
      (kept_landed (.tbAccess hs _ _ _ fun _ h => h.plainWrite _ _ _))))))))

theorem Kept.writeShp (hs : Kept s₀ s) (ag : Agent) (a : Nat) (v : W32) : Kept s₀ (s.writeShp ag a v) :=
  hs.bossWrite _ _ _ (fun _ h => .ite (.ite (kept_landed
    (goes_execShpAbandon (Kept.ite (kept_landed (goes_execShpApply h _)) (h.status _)) _))
    (.ite (kept_landed (goes_execShpApply h _)) (h.status _))) (h.plainWrite _ _ _))

theorem Kept.writeFlt (hs : Kept s₀ s) (ag : Agent) (a : Nat) (v : W32) : Kept s₀ (s.writeFlt ag a v) :=
  .ite (kept_landed (goes_execClassmapWrite hs _ _))
    (.ite (kept_landed (goes_execDropLogResize hs _ _)) (hs.bossWrite _ _ _ (fun _ h => h.plainWrite _ _ _)))

theorem Kept.writeLkp (hs : Kept s₀ s) (ag : Agent) (a : Nat) (v : W32) : Kept s₀ (s.writeLkp ag a v) :=
  .ite (kept_landed (goes_execLkpQcmdQuarantine hs _ _))
    (.ite (kept_landed (goes_execLkpQcmdReturn hs _ _))
    (.ite (kept_landed (goes_execLkpAbort hs _ _)) (hs.bossWrite _ _ _ (fun _ h => h.plainWrite _ _ _))))

theorem Kept.bsnCmd (hs : Kept s₀ s) (ag : Agent) (v : W32) : Kept s₀ (s.bsnCmd ag v) := by
  unfold State.bsnCmd
  grind [Kept.bsnDone, Goes.basin, goes_execAlloc, goes_execAllocp, goes_execAllocc, goes_execAllocb, goes_execFree,
    goes_execXfer, goes_execChain, goes_execSplit, goes_execNext, goes_execSpill, goes_execFill, goes_execReclaim,
    kept_landed]

theorem Kept.writeBsn (hs : Kept s₀ s) (ag : Agent) (a : Nat) (v : W32) : Kept s₀ (s.writeBsn ag a v) :=
  .ite (hs.bsnCmd _ _) (.ite (hs.userWrite _ _ _ _ (fun _ h => h.plainWrite _ _ _))
    (.ite (hs.userWrite _ _ _ _ (fun _ h => .ite (h.plainWrite _ _ _) (h.refuse _ _ _)))
    (.ite (hs.bossWrite _ _ _ (fun _ h => h.update.status _)) (hs.bossWrite _ _ _ (fun _ h => h.plainWrite _ _ _)))))

theorem Kept.writeTbl (hs : Kept s₀ s) (ag : Agent) (a : Nat) (v : W32) : Kept s₀ (s.writeTbl ag a v) :=
  .ite (hs.userWrite _ _ _ _ (fun _ h => h.tblSubmit _ _ _ _ _))
    (.ite (hs.userWrite _ _ _ _ (fun _ h => h.plainWrite _ _ _)) (hs.bossWrite _ _ _ (fun _ h => h.plainWrite _ _ _)))

theorem Kept.writeBrg (hs : Kept s₀ s) (ag : Agent) (a : Nat) (v : W32) : Kept s₀ (s.writeBrg ag a v) := by
  unfold State.writeBrg
  split
  · split
    · exact kept_landed (goes_execAdmit hs _)
    · exact kept_landed (goes_execWelcome hs _)
    · exact kept_landed (goes_execRelease hs _)
    · exact kept_landed (goes_execBind hs _)
    · exact kept_landed (goes_execPartnerRead hs _)
    · exact kept_landed (Goes.brgGive hs _ _ (fun _ h => h.brgDone _ _ _))
  · exact .ite (kept_landed (goes_execBrgCommit hs _ _))
      (.ite (hs.userWrite _ _ _ _ (fun _ h => h.plainWrite _ _ _)) (hs.bossWrite _ _ _ (fun _ h => h.plainWrite _ _ _)))

theorem Kept.portCtrlWrite (hs : Kept s₀ s) (n : Nat) (v : W32) : Kept s₀ (s.portCtrlWrite n v) :=
  .ite (((hs.setReg _ _).leaveService _).status _)
    (.ite (((hs.setReg _ _).setPort _ _).status _) ((hs.setReg _ _).status _))

theorem Kept.writePrt (hs : Kept s₀ s) (ag : Agent) (a : Nat) (v : W32) : Kept s₀ (s.writePrt ag a v) :=
  .ite (hs.mdioStart _ _ _) (.ite (hs.bossWrite _ _ _ (fun _ h => .ite (h.refuse _ _ _) (h.plainWrite _ _ _)))
    (.ite (.ite (kept_landed (goes_execPauseqWrite hs _ _ _))
    (hs.bossWrite _ _ _ (fun _ h => .ite (h.portCtrlWrite _ _) (.ite (h.refuse _ _ _) (h.plainWrite _ _ _)))))
    (hs.bossWrite _ _ _ (fun _ h => h.plainWrite _ _ _))))

theorem Kept.writeDrc (hs : Kept s₀ s) (ag : Agent) (a : Nat) (v : W32) : Kept s₀ (s.writeDrc ag a v) := by
  dsimp only [State.writeDrc]
  split
  · split
    · exact kept_landed (goes_execSrEnter hs _ _ _)
    · exact hs.bossWrite _ _ _ (fun _ h => kept_landed (goes_execSrExit (h.setFld _ _ _ _) _ _))
    · exact hs.bossWrite _ _ _ (fun _ h => h.plainWrite _ _ _)
  · exact hs.bossWrite _ _ _ (fun _ h => h.plainWrite _ _ _)

theorem Kept.watchWrite (hs : Kept s₀ s) (ag : Agent) (a : Nat) (v : W32) : Kept s₀ (s.watchWrite ag a v) :=
  .ite (((hs.plainWrite _ _ _).watchFire _ _).status _) (hs.plainWrite _ _ _)

theorem Kept.acmdWrite (hs : Kept s₀ s) (ag : Agent) (v : W32) : Kept s₀ (s.acmdWrite ag v) :=
  .ite (hs.refuse _ _ _) (hs.hostAtomic _ _ _)

theorem Kept.writeSau (hs : Kept s₀ s) (ag : Agent) (a : Nat) (v : W32) : Kept s₀ (s.writeSau ag a v) := by
  dsimp only [State.writeSau]
  split
  · exact hs.refuse _ _ _
  · split
    · exact kept_landed (goes_execSemaphoreClaim hs _ _ _)
    · split
      · split
        · exact kept_landed (goes_execSemaphoreRelease hs _ _)
        · exact kept_landed (goes_execSemaphoreAcknowledge hs _ _)
        · exact hs.status _
      · exact .ite (kept_landed (goes_execGroupWrite hs _ _ _))
          (.ite (kept_landed (goes_execForceRelease hs _ _))
          (.ite (.ite (kept_landed (goes_execWatchArm hs _ _ _)) (kept_landed (goes_execWatchDisarm hs _ _ _)))
          (.ite (hs.watchWrite _ _ _) (.ite (hs.acmdWrite _ _) (.ite (hs.refuse _ _ _) (hs.plainWrite _ _ _))))))

theorem Kept.mcfgWrite (hs : Kept s₀ s) (ag : Agent) (v : W32) : Kept s₀ (s.mcfgWrite ag v) :=
  .ite (hs.refuse _ _ _) (.ite (.ite ((hs.setReg _ _).status _) ((hs.setReg _ _).refuse _ _ _))
    (.ite (hs.refuse _ _ _) (hs.plainWrite _ _ _)))

theorem Kept.writeTnt (hs : Kept s₀ s) (ag : Agent) (a : Nat) (v : W32) : Kept s₀ (s.writeTnt ag a v) :=
  .ite (hs.userWrite _ _ _ _ (fun _ h => .ite (kept_landed (goes_execPost h _)) (h.refuse _ _ _)))
    (.ite (hs.userWrite _ _ _ _ (fun _ h => h.plainWrite _ _ _))
    (.ite (hs.refuse _ _ _) (.ite (hs.refuse _ _ _)
    (.ite (kept_landed (goes_execMailboxDoorbell hs _))
    (.ite (hs.mcfgWrite _ _) (.ite (hs.refuse _ _ _)
    (.ite (((hs.setReg _ _).setReg _ _).status _) (hs.plainWrite _ _ _))))))))

theorem Kept.writeFul (hs : Kept s₀ s) (ag : Agent) (a : Nat) (v : W32) : Kept s₀ (s.writeFul ag a v) := by
  unfold State.writeFul
  grind [Kept.setFld, Kept.status, goes_execStreamArm, goes_execStreamDisarm, goes_execStreamRestart, kept_landed,
    Kept.plainWrite, Kept.userWrite]

theorem Kept.writeStb (hs : Kept s₀ s) (ag : Agent) (a : Nat) (v : W32) : Kept s₀ (s.writeStb ag a v) :=
  .ite (kept_landed (goes_execTimeArm hs _ _ _)) (.ite (kept_landed (goes_execStrobeDisarm hs _ _))
    (.ite (kept_landed (goes_execCaptureEdgeConfig hs _ _ _)) (hs.userWrite _ _ _ _ (fun _ h => h.plainWrite _ _ _))))

theorem Kept.chctlWrite (hs : Kept s₀ s) (ag : Agent) (n : Fin 24) (v : W32) : Kept s₀ (s.chctlWrite ag n v) :=
  .ite (.ite (kept_landed (goes_execShiftAbort (kept_landed (goes_execShiftEnable hs _ _ _)) _ _))
    (kept_landed (goes_execShiftEnable hs _ _ _))) (kept_landed (goes_execShiftDisable hs _ _ _))

theorem Kept.writeShf (hs : Kept s₀ s) (ag : Agent) (a : Nat) (v : W32) : Kept s₀ (s.writeShf ag a v) :=
  .ite (hs.chctlWrite _ _ _) (.ite (kept_landed (goes_execShiftStart hs _ _ _))
    (.ite (kept_landed (goes_execShiftTxPush hs _ _ _))
    (.ite (kept_landed (goes_execMicrocodeWrite hs _ _))
    (.ite (.ite (kept_landed (goes_execBankVerify hs _ _)) (hs.bossWrite _ _ _ (fun _ h => h.status _)))
    (.ite (hs.userWrite _ _ _ _ (fun _ h => h.plainWrite _ _ _))
    (hs.bossWrite _ _ _ (fun _ h => h.plainWrite _ _ _)))))))

theorem Kept.writeEvr (hs : Kept s₀ s) (ag : Agent) (a : Nat) (v : W32) : Kept s₀ (s.writeEvr ag a v) :=
  .ite (kept_landed (goes_execRouteWrite hs _ _ _))
    (.ite (kept_landed (goes_execPendClear hs _ _ _)) (hs.bossWrite _ _ _ (fun _ h => h.plainWrite _ _ _)))

theorem Kept.mcmdWrite (hs : Kept s₀ s) (ag : Agent) (v : W32) : Kept s₀ (s.mcmdWrite ag v) := by
  dsimp only [State.mcmdWrite]
  split
  · exact kept_landed (goes_execWardenStatus hs _ _)
  · exact kept_landed (goes_execRandom hs _ _)
  · exact kept_landed (goes_execChallenge hs _ _ _)
  · exact kept_landed (goes_execLcsRequest hs _ _ _ _)
  · exact kept_landed (goes_execDebugRevoke hs _ _)
  · exact kept_landed (goes_execUpdBegin hs _ _)
  · exact kept_landed (goes_execUpdData hs.fresh _ _ _)
  · exact kept_landed (goes_execUpdVerify hs _ _)
  · exact kept_landed (goes_execUpdActivate hs _ _)
  · exact kept_landed (goes_execUpdConfirm hs _ _)
  · exact kept_landed (goes_execUpdAbort hs _ _)
  · exact kept_landed (goes_execUpdStatus hs _ _)
  · exact kept_landed (goes_execMailboxForward hs _ _ _)

theorem Kept.writeSec (hs : Kept s₀ s) (ag : Agent) (a : Nat) (v : W32) : Kept s₀ (s.writeSec ag a v) :=
  hs.bossWrite _ _ _ (fun _ h => .ite (h.mcmdWrite _ _) (h.plainWrite _ _ _))

theorem Kept.blockWrite (hs : Kept s₀ s) (ag : Agent) (a : Nat) (v : W32) : Kept s₀ (s.blockWrite ag a v) := by
  unfold State.blockWrite
  grind [Kept.status, Kept.refuse, Kept.bootCtrl, Kept.bossWrite, Kept.writePwr, Kept.writeMon, Kept.writeTb,
    Kept.writeShp, Kept.writeFlt, Kept.writeLkp, Kept.writeBsn, Kept.writeTbl, Kept.writeBrg, Kept.writePrt,
    Kept.writeDrc, Kept.writeSau, Kept.writeTnt, Kept.writeFul, Kept.writeStb, Kept.writeShf, Kept.writeEvr,
    Kept.writeSec]

theorem Kept.islandWrite (hs : Kept s₀ s) (k : Fin 4) (a : Nat) (v : W32) : Kept s₀ (s.islandWrite k a v) := by
  dsimp only [State.islandWrite]
  split
  · exact Kept.slotAnswer hs _
  · split
    · exact kept_landed (Goes.keyCmd hs _ _ _)
    · split
      · split
        · exact Kept.slotAnswer hs _
        · exact kept_landed (goes_execInstall hs _ _)
        · exact kept_landed (goes_execGenerate hs _)
        · exact Kept.slotAnswer (hs.setFld _ _ _ _) _
      · exact .ite (Kept.slotAnswer hs _) (.ite (kept_landed (goes_execSecureHoldWrite hs _ _ _))
          (.ite (kept_landed (goes_execSecureHoldWrite hs _ _ _))
          (.ite (kept_landed (goes_execWatchdogKick hs _ _))
          (.ite (kept_landed (goes_execWardenReset hs _ _))
          (.ite (kept_landed (goes_execMailboxDone hs _ _)) (Kept.slotAnswer (hs.plainWrite _ _ _) _))))))

theorem Kept.windowWrite (hs : Kept s₀ s) (t o : Nat) (v : W32) : Kept s₀ (s.windowWrite t o v) :=
  .ite (hs.refuse _ _ _) (.ite (.ite (kept_landed (goes_execSqDoorbell hs _ _ _))
    (.ite (hs.status _) (kept_landed (goes_execCqDoorbell hs _ _ _))))
    (.ite ((hs.setReg _ _).status _) (.ite (kept_landed (goes_execTenantSelfReset hs _ _))
    (.ite (.ite (hs.status _) (hs.writeSau _ _ _)) (hs.status _)))))

theorem Kept.msixWrite (hs : Kept s₀ s) (a : Nat) (v : W32) : Kept s₀ (s.msixWrite a v) :=
  .ite (hs.status _) (.ite ((hs.setReg _ _).status _) ((Kept.ite hs.update.update hs.update).status _))

theorem Kept.unsupported (hs : Kept s₀ s) : Kept s₀ s.unsupported := hs.update

theorem Kept.writeReg (hs : Kept s₀ s) (ag0 : Agent) (a : Nat) (v : W32) : Kept s₀ (s.writeReg ag0 a v) :=
  .ite (.ite (hs.islandWrite _ _ _) (hs.refuse _ _ _))
    (.ite (.ite (hs.windowWrite _ _ _) (hs.refuse _ _ _))
    (.ite (hs.refuse _ _ _) (.ite (.ite (hs.refuse _ _ _) (.ite (hs.msixWrite _ _) (hs.status _)))
    (hs.blockWrite _ _ _))))

theorem goes_execRegisterWrite (hs : Kept s₀ s) (ag : Agent) (a v : W32) : Goes s₀ (execRegisterWrite ag a v s) :=
  .ite (.next hs.unsupported) (.next (hs.writeReg _ _ _))

theorem Kept.refuseReg (hs : Kept s₀ s) (ag : Agent) (a : Nat) (st : Status) : Kept s₀ (s.refuseReg ag a st) :=
  .ite ((hs.logHost _ _ _ _ _).answer _ _) (hs.answer _ _)

theorem Kept.readClears (hs : Kept s₀ s) (ag : Agent) (a : Nat) : Kept s₀ (s.readClears ag a) := by
  dsimp only [State.readClears]
  split
  · exact .ite hs (hs.setReg _ _)
  · exact hs

theorem Kept.readLatches (hs : Kept s₀ s) (ag : Agent) (a : Nat) : Kept s₀ (s.readLatches ag a) :=
  .ite (hs.setLatch _ _) (.ite (hs.setLatch _ _) (.ite (hs.setLatch _ _) hs))

theorem Kept.readPlain (hs : Kept s₀ s) (ag : Agent) (a : Nat) : Kept s₀ (s.readPlain ag a) :=
  ((Kept.ite hs (hs.readClears _ _)).readLatches _ _).answer _ _

theorem Kept.blockRead (hs : Kept s₀ s) (ag : Agent) (a : Nat) : Kept s₀ (s.blockRead ag a) :=
  .ite (hs.refuseReg _ _ _) (.ite (hs.refuseReg _ _ _)
    (.ite (kept_landed (goes_execTspop hs _ _)) (.ite (kept_landed (goes_execCapturePop hs _ _))
    (.ite (kept_landed (goes_execShiftRxPop hs _ _)) (hs.readPlain _ _)))))

theorem Kept.windowRead (hs : Kept s₀ s) (t o : Nat) : Kept s₀ (s.windowRead t o) :=
  .ite (hs.answer _ _) (.ite (hs.answer _ _) (.ite (hs.answer _ _)
    (.ite (hs.readPlain _ _) (.ite (hs.readPlain _ _) (hs.answer _ _)))))

theorem Kept.readReg (hs : Kept s₀ s) (ag0 : Agent) (a : Nat) : Kept s₀ (s.readReg ag0 a) :=
  .ite (.ite (hs.readPlain _ _) (hs.refuseReg _ _ _))
    (.ite (.ite (hs.windowRead _ _) (hs.refuseReg _ _ _))
    (.ite (hs.refuseReg _ _ _) (.ite (.ite (hs.refuseReg _ _ _) (hs.answer _ _)) (hs.blockRead _ _))))

theorem Kept.readCmd (hs : Kept s₀ s) (ag : Agent) (a : Nat) : Kept s₀ (s.readCmd ag a) :=
  .ite hs.unsupported (hs.readReg _ _)

theorem goes_execRcRead (hs : Kept s₀ s) (ag : Agent) (a : W32) : Goes s₀ (execRcRead ag a s) := .next (hs.readCmd _ _)

theorem goes_execCounterLowRead (hs : Kept s₀ s) (ag : Agent) (a : W32) : Goes s₀ (execCounterLowRead ag a s) :=
  .next (hs.readCmd _ _)

theorem goes_execCounterHighRead (hs : Kept s₀ s) (ag : Agent) (a : W32) : Goes s₀ (execCounterHighRead ag a s) :=
  .next (hs.readCmd _ _)

theorem goes_execShadowReadback (hs : Kept s₀ s) (ag : Agent) : Goes s₀ (execShadowReadback ag s) :=
  .next (hs.readCmd _ _)

theorem goes_execHostBar0SubwordRead (hs : Kept s₀ s) (off : BitVec 25) (two : Bool) :
    Goes s₀ (execHostBar0SubwordRead off two s) :=
  .next (.ite (hs.readCmd _ _) ((hs.readCmd _ _).answer _ _))

theorem goes_execHostBar0SubwordWrite (hs : Kept s₀ s) (off : BitVec 25) (two : Bool) (v : BitVec 16) :
    Goes s₀ (execHostBar0SubwordWrite off two v s) :=
  .ite (.next hs.unsupported) (.next (.ite ((Kept.ite (hs.fresh.logHost _ _ _ _ _)
    ((hs.fresh.logHost _ _ _ _ _).setFld _ _ _ _)).setReg _ _)
    (.ite (hs.fresh.logHost _ _ _ _ _) ((hs.fresh.logHost _ _ _ _ _).setFld _ _ _ _))))

theorem goes_execHostBar0QwordAccess (hs : Kept s₀ s) (off : BitVec 25) (write : Bool) (v : W64) :
    Goes s₀ (execHostBar0QwordAccess off write v s) :=
  .ite (.next hs.unsupported) (.ite (.next ((hs.writeReg _ _ _).writeReg _ _ _))
    (.next (((hs.readReg _ _).readReg _ _).answer _ _)))

/-! ### The test port -/

theorem Goes.tap (hs : Kept s₀ s) (what ir : Nat) (f : State → State)
    (hf : ∀ u, Kept s₀ u → Kept s₀ (f u)) : Goes s₀ (s.tap what ir f) :=
  .ite (.next hs) (.ite (.next (hf _ (hs.tapIr _))) (.next hs.tapDenied))

theorem goes_execNmem (hs : Kept s₀ s) (a : BitVec 24) (write : Bool) (v : W32) : Goes s₀ (execNmem a write v s) :=
  Goes.tap hs _ _ _ (fun _ h => .ite (h.writeReg _ _ _) (h.readReg _ _))

theorem Kept.tapReg (hs : Kept s₀ s) (w : SlotId) (code : Nat) : Kept s₀ (s.tapReg w code) :=
  .ite (hs.answer _ _) (.ite (hs.answer _ _) (hs.fresh.answer _ _))

theorem Kept.haltSlot (hs : Kept s₀ s) (w : SlotId) : Kept s₀ (s.haltSlot w) := hs.setSlot _ _

theorem Kept.stepSlot (hs : Kept s₀ s) (w : SlotId) : Kept s₀ (s.stepSlot w) := .ite (hs.setSlot _ _) hs

theorem Kept.resumeSlot (hs : Kept s₀ s) (w : SlotId) : Kept s₀ (s.resumeSlot w) := hs.setSlot _ _

theorem goes_execNcoreHalt (hs : Kept s₀ s) (core : BitVec 6) (slot : BitVec 3) (code : BitVec 5) :
    Goes s₀ (execNcoreHalt core slot code s) :=
  Goes.tap hs _ _ _ (fun _ h => (h.haltSlot _).tapReg _ _)

theorem goes_execNcoreStep (hs : Kept s₀ s) (core : BitVec 6) (slot : BitVec 3) (code : BitVec 5) :
    Goes s₀ (execNcoreStep core slot code s) :=
  Goes.tap hs _ _ _ (fun _ h => (h.stepSlot _).tapReg _ _)

theorem goes_execNcoreResume (hs : Kept s₀ s) (core : BitVec 6) (slot : BitVec 3) (code : BitVec 5) :
    Goes s₀ (execNcoreResume core slot code s) :=
  Goes.tap hs _ _ _ (fun _ h => (h.resumeSlot _).tapReg _ _)

theorem goes_execScoreHalt (hs : Kept s₀ s) (slot : Fin 4) (code : BitVec 5) : Goes s₀ (execScoreHalt slot code s) :=
  Goes.tap hs _ _ _ (fun _ h => (h.haltSlot _).tapReg _ _)

theorem goes_execScoreStep (hs : Kept s₀ s) (slot : Fin 4) (code : BitVec 5) : Goes s₀ (execScoreStep slot code s) :=
  Goes.tap hs _ _ _ (fun _ h => (h.stepSlot _).tapReg _ _)

theorem goes_execScoreResume (hs : Kept s₀ s) (slot : Fin 4) (code : BitVec 5) :
    Goes s₀ (execScoreResume slot code s) :=
  Goes.tap hs _ _ _ (fun _ h => (h.resumeSlot _).tapReg _ _)

theorem Kept.orphanRng (hs : Kept s₀ s) (n : Nat) : Kept s₀ (s.orphanRng n) := .ite hs hs.fresh.update

theorem Kept.tapIsland (hs : Kept s₀ s) (a : Nat) (v : W32) : Kept s₀ (s.tapIsland a v) :=
  (Kept.ite (((hs.status _).islandWrite _ _ _).setSlot _ _) ((hs.status _).islandWrite _ _ _)).orphanRng _

theorem goes_execSmem (hs : Kept s₀ s) (a : BitVec 24) (write : Bool) (v : W32) : Goes s₀ (execSmem a write v s) := by
  unfold execSmem
  refine .tap hs _ _ _ fun u h => ?_
  split
  · exact h.status _
  · exact .ite (h.tapIsland _ _) (h.readReg _ _)

theorem goes_execDebugIdcode (hs : Kept s₀ s) : Goes s₀ (execDebugIdcode s) :=
  .ite (.next hs) (.next ((hs.tapIr _).answer _ _))

theorem Kept.scanIr (hs : Kept s₀ s) (n : Nat) : Kept s₀ (s.scanIr n) := hs.update

theorem Goes.scan (hs : Kept s₀ s) (f : State → State) (hf : ∀ u, Kept s₀ u → Kept s₀ (f u)) :
    Goes s₀ (s.scan f) := .ite (.next hs) (.ite (.next ((hf _ hs).status _)) (.next (hs.tapCount.scanIr _)))

theorem Kept.loadCells (hs : Kept s₀ s) (cells : BitVec 358) : Kept s₀ (s.loadCells cells) := hs.update

theorem goes_execExtest (hs : Kept s₀ s) (cells : BitVec 358) : Goes s₀ (execExtest cells s) :=
  Goes.scan hs _ (fun _ h => (h.loadCells _).scanIr _)

theorem goes_execIntest (hs : Kept s₀ s) (cells : BitVec 358) : Goes s₀ (execIntest cells s) :=
  Goes.scan hs _ (fun _ h => (h.loadCells _).scanIr _)

theorem goes_execSamplePreload (hs : Kept s₀ s) (pins cells : BitVec 358) : Goes s₀ (execSamplePreload pins cells s) :=
  Goes.scan hs _ (fun _ h => ((h.loadCells _).scanIr _).update)

theorem goes_execClamp (hs : Kept s₀ s) : Goes s₀ (execClamp s) := Goes.scan hs _ (fun _ h => h.scanIr _)

theorem goes_execHighz (hs : Kept s₀ s) : Goes s₀ (execHighz s) := Goes.scan hs _ (fun _ h => h.scanIr _)

theorem goes_execIdcode (hs : Kept s₀ s) : Goes s₀ (execIdcode s) := .ite (.next hs) (.next ((hs.scanIr _).answer _ _))

theorem goes_execBypass (hs : Kept s₀ s) (debug : Bool) : Goes s₀ (execBypass debug s) :=
  .ite (.next hs) (.next (.ite ((hs.tapIr _).status _) ((hs.scanIr _).status _)))

theorem goes_execTestLogicReset (hs : Kept s₀ s) : Goes s₀ (execTestLogicReset s) :=
  .next (((hs.tapIr _).scanIr _).status _)

/-! ### IO instructions -/

theorem Kept.coreInfo (hs : Kept s₀ s) (w : SlotId) : Kept s₀ (s.coreInfo w).2 := by
  dsimp only [State.coreInfo]
  split
  · exact hs.fresh
  · exact hs

theorem Kept.coreMask (hs : Kept s₀ s) (w : SlotId) : Kept s₀ (s.coreMask w).2 := by
  unfold State.coreMask
  split
  · exact hs.fresh
  · exact hs

theorem Kept.localIn (hs : Kept s₀ s) (w : SlotId) (x : Slot) (a : Nat) : Kept s₀ (s.localIn w x a).2 := by
  unfold State.localIn
  grind [Kept.coreInfo, Kept.coreMask]

theorem Kept.localOut (hs : Kept s₀ s) (w : SlotId) (x : Slot) (a : Nat) (v : W32) :
    Kept s₀ (s.localOut w x a v).2 := by
  unfold State.localOut
  grind [Kept.setSlot, Kept.verdict, Kept.recWrite, Kept.sendCtl, Kept.lkCreate, Kept.lkAbort, Kept.lkTmarm,
    Kept.lkTmtag, Kept.lkExit, Kept.lkWaittmo, Kept.lkPrio, Kept.rngReq]

theorem Kept.ioHold (hs : Kept s₀ s) (w : SlotId) (x : Slot) (ws : List PWrite) : Kept s₀ (s.ioHold w x ws) :=
  .ite hs (.ite (hs.setSlot _ _) (hs.hold _ _ _ _ _ _))

theorem Kept.ioDone (hs : Kept s₀ s) (w : SlotId) (x : Slot) (d1 d2 : List PWrite) : Kept s₀ (s.ioDone w x d1 d2) :=
  .ite hs (hs.retire _ _ _ _)

theorem Kept.ioIn (hs : Kept s₀ s) (w : SlotId) (x : Slot) (rd : RegCode) (a : W32) : Kept s₀ (s.ioIn w x rd a) :=
  .ite (hs.accessFault _ _ _ _ _ _ _) (.ite ((hs.localIn _ _ _).ioDone _ _ _ _)
    (((hs.status _).readReg _ _).ioHold _ _ _))

theorem Kept.ioOut (hs : Kept s₀ s) (w : SlotId) (x : Slot) (v a : W32) : Kept s₀ (s.ioOut w x v a) :=
  .ite (hs.accessFault _ _ _ _ _ _ _) (.ite ((hs.localOut _ _ _ _).ioDone _ _ _ _)
    ((((hs.drain _).status _).writeReg _ _ _).ioHold _ _ _))

theorem goes_execInIo (hs : Kept s₀ s) (w : SlotId) (r : RegCode) (word : BitVec 21) : Goes s₀ (execInIo w r word s) :=
  Goes.issue hs _ _ _ (fun _ _ h => h.ioIn _ _ _ _)

theorem goes_execOutIo (hs : Kept s₀ s) (w : SlotId) (r : RegCode) (word : BitVec 21) :
    Goes s₀ (execOutIo w r word s) :=
  Goes.issue hs _ _ _ (fun _ _ h => h.ioOut _ _ _ _)

theorem goes_execInx (hs : Kept s₀ s) (w : SlotId) (rd ra : RegCode) (imm : BitVec 16) :
    Goes s₀ (execInx w rd ra imm s) :=
  Goes.issue hs _ _ _ (fun _ _ h => h.ioIn _ _ _ _)

theorem goes_execOutx (hs : Kept s₀ s) (w : SlotId) (rd ra : RegCode) (imm : BitVec 16) :
    Goes s₀ (execOutx w rd ra imm s) :=
  Goes.issue hs _ _ _ (fun _ _ h => h.ioOut _ _ _ _)

/-! ### Undefined instructions -/

theorem goes_execUndefinedInstruction (hs : Kept s₀ s) (w : SlotId) (word : BitVec 32) :
    Goes s₀ (execUndefinedInstruction w word s) :=
  .ite (.next hs) (Goes.issue hs _ _ _ (fun _ _ h => h))

end

/-! ### Commands and steps -/

/-- Every command answers a next state, with the same commands waiting and memory still canonical. -/
theorem exec_goes (c : Instr) (s : State) : Goes s (exec c s) := by
  have hs := Kept.refl s
  cases c with
  | registerWrite ag a v => exact goes_execRegisterWrite hs ag a v
  | rcRead ag a => exact goes_execRcRead hs ag a
  | counterLowRead ag a => exact goes_execCounterLowRead hs ag a
  | counterHighRead ag a => exact goes_execCounterHighRead hs ag a
  | hostBar0SubwordRead off two => exact goes_execHostBar0SubwordRead hs off two
  | hostBar0SubwordWrite off two v => exact goes_execHostBar0SubwordWrite hs off two v
  | hostBar0QwordAccess off write v => exact goes_execHostBar0QwordAccess hs off write v
  | preReadyRequest posted bar => exact goes_execPreReadyRequest hs posted bar
  | preReadyConfigRequest => exact goes_execPreReadyConfigRequest hs
  | vinGood test => exact goes_execVinGood hs test
  | regulators vfsel bad => exact goes_execRegulators hs vfsel bad
  | regulatorRetry vfsel bad => exact goes_execRegulatorRetry hs vfsel bad
  | alwaysOn drspd => exact goes_execAlwaysOn hs drspd
  | otpAndLifeCycle bad => exact goes_execOtpAndLifeCycle hs bad
  | batteryDomainAndTamper => exact goes_execBatteryDomainAndTamper hs
  | wardenRomSelfTest bad => exact goes_execWardenRomSelfTest hs bad
  | flashAndUpdateRecord bad => exact goes_execFlashAndUpdateRecord hs bad
  | imageSelectAndVerify => exact goes_execImageSelectAndVerify hs
  | shapeLoad => exact goes_execShapeLoad hs
  | sramRepairAndInitialisation bad => exact goes_execSramRepairAndInitialisation hs bad
  | timebasePll lock => exact goes_execTimebasePll hs lock
  | dramATraining bad replay slow differs two => exact goes_execDramATraining hs bad replay slow differs two
  | dramBTraining bad replay slow differs two => exact goes_execDramBTraining hs bad replay slow differs two
  | serdesCalibration bad => exact goes_execSerdesCalibration hs bad
  | pcieLink => exact goes_execPcieLink hs
  | coreSelfTestAndQuarantine bad => exact goes_execCoreSelfTestAndQuarantine hs bad
  | governorCalibration cal bad => exact goes_execGovernorCalibration hs cal bad
  | tableInitialisation bad => exact goes_execTableInitialisation hs bad
  | secureWorldStart bad => exact goes_execSecureWorldStart hs bad
  | ready us vinmin tjmax => exact goes_execReady hs us vinmin tjmax
  | startStepTimeout => exact goes_execStartStepTimeout hs
  | internalRestart => exact goes_execInternalRestart hs
  | powerOnReset vbat => exact goes_execPowerOnReset hs vbat
  | perstAssert => exact goes_execPerstAssert hs
  | perstRelease => exact goes_execPerstRelease hs
  | softReset ag v => exact goes_execSoftReset hs ag v
  | retryAll ag v => exact goes_execRetryAll hs ag v
  | secureWatchdogReset => exact goes_execSecureWatchdogReset hs
  | functionLevelReset link => exact goes_execFunctionLevelReset hs link
  | flrComplete => exact goes_execFlrComplete hs
  | shpApply ag => exact goes_execShpApply hs ag
  | shpAbandon ag => exact goes_execShpAbandon hs ag
  | deltaCheckDone => exact goes_execDeltaCheckDone hs
  | deltaPrepareDone bad => exact goes_execDeltaPrepareDone hs bad
  | reshapeDrainTimeout => exact goes_execReshapeDrainTimeout hs
  | turn => exact goes_execTurn hs
  | turnFenceBegin => exact goes_execTurnFenceBegin hs
  | heldWritesApply => exact goes_execHeldWritesApply hs
  | correctionEdge => exact goes_execCorrectionEdge hs
  | tbRateWrite ag v => exact goes_execTbRateWrite hs ag v
  | tbPeriodWrite ag v => exact goes_execTbPeriodWrite hs ag v
  | tbPhaseWrite ag v => exact goes_execTbPhaseWrite hs ag v
  | stepArm ag v => exact goes_execStepArm hs ag v
  | snapshotTake ag => exact goes_execSnapshotTake hs ag
  | tbNowRead ag => exact goes_execTbNowRead hs ag
  | shadowReadback ag => exact goes_execShadowReadback hs ag
  | armGroups ag v => exact goes_execArmGroups hs ag v
  | disarmGroups ag v => exact goes_execDisarmGroups hs ag v
  | frameArrival p bytes => exact goes_execFrameArrival hs p bytes
  | frameAdmission p => exact goes_execFrameAdmission hs p
  | arrivalTokenHoldExpiry p => exact goes_execArrivalTokenHoldExpiry hs p
  | frameFcsReceived p asm => exact goes_execFrameFcsReceived hs p asm
  | frameOversize p => exact goes_execFrameOversize hs p
  | lookupResult k n => exact goes_execLookupResult hs k n
  | sendCtl w v => exact goes_execSendCtl hs w v
  | verdictRoute w rest => exact goes_execVerdictRoute hs w rest
  | verdictDrop w rest => exact goes_execVerdictDrop hs w rest
  | verdictConsumeKeep w rest => exact goes_execVerdictConsumeKeep hs w rest
  | verdictConsumeFree w rest => exact goes_execVerdictConsumeFree hs w rest
  | towpathRelease p c => exact goes_execTowpathRelease hs p c
  | egressFcsReached p => exact goes_execEgressFcsReached hs p
  | classmapWrite ag v => exact goes_execClassmapWrite hs ag v
  | dropLogResize ag cells => exact goes_execDropLogResize hs ag cells
  | add w rd ra rb => exact goes_execAdd hs w rd ra rb
  | addc w rd ra rb => exact goes_execAddc hs w rd ra rb
  | sub w rd ra rb => exact goes_execSub hs w rd ra rb
  | subc w rd ra rb => exact goes_execSubc hs w rd ra rb
  | andR w rd ra rb => exact goes_execAndR hs w rd ra rb
  | orR w rd ra rb => exact goes_execOrR hs w rd ra rb
  | xor w rd ra rb => exact goes_execXor hs w rd ra rb
  | andn w rd ra rb => exact goes_execAndn hs w rd ra rb
  | shl w rd ra rb => exact goes_execShl hs w rd ra rb
  | shr w rd ra rb => exact goes_execShr hs w rd ra rb
  | sar w rd ra rb => exact goes_execSar hs w rd ra rb
  | ror w rd ra rb => exact goes_execRor hs w rd ra rb
  | shli w rd ra sh => exact goes_execShli hs w rd ra sh
  | shri w rd ra sh => exact goes_execShri hs w rd ra sh
  | sari w rd ra sh => exact goes_execSari hs w rd ra sh
  | rori w rd ra sh => exact goes_execRori hs w rd ra sh
  | mul w rd ra rb => exact goes_execMul hs w rd ra rb
  | mulh w rd ra rb => exact goes_execMulh hs w rd ra rb
  | mulhu w rd ra rb => exact goes_execMulhu hs w rd ra rb
  | cmp w ra rb => exact goes_execCmp hs w ra rb
  | tst w ra rb => exact goes_execTst hs w ra rb
  | clz w rd ra => exact goes_execClz hs w rd ra
  | addi w rd ra imm => exact goes_execAddi hs w rd ra imm
  | andi w rd ra imm => exact goes_execAndi hs w rd ra imm
  | ori w rd ra imm => exact goes_execOri hs w rd ra imm
  | xori w rd ra imm => exact goes_execXori hs w rd ra imm
  | cmpi w ra imm => exact goes_execCmpi hs w ra imm
  | lui w rd imm => exact goes_execLui hs w rd imm
  | ld w rd rb mode size imm => exact goes_execLd hs w rd rb mode size imm
  | lds w rd rb mode size imm => exact goes_execLds hs w rd rb mode size imm
  | st w rd rb mode size imm => exact goes_execSt hs w rd rb mode size imm
  | aliasClaim w rs rb disp => exact goes_execAliasClaim hs w rs rb disp
  | aliasRelease w rs rb disp => exact goes_execAliasRelease hs w rs rb disp
  | postedStorePerformed w k => exact goes_execPostedStorePerformed hs w k
  | holdComplete w => exact goes_execHoldComplete hs w
  | amoFadd w rd rb ra size => exact goes_execAmoFadd hs w rd rb ra size
  | amoSwap w rd rb ra size => exact goes_execAmoSwap hs w rd rb ra size
  | amoCas w rd rb ra size => exact goes_execAmoCas hs w rd rb ra size
  | amoMin w rd rb ra size => exact goes_execAmoMin hs w rd rb ra size
  | amoMax w rd rb ra size => exact goes_execAmoMax hs w rd rb ra size
  | amoMinu w rd rb ra size => exact goes_execAmoMinu hs w rd rb ra size
  | amoMaxu w rd rb ra size => exact goes_execAmoMaxu hs w rd rb ra size
  | amoWadd w rd rb ra => exact goes_execAmoWadd hs w rd rb ra
  | sync w => exact goes_execSync hs w
  | nop w => exact goes_execNop hs w
  | ild w rd ra imm => exact goes_execIld hs w rd ra imm
  | inIo w r word => exact goes_execInIo hs w r word
  | outIo w r word => exact goes_execOutIo hs w r word
  | inx w rd ra imm => exact goes_execInx hs w rd ra imm
  | outx w rd ra imm => exact goes_execOutx hs w rd ra imm
  | bcc w cond hint off => exact goes_execBcc hs w cond hint off
  | jmp w word => exact goes_execJmp hs w word
  | call w word => exact goes_execCall hs w word
  | jmpr w ra => exact goes_execJmpr hs w ra
  | callr w ra => exact goes_execCallr hs w ra
  | ret w => exact goes_execRet hs w
  | enter w => exact goes_execEnter hs w
  | leave w => exact goes_execLeave hs w
  | trap w k => exact goes_execTrap hs w k
  | texit w ra => exact goes_execTexit hs w ra
  | rds w rd sr => exact goes_execRds hs w rd sr
  | wrs w sr ra => exact goes_execWrs hs w sr ra
  | rspush w ra => exact goes_execRspush hs w ra
  | rspop w rd => exact goes_execRspop hs w rd
  | take w => exact goes_execTake hs w
  | wait w ra rb n => exact goes_execWait hs w ra rb n
  | give w ra rb => exact goes_execGive hs w ra rb
  | crc w rd ra rb count ieee => exact goes_execCrc hs w rd ra rb count ieee
  | bfxu w rd ra pos lenm1 => exact goes_execBfxu hs w rd ra pos lenm1
  | bfxs w rd ra pos lenm1 => exact goes_execBfxs hs w rd ra pos lenm1
  | bfi w rd ra pos lenm1 => exact goes_execBfi hs w rd ra pos lenm1
  | macs w rd ra rb sh round => exact goes_execMacs hs w rd ra rb sh round
  | cselSel w rd ra rb cond => exact goes_execCselSel hs w rd ra rb cond
  | cselMinmax w rd ra rb op => exact goes_execCselMinmax hs w rd ra rb op
  | dce w rd ra rb table => exact goes_execDce hs w rd ra rb table
  | dcd w rd ra rb table => exact goes_execDcd hs w rd ra rb table
  | divs w rd ra rb => exact goes_execDivs hs w rd ra rb
  | divu w rd ra rb => exact goes_execDivu hs w rd ra rb
  | divq w rd ra rb => exact goes_execDivq hs w rd ra rb
  | sqrtu w rd ra => exact goes_execSqrtu hs w rd ra
  | sqrtq w rd ra => exact goes_execSqrtq hs w rd ra
  | hash w rd ra table => exact goes_execHash hs w rd ra table
  | lkup w ra rb table => exact goes_execLkup hs w ra rb table
  | lkupResult k => exact goes_execLkupResult hs k
  | fsub w ra rb => exact goes_execFsub hs w ra rb
  | sprd w ra rb => exact goes_execSprd hs w ra rb
  | lkCreate w addr => exact goes_execLkCreate hs w addr
  | threadCreate w => exact goes_execThreadCreate hs w
  | lkExit w v => exact goes_execLkExit hs w v
  | threadExit n => exact goes_execThreadExit hs n
  | lkAbort w v => exact goes_execLkAbort hs w v
  | lkpAbort ag handle => exact goes_execLkpAbort hs ag handle
  | lkWaittmo w v => exact goes_execLkWaittmo hs w v
  | lkPrio w v => exact goes_execLkPrio hs w v
  | lkTmarm w delay => exact goes_execLkTmarm hs w delay
  | timerExpiry k => exact goes_execTimerExpiry hs k
  | waitTimeout n => exact goes_execWaitTimeout hs n
  | dispatch program => exact goes_execDispatch hs program
  | saveAreaPresent w => exact goes_execSaveAreaPresent hs w
  | coreQuarantine core reason => exact goes_execCoreQuarantine hs core reason
  | lkpQcmdQuarantine ag core => exact goes_execLkpQcmdQuarantine hs ag core
  | lkpQcmdReturn ag core => exact goes_execLkpQcmdReturn hs ag core
  | coreReturnPrepared pass => exact goes_execCoreReturnPrepared hs pass
  | contextFillComplete ctx bad => exact goes_execContextFillComplete hs ctx bad
  | alloc ag size => exact goes_execAlloc hs ag size
  | allocp ag pool => exact goes_execAllocp hs ag pool
  | allocc ag count => exact goes_execAllocc hs ag count
  | allocb ag => exact goes_execAllocb hs ag
  | free ag buf => exact goes_execFree hs ag buf
  | chainCellReturn => exact goes_execChainCellReturn hs
  | xfer ag buf => exact goes_execXfer hs ag buf
  | chain ag tail => exact goes_execChain hs ag tail
  | split ag cell => exact goes_execSplit hs ag cell
  | next ag cell => exact goes_execNext hs ag cell
  | spill ag buf => exact goes_execSpill hs ag buf
  | spillCopyDone k => exact goes_execSpillCopyDone hs k
  | fill ag handle => exact goes_execFill hs ag handle
  | fillCopyDone k => exact goes_execFillCopyDone hs k
  | fillTokenRetry => exact goes_execFillTokenRetry hs
  | reclaim ag idx => exact goes_execReclaim hs ag idx
  | tableAdd ag table token tag => exact goes_execTableAdd hs ag table token tag
  | tableDel ag table token tag => exact goes_execTableDel hs ag table token tag
  | tableFence ag table token tag => exact goes_execTableFence hs ag table token tag
  | fenceComplete => exact goes_execFenceComplete hs
  | tableFlush ag table token tag => exact goes_execTableFlush hs ag table token tag
  | tableRehash ag table token tag => exact goes_execTableRehash hs ag table token tag
  | rehashComplete n => exact goes_execRehashComplete hs n
  | rehashFail n => exact goes_execRehashFail hs n
  | tableRead ag table token tag => exact goes_execTableRead hs ag table token tag
  | tableTokenRetry => exact goes_execTableTokenRetry hs
  | learnInsert => exact goes_execLearnInsert hs
  | ageingSweep => exact goes_execAgeingSweep hs
  | brgCommit ag v => exact goes_execBrgCommit hs ag v
  | commitCopyDone ag => exact goes_execCommitCopyDone hs ag
  | bargeSeal n => exact goes_execBargeSeal hs n
  | inboundCheck k => exact goes_execInboundCheck hs k
  | receiveWindowClose p => exact goes_execReceiveWindowClose hs p
  | admitPartner ag => exact goes_execAdmit hs ag
  | welcome ag => exact goes_execWelcome hs ag
  | release ag => exact goes_execRelease hs ag
  | bind ag => exact goes_execBind hs ag
  | partnerRead ag => exact goes_execPartnerRead hs ag
  | portLinkUp p speed halfDup => exact goes_execPortLinkUp hs p speed halfDup
  | portReturnCount p => exact goes_execPortReturnCount hs p
  | portLeaveService p => exact goes_execPortLeaveService hs p
  | pauseReceived p quanta => exact goes_execPauseReceived hs p quanta
  | pauseExpiry p => exact goes_execPauseExpiry hs p
  | pauseqWrite ag p v => exact goes_execPauseqWrite hs ag p v
  | gateEntryBegin p => exact goes_execGateEntryBegin hs p
  | egressFrameStart p => exact goes_execEgressFrameStart hs p
  | fragmentPreempt p => exact goes_execFragmentPreempt hs p
  | egressFrameSent p => exact goes_execEgressFrameSent hs p
  | verifyFrameSend p => exact goes_execVerifyFrameSend hs p
  | verifyResponse p => exact goes_execVerifyResponse hs p
  | tspop ag p => exact goes_execTspop hs ag p
  | mdioWrite ag b phy reg cl45 token data => exact goes_execMdioWrite hs ag b phy reg cl45 token data
  | mdioRead ag b phy reg cl45 token => exact goes_execMdioRead hs ag b phy reg cl45 token
  | mdioAddress ag b phy reg token data => exact goes_execMdioAddress hs ag b phy reg token data
  | mdioReadIncrement ag b phy reg token => exact goes_execMdioReadIncrement hs ag b phy reg token
  | mdioComplete b data => exact goes_execMdioComplete hs b data
  | dramRequestStart x => exact goes_execDramRequestStart hs x
  | dramRequestComplete x ecc => exact goes_execDramRequestComplete hs x ecc
  | requestPromotion x k => exact goes_execRequestPromotion hs x k
  | refreshPerBank x bank => exact goes_execRefreshPerBank hs x bank
  | forcedRefresh x bank => exact goes_execForcedRefresh hs x bank
  | mr4Poll x rate hot => exact goes_execMr4Poll hs x rate hot
  | zqCalibrationStart x => exact goes_execZqCalibrationStart hs x
  | zqLatch x inRange => exact goes_execZqLatch hs x inRange
  | selfRefreshAutoEntry x => exact goes_execSelfRefreshAutoEntry hs x
  | selfRefreshExit x => exact goes_execSelfRefreshExit hs x
  | srEnter ag x mask => exact goes_execSrEnter hs ag x mask
  | srHeldEntered x => exact goes_execSrHeldEntered hs x
  | srExit ag x => exact goes_execSrExit hs ag x
  | srExitComplete x => exact goes_execSrExitComplete hs x
  | zeroFillComplete x r => exact goes_execZeroFillComplete hs x r
  | scrubRead x ecc => exact goes_execScrubRead hs x ecc
  | semaphoreClaim ag n v => exact goes_execSemaphoreClaim hs ag n v
  | semaphoreRelease ag n => exact goes_execSemaphoreRelease hs ag n
  | semaphoreAcknowledge ag n => exact goes_execSemaphoreAcknowledge hs ag n
  | forceRelease ag n => exact goes_execForceRelease hs ag n
  | groupWrite ag g v => exact goes_execGroupWrite hs ag g v
  | watchArm ag k v => exact goes_execWatchArm hs ag k v
  | watchDisarm ag k v => exact goes_execWatchDisarm hs ag k v
  | watchTokenRetry => exact goes_execWatchTokenRetry hs
  | hostAtomicFadd ag size => exact goes_execHostAtomicFadd hs ag size
  | hostAtomicSwap ag size => exact goes_execHostAtomicSwap hs ag size
  | hostAtomicCas ag size => exact goes_execHostAtomicCas hs ag size
  | hostAtomicMin ag size => exact goes_execHostAtomicMin hs ag size
  | hostAtomicMax ag size => exact goes_execHostAtomicMax hs ag size
  | hostAtomicMinu ag size => exact goes_execHostAtomicMinu hs ag size
  | hostAtomicMaxu ag size => exact goes_execHostAtomicMaxu hs ag size
  | hostAtomicWadd ag size => exact goes_execHostAtomicWadd hs ag size
  | bar2Read off n => exact goes_execBar2Read hs off n
  | bar2Write off bytes => exact goes_execBar2Write hs off bytes
  | mailboxDoorbell v => exact goes_execMailboxDoorbell hs v
  | mailboxEntryReadFail timeout => exact goes_execMailboxEntryReadFail hs timeout
  | mailboxNop => exact goes_execMailboxNop hs
  | tenantCreate => exact goes_execTenantCreate hs
  | tenantReset => exact goes_execTenantReset hs
  | tenantSelfReset t v => exact goes_execTenantSelfReset hs t v
  | tenantResetComplete t => exact goes_execTenantResetComplete hs t
  | tenantDestroy => exact goes_execTenantDestroy hs
  | hostwinSet => exact goes_execHostwinSet hs
  | qpCreate => exact goes_execQpCreate hs
  | qpDestroy => exact goes_execQpDestroy hs
  | mailboxStatus => exact goes_execMailboxStatus hs
  | sqDoorbell t q v => exact goes_execSqDoorbell hs t q v
  | cqDoorbell t q v => exact goes_execCqDoorbell hs t q v
  | descriptorNop t q => exact goes_execDescriptorNop hs t q
  | copyIn t q => exact goes_execCopyIn hs t q
  | copyOut t q => exact goes_execCopyOut hs t q
  | tx t q => exact goes_execTx hs t q
  | hostTxAdmit t q k => exact goes_execHostTxAdmit hs t q k
  | txWaitExpiry t q k => exact goes_execTxWaitExpiry hs t q k
  | rx t q => exact goes_execRx hs t q
  | send t q => exact goes_execSend hs t q
  | recv t q => exact goes_execRecv hs t q
  | descriptorComplete t q posted => exact goes_execDescriptorComplete hs t q posted
  | hostFrameDeliver t q => exact goes_execHostFrameDeliver hs t q
  | post ag => exact goes_execPost hs ag
  | dmaReadTimeout t q => exact goes_execDmaReadTimeout hs t q
  | streamArm ag n => exact goes_execStreamArm hs ag n
  | streamDisarm ag n => exact goes_execStreamDisarm hs ag n
  | streamRestart ag n => exact goes_execStreamRestart hs ag n
  | chunkCellOutput n => exact goes_execChunkCellOutput hs n
  | chunkRingOutput n => exact goes_execChunkRingOutput hs n
  | chunkTokenRetry => exact goes_execChunkTokenRetry hs
  | timeArm ag n hi => exact goes_execTimeArm hs ag n hi
  | strobeDisarm ag n => exact goes_execStrobeDisarm hs ag n
  | strobeFire n => exact goes_execStrobeFire hs n
  | strobePulseEnd n => exact goes_execStrobePulseEnd hs n
  | predict k => exact goes_execPredict hs k
  | residual k => exact goes_execResidual hs k
  | captureEdge n rise => exact goes_execCaptureEdge hs n rise
  | capturePop ag n => exact goes_execCapturePop hs ag n
  | captureEdgeConfig ag n v => exact goes_execCaptureEdgeConfig hs ag n v
  | shiftTxPush ag n v => exact goes_execShiftTxPush hs ag n v
  | shiftRxPop ag n => exact goes_execShiftRxPop hs ag n
  | shiftStart ag n v => exact goes_execShiftStart hs ag n v
  | shiftAbort ag n => exact goes_execShiftAbort hs ag n
  | shiftDisable ag n v => exact goes_execShiftDisable hs ag n v
  | shiftEnable ag n v => exact goes_execShiftEnable hs ag n v
  | shiftStallTimeout n => exact goes_execShiftStallTimeout hs n
  | shiftTokenRetry => exact goes_execShiftTokenRetry hs
  | yield n => exact goes_execYield hs n
  | pin n => exact goes_execPin hs n
  | shift n => exact goes_execShift hs n
  | shiftComplete n din startBit stopBit => exact goes_execShiftComplete hs n din startBit stopBit
  | ldx n => exact goes_execLdx hs n
  | push n => exact goes_execPush hs n
  | delay n => exact goes_execDelay hs n
  | delayExpiry n => exact goes_execDelayExpiry hs n
  | waitt n => exact goes_execWaitt hs n
  | waittExpiry n => exact goes_execWaittExpiry hs n
  | waite n => exact goes_execWaite hs n
  | waiteEdge n => exact goes_execWaiteEdge hs n
  | waiteTimeout n => exact goes_execWaiteTimeout hs n
  | setl n => exact goes_execSetl hs n
  | djnz n => exact goes_execDjnz hs n
  | microJmp n => exact goes_execMicroJmp hs n
  | jb n => exact goes_execJb hs n
  | done n => exact goes_execDone hs n
  | microNop n => exact goes_execMicroNop hs n
  | microcodeWrite ag v => exact goes_execMicrocodeWrite hs ag v
  | bankVerify ag words => exact goes_execBankVerify hs ag words
  | bankVerifyDone => exact goes_execBankVerifyDone hs
  | routeWrite ag e v => exact goes_execRouteWrite hs ag e v
  | pendClear ag k v => exact goes_execPendClear hs ag k v
  | eventTokenRetry => exact goes_execEventTokenRetry hs
  | evtoutPulseEnd p => exact goes_execEvtoutPulseEnd hs p
  | loadRoot k blk => exact goes_execLoadRoot hs k blk
  | loadMem k blk => exact goes_execLoadMem hs k blk
  | kdf k blk => exact goes_execKdf hs k blk
  | kdfOut k blk => exact goes_execKdfOut hs k blk
  | unwrap k blk => exact goes_execUnwrap hs k blk
  | ecbEncrypt k blk => exact goes_execEcbEncrypt hs k blk
  | ecbDecrypt k blk => exact goes_execEcbDecrypt hs k blk
  | ctr k blk => exact goes_execCtr hs k blk
  | cmac k blk => exact goes_execCmac hs k blk
  | sign k blk => exact goes_execSign hs k blk
  | pubkey k blk => exact goes_execPubkey hs k blk
  | clear k blk => exact goes_execClear hs k blk
  | sha256 k blk => exact goes_execSha256 hs k blk
  | sha384 k blk => exact goes_execSha384 hs k blk
  | verify k blk => exact goes_execVerify hs k blk
  | tagWindowClose => exact goes_execTagWindowClose hs
  | secureHoldWrite w k v => exact goes_execSecureHoldWrite hs w k v
  | install k addr => exact goes_execInstall hs k addr
  | generate k => exact goes_execGenerate hs k
  | tamperDetect source seconds vin => exact goes_execTamperDetect hs source seconds vin
  | rngReq w v => exact goes_execRngReq hs w v
  | randomServe => exact goes_execRandomServe hs
  | randomTimeout k => exact goes_execRandomTimeout hs k
  | entropyFailure => exact goes_execEntropyFailure hs
  | entropyStartupComplete => exact goes_execEntropyStartupComplete hs
  | watchdogKick k v => exact goes_execWatchdogKick hs k v
  | watchdogExpiry => exact goes_execWatchdogExpiry hs
  | wardenReset k v => exact goes_execWardenReset hs k v
  | wardenStatus ag seq => exact goes_execWardenStatus hs ag seq
  | random ag seq => exact goes_execRandom hs ag seq
  | mailboxForward ag op seq => exact goes_execMailboxForward hs ag op seq
  | mailboxDone k v => exact goes_execMailboxDone hs k v
  | mailboxTimeout => exact goes_execMailboxTimeout hs
  | challenge ag seq tap => exact goes_execChallenge hs ag seq tap
  | nonceExpiry => exact goes_execNonceExpiry hs
  | lcsRequest ag seq tap bytes => exact goes_execLcsRequest hs ag seq tap bytes
  | transition keysOk got => exact goes_execTransition hs keysOk got
  | transitionWipe => exact goes_execTransitionWipe hs
  | debugGrant => exact goes_execDebugGrant hs
  | debugRevoke ag seq => exact goes_execDebugRevoke hs ag seq
  | debugGrantExpiry => exact goes_execDebugGrantExpiry hs
  | updBegin ag seq => exact goes_execUpdBegin hs ag seq
  | updData ag seq good => exact goes_execUpdData hs ag seq good
  | updVerify ag seq => exact goes_execUpdVerify hs ag seq
  | updActivate ag seq => exact goes_execUpdActivate hs ag seq
  | updConfirm ag seq => exact goes_execUpdConfirm hs ag seq
  | updAbort ag seq => exact goes_execUpdAbort hs ag seq
  | updStatus ag seq => exact goes_execUpdStatus hs ag seq
  | scrapRaw v got => exact goes_execScrapRaw hs v got
  | otpProg target v => exact goes_execOtpProg hs target v
  | nmem a write v => exact goes_execNmem hs a write v
  | ncoreHalt core slot code => exact goes_execNcoreHalt hs core slot code
  | ncoreStep core slot code => exact goes_execNcoreStep hs core slot code
  | ncoreResume core slot code => exact goes_execNcoreResume hs core slot code
  | smem a write v => exact goes_execSmem hs a write v
  | scoreHalt slot code => exact goes_execScoreHalt hs slot code
  | scoreStep slot code => exact goes_execScoreStep hs slot code
  | scoreResume slot code => exact goes_execScoreResume hs slot code
  | debugIdcode => exact goes_execDebugIdcode hs
  | extest cells => exact goes_execExtest hs cells
  | intest cells => exact goes_execIntest hs cells
  | samplePreload pins cells => exact goes_execSamplePreload hs pins cells
  | idcode => exact goes_execIdcode hs
  | clamp => exact goes_execClamp hs
  | highz => exact goes_execHighz hs
  | bypass debug => exact goes_execBypass hs debug
  | domainOn ag d => exact goes_execDomainOn hs ag d
  | domainRetain ag d => exact goes_execDomainRetain hs ag d
  | domainOff ag d => exact goes_execDomainOff hs ag d
  | domainSwitchComplete d replay => exact goes_execDomainSwitchComplete hs d replay
  | clockGate ag v => exact goes_execClockGate hs ag v
  | governorDecision pm rpl => exact goes_execGovernorDecision hs pm rpl
  | temperatureSample tj => exact goes_execTemperatureSample hs tj
  | thermalRecovery => exact goes_execThermalRecovery hs
  | railSample mv settled => exact goes_execRailSample hs mv settled
  | undefinedInstruction w word => exact goes_execUndefinedInstruction hs w word
  | configurationWrite busMaster memSpace msixEnable msixMask =>
    exact goes_execConfigurationWrite hs busMaster memSpace msixEnable msixMask
  | linkLossDuringBringUp => exact goes_execLinkLossDuringBringUp hs
  | srAutoExitComplete x => exact goes_execSrAutoExitComplete hs x
  | laneRecalibrationComplete hi => exact goes_execLaneRecalibrationComplete hs hi
  | entropyFailureCountReset => exact goes_execEntropyFailureCountReset hs
  | testLogicReset => exact goes_execTestLogicReset hs

/-- A step takes the front command from the queue, and keeps the canonical form of memory. -/
theorem step_takes_front {s t : State} (h : step s = .next t) : Kept { s with pending := s.pending.tail } t := by
  unfold step at h
  split at h
  · next hp =>
    cases h
    have h0 : Kept { s with pending := s.pending.tail } s := ⟨by rw [hp]; rfl, id⟩
    exact h0.tick
  · next c rest hp =>
    obtain ⟨u, hu, hk⟩ := exec_goes c { s with pending := rest }
    cases hu.symm.trans h
    rw [hp]
    exact hk

/-- Settles O3: every command leaves the queue it is given alone, and a step gives it the rest of the queue. -/
theorem stepTakesExactlyTheFrontCommand : Obligations.StepTakesExactlyTheFrontCommand := by
  unfold Obligations.StepTakesExactlyTheFrontCommand
  intro s t h
  exact (step_takes_front h).1

/-- Settles O2: each command's meaning ends in a next state on every path. -/
theorem everyCommandAnswersAState : Obligations.EveryCommandAnswersAState := by
  unfold Obligations.EveryCommandAnswersAState
  intro c s
  obtain ⟨t, ht, _⟩ := exec_goes c s
  exact ⟨t, ht⟩

/-! ### The state after reset -/

/-- What nothing has written in the flash reads as erased. -/
theorem memDefault_flash {o : Nat} (ho : o < 0x800000) : memDefault (kFlash + o) = 0xFF#8 := by
  have hk : (kFlash + o) / 0x100000000 = 6 := by unfold kFlash; omega
  rw [memDefault, if_pos hk]

/-- Settles O5: nothing has been written after reset, so every read answers the stated reset value. -/
theorem resetStateIsTheStatedOne : Obligations.ResetStateIsTheStatedOne := by
  unfold Obligations.ResetStateIsTheStatedOne
  refine ⟨by decide, by decide, by decide, by decide, by decide, fun _ => rfl, rfl, rfl, fun _ => rfl, fun _ => rfl,
    fun _ => rfl, fun _ => rfl, rfl, rfl, fun o ho => memDefault_flash ho⟩

end Sys2Proof.Machine
end

section
/-! REFUTATION of O8. The clause about a joining core that fails its test breaks in a state whose queue of returns names a
core beyond 63: the word of PWR_PDSTAT that such a number selects is SHP_STAT. No core of the device has such a number; the
statement quantifies over every state, and the state's queue is a list of numbers without a bound. -/

namespace Sys2Proof.Machine

/-- The word of PWR_PDSTAT that core 786368 would have lies at SHP_STAT. -/
theorem pwrPdstat_eq_shpStat : A.pwrPdstat (786368 / 16) = A.shpStat := rfl

/-- Pound 0, which the joining core is to serve. -/
def joiningPound : PoundCfg :=
  { pound := 0, control := false, program := 0, dramWin := 0, regMask := 0xFFFFFFFF#32, cores := 4#64,
    route := [0, 1, 0xFE, 0xFF], prioBase := 0 }

/-- SHP_STAT.STATE is PREPARING, core 2 joins with its domain on, and core 786368 waits in the queue of returns. -/
def strayReturn : State :=
  { State.reset with
    regs := [(A.shpStat, 2#32), (A.pwrPdstat 0, 0x20#32)]
    cores := [(2, { Core.init with joins := some joiningPound })]
    shp := { State.reset.shp with delta := some (Delta.at' 0 0) }
    lk := { State.reset.lk with retQ := [786368] } }

/-- The state meets the clause's hypotheses. -/
theorem strayReturn_prepares : strayReturn.shp.delta = some (Delta.at' 0 0) ∧ strayReturn.shpState = 2 ∧
    2 ∈ strayReturn.joiners ∧ ∀ c, c ∈ strayReturn.joiners → strayReturn.pdOn c = true := by decide +kernel

/-- The step goes on to a state whose SHP_STAT.STATE is `n`. -/
def leavesShpState (n : Nat) : Host.Outcome State Fault Refusal → Bool
  | .next t => t.shpState == n
  | _ => false

/-- When core 2 fails its test, the return of the stray core starts with the switch of its domain, which writes 3 into
SHP_STAT.STATE after the delta's end wrote 0. -/
theorem strayReturn_fails : leavesShpState 3 (exec (.deltaPrepareDone (some 2)) strayReturn) = true := by decide +kernel

/-- Refutes O8: when a joining core fails its test while the queue of returns names core 786368, the switch of that core's
domain leaves SHP_STAT.STATE 3 and not 0 (`strayReturn_fails`, `pwrPdstat_eq_shpStat`). -/
theorem not_liveReshapeFollowsItsStates : ¬ Obligations.LiveReshapeFollowsItsStates := by
  unfold Obligations.LiveReshapeFollowsItsStates
  intro h
  obtain ⟨-, -, -, hprepare, -⟩ := h
  obtain ⟨hd, hst, hj, hon⟩ := strayReturn_prepares
  obtain ⟨t, ht, h0, -⟩ := (hprepare strayReturn _ hd hst hon).2 2 hj
  have h3 := strayReturn_fails
  rw [ht] at h3
  exact absurd (h0.symm.trans (beq_iff_eq.mp h3)) (by decide)

end Sys2Proof.Machine
end

section
/-! SUPPORT. What a field of a word reads after a write: fields and bits of words, of registers, and the domain states of
PWR_PDSTAT. -/

namespace Sys2Proof.Machine

/-! ### Fields of a word -/

theorem getLsbD_maskOf (hi lo i : Nat) (h : hi < 32) :
    (maskOf hi lo).getLsbD i = (decide (lo ≤ i) && decide (i ≤ hi)) := by
  simp only [maskOf, BitVec.getLsbD_ofNat, Nat.testBit_shiftLeft, Nat.testBit_two_pow_sub_one]
  by_cases hl : lo ≤ i <;> by_cases hu : i ≤ hi <;> simp [hl, hu] <;> omega

/-- A bit of a word with a field set: of the new value inside the field, as before outside. -/
theorem bit_setBits (w : W32) (hi lo v i : Nat) (h : hi < 32) :
    bit (setBits w hi lo v) i = if lo ≤ i ∧ i ≤ hi then v.testBit (i - lo) else bit w i := by
  by_cases h32 : i < 32
  · simp only [bit, setBits, BitVec.getLsbD_or, BitVec.getLsbD_and, BitVec.getLsbD_not, BitVec.getLsbD_ofNat,
      Nat.testBit_shiftLeft, getLsbD_maskOf hi lo i h]
    by_cases hl : lo ≤ i <;> by_cases hu : i ≤ hi <;> simp [hl, hu, h32]
  · rw [if_neg (by omega), bit, bit, BitVec.getLsbD_of_ge _ _ (by omega), BitVec.getLsbD_of_ge _ _ (by omega)]

theorem bit_setBit (w : W32) (i j : Nat) (b : Bool) (h : i < 32) :
    bit (setBit w i b) j = if j = i then b else bit w j := by
  rw [setBit, bit_setBits _ _ _ _ _ h]
  by_cases hj : j = i
  · subst hj; cases b <;> simp
  · rw [if_neg (by omega), if_neg hj]

theorem testBit_bits (w : W32) (hi lo j : Nat) :
    (bits w hi lo).testBit j = (decide (j < hi + 1 - lo) && bit w (lo + j)) := by
  simp [bits, bit, Nat.testBit_mod_two_pow, Nat.testBit_shiftRight, BitVec.getLsbD]

/-- A field that is set reads its new value. -/
theorem bits_setBits_same (w : W32) (hi lo v : Nat) (h : hi < 32) :
    bits (setBits w hi lo v) hi lo = v % 2 ^ (hi + 1 - lo) := by
  refine Nat.eq_of_testBit_eq fun j => ?_
  rw [testBit_bits, Nat.testBit_mod_two_pow, bit_setBits _ _ _ _ _ h]
  by_cases hj : j < hi + 1 - lo
  · rw [if_pos (by omega), Nat.add_sub_cancel_left]
  · simp [hj]

/-- A field apart from the one that is set reads as before. -/
theorem bits_setBits_apart (w : W32) (hi lo v a b : Nat) (h : hi < 32) (hd : a < lo ∨ hi < b) :
    bits (setBits w hi lo v) a b = bits w a b := by
  refine Nat.eq_of_testBit_eq fun j => ?_
  rw [testBit_bits, testBit_bits, bit_setBits _ _ _ _ _ h]
  by_cases hj : j < a + 1 - b
  · rw [if_neg (by omega)]
  · simp [hj]

theorem bits_w32 (v hi lo : Nat) (h : hi < 32) : bits (w32 v) hi lo = v / 2 ^ lo % 2 ^ (hi + 1 - lo) := by
  refine Nat.eq_of_testBit_eq fun j => ?_
  rw [testBit_bits, bit, w32, BitVec.getLsbD_ofNat, Nat.testBit_mod_two_pow, Nat.testBit_div_two_pow, Nat.add_comm lo j]
  by_cases hj : j < hi + 1 - lo
  · simp [hj, show j + lo < 32 by omega]
  · simp [hj]

theorem bit_w32 (v i : Nat) (h : i < 32) : bit (w32 v) i = decide (v / 2 ^ i % 2 = 1) := by
  rw [bit, w32, BitVec.getLsbD_ofNat, decide_eq_true h, Bool.true_and, Nat.testBit_eq_decide_div_mod_eq]

/-! ### Fields of a register -/

theorem State.reg_setFld_same (s : State) (a hi lo v : Nat) : (s.setFld a hi lo v).reg a = setBits (s.reg a) hi lo v :=
  State.reg_setReg_same s a _

theorem State.reg_setFld_ne (s : State) {a b : Nat} (hi lo v : Nat) (h : b ≠ a) : (s.setFld a hi lo v).reg b = s.reg b :=
  State.reg_setReg_ne s _ h

/-- The domain that is set reads its new state. -/
theorem State.pdState_setPd_same (s : State) (d v : Nat) : (s.setPd d v).pdState d = v % 4 := by
  rw [State.pdState, State.fld, State.setPd, State.reg_setFld_same, bits_setBits_same _ _ _ _ (by omega),
    show 2 * (d % 16) + 1 + 1 - 2 * (d % 16) = 2 by omega]
  rfl

/-- Every other domain reads as before. -/
theorem State.pdState_setPd_ne (s : State) {d e : Nat} (v : Nat) (h : e ≠ d) : (s.setPd d v).pdState e = s.pdState e := by
  unfold State.pdState State.fld State.setPd
  by_cases hr : e / 16 = d / 16
  · rw [hr, State.reg_setFld_same, bits_setBits_apart _ _ _ _ _ _ (by omega) (by omega)]
  · rw [State.reg_setFld_ne _ _ _ _ (by unfold A.pwrPdstat; omega)]

/-- A domain's state stands in its register of PWR_PDSTAT. -/
theorem State.pdState_congr {s t : State} {d : Nat} (h : t.reg (A.pwrPdstat (d / 16)) = s.reg (A.pwrPdstat (d / 16))) :
    t.pdState d = s.pdState d := by
  unfold State.pdState State.fld
  rw [h]

end Sys2Proof.Machine
end

section
/-! SUPPORT. The bookkeeping of the start steps (section 3.4): what the start log, a completed step and a failed step
change. -/

namespace Sys2Proof.Machine

/-! ### Updates of registers and memory -/

/-- `t` differs from `s` at most in registers of `P` and in memory. -/
def StoreFrame (P : Nat → Prop) (s t : State) : Prop :=
  t = { s with regs := t.regs, mem := t.mem } ∧ ∀ a, ¬ P a → t.reg a = s.reg a

section
variable {P Q : Nat → Prop} {s t u : State}

theorem StoreFrame.boot (h : StoreFrame P s t) : t.boot = s.boot := by rw [h.1]
theorem StoreFrame.shp (h : StoreFrame P s t) : t.shp = s.shp := by rw [h.1]
theorem StoreFrame.sec (h : StoreFrame P s t) : t.sec = s.sec := by rw [h.1]
theorem StoreFrame.cores (h : StoreFrame P s t) : t.cores = s.cores := by rw [h.1]
theorem StoreFrame.pwr (h : StoreFrame P s t) : t.pwr = s.pwr := by rw [h.1]
theorem StoreFrame.drc (h : StoreFrame P s t) : t.drc = s.drc := by rw [h.1]
theorem StoreFrame.tb (h : StoreFrame P s t) : t.tb = s.tb := by rw [h.1]

theorem StoreFrame.reg (h : StoreFrame P s t) {a : Nat} (ha : ¬ P a) : t.reg a = s.reg a := h.2 a ha

theorem StoreFrame.refl (s : State) : StoreFrame P s s := ⟨rfl, fun _ _ => rfl⟩

theorem StoreFrame.trans (h : StoreFrame P s t) (k : StoreFrame P t u) : StoreFrame P s u := by
  refine ⟨?_, fun a ha => (k.reg ha).trans (h.reg ha)⟩
  have hk := k.1
  rw [h.1] at hk
  exact hk

theorem StoreFrame.mono (h : StoreFrame P s t) (hp : ∀ a, P a → Q a) : StoreFrame Q s t :=
  ⟨h.1, fun a ha => h.reg fun hpa => ha (hp a hpa)⟩

theorem StoreFrame.setReg (s : State) {a : Nat} (v : W32) (ha : P a) : StoreFrame P s (s.setReg a v) :=
  ⟨rfl, fun _ hb => State.reg_setReg_ne s v fun h => hb (h ▸ ha)⟩

theorem StoreFrame.setFld (s : State) {a : Nat} (hi lo v : Nat) (ha : P a) : StoreFrame P s (s.setFld a hi lo v) :=
  .setReg s _ ha

theorem StoreFrame.writeBytes (s : State) (k : Nat) (bs : List Byte) : StoreFrame P s (s.writeBytes k bs) :=
  ⟨rfl, fun _ _ => rfl⟩

theorem StoreFrame.writeLE (s : State) (k n v : Nat) : StoreFrame P s (s.writeLE k n v) := .writeBytes s k _

theorem StoreFrame.foldl {α : Type} (f : State → α → State) (l : List α)
    (hf : ∀ u, ∀ x ∈ l, StoreFrame P u (f u x)) (s : State) : StoreFrame P s (l.foldl f s) := by
  induction l generalizing s with
  | nil => exact .refl s
  | cons x l ih => exact (hf s x (by simp)).trans (ih (fun u y hy => hf u y (by simp [hy])) _)

end

/-! ### The start log -/

/-- The register that a flash operation writes: PD82's word of PWR_PDSTAT (R614). -/
abbrev FlashReg (a : Nat) : Prop := a = A.pwrPdstat 5

/-- The registers that a completed step writes. -/
abbrev StepReg (a : Nat) : Prop := a = A.bootStat ∨ a = A.pwrPdstat 5

theorem FlashReg.step (a : Nat) (h : FlashReg a) : StepReg a := .inr h

theorem flashOn_frame (s : State) : StoreFrame FlashReg s s.flashOn := by
  unfold State.flashOn
  split
  · exact .refl s
  · exact .setFld s _ _ _ rfl

theorem pdState_flashOn (s : State) {d : Nat} (h : d ≠ 82) : s.flashOn.pdState d = s.pdState d := by
  unfold State.flashOn
  split
  · rfl
  · exact State.pdState_setPd_ne s 2 h

theorem logPut_frame (s : State) (o n v : Nat) : StoreFrame FlashReg s (s.logPut o n v) := by
  unfold State.logPut
  split
  · exact .refl s
  · exact (flashOn_frame s).trans (.writeLE _ _ _ _)

theorem logBit_frame (s : State) (o i : Nat) : StoreFrame FlashReg s (s.logBit o i) := by
  unfold State.logBit
  split
  · exact .refl s
  · exact (flashOn_frame s).trans (.writeLE _ _ _ _)

theorem skipSteps_frame (s : State) (l : List Nat) : StoreFrame FlashReg s (s.skipSteps l) :=
  .foldl _ _ (fun u k _ => logBit_frame u 0x10 (k - 1)) s

theorem pdState_logBit (s : State) (o i : Nat) {d : Nat} (h : d ≠ 82) : (s.logBit o i).pdState d = s.pdState d := by
  unfold State.logBit
  split
  · rfl
  · exact pdState_flashOn s h

/-! ### A completed step -/

/-- The state whose last completed step is `n`, before BOOT_STAT and the log say so. -/
def State.atStep (s : State) (n : Nat) : State := { s with boot := { s.boot with step := n } }

theorem markStep_frame (s : State) (n : Nat) : StoreFrame StepReg (s.atStep n) (s.markStep n) :=
  (StoreFrame.setFld (s.atStep n) 4 0 n (Or.inl rfl)).trans ((logBit_frame _ 0x0C (n - 1)).mono FlashReg.step)

/-- Steps but S11 and S14 complete alone. -/
theorem stepDone_eq_markStep (s : State) {n : Nat} (h11 : n ≠ 11) (h14 : n ≠ 14) : s.stepDone n = s.markStep n := by
  unfold State.stepDone
  rw [if_neg h14, if_neg fun h => h11 h.1]

theorem stepDone_frame (s : State) {n : Nat} (h11 : n ≠ 11) (h14 : n ≠ 14) :
    StoreFrame StepReg (s.atStep n) (s.stepDone n) := by
  rw [stepDone_eq_markStep s h11 h14]
  exact markStep_frame s n

theorem boot_stepDone (s : State) {n : Nat} (h11 : n ≠ 11) (h14 : n ≠ 14) :
    (s.stepDone n).boot = { s.boot with step := n } := (stepDone_frame s h11 h14).boot

theorem reg_stepDone (s : State) {n a : Nat} (h11 : n ≠ 11) (h14 : n ≠ 14) (ha : ¬ StepReg a) :
    (s.stepDone n).reg a = s.reg a := (stepDone_frame s h11 h14).reg ha

theorem shp_stepDone (s : State) {n : Nat} (h11 : n ≠ 11) (h14 : n ≠ 14) : (s.stepDone n).shp = s.shp :=
  (stepDone_frame s h11 h14).shp

theorem cores_stepDone (s : State) {n : Nat} (h11 : n ≠ 11) (h14 : n ≠ 14) : (s.stepDone n).cores = s.cores :=
  (stepDone_frame s h11 h14).cores

theorem sec_stepDone (s : State) {n : Nat} (h11 : n ≠ 11) (h14 : n ≠ 14) : (s.stepDone n).sec = s.sec :=
  (stepDone_frame s h11 h14).sec

theorem pwr_stepDone (s : State) {n : Nat} (h11 : n ≠ 11) (h14 : n ≠ 14) : (s.stepDone n).pwr = s.pwr :=
  (stepDone_frame s h11 h14).pwr

theorem pdState_stepDone (s : State) {n d : Nat} (h11 : n ≠ 11) (h14 : n ≠ 14) (hd : d ≠ 82) (hr : d < 96) :
    (s.stepDone n).pdState d = s.pdState d := by
  rw [stepDone_eq_markStep s h11 h14, State.markStep, pdState_logBit _ _ _ hd]
  exact State.pdState_congr (State.reg_setFld_ne _ _ _ _ (by unfold A.pwrPdstat A.bootStat; omega))

/-- The step that runs has no failure before it. -/
theorem failed_of_stepDue {s : State} {n : Nat} (h : s.stepDue n = true) : s.boot.failed = none := by
  simp only [State.stepDue, Bool.and_eq_true, Option.isNone_iff_eq_none] at h
  exact h.1.1.2

/-! ### A failed step -/

/-- The failure of step `n` (R78). -/
def State.failure (s : State) (n cause detail : Nat) : Failure :=
  { step := n, cause := cause, detail := detail, steps := s.stepsWord (n - 1), kind := s.fld A.bootCause 3 0 }

/-- Step `n` has failed with its cause and DETAIL, and no further step is completed. -/
def StepFailed (s : State) (n cause detail : Nat) (t : State) : Prop :=
  ∃ f, t.boot.failed = some f ∧ f.step = n ∧ f.cause = cause ∧ f.detail = detail ∧ t.boot.step = s.boot.step

theorem StepFailed.of_boot {s t : State} {n cause detail : Nat}
    (hf : t.boot.failed = some (s.failure n cause detail)) (hs : t.boot.step = s.boot.step) :
    StepFailed s n cause detail t := ⟨_, hf, rfl, rfl, rfl, hs⟩

/-- The start controller after a failure from S08 on that does not halt the device. -/
def State.failedBoot (s : State) (n cause detail : Nat) : Boot :=
  { s.boot with bankFail := if n = 8 ∨ n = 9 then s.boot.bank else none, failed := some (s.failure n cause detail) }

/-- A failure written into this start's entry (section 3.4). -/
def State.logFailure (s : State) (n cause detail : Nat) : State :=
  ((s.logPut 0x14 1 n).logPut 0x15 1 cause).logPut 0x16 2 detail

theorem logFailure_frame (s : State) (n cause detail : Nat) : StoreFrame FlashReg s (s.logFailure n cause detail) :=
  ((logPut_frame s _ _ _).trans (logPut_frame _ _ _ _)).trans (logPut_frame _ _ _ _)

theorem stepFails_late (s : State) {n : Nat} (cause detail : Nat) (h7 : 7 < n) (h10 : n ≠ 10) (h11 : n ≠ 11) :
    s.stepFails n cause detail = { s.logFailure n cause detail with boot := s.failedBoot n cause detail } := by
  have hb : (((s.logPut 0x14 1 n).logPut 0x15 1 cause).logPut 0x16 2 detail).boot = s.boot :=
    (logFailure_frame s n cause detail).boot
  have hc : ¬ (n = 2 ∨ n = 6 ∨ n = 10 ∨ n = 11) := by omega
  simp only [State.stepFails, if_neg (show ¬ n ≤ 7 by omega), hc, and_false, if_false, hb]
  rfl

theorem boot_stepFails (s : State) {n : Nat} (cause detail : Nat) (h7 : 7 < n) (h10 : n ≠ 10) (h11 : n ≠ 11) :
    (s.stepFails n cause detail).boot = s.failedBoot n cause detail := by rw [stepFails_late s cause detail h7 h10 h11]

theorem reg_stepFails (s : State) {n a : Nat} (cause detail : Nat) (h7 : 7 < n) (h10 : n ≠ 10) (h11 : n ≠ 11)
    (ha : ¬ FlashReg a) : (s.stepFails n cause detail).reg a = s.reg a := by
  rw [stepFails_late s cause detail h7 h10 h11]
  exact (logFailure_frame s n cause detail).reg ha

theorem stepFails_failed (s : State) {n : Nat} (cause detail : Nat) (h7 : 7 < n) (h10 : n ≠ 10) (h11 : n ≠ 11) :
    StepFailed s n cause detail (s.stepFails n cause detail) := by
  have hb := boot_stepFails s cause detail h7 h10 h11
  exact .of_boot (by rw [hb]; rfl) (by rw [hb]; rfl)

/-- A failure of S07 is held in the always-on domain. -/
theorem boot_stepFails_flash (s : State) (cause detail : Nat) :
    (s.stepFails 7 cause detail).boot = { s.boot with
      early := some (s.failure 7 cause detail), s07Fails := s.boot.s07Fails + 1, bankFail := none,
      failed := some (s.failure 7 cause detail) } := by
  have hc : ¬ (7 = 2 ∨ 7 = 6 ∨ 7 = 10 ∨ 7 = 11) := by decide
  simp only [State.stepFails, hc, and_false, if_false]
  rfl

end Sys2Proof.Machine
end

section
/-! SUPPORT. S08, S09 and the training steps (R55, R56, R79, Table 3-6): one equation for each case of a command, and what
the state it answers holds. -/

namespace Sys2Proof.Machine

theorem Completes.next {c : Instr} {s t : State} {P : State → Prop} (h : exec c s = .next t) (hp : P t) :
    Completes c s P := ⟨t, h, hp⟩

/-! ### A failed image -/

/-- The state after S08 has selected bank `b`. -/
def State.withBank (s : State) (b : Nat) : State := { s with boot := { s.boot with bank := some b } }

theorem boot_loadErr (s : State) (e : ImgErr) (st : Nat) : (s.loadErr e st).boot = s.boot := by
  rw [State.loadErr, State.boot_setReg, State.boot_setReg]

/-- The first image that fails fails the step. -/
theorem imageFails_first {s : State} (n : Nat) (e : ImgErr)
    (h : s.boot.bankFail = none ∨ s.boot.bankFail = s.boot.bank) :
    s.imageFails n e = ((s.loadErr e 0).stepFails n 8 e.code, false) := by
  have hn : ¬ (s.boot.bankFail.isSome = true ∧ s.boot.bankFail ≠ s.boot.bank) := by
    rintro ⟨hs, hne⟩
    rcases h with h | h
    · rw [h] at hs; exact absurd hs (by decide)
    · exact hne h
  simp only [State.imageFails, boot_loadErr, if_neg hn]

/-- The start becomes a limp start when the other bank failed in the start before (R56). -/
theorem imageFails_other {s : State} (n : Nat) (e : ImgErr) {o : Nat} (h : s.boot.bankFail = some o)
    (ho : s.boot.bank ≠ some o) :
    s.imageFails n e = (((s.loadErr e 0).logFailure n 8 e.code).toLimp, true) := by
  have hn : s.boot.bankFail.isSome = true ∧ s.boot.bankFail ≠ s.boot.bank := ⟨by rw [h]; rfl, by rw [h]; exact ho.symm⟩
  simp only [State.imageFails, boot_loadErr, if_pos hn]
  rfl

theorem boot_loadErr_logFailure_toLimp (s : State) (n : Nat) (e : ImgErr) :
    ((s.loadErr e 0).logFailure n 8 e.code).toLimp.boot = { s.boot with limp := true, bankFail := none } := by
  rw [State.toLimp, (logFailure_frame (s.loadErr e 0) n 8 e.code).boot, boot_loadErr]

/-- SHP_LOADERR.CODE names the check that failed. -/
theorem loadErr_code (s : State) (e : ImgErr) (st : Nat) :
    bits ((s.loadErr e st).reg A.shpLoaderr) 7 0 = e.code % 256 := by
  rw [State.loadErr, State.reg_setReg_ne _ _ (by decide), State.reg_setReg_same, bits_w32 _ _ _ (by decide)]
  norm_num
  omega

/-! ### S08 -/

section
variable {s : State} (hd : s.stepDue 8 = true)
include hd

theorem exec_imageSelect_limp (hl : s.boot.limp = true) :
    exec .imageSelectAndVerify s = .next (s.stepDone 8) := by
  change execImageSelectAndVerify s = _
  simp [execImageSelectAndVerify, hd, hl]

theorem exec_imageSelect_noSlots (hl : s.boot.limp = false) (h : s.lcs' = 1 ∨ s.lcs' = 6) :
    exec .imageSelectAndVerify s = .next (s.toLimp.stepDone 8) := by
  change execImageSelectAndVerify s = _
  simp [execImageSelectAndVerify, hd, hl, h]

/-- S08 beyond its limp cases: the bank is selected, and its header and signature are checked. -/
theorem exec_imageSelect_full (hl : s.boot.limp = false) (h1 : s.lcs' ≠ 1) (h6 : s.lcs' ≠ 6) :
    exec .imageSelectAndVerify s =
      match fullHead (s.bankRd s.startBank) s.lcs.otp with
      | none => .next ((s.withBank s.startBank).stepDone 8)
      | some e => .next (if ((s.withBank s.startBank).imageFails 8 e).2
          then ((s.withBank s.startBank).imageFails 8 e).1.stepDone 8 else ((s.withBank s.startBank).imageFails 8 e).1) := by
  change execImageSelectAndVerify s = _
  unfold execImageSelectAndVerify
  rw [if_neg (by simp [hd]), if_neg (by simp [hl]), if_neg (by simp [h1, h6])]
  rfl

theorem exec_imageSelect_pass (hl : s.boot.limp = false) (h1 : s.lcs' ≠ 1) (h6 : s.lcs' ≠ 6)
    (h : fullHead (s.bankRd s.startBank) s.lcs.otp = none) :
    exec .imageSelectAndVerify s = .next ((s.withBank s.startBank).stepDone 8) := by
  rw [exec_imageSelect_full hd hl h1 h6, h]

theorem exec_imageSelect_fail {e : ImgErr} (hl : s.boot.limp = false) (h1 : s.lcs' ≠ 1) (h6 : s.lcs' ≠ 6)
    (h : fullHead (s.bankRd s.startBank) s.lcs.otp = some e) :
    exec .imageSelectAndVerify s = .next (if ((s.withBank s.startBank).imageFails 8 e).2
      then ((s.withBank s.startBank).imageFails 8 e).1.stepDone 8 else ((s.withBank s.startBank).imageFails 8 e).1) := by
  rw [exec_imageSelect_full hd hl h1 h6, h]

end

end Sys2Proof.Machine
end

section
/-! SUPPORT. What a shape load changes (section 2.2, R51, R56): registers, the shape, the cores and the shift engine. -/

namespace Sys2Proof.Machine

/-! ### Lists of numbers and folds -/

theorem mem_rangeFrom {n lo x : Nat} : x ∈ rangeFrom n lo ↔ lo ≤ x ∧ x < lo + n := by
  induction n generalizing lo with
  | zero => simp [rangeFrom]
  | succ n ih => rw [rangeFrom, List.mem_cons, ih]; omega

@[simp] theorem length_rangeFrom (n lo : Nat) : (rangeFrom n lo).length = n := by
  induction n generalizing lo with
  | zero => rfl
  | succ n ih => rw [rangeFrom, List.length_cons, ih]

theorem fst_lt_of_mem_zip_rangeFrom {α : Type} {l : List α} {n lo : Nat} {p : Nat × α}
    (h : p ∈ (rangeFrom n lo).zip l) : lo ≤ p.1 ∧ p.1 < lo + n := mem_rangeFrom.mp (List.of_mem_zip h).1

/-- A fold keeps what each of its steps keeps. -/
theorem foldl_keeps {α β : Type} (p : State → β) (f : State → α → State) (l : List α)
    (hf : ∀ u, ∀ x ∈ l, p (f u x) = p u) (s : State) : p (l.foldl f s) = p s := by
  induction l generalizing s with
  | nil => rfl
  | cons x l ih => exact (ih (fun u y hy => hf u y (by simp [hy])) _).trans (hf s x (by simp))

/-! ### Registers of a load -/

/-- Every register but SHP_STAT. -/
abbrev NotShpStat (a : Nat) : Prop := a ≠ A.shpStat

theorem setRoutes_frame (s : State) (e : Nat) (l : List W32) : StoreFrame NotShpStat s (s.setRoutes e l) :=
  .foldl _ _ (fun u _ _ => .setReg u _ (by unfold NotShpStat A.evrRoute A.shpStat; omega)) s

theorem setDomains_frame (s : State) (l : List Nat) (h : l.length = 84) : StoreFrame NotShpStat s (s.setDomains l) := by
  refine .foldl _ _ (fun u p hp => .setFld u _ _ _ ?_) s
  have := fst_lt_of_mem_zip_rangeFrom hp
  unfold NotShpStat A.pwrPdstat A.shpStat
  omega

theorem showDigest_frame (s : State) (d : BitVec 256) : StoreFrame NotShpStat s (s.showDigest d) :=
  .foldl _ _ (fun u _ _ => .setReg u _ (by unfold NotShpStat A.shpDigest A.shpStat; omega)) s

theorem setSecure_frame (s : State) (x : SecureCfg) : StoreFrame NotShpStat s (s.setSecure x) :=
  (((StoreFrame.foldl _ _ (fun u _ _ => .setReg u _ (by unfold NotShpStat A.secHoldpd A.shpStat; omega)) s).trans
    (.setReg _ _ (by decide))).trans
    (.foldl _ _ (fun u _ _ => .setFld u _ _ _ (by unfold NotShpStat A.sauGrp A.shpStat; omega)) _)).trans
    (setRoutes_frame _ _ _)

theorem setGovernor_frame (s : State) (p : PowerCfg) : StoreFrame NotShpStat s (s.setGovernor p) :=
  ((StoreFrame.setReg s _ (by decide)).trans (.setReg _ _ (by decide))).trans
    (.setReg _ _ (by decide))

theorem setPd_frame (s : State) {d : Nat} (v : Nat) (h : d < 96) : StoreFrame NotShpStat s (s.setPd d v) :=
  .setFld s _ _ _ (by unfold NotShpStat A.pwrPdstat A.shpStat; omega)

/-! ### The limp shape -/

/-- The shape of a limp start (R56). -/
def limpShape : Shp :=
  { State.reset.shp with fabric := { pounds := [], entry := [], period := 1000000 }, mgrVectors := 8, loaded := true }

theorem loadLimp_frame (s : State) :
    StoreFrame NotShpStat ({ s with shp := limpShape, cores := [] }.setReg A.shpStat 8#32) s.loadLimp :=
  ((setRoutes_frame _ _ _).trans (setDomains_frame _ _ (by simp))).trans
    (.setFld _ _ _ _ (by decide))

theorem shp_loadLimp (s : State) : s.loadLimp.shp = limpShape := (loadLimp_frame s).shp

theorem boot_loadLimp (s : State) : s.loadLimp.boot = s.boot := (loadLimp_frame s).boot

theorem shpStat_loadLimp (s : State) : s.loadLimp.reg A.shpStat = 8#32 :=
  ((loadLimp_frame s).reg (fun h => h rfl)).trans (State.reg_setReg_same _ _ _)

/-! ### A full image -/

theorem setMembers_keeps (s : State) (f : Fabric) {β : Type} (p : State → β)
    (hp : ∀ (u : State) (c : Nat) (x : Core), p (u.setCore c x) = p u) : p (s.setMembers f) = p s :=
  foldl_keeps p _ _ (fun u e _ => foldl_keeps p _ _ (fun v c _ => by
    by_cases h : e.cores.getLsbD c = true
    · rw [if_pos h]; exact hp v c _
    · rw [if_neg h]) u) s

/-- The registers of the shift engine's channels. -/
abbrev ShfReg (a : Nat) : Prop := 0x110000 ≤ a

/-- Loading the shift engine sets its registers and its code only. -/
theorem loadShf_frame (s : State) : StoreFrame ShfReg { s with shf := s.loadShf.shf } s.loadShf := by
  have h : ∀ u : State, ∀ p : Nat × ShiftCh, StoreFrame ShfReg u
      (((u.setReg (A.shfChctl p.1) (w32 (b2n p.2.enable))).setReg (A.shfEntry p.1) (w32 p.2.entry)).setReg
        (A.shfStall p.1) (w32 p.2.stall)) := fun u p =>
    ((StoreFrame.setReg u _ (by unfold ShfReg A.shfChctl; omega)).trans
      (.setReg _ _ (by unfold ShfReg A.shfEntry; omega))).trans (.setReg _ _ (by unfold ShfReg A.shfStall; omega))
  have hf := StoreFrame.foldl _ ((rangeFrom s.shp.shift.channels.length 0).zip s.shp.shift.channels) (fun u p _ => h u p) s
  refine ⟨?_, fun a ha => hf.reg ha⟩
  have h1 := hf.1
  unfold State.loadShf
  simp only
  rw [h1]

/-- Members and shift engine leave every register below the shift engine's alone. -/
theorem reg_setMembers_loadShf (s : State) (f : Fabric) {a : Nat} (ha : a < 0x110000) :
    (s.setMembers f).loadShf.reg a = s.reg a :=
  ((loadShf_frame (s.setMembers f)).reg (by unfold ShfReg; omega)).trans
    (setMembers_keeps s f (fun t => t.reg a) fun _ _ _ => rfl)

/-- What a load of bank `b` leaves: the image's shape, SHP_STAT with the bank, and PD79 and PD81 ON. -/
theorem loadImage_spec (s : State) (b : Nat) :
    (s.loadImage b).boot = s.boot ∧ (s.loadImage b).shp = s.shapeOf (s.bankRd b) ∧
      (s.loadImage b).reg A.shpStat = w32 (b * 16) ∧ (s.loadImage b).pdState 79 = 2 ∧ (s.loadImage b).pdState 81 = 2 := by
  unfold State.loadImage
  extract_lets r s1 s2 s3 s4
  have h3 : StoreFrame NotShpStat (s1.setReg A.shpStat (w32 (b * 16))) s3 :=
    ((((StoreFrame.setReg _ _ (by decide)).trans (.setReg _ _ (by decide))).trans
      (showDigest_frame _ _)).trans (setRoutes_frame _ _ _)).trans (setSecure_frame _ _)
  have hl : s3.shp.power.domains.length = 84 := by
    rw [h3.shp]
    exact (List.length_map ..).trans (length_rangeFrom 84 0)
  have h4 : StoreFrame NotShpStat (s1.setReg A.shpStat (w32 (b * 16))) s4 :=
    (h3.trans (setDomains_frame s3 _ hl)).trans (setGovernor_frame _ _)
  have h5 := (h4.trans (setPd_frame s4 2 (by decide : 79 < 96))).trans (setPd_frame _ 2 (by decide : 81 < 96))
  generalize hu : (s4.setPd 79 2).setPd 81 2 = u at h5 ⊢
  have hload := loadShf_frame (u.setMembers s4.shp.fabric)
  have hboot : (u.setMembers s4.shp.fabric).boot = u.boot := setMembers_keeps u _ State.boot fun _ _ _ => rfl
  have hshp : (u.setMembers s4.shp.fabric).shp = u.shp := setMembers_keeps u _ State.shp fun _ _ _ => rfl
  refine ⟨?_, ?_, ?_, ?_, ?_⟩
  · rw [hload.boot, hboot, h5.boot, State.boot_setReg]
  · rw [hload.shp, hshp, h5.shp, State.shp_setReg]
  · rw [reg_setMembers_loadShf _ _ (by decide), h5.reg (fun h => h rfl), State.reg_setReg_same]
  · rw [State.pdState_congr (reg_setMembers_loadShf _ _ (by decide)), ← hu, State.pdState_setPd_ne _ _ (by decide), State.pdState_setPd_same]
  · rw [State.pdState_congr (reg_setMembers_loadShf _ _ (by decide)), ← hu, State.pdState_setPd_same]

end Sys2Proof.Machine
end

section
/-! SUPPORT. S08 and S09 (R55, R56): what their commands complete with. -/

namespace Sys2Proof.Machine

section
variable {s : State}

/-! ### S08 -/

theorem imageSelect_limp (hd : s.stepDue 8 = true) (hl : s.boot.limp = true) :
    Completes .imageSelectAndVerify s (fun t => t.boot.step = 8 ∧ t.boot.limp = true) := by
  refine .next (exec_imageSelect_limp hd hl) ?_
  rw [boot_stepDone s (by decide) (by decide)]
  exact ⟨rfl, hl⟩

theorem imageSelect_noSlots (hd : s.stepDue 8 = true) (hl : s.boot.limp = false) (h : s.lcs' = 1 ∨ s.lcs' = 6) :
    Completes .imageSelectAndVerify s (fun t => t.boot.step = 8 ∧ t.boot.limp = true) := by
  refine .next (exec_imageSelect_noSlots hd hl h) ?_
  rw [boot_stepDone _ (by decide) (by decide)]
  exact ⟨rfl, rfl⟩

section
variable (hd : s.stepDue 8 = true) (hl : s.boot.limp = false) (h1 : s.lcs' ≠ 1) (h6 : s.lcs' ≠ 6)
include hd hl h1 h6

theorem imageSelect_pass (h : fullHead (s.bankRd s.startBank) s.lcs.otp = none) :
    Completes .imageSelectAndVerify s (fun t => t.boot.step = 8 ∧ t.boot.limp = false ∧
      t.boot.bank = some s.startBank) := by
  refine .next (exec_imageSelect_pass hd hl h1 h6 h) ?_
  rw [boot_stepDone _ (by decide) (by decide)]
  exact ⟨rfl, hl, rfl⟩

theorem imageSelect_failsFirst {e : ImgErr} (h : fullHead (s.bankRd s.startBank) s.lcs.otp = some e)
    (hb : s.boot.bankFail = none ∨ s.boot.bankFail = some s.startBank) :
    Completes .imageSelectAndVerify s (fun t => StepFailed s 8 8 e.code t ∧ t.boot.bankFail = some s.startBank ∧
      bits (t.reg A.shpLoaderr) 7 0 = e.code % 256) := by
  refine .next (exec_imageSelect_fail hd hl h1 h6 h) ?_
  rw [imageFails_first (s := s.withBank s.startBank) 8 e hb]
  refine ⟨stepFails_failed _ 8 e.code (by decide) (by decide) (by decide), ?_, ?_⟩
  · exact congrArg Boot.bankFail (boot_stepFails _ 8 e.code (by decide) (by decide) (by decide))
  · exact (congrArg (bits · 7 0) (reg_stepFails _ 8 e.code (by decide) (by decide) (by decide) (by decide))).trans
      (loadErr_code _ e 0)

theorem imageSelect_failsOther {e : ImgErr} (h : fullHead (s.bankRd s.startBank) s.lcs.otp = some e) {o : Nat}
    (ho : s.boot.bankFail = some o) (hne : o ≠ s.startBank) :
    Completes .imageSelectAndVerify s (fun t => t.boot.step = 8 ∧ t.boot.limp = true ∧ t.boot.failed = none) := by
  refine .next (exec_imageSelect_fail hd hl h1 h6 h) ?_
  rw [imageFails_other (s := s.withBank s.startBank) 8 e ho fun hb => hne (Option.some.inj hb).symm, if_pos rfl,
    boot_stepDone _ (by decide) (by decide), boot_loadErr_logFailure_toLimp]
  exact ⟨rfl, rfl, failed_of_stepDue hd⟩

end

/-! ### S09 -/

section
variable (hd : s.stepDue 9 = true)
include hd

theorem exec_shapeLoad_limp (hl : s.boot.limp = true) : exec .shapeLoad s = .next (s.loadLimp.stepDone 9) := by
  change execShapeLoad s = _
  simp [execShapeLoad, hd, hl]

theorem exec_shapeLoad_pass {b : Nat} (hl : s.boot.limp = false) (hb : s.boot.bank = some b)
    (h : fullBody (s.bankRd b) s.sec.root s.boot.vfsel = none) :
    exec .shapeLoad s = .next ((s.loadImage b).stepDone 9) := by
  change execShapeLoad s = _
  simp [execShapeLoad, hd, hl, hb, h]

theorem exec_shapeLoad_fail {b : Nat} {e : ImgErr} (hl : s.boot.limp = false) (hb : s.boot.bank = some b)
    (h : fullBody (s.bankRd b) s.sec.root s.boot.vfsel = some e) :
    exec .shapeLoad s = .next (if (s.imageFails 9 e).2 then (s.imageFails 9 e).1.loadLimp.stepDone 9
      else (s.imageFails 9 e).1) := by
  change execShapeLoad s = _
  simp [execShapeLoad, hd, hl, hb, h]

theorem shapeLoad_limp (hl : s.boot.limp = true) : Completes .shapeLoad s (fun t => t.boot.step = 9 ∧
    t.shp.full = false ∧ t.shp.fabric.pounds = [] ∧ t.reg A.shpStat = 8#32) := by
  have hshp : (s.loadLimp.stepDone 9).shp = limpShape := by rw [shp_stepDone _ (by decide) (by decide), shp_loadLimp]
  refine .next (exec_shapeLoad_limp hd hl) ⟨?_, ?_, ?_, ?_⟩
  · rw [boot_stepDone _ (by decide) (by decide)]
  · rw [hshp]; rfl
  · rw [hshp]; rfl
  · rw [reg_stepDone _ (by decide) (by decide) (by decide), shpStat_loadLimp]

theorem shapeLoad_pass {b : Nat} (hl : s.boot.limp = false) (hb : s.boot.bank = some b)
    (h : fullBody (s.bankRd b) s.sec.root s.boot.vfsel = none) : Completes .shapeLoad s (fun t => t.boot.step = 9 ∧
      t.shp.full = true ∧ t.shp.loaded = true ∧ t.shp.digest = imgDigest (s.bankRd b) ∧
      t.reg A.shpStat = BitVec.ofNat 32 (b * 16) ∧ t.pdState 79 = 2 ∧ t.pdState 81 = 2) := by
  obtain ⟨-, hshp, hstat, h79, h81⟩ := loadImage_spec s b
  have hshp' : ((s.loadImage b).stepDone 9).shp = s.shapeOf (s.bankRd b) := by
    rw [shp_stepDone _ (by decide) (by decide), hshp]
  have hpd : ∀ d, d ≠ 82 → d < 96 → ((s.loadImage b).stepDone 9).pdState d = (s.loadImage b).pdState d := fun d =>
    pdState_stepDone _ (by decide) (by decide)
  refine .next (exec_shapeLoad_pass hd hl hb h) ⟨?_, ?_, ?_, ?_, ?_, ?_, ?_⟩
  · rw [boot_stepDone _ (by decide) (by decide)]
  · rw [hshp']; rfl
  · rw [hshp']; rfl
  · rw [hshp']; rfl
  · rw [reg_stepDone _ (by decide) (by decide) (by decide), hstat, w32]
  · rw [hpd 79 (by decide) (by decide), h79]
  · rw [hpd 81 (by decide) (by decide), h81]

theorem shapeLoad_failsFirst {b : Nat} {e : ImgErr} (hl : s.boot.limp = false) (hb : s.boot.bank = some b)
    (h : fullBody (s.bankRd b) s.sec.root s.boot.vfsel = some e) (hf : s.boot.bankFail = none) :
    Completes .shapeLoad s (StepFailed s 9 8 e.code) := by
  refine .next (exec_shapeLoad_fail hd hl hb h) ?_
  rw [imageFails_first 9 e (.inl hf)]
  exact stepFails_failed (s.loadErr e 0) 8 e.code (by decide) (by decide) (by decide)

theorem shapeLoad_failsOther {b o : Nat} {e : ImgErr} (hl : s.boot.limp = false) (hb : s.boot.bank = some b)
    (h : fullBody (s.bankRd b) s.sec.root s.boot.vfsel = some e) (hf : s.boot.bankFail = some o) (ho : o ≠ b) :
    Completes .shapeLoad s (fun t => t.boot.step = 9 ∧ t.boot.limp = true ∧ t.shp.full = false ∧
      t.reg A.shpStat = 8#32) := by
  refine .next (exec_shapeLoad_fail hd hl hb h) ?_
  rw [imageFails_other 9 e hf (by rw [hb]; exact fun hbo => ho (Option.some.inj hbo).symm), if_pos rfl]
  refine ⟨?_, ?_, ?_, ?_⟩
  · rw [boot_stepDone _ (by decide) (by decide)]
  · rw [boot_stepDone _ (by decide) (by decide), boot_loadLimp, boot_loadErr_logFailure_toLimp]
  · rw [shp_stepDone _ (by decide) (by decide), shp_loadLimp, limpShape]
    rfl
  · rw [reg_stepDone _ (by decide) (by decide) (by decide), shpStat_loadLimp]

end
end

end Sys2Proof.Machine
end

section
/-! SUPPORT. S12 and S13, the training of the DRAM channels (R79, R404, R405, Table 3-6). -/

namespace Sys2Proof.Machine

/-! ### What a channel's training leaves -/

/-- The density of channel `x`'s memory; 0 for a channel without memory. -/
def State.density (s : State) (x : Nat) : Nat := if x = 0 then s.shp.memory.densA else s.shp.memory.densB

theorem boot_trained (s : State) (x how : Nat) (two : Bool) : (s.trained x how two).boot = s.boot := rfl

theorem drcStat_not_stepReg {x : Nat} (hx : x < 2) : ¬ StepReg (A.drcStat x) := by
  unfold StepReg A.drcStat A.bootStat A.pwrPdstat
  omega

theorem b2n_le_one (b : Bool) : b2n b ≤ 1 := by cases b <;> decide

/-- The field of DRC_STAT that shows how the channel was trained. -/
theorem bits_drcWord {rate two size how : Nat} (hr : rate < 4) (ht : two ≤ 1) (hs : size < 8) (hw : how < 4) :
    bits (w32 (rate * 8 + two * 0x20 + size * 0x40 + how * 0x200)) 10 9 = how := by
  rw [bits_w32 _ _ _ (by decide)]
  norm_num
  omega

theorem how_trained (s : State) (x : Nat) {how : Nat} (two : Bool) (hw : how < 4) (hd : s.density x < 8)
    (hr : s.boot.drspd < 4) : bits ((s.trained x how two).reg (A.drcStat x)) 10 9 = how := by
  have hrate : (if how = 2 then 2 else s.boot.drspd) < 4 := by split <;> omega
  rw [State.trained, State.reg_setCh, State.reg_setReg_same]
  exact bits_drcWord hrate (b2n_le_one two) hd hw

/-- The kept fallback of channel `x` is the one that is set. -/
theorem bit_setFall (s : State) {x : Nat} (k i : Nat) (hx : x < 2) (hi : i < 3) :
    bit (s.setFall x k).boot.fallback (1 + 3 * x + i) = decide (i = k) := by
  have h3 : 1 + 3 * x + 2 < 32 := by omega
  simp only [State.setFall, rangeFrom, List.foldl_cons, List.foldl_nil, fallBit, Nat.zero_add]
  rw [bit_setBit _ _ _ _ h3, bit_setBit _ _ _ _ (by omega), bit_setBit _ _ _ _ (by omega)]
  interval_cases i <;> simp

/-! ### The cases of a training step -/

section
variable {s : State} {x : Nat} {bad : Option (Fin 6)} {rp sl df two : Bool}

theorem exec_training (x : Fin 2) :
    exec (if x = 0 then .dramATraining bad rp sl df two else .dramBTraining bad rp sl df two) s =
      s.trainStep x bad rp sl df two := by
  fin_cases x <;> rfl

/-- A fallback of channel `x` is kept. -/
def State.fallKept (s : State) (x : Nat) : Bool :=
  bit s.boot.fallback (1 + 3 * x) || bit s.boot.fallback (1 + 3 * x + 1) || bit s.boot.fallback (1 + 3 * x + 2)

/-- The channels with stored training values, when those found differ from the stored ones (R404). -/
def State.keepValues (s : State) (x : Nat) (df : Bool) : State :=
  if df && !s.boot.train.contains x then { s with boot := { s.boot with train := s.boot.train ++ [x] } } else s

theorem fallback_keepValues (s : State) (x : Nat) (df : Bool) :
    (s.keepValues x df).boot.fallback = s.boot.fallback ∧ (s.keepValues x df).boot.drspd = s.boot.drspd ∧
      (s.keepValues x df).shp = s.shp := by
  unfold State.keepValues
  split <;> exact ⟨rfl, rfl, rfl⟩

theorem mem_train_keepValues (s : State) (x : Nat) : x ∈ (s.keepValues x true).boot.train := by
  by_cases h : x ∈ s.boot.train <;> simp [State.keepValues, h]

variable (hd : s.stepDue (12 + x) = true)
include hd

theorem trainStep_noMemory (h0 : s.density x = 0) :
    s.trainStep x bad rp sl df two = .next (s.stepDone (12 + x)) := by
  rw [State.density] at h0
  simp [State.trainStep, hd, h0]

theorem trainStep_pass (h0 : s.density x ≠ 0) (hk : s.fallKept x = false) :
    s.trainStep x none rp sl df two = .next (((s.keepValues x df).trained x 0 two).stepDone (12 + x)) := by
  rw [State.density] at h0
  rw [State.fallKept] at hk
  simp only [State.trainStep, hd, h0, fallBit, hk, State.keepValues, if_false, Bool.not_true, Bool.false_eq_true,
    Nat.add_zero]

theorem trainStep_fail {d : Fin 6} (h0 : s.density x ≠ 0) (hk : s.fallKept x = false) :
    s.trainStep x (some d) rp sl df two = .next (s.stepFails (12 + x) 0x0C (d.val + 1)) := by
  rw [State.density] at h0
  rw [State.fallKept] at hk
  simp only [State.trainStep, hd, h0, fallBit, hk, if_false, Bool.not_true, Bool.false_eq_true, Nat.add_zero]

theorem trainStep_kept (h0 : s.density x ≠ 0) (hk : s.fallKept x = true) :
    s.trainStep x bad rp sl df two = .next ((s.fallTrain x rp sl two).stepDone (12 + x)) := by
  rw [State.density] at h0
  rw [State.fallKept] at hk
  simp only [State.trainStep, hd, h0, fallBit, hk, if_false, if_true, Bool.not_true, Bool.false_eq_true, Nat.add_zero]

end

/-! ### A kept fallback -/

section
variable {s : State} {x : Nat} {rp sl two : Bool}

theorem fallTrain_replay (h0 : bit s.boot.fallback (1 + 3 * x) = true) (hm : x ∈ s.boot.train) (hr : rp = true) :
    s.fallTrain x rp sl two = s.trained x 1 two := by
  simp [State.fallTrain, fallBit, h0, hm, hr]

theorem fallTrain_slow (h2 : bit s.boot.fallback (1 + 3 * x + 2) = false) (h : x ∉ s.boot.train ∨ rp = false)
    (hs : sl = true) : s.fallTrain x rp sl two = (s.setFall x 1).trained x 2 two := by
  rcases h with h | h <;> simp [State.fallTrain, fallBit, h2, h, hs]

theorem fallTrain_disabled (h : x ∉ s.boot.train ∨ rp = false) (hs : sl = false) :
    s.fallTrain x rp sl two = s.setFall x 2 := by
  rcases h with h | h <;> simp [State.fallTrain, h, hs]

end

end Sys2Proof.Machine
end

section
/-! SUPPORT. S12 and S13: what the training commands complete with (R79, Table 3-6). -/

namespace Sys2Proof.Machine

/-- The training command of channel `x`. -/
def trainCmd (x : Fin 2) (rp sl df two : Bool) (bad : Option (Fin 6)) : Instr :=
  if x = 0 then .dramATraining bad rp sl df two else .dramBTraining bad rp sl df two

section
variable {s : State} {x : Fin 2} {rp sl df two : Bool} (hd : s.stepDue (12 + x) = true)
include hd

theorem training_noMemory (bad : Option (Fin 6)) (h0 : s.density x = 0) :
    Completes (trainCmd x rp sl df two bad) s (fun t => t.boot.step = 12 + x ∧ t.boot.fallback = s.boot.fallback) := by
  refine .next ((exec_training x).trans (trainStep_noMemory hd h0)) ?_
  rw [boot_stepDone s (by omega) (by omega)]
  exact ⟨rfl, rfl⟩

theorem training_fails (d : Fin 6) (h0 : s.density x ≠ 0) (hk : s.fallKept x = false) :
    Completes (trainCmd x rp sl df two (some d)) s (StepFailed s (12 + x) 0x0C (d.val + 1)) :=
  .next ((exec_training x).trans (trainStep_fail hd h0 hk)) (stepFails_failed s _ _ (by omega) (by omega) (by omega))

theorem training_disables (bad : Option (Fin 6)) (h0 : s.density x ≠ 0) (hk : s.fallKept x = true)
    (h : x.val ∉ s.boot.train ∨ rp = false) (hs : sl = false) :
    Completes (trainCmd x rp sl df two bad) s (fun t => t.boot.step = 12 + x ∧
      bit t.boot.fallback (3 + 3 * x) = true) := by
  refine .next ((exec_training x).trans (trainStep_kept hd h0 hk)) ?_
  rw [fallTrain_disabled h hs, boot_stepDone _ (by omega) (by omega), show 3 + 3 * x.val = 1 + 3 * x + 2 by omega]
  exact ⟨rfl, bit_setFall s 2 2 x.isLt (by decide)⟩

variable (hsz : s.density x < 8) (hr : s.boot.drspd < 4)
include hsz hr

theorem training_passes (h0 : s.density x ≠ 0) (hk : s.fallKept x = false) :
    Completes (trainCmd x rp sl df two none) s (fun t => t.boot.step = 12 + x ∧
      bits (t.reg (A.drcStat x)) 10 9 = 0 ∧ t.boot.fallback = s.boot.fallback ∧ (df = true → x.val ∈ t.boot.train)) := by
  obtain ⟨hfall, hspd, hshp⟩ := fallback_keepValues s x df
  have hdens : (s.keepValues x df).density x = s.density x := by rw [State.density, hshp, State.density]
  refine .next ((exec_training x).trans (trainStep_pass hd h0 hk)) ?_
  rw [boot_stepDone _ (by omega) (by omega), boot_trained,
    reg_stepDone _ (by omega) (by omega) (drcStat_not_stepReg x.isLt)]
  refine ⟨rfl, how_trained _ _ two (by decide) (by rwa [hdens]) (by rwa [hspd]), hfall, ?_⟩
  rintro rfl
  exact mem_train_keepValues s x

theorem training_replays (bad : Option (Fin 6)) (h0 : s.density x ≠ 0) (hk : bit s.boot.fallback (1 + 3 * x) = true)
    (hm : x.val ∈ s.boot.train) (hrp : rp = true) :
    Completes (trainCmd x rp sl df two bad) s (fun t => t.boot.step = 12 + x ∧
      bits (t.reg (A.drcStat x)) 10 9 = 1 ∧ t.boot.fallback = s.boot.fallback) := by
  refine .next ((exec_training x).trans (trainStep_kept hd h0 (by simp [State.fallKept, hk]))) ?_
  rw [fallTrain_replay hk hm hrp, boot_stepDone _ (by omega) (by omega), boot_trained,
    reg_stepDone _ (by omega) (by omega) (drcStat_not_stepReg x.isLt)]
  exact ⟨rfl, how_trained s x two (by decide) hsz hr, rfl⟩

theorem training_slows (bad : Option (Fin 6)) (h0 : s.density x ≠ 0) (hk : s.fallKept x = true)
    (h2 : bit s.boot.fallback (1 + 3 * x + 2) = false) (h : x.val ∉ s.boot.train ∨ rp = false) (hs : sl = true) :
    Completes (trainCmd x rp sl df two bad) s (fun t => t.boot.step = 12 + x ∧ bits (t.reg (A.drcStat x)) 10 9 = 2 ∧
      bit t.boot.fallback (2 + 3 * x) = true ∧ bit t.boot.fallback (1 + 3 * x) = false) := by
  refine .next ((exec_training x).trans (trainStep_kept hd h0 hk)) ?_
  rw [fallTrain_slow h2 h hs, boot_stepDone _ (by omega) (by omega), boot_trained,
    reg_stepDone _ (by omega) (by omega) (drcStat_not_stepReg x.isLt), show 2 + 3 * x.val = 1 + 3 * x + 1 by omega]
  exact ⟨rfl, how_trained _ x two (by decide) hsz hr, bit_setFall s 1 1 x.isLt (by decide),
    bit_setFall s 1 0 x.isLt (by decide)⟩

end

end Sys2Proof.Machine
end

section
/-! SUPPORT. S16 and S17 (R79, R271, R617, R622, Table 3-6). -/

namespace Sys2Proof.Machine

/-! ### Folds over the cores -/

theorem nodup_rangeFrom (n lo : Nat) : (rangeFrom n lo).Nodup := by
  induction n generalizing lo with
  | zero => exact List.nodup_nil
  | succ n ih => exact List.nodup_cons.mpr ⟨fun h => by have := mem_rangeFrom.mp h; omega, ih _⟩

/-- The first number of a range that has a property. -/
theorem find?_rangeFrom {p : Nat → Bool} {n lo k : Nat} (hlo : lo ≤ k) (hn : k < lo + n) (hk : p k = true)
    (hj : ∀ j, lo ≤ j → j < k → p j = false) : (rangeFrom n lo).find? p = some k := by
  induction n generalizing lo with
  | zero => omega
  | succ n ih =>
    rw [rangeFrom, List.find?_cons]
    rcases Nat.eq_or_lt_of_le hlo with rfl | hlt
    · rw [hk]
    · rw [hj lo le_rfl hlt]
      exact ih hlt (by omega) fun j hl => hj j (by omega)

/-- A fold of steps that each leave the state alone. -/
theorem foldl_fixed {α : Type} {f : State → α → State} {s : State} {l : List α} (h : ∀ x ∈ l, f s x = s) :
    l.foldl f s = s := by
  induction l with
  | nil => rfl
  | cons x l ih => rw [List.foldl_cons, h x (by simp), ih fun y hy => h y (by simp [hy])]

/-- A fold in which only `c` acts. -/
theorem foldl_single {f : State → Nat → State} {s : State} {l : List Nat} {c : Nat} (hl : l.Nodup) (hc : c ∈ l)
    (hs : ∀ x, x ≠ c → f s x = s) (ht : ∀ x, x ≠ c → f (f s c) x = f s c) : l.foldl f s = f s c := by
  induction l with
  | nil => cases hc
  | cons x l ih =>
    obtain ⟨hx, hl⟩ := List.nodup_cons.mp hl
    rw [List.foldl_cons]
    by_cases h : x = c
    · subst h
      exact foldl_fixed fun y hy => ht y fun hyx => hx (hyx ▸ hy)
    · rw [hs x h]
      exact ih hl ((List.mem_cons.mp hc).resolve_left (Ne.symm h))

/-! ### The kept quarantines -/

/-- Core `c` is quarantined, with its domain OFF and its bit in LKP_QUAR. -/
def State.removeCore (s : State) (c : Nat) : State :=
  ((s.setCore c { s.core c with st := .quarantined }).setPd c 0).setReg (A.lkpQuar (c / 32))
    (setBit (s.reg (A.lkpQuar (c / 32))) (c % 32) true)

/-- Core `k` serves entry `p` with its domain ON. -/
def State.enlist (s : State) (k : Nat) (p : PoundCfg) : State :=
  (s.setCore k { Core.init with st := .member, cfg := some p }).setPd k 2

theorem core_removeCore_same (s : State) (c : Nat) : ((s.removeCore c).core c).st = .quarantined := by
  rw [State.removeCore, State.core_setReg, State.setPd, State.core_setFld, State.core_setCore_same]

theorem core_removeCore_ne (s : State) {c j : Nat} (h : j ≠ c) : (s.removeCore c).core j = s.core j := by
  rw [State.removeCore, State.core_setReg, State.setPd, State.core_setFld, State.core_setCore_ne _ _ h]

theorem core_enlist_same (s : State) (k : Nat) (p : PoundCfg) :
    (s.enlist k p).core k = { Core.init with st := .member, cfg := some p } := by
  rw [State.enlist, State.setPd, State.core_setFld, State.core_setCore_same]

theorem core_enlist_ne (s : State) {k j : Nat} (p : PoundCfg) (h : j ≠ k) : (s.enlist k p).core j = s.core j := by
  rw [State.enlist, State.setPd, State.core_setFld, State.core_setCore_ne _ _ h]

theorem pdState_removeCore_same (s : State) {c : Nat} (h : c < 64) : (s.removeCore c).pdState c = 0 := by
  rw [State.removeCore, State.pdState_congr (State.reg_setReg_ne _ _ (by unfold A.pwrPdstat A.lkpQuar; omega)),
    State.pdState_setPd_same]

theorem pdState_enlist_same (s : State) (k : Nat) (p : PoundCfg) : (s.enlist k p).pdState k = 2 := by
  rw [State.enlist, State.pdState_setPd_same]

theorem pdState_enlist_ne (s : State) {k d : Nat} (p : PoundCfg) (h : d ≠ k) : (s.enlist k p).pdState d = s.pdState d := by
  rw [State.enlist, State.pdState_setPd_ne _ _ h]
  exact State.pdState_congr rfl

/-- The lowest spare core takes the place of a core that a kept quarantine removes. -/
theorem replaceCore_spare {s : State} {c k : Nat} {p : PoundCfg} (hp : (s.core c).cfg = some p) (hkc : k ≠ c)
    (hk : k < 64) (hspare : (s.core k).st = .spare) (hq : s.boot.quar.getLsbD k = false)
    (hlow : ∀ j, j < k → j ≠ c → (s.core j).st ≠ .spare) :
    s.replaceCore c = (s.removeCore c).enlist k p := by
  have hfind : (rangeFrom 64 0).find? (fun j => decide (((s.removeCore c).core j).st = .spare) &&
      !(s.removeCore c).boot.quar.getLsbD j) = some k := by
    refine find?_rangeFrom (Nat.zero_le k) (by omega) ?_ fun j _ hj => ?_
    · rw [core_removeCore_ne s hkc]
      simp only [hspare, decide_true, Bool.true_and]
      exact congrArg not hq
    · by_cases hjc : j = c
      · rw [hjc, core_removeCore_same]; rfl
      · rw [core_removeCore_ne s hjc]; simp [hlow j hj hjc]
  have hrep : s.replaceCore c = match (rangeFrom 64 0).find? (fun j => decide (((s.removeCore c).core j).st = .spare) &&
      !(s.removeCore c).boot.quar.getLsbD j), (s.core c).cfg with
    | some k, some p => (s.removeCore c).enlist k p
    | _, _ => s.removeCore c := rfl
  rw [hrep, hfind, hp]

/-- Without a kept quarantine nothing changes. -/
theorem applyQuar_none {s : State} (h : s.boot.quar = 0#64) : s.applyQuar = s :=
  foldl_fixed fun c _ => if_neg (by simp [h])

/-- With one kept quarantine only its core is replaced. -/
theorem applyQuar_single {s : State} {c : Nat} (hc : c < 64) (h : s.boot.quar = 1#64 <<< c)
    (hcfg : (s.core c).cfg.isSome = true) (hr : (s.replaceCore c).boot = s.boot) : s.applyQuar = s.replaceCore c := by
  have hbit : ∀ j, s.boot.quar.getLsbD j = decide (j = c) := by
    intro j
    rw [h]
    exact (BitVec.getLsbD_twoPow c j).trans (by simp [hc, eq_comm])
  have hact : (if s.boot.quar.getLsbD c then (if (s.core c).cfg.isSome then s.replaceCore c
      else (s.setCore c { Core.init with st := .quarantined }).setPd c 0) else s) = s.replaceCore c := by
    rw [if_pos (by simp [hbit]), if_pos hcfg]
  refine (foldl_single (nodup_rangeFrom 64 0) (mem_rangeFrom.mpr ⟨Nat.zero_le c, by omega⟩) (fun x hx => ?_)
    (fun x hx => ?_)).trans hact
  · exact if_neg (by simp [hbit, hx])
  · simp only [hact]
    exact if_neg (by rw [hr]; simp [hbit, hx])

end Sys2Proof.Machine
end

section
/-! SUPPORT. S16 and S17: what their commands complete with. -/

namespace Sys2Proof.Machine

section
variable {s : State}

/-! ### S16 -/

section
variable {bad : Option (Fin 64)} (hd : s.stepDue 16 = true)
include hd

theorem exec_selfTest_empty (he : s.applyQuar.poundEmpty = true) :
    exec (.coreSelfTestAndQuarantine bad) s = .next ((s.applyQuar.toLimp.loadLimp.stepDone 16).skipSteps [17, 18]) := by
  change execCoreSelfTestAndQuarantine bad s = _
  simp only [execCoreSelfTestAndQuarantine, hd, he, Bool.not_true, Bool.false_eq_true, if_false, if_true]

theorem exec_selfTest_pass (he : s.applyQuar.poundEmpty = false)
    (hb : ∀ c, bad = some c → (s.applyQuar.core c).st ≠ .member) :
    exec (.coreSelfTestAndQuarantine bad) s = .next (s.applyQuar.stepDone 16) := by
  have hf : bad.filter (fun c => decide ((s.applyQuar.core c).st = .member)) = none := by
    cases bad with
    | none => rfl
    | some c => exact Option.filter_some_neg (by simp [hb c rfl])
  change execCoreSelfTestAndQuarantine bad s = _
  simp only [execCoreSelfTestAndQuarantine, hd, he, hf, Bool.not_true, Bool.false_eq_true, if_false]

theorem exec_selfTest_fail {c : Fin 64} (he : s.applyQuar.poundEmpty = false) (hc : (s.applyQuar.core c).st = .member) :
    exec (.coreSelfTestAndQuarantine (some c)) s = .next (s.stepFails 16 0x10 c) := by
  have hf : (some c).filter (fun n : Nat => decide ((s.applyQuar.core n).st = .member)) = some c.val :=
    Option.filter_some_pos (by simp [hc])
  change execCoreSelfTestAndQuarantine (some c) s = _
  simp only [execCoreSelfTestAndQuarantine, hd, he, hf, Bool.not_true, Bool.false_eq_true, if_false]

theorem selfTest_pass (hq : s.boot.quar = 0#64) (he : s.poundEmpty = false)
    (hb : ∀ c, bad = some c → (s.core c).st ≠ .member) :
    Completes (.coreSelfTestAndQuarantine bad) s (fun t => t.boot.step = 16 ∧ t.cores = s.cores) := by
  have ha := applyQuar_none hq
  refine .next (exec_selfTest_pass hd (by rw [ha]; exact he) (by rw [ha]; exact hb)) ?_
  rw [ha, boot_stepDone s (by decide) (by decide), cores_stepDone s (by decide) (by decide)]
  exact ⟨rfl, rfl⟩

theorem selfTest_fail {c : Fin 64} (hq : s.boot.quar = 0#64) (he : s.poundEmpty = false)
    (hc : (s.core c).st = .member) :
    Completes (.coreSelfTestAndQuarantine (some c)) s (StepFailed s 16 0x10 c.val) := by
  have ha := applyQuar_none hq
  exact .next (exec_selfTest_fail hd (by rw [ha]; exact he) (by rw [ha]; exact hc))
    (stepFails_failed s 0x10 c.val (by decide) (by decide) (by decide))

theorem selfTest_empty (he : s.applyQuar.poundEmpty = true) :
    Completes (.coreSelfTestAndQuarantine bad) s (fun t => t.boot.limp = true ∧ t.boot.step = 16 ∧
      t.shp.full = false) := by
  refine .next (exec_selfTest_empty hd he) ?_
  have hs := skipSteps_frame (s.applyQuar.toLimp.loadLimp.stepDone 16) [17, 18]
  rw [hs.boot, hs.shp, boot_stepDone _ (by decide) (by decide), shp_stepDone _ (by decide) (by decide), boot_loadLimp,
    shp_loadLimp]
  exact ⟨rfl, rfl, rfl⟩

theorem selfTest_replaces {c k : Fin 64} {p : PoundCfg} (hq : s.boot.quar = 1#64 <<< c.val)
    (hp : (s.core c).cfg = some p) (hkc : k ≠ c) (hk : (s.core k).st = .spare)
    (hlow : ∀ j, j < k.val → j ≠ c.val → (s.core j).st ≠ .spare) (he : s.applyQuar.poundEmpty = false) :
    Completes (.coreSelfTestAndQuarantine none) s (fun t => t.boot.step = 16 ∧ (t.core c).st = .quarantined ∧
      (t.core k).st = .member ∧ (t.core k).cfg = some p ∧ t.pdState c = 0 ∧ t.pdState k = 2 ∧
      ∀ j, j ≠ k.val → j ≠ c.val → t.core j = s.core j) := by
  have hkc' : k.val ≠ c.val := fun h => hkc (Fin.ext h)
  have hqk : s.boot.quar.getLsbD k = false := by
    rw [hq]
    exact (BitVec.getLsbD_twoPow c.val k.val).trans (by simp [Ne.symm hkc'])
  have hr := replaceCore_spare hp hkc' k.isLt hk hqk hlow
  have ha : s.applyQuar = (s.removeCore c).enlist k p :=
    (applyQuar_single c.isLt hq (by rw [hp]; rfl) (by rw [hr]; rfl)).trans hr
  refine .next (exec_selfTest_pass hd he fun _ h => nomatch h) ?_
  rw [ha]
  have hcore : ∀ j, (((s.removeCore c).enlist k p).stepDone 16).core j = ((s.removeCore c).enlist k p).core j := fun j =>
    congrArg (SMap.get (fun _ => Core.init) · j) (cores_stepDone _ (by decide) (by decide))
  refine ⟨by rw [boot_stepDone _ (by decide) (by decide)], ?_, ?_, ?_, ?_, ?_, fun j hjk hjc => ?_⟩
  · rw [hcore, core_enlist_ne _ _ (Ne.symm hkc'), core_removeCore_same]
  · rw [hcore, core_enlist_same]
  · rw [hcore, core_enlist_same]
  · rw [pdState_stepDone _ (by decide) (by decide) (by omega) (by omega), pdState_enlist_ne _ _ (Ne.symm hkc'),
      pdState_removeCore_same _ c.isLt]
  · rw [pdState_stepDone _ (by decide) (by decide) (by omega) (by omega), pdState_enlist_same]
  · rw [hcore, core_enlist_ne _ _ hjk, core_removeCore_ne _ hjc]

end

/-! ### S17 -/

/-- The state whose calibration table is `cal`. -/
def State.calibrated (s : State) (cal : List (List (BitVec 16))) : State :=
  { s with pwr := { s.pwr with cal := calMap cal } }

/-- PWR_VCORE after a setting of `v` mV. -/
theorem vcore_setVcore (s : State) {v : Nat} (fixed : Bool) (hv : v < 1024) :
    bits ((s.setVcore v fixed).reg A.pwrVcore) 9 0 = v ∧ bit ((s.setVcore v fixed).reg A.pwrVcore) 31 = fixed := by
  have hw : (s.setVcore v fixed).reg A.pwrVcore = w32 (v + v * 0x10000 + b2n fixed * 0x80000000) :=
    State.reg_setReg_same s _ _
  rw [hw]
  refine ⟨(bits_w32 _ _ _ (by decide)).trans ?_, (bit_w32 _ _ (by decide)).trans ?_⟩
  · change (v + v * 0x10000 + b2n fixed * 0x80000000) / 1 % 1024 = v
    omega
  · change decide ((v + v * 0x10000 + b2n fixed * 0x80000000) / 0x80000000 % 2 = 1) = fixed
    have hdiv : (v + v * 0x10000 + b2n fixed * 0x80000000) / 0x80000000 = b2n fixed := by omega
    rw [hdiv]
    cases fixed <;> rfl

section
variable {cal : List (List (BitVec 16))} {bad : Option (Fin 64)} (hd : s.stepDue 17 = true)
include hd

theorem exec_calibration_held (hf : bit s.boot.fallback 7 = true) :
    exec (.governorCalibration cal bad) s = .next ((s.setVcore s.shp.power.vcMax true).stepDone 17) := by
  change execGovernorCalibration cal bad s = _
  simp only [execGovernorCalibration, hd, hf, Bool.not_true, Bool.false_eq_true, if_false, if_true]

theorem exec_calibration_fail {c : Fin 64} (hf : bit s.boot.fallback 7 = false) :
    exec (.governorCalibration cal (some c)) s = .next (s.stepFails 17 0x11 c) := by
  change execGovernorCalibration cal (some c) s = _
  simp only [execGovernorCalibration, hd, hf, Bool.not_true, Bool.false_eq_true, if_false]

theorem exec_calibration_pass (hf : bit s.boot.fallback 7 = false) : exec (.governorCalibration cal none) s =
    .next (((s.calibrated cal).setVcore s.shp.power.vcInit false).stepDone 17) := by
  change execGovernorCalibration cal none s = _
  simp only [execGovernorCalibration, hd, hf, Bool.not_true, Bool.false_eq_true, if_false]
  rfl

theorem calibration_held (hf : bit s.boot.fallback 7 = true) (hv : s.shp.power.vcMax < 1024) :
    Completes (.governorCalibration cal bad) s (fun t => t.boot.step = 17 ∧
      bits (t.reg A.pwrVcore) 9 0 = s.shp.power.vcMax ∧ bit (t.reg A.pwrVcore) 31 = true) := by
  refine .next (exec_calibration_held hd hf) ?_
  rw [boot_stepDone _ (by decide) (by decide), reg_stepDone _ (by decide) (by decide) (by decide)]
  exact ⟨rfl, vcore_setVcore s true hv⟩

theorem calibration_fails (c : Fin 64) (hf : bit s.boot.fallback 7 = false) :
    Completes (.governorCalibration cal (some c)) s (StepFailed s 17 0x11 c.val) :=
  .next (exec_calibration_fail hd hf) (stepFails_failed s 0x11 c.val (by decide) (by decide) (by decide))

theorem calibration_passes (hf : bit s.boot.fallback 7 = false) (hv : s.shp.power.vcInit < 1024) :
    Completes (.governorCalibration cal none) s (fun t => t.boot.step = 17 ∧ t.pwr.cal = calMap cal ∧
      bits (t.reg A.pwrVcore) 9 0 = s.shp.power.vcInit ∧ bit (t.reg A.pwrVcore) 31 = false) := by
  refine .next (exec_calibration_pass hd hf) ?_
  rw [boot_stepDone _ (by decide) (by decide), pwr_stepDone _ (by decide) (by decide),
    reg_stepDone _ (by decide) (by decide) (by decide)]
  exact ⟨rfl, rfl, vcore_setVcore _ false hv⟩

end
end

end Sys2Proof.Machine
end

section
/-! SUPPORT. S19 (R83, R555, R571, R579, R601): pending bits stay set, and what the start of the secure world leaves. -/

namespace Sys2Proof.Machine

/-! ### Pending bits -/

section
variable {s t u : State} {e f : Nat}

/-- A pending bit stands in its register. -/
theorem Raised.congr (h : t.reg (A.evrPend (f / 32)) = s.reg (A.evrPend (f / 32))) (hr : Raised s f) : Raised t f := by
  unfold Raised at hr ⊢
  rwa [h]

theorem raised_recordRaise_self (s : State) (he : e < 768) : Raised (s.recordRaise e) e := by
  unfold Raised
  rw [State.recordRaise_pend s e he, bit_setBit _ _ _ _ (by omega), if_pos rfl]

/-- Recording a raise keeps every pending bit. -/
theorem Raised.recordRaise (hr : Raised s f) (he : e < 768) (hf : f < 768) : Raised (s.recordRaise e) f := by
  by_cases hp : f / 32 = e / 32
  · unfold Raised at hr ⊢
    rw [hp, State.recordRaise_pend s e he, bit_setBit _ _ _ _ (by omega), ← hp, hr]
    split <;> rfl
  · refine hr.congr ?_
    rw [recordRaise_eq, State.reg_count, State.reg_setReg_ne _ _ (by unfold A.evrPend A.evrCount; omega),
      State.reg_setReg_ne _ _ (by unfold A.evrPend; omega)]

theorem reg_raiseOne_eq (s : State) (e a : Nat) : (s.raiseOne e).reg a = (s.recordRaise e).reg a := by
  unfold State.raiseOne
  simp only
  split <;> simp

theorem raised_raiseOne_self (s : State) (he : e < 768) : Raised (s.raiseOne e) e :=
  (raised_recordRaise_self s he).congr (reg_raiseOne_eq s e _)

theorem Raised.raiseOne (hr : Raised s f) (he : e < 768) (hf : f < 768) : Raised (s.raiseOne e) f :=
  (hr.recordRaise he hf).congr (reg_raiseOne_eq s e _)

/-- Setting EVR_SECNOTE keeps every pending bit. -/
theorem Raised.setSecnote (hr : Raised s f) (v : W32) (hf : f < 768) : Raised (s.setReg A.evrSecnote v) f :=
  hr.congr (State.reg_setReg_ne s v (by unfold A.evrPend A.evrSecnote; omega))

theorem raised_raiseMirror_self (s : State) (he : e < 768) : Raised (s.raiseMirror e) e := by
  have h := raised_raiseOne_self s he
  unfold State.raiseMirror
  simp only
  split
  · exact (h.setSecnote _ he).raiseOne (by decide) he
  · exact h

theorem Raised.raiseMirror (hr : Raised s f) (he : e < 768) (hf : f < 768) : Raised (s.raiseMirror e) f := by
  have h := hr.raiseOne he hf
  unfold State.raiseMirror
  simp only
  split
  · exact (h.setSecnote _ hf).raiseOne (by decide) hf
  · exact h

theorem Raised.raiseFirst0 (hr : Raised s f) (he : e < 768) (hf : f < 768) : Raised (s.raiseFirst0 e) f := by
  unfold State.raiseFirst0
  split
  · exact hr
  · exact Raised.raiseMirror (s := { s with once := s.once ++ [e] }) hr he hf

theorem Raised.tokenWatch (hr : Raised s f) (before : W64) (hf : f < 768) : Raised (s.tokenWatch before) f := by
  have h1 := hr.raiseFirst0 (e := 384) (by decide) hf
  unfold State.tokenWatch
  simp only
  split <;> split
  · exact h1.raiseFirst0 (by decide) hf
  · exact h1
  · exact hr.raiseFirst0 (by decide) hf
  · exact hr

/-- A raise sets the event's pending bit (R539). -/
theorem raised_raise_self (s : State) (he : e < 768) : Raised (s.raise e) e :=
  (raised_raiseMirror_self s he).tokenWatch _ he

/-- A raise keeps every pending bit. -/
theorem Raised.raise (hr : Raised s f) (he : e < 768) (hf : f < 768) : Raised (s.raise e) f :=
  (hr.raiseMirror he hf).tokenWatch _ hf

/-! ### Operations that only raise events -/

/-- `t` differs from `s` by raised events: no pending bit is cleared, and no register outside EVR changes. -/
structure Signals (s t : State) : Prop where
  frame : EventFrame s t
  pend : ∀ f, f < 768 → Raised s f → Raised t f
  reg : ∀ a, ¬ evrKey a → t.reg a = s.reg a

theorem Signals.refl (s : State) : Signals s s := ⟨.refl s, fun _ _ h => h, fun _ _ => rfl⟩

theorem Signals.trans (h : Signals s t) (k : Signals t u) : Signals s u :=
  ⟨h.frame.trans k.frame, fun f hf hr => k.pend f hf (h.pend f hf hr), fun a ha => (k.reg a ha).trans (h.reg a ha)⟩

theorem Signals.raise (s : State) (he : e < 768) : Signals s (s.raise e) :=
  ⟨frame_raise s e, fun _ hf hr => hr.raise he hf, fun _ ha => State.reg_raise s he ha⟩

theorem Signals.raiseIf (s : State) (c : Prop) [Decidable c] (he : e < 768) :
    Signals s (if c then s.raise e else s) := by
  split
  · exact .raise s he
  · exact .refl s

theorem raised_raiseIf (s : State) {c : Prop} [Decidable c] (hc : c) (he : e < 768) :
    Raised (if c then s.raise e else s) e := by
  rw [if_pos hc]
  exact raised_raise_self s he

end

/-! ### S19 -/

/-- The warden with its images, running (R555). -/
def State.wardenRuns (s : State) : State :=
  let x := s.shp.secure
  let s1 := ((s.writeBytes (kIram 64) (padTo 0x8000 x.wardenI)).writeBytes (kDram 64) (padTo 0x4000 x.wardenD)).writeBytes
    kImageStore (padTo 0x4000 x.wardenD)
  (s1.setFld A.secNstat 4 4 1).startWarden

/-- A new root thread changes the lockkeeper only. -/
theorem rootThread_keeps {β : Type} (p : State → β) (hp : ∀ (u : State) (l : Lk), p { u with lk := l } = p u) (s : State)
    (prog entry : Nat) : p (s.rootThread prog entry) = p s := by
  unfold State.rootThread
  split
  · rfl
  · exact hp s _

/-- The warden's start changes the lockkeeper and memory only. -/
theorem startWarden_keeps {β : Type} (p : State → β) (hp : ∀ (u : State) (l : Lk), p { u with lk := l } = p u)
    (hm : ∀ (u : State) (k : Nat) (bs : List Byte), p (u.writeBytes k bs) = p u) (s : State) :
    p s.startWarden = p s := by
  unfold State.startWarden
  split
  · rfl
  · exact (rootThread_keeps p hp _ _ _).trans (hm s _ _)

theorem wardenRuns_keeps {β : Type} (p : State → β) (hp : ∀ (u : State) (l : Lk), p { u with lk := l } = p u)
    (hm : ∀ (u : State) (k : Nat) (bs : List Byte), p (u.writeBytes k bs) = p u)
    (hf : ∀ u : State, p (u.setFld A.secNstat 4 4 1) = p u) (s : State) : p s.wardenRuns = p s := by
  unfold State.wardenRuns
  exact (startWarden_keeps p hp hm _).trans
    ((hf _).trans ((hm _ _ _).trans ((hm _ _ _).trans (hm _ _ _))))

theorem reg_wardenRuns_ne (s : State) {a : Nat} (h : a ≠ A.secNstat) : s.wardenRuns.reg a = s.reg a :=
  wardenRuns_keeps (fun u => u.reg a) (fun _ _ => rfl) (fun _ _ _ => rfl) (fun u => State.reg_setFld_ne u 4 4 1 h) s

theorem secNstat_wardenRuns (s : State) : bit (s.wardenRuns.reg A.secNstat) 4 = true := by
  unfold State.wardenRuns
  refine (congrArg (bit · 4) (startWarden_keeps (fun u => u.reg A.secNstat) (fun _ _ => rfl) (fun _ _ _ => rfl) _)).trans ?_
  rw [State.reg_setFld_same, bit_setBits _ _ _ _ _ (by decide)]
  rfl

/-- The watchdog ends at TB time `n` (R579). -/
def State.wdAt (s : State) (n : Nat) : State := { s with sec := { s.sec with wdEnd := n } }

@[simp] theorem boot_wdAt (s : State) (n : Nat) : (s.wdAt n).boot = s.boot := rfl
@[simp] theorem reg_wdAt (s : State) (n a : Nat) : (s.wdAt n).reg a = s.reg a := rfl
@[simp] theorem sec_wdAt (s : State) (n : Nat) : (s.wdAt n).sec = { s.sec with wdEnd := n } := rfl

/-- No tamper waits for the warden any more (R571). -/
def State.tamperSeen (s : State) : State := { s with sec := { s.sec with lateTamper := false } }

@[simp] theorem reg_tamperSeen (s : State) (a : Nat) : s.tamperSeen.reg a = s.reg a := rfl
@[simp] theorem sec_tamperSeen (s : State) : s.tamperSeen.sec = { s.sec with lateTamper := false } := rfl

/-- The events that waited for the warden are raised (R571, R601). -/
def State.lateEvents (s : State) : State :=
  let s4 := if s.sec.lateTamper then (s.tamperSeen.raise 726).raise 727 else s
  let s5 := if s4.boot.fellBack then s4.raise 739 else s4
  if bit s5.boot.fallback 0 ∧ !s5.boot.limp then s5.raise 742 else s5

theorem startSecure_eq (s : State) :
    s.startSecure = (s.wardenRuns.wdAt (s.wardenRuns.time + s.wardenRuns.wdPeriod)).lateEvents := rfl

theorem tamperSeen_of_none {s : State} (h : s.sec.lateTamper = false) : s.tamperSeen = s := by
  unfold State.tamperSeen
  rw [← h]

/-- The events that waited for the warden are raised, and nothing else changes but the tamper that waited. -/
theorem lateEvents_spec (s : State) :
    Signals s.tamperSeen s.lateEvents ∧
      (s.sec.lateTamper = true → Raised s.lateEvents 726 ∧ Raised s.lateEvents 727) ∧
      (s.boot.fellBack = true → Raised s.lateEvents 739) ∧
      (bit s.boot.fallback 0 = true → s.boot.limp = false → Raised s.lateEvents 742) := by
  unfold State.lateEvents
  extract_lets s4 s5
  have h4 : Signals s.tamperSeen s4 ∧ (s.sec.lateTamper = true → Raised s4 726 ∧ Raised s4 727) := by
    by_cases h : s.sec.lateTamper = true
    · have hs4 : s4 = (s.tamperSeen.raise 726).raise 727 := if_pos h
      rw [hs4]
      exact ⟨(Signals.raise _ (by decide)).trans (.raise _ (by decide)), fun _ =>
        ⟨(raised_raise_self _ (by decide)).raise (by decide) (by decide), raised_raise_self _ (by decide)⟩⟩
    · have hs4 : s4 = s := if_neg h
      rw [hs4, tamperSeen_of_none (eq_false_of_ne_true h)]
      exact ⟨.refl _, fun ht => absurd ht h⟩
  obtain ⟨h4, h4r⟩ := h4
  have h5 : Signals s4 s5 := .raiseIf s4 _ (by decide)
  have h6 := Signals.raiseIf s5 (bit s5.boot.fallback 0 = true ∧ (!s5.boot.limp) = true) (e := 742) (by decide)
  have hb4 : s4.boot = s.boot := h4.frame.boot
  have hb5 : s5.boot = s.boot := h5.frame.boot.trans hb4
  refine ⟨(h4.trans h5).trans h6, fun ht => ?_, fun hf => ?_, fun h0 hl => ?_⟩
  · exact ⟨(h5.trans h6).pend _ (by decide) (h4r ht).1, (h5.trans h6).pend _ (by decide) (h4r ht).2⟩
  · exact h6.pend _ (by decide) (raised_raiseIf s4 (by rw [hb4]; exact hf) (by decide))
  · exact raised_raiseIf s5 (by rw [hb5]; exact ⟨h0, by rw [hl]; rfl⟩) (by decide)

/-! ### The clauses of S19 -/

section
variable {s : State}

theorem secureWorld_continues (hd : s.stepDue 19 = true) (hl : s.boot.limp = true) (d : BitVec 16) :
    Completes (.secureWorldStart (some d)) s (fun t => t.boot.step = 19 ∧ t.sec = s.sec) := by
  refine ⟨s.stepDone 19, ?_, ?_, sec_stepDone s (by decide) (by decide)⟩
  · show execSecureWorldStart (some d) s = _
    simp only [execSecureWorldStart, hd, hl, Bool.not_true, Bool.false_eq_true, if_false, if_true]
  · rw [boot_stepDone s (by decide) (by decide)]

theorem secureWorld_fails (hd : s.stepDue 19 = true) (hl : s.boot.limp = false) (d : BitVec 16) :
    Completes (.secureWorldStart (some d)) s (StepFailed s 19 0x13 d.toNat) := by
  refine ⟨s.stepFails 19 0x13 d.toNat, ?_, stepFails_failed s _ _ (by decide) (by decide) (by decide)⟩
  show execSecureWorldStart (some d) s = _
  simp only [execSecureWorldStart, hd, hl, Bool.not_true, Bool.false_eq_true, if_false]

theorem boot_wardenRuns (s : State) : s.wardenRuns.boot = s.boot :=
  wardenRuns_keeps (·.boot) (fun _ _ => rfl) (fun _ _ _ => rfl) (fun _ => rfl) s

theorem sec_wardenRuns (s : State) : s.wardenRuns.sec = s.sec :=
  wardenRuns_keeps (·.sec) (fun _ _ => rfl) (fun _ _ _ => rfl) (fun _ => rfl) s

theorem tb_wardenRuns (s : State) : s.wardenRuns.tb = s.tb :=
  wardenRuns_keeps (·.tb) (fun _ _ => rfl) (fun _ _ _ => rfl) (fun _ => rfl) s

theorem wdPeriod_eq (s : State) : s.wdPeriod = bits (s.reg A.secWdcfg) 13 0 * 1000000 := by
  rw [State.wdPeriod, State.fld]

/-- The moment at which the watchdog ends when it starts now. -/
theorem wdEnd_wardenRuns (s : State) :
    s.wardenRuns.time + s.wardenRuns.wdPeriod = s.time + bits (s.reg A.secWdcfg) 13 0 * 1000000 := by
  rw [wdPeriod_eq, reg_wardenRuns_ne s (by decide), State.time, State.time, tb_wardenRuns]

theorem Raised.stepDone {f : Nat} (hr : Raised s f) (hf : f < 768) : Raised (s.stepDone 19) f :=
  hr.congr (reg_stepDone s (by decide) (by decide) (by unfold StepReg A.bootStat A.pwrPdstat A.evrPend; omega))

theorem secureWorld_starts (hd : s.stepDue 19 = true) :
    Completes (.secureWorldStart none) s (fun t => t.boot.step = 19 ∧ bit (t.reg A.secNstat) 4 = true ∧
      t.sec.wdEnd = s.time + bits (s.reg A.secWdcfg) 13 0 * 1000000 ∧
      (s.sec.lateTamper = true → t.sec.lateTamper = false ∧ Raised t 726 ∧ Raised t 727) ∧
      (s.boot.fellBack = true → Raised t 739) ∧
      (bit s.boot.fallback 0 = true → s.boot.limp = false → Raised t 742)) := by
  have heq : exec (.secureWorldStart none) s = .next (s.startSecure.stepDone 19) := by
    show execSecureWorldStart none s = _
    simp only [execSecureWorldStart, hd, Bool.not_true, Bool.false_eq_true, if_false]
  rw [startSecure_eq, wdEnd_wardenRuns] at heq
  generalize s.time + bits (s.reg A.secWdcfg) 13 0 * 1000000 = n at heq ⊢
  obtain ⟨hsig, htamper, hfell, hother⟩ := lateEvents_spec (s.wardenRuns.wdAt n)
  rw [boot_wdAt, boot_wardenRuns] at hfell hother
  have hlate : (s.wardenRuns.wdAt n).sec.lateTamper = s.sec.lateTamper := by rw [sec_wdAt, sec_wardenRuns]
  rw [hlate] at htamper
  have hsec : ((s.wardenRuns.wdAt n).lateEvents.stepDone 19).sec = { s.sec with wdEnd := n, lateTamper := false } := by
    rw [sec_stepDone _ (by decide) (by decide), hsig.frame.sec, sec_tamperSeen, sec_wdAt, sec_wardenRuns]
  have hnstat : ¬ evrKey A.secNstat := by unfold evrKey A.secNstat; omega
  refine ⟨_, heq, ?_, ?_, ?_, fun h => ⟨?_, ?_⟩, fun h => (hfell h).stepDone (by decide),
    fun h0 hl => (hother h0 hl).stepDone (by decide)⟩
  · rw [boot_stepDone _ (by decide) (by decide)]
  · rw [reg_stepDone _ (by decide) (by decide) (by decide), hsig.reg _ hnstat, reg_tamperSeen, reg_wdAt]
    exact secNstat_wardenRuns s
  · rw [hsec]
  · rw [hsec]
  · exact ⟨(htamper h).1.stepDone (by decide), (htamper h).2.stepDone (by decide)⟩

end

end Sys2Proof.Machine
end

section
/-! SUPPORT. S20 (R70, R84, R92): what the last step of a start shows, and what it starts. -/

namespace Sys2Proof.Machine

/-! ### What the operations of S20 keep -/

/-- `t` differs from `s` at most in registers of `P` and in what no clause of S20 reads: the start controller, TB time,
the shape and the channels' fills stay. -/
structure Proceeds (P : Nat → Prop) (s t : State) : Prop where
  boot : t.boot = s.boot
  tb : t.tb = s.tb
  shp : t.shp = s.shp
  fills : ∀ x, (t.ch x).fills = (s.ch x).fills
  reg : ∀ a, ¬ P a → t.reg a = s.reg a

section
variable {P Q : Nat → Prop} {s t u : State}

theorem Proceeds.refl (s : State) : Proceeds P s s := ⟨rfl, rfl, rfl, fun _ => rfl, fun _ _ => rfl⟩

theorem Proceeds.trans (h : Proceeds P s t) (k : Proceeds P t u) : Proceeds P s u :=
  ⟨k.boot.trans h.boot, k.tb.trans h.tb, k.shp.trans h.shp, fun x => (k.fills x).trans (h.fills x),
    fun a ha => (k.reg a ha).trans (h.reg a ha)⟩

theorem Proceeds.mono (h : Proceeds P s t) (hp : ∀ a, P a → Q a) : Proceeds Q s t :=
  ⟨h.boot, h.tb, h.shp, h.fills, fun a ha => h.reg a fun hpa => ha (hp a hpa)⟩

theorem Proceeds.setReg (s : State) {a : Nat} (v : W32) (ha : P a) : Proceeds P s (s.setReg a v) :=
  ⟨rfl, rfl, rfl, fun _ => rfl, fun _ hb => State.reg_setReg_ne s v fun h => hb (h ▸ ha)⟩

theorem Proceeds.setFld (s : State) {a : Nat} (hi lo v : Nat) (ha : P a) : Proceeds P s (s.setFld a hi lo v) :=
  .setReg s _ ha

theorem Proceeds.writeBytes (s : State) (k : Nat) (bs : List Byte) : Proceeds P s (s.writeBytes k bs) :=
  ⟨rfl, rfl, rfl, fun _ => rfl, fun _ _ => rfl⟩

theorem Proceeds.setChan (s : State) (n : Nat) (x : ShfChan) : Proceeds P s (s.setChan n x) :=
  ⟨rfl, rfl, rfl, fun _ => rfl, fun _ _ => rfl⟩

/-- A channel that keeps its fills. -/
theorem Proceeds.setCh (s : State) {x : Nat} {c : DramCh} (hc : c.fills = (s.ch x).fills) : Proceeds P s (s.setCh x c) := by
  refine ⟨rfl, rfl, rfl, fun y => ?_, fun _ _ => rfl⟩
  by_cases h : y = x
  · subst h
    rw [State.ch_setCh_same, hc]
  · rw [State.ch_setCh_ne _ _ h]

theorem Proceeds.raise (s : State) {e : Nat} (he : e < 768) (hP : ∀ a, evrKey a → P a) : Proceeds P s (s.raise e) := by
  have hf := frame_raise s e
  refine ⟨hf.boot, hf.tb, hf.shp, fun x => ?_, fun a ha => State.reg_raise s he fun h => ha (hP a h)⟩
  rw [State.ch, State.ch, hf.drc]

theorem Proceeds.foldl {α : Type} (f : State → α → State) (l : List α) (hf : ∀ u, ∀ x ∈ l, Proceeds P u (f u x))
    (s : State) : Proceeds P s (l.foldl f s) := by
  induction l generalizing s with
  | nil => exact .refl s
  | cons x l ih => exact (hf s x (by simp)).trans (ih (fun u y hy => hf u y (by simp [hy])) _)

end

/-- A new root thread keeps every register. -/
theorem rootThread_proceeds {P : Nat → Prop} (s : State) (prog entry : Nat) : Proceeds P s (s.rootThread prog entry) :=
  ⟨rootThread_keeps (·.boot) (fun _ _ => rfl) s _ _, rootThread_keeps (·.tb) (fun _ _ => rfl) s _ _,
    rootThread_keeps (·.shp) (fun _ _ => rfl) s _ _,
    fun x => rootThread_keeps (fun u => (u.ch x).fills) (fun _ _ => rfl) s _ _,
    fun a _ => rootThread_keeps (·.reg a) (fun _ _ => rfl) s _ _⟩

theorem loadCore_proceeds {P : Nat → Prop} (s : State) (c : Nat) (p : ProgCfg) : Proceeds P s (s.loadCore c p) :=
  (Proceeds.writeBytes s _ _).trans (.writeBytes _ _ _)

theorem startCores_proceeds {P : Nat → Prop} (s : State) : Proceeds P s s.startCores := by
  unfold State.startCores
  refine (Proceeds.foldl _ _ (fun u c _ => ?_) s).trans (.foldl _ _ (fun u i _ => ?_) _)
  · split
    · exact loadCore_proceeds _ _ _
    · exact .refl _
  · split
    · exact rootThread_proceeds _ _ _
    · exact .refl _

/-- The registers that the start of the shift engine may write. -/
abbrev ShfStartReg (a : Nat) : Prop := evrKey a ∨ a = A.shfDrain ∨ a = A.shfBankstat

theorem drained_proceeds (s : State) (n : Nat) : Proceeds ShfStartReg s (s.drained n) := by
  unfold State.drained
  split
  · have h1 : Proceeds ShfStartReg s (s.setReg A.shfDrain (setBit (s.reg A.shfDrain) n false)) :=
      .setReg s _ (.inr (.inl rfl))
    simp only
    split
    · exact (h1.trans (.setFld _ _ _ _ (.inr (.inr rfl)))).trans (.raise _ (by decide) fun _ h => .inl h)
    · exact h1
  · exact .refl s

theorem startShf_proceeds (s : State) : Proceeds ShfStartReg s s.startShf := by
  unfold State.startShf
  refine .foldl _ _ (fun u n _ => ?_) s
  split
  · exact (Proceeds.setChan u n _).trans (drained_proceeds _ n)
  · exact .refl u

/-! ### The memory channels -/

theorem channelUp_iff (s : State) (x : Nat) : s.channelUp x = true ↔
    (if x = 0 then s.shp.memory.densA else s.shp.memory.densB) ≠ 0 ∧ bit s.boot.fallback (3 + 3 * x) = false ∧
      s.boot.limp = false := by
  rw [show 3 + 3 * x = fallBit x 2 by unfold fallBit; omega]
  simp only [State.channelUp, Bool.and_eq_true, decide_eq_true_eq, Bool.not_eq_true', and_assoc]

/-- The registers that the start of channel `x` may write. -/
abbrev ChannelReg (x a : Nat) : Prop := evrKey a ∨ a = A.drcStat x

theorem startChannel_proceeds (s : State) {x : Nat} (hx : x < 2) : Proceeds (ChannelReg x) s (s.startChannel x) := by
  unfold State.startChannel
  split
  · exact .refl s
  · have h1 : Proceeds (ChannelReg x) s (s.setFld (A.drcStat x) 2 0 (if (s.ch x).fills = [] then 1 else 4)) :=
      .setFld s _ _ _ (.inr rfl)
    have h2 := h1.trans (.setCh _ (x := x) (c := { (State.setFld s (A.drcStat x) 2 0
      (if (s.ch x).fills = [] then 1 else 4)).ch x with
        idleSince := (State.setFld s (A.drcStat x) 2 0 (if (s.ch x).fills = [] then 1 else 4)).time }) rfl)
    simp only
    split
    · exact h2.trans (.raise _ (by omega) fun _ h => .inl h)
    · exact h2

/-- A channel in service is ACTIVE, or FILLING when it has fills to do. -/
theorem drcStat_startChannel (s : State) {x : Nat} (hx : x < 2) (hup : s.channelUp x = true) :
    bits ((s.startChannel x).reg (A.drcStat x)) 2 0 = if (s.ch x).fills = [] then 1 else 4 := by
  have hk : ¬ evrKey (A.drcStat x) := by unfold evrKey A.drcStat; omega
  have h1 : bits ((s.setFld (A.drcStat x) 2 0 (if (s.ch x).fills = [] then 1 else 4)).reg (A.drcStat x)) 2 0 =
      if (s.ch x).fills = [] then 1 else 4 := by
    rw [State.reg_setFld_same, bits_setBits_same _ _ _ _ (by decide)]
    split <;> rfl
  unfold State.startChannel
  rw [hup]
  simp only [Bool.not_true, Bool.false_eq_true, if_false]
  split
  · rw [State.reg_raise _ (by omega) hk]
    exact h1
  · exact h1

/-! ### TOP_CAPS -/

theorem b2n_eq_one_iff (b : Bool) : b2n b = 1 ↔ b = true := by cases b <;> decide

/-- The cores and lanes of TOP_CAPS fill its low half, and none are in a limp start. -/
theorem capsWord_eq (s : State) : ∃ low, low < 0x10000 ∧ (s.boot.limp = true → low = 0) ∧
    s.capsWord = w32 (low + b2n (s.channelUp 0) * 0x10000 + b2n (s.channelUp 1) * 0x20000 + b2n s.boot.limp * 0x40000) := by
  refine ⟨_, ?_, fun hl => ?_, rfl⟩
  · have hc := List.length_filter_le (fun c => decide ((s.core c).st ≠ .quarantined)) (rangeFrom 64 0)
    rw [length_rangeFrom] at hc
    split <;> omega
  · simp only [hl, if_true]

/-- TOP_CAPS shows a limp start and the channels in service. -/
theorem capsWord_bits (s : State) : (bit s.capsWord 18 = true ↔ s.boot.limp = true) ∧
    (bit s.capsWord 16 = true ↔ s.channelUp 0 = true) ∧ (bit s.capsWord 17 = true ↔ s.channelUp 1 = true) := by
  obtain ⟨low, hlow, -, h⟩ := capsWord_eq s
  have h0 := b2n_le_one (s.channelUp 0)
  have h1 := b2n_le_one (s.channelUp 1)
  have h2 := b2n_le_one s.boot.limp
  rw [h, bit_w32 _ _ (by decide), bit_w32 _ _ (by decide), bit_w32 _ _ (by decide), decide_eq_true_eq, decide_eq_true_eq,
    decide_eq_true_eq, ← b2n_eq_one_iff, ← b2n_eq_one_iff (s.channelUp 0), ← b2n_eq_one_iff (s.channelUp 1)]
  omega

theorem capsWord_low (s : State) (hl : s.boot.limp = true) : bits s.capsWord 15 0 = 0 := by
  obtain ⟨low, -, hlow, h⟩ := capsWord_eq s
  rw [h, bits_w32 _ _ _ (by decide), hlow hl]
  omega

end Sys2Proof.Machine
end

section
/-! SUPPORT. The clauses of S20: the registers of BOOT, then the timer, the channels, the cores and the shift engine. -/

namespace Sys2Proof.Machine

/-! ### The registers and the log of S20 -/

/-- The registers that show a start at S20. -/
abbrev ReadyReg (a : Nat) : Prop :=
  a = A.pwrPdstat 5 ∨ a = A.updStat ∨ a = A.updRxoff ∨ a = A.updRxlen ∨ a = A.updSecver ∨ a = A.updSeq

theorem showRec_frame (s : State) : StoreFrame ReadyReg s s.showRec :=
  ((((StoreFrame.setReg s _ (by decide)).trans (.setReg _ _ (by decide))).trans (.setReg _ _ (by decide))).trans
    (.setReg _ _ (by decide))).trans (.setReg _ _ (by decide))

/-- Fallbacks, quarantined cores and TOP_CAPS, and S20 as the last completed step (R70). -/
def State.readyShown (s : State) : State := (s.showFallback.setReg A.topCaps s.capsWord).markStep 20

/-- BOOT_STAT and BOOT_ELAPSED of a device that is ready. -/
def State.readyStat (s : State) (us : W32) (fell : Bool) : State :=
  ((s.setFld A.bootStat 5 5 1).setFld A.bootStat 6 6 (b2n fell)).setReg A.bootElapsed us

/-- The end of the start's entry, and the record in the UPD registers. -/
def State.readyLog (s : State) (fall us : W32) (quar : W64) (vinmin tjmax : BitVec 16) : State :=
  (((((s.logPut 0x18 4 fall.toNat).logPut 0x1C 8 quar.toNat).logPut 0x24 4 us.toNat).logPut 0x28 2 vinmin.toNat).logPut
    0x2A 2 tjmax.toNat).showRec

/-- The start has ended. -/
def State.readyRuns (s : State) : State :=
  { s with boot := { s.boot with running := false, bankFail := none },
           brg := { s.brg with freeIds := if s.boot.limp then [] else rangeFrom 4095 1 } }

/-- The cycle timer, the channels, the cores and the shift engine start. -/
def State.readyStarts (s : State) : State := ((s.startTimer.startChannel 0).startChannel 1).startCores.startShf

/-- S20 with every register and entry written. -/
def State.readyBook (s : State) (us : W32) (vinmin tjmax : BitVec 16) : State :=
  (s.readyShown.readyStat us (s.boot.limp || decide (s.boot.fallback ≠ 0#32))).readyLog s.boot.fallback us s.boot.quar
    vinmin tjmax

/-- The registers that `readyShown` and `readyStat` write before the log. -/
abbrev BookReg (a : Nat) : Prop :=
  ReadyReg a ∨ a = A.bootStat ∨ a = A.bootFallback ∨ a = A.bootQuar 0 ∨ a = A.bootQuar 1 ∨ a = A.topCaps ∨ a = A.bootElapsed

theorem StoreFrame.atStep {P : Nat → Prop} {s t : State} (h : StoreFrame P s t) (n : Nat) :
    StoreFrame P (s.atStep n) (t.atStep n) := by
  refine ⟨?_, h.2⟩
  have h1 := h.1
  unfold State.atStep
  rw [h1]

theorem readyShown_frame (s : State) : StoreFrame BookReg (s.atStep 20) s.readyShown := by
  have h1 : StoreFrame BookReg s (s.showFallback.setReg A.topCaps s.capsWord) :=
    (((StoreFrame.setReg s _ (by decide)).trans (.setReg _ _ (by decide))).trans (.setReg _ _ (by decide))).trans
      (.setReg _ _ (by decide))
  refine (h1.atStep 20).trans ((markStep_frame _ 20).mono fun a ha => ?_)
  rcases ha with rfl | rfl <;> decide

theorem readyStat_frame (s : State) (us : W32) (fell : Bool) : StoreFrame BookReg s (s.readyStat us fell) :=
  ((StoreFrame.setFld s _ _ _ (by decide)).trans (.setFld _ _ _ _ (by decide))).trans (.setReg _ _ (by decide))

theorem readyLog_frame (s : State) (fall us : W32) (quar : W64) (vinmin tjmax : BitVec 16) :
    StoreFrame ReadyReg s (s.readyLog fall us quar vinmin tjmax) := by
  have h : ∀ (u : State) (o n v : Nat), StoreFrame ReadyReg u (u.logPut o n v) := fun u o n v =>
    (logPut_frame u o n v).mono fun a ha => .inl ha
  exact (((((h s _ _ _).trans (h _ _ _ _)).trans (h _ _ _ _)).trans (h _ _ _ _)).trans (h _ _ _ _)).trans
    (showRec_frame _)

theorem readyBook_frame (s : State) (us : W32) (vinmin tjmax : BitVec 16) :
    StoreFrame BookReg (s.atStep 20) (s.readyBook us vinmin tjmax) :=
  ((readyShown_frame s).trans (readyStat_frame _ _ _)).trans ((readyLog_frame _ _ _ _ _ _).mono fun _ h => .inl h)

section
variable (s : State) (us : W32) (vinmin tjmax : BitVec 16)

/-- A register that the log does not touch reads in `readyBook` as before the log. -/
theorem reg_readyBook {a : Nat} (ha : ¬ ReadyReg a) : (s.readyBook us vinmin tjmax).reg a =
    (s.readyShown.readyStat us (s.boot.limp || decide (s.boot.fallback ≠ 0#32))).reg a :=
  (readyLog_frame _ _ _ _ _ _).reg ha

theorem reg_readyStat (u : State) (fell : Bool) {a : Nat} (h1 : a ≠ A.bootStat) (h2 : a ≠ A.bootElapsed) :
    (u.readyStat us fell).reg a = u.reg a := by
  rw [State.readyStat, State.reg_setReg_ne _ _ h2, State.reg_setFld_ne _ _ _ _ h1, State.reg_setFld_ne _ _ _ _ h1]

theorem bootStat_readyStat (u : State) (fell : Bool) : bit ((u.readyStat us fell).reg A.bootStat) 5 = true ∧
    bit ((u.readyStat us fell).reg A.bootStat) 6 = fell := by
  rw [State.readyStat, State.reg_setReg_ne _ _ (by decide), State.reg_setFld_same, State.reg_setFld_same,
    bit_setBits _ _ _ _ _ (by decide), bit_setBits _ _ _ _ _ (by decide), bit_setBits _ _ _ _ _ (by decide)]
  cases fell <;> exact ⟨rfl, rfl⟩

theorem reg_markStep (u : State) (n : Nat) {a : Nat} (ha : ¬ StepReg a) : (u.markStep n).reg a = u.reg a :=
  (markStep_frame u n).reg ha

theorem reg_readyShown {a : Nat} (ha : ¬ StepReg a) :
    s.readyShown.reg a = (s.showFallback.setReg A.topCaps s.capsWord).reg a := by
  rw [State.readyShown, reg_markStep _ 20 ha]

/-- A register that neither the log nor BOOT_STAT and BOOT_ELAPSED touch. -/
theorem reg_readyBook_shown {a : Nat} (hr : ¬ ReadyReg a) (h1 : a ≠ A.bootStat) (h2 : a ≠ A.bootElapsed) :
    (s.readyBook us vinmin tjmax).reg a = (s.showFallback.setReg A.topCaps s.capsWord).reg a := by
  rw [reg_readyBook s us vinmin tjmax hr, reg_readyStat us _ _ h1 h2,
    reg_readyShown s fun h => h.elim h1 fun h => hr (.inl h)]

/-- BOOT_STAT at S20. -/
theorem bootStat_readyBook : bit ((s.readyBook us vinmin tjmax).reg A.bootStat) 5 = true ∧
    (bit ((s.readyBook us vinmin tjmax).reg A.bootStat) 6 = true ↔ s.boot.limp = true ∨ s.boot.fallback ≠ 0#32) := by
  obtain ⟨h5, h6⟩ := bootStat_readyStat us s.readyShown (s.boot.limp || decide (s.boot.fallback ≠ 0#32))
  rw [reg_readyBook s us vinmin tjmax (by decide), h5, h6, Bool.or_eq_true, decide_eq_true_eq]
  exact ⟨rfl, .rfl⟩

theorem bootFallback_readyBook : (s.readyBook us vinmin tjmax).reg A.bootFallback = s.boot.fallback := by
  rw [reg_readyBook_shown s us vinmin tjmax (by decide) (by decide) (by decide), State.reg_setReg_ne _ _ (by decide),
    State.showFallback, State.reg_setReg_ne _ _ (by decide), State.reg_setReg_ne _ _ (by decide), State.reg_setReg_same]

theorem bootQuar_readyBook :
    (s.readyBook us vinmin tjmax).reg (A.bootQuar 0) = w32 (s.boot.quar.toNat % 0x100000000) := by
  rw [reg_readyBook_shown s us vinmin tjmax (by decide) (by decide) (by decide), State.reg_setReg_ne _ _ (by decide),
    State.showFallback, State.reg_setReg_ne _ _ (by decide), State.reg_setReg_same]

theorem bootElapsed_readyBook : (s.readyBook us vinmin tjmax).reg A.bootElapsed = us := by
  rw [reg_readyBook s us vinmin tjmax (by decide), State.readyStat, State.reg_setReg_same]

theorem topCaps_readyBook : (s.readyBook us vinmin tjmax).reg A.topCaps = s.capsWord := by
  rw [reg_readyBook_shown s us vinmin tjmax (by decide) (by decide) (by decide), State.reg_setReg_same]

end

/-! ### What starts -/

/-- The registers that the starts of S20 write. -/
abbrev StartsReg (a : Nat) : Prop := ShfStartReg a ∨ a = A.drcStat 0 ∨ a = A.drcStat 1

theorem ChannelReg.starts {x a : Nat} (hx : x < 2) (h : ChannelReg x a) : StartsReg a := by
  rcases h with h | rfl
  · exact .inl (.inl h)
  · rcases Nat.lt_succ_iff_lt_or_eq.mp hx with h | rfl
    · rw [Nat.lt_one_iff.mp h]
      exact .inr (.inl rfl)
    · exact .inr (.inr rfl)

/-- After the timer has started. -/
theorem readyStarts_proceeds (s : State) : Proceeds StartsReg s.startTimer s.readyStarts :=
  ((((startChannel_proceeds _ (by decide)).mono fun _ => ChannelReg.starts (by decide)).trans
    ((startChannel_proceeds _ (by decide)).mono fun _ => ChannelReg.starts (by decide))).trans
    (startCores_proceeds _)).trans ((startShf_proceeds _).mono fun _ h => .inl h)

theorem tbPeriod_readyStarts (s : State) : s.readyStarts.reg A.tbPeriod = w32 s.shp.fabric.period := by
  have h : ¬ StartsReg A.tbPeriod := by
    unfold StartsReg ShfStartReg evrKey A.tbPeriod A.shfDrain A.shfBankstat A.drcStat
    omega
  rw [(readyStarts_proceeds s).reg _ h, State.startTimer, State.reg_setReg_same]

theorem channelUp_congr {s t : State} (hb : t.boot = s.boot) (hs : t.shp = s.shp) (x : Nat) :
    t.channelUp x = s.channelUp x := by
  unfold State.channelUp
  rw [hb, hs]

/-- Each channel in service is ACTIVE or FILLING. -/
theorem drcStat_readyStarts (s : State) {x : Nat} (hx : x < 2) (hup : s.channelUp x = true) :
    bits (s.readyStarts.reg (A.drcStat x)) 2 0 = if (s.ch x).fills = [] then 1 else 4 := by
  have hk : ¬ evrKey (A.drcStat x) := by unfold evrKey A.drcStat; omega
  have hshf : ¬ ShfStartReg (A.drcStat x) := by
    simp only [ShfStartReg, hk, false_or]
    unfold A.drcStat A.shfDrain A.shfBankstat
    omega
  have h0 : Proceeds (ChannelReg 0) s.startTimer (s.startTimer.startChannel 0) := startChannel_proceeds _ (by decide)
  have h1 : Proceeds (ChannelReg 1) (s.startTimer.startChannel 0) _ := startChannel_proceeds _ (by decide)
  have hlast : s.readyStarts.reg (A.drcStat x) = ((s.startTimer.startChannel 0).startChannel 1).reg (A.drcStat x) :=
    ((startCores_proceeds _).trans (startShf_proceeds _)).reg _ hshf
  rw [hlast]
  rcases Nat.lt_succ_iff_lt_or_eq.mp hx with h | rfl
  · obtain rfl := Nat.lt_one_iff.mp h
    have hc : ¬ ChannelReg 1 (A.drcStat 0) := fun h => h.elim hk (by decide)
    rw [h1.reg _ hc]
    exact drcStat_startChannel s.startTimer hx ((channelUp_congr (s := s) rfl rfl 0).trans hup)
  · rw [drcStat_startChannel _ hx ((channelUp_congr (s := s) h0.boot h0.shp 1).trans hup), h0.fills]
    rfl

/-! ### The clauses of S20 -/

section
variable {s : State} {us : W32} {vinmin tjmax : BitVec 16}

theorem ready_waits (h : s.boot.l0 = false) : Completes (.ready us vinmin tjmax) s (fun t => t = s) := by
  refine ⟨s, ?_, rfl⟩
  show execReady us vinmin tjmax s = _
  simp only [execReady, h, Bool.not_false, Bool.or_true, if_true]

theorem exec_ready (hd : s.stepDue 20 = true) (h : s.boot.l0 = true) :
    exec (.ready us vinmin tjmax) s = .next (s.readyBook us vinmin tjmax).readyRuns.readyStarts := by
  show execReady us vinmin tjmax s = _
  simp only [execReady, hd, h, Bool.not_true, Bool.or_false, Bool.false_eq_true, if_false, State.readyStarts,
    State.readyRuns, State.readyBook, State.readyLog, State.readyStat, State.readyShown]
  rfl

theorem ready_starts (hd : s.stepDue 20 = true) (h : s.boot.l0 = true) :
    Completes (.ready us vinmin tjmax) s (fun t => t.boot.step = 20 ∧ t.boot.running = false ∧
      bit (t.reg A.bootStat) 5 = true ∧
      (bit (t.reg A.bootStat) 6 = true ↔ s.boot.limp = true ∨ s.boot.fallback ≠ 0#32) ∧
      t.reg A.bootFallback = s.boot.fallback ∧ (t.reg (A.bootQuar 0)).toNat = s.boot.quar.toNat % 0x100000000 ∧
      t.reg A.bootElapsed = us ∧ t.reg A.tbPeriod = BitVec.ofNat 32 s.shp.fabric.period ∧ t.tb.timer = true ∧
      t.tb.cycRun = false ∧
      t.tb.cycStart = BitVec.ofNat 64 ((s.time / s.shp.fabric.period + 1) * s.shp.fabric.period) ∧
      (∀ x, x < 2 → s.channelUp x = true → bits (t.reg (A.drcStat x)) 2 0 = if (s.ch x).fills = [] then 1 else 4) ∧
      t.reg A.topCaps = s.capsWord) := by
  obtain ⟨h5, h6⟩ := bootStat_readyBook s us vinmin tjmax
  have hfall := bootFallback_readyBook s us vinmin tjmax
  have hquar := bootQuar_readyBook s us vinmin tjmax
  have hus := bootElapsed_readyBook s us vinmin tjmax
  have hcaps := topCaps_readyBook s us vinmin tjmax
  have hbook := readyBook_frame s us vinmin tjmax
  refine ⟨_, exec_ready hd h, ?_⟩
  generalize s.readyBook us vinmin tjmax = b at *
  have hrun := readyStarts_proceeds b.readyRuns
  have hreg : ∀ a, a < 0xc0000 ∨ 0x160000 ≤ a → a ≠ A.tbPeriod → b.readyRuns.readyStarts.reg a = b.reg a := by
    intro a ha hper
    refine (hrun.reg a ?_).trans (State.reg_setReg_ne _ _ hper)
    unfold StartsReg ShfStartReg evrKey A.shfDrain A.shfBankstat A.drcStat
    omega
  have hboot : b.readyRuns.readyStarts.boot = { s.boot with step := 20, running := false, bankFail := none } := by
    rw [hrun.boot]
    show { b.boot with running := false, bankFail := none } = _
    rw [hbook.boot]
    rfl
  have htb : b.readyRuns.readyStarts.tb = b.readyRuns.startTimer.tb := hrun.tb
  have hst : b.time = s.time := congrArg (fun t : Tb => t.now.toNat) hbook.tb
  refine ⟨by rw [hboot], by rw [hboot], ?_, ?_, ?_, ?_, ?_, ?_, by rw [htb]; rfl, by rw [htb]; rfl, ?_, fun x hx hup => ?_, ?_⟩
  · rwa [hreg _ (by decide) (by decide)]
  · rwa [hreg _ (by decide) (by decide)]
  · rwa [hreg _ (by decide) (by decide)]
  · rw [hreg _ (by decide) (by decide), hquar, w32, BitVec.toNat_ofNat, Nat.mod_eq_of_lt (by omega)]
  · rwa [hreg _ (by decide) (by decide)]
  · rw [tbPeriod_readyStarts]
    show w32 b.shp.fabric.period = _
    rw [hbook.shp]
    rfl
  · rw [htb]
    show BitVec.ofNat 64 ((b.time / b.shp.fabric.period + 1) * b.shp.fabric.period) = _
    rw [hst, hbook.shp]
    rfl
  · have hup' : b.readyRuns.channelUp x = true := by
      rw [← hup, State.channelUp, State.channelUp]
      show (decide ((if x = 0 then b.shp.memory.densA else b.shp.memory.densB) ≠ 0) && !bit b.boot.fallback (fallBit x 2) &&
        !b.boot.limp) = _
      rw [hbook.boot, hbook.shp]
      rfl
    rw [drcStat_readyStarts _ hx hup']
    show (if (b.ch x).fills = [] then 1 else 4) = _
    rw [State.ch, hbook.drc]
    rfl
  · rwa [hreg _ (by decide) (by decide)]

end

end Sys2Proof.Machine
end

section
/-! SUPPORT. The update record as 64 bytes (R599, Table 21-6): a record that is programmed reads back. -/

namespace Sys2Proof.Machine

/-! ### Numbers as bytes -/

@[simp] theorem length_leBytes (n v : Nat) : (leBytes n v).length = n := by
  induction n generalizing v with
  | zero => rfl
  | succ n ih => rw [leBytes, List.length_cons, ih]

theorem leNat_leBytes (n v : Nat) : leNat (leBytes n v) = v % 256 ^ n := by
  induction n generalizing v with
  | zero => rw [leBytes, leNat, Nat.pow_zero, Nat.mod_one]
  | succ n ih => rw [leBytes, leNat, ih, BitVec.toNat_ofNat, Nat.pow_succ' (m := 256), Nat.mod_mul]

theorem leNat_lt (l : List Byte) : leNat l < 256 ^ l.length := by
  induction l with
  | nil => decide
  | cons b l ih =>
    have hb := b.isLt
    rw [leNat, List.length_cons, Nat.pow_succ']
    omega

@[simp] theorem length_bytes256 (v : BitVec 256) : (bytes256 v).length = 32 := by
  rw [bytes256, beBytes, List.length_reverse, length_leBytes]

theorem word256_bytes256 (v : BitVec 256) : word256 (bytes256 v) = v := by
  rw [word256, bytes256, beBytes, beNat, List.reverse_reverse, leNat_leBytes]
  exact BitVec.eq_of_toNat_eq (by rw [BitVec.toNat_ofNat, show 256 ^ 32 = 2 ^ 256 by norm_num, Nat.mod_mod]; omega)

theorem w32_toNat (v : W32) : w32 (v.toNat % 256 ^ 4) = v := by
  rw [w32, Nat.mod_eq_of_lt (show v.toNat < 256 ^ 4 from v.isLt), BitVec.ofNat_toNat, BitVec.setWidth_eq]

/-! ### A list as a byte source -/

@[simp] theorem length_rdBytes (r : Rd) (o n : Nat) : (rdBytes r o n).length = n := by
  rw [rdBytes, List.length_map, length_rangeFrom]

theorem rdBytes_congr {r q : Rd} {o n : Nat} (h : ∀ k, o ≤ k → k < o + n → r k = q k) : rdBytes r o n = rdBytes q o n :=
  List.map_congr_left fun k hk => h k (mem_rangeFrom.mp hk).1 (mem_rangeFrom.mp hk).2

theorem rdBytes_listRd_cons (b : Byte) (l : List Byte) (o n : Nat) :
    rdBytes (listRd (b :: l)) (o + 1) n = rdBytes (listRd l) o n := by
  induction n generalizing o with
  | zero => rfl
  | succ n ih =>
    have h := ih (o + 1)
    simp only [rdBytes, rangeFrom, List.map_cons] at h ⊢
    rw [h]
    rfl

/-- Bytes behind a first part. -/
theorem rdBytes_listRd_skip (a b : List Byte) {o : Nat} (n : Nat) (h : a.length ≤ o) :
    rdBytes (listRd (a ++ b)) o n = rdBytes (listRd b) (o - a.length) n := by
  induction a generalizing o with
  | nil => rfl
  | cons x a ih =>
    rw [List.length_cons] at h ⊢
    obtain ⟨k, rfl⟩ : ∃ k, o = k + 1 := ⟨o - 1, by omega⟩
    rw [List.cons_append, rdBytes_listRd_cons, ih (by omega), Nat.add_sub_add_right]

/-- The first part itself. -/
theorem rdBytes_listRd_here (a b : List Byte) {n : Nat} (h : a.length = n) : rdBytes (listRd (a ++ b)) 0 n = a := by
  subst h
  induction a with
  | nil => rfl
  | cons x a ih =>
    have hc := rdBytes_listRd_cons x (a ++ b) 0 a.length
    rw [ih] at hc
    rw [List.length_cons, List.cons_append]
    simp only [rdBytes, rangeFrom, List.map_cons] at hc ⊢
    rw [hc]
    rfl

/-! ### The record -/

/-- The record that a source of 64 bytes holds. -/
def recOf (r : Rd) : Option UpdRec :=
  if rdBytes r 0 4 = [0x5A#8, 0x55#8, 0x50#8, 0x44#8] ∧ crc32c (rdBytes r 0 60) = w32 (rdLE r 60 4) then
    some { seq := w32 (rdLE r 4 4), active := rdLE r 8 1, state := rdLE r 9 1, target := rdLE r 10 1, tries := rdLE r 11 1,
           rxLen := rdLE r 12 4, rxOff := rdLE r 16 4, secver := w32 (rdLE r 20 4), digest := word256 (rdBytes r 24 32),
           arbPending := decide (rdLE r 56 1 % 2 = 1), wiped := decide (rdLE r 56 1 / 2 % 2 = 1), reason := rdLE r 57 1 }
  else none

theorem recCopy_eq (s : State) (i : Nat) : s.recCopy i = recOf (fun o => s.readByte (recKey i + o)) := rfl

theorem rdLE_eq (r : Rd) (o n : Nat) : rdLE r o n = leNat (rdBytes r o n) := rfl

/-- A record depends on its 64 bytes only. -/
theorem recOf_congr {r q : Rd} (h : ∀ o, o < 64 → r o = q o) : recOf r = recOf q := by
  have hb : ∀ o n, o + n ≤ 64 → rdBytes r o n = rdBytes q o n := fun o n hn =>
    rdBytes_congr fun k _ hk => h k (by omega)
  unfold recOf
  simp only [rdLE_eq, hb 0 4 (by decide), hb 0 60 (by decide), hb 60 4 (by decide), hb 4 4 (by decide), hb 8 1 (by decide),
    hb 9 1 (by decide), hb 10 1 (by decide), hb 11 1 (by decide), hb 12 4 (by decide), hb 16 4 (by decide),
    hb 20 4 (by decide), hb 24 32 (by decide), hb 56 1 (by decide), hb 57 1 (by decide)]
  congr

/-- Each number of a record fits in its field. -/
structure UpdRec.Fits (r : UpdRec) : Prop where
  active : r.active < 256
  state : r.state < 256
  target : r.target < 256
  tries : r.tries < 256
  rxLen : r.rxLen < 0x100000000
  rxOff : r.rxOff < 0x100000000
  reason : r.reason < 256

theorem rdLE_lt (r : Rd) (o n : Nat) : rdLE r o n < 256 ^ n := by
  have h := leNat_lt (rdBytes r o n)
  rwa [length_rdBytes] at h

theorem fits_of_recOf {r : Rd} {u : UpdRec} (h : recOf r = some u) : u.Fits := by
  unfold recOf at h
  split at h
  · obtain rfl := Option.some.inj h
    exact ⟨rdLE_lt r 8 1, rdLE_lt r 9 1, rdLE_lt r 10 1, rdLE_lt r 11 1, rdLE_lt r 12 4, rdLE_lt r 16 4, rdLE_lt r 57 1⟩
  · exact absurd h (by simp)

/-- The bytes of a record before its CRC. -/
def UpdRec.body (r : UpdRec) : List Byte :=
  [0x5A#8, 0x55#8, 0x50#8, 0x44#8] ++ (leBytes 4 r.seq.toNat ++ (leBytes 1 r.active ++ (leBytes 1 r.state ++
    (leBytes 1 r.target ++ (leBytes 1 r.tries ++ (leBytes 4 r.rxLen ++ (leBytes 4 r.rxOff ++ (leBytes 4 r.secver.toNat ++
    (bytes256 r.digest ++ (leBytes 1 (b2n r.arbPending + 2 * b2n r.wiped) ++ (leBytes 1 r.reason ++ [0#8, 0#8])))))))))))

theorem bytes_eq (r : UpdRec) : r.bytes = r.body ++ leBytes 4 (crc32c r.body).toNat := by
  have h : r.body = [0x5A#8, 0x55#8, 0x50#8, 0x44#8] ++ leBytes 4 r.seq.toNat ++ leBytes 1 r.active ++ leBytes 1 r.state ++
    leBytes 1 r.target ++ leBytes 1 r.tries ++ leBytes 4 r.rxLen ++ leBytes 4 r.rxOff ++ leBytes 4 r.secver.toNat ++
    bytes256 r.digest ++ leBytes 1 (b2n r.arbPending + 2 * b2n r.wiped) ++ leBytes 1 r.reason ++ [0#8, 0#8] := by
    simp only [UpdRec.body, List.append_assoc]
  rw [h]
  rfl

@[simp] theorem length_body (r : UpdRec) : r.body.length = 60 := by
  simp only [UpdRec.body, List.length_append, length_leBytes, length_bytes256, List.length_cons, List.length_nil]

theorem rdBytes_bytes_body (r : UpdRec) : rdBytes (listRd r.bytes) 0 60 = r.body := by
  rw [bytes_eq]
  exact rdBytes_listRd_here _ _ (length_body r)

theorem rdBytes_bytes_crc (r : UpdRec) : rdBytes (listRd r.bytes) 60 4 = leBytes 4 (crc32c r.body).toNat := by
  rw [bytes_eq, rdBytes_listRd_skip _ _ _ (length_body r).le, length_body]
  have h := rdBytes_listRd_here (leBytes 4 (crc32c r.body).toNat) [] (length_leBytes 4 _)
  rwa [List.append_nil] at h

theorem rdBytes_bytes (r : UpdRec) {o n : Nat} (hn : o + n ≤ 60) :
    rdBytes (listRd r.bytes) o n = rdBytes (listRd r.body) o n := by
  refine rdBytes_congr fun k _ hk => ?_
  rw [bytes_eq, listRd, listRd, List.getD_append _ _ _ _ (by rw [length_body]; omega)]

/-- Where each field of the record lies (Table 21-6). -/
theorem rdBytes_fields (r : UpdRec) : let rd := rdBytes (listRd r.bytes)
    rd 0 4 = [0x5A#8, 0x55#8, 0x50#8, 0x44#8] ∧ rd 4 4 = leBytes 4 r.seq.toNat ∧ rd 8 1 = leBytes 1 r.active ∧
      rd 9 1 = leBytes 1 r.state ∧ rd 10 1 = leBytes 1 r.target ∧ rd 11 1 = leBytes 1 r.tries ∧
      rd 12 4 = leBytes 4 r.rxLen ∧ rd 16 4 = leBytes 4 r.rxOff ∧ rd 20 4 = leBytes 4 r.secver.toNat ∧
      rd 24 32 = bytes256 r.digest ∧ rd 56 1 = leBytes 1 (b2n r.arbPending + 2 * b2n r.wiped) ∧
      rd 57 1 = leBytes 1 r.reason := by
  have hb := fun (o n : Nat) (h : o + n ≤ 60) => rdBytes_bytes r h
  refine ⟨?_, ?_, ?_, ?_, ?_, ?_, ?_, ?_, ?_, ?_, ?_, ?_⟩ <;> rw [hb _ _ (by decide)] <;>
    simp (disch := simp) only [UpdRec.body, rdBytes_listRd_skip, rdBytes_listRd_here, length_leBytes, length_bytes256,
      List.length_cons, List.length_nil, Nat.reduceAdd, Nat.reduceSub]

/-- A record that is programmed reads back. -/
theorem recOf_bytes {r : UpdRec} (h : r.Fits) : recOf (listRd r.bytes) = some r := by
  obtain ⟨hactive, hstate, htarget, htries, hlen, hoff, hreason⟩ := h
  obtain ⟨fmagic, fseq, factive, fstate, ftarget, ftries, flen, foff, fsecver, fdigest, fflags, freason⟩ := rdBytes_fields r
  unfold recOf
  rw [if_pos ⟨fmagic, by rw [rdBytes_bytes_body, rdLE_eq, rdBytes_bytes_crc, leNat_leBytes, w32_toNat]⟩]
  have hflags : (b2n r.arbPending + 2 * b2n r.wiped) % 256 % 2 = b2n r.arbPending ∧
      (b2n r.arbPending + 2 * b2n r.wiped) % 256 / 2 % 2 = b2n r.wiped := by
    have h1 := b2n_le_one r.arbPending
    have h2 := b2n_le_one r.wiped
    omega
  simp only [rdLE_eq, fseq, factive, fstate, ftarget, ftries, flen, foff, fsecver, fdigest, fflags, freason, leNat_leBytes,
    w32_toNat, word256_bytes256, Nat.pow_one, hflags, b2n_eq_one_iff]
  rw [Nat.mod_eq_of_lt hactive, Nat.mod_eq_of_lt hstate, Nat.mod_eq_of_lt htarget, Nat.mod_eq_of_lt htries,
    Nat.mod_eq_of_lt hreason, Nat.mod_eq_of_lt (show r.rxLen < 256 ^ 4 from hlen),
    Nat.mod_eq_of_lt (show r.rxOff < 256 ^ 4 from hoff)]
  simp

@[simp] theorem length_bytes (r : UpdRec) : r.bytes.length = 64 := by
  rw [bytes_eq, List.length_append, length_body, length_leBytes]

end Sys2Proof.Machine
end

section
/-! SUPPORT. The update record in the flash (R599, R600): what leaves it, and what a record write leaves in force. -/

namespace Sys2Proof.Machine

/-! ### Below the start log -/

/-- `t` differs from `s` neither in the start controller, the fuses, nor in a byte below the start log. -/
structure LogFrame (s t : State) : Prop where
  boot : t.boot = s.boot
  lcs : t.lcs = s.lcs
  below : ∀ j, j < logKey 0 → t.readByte j = s.readByte j

section
variable {s t u : State}

theorem LogFrame.refl (s : State) : LogFrame s s := ⟨rfl, rfl, fun _ _ => rfl⟩

theorem LogFrame.trans (h : LogFrame s t) (k : LogFrame t u) : LogFrame s u :=
  ⟨k.boot.trans h.boot, k.lcs.trans h.lcs, fun j hj => (k.below j hj).trans (h.below j hj)⟩

theorem LogFrame.setFld (s : State) (a hi lo v : Nat) : LogFrame s (s.setFld a hi lo v) := ⟨rfl, rfl, fun _ _ => rfl⟩

theorem LogFrame.setReg (s : State) (a : Nat) (v : W32) : LogFrame s (s.setReg a v) := ⟨rfl, rfl, fun _ _ => rfl⟩

theorem LogFrame.writeBytes (s : State) {k : Nat} (bs : List Byte) (h : logKey 0 ≤ k) : LogFrame s (s.writeBytes k bs) :=
  ⟨rfl, rfl, fun j hj => State.readByte_writeBytes_out s k j bs (.inl (by omega))⟩

theorem LogFrame.writeLE (s : State) {k : Nat} (n v : Nat) (h : logKey 0 ≤ k) : LogFrame s (s.writeLE k n v) :=
  .writeBytes s _ h

theorem LogFrame.flashOn (s : State) : LogFrame s s.flashOn := by
  unfold State.flashOn
  split
  · exact .refl s
  · exact .setFld s _ _ _ _

end

theorem logKey_zero_le (i : Nat) : logKey 0 ≤ logKey i := by unfold logKey; omega

/-- A new entry lies in the start log. -/
theorem newEntry_fst (s : State) (kind bank mode : Nat) : (s.newEntry kind bank mode).1 = logKey s.nextSlot := rfl

theorem newEntry_frame (s : State) (kind bank mode : Nat) : LogFrame s (s.newEntry kind bank mode).2 := by
  unfold State.newEntry
  refine LogFrame.trans ?_ (.writeBytes _ _ (logKey_zero_le _))
  split
  · exact (LogFrame.flashOn s).trans (.writeBytes _ _ (logKey_zero_le _))
  · exact .flashOn s

theorem failedEntry_frame (s : State) (f : Failure) : LogFrame s (s.failedEntry f) := by
  have hk : ∀ o, logKey 0 ≤ (s.newEntry f.kind 0xFF 0).1 + o := fun o => (logKey_zero_le _).trans (Nat.le_add_right _ o)
  unfold State.failedEntry
  exact ((((newEntry_frame s _ _ _).trans (.writeLE _ _ _ (hk _))).trans (.writeLE _ _ _ (hk _))).trans
    (.writeLE _ _ _ (hk _))).trans (.writeLE _ _ _ (hk _))

theorem showPrev_frame (s : State) (l : List (Nat × Nat)) : LogFrame s (s.showPrev l) :=
  ((LogFrame.setFld s _ _ _ _).trans (.setFld _ _ _ _ _)).trans (.setFld _ _ _ _ _)

theorem showRec_logFrame (s : State) : LogFrame s s.showRec :=
  ((((LogFrame.setReg s _ _).trans (.setReg _ _ _)).trans (.setReg _ _ _)).trans (.setReg _ _ _)).trans (.setReg _ _ _)

/-- The log of a step lies in the start log when the start's entry does. -/
theorem logBit_logFrame {s : State} (o i : Nat) (h : ∀ k, s.boot.entry = some k → logKey 0 ≤ k) :
    LogFrame s (s.logBit o i) := by
  unfold State.logBit
  split
  · exact .refl s
  · next k hk => exact (LogFrame.flashOn s).trans (.writeLE _ _ _ ((h k hk).trans (Nat.le_add_right _ _)))

/-! ### Copies of the record -/

theorem recKey_lt {i o : Nat} (hi : i ≤ 1) (ho : o < 64) : recKey i + o < logKey 0 := by
  unfold recKey logKey kData
  omega

/-- A copy depends on its 64 bytes only. -/
theorem recCopy_congr {s t : State} {i : Nat} (h : ∀ o, o < 64 → t.readByte (recKey i + o) = s.readByte (recKey i + o)) :
    t.recCopy i = s.recCopy i := by
  rw [recCopy_eq, recCopy_eq]
  exact recOf_congr h

/-- The record stays as long as both of its copies do. -/
theorem recNewest_congr {s t : State} (h0 : t.recCopy 0 = s.recCopy 0) (h1 : t.recCopy 1 = s.recCopy 1) :
    t.recNewest = s.recNewest := by
  unfold State.recNewest
  rw [h0, h1]

section
variable {s t : State}

theorem LogFrame.recNewest (h : LogFrame s t) : t.recNewest = s.recNewest :=
  recNewest_congr (recCopy_congr fun _ ho => h.below _ (recKey_lt (by decide) ho))
    (recCopy_congr fun _ ho => h.below _ (recKey_lt (by decide) ho))

end

/-- The newest record stands in one of the two copies. -/
theorem recCopy_of_recNewest {s : State} {i : Nat} {old : UpdRec} (h : s.recNewest = some (i, old)) :
    (i = 0 ∨ i = 1) ∧ s.recCopy i = some old := by
  unfold State.recNewest at h
  split at h
  · next a b ha hb =>
    split at h
    · obtain ⟨rfl, rfl⟩ := Prod.mk.inj (Option.some.inj h)
      exact ⟨.inr rfl, hb⟩
    · obtain ⟨rfl, rfl⟩ := Prod.mk.inj (Option.some.inj h)
      exact ⟨.inl rfl, ha⟩
  · next a ha _ =>
    obtain ⟨rfl, rfl⟩ := Prod.mk.inj (Option.some.inj h)
    exact ⟨.inl rfl, ha⟩
  · next b _ hb =>
    obtain ⟨rfl, rfl⟩ := Prod.mk.inj (Option.some.inj h)
    exact ⟨.inr rfl, hb⟩
  · exact absurd h (by simp)

theorem updRec_of_recNewest {s : State} {p : Nat × UpdRec} (h : s.recNewest = some p) : s.updRec = p.2 := by
  rw [State.updRec, h]
  rfl

/-- The numbers of the record in force fit in their fields. -/
theorem updRec_fits (s : State) : s.updRec.Fits := by
  unfold State.updRec
  cases h : s.recNewest with
  | none => exact ⟨by decide, by decide, by decide, by decide, by decide, by decide, by decide⟩
  | some p => exact fits_of_recOf ((recCopy_eq s p.1).symm.trans (recCopy_of_recNewest h).2)

/-! ### A record write -/

theorem recCopy_putCopy_same (s : State) (i : Nat) {r : UpdRec} (h : r.Fits) : (s.putCopy i r).recCopy i = some r := by
  rw [recCopy_eq, ← recOf_bytes h]
  refine recOf_congr fun o ho => ?_
  have hl : o < r.bytes.length := by rwa [length_bytes]
  rw [State.putCopy, State.readByte_writeBytes_in _ _ _ _ hl, listRd, List.getD_eq_getElem _ _ hl]

theorem recCopy_putCopy_other (s : State) {i j : Nat} (r : UpdRec) (h : j ≠ i) :
    (s.putCopy i r).recCopy j = s.recCopy j := by
  refine recCopy_congr fun o ho => ?_
  have hk : recKey j + o < recKey i ∨ recKey i + 0x1000 ≤ recKey j + o := by unfold recKey; omega
  rw [State.putCopy, State.readByte_writeBytes_out _ _ _ _ (by rw [length_bytes]; omega), State.eraseSector,
    State.readByte_writeBytes_out _ _ _ _ (by rw [List.length_replicate]; exact hk)]

theorem seqNewer_succ (x : W32) : seqNewer (x + 1#32) x = true := by
  rw [seqNewer, show x + 1#32 - x = 1#32 by rw [BitVec.add_comm]; exact BitVec.add_sub_cancel _ _]
  decide

theorem not_seqNewer_succ (x : W32) : seqNewer x (x + 1#32) = false := by
  rw [seqNewer, show x - (x + 1#32) = -1#32 by bv_omega]
  decide

/-- A record that is programmed into the other copy with the next SEQ is the newest. -/
theorem recNewest_putCopy {s : State} {i : Nat} {old r : UpdRec} (h : s.recNewest = some (i, old)) (hr : r.Fits) :
    (s.putCopy (1 - i) { r with seq := old.seq + 1#32 }).recNewest = some (1 - i, { r with seq := old.seq + 1#32 }) := by
  obtain ⟨hi, hold⟩ := recCopy_of_recNewest h
  have hfit : ({ r with seq := old.seq + 1#32 } : UpdRec).Fits :=
    ⟨hr.active, hr.state, hr.target, hr.tries, hr.rxLen, hr.rxOff, hr.reason⟩
  have hnew := recCopy_putCopy_same s (1 - i) hfit
  have hkept := recCopy_putCopy_other s { r with seq := old.seq + 1#32 } (show i ≠ 1 - i by omega)
  rw [hold] at hkept
  unfold State.recNewest
  rcases hi with rfl | rfl
  · rw [hkept, hnew]
    exact if_pos (seqNewer_succ _)
  · rw [hkept, hnew]
    exact if_neg (Bool.eq_false_iff.mp (not_seqNewer_succ _))

/-- PD82 is ON, and a kept OTHER_BANK fallback has ended when ACTIVE changes (R602). -/
def State.recOpened (s : State) (active : Nat) : State :=
  { s.flashOn with boot := if active = s.flashOn.updRec.active then s.flashOn.boot
                           else { s.flashOn.boot with fallback := setBit s.flashOn.boot.fallback 0 false } }

theorem recNewest_recOpened (s : State) (active : Nat) : (s.recOpened active).recNewest = s.recNewest :=
  (LogFrame.flashOn s).recNewest

theorem writeRec_of_some {s : State} {i : Nat} {old : UpdRec} (h : s.recNewest = some (i, old)) (r : UpdRec) :
    s.writeRec r = ((s.recOpened r.active).putCopy (1 - i) { r with seq := old.seq + 1#32 }).showRec := by
  have h' : (s.recOpened r.active).recNewest = some (i, old) := (recNewest_recOpened s _).trans h
  unfold State.recOpened at h' ⊢
  simp only [State.writeRec, h']

/-- The record in force after a record write. -/
theorem recNewest_writeRec {s : State} {i : Nat} {old r : UpdRec} (h : s.recNewest = some (i, old)) (hr : r.Fits) :
    (s.writeRec r).recNewest = some (1 - i, { r with seq := old.seq + 1#32 }) := by
  rw [writeRec_of_some h, (showRec_logFrame _).recNewest]
  exact recNewest_putCopy ((recNewest_recOpened s _).trans h) hr

/-- A record write changes the start controller's kept fallback only, and no fuse. -/
theorem writeRec_keeps {β : Type} (p : State → β) (hm : ∀ (u : State) (k : Nat) (bs : List Byte), p (u.writeBytes k bs) = p u)
    (hg : ∀ (u : State) (a : Nat) (v : W32), p (u.setReg a v) = p u)
    (hf : ∀ (u : State) (f : W32), p { u with boot := { u.boot with fallback := f } } = p u) (s : State) (r : UpdRec) :
    p (s.writeRec r) = p s := by
  have hshow : ∀ u : State, p u.showRec = p u := fun u =>
    (hg _ _ _).trans ((hg _ _ _).trans ((hg _ _ _).trans ((hg _ _ _).trans (hg u _ _))))
  have hput : ∀ (u : State) i q, p (u.putCopy i q) = p u := fun u i q => (hm _ _ _).trans (hm u _ _)
  have hon : p s.flashOn = p s := by
    unfold State.flashOn
    split
    · rfl
    · exact hg s _ _
  have hopen : p (s.recOpened r.active) = p s := by
    unfold State.recOpened
    split
    · exact hon
    · exact (hf _ _).trans hon
  have hdef : s.writeRec r = match (s.recOpened r.active).recNewest with
      | some (i, old) => ((s.recOpened r.active).putCopy (1 - i) { r with seq := old.seq + 1#32 }).showRec
      | none => (((s.recOpened r.active).putCopy 0 UpdRec.none').putCopy 1 { r with seq := 1#32 }).showRec := rfl
  rw [hdef]
  split
  · exact (hshow _).trans ((hput _ _ _).trans hopen)
  · exact (hshow _).trans ((hput _ _ _).trans ((hput _ _ _).trans hopen))

theorem lcs_writeRec (s : State) (r : UpdRec) : (s.writeRec r).lcs = s.lcs :=
  writeRec_keeps (·.lcs) (fun _ _ _ => rfl) (fun _ _ _ => rfl) (fun _ _ => rfl) s r

end Sys2Proof.Machine
end

section
/-! SUPPORT. S07 (R81, R83, R600, R601): a flash that cannot be read, and the start's record and entry. -/

namespace Sys2Proof.Machine

/-! ### A flash that cannot be read -/

theorem limpNow_replicate (n : Nat) : limpNow (List.replicate n (7, 7)) = decide (3 ≤ n) := by
  match n with
  | 0 | 1 | 2 => rfl
  | n + 3 => simp [List.replicate_succ, limpNow]

section
variable {s : State} (hd : s.stepDue 7 = true)
include hd

theorem flash_unreadable_fails (h : s.boot.s07Fails < 3) (d : BitVec 16) :
    Completes (.flashAndUpdateRecord (some d)) s (fun t => StepFailed s 7 7 d.toNat t ∧
      t.boot.s07Fails = s.boot.s07Fails + 1) := by
  have hb := boot_stepFails_flash s 7 d.toNat
  refine ⟨s.stepFails 7 7 d.toNat, ?_, .of_boot (by rw [hb]) (by rw [hb]), by rw [hb]⟩
  show execFlashAndUpdateRecord (some d) s = _
  simp only [execFlashAndUpdateRecord, hd, limpNow_replicate, decide_eq_false (Nat.not_le.mpr h), Bool.not_true,
    Bool.false_eq_true, if_false]

theorem flash_unreadable_limps (h : 3 ≤ s.boot.s07Fails) (d : BitVec 16) :
    Completes (.flashAndUpdateRecord (some d)) s (fun t => t.boot.step = 7 ∧ t.boot.limp = true ∧ t.boot.noLog = true) := by
  have heq : exec (.flashAndUpdateRecord (some d)) s = .next ((State.showPrev
      { s with boot := { s.boot with limp := true, noLog := true } } (List.replicate s.boot.s07Fails (7, 7))).stepDone 7) := by
    show execFlashAndUpdateRecord (some d) s = _
    simp only [execFlashAndUpdateRecord, hd, limpNow_replicate, decide_eq_true h, Bool.not_true, Bool.false_eq_true,
      if_false, if_true]
  refine ⟨_, heq, ?_, ?_, ?_⟩ <;> rw [boot_stepDone _ (by decide) (by decide), (showPrev_frame _ _).boot]

end

/-! ### The record at a start -/

/-- The start controller has no part in the record. -/
theorem recNewest_boot (s : State) (b : Boot) : ({ s with boot := b } : State).recNewest = s.recNewest := rfl

/-- No failure is held any more, and the start is a limp start or not. -/
def State.unmarked (s : State) (limp : Bool) : State :=
  { s with boot := { s.boot with early := none, s07Fails := 0, limp := limp } }

/-- A held failure has become an entry of its own. -/
def State.unheld (s : State) (limp : Bool) : State :=
  match s.boot.early with
  | some f => (s.failedEntry f).unmarked limp
  | none => s.unmarked limp

theorem unheld_spec (s : State) (limp : Bool) :
    (s.unheld limp).boot = { s.boot with early := none, s07Fails := 0, limp := limp } ∧ (s.unheld limp).lcs = s.lcs ∧
      (s.unheld limp).recNewest = s.recNewest := by
  have hlog : ∀ u : State, LogFrame s u →
      (u.unmarked limp).boot = { s.boot with early := none, s07Fails := 0, limp := limp } ∧ (u.unmarked limp).lcs = s.lcs ∧
        (u.unmarked limp).recNewest = s.recNewest := fun u h =>
    ⟨by rw [State.unmarked, h.boot], h.lcs, (recNewest_boot u _).trans h.recNewest⟩
  unfold State.unheld
  split
  · next f _ => exact hlog _ (failedEntry_frame s f)
  · exact hlog _ (.refl s)

/-- The record handled: a wipe completed, a trial counted, pending fuses burned (R592, R601). -/
def State.recHandled (s : State) : State := s.finishWipe.countTrial.burnPending

/-- This start's entry opened, and S07 completed. -/
def State.openEntry (s : State) (bank mode : Nat) : State :=
  let e := s.newEntry (s.fld A.bootCause 3 0) bank mode
  let s4 := e.2.writeLE (e.1 + 0x0C) 4 (e.2.stepsWord 6).toNat
  State.stepDone { s4 with boot := { s4.boot with entry := some e.1 } } 7

theorem flashStep_eq (s : State) (limp : Bool) (l : List (Nat × Nat)) :
    s.flashStep limp l = (((s.unheld limp).recHandled).showPrev l).openEntry
      (if limp then 0xFE else (((s.unheld limp).recHandled).showPrev l).startBank) (b2n limp) := by
  unfold State.flashStep State.unheld
  cases s.boot.early <;> rfl

/-- The state whose start writes the entry at key `k`. -/
def State.withEntry (s : State) (k : Nat) : State := { s with boot := { s.boot with entry := some k } }

theorem markStep_logFrame (s : State) (n : Nat) (h : ∀ k, s.boot.entry = some k → logKey 0 ≤ k) :
    LogFrame (s.atStep n) (s.markStep n) :=
  (LogFrame.setFld (s.atStep n) A.bootStat 4 0 n).trans (logBit_logFrame 0x0C (n - 1) h)

/-- The new entry stands in the start controller; fuses and the record stay. -/
theorem openEntry_spec (s : State) (bank mode : Nat) :
    (s.openEntry bank mode).boot = { s.boot with entry := some (logKey s.nextSlot), step := 7 } ∧
      (s.openEntry bank mode).lcs = s.lcs ∧ (s.openEntry bank mode).recNewest = s.recNewest := by
  unfold State.openEntry
  have hkey : (s.newEntry (s.fld A.bootCause 3 0) bank mode).1 = logKey s.nextSlot := newEntry_fst s _ _ _
  have he := newEntry_frame s (s.fld A.bootCause 3 0) bank mode
  generalize s.newEntry (s.fld A.bootCause 3 0) bank mode = e at hkey he ⊢
  have h4 : LogFrame s (e.2.writeLE (e.1 + 0x0C) 4 (e.2.stepsWord 6).toNat) :=
    he.trans (.writeLE _ _ _ (by rw [hkey]; exact (logKey_zero_le _).trans (Nat.le_add_right _ _)))
  simp only
  generalize e.2.writeLE (e.1 + 0x0C) 4 (e.2.stepsWord 6).toNat = u at h4 ⊢
  rw [hkey]
  have hmark := markStep_logFrame (u.withEntry (logKey s.nextSlot)) 7 fun k hk => Option.some.inj hk ▸ logKey_zero_le _
  have hstep := stepDone_eq_markStep (u.withEntry (logKey s.nextSlot)) (n := 7) (by decide) (by decide)
  refine ⟨?_, ?_, ?_⟩
  · exact (congrArg (·.boot) hstep).trans (hmark.boot.trans (by rw [State.atStep, State.withEntry, h4.boot]))
  · exact (congrArg (·.lcs) hstep).trans (hmark.lcs.trans h4.lcs)
  · exact (congrArg (·.recNewest) hstep).trans (hmark.recNewest.trans ((recNewest_boot u _).trans h4.recNewest))

/-! ### What the handling of the record keeps -/

/-- A limp start, and no held failures. -/
def State.startMark (s : State) : Bool × Option Failure × Nat := (s.boot.limp, s.boot.early, s.boot.s07Fails)

theorem startMark_writeRec (s : State) (r : UpdRec) : (s.writeRec r).startMark = s.startMark :=
  writeRec_keeps State.startMark (fun _ _ _ => rfl) (fun _ _ _ => rfl) (fun _ _ => rfl) s r

theorem startMark_writeBytes (s : State) (k : Nat) (bs : List Byte) : (s.writeBytes k bs).startMark = s.startMark := rfl

theorem startMark_eraseSector (s : State) (k : Nat) : (s.eraseSector k).startMark = s.startMark := by
  unfold State.eraseSector
  exact startMark_writeBytes s k _

theorem startMark_eraseSectors (s : State) (k n : Nat) : (s.eraseSectors k n).startMark = s.startMark := by
  induction n generalizing s k with
  | zero => rfl
  | succ n ih =>
    unfold State.eraseSectors
    exact (ih _ _).trans (startMark_eraseSector s k)

theorem startMark_flashOn (s : State) : s.flashOn.startMark = s.startMark :=
  congrArg (fun b : Boot => (b.limp, b.early, b.s07Fails)) (LogFrame.flashOn s).boot

theorem startMark_wipeFlash (s : State) (target : Nat) : (s.wipeFlash target).startMark = s.startMark := by
  unfold State.wipeFlash
  split
  · exact (startMark_eraseSectors _ _ _).trans ((startMark_eraseSectors _ _ _).trans (startMark_flashOn s))
  · exact (startMark_eraseSectors _ _ _).trans (startMark_flashOn s)

theorem startMark_finishWipe (s : State) : s.finishWipe.startMark = s.startMark := by
  unfold State.finishWipe
  simp only
  split
  · exact (startMark_writeRec _ _).trans (startMark_wipeFlash s _)
  · rfl

theorem startMark_ended (s : State) :
    ({ s with boot := { s.boot with fellBack := true } } : State).startMark = s.startMark := rfl

theorem startMark_countTrial (s : State) : s.countTrial.startMark = s.startMark := by
  unfold State.countTrial
  simp only
  split
  · rfl
  · split
    · exact (startMark_ended _).trans (startMark_writeRec s _)
    · exact startMark_writeRec s _

theorem startMark_burnPending (s : State) : s.burnPending.startMark = s.startMark := by
  unfold State.burnPending
  simp only
  split
  · exact startMark_writeRec (s.burnArb s.updRec.secver.toNat) _
  · rfl

theorem startMark_recHandled (s : State) : s.recHandled.startMark = s.startMark :=
  (startMark_burnPending _).trans ((startMark_countTrial _).trans (startMark_finishWipe s))

end Sys2Proof.Machine
end

section
/-! SUPPORT. The clauses of S07 for a flash that can be read (R592, R600, R601). -/

namespace Sys2Proof.Machine

section
variable {s : State}

/-! ### The handling of the record, step by step -/

/-- No wipe is to be completed: the device is neither EOL nor SCRAP, or its record says WIPED. -/
abbrev State.WipeDone (s : State) : Prop := (s.lcs' ≠ 5 ∧ s.lcs' ≠ 6) ∨ s.updRec.wiped = true

theorem finishWipe_of_wipeDone (h : s.WipeDone) : s.finishWipe = s := by
  unfold State.finishWipe
  refine if_neg fun hw => ?_
  obtain ⟨hl, hn⟩ := hw
  rcases h with ⟨h5, h6⟩ | hw
  · exact hl.elim h5 h6
  · rw [hw] at hn
    exact absurd hn (by decide)

theorem countTrial_of_noTrial (h : s.updRec.state ≠ 3) : s.countTrial = s := if_pos h

theorem countTrial_counts (h : s.updRec.state = 3) (ht : s.updRec.tries ≠ 3) :
    s.countTrial = s.writeRec { s.updRec with tries := s.updRec.tries + 1 } :=
  (if_neg (not_not.mpr h)).trans (if_neg ht)

/-- A trial that has ended in the other bank (R601). -/
def State.fellBack (s : State) (r : UpdRec) : State :=
  { s.writeRec r with boot := { (s.writeRec r).boot with fellBack := true } }

theorem countTrial_ends (h : s.updRec.state = 3) (ht : s.updRec.tries = 3) :
    s.countTrial = s.fellBack { s.updRec with active := 1 - s.updRec.active, state := 4, reason := 1 } :=
  (if_neg (not_not.mpr h)).trans (if_pos ht)

theorem burnPending_of_none (h : s.updRec.arbPending = false) : s.burnPending = s :=
  if_neg (Bool.eq_false_iff.mp h)

theorem burnPending_burns (h : s.updRec.arbPending = true) :
    s.burnPending = (s.burnArb s.updRec.secver.toNat).writeRec { s.updRec with arbPending := false } :=
  if_pos h

/-- A record with a trial or with pending fuses stands in a copy. -/
theorem recNewest_isSome (h : s.updRec ≠ UpdRec.none') : ∃ i, s.recNewest = some (i, s.updRec) := by
  cases hn : s.recNewest with
  | none => exact absurd (by rw [State.updRec, hn]; rfl) h
  | some p => exact ⟨p.1, by rw [updRec_of_recNewest hn]⟩

/-- A record write with SEQ + 1. -/
theorem updRec_writeRec {r : UpdRec} (h : s.updRec ≠ UpdRec.none') (hr : r.Fits) :
    (s.writeRec r).updRec = { r with seq := s.updRec.seq + 1#32 } := by
  obtain ⟨i, hi⟩ := recNewest_isSome h
  exact updRec_of_recNewest (recNewest_writeRec hi hr)

theorem updRec_fellBack (s : State) (r : UpdRec) : (s.fellBack r).updRec = (s.writeRec r).updRec := by
  rw [State.updRec, State.updRec, State.fellBack, recNewest_boot]

theorem ne_none_of_trial (h : s.updRec.state = 3) : s.updRec ≠ UpdRec.none' := by
  intro hn
  rw [hn] at h
  exact absurd h (by decide)

theorem ne_none_of_pending (h : s.updRec.arbPending = true) : s.updRec ≠ UpdRec.none' := by
  intro hn
  rw [hn] at h
  exact absurd h (by decide)

/-! ### The record after its handling -/

section
variable (hw : s.WipeDone)
include hw

theorem recHandled_keeps (h : s.updRec.state ≠ 3) (ha : s.updRec.arbPending = false) : s.recHandled = s := by
  rw [State.recHandled, finishWipe_of_wipeDone hw, countTrial_of_noTrial h, burnPending_of_none ha]

theorem recHandled_counts (h : s.updRec.state = 3) (ht : s.updRec.tries < 3) (ha : s.updRec.arbPending = false) :
    s.recHandled.updRec = { s.updRec with tries := s.updRec.tries + 1, seq := s.updRec.seq + 1#32 } := by
  have hf := updRec_fits s
  have hr := updRec_writeRec (ne_none_of_trial h) (r := { s.updRec with tries := s.updRec.tries + 1 })
    ⟨hf.active, hf.state, hf.target, by show s.updRec.tries + 1 < 256; omega, hf.rxLen, hf.rxOff, hf.reason⟩
  rw [State.recHandled, finishWipe_of_wipeDone hw, countTrial_counts h (by omega), burnPending_of_none (by rw [hr]; exact ha),
    hr]

theorem recHandled_ends (h : s.updRec.state = 3) (ht : s.updRec.tries = 3) (ha : s.updRec.arbPending = false) :
    s.recHandled.boot.fellBack = true ∧ s.recHandled.updRec =
      { s.updRec with active := 1 - s.updRec.active, state := 4, reason := 1, seq := s.updRec.seq + 1#32 } := by
  have hf := updRec_fits s
  have hr := updRec_writeRec (ne_none_of_trial h)
    (r := { s.updRec with active := 1 - s.updRec.active, state := 4, reason := 1 })
    ⟨by show 1 - s.updRec.active < 256; omega, by show 4 < 256; decide, hf.target, hf.tries, hf.rxLen, hf.rxOff,
      by show 1 < 256; decide⟩
  rw [State.recHandled, finishWipe_of_wipeDone hw, countTrial_ends h ht,
    burnPending_of_none (by rw [updRec_fellBack, hr]; exact ha), updRec_fellBack, hr]
  exact ⟨rfl, rfl⟩

theorem recHandled_burns (h : s.updRec.state ≠ 3) (ha : s.updRec.arbPending = true) :
    s.recHandled.updRec = { s.updRec with arbPending := false, seq := s.updRec.seq + 1#32 } ∧
      s.recHandled.lcs.otp.arb = max s.lcs.otp.arb (min 127 s.updRec.secver.toNat) := by
  have hf := updRec_fits s
  have hb : (s.burnArb s.updRec.secver.toNat).updRec = s.updRec := rfl
  have hr := updRec_writeRec (s := s.burnArb s.updRec.secver.toNat) (r := { s.updRec with arbPending := false })
    (by rw [hb]; exact ne_none_of_pending ha)
    ⟨hf.active, hf.state, hf.target, hf.tries, hf.rxLen, hf.rxOff, hf.reason⟩
  rw [State.recHandled, finishWipe_of_wipeDone hw, countTrial_of_noTrial h, burnPending_burns ha, hr, hb, lcs_writeRec]
  exact ⟨rfl, rfl⟩

end

/-! ### The state after S07 -/

/-- S07 leaves the handled record and fuses, a limp start or not, no held failure, and this start's entry. -/
theorem flashStep_spec (s : State) (limp : Bool) (l : List (Nat × Nat)) {t u : State} (ht : s.flashStep limp l = t)
    (hu : (s.unheld limp).recHandled = u) :
    t.boot.step = 7 ∧ t.boot.limp = limp ∧ t.boot.early = none ∧ t.boot.s07Fails = 0 ∧ t.boot.entry.isSome = true ∧
      t.boot.fellBack = u.boot.fellBack ∧ t.updRec = u.updRec ∧ t.lcs = u.lcs := by
  have hmark : u.startMark = (limp, none, 0) := by
    rw [← hu, startMark_recHandled, State.startMark, (unheld_spec s limp).1]
  rw [flashStep_eq, hu] at ht
  have hprev := showPrev_frame u l
  obtain ⟨hboot, hlcs, hrec⟩ := openEntry_spec (u.showPrev l) (if limp then 0xFE else (u.showPrev l).startBank) (b2n limp)
  rw [ht] at hboot hlcs hrec
  rw [hprev.boot] at hboot
  obtain ⟨hlimp, hearly, hfails⟩ : u.boot.limp = limp ∧ u.boot.early = none ∧ u.boot.s07Fails = 0 := by
    simpa only [State.startMark, Prod.mk.injEq] using hmark
  refine ⟨by rw [hboot], by rw [hboot, hlimp], by rw [hboot, hearly], by rw [hboot, hfails], by rw [hboot, Option.isSome_some],
    by rw [hboot], ?_, hlcs.trans hprev.lcs⟩
  rw [State.updRec, State.updRec, hrec, hprev.recNewest]

theorem flash_noRecord_fails (hd : s.stepDue 7 = true) (hn : s.recNewest = none) (hl : limpNow s.countedNow = false) :
    Completes (.flashAndUpdateRecord none) s (StepFailed s 7 7 0xFFFF) := by
  have hb := boot_stepFails_flash s 7 0xFFFF
  refine ⟨s.stepFails 7 7 0xFFFF, ?_, .of_boot (by rw [hb]) (by rw [hb])⟩
  show execFlashAndUpdateRecord none s = _
  simp only [execFlashAndUpdateRecord, hd, hn, hl, Bool.not_true, Bool.not_false, Bool.false_eq_true, and_self, if_false,
    if_true]

theorem exec_flash (hd : s.stepDue 7 = true) (h : s.recNewest.isSome = true ∨ limpNow s.countedNow = true) :
    exec (.flashAndUpdateRecord none) s = .next (s.flashStep (limpNow s.countedNow) s.countedNow) := by
  have hc : ¬ (s.recNewest = none ∧ (!limpNow s.countedNow) = true) := by
    rintro ⟨hn, hl⟩
    rcases h with h | h
    · rw [hn] at h
      exact absurd h (by decide)
    · rw [h] at hl
      exact absurd hl (by decide)
  show execFlashAndUpdateRecord none s = _
  simp only [execFlashAndUpdateRecord, hd, Bool.not_true, Bool.false_eq_true, if_false, if_neg hc]

/-- S07 with a record, or in a limp start. -/
theorem flash_handles (hd : s.stepDue 7 = true) (h : s.recNewest.isSome = true ∨ limpNow s.countedNow = true) :
    let r := s.updRec
    let keep := (s.lcs' ≠ 5 ∧ s.lcs' ≠ 6) ∨ r.wiped = true
    Completes (.flashAndUpdateRecord none) s (fun t => t.boot.step = 7 ∧ t.boot.limp = limpNow s.countedNow ∧
      t.boot.early = none ∧ t.boot.s07Fails = 0 ∧ t.boot.entry.isSome = true ∧
      (keep → r.state ≠ 3 → r.arbPending = false → t.updRec = r) ∧
      (keep → r.state = 3 → r.tries < 3 → r.arbPending = false →
        t.updRec = { r with tries := r.tries + 1, seq := r.seq + 1#32 }) ∧
      (keep → r.state = 3 → r.tries = 3 → r.arbPending = false → t.boot.fellBack = true ∧
        t.updRec = { r with active := 1 - r.active, state := 4, reason := 1, seq := r.seq + 1#32 }) ∧
      (keep → r.state ≠ 3 → r.arbPending = true → t.updRec = { r with arbPending := false, seq := r.seq + 1#32 } ∧
        t.lcs.otp.arb = max s.lcs.otp.arb (min 127 r.secver.toNat))) := by
  intro r keep
  refine ⟨_, exec_flash hd h, ?_⟩
  obtain ⟨hstep, hlimp, hearly, hfails, hentry, hfell, hrec, hlcs⟩ :=
    flashStep_spec s (limpNow s.countedNow) s.countedNow rfl rfl
  obtain ⟨-, hulcs, hurec⟩ := unheld_spec s (limpNow s.countedNow)
  generalize s.flashStep (limpNow s.countedNow) s.countedNow = t at *
  generalize s.unheld (limpNow s.countedNow) = u at *
  have hu : u.updRec = r := by rw [State.updRec, hurec]; rfl
  have hkeep : keep → u.WipeDone := by
    rw [State.WipeDone, State.lcs', hulcs, hu]
    exact id
  refine ⟨hstep, hlimp, hearly, hfails, hentry, fun hk hs ha => ?_, fun hk hs ht ha => ?_, fun hk hs ht ha => ?_,
    fun hk hs ha => ?_⟩ <;> rw [← hu] at hs ha ⊢
  · rw [hrec, recHandled_keeps (hkeep hk) hs ha]
  · rw [hrec, recHandled_counts (hkeep hk) hs (hu ▸ ht) ha]
  · obtain ⟨h1, h2⟩ := recHandled_ends (hkeep hk) hs (hu ▸ ht) ha
    exact ⟨hfell.trans h1, hrec.trans h2⟩
  · obtain ⟨h1, h2⟩ := recHandled_burns (hkeep hk) hs ha
    exact ⟨hrec.trans h1, (congrArg (·.otp.arb) hlcs).trans (h2.trans (by rw [hulcs]))⟩

end

end Sys2Proof.Machine
end

section
/-! PROOFS. O10: the clauses of the start steps put together. -/

namespace Sys2Proof.Machine

section
variable {s : State}

/-- S12 and S13, in the statement's words: which fallbacks of channel `x` are kept. -/
theorem fallKept_eq_false {x : Nat} (h0 : ¬ bit s.boot.fallback (1 + 3 * x) = true)
    (h1 : ¬ bit s.boot.fallback (1 + 3 * x + 1) = true) (h2 : ¬ bit s.boot.fallback (1 + 3 * x + 2) = true) :
    s.fallKept x = false := by
  rw [State.fallKept, Bool.eq_false_of_not_eq_true h0, Bool.eq_false_of_not_eq_true h1, Bool.eq_false_of_not_eq_true h2]
  rfl

theorem fallKept_of_replay {x : Nat} (h0 : bit s.boot.fallback (1 + 3 * x) = true) : s.fallKept x = true := by
  rw [State.fallKept, h0, Bool.true_or, Bool.true_or]

/-- Every case of a training step (R79, Table 3-6). -/
theorem training_cases (x : Fin 2) (rp sl df two : Bool) (hd : s.stepDue (12 + x) = true) (hsz : s.density x < 8)
    (hr : s.boot.drspd < 4) :
    let cmd := trainCmd x rp sl df two
    let on := fun (k : Nat) => bit s.boot.fallback (1 + 3 * x.val + k) = true
    let how := fun (t : State) => bits (t.reg (A.drcStat x)) 10 9
    (∀ bad, s.density x = 0 → Completes (cmd bad) s (fun t => t.boot.step = 12 + x ∧
      t.boot.fallback = s.boot.fallback)) ∧
    (s.density x ≠ 0 → ¬ on 0 → ¬ on 1 → ¬ on 2 →
      Completes (cmd none) s (fun t => t.boot.step = 12 + x ∧ how t = 0 ∧ t.boot.fallback = s.boot.fallback ∧
        (df = true → x.val ∈ t.boot.train)) ∧
      ∀ d : Fin 6, Completes (cmd (some d)) s (StepFailed s (12 + x) 0x0C (d.val + 1))) ∧
    (∀ bad, s.density x ≠ 0 → on 0 → x.val ∈ s.boot.train → rp = true → Completes (cmd bad) s (fun t =>
      t.boot.step = 12 + x ∧ how t = 1 ∧ t.boot.fallback = s.boot.fallback)) ∧
    (∀ bad, s.density x ≠ 0 → on 0 → ¬ on 2 → x.val ∉ s.boot.train ∨ rp = false →
      (sl = true → Completes (cmd bad) s (fun t => t.boot.step = 12 + x ∧ how t = 2 ∧
        bit t.boot.fallback (2 + 3 * x.val) = true ∧ bit t.boot.fallback (1 + 3 * x.val) = false)) ∧
      (sl = false → Completes (cmd bad) s (fun t => t.boot.step = 12 + x ∧
        bit t.boot.fallback (3 + 3 * x.val) = true))) := by
  intro cmd on how
  refine ⟨fun bad h0 => training_noMemory hd bad h0, fun h0 n0 n1 n2 => ?_,
    fun bad h0 k0 hm hrp => training_replays hd hsz hr bad h0 k0 hm hrp, fun bad h0 k0 n2 h => ⟨fun hs => ?_, fun hs => ?_⟩⟩
  · have hk := fallKept_eq_false n0 n1 n2
    exact ⟨training_passes hd hsz hr h0 hk, fun d => training_fails hd d h0 hk⟩
  · exact training_slows hd hsz hr bad h0 (fallKept_of_replay k0) (Bool.eq_false_of_not_eq_true n2) h hs
  · exact training_disables hd bad h0 (fallKept_of_replay k0) h hs

/-- S20 with the channels in service named as the shape and the fallbacks do. -/
theorem ready_completes {us : W32} {vm tj : BitVec 16} (hd : s.stepDue 20 = true) (hl : s.boot.l0 = true) :
    let p := s.shp.fabric.period
    let up := fun (x : Nat) => (if x = 0 then s.shp.memory.densA else s.shp.memory.densB) ≠ 0 ∧
      bit s.boot.fallback (3 + 3 * x) = false ∧ s.boot.limp = false
    Completes (.ready us vm tj) s (fun t => t.boot.step = 20 ∧ t.boot.running = false ∧
      bit (t.reg A.bootStat) 5 = true ∧
      (bit (t.reg A.bootStat) 6 = true ↔ s.boot.limp = true ∨ s.boot.fallback ≠ 0#32) ∧
      t.reg A.bootFallback = s.boot.fallback ∧ (t.reg (A.bootQuar 0)).toNat = s.boot.quar.toNat % 0x100000000 ∧
      t.reg A.bootElapsed = us ∧ t.reg A.tbPeriod = BitVec.ofNat 32 p ∧ t.tb.timer = true ∧ t.tb.cycRun = false ∧
      t.tb.cycStart = BitVec.ofNat 64 ((s.time / p + 1) * p) ∧
      (∀ x, x < 2 → up x → bits (t.reg (A.drcStat x)) 2 0 = if (s.ch x).fills = [] then 1 else 4) ∧
      (bit (t.reg A.topCaps) 18 = true ↔ s.boot.limp = true) ∧
      (bit (t.reg A.topCaps) 16 = true ↔ up 0) ∧ (bit (t.reg A.topCaps) 17 = true ↔ up 1) ∧
      (s.boot.limp = true → bits (t.reg A.topCaps) 15 0 = 0)) := by
  intro p up
  have hup : ∀ x, s.channelUp x = true ↔ up x := channelUp_iff s
  obtain ⟨t, ht, hstep, hrun, h5, h6, hfall, hquar, hus, hper, htimer, hcyc, hstart, hch, hcaps⟩ :=
    ready_starts (us := us) (vinmin := vm) (tjmax := tj) hd hl
  obtain ⟨h18, h16, h17⟩ := capsWord_bits s
  refine ⟨t, ht, hstep, hrun, h5, h6, hfall, hquar, hus, hper, htimer, hcyc, hstart,
    fun x hx hu => hch x hx ((hup x).mpr hu), ?_, ?_, ?_, fun h => ?_⟩ <;> rw [hcaps]
  · exact h18
  · exact h16.trans (hup 0)
  · exact h17.trans (hup 1)
  · exact capsWord_low s h

end

/-- Settles O10: each start step's cases from the equation of its command; for S07 the record's round trip through the
flash and that the start log lies outside it. -/
theorem startsUseTheRecordTheImageAndTheirFallbacks : Obligations.StartsUseTheRecordTheImageAndTheirFallbacks := by
  unfold Obligations.StartsUseTheRecordTheImageAndTheirFallbacks
  intro s _ fails
  refine ⟨fun hd => ⟨fun d => ⟨fun h _ => flash_unreadable_fails hd h d, fun h => flash_unreadable_limps hd h d⟩,
      fun hn hl _ => flash_noRecord_fails hd hn hl, flash_handles hd⟩,
    fun hd => ⟨imageSelect_limp hd, imageSelect_noSlots hd, fun hl h1 h6 => ⟨imageSelect_pass hd hl h1 h6, fun e he =>
      ⟨imageSelect_failsFirst hd hl h1 h6 he, fun o => imageSelect_failsOther hd hl h1 h6 he⟩⟩⟩,
    fun hd => ⟨shapeLoad_limp hd, fun b hl hb => ⟨shapeLoad_pass hd hl hb, fun e he =>
      ⟨shapeLoad_failsFirst hd hl hb he, fun o => shapeLoad_failsOther hd hl hb he⟩⟩⟩,
    fun x rp sl df two => ?_,
    fun bad hd => ⟨selfTest_pass hd, ?_, selfTest_empty hd, ?_⟩,
    fun cal bad hd hmax hinit => ⟨fun hf => calibration_held hd hf hmax, fun hf => ⟨?_, ?_⟩⟩,
    fun hd => ⟨fun d => ⟨fun hl => secureWorld_continues hd hl d, fun hl => secureWorld_fails hd hl d⟩,
      secureWorld_starts hd⟩,
    fun us vm tj => ⟨ready_waits, fun hd hl => ?_⟩⟩
  · intro n cmd size on how
    have hsize : size = s.density x := by fin_cases x <;> rfl
    clear_value size
    subst hsize
    exact training_cases x rp sl df two
  · rintro c rfl hq he hc
    exact selfTest_fail hd hq he hc
  · rintro c k p rfl hq hp hkc hk hlow he
    exact selfTest_replaces hd hq hp hkc hk hlow he
  · rintro c rfl
    exact calibration_fails hd c hf
  · rintro rfl
    exact calibration_passes hd hf hinit
  · exact ready_completes hd hl

end Sys2Proof.Machine
end

section
/-! SUPPORT. The start steps in general (R67, R78, R82, R83, section 3.4): when a step runs, what a completed step shows and
leaves in memory, and what a failed step records. -/

namespace Sys2Proof.Machine

/-! ### When a step runs -/

section
variable {s : State} {n : Nat}

/-- Outside a limp start step `n` runs directly after step `n - 1` (R67). -/
theorem stepDue_full (hl : s.boot.limp = false) (h : s.stepDue n = true) :
    s.boot.step = n - 1 ∧ s.boot.running = true ∧ s.boot.held = false ∧ s.boot.failed = none := by
  simp only [State.stepDue, State.before, hl, Bool.and_eq_true, Bool.not_eq_true', Option.isNone_iff_eq_none,
    decide_eq_true_eq, Bool.false_eq_true, if_false] at h
  obtain ⟨⟨⟨⟨hrun, hheld⟩, hfail⟩, hstep⟩, -⟩ := h
  exact ⟨hstep, hrun, hheld, hfail⟩

/-- A limp start skips S12 to S14 and S16 to S18 (R82). -/
theorem stepDue_limp (hl : s.boot.limp = true) (hn : n ∈ [12, 13, 14, 16, 17, 18]) : s.stepDue n = false := by
  have hc : [12, 13, 14, 16, 17, 18].contains n = true := List.contains_iff_mem.mpr hn
  rw [State.stepDue, hl, hc, Bool.and_self, Bool.not_true, Bool.and_false]

variable {c : Nat} {f : State → State}

theorem plainStep_idle (h : s.stepDue n = false) (bad : Option Nat) : s.plainStep n c bad f = .next s := by
  simp [State.plainStep, h]

theorem plainStep_passes (h : s.stepDue n = true) : s.plainStep n c none f = .next ((f s).stepDone n) := by
  simp [State.plainStep, h]

theorem plainStep_fails (h : s.stepDue n = true) (d : Nat) : s.plainStep n c (some d) f = .next (s.stepFails n c d) := by
  simp [State.plainStep, h]

end

/-! ### A completed step -/

/-- Step `n` is the last completed one, as BOOT_STAT shows, nothing has failed, and the start is as limp as before. -/
def StepPassed (s : State) (n : Nat) (t : State) : Prop :=
  t.boot.step = n ∧ bits (t.reg A.bootStat) 4 0 = n ∧ t.boot.failed = none ∧ t.boot.limp = s.boot.limp

section
variable {s t u : State} {n : Nat}

/-- What writes only the log does not change what a completed step shows. -/
theorem StepPassed.store (h : StepPassed s n t) (k : StoreFrame FlashReg t u) : StepPassed s n u := by
  unfold StepPassed
  rw [k.boot, k.reg (show ¬ FlashReg A.bootStat by decide)]
  exact h

theorem markStep_passed (hf : s.boot.failed = none) (hn : n < 32) : StepPassed s n (s.markStep n) := by
  have hset : StepPassed s n ((s.atStep n).setFld A.bootStat 4 0 n) := by
    refine ⟨rfl, ?_, hf, rfl⟩
    rw [State.reg_setFld_same, bits_setBits_same _ _ _ _ (by decide)]
    exact Nat.mod_eq_of_lt hn
  exact hset.store (logBit_frame _ _ _)

theorem stepDone_passed (hf : s.boot.failed = none) (hn : n < 32) (h11 : n ≠ 11) (h14 : n ≠ 14) :
    StepPassed s n (s.stepDone n) := by
  rw [stepDone_eq_markStep s h11 h14]
  exact markStep_passed hf hn

/-- With the link in L0, S15 completes at once (R67). -/
theorem linkStep_passed (hf : s.boot.failed = none) (hl : s.boot.l0 = true) : StepPassed s 15 s.linkStep := by
  have hm : StepPassed s 15 (s.markStep 15) := markStep_passed hf (by decide)
  unfold State.linkStep
  rw [if_pos hl]
  dsimp only
  split
  · exact hm.store (skipSteps_frame _ _)
  · exact hm

theorem linkStep_waits (hl : s.boot.l0 = false) : s.linkStep = s := by
  rw [State.linkStep, if_neg (by rw [hl]; decide)]

/-- S15 after a step that has completed: with the link in L0 it completes too. -/
theorem StepPassed.linkStep (h : StepPassed s n t) : StepPassed s (if t.boot.l0 = true then 15 else n) t.linkStep := by
  have ⟨_, _, hf, hlimp⟩ := h
  cases hl : t.boot.l0 with
  | false =>
    rw [linkStep_waits hl, if_neg (by decide)]
    exact h
  | true =>
    obtain ⟨hstep, hstat, hf', hlimp'⟩ := linkStep_passed hf hl
    exact ⟨hstep, hstat, hf', hlimp'.trans hlimp⟩

/-- S14 completes, and S15 with it when the link is in L0. -/
theorem stepDone_serdes_passed (hf : s.boot.failed = none) :
    StepPassed s (if s.boot.l0 = true then 15 else 14) (s.stepDone 14) := by
  have h := (markStep_passed (n := 14) hf (by decide)).linkStep
  rwa [(markStep_frame s 14).boot] at h

/-- S11 completes; in a limp start with the link in L0, S15 completes with it. -/
theorem stepDone_pll_passed (hf : s.boot.failed = none) :
    StepPassed s (if s.boot.limp = true ∧ s.boot.l0 = true then 15 else 11) (s.stepDone 11) := by
  have hm : StepPassed s 11 (s.markStep 11) := markStep_passed hf (by decide)
  have hb : (s.markStep 11).boot = { s.boot with step := 11 } := (markStep_frame s 11).boot
  cases hl : s.boot.limp with
  | false =>
    have he : s.stepDone 11 = s.markStep 11 := by simp [State.stepDone, hb, hl]
    rw [he, if_neg fun h => Bool.false_ne_true h.1]
    exact hm
  | true =>
    have he : s.stepDone 11 = ((s.markStep 11).skipSteps [12, 13, 14]).linkStep := by simp [State.stepDone, hb, hl]
    have hk := skipSteps_frame (s.markStep 11) [12, 13, 14]
    have h := (hm.store hk).linkStep
    rw [hk.boot, hb] at h
    rw [he]
    simpa using h

end

/-! ### Memory and the log -/

/-- This start's entry, where there is one, lies in the flash. -/
def State.LogInFlash (s : State) : Prop := ∀ k, s.boot.entry = some k → kFlash ≤ k ∧ k + 64 ≤ kImageStore

theorem rangeFrom_eq_range' (n lo : Nat) : rangeFrom n lo = List.range' lo n := by
  induction n generalizing lo with
  | zero => rfl
  | succ n ih => rw [rangeFrom, ih, List.range'_succ]

@[simp] theorem mem_flashOn (s : State) : s.flashOn.mem = s.mem := by
  unfold State.flashOn
  split <;> rfl

theorem readByte_congr {s t : State} (h : t.mem = s.mem) (j : Nat) : t.readByte j = s.readByte j := by
  rw [State.readByte, State.readByte, h]

theorem readByte_writeLE_out (s : State) {k n j : Nat} (v : Nat) (h : j < k ∨ k + n ≤ j) :
    (s.writeLE k n v).readByte j = s.readByte j :=
  State.readByte_writeBytes_out s k j _ (by rwa [length_leBytes])

theorem readByte_flashOn (s : State) (j : Nat) : s.flashOn.readByte j = s.readByte j := readByte_congr (mem_flashOn s) j

/-- Bytes outside the flash are not changed by a completed step's mark in the log. -/
theorem readByte_markStep (s : State) (n : Nat) (hlog : s.LogInFlash) {j : Nat} (hj : j < kFlash ∨ kImageStore ≤ j) :
    (s.markStep n).readByte j = s.readByte j := by
  unfold State.markStep State.logBit
  split
  · rfl
  · next k hk =>
    obtain ⟨hlo, hhi⟩ := hlog k hk
    rw [readByte_writeLE_out _ _ (by omega), readByte_flashOn]
    rfl

theorem readByte_stepDone (s : State) {n : Nat} (h11 : n ≠ 11) (h14 : n ≠ 14) (hlog : s.LogInFlash) {j : Nat}
    (hj : j < kFlash ∨ kImageStore ≤ j) : (s.stepDone n).readByte j = s.readByte j := by
  rw [stepDone_eq_markStep s h11 h14]
  exact readByte_markStep s n hlog hj

/-! ### A number in this start's entry -/

section
variable {s : State} {k : Nat} (he : s.boot.entry = some k)
include he

theorem logPut_eq (o n v : Nat) : s.logPut o n v = s.flashOn.writeLE (k + o) n v := by
  unfold State.logPut
  rw [he]

theorem readByte_logPut_out (o n v : Nat) {j : Nat} (h : j < k + o ∨ k + o + n ≤ j) :
    (s.logPut o n v).readByte j = s.readByte j := by
  rw [logPut_eq he, readByte_writeLE_out _ _ h, readByte_flashOn]

theorem readBytes_logPut (o n v : Nat) : (s.logPut o n v).readBytes (k + o) n = leBytes n v := by
  rw [logPut_eq he]
  refine List.ext_getElem (by simp [State.readBytes]) fun i h1 h2 => ?_
  simp only [State.readBytes, rangeFrom_eq_range', List.getElem_map, List.getElem_range', Nat.one_mul]
  exact State.readByte_writeBytes_in _ _ _ _ h2

theorem readByte_logPut (o v : Nat) : (s.logPut o 1 v).readByte (k + o) = BitVec.ofNat 8 v :=
  (List.cons.inj (readBytes_logPut he o 1 v)).1

/-- The failure's step, cause and DETAIL stand in the entry, and nothing else of the memory has changed. -/
theorem logFailure_entry {n cause detail : Nat} (hn : n < 256) (hc : cause < 256) (hd : detail < 65536) :
    ((s.logFailure n cause detail).readByte (k + 0x14)).toNat = n ∧
      ((s.logFailure n cause detail).readByte (k + 0x15)).toNat = cause ∧
        (s.logFailure n cause detail).readLE (k + 0x16) 2 = detail ∧
          SameMemoryBut s (s.logFailure n cause detail) (k + 0x14) 4 := by
  have h1 : (s.logPut 0x14 1 n).boot.entry = some k := by rw [(logPut_frame s _ _ _).boot]; exact he
  have h2 : ((s.logPut 0x14 1 n).logPut 0x15 1 cause).boot.entry = some k := by
    rw [(logPut_frame _ _ _ _).boot]; exact h1
  unfold State.logFailure
  refine ⟨?_, ?_, ?_, fun j hj => ?_⟩
  · rw [readByte_logPut_out h2 _ _ _ (by omega), readByte_logPut_out h1 _ _ _ (by omega), readByte_logPut he,
      BitVec.toNat_ofNat, Nat.mod_eq_of_lt hn]
  · rw [readByte_logPut_out h2 _ _ _ (by omega), readByte_logPut h1, BitVec.toNat_ofNat, Nat.mod_eq_of_lt hc]
  · rw [State.readLE, readBytes_logPut h2, leNat_leBytes]
    exact Nat.mod_eq_of_lt hd
  · rw [readByte_logPut_out h2 _ _ _ (by omega), readByte_logPut_out h1 _ _ _ (by omega),
      readByte_logPut_out he _ _ _ (by omega)]

end

theorem mem_logFailure_none {s : State} (h : s.boot.entry = none) (n cause detail : Nat) :
    (s.logFailure n cause detail).mem = s.mem := by
  simp [State.logFailure, State.logPut, h]

/-! ### A failed step -/

/-- The steps whose failure halts the device in a limp start (R83). -/
abbrev HaltStep (n : Nat) : Prop := n = 2 ∨ n = 6 ∨ n = 10 ∨ n = 11

/-- A failed step is recorded: up to S07 in the always-on domain, later in this start's entry (section 3.4). -/
def State.recordFailure (s : State) (n cause detail : Nat) : State :=
  let t := if n ≤ 7 then { s with boot := { s.boot with
        early := some (s.failure n cause detail)
        s07Fails := if n = 7 then s.boot.s07Fails + 1 else s.boot.s07Fails } }
    else s.logFailure n cause detail
  { t with boot := { t.boot with bankFail := if n = 8 ∨ n = 9 then t.boot.bank else none } }

theorem recordFailure_early (s : State) {n : Nat} (cause detail : Nat) (h : n ≤ 7) :
    (s.recordFailure n cause detail).boot = { s.boot with
      early := some (s.failure n cause detail)
      s07Fails := if n = 7 then s.boot.s07Fails + 1 else s.boot.s07Fails
      bankFail := none } ∧
    (s.recordFailure n cause detail).mem = s.mem := by
  rw [State.recordFailure, if_pos h]
  dsimp only
  rw [if_neg (show ¬ (n = 8 ∨ n = 9) by omega)]
  exact ⟨rfl, rfl⟩

theorem recordFailure_logged (s : State) {n : Nat} (cause detail : Nat) (h : 7 < n) :
    (s.recordFailure n cause detail).boot = { s.boot with bankFail := if n = 8 ∨ n = 9 then s.boot.bank else none } ∧
    (s.recordFailure n cause detail).mem = (s.logFailure n cause detail).mem := by
  rw [State.recordFailure, if_neg (by omega)]
  dsimp only
  rw [(logFailure_frame s n cause detail).boot]
  exact ⟨rfl, rfl⟩

/-- Recording a failure changes neither the step nor whether the start is limp. -/
theorem recordFailure_boot (s : State) (n cause detail : Nat) :
    (s.recordFailure n cause detail).boot.step = s.boot.step ∧
      (s.recordFailure n cause detail).boot.limp = s.boot.limp := by
  rcases Nat.lt_or_ge 7 n with h | h
  · rw [(recordFailure_logged s cause detail h).1]; exact ⟨rfl, rfl⟩
  · rw [(recordFailure_early s cause detail h).1]; exact ⟨rfl, rfl⟩

/-- The start controller waits for the restart of a failed step. -/
def State.awaitRestart (s : State) (f : Failure) : State := { s with boot := { s.boot with failed := some f } }

/-- A failed step is recorded, and then the device halts or the start waits for its restart. -/
theorem stepFails_eq (s : State) (n cause detail : Nat) : s.stepFails n cause detail =
    if s.boot.limp = true ∧ HaltStep n then (s.recordFailure n cause detail).halt
    else (s.recordFailure n cause detail).awaitRestart (s.failure n cause detail) := by
  rw [← (recordFailure_boot s n cause detail).2]
  rfl

/-- Halting or waiting changes neither memory nor what the always-on domain holds. -/
theorem stepFails_keeps (s : State) (n cause detail : Nat) :
    (s.stepFails n cause detail).mem = (s.recordFailure n cause detail).mem ∧
      (s.stepFails n cause detail).boot.early = (s.recordFailure n cause detail).boot.early ∧
        (s.stepFails n cause detail).boot.s07Fails = (s.recordFailure n cause detail).boot.s07Fails := by
  rw [stepFails_eq]
  split <;> exact ⟨rfl, rfl, rfl⟩

/-- A failed step (R78, R83, section 3.4): step, cause and DETAIL are recorded, and the start waits for its restart or the
device halts. -/
def FailureRecorded (s : State) (n cause detail : Nat) (t : State) : Prop :=
  (s.boot.limp = true → HaltStep n → t.boot.halted = true ∧ t.boot.running = false ∧ t.boot.l0 = false ∧ t.pdState 79 = 0) ∧
    (¬ (s.boot.limp = true ∧ HaltStep n) → StepFailed s n cause detail t) ∧
    (n ≤ 7 → (∃ f, t.boot.early = some f ∧ f.step = n ∧ f.cause = cause ∧ f.detail = detail) ∧ t.mem = s.mem ∧
      t.boot.s07Fails = if n = 7 then s.boot.s07Fails + 1 else s.boot.s07Fails) ∧
    (7 < n → t.boot.early = s.boot.early ∧ (s.boot.entry = none → t.mem = s.mem) ∧
      ∀ k, s.boot.entry = some k → (t.readByte (k + 0x14)).toNat = n ∧ (t.readByte (k + 0x15)).toNat = cause ∧
        t.readLE (k + 0x16) 2 = detail ∧ SameMemoryBut s t (k + 0x14) 4)

theorem stepFails_recorded (s : State) {n cause detail : Nat} (hn : n < 256) (hc : cause < 256) (hd : detail < 65536) :
    FailureRecorded s n cause detail (s.stepFails n cause detail) := by
  obtain ⟨hmem, hearly, hfails⟩ := stepFails_keeps s n cause detail
  refine ⟨fun hl hh => ?_, fun hnot => ?_, fun h7 => ?_, fun h7 => ?_⟩
  · rw [stepFails_eq, if_pos ⟨hl, hh⟩]
    exact ⟨rfl, rfl, rfl, State.pdState_setPd_same _ 79 0⟩
  · rw [stepFails_eq, if_neg hnot]
    exact .of_boot rfl (recordFailure_boot s n cause detail).1
  · obtain ⟨hboot, hrec⟩ := recordFailure_early s cause detail h7
    rw [hearly, hfails, hmem, hrec, hboot]
    exact ⟨⟨_, rfl, rfl, rfl, rfl⟩, rfl, rfl⟩
  · obtain ⟨hboot, hrec⟩ := recordFailure_logged s cause detail h7
    rw [hrec] at hmem
    refine ⟨by rw [hearly, hboot], fun he => hmem.trans (mem_logFailure_none he n cause detail), fun k he => ?_⟩
    have hread := readByte_congr hmem
    have hlog := logFailure_entry he hn hc hd
    simp only [SameMemoryBut, State.readLE, State.readBytes, hread, funext hread] at hlog ⊢
    exact hlog

end Sys2Proof.Machine
end

section
/-! SUPPORT. The clauses of the start steps S01 to S18 (R67, R75, R82, R83, R607, Table 3-1, section 3.2). -/

namespace Sys2Proof.Machine

/-! ### Commands of start steps -/

theorem Completes.unchanged {c : Instr} {s : State} (h : exec c s = .next s) : Completes c s (fun t => t = s) := ⟨s, h, rfl⟩

/-- The command of a start step, with its number (Table 3-1). -/
inductive StartCommand : Instr → Nat → Prop
  | vinGood (test : Bool) : StartCommand (.vinGood test) 1
  | regulators (vf : Bool) (rail : Option (Fin 8)) : StartCommand (.regulators vf rail) 2
  | alwaysOn (dr : BitVec 2) : StartCommand (.alwaysOn dr) 3
  | otp (bad : Option (BitVec 16)) : StartCommand (.otpAndLifeCycle bad) 4
  | battery : StartCommand .batteryDomainAndTamper 5
  | wardenRom (bad : Option (Fin 4)) : StartCommand (.wardenRomSelfTest bad) 6
  | flash (bad : Option (BitVec 16)) : StartCommand (.flashAndUpdateRecord bad) 7
  | imageSelect : StartCommand .imageSelectAndVerify 8
  | shapeLoad : StartCommand .shapeLoad 9
  | sram (bad : Option (BitVec 16)) : StartCommand (.sramRepairAndInitialisation bad) 10
  | pll (lock : Bool) : StartCommand (.timebasePll lock) 11
  | dramA (bad : Option (Fin 6)) (rp sl df two : Bool) : StartCommand (.dramATraining bad rp sl df two) 12
  | dramB (bad : Option (Fin 6)) (rp sl df two : Bool) : StartCommand (.dramBTraining bad rp sl df two) 13
  | serdes (bad : Option (Fin 8)) : StartCommand (.serdesCalibration bad) 14
  | selfTest (bad : Option (Fin 64)) : StartCommand (.coreSelfTestAndQuarantine bad) 16
  | calibration (cal : List (List (BitVec 16))) (bad : Option (Fin 64)) : StartCommand (.governorCalibration cal bad) 17
  | tables (bad : Option (Fin 3)) : StartCommand (.tableInitialisation bad) 18
  | secureWorld (bad : Option (BitVec 16)) : StartCommand (.secureWorldStart bad) 19
  | ready (us : W32) (vm tj : BitVec 16) : StartCommand (.ready us vm tj) 20

/-- PD79 ON and the DRSPD strap sampled (R67). -/
def State.alwaysOn (s : State) (dr : BitVec 2) : State :=
  State.setPd { s with boot := { s.boot with drspd := dr.toNat } } 79 2

/-- Every on-chip SRAM zeroed (R67). -/
def State.sramCleared (s : State) : State := { s with mem := s.mem.filter (fun c => !isSram c.1) }

/-- CK00 runs, with TB time 0 (R85). -/
def State.tbStarted (s : State) : State := { s with tb := { State.reset.tb with started := true } }

theorem exec_vinGood (s : State) : exec (.vinGood false) s = s.plainStep 1 0 none id := rfl

theorem exec_alwaysOn (s : State) (dr : BitVec 2) :
    exec (.alwaysOn dr) s = s.plainStep 3 0 none (·.alwaysOn dr) := rfl

theorem exec_battery (s : State) : exec .batteryDomainAndTamper s = s.plainStep 5 0 none State.checkRoot := rfl

theorem exec_wardenRom (s : State) (bad : Option (Fin 4)) :
    exec (.wardenRomSelfTest bad) s = s.plainStep 6 6 (bad.map (·.val)) id := rfl

theorem exec_sram (s : State) (bad : Option (BitVec 16)) :
    exec (.sramRepairAndInitialisation bad) s = s.plainStep 10 0x0A (bad.map (·.toNat)) State.sramCleared := rfl

theorem exec_pll (s : State) (lock : Bool) :
    exec (.timebasePll lock) s = s.plainStep 11 0x0B (if lock then none else some 0) State.tbStarted := rfl

theorem exec_serdes (s : State) (bad : Option (Fin 8)) :
    exec (.serdesCalibration bad) s = s.plainStep 14 0x0E ((bad.map (·.val)).filter s.laneUsed) id := rfl

theorem exec_tables (s : State) (bad : Option (Fin 3)) :
    exec (.tableInitialisation bad) s = s.plainStep 18 0x12 (bad.map (·.val)) State.initTables := rfl

/-- S04 with fuses that agree, or with the fuse word that fails. -/
theorem exec_otp (s : State) (bad : Option (BitVec 16))
    (h : s.stepDue 4 = false ∨ s.fusesAgree = true ∨ bad.isSome = true) :
    exec (.otpAndLifeCycle bad) s = s.plainStep 4 4 (bad.map (·.toNat)) id :=
  if_pos (by rcases h with h | h | h <;> simp [h])

/-- The command of a start step does nothing unless its step is the one that runs (R67). -/
theorem exec_startCommand_idle {i : Instr} {s : State} {n : Nat} (hi : StartCommand i n) (hd : s.stepDue n = false) :
    exec i s = .next s := by
  have hnot : (!s.stepDue n) = true := by rw [hd]; rfl
  cases hi with
  | vinGood test =>
    cases test with
    | true => rfl
    | false => exact (exec_vinGood s).trans (plainStep_idle hd _)
  | alwaysOn dr => exact (exec_alwaysOn s dr).trans (plainStep_idle hd _)
  | otp bad => exact (exec_otp s bad (.inl hd)).trans (plainStep_idle hd _)
  | battery => exact (exec_battery s).trans (plainStep_idle hd _)
  | wardenRom bad => exact (exec_wardenRom s bad).trans (plainStep_idle hd _)
  | sram bad => exact (exec_sram s bad).trans (plainStep_idle hd _)
  | pll lock => exact (exec_pll s lock).trans (plainStep_idle hd _)
  | serdes bad => exact (exec_serdes s bad).trans (plainStep_idle hd _)
  | tables bad => exact (exec_tables s bad).trans (plainStep_idle hd _)
  | ready us vm tj => exact if_pos (by rw [hd]; rfl)
  | regulators | flash | imageSelect | shapeLoad | dramA | dramB | selfTest | calibration | secureWorld => exact if_pos hnot

section
variable {s : State} {i : Instr} {n c : Nat} {f : State → State}

theorem Completes.plain_passes {P : State → Prop} (hx : exec i s = s.plainStep n c none f) (hd : s.stepDue n = true)
    (h : P ((f s).stepDone n)) : Completes i s P := .next (hx.trans (plainStep_passes hd)) h

theorem Completes.plain_fails {d : Nat} (hx : exec i s = s.plainStep n c (some d) f) (hd : s.stepDue n = true)
    (hn : n < 256) (hc : c < 256) (hdet : d < 65536) : Completes i s (FailureRecorded s n c d) :=
  .next (hx.trans (plainStep_fails hd d)) (stepFails_recorded s hn hc hdet)

end

/-! ### S01 to S06 -/

section
variable {s : State}

theorem vinGood_completes (hd : s.stepDue 1 = true) :
    Completes (.vinGood false) s (StepPassed s 1) ∧ Completes (.vinGood true) s (fun t => t = s) :=
  ⟨.plain_passes (exec_vinGood s) hd
    (stepDone_passed (failed_of_stepDue hd) (by decide) (by decide) (by decide)), .unchanged rfl⟩

/-- The rails come up, also after an earlier fault. -/
theorem railsStart_passed (s : State) (vf : Bool) :
    StepPassed s 2 (s.railsStart vf none) ∧ (s.railsStart vf none).boot.vfsel = vf := by
  let up : State := { s with boot := { s.boot with vfsel := vf, failed := none } }
  exact ⟨stepDone_passed (s := up) rfl (by decide) (by decide) (by decide),
    congrArg Boot.vfsel (boot_stepDone up (n := 2) (by decide) (by decide))⟩

theorem railsStart_failed (s : State) (vf : Bool) (r : Fin 8) :
    FailureRecorded s 2 0x02 r.val (s.railsStart vf (some r)) :=
  stepFails_recorded { s with boot := { s.boot with vfsel := vf } } (by decide) (by decide) (by omega)

theorem regulators_completes (vf : Bool) (hd : s.stepDue 2 = true) :
    Completes (.regulators vf none) s (fun t => StepPassed s 2 t ∧ t.boot.vfsel = vf) ∧
      ∀ r : Fin 8, Completes (.regulators vf (some r)) s (FailureRecorded s 2 0x02 r.val) := by
  have hx : ∀ rail, exec (.regulators vf rail) s = .next (s.railsStart vf rail) := fun rail => if_neg (by simp [hd])
  exact ⟨.next (hx none) (railsStart_passed s vf), fun r => .next (hx _) (railsStart_failed s vf r)⟩

theorem regulatorRetry_idle (vf : Bool) (rail : Option (Fin 8)) (h : s.railFault = false) :
    Completes (.regulatorRetry vf rail) s (fun t => t = s) := .unchanged (if_pos (by simp [h]))

theorem regulatorRetry_completes (vf : Bool) (h : s.railFault = true) :
    Completes (.regulatorRetry vf none) s (fun t => StepPassed s 2 t ∧ t.boot.vfsel = vf) ∧
      ∀ r : Fin 8, Completes (.regulatorRetry vf (some r)) s (FailureRecorded s 2 0x02 r.val) := by
  have hx : ∀ rail, exec (.regulatorRetry vf rail) s = .next (s.railsStart vf rail) := fun rail => if_neg (by simp [h])
  exact ⟨.next (hx none) (railsStart_passed s vf), fun r => .next (hx _) (railsStart_failed s vf r)⟩

theorem alwaysOn_completes (dr : BitVec 2) (hd : s.stepDue 3 = true) :
    Completes (.alwaysOn dr) s (fun t => StepPassed s 3 t ∧ t.pdState 79 = 2 ∧ t.boot.drspd = dr.toNat) := by
  refine .plain_passes (exec_alwaysOn s dr) hd ⟨?_, ?_, ?_⟩
  · exact stepDone_passed (s := s.alwaysOn dr) (failed_of_stepDue hd) (by decide) (by decide) (by decide)
  · rw [pdState_stepDone _ (by decide) (by decide) (by decide) (by decide), State.alwaysOn, State.pdState_setPd_same]
  · rw [boot_stepDone _ (by decide) (by decide)]
    rfl

theorem lcs_stepDone (s : State) {n : Nat} (h11 : n ≠ 11) (h14 : n ≠ 14) : (s.stepDone n).lcs = s.lcs := by
  rw [(stepDone_frame s h11 h14).1]
  rfl

theorem otp_passes (hd : s.stepDue 4 = true) (hf : s.fusesAgree = true) :
    Completes (.otpAndLifeCycle none) s (fun t => StepPassed s 4 t ∧ t.lcs = s.lcs) :=
  .plain_passes (exec_otp s none (.inr (.inl hf))) hd
    ⟨stepDone_passed (failed_of_stepDue hd) (by decide) (by decide) (by decide),
      lcs_stepDone s (by decide) (by decide)⟩

/-- State fuses whose bits disagree fail S04, with a DETAIL that the spec does not give (R584, assumption 31). -/
theorem otp_disagrees (hd : s.stepDue 4 = true) (hf : s.fusesAgree = false) :
    Completes (.otpAndLifeCycle none) s (fun t => ∃ f, t.boot.failed = some f ∧ f.step = 4 ∧ f.cause = 0x04 ∧
      t.lcs = s.lcs) := by
  let u : State := { s with free := s.free + 1 }
  let d := (Config.freeWord s.free).toNat % 0x10000
  have hx : exec (.otpAndLifeCycle none) s = .next (u.stepFails 4 4 d) := by
    refine (if_neg (by simp [hd, hf])).trans ?_
    exact plainStep_fails (s := u) hd d
  obtain ⟨-, hfail, -⟩ := stepFails_recorded u (n := 4) (cause := 4) (detail := d) (by decide) (by decide)
    (Nat.mod_lt _ (by decide))
  have hrun : ¬ (u.boot.limp = true ∧ HaltStep 4) := fun h => absurd h.2 (by decide)
  obtain ⟨f, hf1, hf2, hf3, -⟩ := hfail hrun
  refine .next hx ⟨f, hf1, hf2, hf3, ?_⟩
  rw [stepFails_eq, if_neg hrun]
  rfl

theorem otp_fails (hd : s.stepDue 4 = true) (d : BitVec 16) :
    Completes (.otpAndLifeCycle (some d)) s (FailureRecorded s 4 0x04 d.toNat) :=
  .plain_fails (exec_otp s (some d) (.inr (.inr rfl))) hd (by decide) (by decide) d.isLt

/-- A root secret whose CRC fails is zeroed (R567), and nothing of the start changes. -/
theorem checkRoot_spec (s : State) : s.checkRoot.boot = s.boot ∧
    s.checkRoot.sec.root = if s.sec.rootCrc = crc32c (bytes256 s.sec.root) then s.sec.root else 0#256 := by
  unfold State.checkRoot
  split
  · exact ⟨rfl, rfl⟩
  · have hf := frame_raise ((s.setRoot 0#256).setFld A.secTampcfg 31 31 0) 727
    exact ⟨hf.boot, congrArg Sec.root hf.sec⟩

theorem battery_completes (hd : s.stepDue 5 = true) :
    Completes .batteryDomainAndTamper s (fun t => StepPassed s 5 t ∧
      t.sec.root = if s.sec.rootCrc = crc32c (bytes256 s.sec.root) then s.sec.root else 0#256) := by
  obtain ⟨hb, hr⟩ := checkRoot_spec s
  have hp := stepDone_passed (s := s.checkRoot) (n := 5) (by rw [hb]; exact failed_of_stepDue hd) (by decide) (by decide)
    (by decide)
  refine .plain_passes (exec_battery s) hd ⟨?_, ?_⟩
  · rwa [StepPassed, hb] at hp
  · rw [sec_stepDone _ (by decide) (by decide), hr]

theorem wardenRom_completes (hd : s.stepDue 6 = true) :
    Completes (.wardenRomSelfTest none) s (StepPassed s 6) ∧
      ∀ r : Fin 4, Completes (.wardenRomSelfTest (some r)) s (FailureRecorded s 6 0x06 r.val) :=
  ⟨.plain_passes (exec_wardenRom s none) hd
    (stepDone_passed (failed_of_stepDue hd) (by decide) (by decide) (by decide)),
  fun r => .plain_fails (exec_wardenRom s (some r)) hd (by decide) (by decide) (by omega)⟩

/-! ### S10, S11 and S14 -/

/-- A map that lost the entries of some keys reads their unlisted value there. -/
theorem SMap.get_filter_keys {α : Type} (d : Nat → α) (p : Nat → Bool) (m : SMap α) (k : Nat) :
    SMap.get d (m.filter (fun c => p c.1)) k = if p k = true then SMap.get d m k else d k := by
  induction m with
  | nil => simp [SMap.get]
  | cons c m ih =>
    obtain ⟨j, v⟩ := c
    by_cases hj : p j = true
    · rw [List.filter_cons, if_pos hj, SMap.get, SMap.get, ih]
      by_cases hk : j = k
      · subst hk; simp [hj]
      · simp [hk]
    · rw [List.filter_cons, if_neg hj, ih, SMap.get]
      by_cases hk : j = k
      · subst hk; simp [hj]
      · simp [hk]

theorem readByte_sramCleared (s : State) (k : Nat) :
    s.sramCleared.readByte k = if isSram k = true then memDefault k else s.readByte k := by
  refine (SMap.get_filter_keys memDefault (fun j => !isSram j) s.mem k).trans ?_
  cases isSram k <;> rfl

theorem memDefault_sram {k : Nat} (h : k < kFlash ∨ (kImageStore ≤ k ∧ k < kDramCh 0)) : memDefault k = 0#8 := by
  unfold kFlash kImageStore kDramCh at h
  rw [memDefault, if_neg (by omega), if_neg (by omega)]

theorem sram_passes (hd : s.stepDue 10 = true) (hlog : s.LogInFlash) :
    Completes (.sramRepairAndInitialisation none) s (fun t => StepPassed s 10 t ∧
      (∀ k, k < kFlash ∨ (kImageStore ≤ k ∧ k < kDramCh 0) → t.readByte k = 0#8) ∧
      (∀ k, kDramCh 0 ≤ k → t.readByte k = s.readByte k)) := by
  have hread : ∀ {k}, k < kFlash ∨ kImageStore ≤ k → (s.sramCleared.stepDone 10).readByte k = s.sramCleared.readByte k :=
    readByte_stepDone s.sramCleared (by decide) (by decide) hlog
  refine .plain_passes (exec_sram s none) hd ⟨?_, fun k hk => ?_, fun k hk => ?_⟩
  · exact stepDone_passed (s := s.sramCleared) (failed_of_stepDue hd) (by decide) (by decide) (by decide)
  · have hs : isSram k = true := by simpa [isSram] using hk
    rw [hread (hk.imp_right (·.1)), readByte_sramCleared, if_pos hs, memDefault_sram hk]
  · have hlow : kFlash < kDramCh 0 ∧ kImageStore < kDramCh 0 := by decide
    have hs : isSram k = false := by simp [isSram]; omega
    rw [hread (.inr (by omega)), readByte_sramCleared, hs, if_neg (by decide)]

theorem sram_fails (hd : s.stepDue 10 = true) (d : BitVec 16) :
    Completes (.sramRepairAndInitialisation (some d)) s (FailureRecorded s 10 0x0A d.toNat) :=
  .plain_fails (exec_sram s (some d)) hd (by decide) (by decide) d.isLt

theorem tb_linkStep (s : State) : s.linkStep.tb = s.tb := by
  unfold State.linkStep
  split
  · dsimp only
    split
    · exact (skipSteps_frame _ _).tb.trans (markStep_frame s 15).tb
    · exact (markStep_frame s 15).tb
  · rfl

theorem tb_stepDone (s : State) (n : Nat) : (s.stepDone n).tb = s.tb := by
  have hm : (s.markStep n).tb = s.tb := (markStep_frame s n).tb
  unfold State.stepDone
  dsimp only
  split
  · exact (tb_linkStep _).trans hm
  · split
    · exact (tb_linkStep _).trans ((skipSteps_frame _ _).tb.trans hm)
    · exact hm

theorem pll_completes (hd : s.stepDue 11 = true) :
    Completes (.timebasePll true) s (fun t => t.tb.started = true ∧ t.tb.now = 0#64 ∧
      StepPassed s (if s.boot.limp = true ∧ s.boot.l0 = true then 15 else 11) t) ∧
    Completes (.timebasePll false) s (FailureRecorded s 11 0x0B 0) := by
  refine ⟨.plain_passes (exec_pll s true) hd ?_,
    .plain_fails (exec_pll s false) hd (by decide) (by decide) (by decide)⟩
  rw [tb_stepDone]
  exact ⟨rfl, rfl, stepDone_pll_passed (s := s.tbStarted) (failed_of_stepDue hd)⟩

theorem serdes_passes (hd : s.stepDue 14 = true) {r : Option (Fin 8)} (hr : ∀ l, r = some l → s.laneUsed l = false) :
    Completes (.serdesCalibration r) s (StepPassed s (if s.boot.l0 = true then 15 else 14)) := by
  have hnone : (r.map (·.val)).filter s.laneUsed = none := by
    cases r with
    | none => rfl
    | some l => simp [Option.filter, hr l rfl]
  have hx : exec (.serdesCalibration r) s = s.plainStep 14 0x0E none id := by rw [exec_serdes, hnone]
  exact .plain_passes hx hd (stepDone_serdes_passed (failed_of_stepDue hd))

theorem serdes_fails (hd : s.stepDue 14 = true) {l : Fin 8} (hl : s.laneUsed l = true) :
    Completes (.serdesCalibration (some l)) s (FailureRecorded s 14 0x0E l.val) := by
  have hsome : ((some l).map (·.val)).filter s.laneUsed = some l.val := by simp [Option.filter, hl]
  have hx : exec (.serdesCalibration (some l)) s = s.plainStep 14 0x0E (some l.val) id := by rw [exec_serdes, hsome]
  exact .plain_fails hx hd (by decide) (by decide) (by omega)

end

end Sys2Proof.Machine
end

section
/-! SUPPORT. The clauses of S18, of a step that does not end, and of the link during bring-up (R67, R68, section 3.2). -/

namespace Sys2Proof.Machine

/-! ### S18 -/

theorem mem_zip_rangeFrom {α : Type} {l : List α} {n : Nat} {p : Nat × α} :
    p ∈ (rangeFrom n 0).zip l ↔ p.1 < n ∧ l[p.1]? = some p.2 := by
  have hget : ∀ {i j : Nat}, (rangeFrom n 0)[i]? = some j ↔ i = j ∧ j < n := by
    intro i j
    rw [rangeFrom_eq_range', List.getElem?_eq_some_iff]
    simp only [List.getElem_range', List.length_range', Nat.zero_add, Nat.one_mul, exists_prop]
    omega
  simp only [List.mem_iff_getElem?, List.getElem?_zip_eq_some, hget]
  constructor
  · rintro ⟨i, ⟨rfl, hi⟩, hl⟩
    exact ⟨hi, hl⟩
  · rintro ⟨hi, hl⟩
    exact ⟨p.1, ⟨rfl, hi⟩, hl⟩

/-- A fold in which one element writes a value that every other one keeps. -/
theorem foldl_writes {α β : Type} (p : State → β) (f : State → α → State) {l : List α} {x : α} {b : β} (hx : x ∈ l)
    (hset : ∀ u, p (f u x) = b) (hkeep : ∀ u, ∀ y ∈ l, y ≠ x → p (f u y) = p u) (s : State) : p (l.foldl f s) = b := by
  have hall : ∀ (l' : List α) (u : State), (∀ y ∈ l', y ∈ l) → x ∈ l' ∨ p u = b → p (l'.foldl f u) = b := by
    intro l'
    induction l' with
    | nil => intro u _ h; exact h.resolve_left List.not_mem_nil
    | cons y l' ih =>
      intro u hsub h
      refine ih (f u y) (fun z hz => hsub z (List.mem_cons_of_mem _ hz)) ?_
      by_cases hy : y = x
      · subst hy; exact .inr (hset u)
      · exact h.imp (fun hm => (List.mem_cons.mp hm).resolve_left (Ne.symm hy))
          (fun hu => (hkeep u y (hsub y List.mem_cons_self) hy).trans hu)
  exact hall l s (fun _ h => h) (.inl hx)

/-- The registers of one table (section 11). -/
def State.seedTable (s : State) (p : Nat × TableCfg) : State :=
  (((s.setReg (A.tblSeeda p.1) p.2.seedA).setReg (A.tblSeedb p.1) p.2.seedB).setReg (A.tblStat p.1)
    (w32 (b2n (decide (p.2.size = 0)) * 0x200000))).setFld A.tblPolicy p.1 p.1 p.2.policy

theorem seedTable_same (s : State) {p : Nat × TableCfg} (hp : p.1 < 3) :
    (s.seedTable p).reg (A.tblSeeda p.1) = p.2.seedA ∧ (s.seedTable p).reg (A.tblSeedb p.1) = p.2.seedB := by
  unfold State.seedTable
  constructor
  · rw [State.reg_setFld_ne, State.reg_setReg_ne, State.reg_setReg_ne, State.reg_setReg_same] <;>
      simp only [A.tblSeeda, A.tblSeedb, A.tblStat, A.tblPolicy] <;> omega
  · rw [State.reg_setFld_ne, State.reg_setReg_ne, State.reg_setReg_same] <;>
      simp only [A.tblSeedb, A.tblStat, A.tblPolicy] <;> omega

theorem seedTable_ne (s : State) {p : Nat × TableCfg} {i : Nat} (hp : p.1 < 3) (hi : i < 3) (h : p.1 ≠ i) :
    (s.seedTable p).reg (A.tblSeeda i) = s.reg (A.tblSeeda i) ∧ (s.seedTable p).reg (A.tblSeedb i) = s.reg (A.tblSeedb i) := by
  unfold State.seedTable
  constructor <;> rw [State.reg_setFld_ne, State.reg_setReg_ne, State.reg_setReg_ne, State.reg_setReg_ne] <;>
    simp only [A.tblSeeda, A.tblSeedb, A.tblStat, A.tblPolicy] <;> omega

/-- The tables empty. -/
def State.tablesCleared (s : State) : State := { s with tbl := State.reset.tbl, mem := memDrop s.mem kTable 0x200000 }

/-- The tables with their registers, but for the ageing period. -/
def State.tablesSeeded (s : State) : State := ((rangeFrom 3 0).zip s.shp.tables).foldl State.seedTable s.tablesCleared

/-- The ageing period is the last that S18 writes. -/
theorem initTables_keeps {β : Type} (p : State → β) (hp : ∀ (u : State) (v : W32), p (u.setReg A.tblAge v) = p u) (s : State) :
    p s.initTables = p s.tablesSeeded := by
  unfold State.initTables
  dsimp only
  split
  · exact hp _ _
  · rfl

/-- S18 writes registers only, beside the tables themselves. -/
theorem initTables_cleared {β : Type} (p : State → β) (hp : ∀ (u : State) (a : Nat) (v : W32), p (u.setReg a v) = p u)
    (s : State) : p s.initTables = p s.tablesCleared := by
  refine (initTables_keeps p (fun u v => hp u _ v) s).trans (foldl_keeps p _ _ (fun u x _ => ?_) _)
  rw [State.seedTable, State.setFld, hp, hp, hp, hp]

/-- Each table has the seeds of the image. -/
theorem seeds_initTables (s : State) {i : Nat} {c : TableCfg} (hi : i < 3) (hc : s.shp.tables[i]? = some c) :
    s.initTables.reg (A.tblSeeda i) = c.seedA ∧ s.initTables.reg (A.tblSeedb i) = c.seedB := by
  have hmem : (i, c) ∈ (rangeFrom 3 0).zip s.shp.tables := mem_zip_rangeFrom.mpr ⟨hi, hc⟩
  have hother : ∀ y ∈ (rangeFrom 3 0).zip s.shp.tables, y ≠ (i, c) → y.1 < 3 ∧ y.1 ≠ i := by
    rintro ⟨j, d⟩ hy hne
    obtain ⟨hj, hd⟩ := mem_zip_rangeFrom.mp hy
    refine ⟨hj, fun h => hne ?_⟩
    obtain rfl : j = i := h
    exact congrArg (j, ·) (Option.some.inj (hd.symm.trans hc))
  constructor
  · rw [initTables_keeps (·.reg (A.tblSeeda i)) fun u v => State.reg_setReg_ne u v (by unfold A.tblSeeda A.tblAge; omega)]
    exact foldl_writes (·.reg (A.tblSeeda i)) _ hmem (fun u => (seedTable_same u hi).1)
      (fun u y hy hne => (seedTable_ne u (hother y hy hne).1 hi (hother y hy hne).2).1) _
  · rw [initTables_keeps (·.reg (A.tblSeedb i)) fun u v => State.reg_setReg_ne u v (by unfold A.tblSeedb A.tblAge; omega)]
    exact foldl_writes (·.reg (A.tblSeedb i)) _ hmem (fun u => (seedTable_same u hi).2)
      (fun u y hy hne => (seedTable_ne u (hother y hy hne).1 hi (hother y hy hne).2).2) _

theorem readByte_tablesCleared (s : State) {a : Nat} (ha : a < 0x200000) : s.tablesCleared.readByte (kTable + a) = 0#8 := by
  refine (SMap.get_filter_keys memDefault (fun j => !decide (kTable ≤ j ∧ j < kTable + 0x200000)) s.mem (kTable + a)).trans ?_
  rw [if_neg (by simp; omega), memDefault_sram (.inl (by unfold kTable kFlash; omega))]

section
variable {s : State}

theorem tables_pass (hd : s.stepDue 18 = true) (hlog : s.LogInFlash) :
    Completes (.tableInitialisation none) s (fun t => StepPassed s 18 t ∧ t.tbl = State.reset.tbl ∧
      (∀ a, a < 0x200000 → t.readByte (kTable + a) = 0#8) ∧
      ∀ i, i < 3 → i < s.shp.tables.length → ∀ c, s.shp.tables[i]? = some c →
        t.reg (A.tblSeeda i) = c.seedA ∧ t.reg (A.tblSeedb i) = c.seedB) := by
  have hboot : s.initTables.boot = s.boot := initTables_cleared (·.boot) (fun _ _ _ => rfl) s
  have hmem : s.initTables.mem = s.tablesCleared.mem := initTables_cleared (·.mem) (fun _ _ _ => rfl) s
  have htbl : s.initTables.tbl = State.reset.tbl := initTables_cleared (·.tbl) (fun _ _ _ => rfl) s
  have hlog' : s.initTables.LogInFlash := by rwa [State.LogInFlash, hboot]
  have hpass := stepDone_passed (s := s.initTables) (n := 18) (by rw [hboot]; exact failed_of_stepDue hd) (by decide)
    (by decide) (by decide)
  refine .plain_passes (exec_tables s none) hd ⟨?_, ?_, fun a ha => ?_, fun i hi _ c hc => ?_⟩
  · rwa [StepPassed, hboot] at hpass
  · exact (congrArg State.tbl (stepDone_frame _ (by decide) (by decide)).1).trans htbl
  · rw [readByte_stepDone _ (by decide) (by decide) hlog' (.inl (by unfold kTable kFlash; omega)), readByte_congr hmem,
      readByte_tablesCleared s ha]
  · rw [reg_stepDone _ (by decide) (by decide) (by unfold StepReg A.tblSeeda A.bootStat A.pwrPdstat; omega),
      reg_stepDone _ (by decide) (by decide) (by unfold StepReg A.tblSeedb A.bootStat A.pwrPdstat; omega)]
    exact seeds_initTables s hi hc

theorem tables_fail (hd : s.stepDue 18 = true) (i : Fin 3) :
    Completes (.tableInitialisation (some i)) s (FailureRecorded s 18 0x12 i.val) :=
  .plain_fails (exec_tables s (some i)) hd (by decide) (by decide) (by omega)

/-! ### A step that does not end -/

theorem timeout_idle (h : s.boot.running = false ∨ s.boot.held = true ∨ s.boot.failed.isSome = true ∨ s.boot.step = 0 ∨
    (s.boot.limp = false ∧ s.boot.step = 14)) : Completes .startStepTimeout s (fun t => t = s) := by
  refine .unchanged (if_pos ?_)
  rcases h with h | h | h | h | ⟨hl, h⟩
  · simp [h]
  · simp [h]
  · simp [h]
  · simp [h]
  · simp [h, hl]

theorem timeout_fails (hrun : s.boot.running = true) (hheld : s.boot.held = false) (hf : s.boot.failed = none)
    (hl : s.boot.limp = false) (h0 : s.boot.step ≠ 0) (h14 : s.boot.step ≠ 14) (h20 : s.boot.step < 20) :
    Completes .startStepTimeout s (FailureRecorded s (s.boot.step + 1) 0x20 0) := by
  have hx : exec .startStepTimeout s = .next (s.stepFails (s.boot.step + 1) 0x20 0) := by
    change execStartStepTimeout s = _
    simp [execStartStepTimeout, hrun, hheld, hf, hl, h0, h14, Nat.not_lt.mpr h20]
  exact .next hx (stepFails_recorded s (by omega) (by decide) (by decide))

/-! ### The link during bring-up -/

theorem pcieLink_idle (h : s.boot.held = true ∨ s.boot.halted = true ∨ s.boot.step < 3) :
    Completes .pcieLink s (fun t => t = s) :=
  .unchanged (if_pos (by rcases h with h | h | h <;> simp [h]))

/-- The link is in L0. -/
def State.linked (s : State) : State := { s with boot := { s.boot with l0 := true } }

/-- S15 is the step that runs: S14 has completed, or S11 in a limp start. -/
abbrev LinkDue (s : State) : Prop :=
  s.boot.running = true ∧ s.boot.failed = none ∧ (s.boot.step = 14 ∨ (s.boot.limp = true ∧ s.boot.step = 11))

theorem boot_linkStep_linked (s : State) : s.linked.linkStep.boot = { s.boot with l0 := true, step := 15 } := by
  have hm : (s.linked.markStep 15).boot = { s.boot with l0 := true, step := 15 } := (markStep_frame s.linked 15).boot
  rw [State.linkStep, if_pos (show s.linked.boot.l0 = true from rfl)]
  dsimp only
  split
  · rw [(skipSteps_frame _ _).boot, hm]
  · exact hm

theorem pcieLink_completes (hheld : s.boot.held = false) (hhalt : s.boot.halted = false) (h3 : 3 ≤ s.boot.step) :
    Completes .pcieLink s (fun t => t.boot.l0 = true ∧ t.boot.step = (if LinkDue s then 15 else s.boot.step)) := by
  have hx : exec .pcieLink s = .next (if LinkDue s then s.linked.linkStep else s.linked) := by
    change execPcieLink s = _
    unfold execPcieLink
    rw [if_neg (by simp [hheld, hhalt]; omega)]
    simp only [LinkDue, Bool.and_eq_true, Bool.or_eq_true, decide_eq_true_eq, Option.isNone_iff_eq_none, and_assoc]
    rfl
  refine .next hx ?_
  split
  · rw [boot_linkStep_linked]
    exact ⟨rfl, rfl⟩
  · exact ⟨rfl, rfl⟩

theorem linkLoss_running (h : s.boot.running = true) :
    Completes .linkLossDuringBringUp s (fun t => t = { s with boot := { s.boot with l0 := false } }) :=
  .next (if_pos h) rfl

theorem linkLoss_idle (h : s.boot.running = false) : Completes .linkLossDuringBringUp s (fun t => t = s) :=
  .unchanged (if_neg (by rw [h]; decide))

end

end Sys2Proof.Machine
end

section
/-! PROOFS. O9: the clauses of the start steps put together. -/

namespace Sys2Proof.Machine

/-- Settles O9: each start step's cases from the equation of its command, with what a completed step shows
(`StepPassed`) and what a failed one records (`FailureRecorded`). -/
theorem startStepsRunInOrderAndFail : Obligations.StartStepsRunInOrderAndFail := by
  unfold Obligations.StartStepsRunInOrderAndFail
  intro s test vf lock rp sl df two rail dr w16 rom ph core tab cal us vm tj passed logSafe failed
  refine ⟨fun i n hi => ⟨fun hd => .unchanged (exec_startCommand_idle ?_ hd), stepDue_full, stepDue_limp⟩,
    vinGood_completes, regulators_completes vf, regulatorRetry_idle vf rail, regulatorRetry_completes vf,
    alwaysOn_completes dr, fun hd => ⟨otp_passes hd, otp_disagrees hd, otp_fails hd⟩, battery_completes,
    wardenRom_completes, fun hd => ⟨sram_passes hd, sram_fails hd⟩, pll_completes,
    fun hd => ⟨fun _ => serdes_passes hd, fun _ => serdes_fails hd⟩, fun hd => ⟨tables_pass hd, tables_fail hd⟩,
    timeout_idle, timeout_fails, pcieLink_idle, pcieLink_completes, linkLoss_running, linkLoss_idle⟩
  fin_cases hi <;> constructor

end Sys2Proof.Machine
end

section
/-! SUPPORT. What a reset clears and keeps (R73 to R79, Table 3-3, Table 3-4). -/

namespace Sys2Proof.Machine

/-! ### The state after a reset -/

/-- A reset of kind `kind` has begun a start after step `step` and cleared what Table 3-4 lists. -/
def ResetCleared (s : State) (kind step : Nat) (t : State) : Prop :=
  t.reg A.bootCause = BitVec.ofNat 32 kind ∧ t.boot.step = step ∧ t.boot.failed = none ∧ t.boot.limp = false ∧
    t.boot.halted = false ∧ t.lcs.otp = s.lcs.otp ∧ t.lcs.grant = none ∧ t.sec.nonce = none ∧ t.sec.key = 0#256 ∧
      t.slots = [] ∧ t.flt = State.reset.flt ∧ t.tb = State.reset.tb ∧ t.reg A.topCaps = State.reset.reg A.topCaps ∧
        ∀ k, t.readByte k = if keptKey k = true then s.readByte k else memDefault k

/-- The battery domain is kept: the root secret, the tamper record and the shutdown record. -/
def BatteryKept (s t : State) : Prop :=
  t.sec.root = s.sec.root ∧ t.sec.rootCrc = s.sec.rootCrc ∧
    ∀ a, a ∈ [A.secTampcfg, A.secTamprec, A.secTamptime, A.pwrShutrec] → t.reg a = s.reg a

/-- Without RETRY_ALL every fallback and quarantine is kept (R79). -/
def FallbacksKept (s t : State) : Prop :=
  s.boot.retry = false → t.boot.fallback = s.boot.fallback ∧ t.boot.quar = s.boot.quar

/-- RETRY_ALL has taken effect: no fallback and no quarantine is kept (R79). -/
def FallbacksDropped (t : State) : Prop := t.boot.fallback = 0#32 ∧ t.boot.quar = 0#64 ∧ t.boot.retry = false

/-- A list of registers written with given values. -/
def State.setAll (s : State) (v : Nat → W32) (l : List Nat) : State := l.foldl (fun t a => t.setReg a (v a)) s

theorem setAll_keeps {β : Type} (p : State → β) (hp : ∀ (u : State) (a : Nat) (w : W32), p (u.setReg a w) = p u) (s : State)
    (v : Nat → W32) (l : List Nat) : p (s.setAll v l) = p s := foldl_keeps p _ l (fun u a _ => hp u a _) s

theorem reg_setAll_mem (s : State) (v : Nat → W32) {l : List Nat} {a : Nat} (h : a ∈ l) : (s.setAll v l).reg a = v a :=
  foldl_writes (·.reg a) _ h (fun u => State.reg_setReg_same u a _)
    (fun u _ _ hb => State.reg_setReg_ne u _ (Ne.symm hb)) s

theorem reg_setAll_notMem (s : State) (v : Nat → W32) {l : List Nat} {a : Nat} (h : a ∉ l) :
    (s.setAll v l).reg a = s.reg a :=
  foldl_keeps (·.reg a) _ l (fun u _ hb => State.reg_setReg_ne u _ fun he => h (he ▸ hb)) s

/-- What a reset leaves beside registers: the flash, the host's memory, the fuses, and the root secret. -/
def State.wiped (s : State) (step : Nat) (run : Bool) : State :=
  { State.reset with
    mem := s.mem.filter (fun c => keptKey c.1)
    drc := lostDram s.drc
    free := s.free
    reply := s.reply
    pending := s.pending
    sec := { State.reset.sec with root := s.sec.root, rootCrc := s.sec.rootCrc, drawn := s.sec.drawn,
                                  lateTamper := s.sec.lateTamper }
    lcs := { State.reset.lcs with otp := s.lcs.otp }
    boot := s.boot.restart step run s.newestSeq }

theorem cleared_eq (s : State) (kind step : Nat) (run : Bool) :
    s.cleared kind step run = ((s.wiped step run).setAll s.reg batteryRegs).setReg A.bootCause (w32 kind) := rfl

section
variable (s : State) (kind step : Nat) (run : Bool)

theorem cleared_keeps {β : Type} (p : State → β) (hp : ∀ (u : State) (a : Nat) (w : W32), p (u.setReg a w) = p u) :
    p (s.cleared kind step run) = p (s.wiped step run) := by
  rw [cleared_eq, hp]
  exact setAll_keeps p hp _ _ _

theorem boot_cleared : (s.cleared kind step run).boot = s.boot.restart step run s.newestSeq :=
  cleared_keeps s kind step run (·.boot) fun _ _ _ => rfl

theorem sec_cleared : (s.cleared kind step run).sec = (s.wiped step run).sec :=
  cleared_keeps s kind step run (·.sec) fun _ _ _ => rfl

theorem restart_boot (b : Boot) (seq : Option W32) : (b.restart step run seq).step = step ∧
    (b.restart step run seq).running = run ∧ (b.restart step run seq).failed = none ∧
      (b.restart step run seq).limp = false ∧ (b.restart step run seq).halted = false := by
  unfold Boot.restart
  dsimp only
  split <;> exact ⟨rfl, rfl, rfl, rfl, rfl⟩

theorem readByte_wiped (k : Nat) : (s.wiped step run).readByte k = if keptKey k = true then s.readByte k else memDefault k :=
  SMap.get_filter_keys memDefault keptKey s.mem k

/-- Every reset clears what Table 3-4 lists. -/
theorem cleared_clears : ResetCleared s kind step (s.cleared kind step run) := by
  obtain ⟨hstep, -, hfail, hlimp, hhalt⟩ := restart_boot step run s.boot s.newestSeq
  have hboot := boot_cleared s kind step run
  have hsec := sec_cleared s kind step run
  have hlcs : (s.cleared kind step run).lcs = (s.wiped step run).lcs := cleared_keeps s kind step run (·.lcs) fun _ _ _ => rfl
  refine ⟨?_, by rw [hboot, hstep], by rw [hboot, hfail], by rw [hboot, hlimp], by rw [hboot, hhalt], by rw [hlcs]; rfl,
    by rw [hlcs]; rfl, by rw [hsec]; rfl, by rw [hsec]; rfl, ?_, ?_, ?_, ?_, fun k => ?_⟩
  · rw [cleared_eq, State.reg_setReg_same]
    rfl
  · exact cleared_keeps s kind step run (·.slots) fun _ _ _ => rfl
  · exact cleared_keeps s kind step run (·.flt) fun _ _ _ => rfl
  · exact cleared_keeps s kind step run (·.tb) fun _ _ _ => rfl
  · rw [cleared_eq, State.reg_setReg_ne _ _ (by decide), reg_setAll_notMem _ _ (by decide)]
    rfl
  · rw [← readByte_wiped s step run k]
    exact cleared_keeps s kind step run (·.readByte k) fun _ _ _ => rfl

/-- Every reset keeps the battery domain while VBAT feeds it. -/
theorem cleared_battery : BatteryKept s (s.cleared kind step run) := by
  have hsec := sec_cleared s kind step run
  refine ⟨by rw [hsec]; rfl, by rw [hsec]; rfl, fun a ha => ?_⟩
  have hcause : ∀ b ∈ batteryRegs, b ≠ A.bootCause := by decide
  rw [cleared_eq, State.reg_setReg_ne _ _ (hcause a ha)]
  exact reg_setAll_mem _ _ ha

theorem cleared_fallbacks : FallbacksKept s (s.cleared kind step run) := by
  intro hr
  rw [boot_cleared, Boot.restart, hr]
  exact ⟨rfl, rfl⟩

theorem cleared_drops (hr : s.boot.retry = true) : FallbacksDropped (s.cleared kind step run) := by
  rw [FallbacksDropped, boot_cleared, Boot.restart, hr]
  exact ⟨rfl, rfl, rfl⟩

theorem running_cleared : (s.cleared kind step run).boot.running = run := by
  rw [boot_cleared]
  exact (restart_boot step run s.boot s.newestSeq).2.1

end

/-! ### Updates after a reset -/

/-- The start controller replaced. -/
def State.setBoot (s : State) (b : Boot) : State := { s with boot := b }

/-- The battery domain has lost its supply (R568, R624). -/
def State.unfed (s : State) : State :=
  let t := (s.setRoot 0#256).setAll (fun _ => 0#32) batteryRegs
  { t with sec := { t.sec with lateTamper := false } }

section
variable {s t : State} {kind step : Nat}

/-- The start controller may change after the reset, as long as nothing has failed or halted. -/
theorem ResetCleared.setBoot (h : ResetCleared s kind step t) {b : Boot} (hf : b.failed = t.boot.failed)
    (hl : b.limp = t.boot.limp) (hh : b.halted = t.boot.halted) : ResetCleared s kind b.step (t.setBoot b) := by
  obtain ⟨hcause, -, hfail, hlimp, hhalt, hrest⟩ := h
  exact ⟨hcause, rfl, hf.trans hfail, hl.trans hlimp, hh.trans hhalt, hrest⟩

/-- What a reset clears is told by the fuses and the memory before it alone. -/
theorem ResetCleared.congr {u : State} (h : ResetCleared u kind step t) (hotp : u.lcs.otp = s.lcs.otp) (hmem : u.mem = s.mem) :
    ResetCleared s kind step t := by
  unfold ResetCleared at h ⊢
  simpa only [hotp, readByte_congr hmem] using h

theorem ResetCleared.status (h : ResetCleared s kind step t) (st : Status) : ResetCleared s kind step (t.status st) := h

theorem BatteryKept.congr {u : State} (h : BatteryKept u t) (hsec : u.sec = s.sec)
    (hreg : ∀ a ∈ batteryRegs, u.reg a = s.reg a) : BatteryKept s t := by
  obtain ⟨hroot, hcrc, hregs⟩ := h
  exact ⟨hroot.trans (by rw [hsec]), hcrc.trans (by rw [hsec]), fun a ha => (hregs a ha).trans (hreg a ha)⟩

theorem BatteryKept.status (h : BatteryKept s t) (st : Status) : BatteryKept s (t.status st) := h

theorem FallbacksKept.status (h : FallbacksKept s t) (st : Status) : FallbacksKept s (t.status st) := h

theorem FallbacksDropped.status (h : FallbacksDropped t) (st : Status) : FallbacksDropped (t.status st) := h

theorem BatteryKept.setBoot (h : BatteryKept s t) (b : Boot) : BatteryKept s (t.setBoot b) := h

theorem FallbacksKept.setBoot (h : FallbacksKept s t) {b : Boot} (hf : b.fallback = t.boot.fallback)
    (hq : b.quar = t.boot.quar) : FallbacksKept s (t.setBoot b) :=
  fun hr => ⟨hf.trans (h hr).1, hq.trans (h hr).2⟩

/-- What the battery domain holds beside registers is all that its supply's loss changes. -/
theorem unfed_keeps {β : Type} (p : State → β) (hr : ∀ (u : State) (a : Nat) (w : W32), p (u.setReg a w) = p u)
    (hs : ∀ (u : State) (v : BitVec 256) (w : W32) (l : Bool),
      p { u with sec := { u.sec with root := v, rootCrc := w, lateTamper := l } } = p u) (t : State) : p t.unfed = p t := by
  have h1 : p ((t.setRoot 0#256).setAll (fun _ => 0#32) batteryRegs) = p (t.setRoot 0#256) := setAll_keeps p hr _ _ _
  exact (hs ((t.setRoot 0#256).setAll (fun _ => 0#32) batteryRegs) _ _ false).trans
    (h1.trans (hs t 0#256 (crc32c (bytes256 0#256)) t.sec.lateTamper))

theorem reg_unfed (t : State) {a : Nat} (ha : a ∉ batteryRegs) : t.unfed.reg a = t.reg a :=
  reg_setAll_notMem (t.setRoot 0#256) _ ha

/-- Without VBAT the root secret and the registers of the battery domain are 0. -/
theorem unfed_zeroes (t : State) : t.unfed.sec.root = 0#256 ∧ ∀ a, a ∈ batteryRegs → t.unfed.reg a = 0#32 := by
  have hsec : ((t.setRoot 0#256).setAll (fun _ => 0#32) batteryRegs).sec = (t.setRoot 0#256).sec :=
    setAll_keeps (·.sec) (fun _ _ _ => rfl) _ _ _
  exact ⟨congrArg Sec.root hsec, fun a ha => reg_setAll_mem (t.setRoot 0#256) (fun _ => 0#32) ha⟩

/-- Without VBAT a reset clears the same, and the battery domain too. -/
theorem ResetCleared.unfed (h : ResetCleared s kind step t) : ResetCleared s kind step t.unfed := by
  have hmem : t.unfed.mem = t.mem := unfed_keeps (·.mem) (fun _ _ _ => rfl) (fun _ _ _ _ => rfl) t
  unfold ResetCleared
  rw [reg_unfed t (by decide), reg_unfed t (by decide),
    unfed_keeps (·.boot) (fun _ _ _ => rfl) (fun _ _ _ _ => rfl) t,
    unfed_keeps (·.lcs) (fun _ _ _ => rfl) (fun _ _ _ _ => rfl) t,
    unfed_keeps (·.sec.nonce) (fun _ _ _ => rfl) (fun _ _ _ _ => rfl) t,
    unfed_keeps (·.sec.key) (fun _ _ _ => rfl) (fun _ _ _ _ => rfl) t,
    unfed_keeps (·.slots) (fun _ _ _ => rfl) (fun _ _ _ _ => rfl) t,
    unfed_keeps (·.flt) (fun _ _ _ => rfl) (fun _ _ _ _ => rfl) t,
    unfed_keeps (·.tb) (fun _ _ _ => rfl) (fun _ _ _ _ => rfl) t]
  simpa only [ResetCleared, readByte_congr hmem] using h

theorem FallbacksKept.unfed (h : FallbacksKept s t) : FallbacksKept s t.unfed := by
  rw [FallbacksKept, unfed_keeps (·.boot) (fun _ _ _ => rfl) (fun _ _ _ _ => rfl) t]
  exact h

end

/-- A reset whose start controller changes further, without a failure, a limp start or another fallback. -/
theorem cleared_setBoot (s : State) (kind step : Nat) (run : Bool) {b : Boot}
    (hf : b.failed = (s.cleared kind step run).boot.failed) (hl : b.limp = (s.cleared kind step run).boot.limp)
    (hh : b.halted = (s.cleared kind step run).boot.halted) (hfb : b.fallback = (s.cleared kind step run).boot.fallback)
    (hq : b.quar = (s.cleared kind step run).boot.quar) :
    (ResetCleared s kind b.step ((s.cleared kind step run).setBoot b) ∧
      BatteryKept s ((s.cleared kind step run).setBoot b)) ∧ FallbacksKept s ((s.cleared kind step run).setBoot b) :=
  ⟨⟨(cleared_clears s kind step run).setBoot hf hl hh, (cleared_battery s kind step run).setBoot b⟩,
    (cleared_fallbacks s kind step run).setBoot hfb hq⟩

theorem step_cleared (s : State) (kind step : Nat) (run : Bool) : (s.cleared kind step run).boot.step = step :=
  (cleared_clears s kind step run).2.1

/-! ### Power-on, PERST# and the watchdog -/

/-- The start controller without the failures that the always-on domain held. -/
def Boot.forgotten (b : Boot) : Boot := { b with early := none, s07Fails := 0 }

/-- The start controller while PERST# is asserted. -/
def Boot.holding (b : Boot) : Boot := { b with held := true }

/-- The start controller after PERST#, at step `n`. -/
def Boot.released (b : Boot) (n : Nat) : Boot := { b with held := false, step := n }

theorem powerOn_fed (s : State) :
    s.powerOn true = (s.cleared 1 0 true).setBoot (s.cleared 1 0 true).boot.forgotten := rfl

theorem powerOn_unfed (s : State) :
    s.powerOn false = ((s.cleared 1 0 true).setBoot (s.cleared 1 0 true).boot.forgotten).unfed := rfl

theorem exec_powerOnReset (s : State) (vbat : Bool) : exec (.powerOnReset vbat) s = .next (s.powerOn vbat) := rfl

theorem exec_perstAssert (s : State) : exec .perstAssert s =
    .next ((s.cleared 2 (min 3 s.boot.step) false).setBoot (s.cleared 2 (min 3 s.boot.step) false).boot.holding) := rfl

section
variable {s : State}

theorem exec_perstRelease (h : s.boot.held = true) : exec .perstRelease s =
    .next ((s.cleared 2 3 true).setBoot ((s.cleared 2 3 true).boot.released (min 3 s.boot.step))) := by
  have hmin : min 3 s.boot.step = if decide (s.boot.step < 3) = true then s.boot.step else 3 := by
    by_cases hs : s.boot.step < 3
    · rw [if_pos (decide_eq_true hs)]; omega
    · rw [if_neg (by simpa using hs)]; omega
  rw [hmin]
  exact if_pos h

/-- A power-on reset, before the battery domain is looked at. -/
theorem powerOn_clears (s : State) :
    let t := (s.cleared 1 0 true).setBoot (s.cleared 1 0 true).boot.forgotten
    (ResetCleared s 1 0 t ∧ BatteryKept s t) ∧ FallbacksKept s t := by
  have h := cleared_setBoot s 1 0 true (b := (s.cleared 1 0 true).boot.forgotten) rfl rfl rfl rfl rfl
  rwa [show (s.cleared 1 0 true).boot.forgotten.step = 0 from step_cleared s 1 0 true] at h

theorem powerOnReset_fed (s : State) : Completes (.powerOnReset true) s (fun t =>
    (ResetCleared s 1 0 t ∧ BatteryKept s t) ∧ FallbacksKept s t ∧ t.boot.running = true ∧ t.boot.early = none ∧
      t.boot.s07Fails = 0) := by
  obtain ⟨hchip, hfall⟩ := powerOn_clears s
  exact .next ((exec_powerOnReset s true).trans (congrArg Host.Outcome.next (powerOn_fed s)))
    ⟨hchip, hfall, running_cleared s 1 0 true, rfl, rfl⟩

theorem powerOnReset_unfed (s : State) : Completes (.powerOnReset false) s (fun t =>
    ResetCleared s 1 0 t ∧ FallbacksKept s t ∧ t.sec.root = 0#256 ∧
      ∀ a, a ∈ [A.secTampcfg, A.secTamprec, A.secTamptime, A.pwrShutrec] → t.reg a = 0#32) := by
  obtain ⟨⟨hclear, -⟩, hfall⟩ := powerOn_clears s
  exact .next ((exec_powerOnReset s false).trans (congrArg Host.Outcome.next (powerOn_unfed s)))
    ⟨hclear.unfed, hfall.unfed, unfed_zeroes _⟩

theorem perstAssert_completes (s : State) : Completes .perstAssert s (fun t =>
    (ResetCleared s 2 (min 3 s.boot.step) t ∧ BatteryKept s t) ∧ FallbacksKept s t ∧ t.boot.held = true ∧
      t.boot.running = false) := by
  have h := cleared_setBoot s 2 (min 3 s.boot.step) false
    (b := (s.cleared 2 (min 3 s.boot.step) false).boot.holding) rfl rfl rfl rfl rfl
  rw [show (s.cleared 2 (min 3 s.boot.step) false).boot.holding.step = min 3 s.boot.step from
    step_cleared s 2 (min 3 s.boot.step) false] at h
  obtain ⟨hchip, hfall⟩ := h
  exact .next (exec_perstAssert s) ⟨hchip, hfall, rfl, running_cleared s 2 (min 3 s.boot.step) false⟩

theorem perstRelease_idle (h : s.boot.held = false) : Completes .perstRelease s (fun t => t = s) :=
  .unchanged (if_neg (by rw [h]; decide))

/-- The start resumes at the step that it had reached, S04 at the latest (assumption 35). -/
theorem perstRelease_completes (h : s.boot.held = true) : Completes .perstRelease s (fun t =>
    (ResetCleared s 2 (min 3 s.boot.step) t ∧ BatteryKept s t) ∧ FallbacksKept s t ∧ t.boot.held = false ∧
      t.boot.running = true) := by
  obtain ⟨hchip, hfall⟩ := cleared_setBoot s 2 3 true
    (b := (s.cleared 2 3 true).boot.released (min 3 s.boot.step)) rfl rfl rfl rfl rfl
  exact .next (exec_perstRelease h) ⟨hchip, hfall, rfl, running_cleared s 2 3 true⟩

theorem watchdog_idle (h : s.sec.wdExpired = false) : Completes .secureWatchdogReset s (fun t => t = s) :=
  .unchanged (if_neg (by rw [h]; decide))

theorem watchdog_resets (h : s.sec.wdExpired = true) : Completes .secureWatchdogReset s (fun t =>
    (ResetCleared s 3 3 t ∧ BatteryKept s t) ∧ FallbacksKept s t ∧ t.boot.running = true) :=
  .next (if_pos h) ⟨⟨cleared_clears s 3 3 true, cleared_battery s 3 3 true⟩, cleared_fallbacks s 3 3 true,
    running_cleared s 3 3 true⟩

end

end Sys2Proof.Machine
end

section
/-! SUPPORT. BOOT_CTRL and the internal restart (R76 to R79, Table 3-6). -/

namespace Sys2Proof.Machine

/-! ### BOOT_CTRL -/

/-- What a refused command leaves (R180, R461). -/
theorem refuse_refusedWith (s : State) (ag : Agent) (k : Nat) (st : Status) : RefusedWith s st (s.refuse ag k st) := by
  refine ⟨rfl, ?_, ?_, ?_, ?_, ?_, ?_, ?_, ?_, ?_, ?_, ?_,
    fun a ha hev h0 h1 => State.reg_refuse s ag k st hev h0 h1 ha⟩ <;> simp

section
variable {s : State} {ag : Agent} {v : W32}

/-- The bits of a BOOT_CTRL write below the key do not matter for its status. -/
theorem bootKey_setBit {i : Nat} (hi : i < 16) (b : Bool) : s.bootKey ag (setBit v i b) = s.bootKey ag v := by
  rw [State.bootKey, State.bootKey, setBit, bits_setBits_apart _ _ _ _ _ _ (by omega) (by omega)]

/-- The order of the checks of a BOOT_CTRL write (R70, R76). -/
theorem bootKey_cases (s : State) (ag : Agent) (v : W32) : (s.boot.step < 20 → s.bootKey ag v = .refusedNotReady) ∧
    (20 ≤ s.boot.step → isBoss ag = false → s.bootKey ag v = .refusedRights) ∧
    (20 ≤ s.boot.step → isBoss ag = true → s.bootKey ag v = if bits v 31 16 = 0xA5C3 then .ok else .refusedRange) := by
  refine ⟨fun h => if_pos h, fun h hb => ?_, fun h hb => ?_⟩
  · rw [State.bootKey, if_neg (by omega), if_pos (by rw [hb]; rfl)]
  · rw [State.bootKey, if_neg (by omega), if_neg (by rw [hb]; decide)]
    exact ite_not _ _ _

theorem bootCtrl_refused (h : s.bootKey ag v ≠ .ok) : s.bootCtrl ag v = s.refuse ag A.bootCtrl (s.bootKey ag v) := if_pos h

theorem bootCtrl_taken (h : s.bootKey ag v = .ok) : s.bootCtrl ag v =
    if bit v 0 = true then ((if bit v 1 = true then s.setRetry else s).chipReset 4).status .ok
    else (if bit v 1 = true then s.setRetry else s).status .ok := if_neg (by rw [h]; decide)

theorem bootCtrl_refuses (h : s.bootKey ag v ≠ .ok) :
    Completes (.softReset ag v) s (RefusedWith s (s.bootKey ag v)) ∧
      Completes (.retryAll ag v) s (RefusedWith s (s.bootKey ag v)) := by
  have hx : ∀ i, i < 16 → s.bootCtrl ag (setBit v i true) = s.refuse ag A.bootCtrl (s.bootKey ag v) := by
    intro i hi
    have hk : s.bootKey ag (setBit v i true) = s.bootKey ag v := bootKey_setBit hi true
    rw [bootCtrl_refused (by rwa [hk]), hk]
  exact ⟨.next (congrArg Host.Outcome.next (hx 0 (by decide))) (refuse_refusedWith s ag _ _),
    .next (congrArg Host.Outcome.next (hx 1 (by decide))) (refuse_refusedWith s ag _ _)⟩

/-- Remembering RETRY_ALL touches no register of the battery domain. -/
theorem reg_setRetry (s : State) : ∀ a ∈ batteryRegs, s.setRetry.reg a = s.reg a := by
  have hne : ∀ a ∈ batteryRegs, a ≠ A.bootStat := by decide
  exact fun a ha => State.reg_setFld_ne _ _ _ _ (hne a ha)

/-- A soft reset with RETRY_ALL (R76, R79). -/
theorem setRetry_cleared (s : State) : ResetCleared s 4 3 (s.setRetry.cleared 4 3 true) ∧
    BatteryKept s (s.setRetry.cleared 4 3 true) ∧ FallbacksDropped (s.setRetry.cleared 4 3 true) :=
  ⟨(cleared_clears s.setRetry 4 3 true).congr rfl rfl, (cleared_battery s.setRetry 4 3 true).congr rfl (reg_setRetry s),
    cleared_drops s.setRetry 4 3 true rfl⟩

theorem softReset_completes (h : s.bootKey ag v = .ok) : Completes (.softReset ag v) s (fun t =>
    (ResetCleared s 4 3 t ∧ BatteryKept s t) ∧ t.boot.running = true ∧ t.reply.status = .ok ∧
      (bit v 1 = true → FallbacksDropped t) ∧ (bit v 1 = false → FallbacksKept s t)) := by
  have hk : s.bootKey ag (setBit v 0 true) = .ok := (bootKey_setBit (by decide) true).trans h
  have h0 : bit (setBit v 0 true) 0 = true := by rw [bit_setBit _ _ _ _ (by decide), if_pos rfl]
  have h1 : bit (setBit v 0 true) 1 = bit v 1 := by rw [bit_setBit _ _ _ _ (by decide), if_neg (by decide)]
  have hx : exec (.softReset ag v) s = .next (((if bit v 1 = true then s.setRetry else s).chipReset 4).status .ok) := by
    refine congrArg Host.Outcome.next ?_
    rw [bootCtrl_taken hk, if_pos h0, h1]
  cases hr : bit v 1 with
  | true =>
    rw [hr, if_pos rfl] at hx
    obtain ⟨hclear, hbattery, hdrop⟩ := setRetry_cleared s
    exact .next hx ⟨⟨hclear.status .ok, hbattery.status .ok⟩, running_cleared s.setRetry 4 3 true, rfl,
      fun _ => hdrop.status .ok, fun h => absurd h (by decide)⟩
  | false =>
    rw [hr, if_neg (by decide)] at hx
    exact .next hx ⟨⟨(cleared_clears s 4 3 true).status .ok, (cleared_battery s 4 3 true).status .ok⟩,
      running_cleared s 4 3 true, rfl, fun h => absurd h (by decide), fun _ => (cleared_fallbacks s 4 3 true).status .ok⟩

theorem retryAll_completes (h : s.bootKey ag v = .ok) (h0 : bit v 0 = false) : Completes (.retryAll ag v) s (fun t =>
    t.boot = { s.boot with retry := true } ∧ bit (t.reg A.bootStat) 24 = true ∧ t.mem = s.mem ∧ t.slots = s.slots ∧
      OnlyRegs { s with boot := t.boot } t [A.bootStat]) := by
  have hk : s.bootKey ag (setBit v 1 true) = .ok := (bootKey_setBit (by decide) true).trans h
  have hb0 : bit (setBit v 1 true) 0 = false := by rw [bit_setBit _ _ _ _ (by decide), if_neg (by decide), h0]
  have hb1 : bit (setBit v 1 true) 1 = true := by rw [bit_setBit _ _ _ _ (by decide), if_pos rfl]
  have hx : exec (.retryAll ag v) s = .next (s.setRetry.status .ok) := by
    refine congrArg Host.Outcome.next ?_
    rw [bootCtrl_taken hk, if_neg (by rw [hb0]; decide), if_pos hb1]
  refine .next hx ⟨rfl, ?_, rfl, rfl, rfl, fun a ha => ?_⟩
  · rw [State.reg_status, State.setRetry, State.reg_setFld_same, bit_setBits _ _ _ _ _ (by decide), if_pos (by decide)]
    decide
  · rw [State.reg_status, State.setRetry]
    exact State.reg_setFld_ne _ _ _ _ fun he => ha (by rw [he]; exact List.mem_singleton_self _)

/-! ### The internal restart -/

/-- The fallbacks that Table 3-6 adds for a failed step. -/
theorem fallFor_spec (b : Boot) (f : Failure) : (b.fallFor f).l0 = b.l0 ∧ (b.fallFor f).retry = b.retry ∧
    (f.step = 8 ∨ f.step = 9 → bit (b.fallFor f).fallback 0 = !bit b.fallback 0) ∧
    (f.step = 12 → bit (b.fallFor f).fallback 1 = true) ∧ (f.step = 13 → bit (b.fallFor f).fallback 4 = true) ∧
    (f.step = 14 → bit (b.fallFor f).fallback (8 + f.detail % 8) = true) ∧
    (f.step = 17 → bit (b.fallFor f).fallback 7 = true) ∧
    (f.step = 16 → (b.fallFor f).quar = b.quar ||| (1#64 <<< (f.detail % 64)) ∧ (b.fallFor f).fallback = b.fallback) ∧
    (f.step ∉ [8, 9, 12, 13, 14, 16, 17] → b.fallFor f = b) := by
  have hset : ∀ (w : W32) {i : Nat} (x : Bool), i < 32 → bit (setBit w i x) i = x := fun w i x hi => by
    rw [bit_setBit _ _ _ _ hi, if_pos rfl]
  unfold Boot.fallFor
  split
  case h_8 h8 h9 h12 h13 h14 h16 h17 =>
    exact ⟨rfl, rfl, fun h => (h.elim h8 h9).elim, fun h => (h12 h).elim, fun h => (h13 h).elim, fun h => (h14 h).elim,
      fun h => (h17 h).elim, fun h => (h16 h).elim, fun _ => rfl⟩
  all_goals
    rename_i hs
    simp (disch := omega) [hs, hset]

theorem internalRestart_idle (h : s.boot.failed = none) : Completes .internalRestart s (fun t => t = s) := by
  refine .unchanged ?_
  change execInternalRestart s = _
  rw [execInternalRestart, h]

theorem internalRestart_regulators {f : Failure} (h : s.boot.failed = some f) (h2 : f.step = 2) :
    Completes .internalRestart s (fun t => t = s) := by
  refine .unchanged ?_
  change execInternalRestart s = _
  rw [execInternalRestart, h]
  exact if_pos h2

/-- The start controller with the failed step's fallback. -/
def State.withFallback (s : State) (f : Failure) : State := { s with boot := s.boot.fallFor f }

/-- The PCIe link and configuration space as they were (Table 3-4). -/
def State.relinked (s : State) (l0 busMaster memSpace : Bool) : State :=
  { s with boot := { s.boot with l0 := l0 }, tnt := { s.tnt with busMaster := busMaster, memSpace := memSpace } }

theorem internalReset_eq (s : State) :
    s.internalReset = (s.cleared 5 3 true).relinked s.boot.l0 s.tnt.busMaster s.tnt.memSpace := rfl

theorem ResetCleared.relinked {t : State} {kind step : Nat} (h : ResetCleared s kind step t) (l0 bm ms : Bool) :
    ResetCleared s kind step (t.relinked l0 bm ms) := h

theorem BatteryKept.relinked {t : State} (h : BatteryKept s t) (l0 bm ms : Bool) : BatteryKept s (t.relinked l0 bm ms) := h

theorem FallbacksDropped.relinked {t : State} (h : FallbacksDropped t) (l0 bm ms : Bool) :
    FallbacksDropped (t.relinked l0 bm ms) := h

/-- The restart after a failed step clears the same, and its fallback is kept. -/
theorem withFallback_cleared (s : State) (f : Failure) :
    ResetCleared s 5 3 ((s.withFallback f).cleared 5 3 true) ∧ BatteryKept s ((s.withFallback f).cleared 5 3 true) ∧
      (s.boot.retry = true → FallbacksDropped ((s.withFallback f).cleared 5 3 true)) ∧
      (s.boot.retry = false → ((s.withFallback f).cleared 5 3 true).boot.fallback = (s.boot.fallFor f).fallback ∧
        ((s.withFallback f).cleared 5 3 true).boot.quar = (s.boot.fallFor f).quar) := by
  have hretry : (s.withFallback f).boot.retry = s.boot.retry := (fallFor_spec s.boot f).2.1
  exact ⟨(cleared_clears (s.withFallback f) 5 3 true).congr rfl rfl,
    (cleared_battery (s.withFallback f) 5 3 true).congr rfl fun _ _ => rfl,
    fun hr => cleared_drops (s.withFallback f) 5 3 true (hretry.trans hr),
    fun hr => cleared_fallbacks (s.withFallback f) 5 3 true (hretry.trans hr)⟩

theorem internalRestart_completes {f : Failure} (h : s.boot.failed = some f) (h2 : f.step ≠ 2) :
    Completes .internalRestart s (fun t => (ResetCleared s 5 3 t ∧ BatteryKept s t) ∧ t.boot.running = true ∧
      t.boot.l0 = s.boot.l0 ∧ t.tnt.busMaster = s.tnt.busMaster ∧ (s.boot.retry = true → FallbacksDropped t) ∧
        (s.boot.retry = false →
          (f.step = 8 ∨ f.step = 9 → bit t.boot.fallback 0 = !bit s.boot.fallback 0) ∧
          (f.step = 12 → bit t.boot.fallback 1 = true) ∧ (f.step = 13 → bit t.boot.fallback 4 = true) ∧
          (f.step = 14 → bit t.boot.fallback (8 + f.detail % 8) = true) ∧ (f.step = 17 → bit t.boot.fallback 7 = true) ∧
          (f.step = 16 → t.boot.quar = s.boot.quar ||| (1#64 <<< (f.detail % 64)) ∧ t.boot.fallback = s.boot.fallback) ∧
          (f.step ∉ [8, 9, 12, 13, 14, 16, 17] → FallbacksKept s t))) := by
  obtain ⟨hl0, -, h8, h12, h13, h14, h17, h16, helse⟩ := fallFor_spec s.boot f
  obtain ⟨hclear, hbattery, hdrop, hkept⟩ := withFallback_cleared s f
  have hx : exec .internalRestart s = .next (s.withFallback f).internalReset := by
    change execInternalRestart s = _
    rw [execInternalRestart, h]
    exact if_neg h2
  rw [internalReset_eq] at hx
  refine .next hx ⟨⟨hclear.relinked _ _ _, hbattery.relinked _ _ _⟩, running_cleared (s.withFallback f) 5 3 true, hl0, rfl,
    fun hr => (hdrop hr).relinked _ _ _, fun hr => ?_⟩
  obtain ⟨hfall, hquar⟩ := hkept hr
  dsimp only [State.relinked, FallbacksKept]
  rw [hfall, hquar]
  exact ⟨h8, h12, h13, h14, h17, h16, fun hn _ => by rw [helse hn]; exact ⟨rfl, rfl⟩⟩

end

end Sys2Proof.Machine
end

section
/-! SUPPORT. The end of agents, tenants and the host's configuration at a Function Level Reset (R481, R489). -/

namespace Sys2Proof.Machine

/-! ### The tenants' states and what leaves them -/

/-- The start controller, TB time and the state of every tenant are as in `s₀`. -/
structure TenantsKept (s₀ s : State) : Prop where
  boot : s.boot = s₀.boot
  tb : s.tb = s₀.tb
  state : ∀ n, n < 32 → s.tenantState n = s₀.tenantState n

/-- Register `a` is no TNT_TSTAT. -/
abbrev NotTstat (a : Nat) : Prop := a < 0xE0100 ∨ 0xE0180 ≤ a

/-- A tenant's state stands in its TNT_TSTAT. -/
theorem tenantState_congr {s t : State} {n : Nat} (h : t.reg (A.tntTstat n) = s.reg (A.tntTstat n)) :
    t.tenantState n = s.tenantState n := by
  unfold State.tenantState State.fld
  rw [h]

section
variable {s₀ s t : State}

theorem TenantsKept.refl (s : State) : TenantsKept s s := ⟨rfl, rfl, fun _ _ => rfl⟩

theorem TenantsKept.trans (h : TenantsKept s₀ s) (k : TenantsKept s t) : TenantsKept s₀ t :=
  ⟨k.boot.trans h.boot, k.tb.trans h.tb, fun n hn => (k.state n hn).trans (h.state n hn)⟩

/-- An update of any fields but registers, TB time and the start controller. -/
theorem TenantsKept.update {shadow : SMap (Option W32)} {ctr : SMap W64} {latch : SMap W32} {mem : List Host.Cell}
    {slots : SMap Slot} {cores : SMap Core} {lk : Lk} {evr : Evr} {msix : Msix} {shp : Shp} {flt : Flt}
    {drc : SMap DramCh} {sau : Sau} {bsn : Bsn} {tbl : Tbl} {prt : Prt} {brg : Brg} {sec : Sec} {lcs : Lcs}
    {jtag : Jtag} {pwr : Pwr} {uni : Uni} {tnt : Tnt} {ful : Ful} {shf : Shf} {stb : Stb} {free : Nat}
    {once : List Nat} {reply : Reply} {pending : List Instr} (h : TenantsKept s₀ s) :
    TenantsKept s₀ (State.mk s.regs shadow ctr latch mem slots cores lk s.tb evr msix shp flt drc sau bsn tbl prt brg sec
      lcs jtag s.boot pwr uni tnt ful shf stb free once reply pending) := ⟨h.boot, h.tb, h.state⟩

theorem TenantsKept.ite {c : Prop} [Decidable c] {a b : State} (ha : TenantsKept s₀ a) (hb : TenantsKept s₀ b) :
    TenantsKept s₀ (if c then a else b) := by
  split
  · exact ha
  · exact hb

theorem TenantsKept.foldl {α : Type} {f : State → α → State} {l : List α} (h : TenantsKept s₀ s)
    (hf : ∀ u, ∀ x ∈ l, TenantsKept s₀ u → TenantsKept s₀ (f u x)) : TenantsKept s₀ (l.foldl f s) := by
  induction l generalizing s with
  | nil => exact h
  | cons x l ih => exact ih (hf s x List.mem_cons_self h) fun u y hy => hf u y (List.mem_cons_of_mem _ hy)

theorem TenantsKept.setReg {a : Nat} (h : TenantsKept s₀ s) (v : W32) (ha : NotTstat a) : TenantsKept s₀ (s.setReg a v) :=
  ⟨h.boot, h.tb, fun n hn => (tenantState_congr (State.reg_setReg_ne s v (by unfold A.tntTstat; omega))).trans (h.state n hn)⟩

theorem TenantsKept.setFld {a : Nat} (h : TenantsKept s₀ s) (hi lo v : Nat) (ha : NotTstat a) :
    TenantsKept s₀ (s.setFld a hi lo v) := h.setReg _ ha

/-- The fields of TNT_TSTAT beside STATE. -/
theorem TenantsKept.setTstat (h : TenantsKept s₀ s) (t : Nat) {hi lo : Nat} (v : Nat) (hhi : hi < 32) (hlo : 1 < lo) :
    TenantsKept s₀ (s.setFld (A.tntTstat t) hi lo v) := by
  refine ⟨h.boot, h.tb, fun n hn => Eq.trans ?_ (h.state n hn)⟩
  by_cases hnt : n = t
  · rw [State.tenantState, State.fld, hnt, State.reg_setFld_same, bits_setBits_apart _ _ _ _ _ _ hhi (.inl hlo)]
    rfl
  · exact tenantState_congr (State.reg_setFld_ne _ _ _ _ (by unfold A.tntTstat; omega))

theorem TenantsKept.event (h : TenantsKept s₀ s) (hf : EventFrame s t) (hr : ∀ a, ¬ evrKey a → t.reg a = s.reg a) :
    TenantsKept s₀ t :=
  h.trans ⟨hf.boot, hf.tb, fun n hn => tenantState_congr (hr _ (by unfold evrKey A.tntTstat; omega))⟩

theorem TenantsKept.count (h : TenantsKept s₀ s) (a : Nat) : TenantsKept s₀ (s.count a) := h.update

theorem TenantsKept.raise (h : TenantsKept s₀ s) {e : Nat} (he : e < 768) : TenantsKept s₀ (s.raise e) :=
  h.event (frame_raise s e) fun _ ha => State.reg_raise s he ha

theorem TenantsKept.raiseFirst (h : TenantsKept s₀ s) {e : Nat} (he : e < 768) : TenantsKept s₀ (s.raiseFirst e) :=
  h.event (frame_raiseFirst s e) fun _ ha => State.reg_raiseFirst s he ha

theorem TenantsKept.post (h : TenantsKept s₀ s) (g : Nat) (v : W32) (st : Status) : TenantsKept s₀ (s.post g v st).2 :=
  h.event (frame_post s g v st) fun _ ha => State.reg_post s g v st ha

/-! ### Semaphores and watch slots -/

theorem TenantsKept.watchFire (h : TenantsKept s₀ s) {w : Nat} (hw : w < 64) (v : W32) : TenantsKept s₀ (s.watchFire w v) := by
  have h1 : TenantsKept s₀ (((s.setReg (A.sauWctl w) (setBit (s.reg (A.sauWctl w)) 31 false)).setReg
      (A.sauWfired (w / 32)) (setBit (s.reg (A.sauWfired (w / 32))) (w % 32) true)).count 0xD2918) :=
    ((h.setReg _ (by unfold A.sauWctl; omega)).setReg _ (by unfold A.sauWfired; omega)).count _
  have hpost := fun g x => h1.post g x .ok
  unfold State.watchFire
  extract_lets c f s1 s2
  have h2 : TenantsKept s₀ s2 := by
    dsimp only [s2]
    split
    · unfold State.postOr
      split
      next he => exact (he ▸ hpost _ _ :).update
      next he => exact (he ▸ hpost _ _ :)
    · exact h1
  exact .ite (h2.raise (by omega)) h2

theorem TenantsKept.watchChange (h : TenantsKept s₀ s) (tgt old new : W32) {ws : List Nat} (hws : ∀ w ∈ ws, w < 64) :
    TenantsKept s₀ (watchChange tgt old new ws s) := by
  induction ws generalizing s with
  | nil => exact h
  | cons w rest ih =>
    exact ih (.ite (h.watchFire (hws w List.mem_cons_self) new) h) fun x hx => hws x (List.mem_cons_of_mem _ hx)

theorem lt_of_mem_armedWatches {w : Nat} (h : w ∈ s.armedWatches) : w < 64 := by
  have := mem_rangeFrom.mp (List.mem_of_mem_filter h)
  omega

theorem TenantsKept.setSem (h : TenantsKept s₀ s) {n : Nat} (hn : n < 512) (v tags : W32) :
    TenantsKept s₀ (s.setSem n v tags) :=
  ((h.setReg _ (by unfold A.sauSem; omega)).setReg _ (by unfold A.sauTag; omega)).watchChange _ _ _
    fun _ hw => lt_of_mem_armedWatches hw

theorem TenantsKept.semDeath (h : TenantsKept s₀ s) (ag : Agent) (event : Nat) {n : Nat} (hn : n < 512) :
    TenantsKept s₀ (s.semDeath ag event n) := by
  have h1 := fun v => (h.setReg (a := A.sauDeath) v (by decide)).count 0xD2910
  exact .ite ((((h1 _).setSem hn _ _).setReg _ (by unfold A.sauStuck; omega)).raise (by decide))
    (((h1 _).setSem hn _ _).raise (by decide))

theorem TenantsKept.agentDies (h : TenantsKept s₀ s) (ag : Agent) (event : Nat) : TenantsKept s₀ (s.agentDies ag event) :=
  h.foldl fun _ n hn hu => hu.semDeath ag event (by
    have := mem_rangeFrom.mp (List.mem_of_mem_filter hn)
    omega)

theorem TenantsKept.disarmAgent (h : TenantsKept s₀ s) (ag : Agent) : TenantsKept s₀ (s.disarmAgent ag) :=
  h.foldl fun _ w hw hu => hu.setFld _ _ _ (by
    have := lt_of_mem_armedWatches (List.mem_of_mem_filter hw)
    unfold A.sauWctl
    omega)

/-! ### The basin -/

theorem TenantsKept.takeElem (h : TenantsKept s₀ s) {a e p : Nat} {u : State} (ha : a < 8)
    (hu : s.takeElem a e = some (p, u)) : TenantsKept s₀ u := by
  have hlow : ∀ {t : State} (b : Nat), TenantsKept s₀ t → TenantsKept s₀ (t.lowWater a b) :=
    fun b ht => .ite (ht.raise (by omega)) ht
  unfold State.takeElem at hu
  dsimp only at hu
  split at hu
  · cases hu
    exact hlow _ (TenantsKept.count h.update.update _)
  · split at hu
    · cases hu
      exact hlow _ (TenantsKept.count h.update.update _)
    · cases hu

theorem TenantsKept.holdBerth (h : TenantsKept s₀ s) {n : Nat} (hn : n < 16) (w : Nat) : TenantsKept s₀ (s.holdBerth n w) :=
  .ite (((TenantsKept.update h : TenantsKept s₀ (s.setOut n _)).setReg _ (by unfold A.brgObuf; omega)).update) h.update

theorem TenantsKept.giveBerth (h : TenantsKept s₀ s) : TenantsKept s₀ s.giveBerth := by
  unfold State.giveBerth
  split
  next n e hn he =>
    split
    next htake =>
      have := mem_rangeFrom.mp (List.mem_of_find?_eq_some hn)
      exact (h.takeElem (by decide) htake).holdBerth (by omega) _
    next => exact h
  next => exact h

theorem TenantsKept.pushElem (h : TenantsKept s₀ s) (a p : Nat) : TenantsKept s₀ (s.pushElem a p) :=
  .ite (TenantsKept.giveBerth h.update.update) h.update.update

theorem TenantsKept.freeBuf (h : TenantsKept s₀ s) (w : Nat) : TenantsKept s₀ (s.freeBuf w) :=
  .ite (h.pushElem _ _).update.update (h.pushElem _ _)

theorem TenantsKept.pushAll (h : TenantsKept s₀ s) (l : List (Nat × Nat)) : TenantsKept s₀ (s.pushAll l) := by
  induction l generalizing s with
  | nil => exact h
  | cons p rest ih =>
    have h1 := h.pushElem p.1 p.2
    exact ih (.ite h1.update.update h1)

theorem TenantsKept.reclaim (h : TenantsKept s₀ s) (e : Nat) : TenantsKept s₀ (s.reclaim e) := by
  refine TenantsKept.foldl (h.pushAll _).update fun u k _ hu => ?_
  exact .ite hu.update hu.update.update

/-! ### Agents and queue pairs -/

theorem TenantsKept.agentEnds (h : TenantsKept s₀ s) (ag : Agent) (event : Nat) : TenantsKept s₀ (s.agentEnds ag event) := by
  have h1 := (h.agentDies ag event).disarmAgent ag
  unfold State.agentEnds
  extract_lets s1 s2 s3
  have h2 : TenantsKept s₀ s2 := by
    dsimp only [s2]
    split
    · exact h1.reclaim _
    · exact h1
  exact h2.update.foldl fun _ a _ hu => hu.setReg _ (by unfold agKey; omega)

theorem TenantsKept.egSettle (h : TenantsKept s₀ s) (e : Nat) : TenantsKept s₀ (s.egSettle e) := by
  unfold State.egSettle
  split
  · exact h
  next x _ =>
    split
    · extract_lets s1 s2
      have h1 : TenantsKept s₀ s1 := .ite (h.freeBuf _) h
      have h2 : TenantsKept s₀ s2 := h1.update
      split
      · exact h2
      · split
        · exact h2
        · exact h2.update
    · exact h

theorem TenantsKept.dropDesc (h : TenantsKept s₀ s) (d : Desc) : TenantsKept s₀ (s.dropDesc d) := by
  unfold State.dropDesc
  split
  · exact TenantsKept.freeBuf h.update _
  · exact h

theorem TenantsKept.dropHostFrame (h : TenantsKept s₀ s) (f : HostFrame) : TenantsKept s₀ (s.dropHostFrame f) := by
  unfold State.dropHostFrame
  split
  · exact TenantsKept.egSettle h.update _
  · exact h

theorem TenantsKept.destroyQp (h : TenantsKept s₀ s) (t : Nat) {q : Nat} (hq : q < 4) : TenantsKept s₀ (s.destroyQp t q) := by
  unfold State.destroyQp
  split
  · exact h
  · extract_lets s1 s2
    have h1 : TenantsKept s₀ s1 := h.foldl fun _ d _ hu => hu.dropDesc d
    have h2 : TenantsKept s₀ s2 := h1.foldl fun _ f _ hu => hu.dropHostFrame f
    have h3 : TenantsKept s₀ (s2.setQp t q none) := TenantsKept.setTstat h2.update t _ (by omega) (by omega)
    exact h3.setTstat t _ (by omega) (by omega)

theorem TenantsKept.tenantEnds (h : TenantsKept s₀ s) (t event : Nat) : TenantsKept s₀ (s.tenantEnds t event) := by
  unfold State.tenantEnds
  extract_lets n s1 s2 s3
  have h1 : TenantsKept s₀ s1 := (h.setTstat t _ (by decide) (by decide)).update.update
  have h2 : TenantsKept s₀ s2 := .ite h1 (h1.raiseFirst (by decide))
  have h3 : TenantsKept s₀ s3 := h2.foldl fun _ q hq hu => hu.destroyQp t (by
    have := mem_rangeFrom.mp hq
    omega)
  exact h3.agentEnds _ _

/-! ### The tenants of an FLR -/

/-- A tenant changes its state alone. -/
theorem setTenantState_spec (s : State) {t : Nat} (ht : t < 32) {v : Nat} (hv : v < 4) :
    (s.setTenantState t v).boot = s.boot ∧ (s.setTenantState t v).tb = s.tb ∧
      (s.setTenantState t v).tenantState t = v ∧
        ∀ n, n < 32 → n ≠ t → (s.setTenantState t v).tenantState n = s.tenantState n := by
  unfold State.setTenantState
  split
  next h => exact ⟨rfl, rfl, h, fun _ _ _ => rfl⟩
  next =>
    have hr := (TenantsKept.refl (s.setFld (A.tntTstat t) 1 0 v)).raise (e := 608 + t) (by omega)
    refine ⟨hr.boot, hr.tb, (hr.state t ht).trans ?_, fun n hn hne => (hr.state n hn).trans ?_⟩
    · rw [State.tenantState, State.fld, State.reg_setFld_same, bits_setBits_same _ _ _ _ (by decide)]
      exact Nat.mod_eq_of_lt hv
    · exact tenantState_congr (State.reg_setFld_ne _ _ _ _ (by unfold A.tntTstat; omega))

theorem flrTenant_spec (s : State) {t : Nat} (ht : t < 32) : (s.flrTenant t).boot = s.boot ∧ (s.flrTenant t).tb = s.tb ∧
    (s.flrTenant t).tenantState t = 0 ∧ ∀ n, n < 32 → n ≠ t → (s.flrTenant t).tenantState n = s.tenantState n := by
  have hk : TenantsKept s ((s.tenantEnds t 4).setTenant t Tenant.init) := ((TenantsKept.refl s).tenantEnds t 4).update
  obtain ⟨hb, htb, h0, hne⟩ := setTenantState_spec ((s.tenantEnds t 4).setTenant t Tenant.init) ht (v := 0) (by decide)
  exact ⟨hb.trans hk.boot, htb.trans hk.tb, h0, fun n hn hnt => (hne n hn hnt).trans (hk.state n hn)⟩

/-- Every tenant ends in an FLR. -/
def State.flrTenants (s : State) : State := (rangeFrom 32 0).foldl State.flrTenant s

theorem flrTenants_spec (s : State) : s.flrTenants.boot = s.boot ∧ s.flrTenants.tb = s.tb ∧
    ∀ n, n < 32 → s.flrTenants.tenantState n = 0 := by
  have hlt : ∀ {t}, t ∈ rangeFrom 32 0 → t < 32 := fun ht => by have := mem_rangeFrom.mp ht; omega
  refine ⟨foldl_keeps (·.boot) _ _ (fun u t ht => (flrTenant_spec u (hlt ht)).1) s,
    foldl_keeps (·.tb) _ _ (fun u t ht => (flrTenant_spec u (hlt ht)).2.1) s, fun n hn => ?_⟩
  exact foldl_writes (·.tenantState n) _ (mem_rangeFrom.mpr ⟨Nat.zero_le n, by omega⟩)
    (fun u => (flrTenant_spec u hn).2.2.1) (fun u t ht hne => (flrTenant_spec u (hlt ht)).2.2.2 n hn hne.symm) s

end

/-! ### MSI-X while events are raised -/

/-- Raising events may send or hold a vector, but never changes the MSI-X table or its enables. -/
def State.msixTable (s : State) : Bool × Bool × SMap Bool := (s.msix.enable, s.msix.fmask, s.msix.unmasked)

theorem msixTable_matchLoop (k : Nat) : ∀ s : State, (matchLoop k s).msixTable = s.msixTable := by
  induction k with
  | zero => exact fun _ => rfl
  | succ k ih =>
    intro s
    unfold matchLoop
    split
    · rfl
    · split
      · rfl
      · exact ih _

theorem msixTable_postQuiet (s : State) (t : Nat) (v : W32) (st : Status) :
    (s.postQuiet t v st).2.msixTable = s.msixTable := by
  unfold State.postQuiet
  split
  · rfl
  · split
    · rfl
    · exact msixTable_matchLoop _ _

theorem msixTable_sendMsix (s : State) (v : Nat) : (s.sendMsix v).msixTable = s.msixTable := by
  unfold State.sendMsix
  extract_lets gone
  split
  · rfl
  · split <;> rfl

theorem msixTable_deliverToken (s : State) (e t : Nat) : (s.deliverToken e t).msixTable = s.msixTable := by
  have hp := msixTable_postQuiet s t (s.eventValue e) .ok
  unfold State.deliverToken
  split
  · rfl
  · split <;> rename_i h <;> rw [h] at hp <;> exact hp

theorem msixTable_deliverPin (s : State) (p : Nat) : (s.deliverPin p).msixTable = s.msixTable := by
  unfold State.deliverPin
  dsimp only
  split <;> rfl

theorem msixTable_deliver (s : State) (e : Nat) : (s.deliver e).msixTable = s.msixTable := by
  unfold State.deliver
  dsimp only
  split
  · exact msixTable_deliverToken _ _ _
  · exact msixTable_sendMsix _ _
  · exact msixTable_deliverToken _ _ _
  · exact msixTable_deliverPin _ _
  · rfl

theorem msixTable_raiseOne (s : State) (e : Nat) : (s.raiseOne e).msixTable = s.msixTable := by
  unfold State.raiseOne
  dsimp only
  split
  · exact msixTable_deliver _ _
  · rfl

theorem msixTable_raiseMirror (s : State) (e : Nat) : (s.raiseMirror e).msixTable = s.msixTable := by
  unfold State.raiseMirror
  dsimp only
  split
  · exact (msixTable_raiseOne _ 764).trans (msixTable_raiseOne s e)
  · exact msixTable_raiseOne s e

theorem msixTable_raiseFirst0 (s : State) (e : Nat) : (s.raiseFirst0 e).msixTable = s.msixTable := by
  unfold State.raiseFirst0
  split
  · rfl
  · exact msixTable_raiseMirror _ e

theorem msixTable_tokenWatch (s : State) (b : W64) : (s.tokenWatch b).msixTable = s.msixTable := by
  have h1 : (if s.counter 0x70110 ≠ b then s.raiseFirst0 384 else s).msixTable = s.msixTable := by
    split
    · exact msixTable_raiseFirst0 s 384
    · rfl
  unfold State.tokenWatch
  extract_lets s1
  split
  · exact (msixTable_raiseFirst0 s1 385).trans h1
  · exact h1

theorem msixTable_raise (s : State) (e : Nat) : (s.raise e).msixTable = s.msixTable :=
  (msixTable_tokenWatch _ _).trans (msixTable_raiseMirror s e)

/-! ### The host's part of an FLR -/

/-- TNT_MCFG and the BAR2 windows at reset. -/
def State.hostRegsReset (s : State) : State :=
  (rangeFrom 16 0).foldl (fun (t : State) n => t.setFld (A.tntB2win n) 1 0 0) (s.setReg A.tntMcfg 0#32)

/-- A register outside the MSI-X table is not touched when the table is dropped. -/
theorem reg_flrHost (s : State) {a : Nat} (ha : a < 0x1200000) : s.flrHost.reg a = s.hostRegsReset.reg a := by
  refine (SMap.get_filter_keys regReset (fun k => !decide (0x1200000 ≤ k ∧ k < 0x1202000)) s.hostRegsReset.regs a).trans ?_
  rw [if_pos (by simp; omega)]
  rfl

theorem tntMcfg_flrHost (s : State) : s.flrHost.reg A.tntMcfg = 0#32 := by
  rw [reg_flrHost s (by decide)]
  refine (foldl_keeps (·.reg A.tntMcfg) _ _ (fun u n _ => State.reg_setFld_ne u _ _ _ ?_) _).trans
    (State.reg_setReg_same s _ _)
  unfold A.tntMcfg A.tntB2win
  omega

theorem TenantsKept.flrHost {s₀ s : State} (h : TenantsKept s₀ s) : TenantsKept s₀ s.flrHost := by
  have h1 : TenantsKept s₀ s.hostRegsReset := (h.setReg _ (by decide)).foldl fun _ n hn hu => hu.setFld _ _ _ (by
    have := mem_rangeFrom.mp hn
    unfold A.tntB2win
    omega)
  exact ⟨h1.boot, h1.tb, fun n hn =>
    (tenantState_congr (reg_flrHost s (by unfold A.tntTstat; omega))).trans (h1.state n hn)⟩

end Sys2Proof.Machine
end

section
/-! SUPPORT. The commands of an FLR and the configuration requests (R69, R456, R486, R489). -/

namespace Sys2Proof.Machine

section
variable {s : State}

/-! ### FUNCTION_LEVEL_RESET -/

theorem flr_idle (link : Bool) (h : s.boot.step < 20) : Completes (.functionLevelReset link) s (fun t => t = s) :=
  .unchanged (if_pos h)

/-- A pending mailbox request ends with its status, and its random request leaves the queue (R583). -/
theorem mboxCancel_busy (st : Status) (h : s.mboxBusy = true) : bits ((s.mboxCancel st).reg A.secMstat) 9 8 = 2 ∧
    bits ((s.mboxCancel st).reg A.secMstat) 7 0 = st.code % 256 ∧ ∀ r, r ∈ (s.mboxCancel st).sec.queue → r.kind ≠ 1 := by
  rw [State.mboxCancel, if_pos h]
  refine ⟨?_, ?_, fun r hr => of_decide_eq_true (List.mem_filter.mp hr).2⟩
  · rw [State.mboxEnds, State.reg_status, State.reg_setReg_same, bits_setBits_apart _ _ _ _ _ _ (by decide) (.inr (by decide)),
      bits_setBits_same _ _ _ _ (by decide)]
    rfl
  · rw [State.mboxEnds, State.reg_status, State.reg_setReg_same, bits_setBits_same _ _ _ _ (by decide)]
    rfl

theorem mboxCancel_keeps (s : State) (st : Status) :
    (s.mboxCancel st).tnt = s.tnt ∧ (s.mboxCancel st).mem = s.mem ∧ (s.mboxCancel st).boot = s.boot := by
  unfold State.mboxCancel
  split <;> exact ⟨rfl, rfl, rfl⟩

theorem flr_begins (link : Bool) (h : 20 ≤ s.boot.step) : Completes (.functionLevelReset link) s (fun t =>
    t.tnt = { s.tnt with flr := true } ∧ t.mem = s.mem ∧ t.boot.l0 = (s.boot.l0 && !link) ∧
      (s.mboxBusy = true → bits (t.reg A.secMstat) 9 8 = 2 ∧ bits (t.reg A.secMstat) 7 0 = Status.timeout.code ∧
        ∀ r, r ∈ t.sec.queue → r.kind ≠ 1)) := by
  let u := s.mboxCancel .timeout
  obtain ⟨htnt, hmem, hboot⟩ := mboxCancel_keeps s .timeout
  refine .next (t := { u with tnt := { u.tnt with flr := true }, boot := { u.boot with l0 := u.boot.l0 && !link } })
    (if_neg (by omega)) ⟨?_, hmem, ?_, fun hb => mboxCancel_busy .timeout hb⟩
  · show { u.tnt with flr := true } = _
    rw [htnt]
  · show (u.boot.l0 && !link) = _
    rw [hboot]

/-! ### FLR_COMPLETE -/

theorem flrComplete_idle (h : s.tnt.flr = false) : Completes .flrComplete s (fun t => t = s) :=
  .unchanged (if_pos (by rw [h]; rfl))

theorem flrComplete_completes (h : s.tnt.flr = true) : Completes .flrComplete s (fun t =>
    (∀ n, n < 32 → t.tenantState n = 0) ∧ t.tnt.busMaster = false ∧ t.tnt.memSpace = false ∧ t.tnt.flr = false ∧
      t.msix.enable = false ∧ t.msix.unmasked = [] ∧ t.reg A.tntMcfg = 0#32 ∧ Raised t 584 ∧ t.boot = s.boot ∧
        t.tb = s.tb) := by
  let u := (s.flrTenants.agentEnds agManager 4).flrHost
  obtain ⟨hboot, htb, hstate⟩ := flrTenants_spec s
  have hk : TenantsKept s.flrTenants (u.raise 584) :=
    (((TenantsKept.refl s.flrTenants).agentEnds agManager 4).flrHost).raise (by decide)
  have htnt : (u.raise 584).tnt = u.tnt := (frame_raise u 584).tnt
  obtain ⟨henable, -, hunmasked⟩ : (u.raise 584).msix.enable = u.msix.enable ∧ (u.raise 584).msix.fmask = u.msix.fmask ∧
      (u.raise 584).msix.unmasked = u.msix.unmasked := by
    simpa only [State.msixTable, Prod.mk.injEq] using msixTable_raise u 584
  refine .next (t := u.raise 584) (if_neg (by rw [h]; decide)) ⟨fun n hn => (hk.state n hn).trans (hstate n hn),
    congrArg Tnt.busMaster htnt, congrArg Tnt.memSpace htnt, congrArg Tnt.flr htnt, henable, hunmasked, ?_,
    raised_raise_self u (by decide), hk.boot.trans hboot, hk.tb.trans htb⟩
  rw [State.reg_raise u (by decide) (by unfold evrKey A.tntMcfg; omega)]
  exact tntMcfg_flrHost _

/-! ### Configuration requests -/

theorem preReady_idle (h : (s.boot.step = 20 ∧ s.tnt.flr = false) ∨ s.boot.l0 = false) :
    Completes .preReadyConfigRequest s (fun t => t = s) := by
  refine .unchanged (if_pos ?_)
  rcases h with ⟨h1, h2⟩ | h
  · simp [h1, h2]
  · simp [h]

theorem preReady_retries (h : s.boot.step < 20 ∨ s.tnt.flr = true) (hl : s.boot.l0 = true) :
    Completes .preReadyConfigRequest s (fun t => t.reply.retry = true ∧ OnlyReply s t) := by
  refine .next (if_neg ?_) ⟨rfl, rfl⟩
  rcases h with h | h
  · simp [hl]; omega
  · simp [hl, h]

theorem configurationWrite_retries (bm ms me mm : Bool) (h : s.boot.step < 20 ∨ s.tnt.flr = true) :
    Completes (.configurationWrite bm ms me mm) s (fun t => t.reply.retry = true ∧ OnlyReply s t) :=
  .next (if_pos (by rcases h with h | h <;> simp [h])) ⟨rfl, rfl⟩

/-- The vectors that are pending and unmasked. -/
def State.dueVectors (s : State) : List Nat :=
  SMap.keysWhere (fun v p => p && SMap.get (fun _ => false) s.msix.unmasked v) s.msix.pend

/-- The configuration as it is written. -/
def State.configured (s : State) (bm ms me mm : Bool) : State :=
  { s with tnt := { s.tnt with busMaster := bm, memSpace := ms }, msix := { s.msix with enable := me, fmask := mm } }

/-- The due vectors are sent. -/
def State.sendDue (s : State) : State :=
  { s with msix := { s.msix with
      sent := s.msix.sent ++ s.dueVectors
      pend := s.msix.pend.filter (fun p => !s.dueVectors.contains p.1) } }

theorem exec_configurationWrite (bm ms me mm : Bool) (h : ¬ (s.boot.step < 20 ∨ s.tnt.flr = true)) :
    exec (.configurationWrite bm ms me mm) s = .next
      ((if (bm && me && !mm) = true then (s.configured bm ms me mm).sendDue else s.configured bm ms me mm).status .ok) := by
  change execConfigurationWrite bm ms me mm s = _
  unfold execConfigurationWrite
  rw [if_neg (by simpa using h)]
  rfl

theorem mem_keysWhere_of_get {p : Nat → Bool → Bool} {m : SMap Bool} {v : Nat} (hv : SMap.get (fun _ => false) m v = true)
    (hp : p v true = true) : v ∈ SMap.keysWhere p m := by
  induction m with
  | nil => exact absurd hv Bool.false_ne_true
  | cons c m ih =>
    obtain ⟨j, x⟩ := c
    rw [SMap.get] at hv
    rw [SMap.keysWhere]
    split at hv
    next hj => subst hj; subst hv; rw [if_pos hp]; exact List.mem_cons_self
    next =>
      split
      · exact List.mem_cons_of_mem _ (ih hv)
      · exact ih hv

/-- A due vector is sent and pending no more. -/
theorem sendDue_sends {v : Nat} (hp : SMap.get (fun _ => false) s.msix.pend v = true)
    (hu : SMap.get (fun _ => false) s.msix.unmasked v = true) :
    v ∈ s.sendDue.msix.sent ∧ SMap.get (fun _ => false) s.sendDue.msix.pend v = false := by
  have hdue : v ∈ s.dueVectors := mem_keysWhere_of_get hp (by rw [hu]; rfl)
  refine ⟨List.mem_append_right _ hdue, ?_⟩
  refine (SMap.get_filter_keys (fun _ => false) (fun k => !s.dueVectors.contains k) s.msix.pend v).trans ?_
  rw [if_neg (by simpa using hdue)]

theorem configurationWrite_completes (bm ms me mm : Bool) (h : ¬ (s.boot.step < 20 ∨ s.tnt.flr = true)) :
    Completes (.configurationWrite bm ms me mm) s (fun t =>
      t.reply.retry = false ∧ t.tnt = { s.tnt with busMaster := bm, memSpace := ms } ∧ t.msix.enable = me ∧ t.msix.fmask = mm ∧
      t.msix.unmasked = s.msix.unmasked ∧ t = { s with tnt := t.tnt, msix := t.msix, reply := t.reply } ∧
      (bm = false ∨ me = false ∨ mm = true → t.msix.sent = s.msix.sent ∧ t.msix.pend = s.msix.pend) ∧
      (bm = true → me = true → mm = false → ∀ v, SMap.get (fun _ => false) s.msix.pend v = true →
        SMap.get (fun _ => false) s.msix.unmasked v = true →
        v ∈ t.msix.sent ∧ SMap.get (fun _ => false) t.msix.pend v = false)) := by
  have hx := exec_configurationWrite bm ms me mm h
  cases hc : bm && me && !mm with
  | true =>
    obtain ⟨⟨rfl, rfl⟩, rfl⟩ : (bm = true ∧ me = true) ∧ mm = false := by simpa using hc
    rw [hc, if_pos rfl] at hx
    exact .next hx ⟨rfl, rfl, rfl, rfl, rfl, rfl, fun h => by simp at h,
      fun _ _ _ v hp hu => sendDue_sends (s := s.configured true ms true false) hp hu⟩
  | false =>
    rw [hc, if_neg (by decide)] at hx
    exact .next hx ⟨rfl, rfl, rfl, rfl, rfl, rfl, fun _ => ⟨rfl, rfl⟩, fun h1 h2 h3 => by simp [h1, h2, h3] at hc⟩

end

end Sys2Proof.Machine
end

section
/-! PROOFS. O11: the clauses of the resets, the FLR and the configuration requests put together. -/

namespace Sys2Proof.Machine

/-- Settles O11: each reset is what `State.cleared` leaves, with the fields that its kind sets; an FLR ends the tenants one
after another (`flrTenants_spec`), and nothing that follows changes their states (`TenantsKept`). -/
theorem resetsClearAndKeepWhatTheirTableLists : Obligations.ResetsClearAndKeepWhatTheirTableLists := by
  unfold Obligations.ResetsClearAndKeepWhatTheirTableLists
  refine ⟨fun s => ⟨powerOnReset_fed s, powerOnReset_unfed s, perstAssert_completes s, perstRelease_idle,
      perstRelease_completes, watchdog_idle, watchdog_resets, fun ag v => ?_, internalRestart_idle,
      fun f hf => ⟨internalRestart_regulators hf, internalRestart_completes hf⟩⟩,
    fun s link => ⟨flr_idle link, flr_begins link, flrComplete_idle, flrComplete_completes⟩,
    fun s bm ms me mm => ⟨preReady_idle, preReady_retries, configurationWrite_retries bm ms me mm,
      configurationWrite_completes bm ms me mm⟩⟩
  obtain ⟨hearly, hrights, hkey⟩ := bootKey_cases s ag v
  exact ⟨hearly, hrights, hkey, bootCtrl_refuses, softReset_completes, retryAll_completes⟩

end Sys2Proof.Machine
end

section
/-! REFUTATION of O14. The clause that a turn leaves the held writes and arms as they are breaks in a state with a receive
window that is still open at the turn: the window closes inside the fence, an ACTIVE partner has then missed its last cycle
and is released (R358, R365), and the arm of group 15 that removes its binding joins what the fence holds (R106, R362). -/

namespace Sys2Proof.Machine

/-- A partner on port 0 that is ACTIVE and has been absent for two cycles, and whose barge has not come in this one. -/
def absentPartner : Partner :=
  { st := 2, port := 0, sa := [], expect := true, bind := some (0, 0), oseq := 0, loss := 2, join := 0#32, present := false,
    cookie := 0 }

/-- Inside the fence of cycle 5, of 31 250 ns from 1 000 000: port 0's receive window is open up to the turn, LOSSLIM is 3,
and nothing is held. -/
def openWindow : State :=
  { State.reset with
    regs := [(A.tbCycle, 5#32), (A.tbPeriod, 31250#32), (A.brgCtrl, 3#32), (A.brgIcfg 0, 1#32), (A.brgIclose 0, 31250#32)]
    tb := { State.reset.tb with started := true, timer := true, cycRun := true, now := 1031000#64, cycStart := 1000000#64,
                                cycLen := 31250, fence := true }
    brg := { State.reset.brg with dir := [(1, absentPartner)] } }

/-- The state meets the clause's hypotheses, and holds nothing. -/
theorem openWindow_fenced : openWindow.tb.timer = true ∧ openWindow.tb.fence = true ∧
    openWindow.time ≤ openWindow.turnAt ∧ openWindow.turnAt < 2 ^ 63 ∧ openWindow.tb.held = [] := by decide +kernel

/-- The writes and arms held in the state that a command goes on to. -/
def heldAfter : Host.Outcome State Fault Refusal → Option (List Held)
  | .next t => some t.tb.held
  | _ => none

/-- The turn closes the window and releases the partner, whose arm of group 15 is held. -/
theorem openWindow_turn : heldAfter (exec .turn openWindow) = some [Held.hwArm 15] := by decide +kernel

/-- Refutes O14: a partner that is lost when its receive window closes at the turn is released inside the fence, and the turn
leaves its arm of group 15 held where nothing was held before (`openWindow_turn`). -/
theorem not_theTurnBeginsTheNextCycle : ¬ Obligations.TheTurnBeginsTheNextCycle := by
  unfold Obligations.TheTurnBeginsTheNextCycle
  intro h
  obtain ⟨hturn, -⟩ := h
  obtain ⟨htimer, hfence, htime, hlt, hnone⟩ := openWindow_fenced
  obtain ⟨t, ht, -, -, -, hheld, -⟩ := hturn openWindow htimer hfence htime hlt
  have harm := openWindow_turn
  rw [ht, heldAfter, hheld, hnone] at harm
  exact absurd harm (by decide)

end Sys2Proof.Machine
end

section
/-! SUPPORT. Writes of the turn-swapped registers of TB (R90, R93, R95, R99, R101, R106): what the register table says of
them, what a shadow and the arm of a group read as after a write, and what the fence holds. -/

namespace Sys2Proof.Machine

/-! ### The registers of TB in the register table -/

theorem groupOf_tbPeriod : groupOf A.tbPeriod = 0 := by decide +kernel

theorem groupOf_tbStepHi : groupOf A.tbStepHi = 1 := by decide +kernel

theorem groupOf_tbPhase : groupOf A.tbPhase = 2 := by decide +kernel

theorem groupOf_tbArmed : groupOf A.tbArmed = 99 := by decide +kernel

theorem turnMask_tbPeriod : turnMask A.tbPeriod = maskOf 21 0 := by decide +kernel

theorem turnMask_tbStepHi : turnMask A.tbStepHi = BitVec.allOnes 32 := by decide +kernel

theorem turnMask_tbPhase : turnMask A.tbPhase = BitVec.allOnes 32 := by decide +kernel

/-- A word whose masked bits are all replaced is the new word. -/
theorem replace_allOnes (w v : W32) : (w &&& ~~~ BitVec.allOnes 32) ||| (v &&& BitVec.allOnes 32) = v := by
  rw [BitVec.not_allOnes, BitVec.and_zero, BitVec.zero_or, BitVec.and_allOnes]

/-- A field whose mask is replaced reads the new word. -/
theorem bits_replace_mask (w v : W32) (hi lo : Nat) (h : hi < 32) :
    bits ((w &&& ~~~ maskOf hi lo) ||| (v &&& maskOf hi lo)) hi lo = bits v hi lo := by
  refine Nat.eq_of_testBit_eq fun j => ?_
  rw [testBit_bits, testBit_bits]
  by_cases hj : j < hi + 1 - lo
  · simp [bit, getLsbD_maskOf hi lo (lo + j) h, show lo + j ≤ hi by omega]
  · simp [hj]

section
variable {s t : State} {a b g : Nat} {v : W32}

/-! ### States that differ in registers only -/

theorem OnlyRegs.refl (s : State) (l : List Nat) : OnlyRegs s s l := ⟨rfl, fun _ _ => rfl⟩

theorem OnlyRegs.setReg {l : List Nat} (h : OnlyRegs s t l) (v : W32) (ha : a ∈ l) : OnlyRegs s (t.setReg a v) l :=
  ⟨congrArg (State.setReg · a v) h.1,
    fun b hb => (State.reg_setReg_ne t v (by rintro rfl; exact hb ha)).trans (h.2 b hb)⟩

theorem OnlyRegs.status {l : List Nat} (h : OnlyRegs s t l) (st : Status) : OnlyRegs s (t.status st) l :=
  ⟨congrArg (State.status · st) h.1, h.2⟩

/-! ### Shadows and arms -/

/-- A shadow depends on its pending value and its live register. -/
theorem shadowOf_congr (hs : t.shadow = s.shadow) (hr : t.reg a = s.reg a) : t.shadowOf a = s.shadowOf a := by
  rw [State.shadowOf, State.shadowOf, hs, hr]

theorem shadowOf_setShadow_same (s : State) (a : Nat) (v : W32) : (s.setShadow a v).shadowOf a = v := by
  simp [State.shadowOf, State.setShadow]

theorem shadowOf_setShadow_ne (s : State) (v : W32) (h : b ≠ a) : (s.setShadow a v).shadowOf b = s.shadowOf b :=
  congrArg (·.getD (s.reg b)) (SMap.get_set_ne (fun _ => none) s.shadow (some v) h)

theorem groupArmed_congr (h : t.reg A.tbArmed = s.reg A.tbArmed) : t.groupArmed g = s.groupArmed g := by
  rw [State.groupArmed, State.groupArmed, h]

theorem reg_armNow_ne (s : State) (h : a ≠ A.tbArmed) : (s.armNow g).reg a = s.reg a := State.reg_setReg_ne s _ h

theorem shadowOf_armNow (s : State) (h : a ≠ A.tbArmed) : (s.armNow g).shadowOf a = s.shadowOf a :=
  shadowOf_congr rfl (reg_armNow_ne s h)

theorem groupArmed_armNow (s : State) {k : Nat} (hg : g < 32) :
    (s.armNow g).groupArmed k = (decide (k = g) || s.groupArmed k) := by
  rw [State.groupArmed, State.armNow, State.reg_setReg_same, bit_setBit _ _ _ _ hg]
  by_cases hk : k = g <;> simp [hk, State.groupArmed]

/-! ### A shadow write -/

/-- The pending values after a write of the register at `a`; TB_STEP_HI captures TB_STEP_LO with it (R90). -/
def State.shadowed (s : State) (a : Nat) (v : W32) : State :=
  let s1 := s.setShadow a ((s.shadowOf a &&& ~~~ turnMask a) ||| (v &&& turnMask a))
  if a = A.tbStepHi then s1.setShadow A.tbStepLo (s.reg A.tbStepLo) else s1

theorem shadowWrite_eq (s : State) (a : Nat) (v : W32) : s.shadowWrite a v =
    if autoGroup (groupOf a) = true then (s.shadowed a v).armNow (groupOf a) else s.shadowed a v := rfl

theorem reg_shadowed (s : State) (a b : Nat) (v : W32) : (s.shadowed a v).reg b = s.reg b := by
  unfold State.shadowed
  dsimp only
  split <;> rfl

/-- Only the pending values and TB_ARMED change. -/
theorem shadowWrite_frame (s : State) (a : Nat) (v : W32) :
    s.shadowWrite a v = { s with regs := (s.shadowWrite a v).regs, shadow := (s.shadowWrite a v).shadow } := by
  rw [shadowWrite_eq]
  unfold State.shadowed
  dsimp only
  split <;> split <;> rfl

theorem reg_shadowWrite_ne (s : State) (a : Nat) (v : W32) (h : b ≠ A.tbArmed) : (s.shadowWrite a v).reg b = s.reg b := by
  rw [shadowWrite_eq]
  split
  · rw [reg_armNow_ne _ h, reg_shadowed]
  · exact reg_shadowed s a b v

/-- The shadow takes the turn-swapped bits of the word (R99, R101). -/
theorem shadowOf_shadowWrite_same (s : State) (v : W32) (ha : a ≠ A.tbArmed) (hl : a ≠ A.tbStepLo) :
    (s.shadowWrite a v).shadowOf a = (s.shadowOf a &&& ~~~ turnMask a) ||| (v &&& turnMask a) := by
  have h : (s.shadowed a v).shadowOf a = (s.shadowOf a &&& ~~~ turnMask a) ||| (v &&& turnMask a) := by
    unfold State.shadowed
    dsimp only
    split
    · rw [shadowOf_setShadow_ne _ _ hl, shadowOf_setShadow_same]
    · exact shadowOf_setShadow_same s a _
  rw [shadowWrite_eq]
  split
  · rw [shadowOf_armNow _ ha, h]
  · exact h

/-- A write of TB_STEP_HI captures TB_STEP_LO (R90). -/
theorem shadowOf_shadowWrite_stepLo (s : State) (v : W32) :
    (s.shadowWrite A.tbStepHi v).shadowOf A.tbStepLo = s.reg A.tbStepLo := by
  rw [shadowWrite_eq, groupOf_tbStepHi]
  exact (shadowOf_armNow _ (by decide)).trans (shadowOf_setShadow_same _ _ _)

/-- A register of an AUTO group arms its group (R99). -/
theorem groupArmed_shadowWrite (s : State) (v : W32) {k : Nat} (hg : groupOf a = g) (h : autoGroup g = true) (hlt : g < 32) :
    (s.shadowWrite a v).groupArmed k = (decide (k = g) || s.groupArmed k) := by
  rw [shadowWrite_eq, hg, if_pos h, groupArmed_armNow _ hlt, groupArmed_congr (reg_shadowed s a _ v)]

/-! ### Inside the fence -/

theorem turnWrite_open (ag : Agent) (a : Nat) (v : W32) (h : s.tb.fence = false) :
    s.turnWrite ag a v = (s.shadowWrite a v).status .ok := if_neg (by simp [h])

theorem turnWrite_held (ag : Agent) (a : Nat) (v : W32) (h : s.tb.fence = true) :
    s.turnWrite ag a v = s.holdWrite ag a v (groupOf a) := if_pos h

theorem noteDelayed_frame (s : State) (g : Nat) : EventFrame s (s.noteDelayed g) :=
  EventFrame.trans ((EventFrame.setReg s _ _).trans (EventFrame.setReg _ _ _)) (frame_raiseFirst _ 760)

/-- TB_TURNSTAT names the group of the last delayed write (R107). -/
theorem turnstat_noteDelayed (s : State) (hg : g < 256) : bits ((s.noteDelayed g).reg A.tbTurnstat) 7 0 = g := by
  rw [State.noteDelayed, State.reg_raiseFirst _ (by decide) (by unfold evrKey; decide), State.reg_setFld_same,
    bits_setBits_apart _ _ _ _ _ _ (by decide) (by decide), State.reg_setFld_same, bits_setBits_same _ _ _ _ (by decide)]
  exact Nat.mod_eq_of_lt hg

/-- A write in the fence is held, and its sender gets DELAYED; no shadow changes (R106, R107). -/
theorem holdWrite_spec (s : State) (ag : Agent) (a : Nat) (v : W32) (hg : g < 256) :
    (s.holdWrite ag a v g).tb.held = s.tb.held ++ [Held.write ag a v] ∧ (s.holdWrite ag a v g).shadow = s.shadow ∧
      (s.holdWrite ag a v g).reply.status = .delayed ∧ bits ((s.holdWrite ag a v g).reg A.tbTurnstat) 7 0 = g := by
  have hf := noteDelayed_frame { s with tb := { s.tb with held := s.tb.held ++ [.write ag a v] } } g
  exact ⟨congrArg Tb.held hf.tb, hf.shadow, rfl, turnstat_noteDelayed _ hg⟩

/-! ### Disarming -/

/-- Disarming a group drops the shadows of its registers, which read the live values again (R102). -/
theorem shadowOf_disarmGroup (s : State) (hg : groupOf a = g) (ha : a ≠ A.tbArmed) :
    (s.disarmGroup g).shadowOf a = s.reg a := by
  have hget : SMap.get (fun _ => none) (s.disarmGroup g).shadow a = none :=
    (SMap.get_filter_keys _ (fun k => !([g].contains (groupOf k) || ([g].contains 1 && decide (k = A.tbStepLo)))) s.shadow
      a).trans (if_neg (by simp [hg]))
  rw [State.shadowOf, hget]
  exact State.reg_setReg_ne s _ ha

theorem groupArmed_disarmGroup (s : State) (hg : g < 32) : (s.disarmGroup g).groupArmed g = false := by
  have hr : (s.disarmGroup g).reg A.tbArmed = setBit (s.reg A.tbArmed) g false := State.reg_setReg_same s _ _
  rw [State.groupArmed, hr, bit_setBit _ _ _ _ hg, if_pos rfl]

theorem reg_disarmGroup_ne (s : State) (h : a ≠ A.tbArmed) : (s.disarmGroup g).reg a = s.reg a := State.reg_setReg_ne s _ h

end

end Sys2Proof.Machine
end

section
/-! SUPPORT. The clauses of TB's registers (R86, R88, R89, R93 to R95, R99, R102 to R104, R106). -/

namespace Sys2Proof.Machine

section
variable {s : State} {ag : Agent}

/-! ### An access that reaches the block -/

section
variable (h : s.reaches ag 0x03 = true)
include h

/-- An access of an agent that reaches TB does what its command says. -/
theorem Completes.tbAccess {c : Instr} {P : State → Prop} (a : Nat) (f : State → State)
    (hc : exec c s = s.tbAccess ag a f) (hp : P (f s)) : Completes c s P := .next (hc.trans (if_pos h)) hp

/-! ### TB_RATE and TB_PERIOD -/

theorem tbRateWrite_taken {v : W32} (hlo : -0x20C49BA5 ≤ v.toInt) (hhi : v.toInt ≤ 0x20C49BA5) :
    Completes (.tbRateWrite ag v) s (fun t => t.reg A.tbRate = v ∧ t.reply.status = .ok ∧ OnlyRegs s t [A.tbRate]) := by
  refine .tbAccess h A.tbRate (·.rateWrite ag v) rfl ?_
  rw [State.rateWrite, if_pos ⟨hlo, hhi⟩]
  exact ⟨State.reg_setReg_same s _ v, rfl, ((OnlyRegs.refl s _).setReg v (by simp)).status .ok⟩

theorem tbRateWrite_refused {v : W32} (hv : v.toInt < -0x20C49BA5 ∨ 0x20C49BA5 < v.toInt) :
    Completes (.tbRateWrite ag v) s (RefusedWith s .refusedRange) := by
  refine .tbAccess h A.tbRate (·.rateWrite ag v) rfl ?_
  rw [State.rateWrite, if_neg (by omega)]
  exact refuse_refusedWith s ag _ _

theorem tbPeriodWrite_refused {v : W32} (hv : bits v 21 0 < 10000 ∨ 4000000 < bits v 21 0) :
    Completes (.tbPeriodWrite ag v) s (RefusedWith s .refusedRange) := by
  refine .tbAccess h A.tbPeriod (·.periodWrite ag v) rfl ?_
  rw [State.periodWrite, if_neg (by omega)]
  exact refuse_refusedWith s ag _ _

theorem Completes.tbPeriodWrite {v : W32} {P : State → Prop} (hlo : 10000 ≤ bits v 21 0) (hhi : bits v 21 0 ≤ 4000000)
    (hp : P (s.turnWrite ag A.tbPeriod v)) : Completes (.tbPeriodWrite ag v) s P := by
  refine .tbAccess h A.tbPeriod (·.periodWrite ag v) rfl ?_
  rwa [State.periodWrite, if_pos ⟨hlo, hhi⟩]

end

/-! ### Writes that go to a shadow or are held -/

/-- Outside the fence a write leaves the live register and arms its AUTO group (R99). -/
theorem turnWrite_shadows (v : W32) (hf : s.tb.fence = false) {a g : Nat} (hg : groupOf a = g) (hauto : autoGroup g = true)
    (hlt : g < 32) (ha : a ≠ A.tbArmed) :
    (s.turnWrite ag a v).groupArmed g = true ∧ (s.turnWrite ag a v).reg a = s.reg a ∧
      (s.turnWrite ag a v).reply.status = .ok ∧ SameRegsBut s (s.turnWrite ag a v) [A.tbArmed] := by
  rw [turnWrite_open ag a v hf]
  refine ⟨(groupArmed_shadowWrite s v hg hauto hlt).trans (by simp), reg_shadowWrite_ne s a v ha, rfl,
    fun b hb => reg_shadowWrite_ne s a v (by simpa using hb)⟩

theorem shadowOf_turnWrite (v : W32) (hf : s.tb.fence = false) {a : Nat} (ha : a ≠ A.tbArmed) (hl : a ≠ A.tbStepLo) :
    (s.turnWrite ag a v).shadowOf a = (s.shadowOf a &&& ~~~ turnMask a) ||| (v &&& turnMask a) := by
  rw [turnWrite_open ag a v hf]
  exact shadowOf_shadowWrite_same s v ha hl

theorem turnWrite_holds (ag : Agent) (v : W32) (hf : s.tb.fence = true) {a g : Nat} (hg : groupOf a = g) (hlt : g < 256) :
    (s.turnWrite ag a v).tb.held = s.tb.held ++ [Held.write ag a v] ∧ (s.turnWrite ag a v).shadow = s.shadow ∧
      (s.turnWrite ag a v).reply.status = .delayed ∧ bits ((s.turnWrite ag a v).reg A.tbTurnstat) 7 0 = g := by
  rw [turnWrite_held ag a v hf, hg]
  exact holdWrite_spec s ag a v hlt

/-! ### Snapshot and TB_NOW -/

theorem getLsbD_cat64 (h l : W32) (i : Nat) :
    (cat64 h l).getLsbD i = if i < 32 then l.getLsbD i else h.getLsbD (i - 32) := BitVec.getLsbD_append

theorem cat64_hi32_lo32 (v : W64) : cat64 (hi32 v) (lo32 v) = v := by
  refine BitVec.eq_of_getLsbD_eq fun i hi => ?_
  rw [getLsbD_cat64, hi32, lo32, BitVec.getLsbD_setWidth, BitVec.getLsbD_setWidth, BitVec.getLsbD_ushiftRight]
  split
  next h => simp [h]
  next h => simp [show i - 32 < 32 by omega, show 32 + (i - 32) = i by omega]

/-- An agent's copies of two registers are two registers. -/
theorem agKey_inj (ag : Agent) (a b : Nat) : agKey ag a = agKey ag b ↔ a = b := by
  unfold agKey
  omega

/-- A snapshot writes the agent's four copies (R89). -/
theorem reg_takeSnapshot (s : State) (ag : Agent) (a : Nat) : (s.takeSnapshot ag).reg (agKey ag a) =
    if a = A.tbSnapOffset then w32 s.offset else if a = A.tbSnapCycle then s.cycle
    else if a = A.tbSnapHi then hi32 s.tb.now else if a = A.tbSnapLo then lo32 s.tb.now else s.reg (agKey ag a) := by
  simp only [State.takeSnapshot, State.reg_setReg, agKey_inj]

theorem snapshotTake_completes (h : s.reaches ag 0x03 = true) : Completes (.snapshotTake ag) s (fun t =>
    cat64 (t.reg (agKey ag A.tbSnapHi)) (t.reg (agKey ag A.tbSnapLo)) = s.tb.now ∧
      t.reg (agKey ag A.tbSnapCycle) = s.cycle ∧ t.reg (agKey ag A.tbSnapOffset) = BitVec.ofNat 32 s.offset ∧
      OnlyRegs s t [agKey ag A.tbSnapLo, agKey ag A.tbSnapHi, agKey ag A.tbSnapCycle, agKey ag A.tbSnapOffset]) := by
  have hlo : (s.takeSnapshot ag).reg (agKey ag A.tbSnapLo) = lo32 s.tb.now := reg_takeSnapshot s ag A.tbSnapLo
  have hhi : (s.takeSnapshot ag).reg (agKey ag A.tbSnapHi) = hi32 s.tb.now := reg_takeSnapshot s ag A.tbSnapHi
  refine .tbAccess h A.tbSnapCtrl (fun t => (t.takeSnapshot ag).status .ok) rfl ⟨?_, ?_, ?_, .status ?_ .ok⟩
  · rw [State.reg_status, State.reg_status, hhi, hlo, cat64_hi32_lo32]
  · rw [State.reg_status, reg_takeSnapshot, if_neg (by decide), if_pos rfl]
  · rw [State.reg_status, reg_takeSnapshot, if_pos rfl, w32]
  · exact ((((OnlyRegs.refl s _).setReg _ (by simp)).setReg _ (by simp)).setReg _ (by simp)).setReg _ (by simp)

theorem tbNowRead_completes (h : s.reaches ag 0x03 = true) : Completes (.tbNowRead ag) s (fun t =>
    t.reply.value = (s.tb.now.setWidth 32).setWidth 64 ∧ t.latchOf ag = (s.tb.now >>> 32).setWidth 32 ∧ t.regs = s.regs ∧
      t.tb = s.tb ∧ t.mem = s.mem) :=
  .tbAccess h A.tbNowLo (fun t => (t.setLatch ag (hi32 t.tb.now)).answer .ok (BitVec.ofNat 64 (lo32 t.tb.now).toNat)) rfl
    ⟨BitVec.ofNat_toNat _ _, SMap.get_set_same _ _ _ _, rfl, rfl, rfl⟩

/-! ### The shadow read-back -/

/-- The manager and the warden slots are no other agents. -/
theorem isBoss_only (hb : isBoss ag = true) : isThread ag = false ∧ isTenant ag = false ∧ isHardware ag = false := by
  have hr : ag.toNat = 0x500 ∨ (0x7F0 ≤ ag.toNat ∧ ag.toNat ≤ 0x7F3) := by
    simp only [isBoss, isWarden, Bool.or_eq_true, decide_eq_true_eq] at hb
    exact hb.imp_left fun he => by rw [he]; rfl
  refine ⟨decide_eq_false ?_, decide_eq_false ?_, decide_eq_false ?_⟩ <;> omega

/-- TB belongs to no domain that can be off (Table 22-4). -/
theorem regOff_tbShrbData (s : State) : s.regOff A.tbShrbData = false := rfl

/-- A read of TB_SHRB_DATA has no side effects (R104). -/
theorem readPlain_tbShrbData (s : State) (ag : Agent) :
    s.readPlain ag A.tbShrbData = s.answer .ok ((s.shadowData ag).setWidth 64) := rfl

theorem readCmd_tbShrbData (hb : isBoss ag = true) (hm : s.tnt.memSpace = true) :
    s.readCmd ag A.tbShrbData = s.answer .ok ((s.shadowData ag).setWidth 64) := by
  obtain ⟨hthread, htenant, hhw⟩ := isBoss_only hb
  have hacc : accessAgent ag A.tbShrbData = ag := if_neg (by simp [show inTenantWindow A.tbShrbData = false by decide])
  have hread : s.mayRead ag A.tbShrbData = true := (if_neg (by simp [hthread])).trans hb
  rw [State.readCmd, if_neg (by simp [hm]), State.readReg, hacc, if_neg (by decide), if_neg (by decide),
    if_neg (by simp [htenant, hhw]), if_neg (by decide), State.blockRead, if_neg (by simp [hread]), regOff_tbShrbData,
    if_neg (by decide), if_neg (by decide), if_neg (by decide), if_neg (by decide), readPlain_tbShrbData]

theorem shadowReadback_completes (hb : isBoss ag = true) (hm : s.tnt.memSpace = true)
    (ha : s.reg (agKey ag A.tbShrbAddr) = BitVec.ofNat 32 A.tbPhase) : Completes (.shadowReadback ag) s (fun t =>
      t.reply.value = (s.shadowOf A.tbPhase).setWidth 64 ∧ OnlyReply s t) := by
  refine .next (congrArg Host.Outcome.next (readCmd_tbShrbData hb hm)) ⟨?_, rfl⟩
  have haddr : bits (BitVec.ofNat 32 A.tbPhase) 23 2 * 4 = A.tbPhase := by decide
  rw [State.answer, State.shadowData, ha]
  dsimp only
  rw [haddr, turnMask_tbPhase, replace_allOnes]

/-! ### TB_ARM and TB_DISARM -/

/-- The word that names group `g` alone. -/
def oneGroup (g : Nat) : W32 := BitVec.ofNat 32 (2 ^ g)

theorem namedGroups_oneGroup : ∀ g, g < 23 → namedGroups (oneGroup g) = [g] := by decide +kernel

theorem setBit_zero_oneGroup : ∀ g, g < 23 → setBit 0#32 g true = oneGroup g ∧ oneGroup g ≠ 0#32 := by decide +kernel

theorem firstBad_single (st : Status) : firstBad [st] = st := by cases st <;> rfl

section
variable {g : Nat} (hg : g < 23)
include hg

/-- The word that an agent may write of a word with one bit (R103). -/
theorem allowedWord_oneGroup (ag : Agent) : allowedWord ag (oneGroup g) =
    if armRight ag g = .ok then oneGroup g else 0#32 := by
  rw [allowedWord, namedGroups_oneGroup g hg, List.foldl_cons, List.foldl_nil, (setBit_zero_oneGroup g hg).1]

theorem armAccess_refused (s : State) (a : Nat) (hr : armRight ag g ≠ .ok) :
    s.armAccess ag a (oneGroup g) = s.refuse ag a (armRight ag g) := by
  simp [State.armAccess, allowedWord_oneGroup hg, namedGroups_oneGroup g hg, firstBad_single, hr]

theorem armWord_oneGroup (s : State) : s.armWord (oneGroup g) = s.armOne g := by
  simp [State.armWord, namedGroups_oneGroup g hg]

theorem disarmWord_oneGroup (s : State) : s.disarmWord (oneGroup g) = s.disarmGroup g := by
  rw [State.disarmWord, namedGroups_oneGroup g hg]
  rfl

theorem arm_allowed (hr : armRight ag g = .ok) (hf : s.tb.fence = false) :
    s.armAccess ag A.tbArm (oneGroup g) = (s.armOne g).2.status (s.armOne g).1 := by
  simp [State.armAccess, allowedWord_oneGroup hg, namedGroups_oneGroup g hg, firstBad_single, hr, hf,
    (setBit_zero_oneGroup g hg).2, armWord_oneGroup hg]

theorem disarm_allowed (hr : armRight ag g = .ok) (hf : s.tb.fence = false) :
    s.armAccess ag A.tbDisarm (oneGroup g) = (s.disarmGroup g).status .ok := by
  simp [State.armAccess, allowedWord_oneGroup hg, namedGroups_oneGroup g hg, firstBad_single, hr, hf,
    (setBit_zero_oneGroup g hg).2, disarmWord_oneGroup hg, show A.tbDisarm ≠ A.tbArm by decide]

/-- An agent without the right to a group neither arms nor disarms it (R103). -/
theorem arms_refused (h : s.reaches ag 0x03 = true) {st : Status} (hst : armRight ag g = st) (hr : st ≠ .ok) :
    Completes (.armGroups ag (oneGroup g)) s (RefusedWith s st) ∧
      Completes (.disarmGroups ag (oneGroup g)) s (RefusedWith s st) := by
  subst hst
  refine ⟨.tbAccess h A.tbArm (·.armAccess ag A.tbArm _) rfl ?_,
    .tbAccess h A.tbDisarm (·.armAccess ag A.tbDisarm _) rfl ?_⟩
  · rw [armAccess_refused hg s _ hr]
    exact refuse_refusedWith s ag _ _
  · rw [armAccess_refused hg s _ hr]
    exact refuse_refusedWith s ag _ _

theorem armGroups_arms (h : s.reaches ag 0x03 = true) (hr : armRight ag g = .ok) (hf : s.tb.fence = false)
    (hauto : autoGroup g = false) (h16 : g = 16 → bit (s.reg A.shfBankstat) 1 = true) :
    Completes (.armGroups ag (oneGroup g)) s (fun t =>
      t.groupArmed g = true ∧ t.reply.status = .ok ∧ OnlyRegs s t [A.tbArmed]) := by
  have hone : s.armOne g = (.ok, s.armNow g) := by
    rw [State.armOne, if_neg (by simp [hauto]), if_neg (by simpa using h16)]
  refine .tbAccess h A.tbArm (·.armAccess ag A.tbArm _) rfl ?_
  rw [arm_allowed hg hr hf, hone]
  exact ⟨(groupArmed_armNow s (by omega)).trans (by simp), rfl, ((OnlyRegs.refl s _).setReg _ (by simp)).status .ok⟩

theorem disarmGroups_disarms (h : s.reaches ag 0x03 = true) (hr : armRight ag g = .ok) (hf : s.tb.fence = false) :
    Completes (.disarmGroups ag (oneGroup g)) s (fun t => t.groupArmed g = false ∧ t.reply.status = .ok ∧
      SameRegsBut s t [A.tbArmed] ∧ ∀ a, groupOf a = g → t.shadowOf a = s.reg a) := by
  refine .tbAccess h A.tbDisarm (·.armAccess ag A.tbDisarm _) rfl ?_
  rw [disarm_allowed hg hr hf]
  refine ⟨groupArmed_disarmGroup s (by omega), rfl, fun a ha => reg_disarmGroup_ne s (by simpa using ha), fun a ha => ?_⟩
  have hne : a ≠ A.tbArmed := by
    rintro rfl
    rw [groupOf_tbArmed] at ha
    omega
  exact shadowOf_disarmGroup s ha hne

end

end

end Sys2Proof.Machine
end

section
/-! PROOFS. O12: the clauses of TB's registers put together. -/

namespace Sys2Proof.Machine

/-- Settles O12: each command's checks first, then the shadow write outside the fence or the held write inside it, the reads,
and the arms of one group by the right to it. -/
theorem timebaseRegistersCheckShadowAndArm : Obligations.TimebaseRegistersCheckShadowAndArm := by
  unfold Obligations.TimebaseRegistersCheckShadowAndArm
  intro s ag v h
  refine ⟨tbRateWrite_taken h, tbRateWrite_refused h, tbPeriodWrite_refused h, fun hf => ⟨fun hlo hhi => ?_, ?_, ?_⟩,
    fun hf => ⟨fun hlo hhi => ?_, ?_, ?_⟩, snapshotTake_completes h, tbNowRead_completes h, shadowReadback_completes,
    fun g hg => ⟨fun hauto hhw hsec hf => ?_, fun hhw => ?_, fun h22 hw => ?_⟩⟩
  · obtain ⟨harm, hkeep⟩ := turnWrite_shadows (ag := ag) v hf groupOf_tbPeriod rfl (by decide) (by decide)
    refine .tbPeriodWrite h hlo hhi ⟨?_, harm, hkeep⟩
    rw [shadowOf_turnWrite v hf (by decide) (by decide), turnMask_tbPeriod, bits_replace_mask _ _ _ _ (by decide)]
  · obtain ⟨harm, hkeep⟩ := turnWrite_shadows (ag := ag) v hf groupOf_tbPhase rfl (by decide) (by decide)
    refine .tbAccess h A.tbPhase (·.turnWrite ag A.tbPhase v) rfl ⟨?_, harm, hkeep⟩
    rw [shadowOf_turnWrite v hf (by decide) (by decide), turnMask_tbPhase, replace_allOnes]
  · obtain ⟨harm, hkeep⟩ := turnWrite_shadows (ag := ag) v hf groupOf_tbStepHi rfl (by decide) (by decide)
    refine .tbAccess h A.tbStepHi (·.turnWrite ag A.tbStepHi v) rfl ⟨?_, ?_, harm, hkeep⟩
    · rw [shadowOf_turnWrite v hf (by decide) (by decide), turnMask_tbStepHi, replace_allOnes]
    · rw [turnWrite_open _ _ _ hf]
      exact shadowOf_shadowWrite_stepLo s v
  · exact .tbPeriodWrite h hlo hhi (turnWrite_holds ag v hf groupOf_tbPeriod (by decide))
  · exact .tbAccess h A.tbPhase (·.turnWrite ag A.tbPhase v) rfl (turnWrite_holds ag v hf groupOf_tbPhase (by decide))
  · exact .tbAccess h A.tbStepHi (·.turnWrite ag A.tbStepHi v) rfl (turnWrite_holds ag v hf groupOf_tbStepHi (by decide))
  · have hr : armRight ag g = .ok := by
      rw [armRight, if_neg (by simp [hhw]), if_neg (by simpa using hsec)]
    exact ⟨armGroups_arms hg h hr hf hauto, disarmGroups_disarms hg h hr hf⟩
  · exact arms_refused hg h (if_pos hhw) (by decide)
  · subst h22
    exact arms_refused hg h (st := .refusedSecure) (by simp [armRight, hw, show hwGroup 22 = false by decide]) (by decide)

end Sys2Proof.Machine
end

section
/-! SUPPORT. Correction edges (R85 to R87): the edge at which the accumulator crosses a whole nanosecond, and what that edge
does. -/

namespace Sys2Proof.Machine

/-! ### The number of edges up to a correction -/

/-- The least number of steps of `r` that reaches `d`. -/
theorem toNat_ceilDiv {d r : Int} {n : Nat} (hr : 0 < r) (hlo : (n : Int) * r < d) (hhi : d ≤ ((n + 1 : Nat) : Int) * r) :
    ((d + r - 1) / r).toNat = n + 1 := by
  have hn : ((n + 1 : Nat) : Int) * r = n * r + r := by push_cast; ring
  have hge : ((n + 1 : Nat) : Int) ≤ (d + r - 1) / r := (Int.le_ediv_iff_mul_le hr).mpr (by omega)
  have hlt : (d + r - 1) / r < ((n + 2 : Nat) : Int) := by
    refine (Int.ediv_lt_iff_lt_mul hr).mpr ?_
    have : ((n + 2 : Nat) : Int) * r = n * r + r + r := by push_cast; ring
    omega
  omega

section
variable {s : State} {n : Nat} {r : Int}

theorem edgesToCross_up (hr : (s.reg A.tbRate).toInt = r) (hpos : 0 < r) (hlo : s.tb.acc + (n : Int) * r < nsUnit)
    (hhi : nsUnit ≤ s.tb.acc + ((n + 1 : Nat) : Int) * r) : s.edgesToCross = some (n + 1) := by
  rw [State.edgesToCross, hr, if_pos hpos, toNat_ceilDiv (n := n) hpos (by omega) (by omega)]

theorem edgesToCross_down (hr : (s.reg A.tbRate).toInt = r) (hneg : r < 0) (hlo : -nsUnit < s.tb.acc + (n : Int) * r)
    (hhi : s.tb.acc + ((n + 1 : Nat) : Int) * r ≤ -nsUnit) : s.edgesToCross = some (n + 1) := by
  have h1 : (n : Int) * -r = -(n * r) := by ring
  have h2 : ((n + 1 : Nat) : Int) * -r = -(((n + 1 : Nat) : Int) * r) := by ring
  rw [State.edgesToCross, hr, if_neg (by omega), if_pos hneg,
    show nsUnit + s.tb.acc - r - 1 = nsUnit + s.tb.acc + -r - 1 by ring, toNat_ceilDiv (n := n) (by omega) (by omega) (by omega)]

theorem edgesToCross_zero (h : s.reg A.tbRate = 0#32) : s.edgesToCross = none := by
  rw [State.edgesToCross, h]
  rfl

/-! ### One edge -/

/-- At a correction edge with a positive rate TB time advances by 2 (R87). -/
theorem edge_over (hr : (s.reg A.tbRate).toInt = r) (hd : s.tb.skipDue = false) (h : nsUnit ≤ s.tb.acc + r)
    (hk : s.skips (s.time + 1) = false) :
    s.edge = { s with tb := { s.tb with now := s.tb.now + 2#64, acc := s.tb.acc + r - nsUnit } } := by
  simp [State.edge, hr, hd, h, hk]

/-- A correction edge that would skip the next cycle start is an ordinary one; the correction is due (R87). -/
theorem edge_defers (hr : (s.reg A.tbRate).toInt = r) (hd : s.tb.skipDue = false) (h : nsUnit ≤ s.tb.acc + r)
    (hk : s.skips (s.time + 1) = true) :
    s.edge = { s with tb := { s.tb with now := s.tb.now + 1#64, skipDue := true, acc := s.tb.acc + r - nsUnit } } := by
  simp [State.edge, hr, hd, h, hk]

/-- The correction that was due. -/
theorem edge_due (hr : (s.reg A.tbRate).toInt = r) (hd : s.tb.skipDue = true) (hk : s.skips (s.time + 1) = false) :
    s.edge = { s with tb := { s.tb with now := s.tb.now + 2#64, skipDue := false, acc := s.tb.acc + r } } := by
  simp [State.edge, hr, hd, hk]

/-- At a correction edge with a negative rate TB time stays (R87). -/
theorem edge_under (hr : (s.reg A.tbRate).toInt = r) (hd : s.tb.skipDue = false) (h : s.tb.acc + r ≤ -nsUnit) :
    s.edge = { s with tb := { s.tb with acc := s.tb.acc + r + nsUnit } } := by
  have hup : ¬ nsUnit ≤ s.tb.acc + r := by unfold nsUnit at *; omega
  simp [State.edge, hr, hd, hup, h]

/-! ### CORRECTION_EDGE -/

/-- The state that the edges before a correction lead to, and the correction edge, deferred or not. -/
theorem exec_correctionEdge (hs : s.tb.started = true) (hn : s.edgesToCross = some (n + 1)) :
    exec .correctionEdge s = .next (if (s.plainEdges n).edge.tb.skipDue = true then (s.plainEdges n).edge.edge
      else (s.plainEdges n).edge) := by
  change execCorrectionEdge s = _
  simp [execCorrectionEdge, hs, hn]

section
variable (hs : s.tb.started = true) (hd : s.tb.skipDue = false) (hr : (s.reg A.tbRate).toInt = r)
include hs hd hr

theorem correctionEdge_adds (hpos : 0 < r) (hlo : s.tb.acc + (n : Int) * r < nsUnit)
    (hhi : nsUnit ≤ s.tb.acc + ((n + 1 : Nat) : Int) * r) (ht : s.tb.timer = false) :
    Completes .correctionEdge s (fun t => t = { s with tb := { s.tb with
      now := s.tb.now + BitVec.ofNat 64 (n + 1 + 1), acc := s.tb.acc + ((n + 1 : Nat) : Int) * r - nsUnit } }) := by
  have hmul : ((n + 1 : Nat) : Int) * r = n * r + r := by push_cast; ring
  have hacc : (s.plainEdges n).tb.acc = s.tb.acc + n * r := by rw [← hr]; rfl
  have hedge := edge_over (s := s.plainEdges n) hr hd (by omega) (by rw [State.skips]; exact congrArg (· && _) ht)
  refine .next (exec_correctionEdge hs (edgesToCross_up hr hpos hlo hhi)) ?_
  rw [hedge, if_neg (by simp [State.plainEdges, hd]), hacc, hmul, ← add_assoc, BitVec.ofNat_add, BitVec.ofNat_add]
  simp only [State.plainEdges, BitVec.add_assoc]
  rfl

/-- The correction that would skip the next cycle start comes an edge later (R87). -/
theorem correctionEdge_deferred (hpos : 0 < r) (hlo : s.tb.acc + (n : Int) * r < nsUnit)
    (hhi : nsUnit ≤ s.tb.acc + ((n + 1 : Nat) : Int) * r) (ht : s.tb.timer = true)
    (hskip : (s.tb.now + BitVec.ofNat 64 n).toNat + 1 = s.turnAt) (hlt : s.turnAt < 2 ^ 64) :
    Completes .correctionEdge s (fun t => t = { s with tb := { s.tb with
      now := s.tb.now + BitVec.ofNat 64 (n + 1 + 2), acc := s.tb.acc + ((n + 1 + 1 : Nat) : Int) * r - nsUnit } }) := by
  have hmul : ((n + 1 : Nat) : Int) * r = n * r + r := by push_cast; ring
  have hacc : (s.plainEdges n).tb.acc = s.tb.acc + n * r := by rw [← hr]; rfl
  have h1 := edge_defers (s := s.plainEdges n) hr hd (by omega)
    ((congrArg (· && _) ht).trans (decide_eq_true hskip))
  have htime : (s.plainEdges n).edge.time = s.turnAt := by
    rw [h1, State.time]
    exact (BitVec.toNat_add_of_lt (show (s.tb.now + BitVec.ofNat 64 n).toNat + 1 < 2 ^ 64 by omega)).trans hskip
  have hturn : (s.plainEdges n).edge.turnAt = s.turnAt := by rw [h1]; rfl
  have hpast : (s.plainEdges n).edge.skips ((s.plainEdges n).edge.time + 1) = false := by
    rw [State.skips, htime, hturn]
    simp
  have h2 := edge_due (s := (s.plainEdges n).edge) (r := r) (by rw [h1]; exact hr) (by rw [h1]) hpast
  refine .next (exec_correctionEdge hs (edgesToCross_up hr hpos hlo hhi)) ?_
  have hsum : ((n + 1 + 1 : Nat) : Int) * r = n * r + r + r := by push_cast; ring
  rw [if_pos (by rw [h1]), h2, h1, hacc, hsum, ← add_assoc, ← add_assoc, BitVec.ofNat_add, BitVec.ofNat_add,
    sub_add_eq_add_sub]
  simp only [State.plainEdges, BitVec.add_assoc, hd]

/-- With a negative rate TB time stands one lower after the correction edge (R87). -/
theorem correctionEdge_removes (hneg : r < 0) (hlo : -nsUnit < s.tb.acc + (n : Int) * r)
    (hhi : s.tb.acc + ((n + 1 : Nat) : Int) * r ≤ -nsUnit) :
    Completes .correctionEdge s (fun t => t = { s with tb := { s.tb with
      now := s.tb.now + BitVec.ofNat 64 n, acc := s.tb.acc + ((n + 1 : Nat) : Int) * r + nsUnit } }) := by
  have hmul : ((n + 1 : Nat) : Int) * r = n * r + r := by push_cast; ring
  have hacc : (s.plainEdges n).tb.acc = s.tb.acc + n * r := by rw [← hr]; rfl
  have hedge := edge_under (s := s.plainEdges n) hr hd (by omega)
  refine .next (exec_correctionEdge hs (edgesToCross_down hr hneg hlo hhi)) ?_
  rw [hedge, if_neg (by simp [State.plainEdges, hd]), hacc, hmul, ← add_assoc]
  rfl

end

theorem correctionEdge_idle (h : s.tb.started = false ∨ s.reg A.tbRate = 0#32) :
    Completes .correctionEdge s (fun t => t = s) := by
  refine .next ?_ rfl
  change execCorrectionEdge s = _
  rw [execCorrectionEdge]
  obtain h | h := h
  · exact if_pos (by simp [h])
  · rw [edgesToCross_zero h]
    exact ite_self _

end

end Sys2Proof.Machine
end

section
/-! SUPPORT. The fence and the writes it holds (R105, R106): what its begin does to TB time, and what the held writes
change. -/

namespace Sys2Proof.Machine

section
variable {s : State}

/-! ### What the begin of a fence leaves alone -/

theorem TenantsKept.allocBerth {s₀ : State} (h : TenantsKept s₀ s) (e : Nat) (q : Bool) :
    TenantsKept s₀ (s.allocBerth e q).2.2 := by
  unfold State.allocBerth
  dsimp only
  split
  · exact h.raiseFirst (by decide)
  · split
    next htake => exact h.takeElem (by decide) htake
    next => exact h.raiseFirst (by decide)

theorem TenantsKept.setOut {s₀ : State} (h : TenantsKept s₀ s) (n : Nat) (o : OutBarge) : TenantsKept s₀ (s.setOut n o) :=
  h.update

/-- Taking berths for the next cycle does not touch the timebase (R351). -/
theorem tb_fenceBerths (s : State) (r : Nat → W32) : (s.fenceBerths r).tb = s.tb := by
  refine (TenantsKept.foldl (TenantsKept.refl s) fun u n _ hu => ?_).tb
  refine .ite ?_ hu
  dsimp only
  split
  next e _ =>
    have hb := (hu.setOut n { u.out n with wantNext := true }).allocBerth e false
    exact .ite (hb.setOut _ _) hb
  next => exact hu.setOut _ _

/-- Closing the tag window does not touch the timebase (R563). -/
theorem tb_closeTagWindow (s : State) : s.closeTagWindow.tb = s.tb := by
  unfold State.closeTagWindow
  dsimp only
  split
  · rfl
  · exact (frame_post _ _ _ _).tb

/-! ### The begin of the fence -/

theorem applyHeld_none (h : s.tb.held = []) : s.applyHeld = s := by
  rw [State.applyHeld, h, List.foldl_nil, ← h]

theorem tb_advance (s : State) (t : Nat) :
    (s.advance t).tb = { s.tb with now := if s.time < t then BitVec.ofNat 64 t else s.tb.now } := by
  unfold State.advance
  split <;> rfl

/-- The fence begins 500 ns before the turn (R105). -/
theorem tb_fenceBegin (h : s.tb.held = []) : s.fenceBegin.tb =
    { s.tb with fence := true, now := if s.time + 500 < s.turnAt then BitVec.ofNat 64 (s.turnAt - 500) else s.tb.now } := by
  have hclose : ∀ u : State, (if bit (u.reg A.secKstat) 3 = true then u.closeTagWindow else u).tb = u.tb := by
    intro u
    split
    · exact tb_closeTagWindow u
    · rfl
  rw [State.fenceBegin, applyHeld_none h]
  dsimp only
  rw [tb_fenceBerths, hclose]
  dsimp only
  rw [tb_advance]
  simp only [Nat.lt_sub_iff_add_lt]

theorem turnFenceBegin_begins (ht : s.tb.timer = true) (hf : s.tb.fence = false) (hh : s.tb.held = []) :
    Completes .turnFenceBegin s (fun t => t.tb = { s.tb with
      fence := true, now := if s.time + 500 < s.turnAt then BitVec.ofNat 64 (s.turnAt - 500) else s.tb.now }) :=
  .next (if_pos (by simp [ht, hf])) (tb_fenceBegin hh)

theorem turnFenceBegin_idle (h : s.tb.timer = false ∨ s.tb.fence = true) : Completes .turnFenceBegin s (fun t => t = s) :=
  .next (if_neg (by obtain h | h := h <;> simp [h])) rfl

/-! ### The held writes -/

theorem tb_shadowWrite (s : State) (a : Nat) (v : W32) : (s.shadowWrite a v).tb = s.tb := by rw [shadowWrite_frame]

theorem mem_shadowWrite (s : State) (a : Nat) (v : W32) : (s.shadowWrite a v).mem = s.mem := by rw [shadowWrite_frame]

theorem tb_armOne (s : State) (g : Nat) : (s.armOne g).2.tb = s.tb := by
  unfold State.armOne
  split
  · rfl
  · split
    · exact (frame_raise _ _).tb
    · rfl

theorem tb_armWord (s : State) (v : W32) : (s.armWord v).2.tb = s.tb :=
  List.foldlRecOn (motive := fun r : Status × State => r.2.tb = s.tb) _ _ rfl fun r hr g _ => (tb_armOne r.2 g).trans hr

theorem tb_disarmWord (s : State) (v : W32) : (s.disarmWord v).tb = s.tb :=
  foldl_keeps State.tb (fun t g => t.disarmGroup g) (namedGroups v) (fun _ _ _ => rfl) s

/-- A held write or arm that takes effect does not touch the timebase. -/
theorem tb_applyHeld1 (s : State) (h : Held) : (s.applyHeld1 h).tb = s.tb := by
  cases h with
  | hwArm g => rfl
  | write ag a v =>
    unfold State.applyHeld1
    dsimp only
    split
    · exact tb_armWord s v
    · split
      · exact tb_disarmWord s v
      · exact tb_shadowWrite s a v

/-- Nothing is held any more. -/
theorem held_applyHeld (s : State) : s.applyHeld.tb.held = [] :=
  congrArg Tb.held (foldl_keeps State.tb _ _ (fun u h _ => tb_applyHeld1 u h) _)

theorem heldWritesApply_fenced (h : s.tb.fence = true) : Completes .heldWritesApply s (fun t => t = s) :=
  .next (if_pos h) rfl

theorem exec_heldWritesApply (h : s.tb.fence = false) : exec .heldWritesApply s = .next s.applyHeld := if_neg (by simp [h])

theorem heldWritesApply_empties (h : s.tb.fence = false) : Completes .heldWritesApply s (fun t => t.tb.held = []) :=
  .next (exec_heldWritesApply h) (held_applyHeld s)

/-- Two writes of TB_PHASE with an arm of the port-return group between them: the last write stands in the shadow, and both
groups are armed (R106). -/
theorem heldWritesApply_inOrder (a b : Agent) (u v : W32) (hf : s.tb.fence = false)
    (hh : s.tb.held = [Held.write a A.tbPhase u, Held.hwArm 19, Held.write b A.tbPhase v]) :
    Completes .heldWritesApply s (fun t => t.tb.held = [] ∧ t.shadowOf A.tbPhase = v ∧ t.groupArmed 2 = true ∧
      t.groupArmed 19 = true ∧ t.mem = s.mem ∧ SameRegsBut s t [A.tbArmed]) := by
  let s0 : State := { s with tb := { s.tb with held := [] } }
  let s1 := (s0.shadowWrite A.tbPhase u).armNow 19
  have happly : s.applyHeld = s1.shadowWrite A.tbPhase v := by
    rw [State.applyHeld, hh]
    rfl
  have harm : ∀ k, (s1.shadowWrite A.tbPhase v).groupArmed k = (decide (k = 2) || s1.groupArmed k) :=
    fun k => groupArmed_shadowWrite s1 v groupOf_tbPhase rfl (by decide)
  refine .next (exec_heldWritesApply hf) ⟨held_applyHeld s, ?_⟩
  rw [happly]
  refine ⟨?_, (harm 2).trans (by simp), (harm 19).trans ?_, ?_, fun k hk => ?_⟩
  · rw [shadowOf_shadowWrite_same s1 v (by decide) (by decide), turnMask_tbPhase, replace_allOnes]
  · rw [groupArmed_armNow _ (by decide)]
    simp
  · exact (mem_shadowWrite s1 _ _).trans (mem_shadowWrite s0 _ _)
  · have hk' : k ≠ A.tbArmed := by simpa using hk
    rw [reg_shadowWrite_ne s1 _ _ hk', reg_armNow_ne _ hk', reg_shadowWrite_ne s0 _ _ hk']
    rfl

end

end Sys2Proof.Machine
end

section
/-! PROOFS. O13: the clauses of the correction edge and the fence put together. -/

namespace Sys2Proof.Machine

/-- Settles O13: the edges up to the crossing are plain ones, so the statement is about the correction edge itself; then the
begin of the fence, and the held writes one after another. -/
theorem correctionsAndTheFenceFollowTheTimebase : Obligations.CorrectionsAndTheFenceFollowTheTimebase := by
  unfold Obligations.CorrectionsAndTheFenceFollowTheTimebase
  refine ⟨fun s n hs hd hn => ?_, fun s h => correctionEdge_idle h,
    fun s => ⟨fun ht hf hh _ => turnFenceBegin_begins ht hf hh, turnFenceBegin_idle, heldWritesApply_fenced,
      heldWritesApply_empties, fun a b u v hf hh => heldWritesApply_inOrder a b u v hf hh⟩⟩
  obtain ⟨m, rfl⟩ : ∃ m, n = m + 1 := ⟨n - 1, by omega⟩
  exact ⟨fun hpos hlo hhi =>
    ⟨correctionEdge_adds hs hd rfl hpos hlo hhi, correctionEdge_deferred hs hd rfl hpos hlo hhi⟩,
    correctionEdge_removes hs hd rfl⟩

end Sys2Proof.Machine
end

section
/-! SUPPORT. What stands beside the flight (sections 5.2, 9.2, 10.2, 19.1): the counters of the flight and of the ports,
which no event, no match and no allocation advances, and what allocating and freeing a buffer leave alone. -/

namespace Sys2Proof.Machine

/-! ### Counters -/

/-- A counter of the flight or of a port (the registers of chapters 05 and 13). -/
def FlightCtr (a : Nat) : Prop := (0x60000 ≤ a ∧ a < 0x70000) ∨ (0xB0000 ≤ a ∧ a < 0xC0000)

theorem flightCtr_fltDrop (c : Nat) : FlightCtr (fltDrop c) := by
  unfold FlightCtr fltDrop
  omega

theorem flightCtr_prtCtr (p : Fin 8) {i : Nat} (hi : i < 32) : FlightCtr (prtCtr p i) := by
  unfold FlightCtr prtCtr
  omega

theorem State.counter_count_same (s : State) (a : Nat) : (s.count a).counter a = s.counter a + 1#64 :=
  State.counter_countBy_same s a 1

theorem State.counter_count_ne (s : State) {a b : Nat} (h : b ≠ a) : (s.count a).counter b = s.counter b :=
  State.counter_countBy_ne s 1 h

theorem State.counter_count (s : State) (a b : Nat) :
    (s.count a).counter b = if b = a then s.counter b + 1#64 else s.counter b := by
  split
  next h => rw [h, State.counter_count_same]
  next h => exact State.counter_count_ne s h

section
variable {a : Nat} (h : FlightCtr a)
include h

theorem FlightCtr.counter_count (s : State) {b : Nat} (hb : ¬ FlightCtr b) : (s.count b).counter a = s.counter a :=
  State.counter_count_ne s fun hab => hb (hab ▸ h)

theorem FlightCtr.counter_matchLoop (n : Nat) (s : State) : (matchLoop n s).counter a = s.counter a := by
  induction n generalizing s with
  | zero => rfl
  | succ n ih =>
    unfold matchLoop
    split
    · rfl
    · split
      · rfl
      · rw [ih]
        exact h.counter_count _ (by unfold FlightCtr; decide)

theorem FlightCtr.counter_matching (s : State) : s.matching.counter a = s.counter a := h.counter_matchLoop _ s

theorem FlightCtr.counter_enqueue (s : State) (t : Nat) (k : Token) : (s.enqueue t k).counter a = s.counter a :=
  h.counter_matching _

theorem FlightCtr.counter_postQuiet (s : State) (t : Nat) (v : W32) (st : Status) :
    (s.postQuiet t v st).2.counter a = s.counter a := by
  unfold State.postQuiet
  split
  · rfl
  · split
    · exact h.counter_count s (by unfold FlightCtr; decide)
    · exact h.counter_enqueue s t _

theorem FlightCtr.counter_sendMsix (s : State) (v : Nat) : (s.sendMsix v).counter a = s.counter a := by
  unfold State.sendMsix
  extract_lets gone
  split
  · exact h.counter_count s (by unfold FlightCtr; decide)
  · split <;> rfl

theorem FlightCtr.counter_deliverToken (s : State) (e t : Nat) : (s.deliverToken e t).counter a = s.counter a := by
  have hp := h.counter_postQuiet s t (s.eventValue e) .ok
  unfold State.deliverToken
  split
  · rfl
  · split <;> rename_i he <;> rw [he] at hp
    · exact hp
    · exact (h.counter_count _ (by unfold FlightCtr; decide)).trans hp

theorem FlightCtr.counter_deliver (s : State) (e : Nat) : (s.deliver e).counter a = s.counter a := by
  have h08 : ∀ u : State, (u.count 0x120E08).counter a = u.counter a :=
    fun u => h.counter_count u (by unfold FlightCtr; decide)
  unfold State.deliver
  dsimp only
  split
  · exact h.counter_deliverToken _ e _
  · exact (h08 _).trans (h.counter_sendMsix _ _)
  · exact h.counter_deliverToken _ e _
  · unfold State.deliverPin
    extract_lets c s1
    split <;> exact h08 _
  · rfl

theorem FlightCtr.counter_raiseOne (s : State) (e : Nat) : (s.raiseOne e).counter a = s.counter a := by
  have hr : (s.recordRaise e).counter a = s.counter a := by
    rw [recordRaise_eq]
    exact h.counter_count _ (by unfold FlightCtr; decide)
  unfold State.raiseOne
  extract_lets s1
  split
  · exact (h.counter_deliver s1 e).trans hr
  · exact hr

theorem FlightCtr.counter_raiseMirror (s : State) (e : Nat) : (s.raiseMirror e).counter a = s.counter a := by
  unfold State.raiseMirror
  extract_lets s1
  split
  · exact (h.counter_raiseOne _ 764).trans (h.counter_raiseOne s e)
  · exact h.counter_raiseOne s e

theorem FlightCtr.counter_raiseFirst0 (s : State) (e : Nat) : (s.raiseFirst0 e).counter a = s.counter a := by
  unfold State.raiseFirst0
  split
  · rfl
  · exact h.counter_raiseMirror _ e

theorem FlightCtr.counter_tokenWatch (s : State) (b : W64) : (s.tokenWatch b).counter a = s.counter a := by
  have h1 : ∀ (c : Prop) [Decidable c] (u : State) (e : Nat), (if c then u.raiseFirst0 e else u).counter a = u.counter a := by
    intro c _ u e
    split
    · exact h.counter_raiseFirst0 u e
    · rfl
  exact (h1 _ _ _).trans (h1 _ _ _)

theorem FlightCtr.counter_raise (s : State) (e : Nat) : (s.raise e).counter a = s.counter a :=
  (h.counter_tokenWatch _ _).trans (h.counter_raiseMirror s e)

theorem FlightCtr.counter_raiseFirst (s : State) (e : Nat) : (s.raiseFirst e).counter a = s.counter a := by
  unfold State.raiseFirst
  split
  · rfl
  · exact h.counter_raise _ e

end

/-! ### Allocations -/

/-- `t` differs from `s` at most in what events and the allocation of buffers touch. -/
structure Allocates (s t : State) : Prop where
  eq : t = { s with regs := t.regs, ctr := t.ctr, lk := t.lk, evr := t.evr, msix := t.msix, bsn := t.bsn, once := t.once }
  reg : ∀ a, ¬ evrKey a → t.reg a = s.reg a
  counter : ∀ a, FlightCtr a → t.counter a = s.counter a

section
variable {s t u : State}

theorem Allocates.flt (h : Allocates s t) : t.flt = s.flt := by rw [h.eq]
theorem Allocates.prt (h : Allocates s t) : t.prt = s.prt := by rw [h.eq]
theorem Allocates.shp (h : Allocates s t) : t.shp = s.shp := by rw [h.eq]
theorem Allocates.tb (h : Allocates s t) : t.tb = s.tb := by rw [h.eq]
theorem Allocates.mem (h : Allocates s t) : t.mem = s.mem := by rw [h.eq]
theorem Allocates.tbl (h : Allocates s t) : t.tbl = s.tbl := by rw [h.eq]

theorem Allocates.refl (s : State) : Allocates s s := ⟨rfl, fun _ _ => rfl, fun _ _ => rfl⟩

theorem Allocates.trans (h : Allocates s t) (k : Allocates t u) : Allocates s u := by
  refine ⟨?_, fun a ha => (k.reg a ha).trans (h.reg a ha), fun a ha => (k.counter a ha).trans (h.counter a ha)⟩
  have hu := k.eq
  rw [h.eq] at hu
  exact hu

theorem Allocates.of_event (hf : EventFrame s t) (hr : ∀ a, ¬ evrKey a → t.reg a = s.reg a)
    (hc : ∀ a, FlightCtr a → t.counter a = s.counter a) : Allocates s t := by
  refine ⟨?_, hr, hc⟩
  unfold EventFrame at hf
  rw [hf]

/-- An update of the basin. -/
theorem Allocates.basin (s : State) (b : Bsn) : Allocates s { s with bsn := b } := ⟨rfl, fun _ _ => rfl, fun _ _ => rfl⟩

theorem Allocates.matching (s : State) : Allocates s s.matching :=
  .of_event (frame_matching s) (fun a _ => State.reg_matching s a) fun _ h => h.counter_matching s

theorem Allocates.raise (s : State) {e : Nat} (he : e < 768) : Allocates s (s.raise e) :=
  .of_event (frame_raise s e) (fun _ ha => State.reg_raise s he ha) fun _ h => h.counter_raise s e

theorem Allocates.raiseFirst (s : State) {e : Nat} (he : e < 768) : Allocates s (s.raiseFirst e) :=
  .of_event (frame_raiseFirst s e) (fun _ ha => State.reg_raiseFirst s he ha) fun _ h => h.counter_raiseFirst s e

theorem Allocates.tokenWatch (s : State) (b : W64) : Allocates s (s.tokenWatch b) :=
  .of_event (frame_tokenWatch s b) (fun _ ha => State.reg_tokenWatch s b ha) fun _ h => h.counter_tokenWatch s b

theorem Allocates.enqueue (s : State) (g : Nat) (k : Token) : Allocates s (s.enqueue g k) :=
  .of_event (frame_enqueue s g k) (fun a _ => State.reg_enqueue s g k a) fun _ h => h.counter_enqueue s g k

theorem Allocates.count (s : State) {a : Nat} (ha : ¬ FlightCtr a) : Allocates s (s.count a) :=
  .of_event (.count s a) (fun _ _ => rfl) fun _ h => h.counter_count s ha

theorem Allocates.takeElem {a e p : Nat} (ha : a < 8) (h : s.takeElem a e = some (p, t)) : Allocates s t := by
  have htaken : ∀ (b : Bsn) (n : Nat), Allocates s ((({ s with bsn := b } : State).count (0x80100 + 8 * a)).lowWater a n) := by
    intro b n
    have hc := (Allocates.basin s b).trans (.count _ (a := 0x80100 + 8 * a) (by unfold FlightCtr; omega))
    unfold State.lowWater
    extract_lets r
    split
    · exact hc.trans (.raise _ (by omega))
    · exact hc
  unfold State.takeElem at h
  dsimp only at h
  split at h
  · obtain ⟨-, rfl⟩ := Prod.mk.inj (Option.some.inj h)
    exact htaken _ _
  · split at h
    · obtain ⟨-, rfl⟩ := Prod.mk.inj (Option.some.inj h)
      exact htaken _ _
    · cases h

theorem Allocates.noteEmpty (s : State) : Allocates s s.noteEmpty := .raiseFirst s (by decide)

theorem Allocates.noteCeiling (s : State) : Allocates s s.noteCeiling := .raiseFirst s (by decide)

theorem Allocates.allocFrom (s : State) (e : Nat) (cls : Option Nat) (fall : Bool) {ps : List Nat} (hps : ∀ p ∈ ps, p < 8) :
    Allocates s (s.allocFrom e cls fall ps).2.2 := by
  induction ps generalizing s with
  | nil => exact .refl s
  | cons p rest ih =>
    unfold State.allocFrom
    extract_lets full
    split
    · exact .noteCeiling s
    · split
      next htake =>
        split at htake
        · cases htake
        · exact .takeElem (hps p List.mem_cons_self) htake
      next =>
        split
        · exact (Allocates.noteEmpty s).trans (ih _ fun q hq => hps q (List.mem_cons_of_mem _ hq))
        · exact .noteEmpty s

theorem Allocates.allocSize (s : State) (e size : Nat) (cls : Option Nat) : Allocates s (s.allocSize e size cls).2.2 :=
  .allocFrom s e cls true fun p hp => by
    have := mem_rangeFrom.mp (List.mem_of_mem_filter hp)
    omega

theorem Allocates.allocBerth (s : State) (e : Nat) (sequencer : Bool) : Allocates s (s.allocBerth e sequencer).2.2 := by
  unfold State.allocBerth
  extract_lets r
  split
  · exact .noteEmpty s
  · split
    next htake => exact .takeElem (by decide) htake
    next => exact .noteEmpty s

theorem Allocates.takeCells (s : State) (e n : Nat) : Allocates s (s.takeCells e n).2 := by
  induction n generalizing s with
  | zero => exact .refl s
  | succ n ih =>
    unfold State.takeCells
    split
    next => exact .refl s
    next htake => exact (Allocates.takeElem (by decide) htake).trans (ih _)

theorem Allocates.linkCells (s : State) (first : Bool) (l : List Nat) : Allocates s (s.linkCells first l) := by
  fun_induction State.linkCells s first l with
  | case1 => exact .refl _
  | case2 => exact (Allocates.basin _ _).trans (.basin _ _)
  | case3 s first p q rest ih => exact ((Allocates.basin s _).trans (.basin _ _)).trans ih

theorem Allocates.allocChain (s : State) (e n : Nat) : Allocates s (s.allocChain e n).2.2.2 := by
  unfold State.allocChain
  extract_lets c r
  split
  · exact .noteCeiling s
  · split
    · exact .noteEmpty s
    · exact (Allocates.takeCells s e n).trans (.linkCells _ _ _)

/-- The buffer that a frame is given (R300, section 5.1). -/
theorem Allocates.frameBuffer (s : State) (p cls : Nat) (bs : List Byte) : Allocates s (s.frameBuffer p cls bs).2.2 := by
  unfold State.frameBuffer
  split
  · exact .refl s
  · split
    · exact .allocBerth s _ _
    · exact .allocSize s _ _ _

end

/-! ### Freeing a buffer -/

/-- BRG_OBUFn, the buffer word of a barge (R351). -/
def BerthReg (a : Nat) : Prop := ∃ n, n < 16 ∧ a = A.brgObuf n

/-- `t` differs from `s` at most in what events, buffers, berths and tables touch. -/
structure BesideFlight (s t : State) : Prop where
  eq : t = { s with regs := t.regs, ctr := t.ctr, mem := t.mem, lk := t.lk, evr := t.evr, msix := t.msix, bsn := t.bsn,
                    tbl := t.tbl, brg := t.brg, once := t.once }
  reg : ∀ a, ¬ evrKey a → ¬ BerthReg a → t.reg a = s.reg a
  counter : ∀ a, FlightCtr a → t.counter a = s.counter a

section
variable {s t u : State}

theorem BesideFlight.flt (h : BesideFlight s t) : t.flt = s.flt := by rw [h.eq]
theorem BesideFlight.prt (h : BesideFlight s t) : t.prt = s.prt := by rw [h.eq]

theorem BesideFlight.frame (h : BesideFlight s t) (k : Nat) : t.frame k = s.frame k := by
  unfold State.frame
  rw [h.flt]

theorem BesideFlight.egFrame (h : BesideFlight s t) (e : Nat) : t.egFrame e = s.egFrame e := by
  unfold State.egFrame
  rw [h.flt]

theorem BesideFlight.refl (s : State) : BesideFlight s s := ⟨rfl, fun _ _ _ => rfl, fun _ _ => rfl⟩

theorem BesideFlight.trans (h : BesideFlight s t) (k : BesideFlight t u) : BesideFlight s u := by
  refine ⟨?_, fun a ha hb => (k.reg a ha hb).trans (h.reg a ha hb), fun a ha => (k.counter a ha).trans (h.counter a ha)⟩
  have hu := k.eq
  rw [h.eq] at hu
  exact hu

theorem Allocates.beside (h : Allocates s t) : BesideFlight s t :=
  ⟨by rw [h.eq], fun a ha _ => h.reg a ha, h.counter⟩

theorem BesideFlight.pushFree (s : State) (a p : Nat) : BesideFlight s (s.pushFree a p) :=
  ((Allocates.basin s _).trans (.basin _ _)).beside

theorem BesideFlight.holdBerth (s : State) {n : Nat} (hn : n < 16) (w : Nat) : BesideFlight s (s.holdBerth n w) := by
  have hfill : ∀ (b : Brg) (v : W32) (k : Nat) (bs : List Byte),
      BesideFlight s ((({ s with brg := b } : State).setReg (A.brgObuf n) v).writeBytes k bs) := fun b v k bs =>
    ⟨rfl, fun a _ hb => State.reg_setReg_ne _ _ fun ha => hb ⟨n, hn, ha⟩, fun _ _ => rfl⟩
  unfold State.holdBerth
  extract_lets o
  split
  · exact hfill _ _ _ _
  · exact ⟨rfl, fun _ _ _ => rfl, fun _ _ => rfl⟩

/-- A freed berth may go to a barge that waits for one (R351). -/
theorem BesideFlight.giveBerth (s : State) : BesideFlight s s.giveBerth := by
  unfold State.giveBerth
  split
  next n e hn _ =>
    split
    next htake =>
      have := mem_rangeFrom.mp (List.mem_of_find?_eq_some hn)
      exact (Allocates.takeElem (by decide) htake).beside.trans (.holdBerth _ (by omega) _)
    next => exact .refl s
  next => exact .refl s

theorem BesideFlight.pushElem (s : State) (a p : Nat) : BesideFlight s (s.pushElem a p) := by
  unfold State.pushElem
  extract_lets s1
  split
  · exact (BesideFlight.pushFree s a p).trans (.giveBerth _)
  · exact .pushFree s a p

theorem BesideFlight.freeBuf (s : State) (w : Nat) : BesideFlight s (s.freeBuf w) := by
  unfold State.freeBuf
  split
  · exact (BesideFlight.pushElem s 6 _).trans ((Allocates.basin _ _).trans (.basin _ _)).beside
  · exact .pushElem s _ _

theorem BesideFlight.moveBuf (s : State) (w e : Nat) : BesideFlight s (s.moveBuf w e) := by
  unfold State.moveBuf
  split
  · exact List.foldlRecOn (motive := BesideFlight s) _ _ (.refl s) fun u hu p _ => hu.trans (Allocates.basin u _).beside
  · exact (Allocates.basin s _).beside

theorem BesideFlight.keepBuf (s : State) (w : Nat) (ag : Agent) : BesideFlight s (s.keepBuf w ag) := by
  unfold State.keepBuf
  split
  · exact .moveBuf s w _
  · exact (BesideFlight.moveBuf s w _).trans (Allocates.raise _ (by decide)).beside

/-- An element of a pool that is freed is tagged free (R285). -/
theorem bufTag_freeBuf (s : State) {w : Nat} (h : bufArea w < 6) : (s.freeBuf w).bufTag (bufPtr w) = tagFree := by
  have h6 : bufArea w ≠ 6 := by omega
  have h7 : bufArea w ≠ 7 := by omega
  rw [State.freeBuf, if_neg h6, State.pushElem, if_neg h7]
  simp [State.pushFree, State.bufTag, State.setTag]

/-- A buffer outside the cells that is moved carries its new entry (R296). -/
theorem bufTag_moveBuf (s : State) {w : Nat} (e : Nat) (h : bufArea w ≠ 6) : (s.moveBuf w e).bufTag (bufPtr w) = e := by
  rw [State.moveBuf, if_neg h]
  simp [State.bufTag, State.setTag]

end

end Sys2Proof.Machine
end

section
/-! PROOFS. O17: the class map and the drop log (R114, R115, section 5.5). -/

namespace Sys2Proof.Machine

section
variable {s : State} {ag : Agent}

/-! ### The class map -/

theorem exec_classmapWrite_boss (v : W32) (hb : isBoss ag = true) : exec (.classmapWrite ag v) s =
    if (rangeFrom 9 0).any (fun i => decide (bits v (2 * i + 1) (2 * i) = 0)) then
      .next (s.refuse ag A.fltClassmap .refusedRange)
    else .next ((s.setReg A.fltClassmap (w32 (bits v 17 0))).status .ok) := if_neg (by simp [hb])

/-- A write that names C0 is refused whole (R115). -/
theorem classmapWrite_refused {v : W32} (hb : isBoss ag = true) (h : ∃ i, i < 9 ∧ bits v (2 * i + 1) (2 * i) = 0) :
    Completes (.classmapWrite ag v) s (fun t =>
      RefusedWith s .refusedRange t ∧ t.reg A.fltClassmap = s.reg A.fltClassmap) := by
  obtain ⟨i, hi, h0⟩ := h
  have hany : (rangeFrom 9 0).any (fun i => decide (bits v (2 * i + 1) (2 * i) = 0)) = true :=
    List.any_eq_true.mpr ⟨i, mem_rangeFrom.mpr (by omega), decide_eq_true h0⟩
  exact .next ((exec_classmapWrite_boss v hb).trans (if_pos hany)) ⟨refuse_refusedWith s ag _ _,
    State.reg_refuse s ag _ _ (by unfold evrKey; decide) (by decide) (by decide) (by decide)⟩

theorem classmapWrite_stored {v : W32} (hb : isBoss ag = true) (h : ∀ i, i < 9 → bits v (2 * i + 1) (2 * i) ≠ 0) :
    Completes (.classmapWrite ag v) s (fun t => t.reg A.fltClassmap = BitVec.ofNat 32 (bits v 17 0) ∧
      t.reply.status = .ok ∧ OnlyRegs s t [A.fltClassmap]) := by
  have hany : ¬ (rangeFrom 9 0).any (fun i => decide (bits v (2 * i + 1) (2 * i) = 0)) = true := fun hany => by
    obtain ⟨i, hi, h0⟩ := List.any_eq_true.mp hany
    exact h i (by have := mem_rangeFrom.mp hi; omega) (of_decide_eq_true h0)
  exact .next ((exec_classmapWrite_boss v hb).trans (if_neg hany)) ⟨State.reg_setReg_same s _ _, rfl, rfl,
    fun a ha => State.reg_setReg_ne s _ fun hc => ha (by simp [hc])⟩

theorem classmapWrite_noRight (v : W32) (hb : isBoss ag = false) :
    Completes (.classmapWrite ag v) s (RefusedWith s .refusedRights) :=
  .next (if_pos (by simp [hb])) (refuse_refusedWith s ag _ _)

theorem byteAt_lt (bs : List Byte) (i : Nat) : byteAt bs i < 256 := (nth bs i 0#8).isLt

theorem be16_lt (bs : List Byte) (i : Nat) : be16 bs i < 0x10000 := by
  have h0 := byteAt_lt bs i
  have h1 := byteAt_lt bs (i + 1)
  unfold be16
  omega

/-- Where no field of the class map names C0, only a barge or a T1 entry gives a frame class C0 (R114). -/
theorem classify_c0 (hmap : ∀ i, i < 9 → s.fld A.fltClassmap (2 * i + 1) (2 * i) ≠ 0) {p : Nat} {bs : List Byte}
    (h0 : s.classify p bs = 0) : bargeKind bs ≠ none ∨ s.tblFind 1 (s.keyStream p bs) ≠ none := by
  by_contra hne
  obtain ⟨hk, ht⟩ : bargeKind bs = none ∧ s.tblFind 1 (s.keyStream p bs) = none := by
    rwa [not_or, not_not, not_not] at hne
  rw [State.classify, hk] at h0
  dsimp only at h0
  rw [ht] at h0
  dsimp only at h0
  split at h0
  next htag =>
    have := be16_lt bs 14
    exact hmap _ (by rw [State.frameVlan, if_pos htag]; omega) h0
  next => exact hmap 8 (by decide) h0

/-! ### The drop log -/

theorem dropLogResize_zero : Completes (.dropLogResize ag 0#8) s (fun t => t.reply.status = .zeroLength ∧ OnlyReply s t) :=
  .next rfl ⟨rfl, rfl⟩

theorem dropLogResize_noRight {c : BitVec 8} (hc : c ≠ 0#8) (hb : isBoss ag = false) :
    Completes (.dropLogResize ag c) s (RefusedWith s .refusedRights) :=
  .next ((if_neg hc).trans (if_pos (by simp [hb]))) (refuse_refusedWith s ag _ _)

theorem dropLogResize_tooMany {c : BitVec 8} (hb : isBoss ag = true) (hc : 128 < c.toNat) :
    Completes (.dropLogResize ag c) s (RefusedWith s .refusedRange) := by
  have h0 : c ≠ 0#8 := by
    rintro rfl
    exact absurd hc (by decide)
  exact .next ((if_neg h0).trans ((if_neg (by simp [hb])).trans (if_pos hc))) (refuse_refusedWith s ag _ _)

theorem exec_dropLogResize_noCells {c : BitVec 8} (hb : isBoss ag = true) (h0 : c ≠ 0#8) (hc : c.toNat ≤ 128)
    (hn : s.takeLog c.toNat = none) :
    exec (.dropLogResize ag c) s = .next (s.refuse ag A.fltDlogCtrl .refusedCapacity) := by
  show execDropLogResize ag c s = _
  rw [execDropLogResize, if_neg h0, if_neg (by simp [hb]), if_neg (by omega), hn]

theorem exec_dropLogResize_takes {c : BitVec 8} {u : State} (hb : isBoss ag = true) (h0 : c ≠ 0#8) (hc : c.toNat ≤ 128)
    (hu : s.takeLog c.toNat = some u) :
    exec (.dropLogResize ag c) s = .next ((u.setReg A.fltDlogCtrl (w32 c.toNat)).status .ok) := by
  show execDropLogResize ag c s = _
  rw [execDropLogResize, if_neg h0, if_neg (by simp [hb]), if_neg (by omega), hu]

theorem dropLogResize_noCells {c : BitVec 8} (hb : isBoss ag = true) (h0 : c ≠ 0#8) (hc : c.toNat ≤ 128)
    (hn : s.takeLog c.toNat = none) : Completes (.dropLogResize ag c) s (fun t =>
      RefusedWith s .refusedCapacity t ∧ t.flt.logCells = s.flt.logCells) := by
  have href := refuse_refusedWith s ag A.fltDlogCtrl .refusedCapacity
  refine .next (exec_dropLogResize_noCells hb h0 hc hn) ⟨href, ?_⟩
  obtain ⟨-, -, -, hflt, -⟩ := href
  rw [hflt]

/-- The log that takes its cells begins at the next record (section 5.5). -/
theorem logBase_takeLog {n : Nat} {u : State} (h : s.takeLog n = some u) :
    u.flt.logBase = (s.reg A.fltDlogWr).toNat := by
  unfold State.takeLog at h
  split at h
  · cases h
  next e _ =>
    split at h
    · cases h
    · extract_lets r s1 cells s2 at h
      split at h
      · cases h
        have hgive : BesideFlight s s2 := by
          refine List.foldlRecOn (motive := BesideFlight s) _ _ (Allocates.allocChain s e n).beside fun v hv p _ => ?_
          exact ((hv.trans (.pushElem v 6 p)).trans (Allocates.basin _ _).beside).trans (Allocates.basin _ _).beside
        show (s2.reg A.fltDlogWr).toNat = _
        rw [hgive.reg _ (by unfold evrKey; decide) (by unfold BerthReg A.fltDlogWr A.brgObuf; omega)]
      · cases h

theorem dropLogResize_takes {c : BitVec 8} {u : State} (hb : isBoss ag = true) (h0 : c ≠ 0#8) (hc : c.toNat ≤ 128)
    (hu : s.takeLog c.toNat = some u) : Completes (.dropLogResize ag c) s (fun t => t.reply.status = .ok ∧
      t.reg A.fltDlogCtrl = BitVec.ofNat 32 c.toNat ∧ t.flt.logCells = u.flt.logCells ∧
        t.flt.logBase = (s.reg A.fltDlogWr).toNat) :=
  .next (exec_dropLogResize_takes hb h0 hc hu) ⟨rfl, State.reg_setReg_same u _ _, rfl, (logBase_takeLog hu :)⟩

end

/-- Settles O17: the checks of a class map write and of a resize in their order; the class of a frame that is no barge and
has no T1 entry is a field of the map. -/
theorem classMapAndDropLogAreChecked : Obligations.ClassMapAndDropLogAreChecked := by
  unfold Obligations.ClassMapAndDropLogAreChecked
  exact fun s ag => ⟨fun v hb => ⟨classmapWrite_refused hb, classmapWrite_stored hb⟩, fun v hb => classmapWrite_noRight v hb,
    fun hmap p bs h0 => classify_c0 hmap h0, dropLogResize_zero, fun c hc hb => dropLogResize_noRight hc hb,
    fun c hb => ⟨dropLogResize_tooMany hb, dropLogResize_noCells hb, fun u => dropLogResize_takes hb⟩⟩

end Sys2Proof.Machine
end

section
/-! SUPPORT. The end of a frame and its way into a pound (sections 5.2, 5.3, 5.5): what the drop log, a drop, a stomp and
an arrival token leave, as one lemma for each operation. -/

namespace Sys2Proof.Machine

section
variable {s t : State} {k a : Nat} {f : Frame}

/-! ### The drop log -/

section
variable (s) (ticket domain reason detail point egress : Nat) (ag : Agent) (dcode seq len : Nat) (wire : List Byte)

@[simp] theorem State.flt_logDrop : (s.logDrop ticket domain reason detail point egress ag dcode seq len wire).flt = s.flt := by
  unfold State.logDrop
  extract_lets n cells a bs
  split <;> rfl

@[simp] theorem State.counter_logDrop (a : Nat) :
    (s.logDrop ticket domain reason detail point egress ag dcode seq len wire).counter a = s.counter a := by
  unfold State.logDrop
  extract_lets n cells b bs
  split <;> rfl

/-- A record moves FLT_DLOG_WR on (section 5.5). -/
theorem reg_logDrop_fltDlogWr (h : s.flt.logCells ≠ []) :
    (s.logDrop ticket domain reason detail point egress ag dcode seq len wire).reg A.fltDlogWr =
      s.reg A.fltDlogWr + 1#32 := by
  unfold State.logDrop
  extract_lets n cells b bs
  rw [if_neg h, State.reg_setReg_same, w32, BitVec.ofNat_add, BitVec.ofNat_toNat, BitVec.setWidth_eq]

end

@[simp] theorem State.flt_logFrame (s : State) (k : Nat) (f : Frame) (reason detail point : Nat) (ag : Agent) (dcode : Nat) :
    (s.logFrame k f reason detail point ag dcode).flt = s.flt := by
  unfold State.logFrame
  split
  · exact State.flt_logDrop ..
  · rfl

@[simp] theorem State.counter_logFrame (s : State) (k : Nat) (f : Frame) (reason detail point : Nat) (ag : Agent)
    (dcode a : Nat) : (s.logFrame k f reason detail point ag dcode).counter a = s.counter a := by
  unfold State.logFrame
  split
  · exact State.counter_logDrop ..
  · rfl

@[simp] theorem State.flt_dropRx (s : State) (port cls detail point : Nat) (r : RxFrame) (len : Nat) :
    (s.dropRx port cls detail point r len).flt = s.flt := by
  unfold State.dropRx
  extract_lets s1
  split
  · exact State.flt_logDrop ..
  · rfl

@[simp] theorem State.counter_dropRx (s : State) (port cls detail point : Nat) (r : RxFrame) (len a : Nat) :
    (s.dropRx port cls detail point r len).counter a = (s.count (fltDrop cls)).counter a := by
  unfold State.dropRx
  extract_lets s1
  split
  · exact State.counter_logDrop ..
  · rfl

/-! ### A frame leaves -/

/-- The cycle's finish instant is kept in FLT_FINISH and nowhere else (R129). -/
theorem checkFinish_eq (s : State) : ∃ r, s.checkFinish = { s with regs := r } ∧
    ∀ a, a ≠ A.fltFinish → SMap.get regReset r a = s.reg a := by
  unfold State.checkFinish
  split
  · exact ⟨_, rfl, fun a ha => State.reg_setReg_ne s _ ha⟩
  · exact ⟨s.regs, rfl, fun _ _ => rfl⟩

@[simp] theorem State.flt_checkFinish (s : State) : s.checkFinish.flt = s.flt := by
  obtain ⟨r, h, -⟩ := checkFinish_eq s
  rw [h]

@[simp] theorem State.bsn_checkFinish (s : State) : s.checkFinish.bsn = s.bsn := by
  obtain ⟨r, h, -⟩ := checkFinish_eq s
  rw [h]

@[simp] theorem State.prt_checkFinish (s : State) : s.checkFinish.prt = s.prt := by
  obtain ⟨r, h, -⟩ := checkFinish_eq s
  rw [h]

@[simp] theorem State.counter_checkFinish (s : State) (a : Nat) : s.checkFinish.counter a = s.counter a := by
  obtain ⟨r, h, -⟩ := checkFinish_eq s
  rw [h]
  rfl

theorem State.reg_checkFinish (s : State) (ha : a ≠ A.fltFinish) : s.checkFinish.reg a = s.reg a := by
  obtain ⟨r, h, hr⟩ := checkFinish_eq s
  rw [h]
  exact hr a ha

@[simp] theorem State.frame_checkFinish (s : State) (k : Nat) : s.checkFinish.frame k = s.frame k := by
  unfold State.frame
  rw [State.flt_checkFinish]

@[simp] theorem State.flt_endFrame (s : State) (k : Nat) : (s.endFrame k).flt = (s.setFrame k none).flt := by
  rw [State.endFrame, State.flt_matching, State.flt_checkFinish]
  rfl

@[simp] theorem State.bsn_endFrame (s : State) (k : Nat) : (s.endFrame k).bsn = s.bsn := by
  rw [State.endFrame, State.bsn_matching, State.bsn_checkFinish]
  rfl

@[simp] theorem State.prt_endFrame (s : State) (k : Nat) : (s.endFrame k).prt = s.prt := by
  rw [State.endFrame, State.prt_matching, State.prt_checkFinish]
  rfl

theorem FlightCtr.counter_endFrame (h : FlightCtr a) (s : State) (k : Nat) : (s.endFrame k).counter a = s.counter a := by
  rw [State.endFrame, h.counter_matching, State.counter_checkFinish]
  rfl

theorem State.reg_endFrame (s : State) (k : Nat) (ha : a ≠ A.fltFinish) : (s.endFrame k).reg a = s.reg a := by
  rw [State.endFrame, State.reg_matching, State.reg_checkFinish _ ha]
  rfl

/-- The ticket is free again (R116). -/
theorem frame_endFrame (s : State) (k : Nat) : (s.endFrame k).frame k = none := by
  rw [State.frame, State.flt_endFrame]
  exact State.frame_setFrame_same s k none

theorem egFrame_endFrame (s : State) (k e : Nat) : (s.endFrame k).egFrame e = s.egFrame e := by
  rw [State.egFrame, State.flt_endFrame]
  rfl

/-- A frame that has not been released, or whose flight or FCS is still to come, stays in the towpath (R128). -/
theorem tryLeave_stays (hf : s.frame k = some f) (h : (f.released && f.complete && f.fr.fcsDone) = false) :
    s.tryLeave k = s := by
  rw [State.tryLeave, hf]
  dsimp only
  rw [h]
  rfl

/-! ### A drop before egress -/

theorem begun_unsent (s : State) (he : f.eg = none) : s.begun f = false := by rw [State.begun, he]

/-- The drop of frame `f` is logged and counted, and the buffer of an unreleased frame is free. -/
def State.dropUnreleased (s : State) (k : Nat) (f : Frame) (detail point : Nat) (ag : Agent) (dcode : Nat) : State :=
  let s1 := (s.logFrame k f (detailReason detail).code detail point ag dcode).count (fltDrop f.fr.cls)
  if f.released then s1 else s1.freeBuf f.fr.buf.toNat

theorem dropUnreleased_beside (s : State) (k : Nat) (f : Frame) (detail point : Nat) (ag : Agent) (dcode : Nat) :
    BesideFlight ((s.logFrame k f (detailReason detail).code detail point ag dcode).count (fltDrop f.fr.cls))
      (s.dropUnreleased k f detail point ag dcode) := by
  unfold State.dropUnreleased
  extract_lets s1
  split
  · exact .refl s1
  · exact .freeBuf s1 _

section
variable (hf : s.frame k = some f) (he : f.eg = none) (detail point : Nat) (ag : Agent) (dcode : Nat)
include hf he

/-- A frame that is in no egress queue is logged, counted and freed, and leaves at once (R127, R142). -/
theorem dropFrame_unsent : ∃ r, s.dropFrame k detail point ag dcode =
    State.endFrame { s.dropUnreleased k f detail point ag dcode with
      flt := { (s.dropUnreleased k f detail point ag dcode).flt with rx := r } } k := by
  rw [State.dropFrame, hf]
  dsimp only
  rw [if_neg (by rw [begun_unsent s he]; decide), he]
  exact ⟨_, rfl⟩

theorem frame_dropFrame : (s.dropFrame k detail point ag dcode).frame k = none := by
  obtain ⟨r, h⟩ := dropFrame_unsent hf he detail point ag dcode
  rw [h, frame_endFrame]

theorem FlightCtr.counter_dropFrame (ha : FlightCtr a) :
    (s.dropFrame k detail point ag dcode).counter a = (s.count (fltDrop f.fr.cls)).counter a := by
  obtain ⟨r, h⟩ := dropFrame_unsent hf he detail point ag dcode
  rw [h, ha.counter_endFrame]
  refine ((dropUnreleased_beside s k f detail point ag dcode).counter a ha).trans ?_
  simp only [State.counter_count, State.counter_logFrame]

theorem counter_dropFrame_fltDrop : (s.dropFrame k detail point ag dcode).counter (fltDrop f.fr.cls) =
    s.counter (fltDrop f.fr.cls) + 1#64 := by
  rw [FlightCtr.counter_dropFrame hf he _ _ _ _ (flightCtr_fltDrop _), State.counter_count_same]

/-- The buffer of a frame that has not been released is free. -/
theorem bufTag_dropFrame (hr : f.released = false) (hb : bufArea f.fr.buf.toNat < 6) :
    (s.dropFrame k detail point ag dcode).bufTag (bufPtr f.fr.buf.toNat) = tagFree := by
  obtain ⟨r, h⟩ := dropFrame_unsent hf he detail point ag dcode
  rw [h, State.bufTag, State.bsn_endFrame]
  unfold State.dropUnreleased
  rw [if_neg (by rw [hr]; decide)]
  exact bufTag_freeBuf _ hb

/-- A drop whose detail is always logged leaves one record (R141). -/
theorem reg_dropFrame_fltDlogWr (hd : 3 < detail) (hl : s.flt.logCells ≠ []) :
    (s.dropFrame k detail point ag dcode).reg A.fltDlogWr = s.reg A.fltDlogWr + 1#32 := by
  obtain ⟨r, h⟩ := dropFrame_unsent hf he detail point ag dcode
  rw [h, State.reg_endFrame _ _ (by decide)]
  refine ((dropUnreleased_beside s k f detail point ag dcode).reg A.fltDlogWr (by unfold evrKey; decide)
    (by unfold BerthReg A.fltDlogWr A.brgObuf; omega)).trans ?_
  rw [State.reg_count, State.logFrame, if_pos (by rw [State.logs, decide_eq_true hd]; rfl)]
  exact reg_logDrop_fltDlogWr s _ _ _ _ _ _ _ _ _ _ _ hl

end

/-! ### A stomp -/

/-- What becomes of the record of a frame whose egress entry goes. -/
theorem frame_egSettle (s : State) (e : Nat) (hf : s.frame k = some f) :
    ∃ g, (s.egSettle e).frame k = some g ∧ g.fr = f.fr ∧ g.complete = f.complete := by
  unfold State.egSettle
  split
  · exact ⟨f, hf, rfl, rfl⟩
  next x _ =>
    split
    · have hfree : BesideFlight s (if x.owned then s.freeBuf x.buf else s) := by
        split
        · exact .freeBuf s _
        · exact .refl s
      extract_lets s1 s2
      have h2 : s2.frame k = some f := (hfree.frame k).trans hf
      split
      · exact ⟨f, h2, rfl, rfl⟩
      next j _ =>
        split
        · exact ⟨f, h2, rfl, rfl⟩
        next g hg =>
          by_cases hj : k = j
          · subst hj
            cases h2.symm.trans hg
            exact ⟨_, State.frame_setFrame_same s2 k _, rfl, rfl⟩
          · exact ⟨f, (State.frame_setFrame_ne s2 _ hj).trans h2, rfl, rfl⟩
    · exact ⟨f, hf, rfl, rfl⟩

theorem FlightCtr.counter_egSettle (ha : FlightCtr a) (s : State) (e : Nat) : (s.egSettle e).counter a = s.counter a := by
  unfold State.egSettle
  split
  · rfl
  next x _ =>
    split
    · have hfree : (if x.owned then s.freeBuf x.buf else s).counter a = s.counter a := by
        split
        · exact (BesideFlight.freeBuf s _).counter a ha
        · rfl
      extract_lets s1 s2
      split
      · exact hfree
      · split <;> exact hfree
    · rfl

/-- The queues of the ports that have not started an egress entry, without it. -/
theorem unqueued_keeps {β : Type} (p : State → β) (hp : ∀ (u : State) (q : Nat) (x : PortSt), p (u.setPort q x) = p u)
    (s : State) (x : EgFrame) (e : Nat) : p ((rangeFrom 8 0).foldl
      (fun t q => if x.begun.getLsbD q then t else t.setPort q ((t.port q).unqueue e)) s) = p s :=
  foldl_keeps p _ _ (fun u q _ => by
    split
    · rfl
    · exact hp u q _) s

theorem frame_dropUnsent (s : State) (e : Nat) (hf : s.frame k = some f) :
    ∃ g, (s.dropUnsent e).frame k = some g ∧ g.fr = f.fr ∧ g.complete = f.complete := by
  unfold State.dropUnsent
  split
  · exact ⟨f, hf, rfl, rfl⟩
  next x _ =>
    extract_lets s1
    exact frame_egSettle _ e ((unqueued_keeps (fun u => u.frame k) (fun _ _ _ => rfl) s x e).trans hf)

theorem FlightCtr.counter_dropUnsent (ha : FlightCtr a) (s : State) (e : Nat) : (s.dropUnsent e).counter a = s.counter a := by
  unfold State.dropUnsent
  split
  · rfl
  next x _ =>
    extract_lets s1
    exact (ha.counter_egSettle _ e).trans (unqueued_keeps (fun u => u.counter a) (fun _ _ _ => rfl) s x e)

/-- A frame with STOMP set; its learn request is dropped (R138). -/
def Frame.stomped (f : Frame) : Frame := { f with fr := { f.fr with stomp := true }, learn := none }

/-- The stomp of frame `f` is logged and counted (R139). -/
def State.markStomp (s : State) (k : Nat) (f : Frame) (detail point : Nat) (ag : Agent) (dcode : Nat) : State :=
  (((s.recordFrame k f Status.stomped.code detail point ag dcode).count 0x60240).count (fltDrop f.fr.cls)).setFrame k
    (some f.stomped)

theorem counter_markStomp (s : State) (k : Nat) (f : Frame) (detail point : Nat) (ag : Agent) (dcode a : Nat) :
    (s.markStomp k f detail point ag dcode).counter a = ((s.count 0x60240).count (fltDrop f.fr.cls)).counter a := by
  simp only [State.markStomp, State.recordFrame, State.counter_setFrame, State.counter_count, State.counter_logDrop]

/-- A frame's first stomp, which leaves its flight going on (R138). -/
theorem stomp_first (hf : s.frame k = some f) (hs : f.fr.stomp = false) (detail point : Nat) (ag : Agent) (dcode : Nat) :
    s.stomp k detail point ag dcode false =
      ((f.eg.elim (s.markStomp k f detail point ag dcode)
        (s.markStomp k f detail point ag dcode).dropUnsent).tryLeave k).checkFinish := by
  rw [State.stomp, hf]
  cases he : f.eg <;> simp [hs, State.markStomp, Frame.stomped, he]

/-- A stomped frame in flight stays under its ticket with STOMP set, and is counted (R138, R139). -/
theorem stomp_inFlight (hf : s.frame k = some f) (hc : f.complete = false) (hs : f.fr.stomp = false)
    (detail point : Nat) (ag : Agent) (dcode : Nat) :
    (∃ g, (s.stomp k detail point ag dcode false).frame k = some g ∧ g.fr.stomp = true) ∧
      ∀ a, FlightCtr a → (s.stomp k detail point ag dcode false).counter a =
        ((s.count 0x60240).count (fltDrop f.fr.cls)).counter a := by
  have hmark := State.frame_setFrame_same
    (((s.recordFrame k f Status.stomped.code detail point ag dcode).count 0x60240).count (fltDrop f.fr.cls)) k (some f.stomped)
  have hunsent : (∃ g, (f.eg.elim (s.markStomp k f detail point ag dcode)
      (s.markStomp k f detail point ag dcode).dropUnsent).frame k = some g ∧ g.fr = f.stomped.fr ∧ g.complete = f.complete) ∧
      ∀ a, FlightCtr a → (f.eg.elim (s.markStomp k f detail point ag dcode)
        (s.markStomp k f detail point ag dcode).dropUnsent).counter a =
          (s.markStomp k f detail point ag dcode).counter a := by
    cases f.eg with
    | none => exact ⟨⟨f.stomped, hmark, rfl, rfl⟩, fun _ _ => rfl⟩
    | some e => exact ⟨frame_dropUnsent _ e hmark, fun _ ha => ha.counter_dropUnsent _ e⟩
  obtain ⟨⟨g, hg, hfr, hgc⟩, hctr⟩ := hunsent
  rw [stomp_first hf hs, tryLeave_stays hg (by simp [hgc, hc])]
  refine ⟨⟨g, (State.frame_checkFinish _ k).trans hg, by rw [hfr]; rfl⟩, fun a ha => ?_⟩
  rw [State.counter_checkFinish, hctr a ha, counter_markStomp]

/-! ### Into a pound or the towpath -/

/-- The room of the matching store depends on the lockkeeper and on the turn-token registers. -/
theorem entryFree_congr (hlk : t.lk = s.lk) (hr : ∀ n, n < 16 → t.reg (A.tbTtag n) = s.reg (A.tbTtag n)) (g : Nat) :
    t.entryFree g = s.entryFree g := by
  have hturn : t.turnFree = s.turnFree := congrArg List.length (List.filter_congr fun n hn => by
    simp only [State.tokens, hlk, hr n (by have := mem_rangeFrom.mp hn; omega)])
  rw [State.entryFree, State.entryFree, State.reservedMain, State.reservedMain, State.usedMain, State.usedMain,
    State.usedWarden, State.usedWarden, hturn, hlk]

/-- A frame with its arrival token at pound `n` (R122). -/
def Frame.inPound (f : Frame) (n : Nat) : Frame := { f with pound := some n, prevPound := f.fr.lastPound }

theorem toPound_posted {n : Nat} (hf : s.frame k = some f) (h : s.entryFree (0x10 + n) = true) :
    (s.toPound k n).1 = .ok ∧ Allocates (s.setFrame k (some (f.inPound n))) (s.toPound k n).2 := by
  have hfree : (s.setFrame k (some (f.inPound n))).entryFree (0x10 + n) = true := h
  rw [State.toPound, hf]
  dsimp only
  rw [State.postArrival, if_neg (by rw [← Frame.inPound, hfree]; decide)]
  exact ⟨rfl, (Allocates.enqueue _ _ _).trans (.tokenWatch _ _)⟩

theorem toPound_refused {n : Nat} (hf : s.frame k = some f) (h : s.entryFree (0x10 + n) = false) :
    (s.toPound k n).1 = .refusedCapacity ∧ Allocates (s.setFrame k (some (f.inPound n))) (s.toPound k n).2 := by
  have hfull : (s.setFrame k (some (f.inPound n))).entryFree (0x10 + n) = false := h
  rw [State.toPound, hf]
  dsimp only
  rw [State.postArrival, if_pos (by rw [← Frame.inPound, hfull]; rfl)]
  exact ⟨rfl, (Allocates.count _ (by unfold FlightCtr; decide)).trans (.tokenWatch _ _)⟩

/-- The flight of a frame that is not released ends and its FCS has not failed: it waits in the towpath (R126). -/
theorem frame_toTowpath (hf : s.frame k = some f) (hr : f.released = false) (hb : (f.fr.fcsDone && f.fr.fcsBad) = false) :
    (s.toTowpath k).frame k = some { f with complete := true, pound := none } ∧ (s.toTowpath k).bsn = s.bsn := by
  have hg : ((s.setFrame k (some { f with complete := true, pound := none })).checkFinish).frame k =
      some { f with complete := true, pound := none } := (State.frame_checkFinish _ k).trans (State.frame_setFrame_same s k _)
  rw [State.toTowpath, hf]
  dsimp only
  rw [if_neg (by rw [hb]; decide), tryLeave_stays hg (by simp [hr])]
  exact ⟨hg, State.bsn_checkFinish _⟩

end

end Sys2Proof.Machine
end

section
/-! SUPPORT. Frames on their way in (R117, R126, R319, R371, R372, R390): the clauses of arrival, of the last byte, of a frame
that is too long, and of a lookup's answer. -/

namespace Sys2Proof.Machine

/-! ### Reads that go through -/

section
variable (s : State)

@[simp] theorem State.frame_matching (k : Nat) : s.matching.frame k = s.frame k := by
  rw [State.frame, State.flt_matching]
  rfl

@[simp] theorem State.rxList_matching (p : Nat) : s.matching.rxList p = s.rxList p := by
  rw [State.rxList, State.flt_matching]
  rfl

@[simp] theorem State.frame_setRx (p : Nat) (l : List RxFrame) (k : Nat) : (s.setRx p l).frame k = s.frame k := rfl

@[simp] theorem State.rxList_setFrame (k : Nat) (x : Option Frame) (p : Nat) : (s.setFrame k x).rxList p = s.rxList p := rfl

theorem advance_eq (t : Nat) : ∃ b, s.advance t = { s with tb := b } := by
  unfold State.advance
  split
  · exact ⟨_, rfl⟩
  · exact ⟨s.tb, rfl⟩

@[simp] theorem State.flt_advance (t : Nat) : (s.advance t).flt = s.flt := by
  obtain ⟨b, h⟩ := advance_eq s t
  rw [h]

@[simp] theorem State.shp_advance (t : Nat) : (s.advance t).shp = s.shp := by
  obtain ⟨b, h⟩ := advance_eq s t
  rw [h]

@[simp] theorem State.reg_advance (t a : Nat) : (s.advance t).reg a = s.reg a := by
  obtain ⟨b, h⟩ := advance_eq s t
  rw [h]
  rfl

@[simp] theorem State.counter_advance (t a : Nat) : (s.advance t).counter a = s.counter a := by
  obtain ⟨b, h⟩ := advance_eq s t
  rw [h]
  rfl

@[simp] theorem State.frame_advance (t k : Nat) : (s.advance t).frame k = s.frame k := by
  obtain ⟨b, h⟩ := advance_eq s t
  rw [h]
  rfl

@[simp] theorem State.entryFree_advance (t g : Nat) : (s.advance t).entryFree g = s.entryFree g := by
  obtain ⟨b, h⟩ := advance_eq s t
  rw [h]
  rfl

end

theorem prtCtr_ne {p : Fin 8} {i j : Nat} (h : i ≠ j) : prtCtr p i ≠ prtCtr p j := by
  unfold prtCtr
  omega

theorem prtCtr_ne_fltDrop (p : Fin 8) (i c : Nat) : prtCtr p i ≠ fltDrop c := by
  unfold prtCtr fltDrop
  omega

theorem State.counter_countBy (s : State) (a n b : Nat) :
    (s.countBy a n).counter b = if b = a then s.counter b + BitVec.ofNat 64 n else s.counter b := by
  split
  next h => rw [h, State.counter_countBy_same]
  next h => exact State.counter_countBy_ne s n h

/-! ### FRAME_ARRIVAL -/

section
variable {s : State} {p : Fin 8} {bytes : List Byte}

/-- The frame that starts to enter port `p`'s FIFO. -/
def State.arriving (s : State) (p : Nat) (bytes : List Byte) : RxFrame :=
  { bytes := bytes, cls := s.classify p bytes, ticket := none, gone := false, fin := false, t0 := s.time }

theorem frameArrival_outOfService (h : s.inService p = false) :
    Completes (.frameArrival p bytes) s (fun t => t = s.count (prtCtr p 9)) :=
  .next (if_pos (by simp [h])) rfl

/-- No frame is evicted while there is room. -/
theorem evict_room {q c need : Nat} (h : rxUse (s.rxList q) + need ≤ 16384) (n : Nat) : s.evict q c need n = s := by
  cases n with
  | zero => rfl
  | succ n => exact if_pos h

section
variable (hs : s.inService p = true) (he : hdrEtype bytes ≠ 0x8808)
include hs he

/-- A frame that fits waits in the FIFO (R372). -/
theorem frameArrival_waits (hroom : rxUse (s.rxList p) + roundUp bytes.length 64 ≤ 16384) :
    Completes (.frameArrival p bytes) s (fun t => t.rxList p = s.rxList p ++ [s.arriving p bytes] ∧
      t = { s with flt := { s.flt with rx := t.flt.rx } }) := by
  refine .next (t := s.setRx p (s.rxList p ++ [s.arriving p bytes])) ?_ ⟨State.rxList_setRx_same s _ _, rfl⟩
  show execFrameArrival p bytes s = _
  simp only [execFrameArrival, hs, he, evict_room hroom, hroom, ite_self, Bool.not_true, Bool.false_eq_true, if_false, if_true]
  rfl

/-- A C3 frame that does not fit is dropped with FIFO_FULL, for it may evict no other (R117). -/
theorem exec_frameArrival_full (hfull : 16384 < rxUse (s.rxList p) + roundUp bytes.length 64) (hc : s.classify p bytes = 3) :
    exec (.frameArrival p bytes) s = .next ((s.fifoDrop p (s.arriving p bytes)).setRx p
      (s.rxList p ++ [{ s.arriving p bytes with gone := true }])) := by
  have hroom : ¬ rxUse (s.rxList p) + roundUp bytes.length 64 ≤ 16384 := by omega
  show execFrameArrival p bytes s = _
  simp only [execFrameArrival, State.arriving, hs, he, hc, hroom, Bool.not_true, Bool.false_eq_true, if_false,
    show ¬ 3 ≤ 2 by decide, show ¬ 3 ≤ 1 by decide]

theorem frameArrival_dropped (hfull : 16384 < rxUse (s.rxList p) + roundUp bytes.length 64) (hc : s.classify p bytes = 3) :
    Completes (.frameArrival p bytes) s (fun t =>
      t.rxList p = s.rxList p ++ [{ s.arriving p bytes with gone := true }] ∧ t.flt.frames = s.flt.frames ∧
        t.counter (prtCtr p 5) = s.counter (prtCtr p 5) + 1#64 ∧
          t.counter (fltDrop 3) = s.counter (fltDrop 3) + 1#64) := by
  have hctr : ∀ a, FlightCtr a → (s.fifoDrop p (s.arriving p bytes)).counter a =
      ((s.count (fltDrop 3)).count (prtCtr p 5)).counter a := fun a ha => by
    rw [State.fifoDrop, ha.counter_raiseFirst, ← hc]
    simp only [State.counter_count, State.counter_dropRx]
    rfl
  refine .next (exec_frameArrival_full hs he hfull hc) ⟨State.rxList_setRx_same _ _ _, ?_, ?_, ?_⟩
  · show (s.fifoDrop p _).flt.frames = _
    rw [State.fifoDrop, State.flt_raiseFirst, State.flt_count, State.flt_dropRx]
  · rw [State.counter_setRx, hctr _ (flightCtr_prtCtr p (by decide)), State.counter_count_same,
      State.counter_count_ne _ (prtCtr_ne_fltDrop p 5 3)]
  · rw [State.counter_setRx, hctr _ (flightCtr_fltDrop 3), State.counter_count_ne _ (prtCtr_ne_fltDrop p 5 3).symm,
      State.counter_count_same]

end

end

/-! ### FRAME_FCS_RECEIVED -/

/-- A frame with FCS_DONE set, and FCS_BAD where `bad` says so (R126). -/
def Frame.done (f : Frame) (bad : Bool) : Frame :=
  { f with checking := false, fr := { f.fr with fcsDone := true, fcsBad := bad, len := f.wire.length } }

section
variable {s : State} {k : Nat} {f : Frame}

/-- FCS_DONE of a frame whose flight goes on and that has not left the towpath. -/
theorem setDone_inFlight (hf : s.frame k = some f) (he : f.eg = none) (hr : f.released = false) (hc : f.complete = false)
    (bad : Bool) : s.setDone k bad = (s.setFrame k (some (f.done bad))).matching := by
  have hd : ((s.setFrame k (some (f.done bad))).matching).frame k = some (f.done bad) :=
    (State.frame_matching _ k).trans (State.frame_setFrame_same s k _)
  rw [State.setDone, hf]
  cases bad with
  | true =>
    dsimp only
    rw [if_pos rfl, if_neg (by rw [begun_unsent _ (by exact he)]; decide), if_neg (by rw [hc]; decide)]
    rfl
  | false =>
    dsimp only
    rw [if_neg (by decide)]
    exact tryLeave_stays hd (by simp [Frame.done, hr])

/-- The last byte of a frame that is neither stamped nor an inbound barge sets FCS_DONE (R371). -/
theorem finishRx_plain (hf : s.frame k = some f) (hstamp : (s.portCfg f.fr.port).stamp = false)
    (hb : s.barged f.fr.port f.wire = false) : s.finishRx k = s.setDone k (!fcsGood f.wire) := by
  simp [State.finishRx, hf, hstamp, hb]

end

/-- The last byte of frame `r` has arrived: PRT_RXFRAMES and PRT_RXBYTES count it. -/
def State.lastByte (s : State) (p : Nat) (r : RxFrame) : State :=
  ((s.advance (r.t0 + s.byteTime p r.bytes.length)).count (prtCtr p 0)).countBy (prtCtr p 1) r.bytes.length

/-- The last byte has arrived and the FCS has been checked (R371). -/
def State.fcsChecked (s : State) (p : Nat) (r : RxFrame) : State :=
  if fcsGood r.bytes then s.lastByte p r else ((s.lastByte p r).count (prtCtr p 2)).raiseFirst (prtEvent p 3)

theorem prtEvent_lt (p : Fin 8) {k : Nat} (hk : k < 32) : prtEvent p k < 768 := by
  unfold prtEvent
  omega

section
variable (s : State) (p : Fin 8) (r : RxFrame)

theorem flt_lastByte : (s.lastByte p r).flt = s.flt := State.flt_advance s _

theorem flt_fcsChecked : (s.fcsChecked p r).flt = s.flt := by
  unfold State.fcsChecked
  split
  · exact flt_lastByte s p r
  · rw [State.flt_raiseFirst]
    exact flt_lastByte s p r

theorem shp_fcsChecked : (s.fcsChecked p r).shp = s.shp := by
  unfold State.fcsChecked
  split
  · exact State.shp_advance s _
  · rw [State.shp_raiseFirst]
    exact State.shp_advance s _

theorem reg_fcsChecked {a : Nat} (ha : ¬ evrKey a) : (s.fcsChecked p r).reg a = s.reg a := by
  unfold State.fcsChecked
  split
  · exact State.reg_advance s _ a
  · rw [State.reg_raiseFirst _ (prtEvent_lt p (by decide)) ha]
    exact State.reg_advance s _ a

theorem counter_lastByte (a : Nat) : (s.lastByte p r).counter a =
    ((s.count (prtCtr p 0)).countBy (prtCtr p 1) r.bytes.length).counter a := by
  simp only [State.lastByte, State.counter_countBy, State.counter_count, State.counter_advance]

theorem counter_fcsChecked {i : Nat} (hi : i < 32) (h2 : i ≠ 2) : (s.fcsChecked p r).counter (prtCtr p i) =
    ((s.count (prtCtr p 0)).countBy (prtCtr p 1) r.bytes.length).counter (prtCtr p i) := by
  unfold State.fcsChecked
  split
  · exact counter_lastByte s p r _
  · rw [(flightCtr_prtCtr p hi).counter_raiseFirst, State.counter_count_ne _ (prtCtr_ne h2)]
    exact counter_lastByte s p r _

end

section
variable {s : State} {p : Fin 8} {r : RxFrame} (hl : s.rxList p = [r]) (hfin : r.fin = false)
include hl hfin

/-- A frame with an assembly error that holds no ticket (R390). -/
theorem exec_fcs_asm_untaken (hk : r.ticket = none) : exec (.frameFcsReceived p true) s =
    .next ((((s.lastByte p r).count (prtCtr p 8)).raise (prtEvent p 9)).setRx p []) := by
  show execFrameFcsReceived p true s = _
  simp [execFrameFcsReceived, hl, hfin, hk, rangeFrom, State.lastByte]

/-- A frame with an assembly error that holds a ticket (R390). -/
theorem exec_fcs_asm_taken (hg : r.gone = false) {k : Nat} (hk : r.ticket = some k) :
    exec (.frameFcsReceived p true) s =
      .next (((((s.lastByte p r).count (prtCtr p 8)).raise (prtEvent p 9)).setRx p []).setDone k true) := by
  show execFrameFcsReceived p true s = _
  simp [execFrameFcsReceived, hl, hfin, hk, hg, rangeFrom, State.lastByte]

theorem fcs_asm_untaken (hk : r.ticket = none) : Completes (.frameFcsReceived p true) s (fun t =>
    t.rxList p = [] ∧ t.flt.frames = s.flt.frames ∧ Raised t (prtEvent p 9) ∧
      t.counter (prtCtr p 8) = s.counter (prtCtr p 8) + 1#64) := by
  refine .next (exec_fcs_asm_untaken hl hfin hk) ⟨State.rxList_setRx_same _ _ _, ?_, ?_, ?_⟩
  · show (State.raise _ _).flt.frames = _
    rw [State.flt_raise, State.flt_count, flt_lastByte]
  · exact (raised_raise_self _ (prtEvent_lt p (by decide))).congr (State.reg_setRx _ _ _ _)
  · rw [State.counter_setRx, (flightCtr_prtCtr p (by decide)).counter_raise, State.counter_count_same, counter_lastByte,
      State.counter_countBy_ne _ _ (prtCtr_ne (by decide)), State.counter_count_ne _ (prtCtr_ne (by decide))]

section
variable (hg : r.gone = false)
include hg

theorem fcs_asm_taken {k : Nat} {f : Frame} (hk : r.ticket = some k) (hf : s.frame k = some f) (he : f.eg = none)
    (hr : f.released = false) (hc : f.complete = false) : Completes (.frameFcsReceived p true) s (fun t =>
      ∃ g, t.frame k = some g ∧ t.rxList p = [] ∧ g.fr.fcsDone = true ∧ g.fr.fcsBad = true ∧
        t.counter (prtCtr p 8) = s.counter (prtCtr p 8) + 1#64) := by
  have hf' : ((((s.lastByte p r).count (prtCtr p 8)).raise (prtEvent p 9)).setRx p []).frame k = some f := by
    rw [State.frame_setRx, State.frame, State.flt_raise, State.flt_count, flt_lastByte]
    exact hf
  refine .next ((exec_fcs_asm_taken hl hfin hg hk).trans (congrArg _ (setDone_inFlight hf' he hr hc true)))
    ⟨f.done true, ?_, ?_, rfl, rfl, ?_⟩
  · rw [State.frame_matching, State.frame_setFrame_same]
  · rw [State.rxList_matching, State.rxList_setFrame, State.rxList_setRx_same]
  · rw [(flightCtr_prtCtr p (by decide)).counter_matching, State.counter_setFrame, State.counter_setRx,
      (flightCtr_prtCtr p (by decide)).counter_raise, State.counter_count_same, counter_lastByte,
      State.counter_countBy_ne _ _ (prtCtr_ne (by decide)), State.counter_count_ne _ (prtCtr_ne (by decide))]

/-- A runt is dropped (R371). -/
theorem exec_fcs_runt (hlen : r.bytes.length < 64) : exec (.frameFcsReceived p false) s =
    .next ((((s.fcsChecked p r).count (prtCtr p 3)).dropRx p r.cls 0x02 0xFD r r.bytes.length).setRx p []) := by
  show execFrameFcsReceived p false s = _
  simp [execFrameFcsReceived, hl, hfin, hg, hlen, rangeFrom, State.lastByte, State.fcsChecked]

theorem fcs_runt (hlen : r.bytes.length < 64) : Completes (.frameFcsReceived p false) s (fun t =>
    t.rxList p = [] ∧ t.flt.frames = s.flt.frames ∧ t.counter (prtCtr p 3) = s.counter (prtCtr p 3) + 1#64 ∧
      t.counter (prtCtr p 0) = s.counter (prtCtr p 0) + 1#64) := by
  have hctr : ∀ i, (((s.fcsChecked p r).count (prtCtr p 3)).dropRx p r.cls 0x02 0xFD r r.bytes.length).counter (prtCtr p i) =
      ((s.fcsChecked p r).count (prtCtr p 3)).counter (prtCtr p i) := fun i => by
    rw [State.counter_dropRx, State.counter_count_ne _ (prtCtr_ne_fltDrop p i _)]
  refine .next (exec_fcs_runt hl hfin hg hlen) ⟨State.rxList_setRx_same _ _ _, ?_, ?_, ?_⟩
  · show (State.dropRx _ _ _ _ _ _ _).flt.frames = _
    rw [State.flt_dropRx, State.flt_count, flt_fcsChecked]
  · rw [State.counter_setRx, hctr, State.counter_count_same, counter_fcsChecked s p r (by decide) (by decide),
      State.counter_countBy_ne _ _ (prtCtr_ne (by decide)), State.counter_count_ne _ (prtCtr_ne (by decide))]
  · rw [State.counter_setRx, hctr, State.counter_count_ne _ (prtCtr_ne (by decide)),
      counter_fcsChecked s p r (by decide) (by decide), State.counter_countBy_ne _ _ (prtCtr_ne (by decide)),
      State.counter_count_same]

/-- A whole frame that holds no ticket waits on. -/
theorem exec_fcs_untaken (hlen : 64 ≤ r.bytes.length) (hk : r.ticket = none) : exec (.frameFcsReceived p false) s =
    .next ((s.fcsChecked p r).setRx p [{ r with fin := true }]) := by
  have hrunt : ¬ r.bytes.length < 64 := by omega
  show execFrameFcsReceived p false s = _
  simp [execFrameFcsReceived, hl, hfin, hg, hrunt, hk, rangeFrom, State.lastByte, State.fcsChecked]

theorem fcs_untaken (hlen : 64 ≤ r.bytes.length) (hk : r.ticket = none) : Completes (.frameFcsReceived p false) s (fun t =>
    t.rxList p = [{ r with fin := true }] ∧ t.flt.frames = s.flt.frames ∧
      t.counter (prtCtr p 1) = s.counter (prtCtr p 1) + BitVec.ofNat 64 r.bytes.length) := by
  refine .next (exec_fcs_untaken hl hfin hg hlen hk) ⟨State.rxList_setRx_same _ _ _, ?_, ?_⟩
  · exact (congrArg Flt.frames (flt_fcsChecked s p r) :)
  · rw [State.counter_setRx, counter_fcsChecked s p r (by decide) (by decide), State.counter_countBy_same,
      State.counter_count_ne _ (prtCtr_ne (by decide))]

/-- A whole frame that holds a ticket is finished. -/
theorem exec_fcs_taken (hlen : 64 ≤ r.bytes.length) {k : Nat} (hk : r.ticket = some k) :
    exec (.frameFcsReceived p false) s = .next (((s.fcsChecked p r).setRx p []).finishRx k) := by
  have hrunt : ¬ r.bytes.length < 64 := by omega
  show execFrameFcsReceived p false s = _
  simp [execFrameFcsReceived, hl, hfin, hg, hrunt, hk, rangeFrom, State.lastByte, State.fcsChecked]

theorem fcs_taken (hlen : 64 ≤ r.bytes.length) {k : Nat} {f : Frame} (hk : r.ticket = some k) (hf : s.frame k = some f)
    (hw : f.wire = r.bytes) (hp : f.fr.port = p.val) (hstamp : (s.portCfg p).stamp = false)
    (hb : s.barged p r.bytes = false) (he : f.eg = none) (hr : f.released = false) (hc : f.complete = false) :
    Completes (.frameFcsReceived p false) s (fun t => ∃ g, t.frame k = some g ∧ t.rxList p = [] ∧ g.fr.fcsDone = true ∧
      g.fr.fcsBad = !fcsGood r.bytes ∧ g.fr.len = r.bytes.length ∧ g.complete = false) := by
  have hf' : ((s.fcsChecked p r).setRx p []).frame k = some f := by
    rw [State.frame_setRx, State.frame, flt_fcsChecked]
    exact hf
  have hstamp' : (((s.fcsChecked p r).setRx p []).portCfg f.fr.port).stamp = false := by
    rw [State.portCfg, State.shp_setRx, shp_fcsChecked, hp]
    exact hstamp
  have hb' : ((s.fcsChecked p r).setRx p []).barged f.fr.port f.wire = false := by
    rw [State.barged, State.reg_setRx, hp, hw, reg_fcsChecked _ _ _ (by unfold evrKey A.brgIcfg; omega)]
    exact hb
  refine .next ((exec_fcs_taken hl hfin hg hlen hk).trans
    (congrArg _ ((finishRx_plain hf' hstamp' hb').trans (setDone_inFlight hf' he hr hc _))))
    ⟨f.done (!fcsGood f.wire), ?_, ?_, rfl, by rw [← hw]; rfl, by rw [← hw]; rfl, hc⟩
  · rw [State.frame_matching, State.frame_setFrame_same]
  · rw [State.rxList_matching, State.rxList_setFrame, State.rxList_setRx_same]

/-! ### FRAME_OVERSIZE -/

/-- A frame that runs past MAXFRAME and holds no ticket (R371). -/
theorem exec_oversize_untaken (hmax : (s.portCfg p).maxFrame < r.bytes.length) (hk : r.ticket = none) :
    exec (.frameOversize p) s = .next ((((s.advance (r.t0 + s.byteTime p (s.portCfg p).maxFrame)).count (prtCtr p 4)).setRx p
      [{ r with gone := true }]).dropRx p r.cls 0x03 0xFD r ((s.portCfg p).maxFrame + 1)) := by
  show execFrameOversize p s = _
  simp [execFrameOversize, hl, hfin, hg, hk, rangeFrom, not_le.mpr hmax]

theorem oversize_untaken (hmax : (s.portCfg p).maxFrame < r.bytes.length) (hk : r.ticket = none) :
    Completes (.frameOversize p) s (fun t => t.rxList p = [{ r with gone := true }] ∧
      t.counter (prtCtr p 4) = s.counter (prtCtr p 4) + 1#64 ∧
        t.counter (fltDrop r.cls) = s.counter (fltDrop r.cls) + 1#64) := by
  refine .next (exec_oversize_untaken hl hfin hg hmax hk) ⟨?_, ?_, ?_⟩
  · rw [State.rxList, State.flt_dropRx]
    exact State.rxList_setRx_same _ _ _
  · rw [State.counter_dropRx, State.counter_count_ne _ (prtCtr_ne_fltDrop p 4 _), State.counter_setRx,
      State.counter_count_same, State.counter_advance]
  · rw [State.counter_dropRx, State.counter_count_same, State.counter_setRx,
      State.counter_count_ne _ (prtCtr_ne_fltDrop p 4 _).symm, State.counter_advance]

/-- A frame that runs past MAXFRAME and holds a ticket is dropped at the limit or at the end of its buffer (R138, R300). -/
theorem oversize_taken (hmax : (s.portCfg p).maxFrame < r.bytes.length) {k : Nat} {f : Frame} (hk : r.ticket = some k)
    (hf : s.frame k = some f) (he : f.eg = none) : Completes (.frameOversize p) s (fun t => t.frame k = none ∧
      t.counter (prtCtr p 4) = s.counter (prtCtr p 4) + 1#64) := by
  have hx : exec (.frameOversize p) s = .next ((((s.advance (r.t0 + s.byteTime p
      (min (s.portCfg p).maxFrame (s.bufBytes f.fr.buf.toNat)))).count (prtCtr p 4)).setRx p
        [{ r with gone := true }]).dropFrame k 0x03 0xFD 0x600#12 0) := by
    show execFrameOversize p s = _
    simp [execFrameOversize, hl, hfin, hg, hk, hf, rangeFrom, not_le.mpr hmax]
  generalize hu : ((s.advance _).count (prtCtr p 4)).setRx p [{ r with gone := true }] = u at hx
  have hfu : u.frame k = some f := by
    rw [← hu, State.frame_setRx, State.frame_count, State.frame_advance, hf]
  refine .next hx ⟨frame_dropFrame hfu he _ _ _ _, ?_⟩
  rw [FlightCtr.counter_dropFrame hfu he _ _ _ _ (flightCtr_prtCtr p (by decide)),
    State.counter_count_ne _ (prtCtr_ne_fltDrop p 4 _), ← hu, State.counter_setRx, State.counter_count_same,
    State.counter_advance]

end

end

/-! ### LOOKUP_RESULT -/

section
variable {s : State} {k : Fin 1024} {n : Fin 3} {f : Frame} (hf : s.frame k = some f)
include hf

theorem lookupResult_idle (h : nth f.fr.lk n 0 ≠ 3) : Completes (.lookupResult k n) s (fun t => t = s) := by
  refine .unchanged ?_
  show execLookupResult k n s = _
  rw [execLookupResult, hf]
  exact if_pos h

/-- The key of the frame's lookup in table `n` (Table 11-3). -/
def State.frameKey (s : State) (f : Frame) (n : Nat) : List Byte :=
  if n = 0 then s.keyDst f.fr.port f.wire else if n = 1 then s.keyStream f.fr.port f.wire else keyPartner f.fr.port f.wire

/-- The record with the answer of the lookup in table `n` copied into it (R319). -/
def State.lookedUp (s : State) (f : Frame) (n : Nat) : FrameRec :=
  { f.fr with
    res := f.fr.res.set n (s.tblLookup n (s.frameKey f n) (some f.fr.port)).1,
    lk := f.fr.lk.set n (s.tblLookup n (s.frameKey f n) (some f.fr.port)).2.1,
    epoch := f.fr.epoch.set n (BitVec.ofNat 16 (s.epoch n)) }

theorem exec_lookupResult_pending (h : nth f.fr.lk n 0 = 3) : ∃ u l, exec (.lookupResult k n) s =
    .next (State.setFrame u k (some { f with fr := s.lookedUp f n, learn := l })).matching := by
  show ∃ u l, execLookupResult k n s = _
  rw [execLookupResult, hf]
  dsimp only
  rw [if_neg (not_not.mpr h)]
  fin_cases n <;> exact ⟨_, _, rfl⟩

theorem lookupResult_copied (h : nth f.fr.lk n 0 = 3) : Completes (.lookupResult k n) s (fun t =>
    ∃ g, t.frame k = some g ∧ g.wire = f.wire ∧ g.fr = s.lookedUp f n) := by
  obtain ⟨u, l, hx⟩ := exec_lookupResult_pending hf h
  exact .next hx ⟨_, (State.frame_matching _ _).trans (State.frame_setFrame_same u _ _), rfl, rfl⟩

end

end Sys2Proof.Machine
end

section
/-! SUPPORT. Admission and the hold of an arrival token (section 5.1, R113, R116, R118, R125): from the waiting frame to its
arrival token at the ENTRY pound, and the second post of a token that was refused. -/

namespace Sys2Proof.Machine

section
variable {s t : State} {k : Nat} {f : Frame}

theorem Allocates.frame (h : Allocates s t) (k : Nat) : t.frame k = s.frame k := h.beside.frame k

theorem Allocates.rxList (h : Allocates s t) (p : Nat) : t.rxList p = s.rxList p := by
  rw [State.rxList, h.flt]
  rfl

/-! ### Lookups read the tables, and allocations do not touch them -/

theorem Allocates.readBytes (h : Allocates s t) (a n : Nat) : t.readBytes a n = s.readBytes a n := by
  have hbyte : t.readByte = s.readByte := by
    funext j
    rw [State.readByte, h.mem]
    rfl
  rw [State.readBytes, hbyte]
  rfl

theorem Allocates.placeKey (h : Allocates s t) (n q : Nat) : t.placeKey n q = s.placeKey n q := by
  rw [h.eq]
  rfl

theorem Allocates.placesOf (h : Allocates s t) (n : Nat) (key : List Byte) (hn : n < 4) :
    t.placesOf n key = s.placesOf n key := by
  have hseeds : t.seedPairs n = s.seedPairs n := by
    rw [State.seedPairs, h.tbl, h.reg _ (by unfold evrKey A.tblSeeda; omega), h.reg _ (by unfold evrKey A.tblSeedb; omega)]
    rfl
  rw [State.placesOf, hseeds, h.eq]
  rfl

/-- Whether a key is in a table does not depend on what an allocation touches. -/
theorem Allocates.tblFind (h : Allocates s t) {n : Nat} (key : List Byte) (hn : n < 4) : t.tblFind n key = s.tblFind n key := by
  have hfree : t.placeFree n = s.placeFree n := by
    funext q
    rw [State.placeFree, State.placeCtl, State.placeWord, State.readLE, h.readBytes, h.placeKey]
    rfl
  have hkey : t.placeKeyOf n = s.placeKeyOf n := by
    funext q
    rw [State.placeKeyOf, h.readBytes, h.placeKey]
    rfl
  rw [State.tblFind, h.placesOf n key hn, hfree, hkey, State.tblSize, h.shp]
  rfl

theorem tblLookup_miss {n : Nat} {key : List Byte} (h : s.tblFind n key = none) (p : Option Nat) :
    (s.tblLookup n key p).2.2 = none := by
  unfold State.tblLookup
  split
  · rfl
  · rw [h]

/-! ### A frame enters the flight -/

/-- The frame that enters the flight with record `r` (R125). -/
def State.entering (s : State) (shared : Bool) (r : FrameRec) (wire : List Byte) (t0 : Nat) : Frame :=
  { fr := { r with seq := SMap.get (fun _ => 0#16) s.flt.seqNext (domainOf r.port r.cls) }, wire := wire, t0 := t0,
    checking := false, shared := shared, admitCycle := s.cycle, pound := none, prevPound := 0xFF, fab := s.flt.fabGen,
    first := true, complete := false, ahead := false, released := false, gen := SMap.get (fun _ => 0) s.flt.gen r.port,
    ord := s.flt.ordNext, hold := none, learn := none, eg := none, early := false }

/-- FLT_TKT_PEAK is kept, and nothing else changes. -/
theorem notePeak_eq (s : State) : ∃ r, s.notePeak = { s with regs := r } ∧
    ∀ a, a ≠ A.fltTktPeak → SMap.get regReset r a = s.reg a := by
  unfold State.notePeak
  extract_lets n
  split
  · exact ⟨_, rfl, fun a ha => State.reg_setReg_ne s _ ha⟩
  · exact ⟨s.regs, rfl, fun _ _ => rfl⟩

/-- What stands after a frame has entered the flight under ticket `k`. -/
theorem enterFrame_spec (s : State) (k : Nat) (shared : Bool) (r : FrameRec) (wire : List Byte) (t0 : Nat) :
    let t := s.enterFrame k shared r wire t0
    t.frame k = some (s.entering shared r wire t0) ∧ t.flt.fabGen = s.flt.fabGen ∧ t.shp = s.shp ∧ t.lk = s.lk ∧
      t.bsn = s.bsn ∧ (∀ p, t.rxList p = s.rxList p) ∧ ∀ a, a ≠ A.fltTktPeak → t.reg a = s.reg a := by
  unfold State.enterFrame
  extract_lets d sq g flt s1 u
  obtain ⟨regs, h, hr⟩ := notePeak_eq ((s1.setFrame k (some g)).count (fltAdmit r.cls))
  dsimp only [u]
  rw [h]
  exact ⟨State.frame_setFrame_same s1 k _, rfl, rfl, rfl, rfl, fun _ => rfl, hr⟩

/-- The arrival token of a frame goes to a pound with room. -/
theorem sendToPound_posted {n : Nat} (hf : s.frame k = some f) (h : s.entryFree (0x10 + n) = true) :
    Allocates (s.setFrame k (some (f.inPound n))) (s.sendToPound k n) := by
  obtain ⟨hok, hpost⟩ := toPound_posted hf h
  unfold State.sendToPound
  extract_lets r
  rw [if_pos hok]
  exact hpost

/-- A frame without a standing verdict goes to the ENTRY pound of its class (R136). -/
theorem entryStep_entry {n : Nat} (hf : s.frame k = some f) (hfab : f.fab = s.flt.fabGen)
    (hn : n = nth s.shp.fabric.entry f.fr.cls 0xFF) (hne : n ≠ 0xFF) : s.entryStep k 0#32 = s.sendToPound k n := by
  rw [State.entryStep, hf]
  dsimp only
  rw [if_neg (by decide), State.fabricOf, if_pos hfab, ← hn, if_neg hne]

/-- A frame that has not arrived whole and has no T1 entry enters the flight and takes its first step. -/
theorem admitFrame_missed {p : Nat} {bs : List Byte} (hmiss : s.tblFind 1 (s.keyStream p bs) = none) (shared : Bool)
    (cls b t0 eg queue hostq : Nat) : ∃ u r, s.admitFrame k shared p cls b bs t0 false eg queue hostq =
      (State.enterFrame u k shared r bs t0).entryStep k 0#32 ∧
        (u.flt = s.flt ∧ u.shp = s.shp ∧ u.lk = s.lk ∧ u.regs = s.regs) ∧ r.port = p ∧ r.cls = cls ∧ r.buf = w32 b ∧ r.admitAt = s.tb.now := by
  unfold State.admitFrame
  extract_lets t1 std t2 r0 r s1 s2
  have ht1 : t1.2.2 = none := tblLookup_miss hmiss _
  have hstd : std = 0#32 := by
    dsimp only [std]
    rw [ht1]
  rw [hstd, if_neg (by simp)]
  dsimp only [s2, s1]
  rw [ht1]
  exact ⟨_, r, rfl, ⟨rfl, rfl, rfl, rfl⟩, rfl, rfl, rfl, rfl⟩

/-- What a frame that is admitted to an ENTRY pound with room has under its ticket. -/
theorem admitFrame_toEntry {p n : Nat} {bs : List Byte} (hmiss : s.tblFind 1 (s.keyStream p bs) = none) (shared : Bool)
    (cls b t0 eg queue hostq : Nat) (hn : n = nth s.shp.fabric.entry cls 0xFF) (hne : n ≠ 0xFF)
    (hroom : s.entryFree (0x10 + n) = true) :
    let t := s.admitFrame k shared p cls b bs t0 false eg queue hostq
    (∃ f, t.frame k = some f ∧ f.fr.port = p ∧ f.fr.cls = cls ∧ f.wire = bs ∧ f.fr.buf = w32 b ∧ f.pound = some n ∧
      f.hold = none ∧ f.fr.seq = SMap.get (fun _ => 0#16) s.flt.seqNext (domainOf p cls) ∧ f.fr.admitAt = s.tb.now ∧
        f.shared = shared) ∧ ∀ q, t.rxList q = s.rxList q := by
  obtain ⟨u, r, h, ⟨hflt, hshp, hlk, hregs⟩, hport, hcls, hbuf, hat⟩ :=
    admitFrame_missed (k := k) hmiss shared cls b t0 eg queue hostq
  obtain ⟨hf, hfab, hshp', hlk', -, hrx, hreg⟩ := enterFrame_spec u k shared r bs t0
  have hfree : (u.enterFrame k shared r bs t0).entryFree (0x10 + n) = true := by
    rw [entryFree_congr (hlk'.trans hlk) fun m hm => (hreg _ (by unfold A.tbTtag A.fltTktPeak; omega)).trans (by
      rw [State.reg, hregs]
      rfl), hroom]
  have hsent := sendToPound_posted hf hfree
  rw [h, entryStep_entry hf hfab.symm (by rw [hshp', hshp, hn]; exact congrArg (nth _ · 0xFF) hcls.symm) hne]
  refine ⟨⟨_, (hsent.frame k).trans (State.frame_setFrame_same _ k _), hport, hcls, rfl, hbuf, rfl, rfl, ?_, hat, rfl⟩,
    fun q => ?_⟩
  · show SMap.get _ u.flt.seqNext (domainOf r.port r.cls) = _
    rw [hflt, hport, hcls]
  · rw [hsent.rxList, State.rxList_setFrame, hrx, State.rxList, hflt]
    rfl

/-! ### FRAME_ADMISSION -/

theorem frameAdmission_held {p : Fin 8} (h : s.holding118 p = true) : Completes (.frameAdmission p) s (fun t => t = s) :=
  .unchanged (if_pos h)

/-- The only waiting frame of a port, for which a ticket and a buffer are free, is admitted with them. -/
theorem exec_frameAdmission_single {p : Fin 8} {r : RxFrame} {shared : Bool} (hh : s.holding118 p = false)
    (hl : s.rxList p = [r]) (hmay : mayAdmit [r] 0 = true) (hfin : r.fin = false)
    (ht : s.takeTicket r.cls = some (k, shared)) (hb : (s.frameBuffer p r.cls r.bytes).1 = .ok) :
    ∃ u, u = ((s.frameBuffer p r.cls r.bytes).2.2.setRx p [{ r with ticket := some k }]).admitFrame k shared p r.cls (s.frameBuffer p r.cls r.bytes).2.1 r.bytes r.t0 false 0
          (s.pcpQueue p r.bytes) 0 ∧
      exec (.frameAdmission p) s = .next (u.setRx p ((u.rxList p).filter (fun x => !(x.fin && !x.waits)))) := by
  refine ⟨_, rfl, ?_⟩
  have hplaces : (rangeFrom (s.rxList p).length 0).filter (mayAdmit (s.rxList p)) = [0] := by
    rw [hl]
    exact List.filter_cons_of_pos hmay
  show execFrameAdmission p s = _
  rw [execFrameAdmission, if_neg (by rw [hh]; decide), hplaces, State.admitFirst, hl]
  dsimp only [List.getElem?_cons_zero]
  rw [ht]
  dsimp only
  rw [if_pos hb, hfin]
  rfl

theorem frameAdmission_admits {p : Fin 8} {r : RxFrame} {shared : Bool} {n : Nat} (hh : s.holding118 p = false)
    (hl : s.rxList p = [r]) (hmay : mayAdmit [r] 0 = true) (hfin : r.fin = false)
    (ht : s.takeTicket r.cls = some (k, shared)) (hb : (s.frameBuffer p r.cls r.bytes).1 = .ok)
    (hmiss : s.tblFind 1 (s.keyStream p r.bytes) = none) (hn : n = nth s.shp.fabric.entry r.cls 0xFF) (hne : n ≠ 0xFF)
    (hroom : (s.frameBuffer p r.cls r.bytes).2.2.entryFree (0x10 + n) = true) :
    Completes (.frameAdmission p) s (fun t => ∃ f, t.frame k = some f ∧ f.fr.port = p.val ∧ f.fr.cls = r.cls ∧
      f.wire = r.bytes ∧ f.fr.buf = BitVec.ofNat 32 (s.frameBuffer p r.cls r.bytes).2.1 ∧ f.pound = some n ∧ f.hold = none ∧
      f.fr.seq = SMap.get (fun _ => 0#16) s.flt.seqNext (domainOf p r.cls) ∧ f.fr.admitAt = s.tb.now ∧ f.shared = shared ∧
      t.rxList p = [{ r with ticket := some k }]) := by
  have hal := Allocates.frameBuffer s p r.cls r.bytes
  have hkey : (s.frameBuffer p r.cls r.bytes).2.2.keyStream p r.bytes = s.keyStream p r.bytes := by
    rw [hal.eq]
    rfl
  obtain ⟨u, hu, hx⟩ := exec_frameAdmission_single hh hl hmay hfin ht hb
  have hadm := admitFrame_toEntry (k := k) (s := (s.frameBuffer p r.cls r.bytes).2.2.setRx p [{ r with ticket := some k }])
    (p := p) (n := n) (bs := r.bytes) (by
      show (s.frameBuffer p r.cls r.bytes).2.2.tblFind 1 ((s.frameBuffer p r.cls r.bytes).2.2.keyStream p r.bytes) = none
      rw [hkey, hal.tblFind _ (by decide), hmiss]) shared r.cls (s.frameBuffer p r.cls r.bytes).2.1 r.t0 0
    (s.pcpQueue p r.bytes) 0 (by rw [State.shp_setRx, hal.shp, hn]) hne hroom
  rw [← hu] at hadm
  obtain ⟨⟨f, hf, hport, hcls, hwire, hbuf, hpound, hhold, hseq, hat, hsh⟩, hrx⟩ := hadm
  refine .next hx ⟨f, hf, hport, hcls, hwire, hbuf, hpound, hhold, hseq.trans ?_, hat.trans ?_, hsh, ?_⟩
  · show SMap.get _ (s.frameBuffer p r.cls r.bytes).2.2.flt.seqNext _ = _
    rw [hal.flt]
  · rw [State.tb_setRx, hal.tb]
  · rw [State.rxList_setRx_same, hrx, State.rxList_setRx_same]
    simp [hfin]

/-! ### ARRIVAL_TOKEN_HOLD_EXPIRY -/

/-- A frame whose hold has ended (R118). -/
def Frame.unheld (f : Frame) : Frame := { f with hold := none }

section
variable {p : Fin 10} {n : Nat} (hpound : f.pound = some n) (hfind : s.flt.frames.find?
  (fun x => (x.2.map (fun f => decide (f.fr.port = p.val) && f.hold.isSome)).getD false) = some (k, some f))
include hpound hfind

/-- The post is made once more (R118). -/
theorem exec_holdExpiry : ∃ u, u = ((s.advance (f.hold.getD 0 + 200)).setFrame k (some f.unheld)).toPound k n ∧
    exec (.arrivalTokenHoldExpiry p) s = .next (if u.1 = .ok then u.2 else u.2.dropFrame k 0x05 0xFD 0x600#12 0) := by
  have hn : f.pound.getD 0 = n := by
    rw [hpound]
    rfl
  refine ⟨_, rfl, ?_⟩
  show execArrivalTokenHoldExpiry p s = _
  rw [execArrivalTokenHoldExpiry, hfind]
  dsimp only
  rw [hn]
  rfl

theorem holdExpiry_posted (h : s.entryFree (0x10 + n) = true) : Completes (.arrivalTokenHoldExpiry p) s (fun t =>
    ∃ g, t.frame k = some g ∧ g.hold = none ∧ g.pound = some n ∧ g.fr = f.fr) := by
  obtain ⟨u, hu, hx⟩ := exec_holdExpiry hpound hfind
  obtain ⟨hok, hpost⟩ := toPound_posted (n := n) (State.frame_setFrame_same (s.advance (f.hold.getD 0 + 200)) k (some f.unheld))
    ((State.entryFree_advance s _ _).trans h)
  rw [← hu] at hok hpost
  rw [if_pos hok] at hx
  exact .next hx ⟨f.unheld.inPound n, (hpost.frame k).trans (State.frame_setFrame_same _ k _), rfl, rfl, rfl⟩

theorem holdExpiry_dropped (he : f.eg = none) (h : s.entryFree (0x10 + n) = false) :
    Completes (.arrivalTokenHoldExpiry p) s (fun t => t.frame k = none ∧
      t.counter (fltDrop f.fr.cls) = s.counter (fltDrop f.fr.cls) + 1#64) := by
  obtain ⟨u, hu, hx⟩ := exec_holdExpiry hpound hfind
  obtain ⟨hfull, hpost⟩ := toPound_refused (n := n)
    (State.frame_setFrame_same (s.advance (f.hold.getD 0 + 200)) k (some f.unheld)) ((State.entryFree_advance s _ _).trans h)
  rw [← hu] at hfull hpost
  rw [if_neg (by rw [hfull]; decide)] at hx
  have hf : u.2.frame k = some (f.unheld.inPound n) := (hpost.frame k).trans (State.frame_setFrame_same _ k _)
  have hctr := (hpost.counter _ (flightCtr_fltDrop f.fr.cls)).trans (State.counter_advance s (f.hold.getD 0 + 200) _)
  exact .next hx ⟨frame_dropFrame hf he _ _ _ _, (counter_dropFrame_fltDrop hf he _ _ _ _).trans (congrArg (· + 1#64) hctr)⟩

end

end

end Sys2Proof.Machine
end

section
/-! PROOFS. O15: the clauses of the frames that come in put together. -/

namespace Sys2Proof.Machine

/-- Settles O15: the commands of a frame's way in, one after another: arrival, admission, the hold of its token, its last
byte, its length, and the answers to its lookups. -/
theorem framesEnterWaitAndAreChecked : Obligations.FramesEnterWaitAndAreChecked := by
  unfold Obligations.FramesEnterWaitAndAreChecked
  refine ⟨fun s p bytes _ => ⟨frameArrival_outOfService, fun hs he =>
      ⟨frameArrival_waits hs he, frameArrival_dropped hs he⟩⟩,
    fun s p => frameAdmission_held,
    fun s p r k sh n hh hl hmay hfin ht hb hmiss hn hne hroom =>
      frameAdmission_admits hh hl hmay hfin ht hb hmiss hn hne hroom,
    fun s p k f n _ hpound he _ hfind => ⟨holdExpiry_posted hpound hfind, holdExpiry_dropped hpound hfind he⟩,
    fun s p r hl hfin hg => ⟨fcs_runt hl hfin hg, fcs_untaken hl hfin hg,
      fun k f hlen hk hf hw hp hstamp hb he hr hc => fcs_taken hl hfin hg hlen hk hf hw hp hstamp hb he hr hc,
      fcs_asm_untaken hl hfin, fun k f hk hf he hr hc => fcs_asm_taken hl hfin hg hk hf he hr hc,
      fun hmax => ⟨oversize_untaken hl hfin hg hmax, fun k f hk hf he => oversize_taken hl hfin hg hmax hk hf he⟩⟩,
    fun s k n f hf => ⟨lookupResult_idle hf, lookupResult_copied hf⟩⟩

end Sys2Proof.Machine
end

section
/-! SUPPORT. Verdicts (section 5.2, R122 to R124, Table 5-2): what the commit of a verdict word leaves, its room in the
matching store, and one lemma for each action. -/

namespace Sys2Proof.Machine

/-! ### A weighted sum over a sparse map -/

section
variable {α : Type} (p : Nat → Bool) (w : α → Nat)

/-- The weights of the entries whose key satisfies `p`. -/
def SMap.load (m : SMap α) : Nat := sumNat ((m.filter (fun e => p e.1)).map (fun e => w e.2))

theorem SMap.load_cons (k : Nat) (v : α) (m : SMap α) :
    SMap.load p w ((k, v) :: m) = (if p k then w v else 0) + SMap.load p w m := by
  simp only [SMap.load, sumNat, ← List.sum_eq_foldl, List.filter_cons]
  split <;> simp

theorem SMap.load_place (m : SMap α) (k : Nat) (v : α) :
    SMap.load p w (SMap.place m k v) = (if p k then w v else 0) + SMap.load p w m := by
  induction m with
  | nil => exact SMap.load_cons p w k v []
  | cons e m ih =>
    obtain ⟨j, u⟩ := e
    unfold SMap.place
    split
    · exact SMap.load_cons p w k v _
    · rw [SMap.load_cons, ih, SMap.load_cons]
      omega

theorem SMap.load_erase (d : Nat → α) (m : SMap α) (k : Nat) (hd : w (d k) = 0) :
    (if p k then w (SMap.get d m k) else 0) + SMap.load p w (SMap.erase m k) ≤ SMap.load p w m := by
  induction m with
  | nil => simp [SMap.get, SMap.erase, hd]
  | cons e m ih =>
    obtain ⟨j, u⟩ := e
    rw [SMap.load_cons]
    by_cases hj : j = k
    · subst hj
      simp only [SMap.get, SMap.erase, if_true]
      omega
    · simp only [SMap.get, SMap.erase, if_neg hj, SMap.load_cons]
      omega

/-- A write of a value no heavier than the old one adds no load. -/
theorem SMap.load_set_le [DecidableEq α] (d : Nat → α) (m : SMap α) {k : Nat} {v : α} (hd : w (d k) = 0)
    (hv : w v ≤ w (SMap.get d m k)) : SMap.load p w (SMap.set d m k v) ≤ SMap.load p w m := by
  have he := SMap.load_erase p w d m k hd
  unfold SMap.set
  split
  · omega
  · rw [SMap.load_place]
    split <;> rename_i hp <;> simp only [hp] at he ⊢ <;> simp at he ⊢ <;> omega

end

/-! ### The commit of a verdict word -/

section
variable {s : State} {w : SlotId} {n k : Nat} {f : Frame} {word : W32}

theorem kept_noFrame_le (x : Thread) : Thread.kept { x with frame := none } ≤ x.kept := by
  unfold Thread.kept
  simp

/-- A thread that gives its current frame up leaves the matching store no fuller (R251, R281). -/
theorem entryFree_endCurrent {g : Nat} (h : s.entryFree g = true) : (s.endCurrent n).entryFree g = true := by
  have hload : ∀ p : Nat → Bool,
      SMap.load p Thread.kept (s.endCurrent n).lk.threads ≤ SMap.load p Thread.kept s.lk.threads :=
    fun p => SMap.load_set_le p _ _ _ (by decide) (kept_noFrame_le _)
  have hmain : (s.endCurrent n).usedMain ≤ s.usedMain := Nat.add_le_add_left (hload fun j => decide (j < 2048)) _
  have hwarden : (s.endCurrent n).usedWarden ≤ s.usedWarden := Nat.add_le_add_left (hload fun j => decide (2048 ≤ j)) _
  have hres : (s.endCurrent n).reservedMain = s.reservedMain ∧ (s.endCurrent n).lk.wReserved = s.lk.wReserved := ⟨rfl, rfl⟩
  unfold State.entryFree at h ⊢
  split at h
  next hg =>
    rw [if_pos hg]
    have := of_decide_eq_true h
    exact decide_eq_true (by omega)
  next hg =>
    rw [if_neg hg]
    have := of_decide_eq_true h
    exact decide_eq_true (by omega)

/-- The state in which verdict word `word` of thread `n` on frame `k` acts (R122, R135). -/
def State.committed (s : State) (n k : Nat) (f : Frame) (word : W32) : State :=
  let g := s.commitVerdict f word f.at
  let s0 := (s.setFrame k (some g)).endCurrent n
  if g.ahead && !f.ahead then s0.count 0x60248 else s0

theorem committed_eq (s : State) (n k : Nat) (f : Frame) (word : W32) : ∃ c, s.committed n k f word =
    { (s.setFrame k (some (s.commitVerdict f word f.at))).endCurrent n with ctr := c } ∧
      ∀ a, a ≠ 0x60248 → SMap.get (fun _ => 0#64) c a = s.counter a := by
  unfold State.committed
  extract_lets g s0
  split
  · exact ⟨_, rfl, fun a ha => State.counter_count_ne s0 ha⟩
  · exact ⟨s.ctr, rfl, fun _ _ => rfl⟩

theorem frame_committed : (s.committed n k f word).frame k = some (s.commitVerdict f word f.at) := by
  obtain ⟨c, h, -⟩ := committed_eq s n k f word
  rw [h]
  exact State.frame_setFrame_same s k _

theorem counter_committed (c : Nat) : (s.committed n k f word).counter (fltDrop c) = s.counter (fltDrop c) := by
  obtain ⟨r, h, hr⟩ := committed_eq s n k f word
  rw [h]
  exact hr _ (by unfold fltDrop; omega)

theorem reg_committed (a : Nat) : (s.committed n k f word).reg a = s.reg a := by
  obtain ⟨c, h, -⟩ := committed_eq s n k f word
  rw [h]
  rfl

theorem logCells_committed : (s.committed n k f word).flt.logCells = s.flt.logCells := by
  obtain ⟨c, h, -⟩ := committed_eq s n k f word
  rw [h]
  rfl

theorem entryOf_committed (v : Nat) : (s.committed n k f word).entryOf v = s.entryOf v := by
  obtain ⟨c, h, -⟩ := committed_eq s n k f word
  rw [h]
  rfl

theorem entryFree_committed {g : Nat} (h : s.entryFree g = true) : (s.committed n k f word).entryFree g = true := by
  obtain ⟨c, hc, -⟩ := committed_eq s n k f word
  rw [hc]
  exact entryFree_endCurrent (s := s.setFrame k (some (s.commitVerdict f word f.at))) (n := n) h

/-! ### The actions -/

section
variable (ha : bits word 1 0 = 0)
include ha

theorem actVerdict_pound (h1 : (s.fabricOf f).routeOf f.at (bits word 3 2) ≠ 0xFE)
    (h2 : (s.fabricOf f).routeOf f.at (bits word 3 2) ≠ 0xFF)
    (h : s.entryFree (0x10 + (s.fabricOf f).routeOf f.at (bits word 3 2)) = true) : s.actVerdict w n k f word =
      (.ok, ((s.committed n k f word).toPound k ((s.fabricOf f).routeOf f.at (bits word 3 2))).2) := by
  rw [State.actVerdict, ha]
  dsimp only
  rw [if_neg h1, if_neg h2, if_pos h]
  rfl

theorem actVerdict_noRoom (h1 : (s.fabricOf f).routeOf f.at (bits word 3 2) ≠ 0xFE)
    (h2 : (s.fabricOf f).routeOf f.at (bits word 3 2) ≠ 0xFF)
    (h : s.entryFree (0x10 + (s.fabricOf f).routeOf f.at (bits word 3 2)) = false) : s.actVerdict w n k f word =
      (.refusedCapacity, (s.count 0x70110).tokenWatch (s.counter 0x70110)) := by
  rw [State.actVerdict, ha]
  dsimp only
  rw [if_neg h1, if_neg h2, if_neg (by rw [h]; decide)]
  rfl

theorem actVerdict_towpath (h : (s.fabricOf f).routeOf f.at (bits word 3 2) = 0xFE) :
    s.actVerdict w n k f word = (.ok, (s.committed n k f word).toTowpath k) := by
  rw [State.actVerdict, ha]
  dsimp only
  rw [if_pos h]
  rfl

theorem actVerdict_unusedRoute (h : (s.fabricOf f).routeOf f.at (bits word 3 2) = 0xFF) :
    s.actVerdict w n k f word = (.ok, (s.committed n k f word).dropFrame k 0x08 f.at (slotAgent w) 0) := by
  rw [State.actVerdict, ha]
  dsimp only
  rw [if_neg (by rw [h]; decide), if_pos h]
  rfl

end

theorem actVerdict_drop (ha : bits word 1 0 = 1) : s.actVerdict w n k f word =
    (.ok, (s.committed n k f word).dropFrame k 0x07 f.at (slotAgent w) (bits word 31 16)) := by
  rw [State.actVerdict, ha]
  rfl

theorem actVerdict_keep (ha : bits word 1 0 = 2) (he : f.eg = none) : s.actVerdict w n k f word =
    (.ok, ((s.committed n k f word).keepBuf f.fr.buf.toNat (slotAgent w)).endFrame k) := by
  rw [State.actVerdict, ha]
  simp only [begun_unsent s he, he]
  rfl

theorem actVerdict_free (ha : bits word 1 0 = 3) (he : f.eg = none) : s.actVerdict w n k f word =
    (.ok, ((s.committed n k f word).freeBuf f.fr.buf.toNat).endFrame k) := by
  rw [State.actVerdict, ha]
  simp only [begun_unsent s he, he]
  rfl

end

/-! ### The OUT of a verdict word -/

/-- ACTION of a verdict word (Table 5-2). -/
theorem bits_verdictWord (rest : BitVec 30) (a : BitVec 2) : bits (rest ++ a : W32) 1 0 = a.toNat := by
  refine Nat.eq_of_testBit_eq fun j => ?_
  have happ : (rest ++ a : W32).getLsbD j = if j < 2 then a.getLsbD j else rest.getLsbD (j - 2) := BitVec.getLsbD_append
  rw [testBit_bits, Nat.zero_add, bit, happ]
  by_cases hj : j < 2
  · simp [hj, BitVec.getLsbD]
  · simpa [hj, BitVec.getLsbD] using BitVec.getLsbD_of_ge a j (by omega)

/-- Slot `w` with no posted store. -/
def State.unposted (s : State) (w : SlotId) : State := s.setSlot w { s.slot w with stores := [] }

section
variable {s : State} {w : SlotId} (hst : (s.slot w).stores = [])
include hst

/-- A slot without posted stores has nothing to perform. -/
theorem drain_empty : s.drain w = s.unposted w := by
  rw [State.drain, hst]
  rfl

theorem verdict_current {n k : Nat} {f : Frame} (hn : (s.slot w).thread = some n) (hk : (s.thread n).frame = some k)
    (hf : s.frame k = some f) (word : W32) : s.verdict w word = (s.unposted w).actVerdict w n k f word := by
  rw [State.verdict, drain_empty hst, State.unposted, State.slot_setSlot_same]
  dsimp only
  rw [hn]
  dsimp only
  rw [State.thread_setSlot, hk]
  dsimp only
  rw [State.frame_setSlot, hf]

theorem verdict_noFrame {n : Nat} (hn : (s.slot w).thread = some n) (hk : (s.thread n).frame = none) (word : W32) :
    s.verdict w word = (.refusedNotReady, s.unposted w) := by
  rw [State.verdict, drain_empty hst, State.unposted, State.slot_setSlot_same]
  dsimp only
  rw [hn]
  dsimp only
  rw [State.thread_setSlot, hk]

end

theorem bufTag_endFrame (s : State) (k p : Nat) : (s.endFrame k).bufTag p = s.bufTag p := by
  rw [State.bufTag, State.bsn_endFrame]
  rfl

section
variable (w : SlotId) (r : Status × State)

theorem frame_slotAnswer (k : Nat) : (State.slotAnswer w r).frame k = r.2.frame k := rfl

theorem counter_slotAnswer (a : Nat) : (State.slotAnswer w r).counter a = r.2.counter a := rfl

theorem bufTag_slotAnswer (p : Nat) : (State.slotAnswer w r).bufTag p = r.2.bufTag p := rfl

/-- The answer to an OUT stands in OSTAT. -/
theorem slotAnswer_ostat : bits ((State.slotAnswer w r).slot w).ctx.flags 15 8 = r.1.code := by
  have hcode : r.1.code < 2 ^ 8 := by cases r.1 <;> decide
  rw [State.slotAnswer, State.setOstat]
  show bits ((State.slot (State.setSlot _ w _) w).ctx.flags) 15 8 = _
  rw [State.slot_setSlot_same, bits_setBits_same _ _ _ _ (by decide), Nat.mod_eq_of_lt hcode]

end

section
variable {s : State} {w : SlotId} {n k : Nat} {f : Frame} (hst : (s.slot w).stores = []) (hn : (s.slot w).thread = some n)
include hst hn

theorem Completes.verdict_refused {c : Instr} {word : W32} (hk : (s.thread n).frame = none)
    (hx : exec c s = .next (State.slotAnswer w (s.verdict w word))) : Completes c s (fun t =>
      t.reply.status = .refusedNotReady ∧ t.flt = s.flt ∧ t.bsn = s.bsn ∧ t.mem = s.mem ∧
        bits (t.slot w).ctx.flags 15 8 = Status.refusedNotReady.code) := by
  rw [verdict_noFrame hst hn hk] at hx
  exact .next hx ⟨rfl, rfl, rfl, rfl, slotAnswer_ostat w _⟩

variable (hk : (s.thread n).frame = some k) (hf : s.frame k = some f)
include hk hf

/-- A verdict command of a slot with a current frame answers what the action gives. -/
theorem Completes.verdict {c : Instr} {word : W32} {r : Status × State} {P : State → Prop}
    (hx : exec c s = .next (State.slotAnswer w (s.verdict w word))) (hr : (s.unposted w).actVerdict w n k f word = r)
    (hp : P (State.slotAnswer w r)) : Completes c s P :=
  .next (hx.trans (congrArg (fun r => Host.Outcome.next (State.slotAnswer w r))
    ((verdict_current hst hn hk hf word).trans hr))) hp

/-! ### What the actions leave (R122 to R124) -/

variable (rest : BitVec 30)

section
variable {r : Nat} (hroute : (s.fabricOf f).routeOf (f.pound.getD 0) (bits (rest ++ 0#2 : W32) 3 2) = r)
include hroute

theorem verdictRoute_pound (h1 : r ≠ 0xFE) (h2 : r ≠ 0xFF) (h : s.entryFree (0x10 + r) = true) :
    Completes (.verdictRoute w rest) s (fun t =>
      t.reply.status = .ok ∧ ∃ g, t.frame k = some g ∧ g.pound = some r ∧ g.fr.verdict = rest ++ 0#2 ∧
        g.fr.lastPound = f.pound.getD 0 ∧ g.wire = f.wire ∧ g.fr.buf = f.fr.buf) := by
  subst hroute
  have hpost := (toPound_posted (frame_committed (s := s.unposted w) (n := n) (word := rest ++ 0#2))
    (entryFree_committed (s := s.unposted w) (n := n) (k := k) (f := f) (word := rest ++ 0#2) h)).2
  exact .verdict hst hn hk hf rfl (actVerdict_pound (bits_verdictWord rest 0#2) h1 h2 h)
    ⟨rfl, _, (hpost.frame k).trans (State.frame_setFrame_same _ k _), rfl, rfl, rfl, rfl, rfl⟩

theorem verdictRoute_noRoom (h1 : r ≠ 0xFE) (h2 : r ≠ 0xFF) (h : s.entryFree (0x10 + r) = false) :
    Completes (.verdictRoute w rest) s (fun t => t.reply.status = .refusedCapacity ∧ t.frame k = some f) := by
  subst hroute
  have hwatch := Allocates.tokenWatch ((s.unposted w).count 0x70110) ((s.unposted w).counter 0x70110)
  exact .verdict hst hn hk hf rfl (actVerdict_noRoom (bits_verdictWord rest 0#2) h1 h2 h) ⟨rfl, (hwatch.frame k).trans hf⟩

theorem verdictRoute_towpath (hr : f.released = false) (h : r = 0xFE) (hfcs : f.fr.fcsDone = false) :
    Completes (.verdictRoute w rest) s (fun t => t.reply.status = .ok ∧
      ∃ g, t.frame k = some g ∧ g.complete = true ∧ g.pound = none ∧ g.fr.verdict = rest ++ 0#2) := by
  have hwait := frame_toTowpath (frame_committed (s := s.unposted w) (n := n) (k := k) (word := rest ++ 0#2)) hr
    (congrArg (· && f.fr.fcsBad) hfcs)
  exact .verdict hst hn hk hf rfl (actVerdict_towpath (bits_verdictWord rest 0#2) (hroute.trans h))
    ⟨rfl, _, hwait.1, rfl, rfl, rfl⟩

theorem verdictRoute_unused (he : f.eg = none) (h : r = 0xFF) : Completes (.verdictRoute w rest) s (fun t =>
    t.reply.status = .ok ∧ t.frame k = none ∧ t.counter (fltDrop f.fr.cls) = s.counter (fltDrop f.fr.cls) + 1#64) := by
  have hg := frame_committed (s := s.unposted w) (n := n) (k := k) (f := f) (word := rest ++ 0#2)
  exact .verdict hst hn hk hf rfl (actVerdict_unusedRoute (bits_verdictWord rest 0#2) (hroute.trans h))
    ⟨rfl, frame_dropFrame hg he _ _ _ _,
      (counter_dropFrame_fltDrop hg he _ _ _ _).trans (congrArg (· + 1#64) (counter_committed _))⟩

end

variable (he : f.eg = none)
include he

theorem verdictDrop_current (hr : f.released = false) : Completes (.verdictDrop w rest) s (fun t =>
    t.reply.status = .ok ∧ t.frame k = none ∧ t.counter (fltDrop f.fr.cls) = s.counter (fltDrop f.fr.cls) + 1#64 ∧
      (bufArea f.fr.buf.toNat < 6 → t.bufTag (bufPtr f.fr.buf.toNat) = tagFree) ∧
      (s.flt.logCells ≠ [] → t.reg A.fltDlogWr = s.reg A.fltDlogWr + 1#32)) := by
  have hg := frame_committed (s := s.unposted w) (n := n) (k := k) (f := f) (word := rest ++ 1#2)
  exact .verdict hst hn hk hf rfl (actVerdict_drop (bits_verdictWord rest 1#2))
    ⟨rfl, frame_dropFrame hg he _ _ _ _,
      (counter_dropFrame_fltDrop hg he _ _ _ _).trans (congrArg (· + 1#64) (counter_committed _)),
      bufTag_dropFrame hg he _ _ _ _ hr, fun hl => (reg_dropFrame_fltDlogWr hg he _ _ _ _ (by decide)
        (logCells_committed.trans_ne hl)).trans (congrArg (· + 1#32) (reg_committed _))⟩

theorem verdictConsumeFree_current : Completes (.verdictConsumeFree w rest) s (fun t =>
    t.reply.status = .ok ∧ t.frame k = none ∧ t.counter (fltDrop f.fr.cls) = s.counter (fltDrop f.fr.cls) ∧
      (bufArea f.fr.buf.toNat < 6 → t.bufTag (bufPtr f.fr.buf.toNat) = tagFree)) := by
  have hctr := flightCtr_fltDrop f.fr.cls
  refine .verdict hst hn hk hf rfl (actVerdict_free (bits_verdictWord rest 3#2) he) ⟨rfl, ?_, ?_, fun hb => ?_⟩
  · rw [frame_slotAnswer, frame_endFrame]
  · rw [counter_slotAnswer, hctr.counter_endFrame, (BesideFlight.freeBuf _ _).counter _ hctr, counter_committed]
    rfl
  · rw [bufTag_slotAnswer, bufTag_endFrame, bufTag_freeBuf _ hb]

theorem verdictConsumeKeep_current : Completes (.verdictConsumeKeep w rest) s (fun t =>
    t.reply.status = .ok ∧ t.frame k = none ∧ ∀ e, s.entryOf (slotAgent w).toNat = some e →
      bufArea f.fr.buf.toNat ≠ 6 → t.bufTag (bufPtr f.fr.buf.toNat) = e) := by
  refine .verdict hst hn hk hf rfl (actVerdict_keep (bits_verdictWord rest 2#2) he) ⟨rfl, ?_, fun e hown hb => ?_⟩
  · rw [frame_slotAnswer, frame_endFrame]
  · have hown' : (s.unposted w).entryOf (slotAgent w).toNat = some e := hown
    rw [bufTag_slotAnswer, bufTag_endFrame, State.keepBuf, entryOf_committed, hown']
    exact bufTag_moveBuf _ e hb

end

end Sys2Proof.Machine
end

section
/-! SUPPORT. SEND_CTL (section 5.4, R120, Table 5-3): a frame that software puts on the towpath as from port 9. -/

namespace Sys2Proof.Machine

/-! ### The frame of SEND_CTL -/

section
variable {s : State} {k e : Nat} {sh : Bool}

/-- A buffer with a free ticket becomes a port-9 frame whose flight is complete, and belongs to the sequencer. -/
theorem sendFrom9_spec (w len egress queue cls hostq : Nat) (ht : s.takeTicket cls = some (k, sh))
    (he : s.entryOf 0x600 = some e) :
    let r := s.sendFrom9 w len egress queue cls hostq
    r.1 = .ok ∧ (∃ f, r.2.frame k = some f ∧ f.fr.port = 9 ∧ f.fr.cls = cls ∧ f.fr.len = len ∧ f.complete = true ∧
      f.fr.fcsDone = true ∧ f.fr.egress = BitVec.ofNat 16 egress ∧ f.fr.queue = queue ∧ f.fr.buf = w32 w) ∧
        (bufArea w ≠ 6 → r.2.bufTag (bufPtr w) = e) := by
  rw [State.sendFrom9, ht, he]
  dsimp only
  generalize hr : ({ FrameRec.fresh 9 cls (w32 w) s.tb.now with
    fcsDone := true, len := len, egress := BitVec.ofNat 16 egress, queue := queue, tagged := hdrTagged (s.bufRead w 0 len),
    etype := BitVec.ofNat 16 (hdrEtype (s.bufRead w 0 len)), l3off := hdrOff (s.bufRead w 0 len),
    vlan := BitVec.ofNat 16 (if hdrTagged (s.bufRead w 0 len) then be16 (s.bufRead w 0 len) 14 else 0),
    hostq := BitVec.ofNat 8 hostq } : FrameRec) = r
  obtain ⟨hf, -, -, -, hbsn, -, -⟩ := enterFrame_spec (s.moveBuf w e) k sh r (s.bufRead w 0 len) s.time
  obtain ⟨hwait, hbsn'⟩ := frame_toTowpath hf rfl (by rw [← hr]; rfl)
  subst hr
  refine ⟨rfl, ⟨_, hwait, rfl, rfl, rfl, rfl, rfl, rfl, rfl, rfl⟩, fun hb => ?_⟩
  rw [State.bufTag, hbsn', hbsn]
  exact bufTag_moveBuf s e hb

end

/-! ### The command -/

theorem chainFrom_unposted (s : State) (w : SlotId) (n p : Nat) : (s.unposted w).chainFrom n p = s.chainFrom n p := by
  induction n generalizing p with
  | zero => rfl
  | succ n ih =>
    rw [State.chainFrom, State.chainFrom, ih]
    rfl

theorem bufBytes_unposted (s : State) (w : SlotId) (b : Nat) : (s.unposted w).bufBytes b = s.bufBytes b := by
  rw [State.bufBytes, State.chain, chainFrom_unposted]
  rfl

section
variable {s : State} {w : SlotId} {v : W32} (hst : (s.slot w).stores = [])
include hst

/-- The checks of SEND_CTL, in their order. -/
theorem sendCtl_eq : s.sendCtl w v =
    if bits v 29 16 = 0 then (.zeroLength, s.unposted w)
    else if bits v 29 16 < 64 ∨ 9216 < bits v 29 16 then (.refusedRange, s.unposted w)
    else if !s.validBuf (s.slot w).sendBuf.toNat || decide (s.bufBytes (s.slot w).sendBuf.toNat < bits v 29 16) then
      (.refusedRange, s.unposted w)
    else if some (s.bufTag (bufPtr (s.slot w).sendBuf.toNat)) ≠ s.entryOf (slotAgent w).toNat then
      (.refusedRights, s.unposted w)
    else (s.unposted w).sendFrom9 (s.slot w).sendBuf.toNat (bits v 29 16) (bits v 8 0) (bits v 11 9) (bits v 13 12) 0 := by
  have hbuf : ((s.unposted w).slot w).sendBuf = (s.slot w).sendBuf := by rw [State.unposted, State.slot_setSlot_same]
  have hvalid : (s.unposted w).validBuf = s.validBuf := rfl
  have hbytes : (s.unposted w).bufBytes = s.bufBytes := funext fun b => bufBytes_unposted s w b
  have htag : (s.unposted w).bufTag = s.bufTag := rfl
  have hent : (s.unposted w).entryOf = s.entryOf := rfl
  rw [State.sendCtl, drain_empty hst, hbuf, hvalid, hbytes, htag, hent]

theorem sendCtl_empty (h : bits v 29 16 = 0) : Completes (.sendCtl w v) s (fun t =>
    t.reply.status = .zeroLength ∧ t.flt = s.flt ∧ t.bsn = s.bsn) := by
  have hx : exec (.sendCtl w v) s = .next (State.slotAnswer w (s.sendCtl w v)) := rfl
  rw [sendCtl_eq hst, if_pos h] at hx
  exact .next hx ⟨rfl, rfl, rfl⟩

theorem sendCtl_badLength (h : (0 < bits v 29 16 ∧ bits v 29 16 < 64) ∨ 9216 < bits v 29 16) :
    Completes (.sendCtl w v) s (fun t => t.reply.status = .refusedRange ∧ t.flt = s.flt ∧ t.bsn = s.bsn) := by
  have hx : exec (.sendCtl w v) s = .next (State.slotAnswer w (s.sendCtl w v)) := rfl
  rw [sendCtl_eq hst, if_neg (by omega), if_pos (by omega)] at hx
  exact .next hx ⟨rfl, rfl, rfl⟩

theorem sendCtl_sound {k e : Nat} {sh : Bool} {b len : Nat} (hb : b = (s.slot w).sendBuf.toNat) (hlen : len = bits v 29 16)
    (hmin : 64 ≤ len) (hmax : len ≤ 9216) (hvalid : s.validBuf b = true) (hfit : len ≤ s.bufBytes b)
    (hown : some (s.bufTag (bufPtr b)) = s.entryOf (slotAgent w).toNat) (ht : s.takeTicket (bits v 13 12) = some (k, sh))
    (he : s.entryOf 0x600 = some e) : Completes (.sendCtl w v) s (fun t => t.reply.status = .ok ∧ ∃ f, t.frame k = some f ∧
      f.fr.port = 9 ∧ f.fr.cls = bits v 13 12 ∧ f.fr.len = len ∧ f.complete = true ∧ f.fr.fcsDone = true ∧
      f.fr.egress = BitVec.ofNat 16 (bits v 8 0) ∧ f.fr.queue = bits v 11 9 ∧ f.fr.buf = BitVec.ofNat 32 b ∧
      (bufArea b ≠ 6 → t.bufTag (bufPtr b) = e)) := by
  have hx : exec (.sendCtl w v) s = .next (State.slotAnswer w (s.sendCtl w v)) := rfl
  rw [sendCtl_eq hst, ← hlen, ← hb, if_neg (by omega), if_neg (by omega),
    if_neg (by simp [hvalid, hfit]), if_neg (not_not_intro hown)] at hx
  obtain ⟨hok, ⟨f, hf, hport, hcls, hflen, hcomplete, hfcs, hegress, hqueue, hbuf⟩, htag⟩ :=
    sendFrom9_spec (s := s.unposted w) b len (bits v 8 0) (bits v 11 9) (bits v 13 12) 0 ht he
  exact .next hx ⟨hok, f, (frame_slotAnswer w _ k).trans hf, hport, hcls, hflen, hcomplete, hfcs, hegress, hqueue, hbuf,
    fun h6 => (bufTag_slotAnswer w _ _).trans (htag h6)⟩

end

end Sys2Proof.Machine
end

section
/-! SUPPORT. The towpath (section 5.3, R126 to R129, R138, R139): a release to one egress port, and the stomp of a frame that
a port sends before its flight is complete. -/

namespace Sys2Proof.Machine

/-! ### Masks of ports -/

/-- The mask of the numbers below `n` with property `c`. -/
def maskBelow (c : Nat → Bool) (n : Nat) : Nat := sumNat ((rangeFrom n 0).map (fun p => if c p then 2 ^ p else 0))

theorem maskBelow_succ (c : Nat → Bool) (n : Nat) : maskBelow c (n + 1) = (if c n then 2 ^ n else 0) + maskBelow c n := by
  simp only [maskBelow, sumNat, ← List.sum_eq_foldl, rangeFrom_eq_range', List.range'_1_concat, List.map_append,
    List.sum_append]
  simp [Nat.add_comm]

theorem maskBelow_lt (c : Nat → Bool) (n : Nat) : maskBelow c n < 2 ^ n := by
  induction n with
  | zero => exact Nat.one_pos
  | succ n ih =>
    rw [maskBelow_succ, Nat.pow_succ]
    split <;> omega

theorem testBit_maskBelow (c : Nat → Bool) {n q : Nat} (h : q < n) : (maskBelow c n).testBit q = c q := by
  induction n with
  | zero => cases h
  | succ n ih =>
    rw [maskBelow_succ]
    by_cases hq : q = n
    · subst hq
      cases hc : c q <;> simp [Nat.testBit_two_pow_add_eq, Nat.testBit_lt_two_pow (maskBelow_lt c q)]
    · have hlt : q < n := by omega
      split
      · rw [Nat.testBit_two_pow_add_gt hlt, ih hlt]
      · rw [Nat.zero_add, ih hlt]

/-- The low byte of the ports in service holds bit `q` of a port in service. -/
theorem and_liveMask {s : State} (q : Fin 8) (h : s.inService q = true) : 2 ^ q.val &&& (s.liveMask % 256) = 2 ^ q.val := by
  have hlt : maskBelow s.inService 8 < 256 := maskBelow_lt s.inService 8
  have hlive : s.liveMask % 256 = maskBelow s.inService 8 := by
    show (maskBelow s.inService 8 + 0x100) % 256 = _
    omega
  rw [hlive, Nat.two_pow_and, testBit_maskBelow _ q.isLt, h, Bool.toNat_true, Nat.mul_one]

theorem bit_two_pow (q p : Nat) : (2 ^ q >>> p) % 2 = 1 ↔ p = q := by
  have h := Nat.testBit_two_pow (n := q) (m := p)
  rw [Nat.testBit_eq_decide_div_mod_eq, decide_eq_decide, ← Nat.shiftRight_eq_div_pow] at h
  rw [h, eq_comm]

/-! ### A frame on the queue of one port -/

/-- Port `q` takes egress entry `e` at the end of its queue `c`. -/
def State.queued (s : State) (q c e : Nat) : State := s.setPort q ((s.port q).setQueue c ((s.port q).queue c ++ [e]))

theorem queueOn_single (s : State) (e c cls : Nat) (q : Fin 8) :
    ∃ r, s.queueOn e c cls (2 ^ q.val) = { s.queued q c e with ctr := r } := by
  unfold State.queueOn
  rw [foldl_single (c := q.val) (nodup_rangeFrom 8 0) (mem_rangeFrom.mpr (by omega))
    (fun p hp => if_neg fun h => hp ((bit_two_pow q p).mp h)) (fun p hp => if_neg fun h => hp ((bit_two_pow q p).mp h)),
    if_pos ((bit_two_pow q q).mpr rfl)]
  extract_lets x t express
  split
  · exact ⟨s.ctr, rfl⟩
  · exact ⟨_, rfl⟩

/-! ### A released frame leaves -/

theorem BesideFlight.learnCommit (s : State) (l : Learn) : BesideFlight s (s.learnCommit l) := by
  unfold State.learnCommit
  split
  · split
    · exact ⟨rfl, fun _ _ _ => rfl, fun _ _ => rfl⟩
    · exact .refl s
  · split
    · exact ⟨rfl, fun _ _ _ => rfl, fun _ _ => rfl⟩
    · exact ((Allocates.count s (by unfold FlightCtr; decide)).trans (.raiseFirst _ (by decide))).beside

section
variable {s : State} {k e : Nat} {f : Frame} {x : EgFrame}

/-- The learn request of a frame that leaves sound is committed (R128, R138). -/
def State.learned (s : State) (f : Frame) : State :=
  match f.learn with
  | some l => if f.fr.fcsBad || f.fr.stomp then s else s.learnCommit l
  | none => s

theorem BesideFlight.learned (s : State) (f : Frame) : BesideFlight s (s.learned f) := by
  unfold State.learned
  split
  · split
    · exact .refl s
    · exact .learnCommit s _
  · exact .refl s

/-- A released frame whose flight is complete and whose FCS has come leaves its egress entry behind (R128). -/
theorem tryLeave_complete (hf : s.frame k = some f) (hr : (f.released && f.complete && f.fr.fcsDone) = true)
    (he : f.eg = some e) (hx : s.egFrame e = some x) : s.tryLeave k =
      ((s.learned f).setEg e (some { x with ticket := none, len := f.fr.len, fin := true })).endFrame k := by
  have hx' : (s.learned f).egFrame e = some x := (BesideFlight.learned s f).egFrame e |>.trans hx
  rw [State.tryLeave, hf]
  dsimp only
  rw [if_pos hr, he]
  change (match (s.learned f).egFrame e with
    | some x => (s.learned f).setEg e (some { x with ticket := none, len := f.fr.len, fin := true })
    | none => s.learned f).endFrame k = _
  rw [hx']

/-- Whether or not it leaves, the queues and its egress entry stay. -/
theorem tryLeave_released (hf : s.frame k = some f) (hr : f.released = true) (he : f.eg = some e) (hx : s.egFrame e = some x) :
    (s.tryLeave k).prt = s.prt ∧ ((s.tryLeave k).egFrame e).map (fun x => (x.buf, x.cls)) = some (x.buf, x.cls) ∧
      (f.complete = true → f.fr.fcsDone = true → (s.tryLeave k).frame k = none) := by
  by_cases h : (f.released && f.complete && f.fr.fcsDone) = true
  · rw [tryLeave_complete hf h he hx]
    refine ⟨(State.prt_endFrame _ k).trans (BesideFlight.learned s f).prt, ?_, fun _ _ => frame_endFrame _ k⟩
    rw [egFrame_endFrame, State.egFrame_setEg_same]
    rfl
  · rw [tryLeave_stays hf (Bool.eq_false_iff.mpr h), hx]
    exact ⟨rfl, rfl, fun hc hd => absurd (by rw [hr, hc, hd]; rfl) h⟩

/-! ### A release -/

/-- Frame `k`, now `g`, has gone from the towpath to port `q`: its egress entry `x` is at the end of queue `d`. The counters
are `c`. -/
def State.handedOver (s : State) (k q d : Nat) (c : SMap W64) (x : EgFrame) (g : Frame) : State :=
  (({ s with ctr := c, flt := { s.flt with egNext := s.flt.egNext + 1 } } : State).setEg s.flt.egNext (some x)
    |>.setFrame k (some g)).queued q d s.flt.egNext

section
variable (s : State) (k q d : Nat) (c : SMap W64) (x : EgFrame) (g : Frame)

theorem frame_handedOver : (s.handedOver k q d c x g).frame k = some g := State.frame_setFrame_same _ k _

theorem egFrame_handedOver : (s.handedOver k q d c x g).egFrame s.flt.egNext = some x :=
  SMap.get_set_same (fun _ => none) s.flt.eg s.flt.egNext (some x)

theorem queue_handedOver : ((s.handedOver k q d c x g).port q).queue d = (s.port q).queue d ++ [s.flt.egNext] := by
  rw [State.handedOver, State.queued, State.port_setPort_same, PortSt.queue, PortSt.setQueue, SMap.get_set_same]
  rfl

end

section
variable {q : Fin 8} (hegress : f.fr.egress = BitVec.ofNat 16 (2 ^ q.val))
include hegress

theorem tryRelease_single (hf : s.frame k = some f) (hel : f.eligible = true) (hold : s.oldest f = true)
    (hroom : s.queueRoom q f.fr.queue = true) : s.tryRelease k = s.release k f := by
  have hall : (rangeFrom 8 0).all (fun p => !(f.fr.egress.getLsbD p && s.inService p) || s.queueRoom p f.fr.queue) = true := by
    refine List.all_eq_true.mpr fun p _ => ?_
    by_cases hp : q.val = p
    · rw [← hp, hroom, Bool.or_true]
    · have hbit : f.fr.egress.getLsbD p = false := by
        rw [hegress, BitVec.getLsbD_ofNat, Nat.testBit_two_pow, decide_eq_false hp, Bool.and_false]
      rw [hbit]
      rfl
  rw [State.tryRelease, hf]
  dsimp only
  rw [hel, hold, hall]
  rfl

/-- The release of a frame to one port in service: its egress entry joins the port's queue (R127). -/
theorem release_single (hlive : s.inService q = true) : ∃ c x g,
    s.release k f = (s.handedOver k q f.fr.queue c x g).tryLeave k ∧
    (x.buf = f.fr.buf.toNat ∧ x.cls = f.fr.cls) ∧ g.released = true ∧ g.eg = some s.flt.egNext ∧
      g.complete = f.complete ∧ g.fr.fcsDone = f.fr.fcsDone := by
  have hpow : 2 ^ q.val < 256 := Nat.pow_lt_pow_right (by decide) q.isLt
  have hwant : f.fr.egress.toNat % 256 = 2 ^ q.val := by
    rw [hegress, BitVec.toNat_ofNat, Nat.mod_eq_of_lt (hpow.trans (by decide)), Nat.mod_eq_of_lt hpow]
  unfold State.release
  extract_lets want live dead host s1 early e res hq s1' x flt s2 out fr g s3
  have hto : live = 2 ^ q.val := (congrArg (· &&& s.liveMask % 256) hwant).trans (and_liveMask q hlive)
  have hhost : host = false := by
    simp only [host, hegress, BitVec.getLsbD_ofNat, Nat.testBit_two_pow,
      decide_eq_false (show q.val ≠ 8 by omega), Bool.and_false]
  clear_value live host
  subst hto hhost
  obtain ⟨c, hc⟩ := queueOn_single ((s2.setEg e (some x)).setFrame k (some g)) e f.fr.queue f.fr.cls q
  refine ⟨c, x, g, ?_, ⟨rfl, rfl⟩, rfl, rfl, rfl, rfl⟩
  rw [if_neg (by simp), if_neg (by simp)]
  exact congrArg (State.tryLeave · k) hc

/-- What a release to one port leaves. -/
theorem release_single_spec (hlive : s.inService q = true) :
    ((s.release k f).port q).queue f.fr.queue = (s.port q).queue f.fr.queue ++ [s.flt.egNext] ∧
      ((s.release k f).egFrame s.flt.egNext).map (fun x => (x.buf, x.cls)) = some (f.fr.buf.toNat, f.fr.cls) ∧
      (f.complete = true → f.fr.fcsDone = true → (s.release k f).frame k = none) := by
  obtain ⟨c, x, g, hrelease, ⟨hbuf, hcls⟩, hrel, heg, hcomplete, hdone⟩ := release_single (k := k) hegress hlive
  obtain ⟨hprt, hentry, hleft⟩ := tryLeave_released (frame_handedOver s k q f.fr.queue c x g) hrel heg
    (egFrame_handedOver s k q f.fr.queue c x g)
  rw [hrelease]
  refine ⟨?_, hentry.trans (by rw [hbuf, hcls]), fun hc hd => hleft (hcomplete.trans hc) (hdone.trans hd)⟩
  rw [State.port, hprt]
  exact queue_handedOver s k q f.fr.queue c x g

end

/-! ### TOWPATH_RELEASE and EGRESS_FCS_REACHED -/

/-- The oldest eligible frame of port `p` and class `c` (R126). -/
def State.towpathPick (s : State) (p : Fin 10) (c : Fin 4) : Option (Nat × Option Frame) :=
  s.flt.frames.find? (fun x => (x.2.map (fun f => decide (f.fr.port = p.val) && decide (f.fr.cls = c.val) &&
    f.eligible && s.oldest f)).getD false)

section
variable {p : Fin 10} {c : Fin 4}

theorem towpathRelease_none (h : s.towpathPick p c = none) : Completes (.towpathRelease p c) s (fun t => t = s) := by
  unfold State.towpathPick at h
  refine .unchanged ?_
  show execTowpathRelease p c s = _
  rw [execTowpathRelease, h]

theorem towpathRelease_single {q : Fin 8} (h : s.towpathPick p c = some (k, some f)) (hf : s.frame k = some f)
    (hegress : f.fr.egress = BitVec.ofNat 16 (2 ^ q.val)) (hlive : s.inService q = true)
    (hroom : s.queueRoom q f.fr.queue = true) : Completes (.towpathRelease p c) s (fun t =>
        (t.port q).queue f.fr.queue = (s.port q).queue f.fr.queue ++ [s.flt.egNext] ∧
          (t.egFrame s.flt.egNext).map (fun x => (x.buf, x.cls)) = some (f.fr.buf.toNat, f.fr.cls) ∧
          (f.complete = true → f.fr.fcsDone = true → t.frame k = none)) := by
  unfold State.towpathPick at h
  have hpick := List.find?_some h
  simp only [Option.map_some, Option.getD_some, Bool.and_eq_true] at hpick
  obtain ⟨⟨-, hel⟩, hold⟩ := hpick
  refine .next (t := s.release k f) ?_ (release_single_spec hegress hlive)
  show execTowpathRelease p c s = _
  rw [execTowpathRelease, h]
  dsimp only
  rw [tryRelease_single hegress hf hel hold hroom]

end

section
variable {p : Fin 8} {g : Sending} (hs : (s.port p).sending = some g) (hx : s.egFrame g.eg = some x)
include hs hx

theorem egressFcsReached_complete (ht : x.ticket = none) : Completes (.egressFcsReached p) s (fun t => t = s) := by
  refine .unchanged ?_
  show execEgressFcsReached p s = _
  rw [execEgressFcsReached, hs]
  dsimp only
  rw [hx]
  dsimp only
  rw [ht]

theorem egressFcsReached_stomps (ht : x.ticket = some k) (hf : s.frame k = some f) (hc : f.complete = false)
    (hstomp : f.fr.stomp = false) : Completes (.egressFcsReached p) s (fun t =>
      ∃ h, t.frame k = some h ∧ h.fr.stomp = true ∧
      t.counter 0x60240 = s.counter 0x60240 + 1#64 ∧ t.counter (fltDrop f.fr.cls) = s.counter (fltDrop f.fr.cls) + 1#64) := by
  obtain ⟨⟨h, hh, hst⟩, hctr⟩ := stomp_inFlight (s := s.advance (g.t0 + s.byteTime p (x.len - 4 - g.sent))) (k := k)
    ((State.frame_advance ..).trans hf) hc hstomp 0x0D 0xFE 0x600#12 0
  have hne : 0x60240 ≠ fltDrop f.fr.cls := by
    unfold fltDrop
    omega
  refine .next ?_ ⟨h, hh, hst, ?_, ?_⟩
  · show execEgressFcsReached p s = _
    rw [execEgressFcsReached, hs]
    dsimp only
    rw [hx]
    dsimp only
    rw [ht]
  · rw [hctr _ (by unfold FlightCtr; decide), State.counter_count_ne _ hne, State.counter_count_same, State.counter_advance]
  · rw [hctr _ (flightCtr_fltDrop _), State.counter_count_same, State.counter_count_ne _ hne.symm, State.counter_advance]

end

end

end Sys2Proof.Machine
end

section
/-! PROOFS. O16: the clauses of verdicts, SEND_CTL and the towpath put together. -/

namespace Sys2Proof.Machine

/-- Settles O16: the actions of a verdict, the refusals without a current frame, SEND_CTL, a release of the towpath and the
stomp at the FCS. -/
theorem verdictsAndSendsMoveFrames : Obligations.VerdictsAndSendsMoveFrames := by
  unfold Obligations.VerdictsAndSendsMoveFrames
  refine ⟨fun s w n k f rest hst hn hk hf he hr => ⟨verdictRoute_pound hst hn hk hf rest rfl,
      verdictRoute_noRoom hst hn hk hf rest rfl, verdictRoute_towpath hst hn hk hf rest rfl hr,
      verdictRoute_unused hst hn hk hf rest rfl he, verdictDrop_current hst hn hk hf rest he hr,
      verdictConsumeFree_current hst hn hk hf rest he, verdictConsumeKeep_current hst hn hk hf rest he⟩,
    fun s w n rest hst hn hk => ⟨.verdict_refused hst hn hk rfl, .verdict_refused hst hn hk rfl,
      .verdict_refused hst hn hk rfl, .verdict_refused hst hn hk rfl⟩,
    fun s w v hst => ⟨sendCtl_empty hst, sendCtl_badLength hst,
      fun k sh e hmin hmax hvalid hfit hown ht he => sendCtl_sound hst rfl rfl hmin hmax hvalid hfit hown ht he⟩,
    fun s p c => ⟨towpathRelease_none, fun k f q h hf hegress hlive hroom => towpathRelease_single h hf hegress hlive hroom⟩,
    fun s p g x hs hx => ⟨egressFcsReached_complete hs hx,
      fun k f ht hf hc hst => egressFcsReached_stomps hs hx ht hf hc hst⟩⟩

end Sys2Proof.Machine
end

section
/-! SUPPORT. The landing of pending writes (R215 to R218): what any landing leaves alone, and what lists of writes to
registers and to OSTAT leave in a thread. -/

namespace Sys2Proof.Machine

/-! ### What landing leaves alone -/

theorem landList_append (a b : List PWrite) (p : Ctx × Nat) : landList (a ++ b) p = landList b (landList a p) :=
  List.foldl_append

theorem landOne_atPc (x : Ctx) (n : Nat) (pc : W32) (a : PWrite) :
    landOne ({ x with pc := pc }, n) a = ({ (landOne (x, n) a).1 with pc := pc }, (landOne (x, n) a).2) := by
  unfold landOne
  cases a.tgt with
  | rsp => dsimp only; split <;> rfl
  | _ => rfl

/-- Landing neither reads nor moves the pc. -/
theorem landList_atPc (ws : List PWrite) (x : Ctx) (n : Nat) (pc : W32) :
    landList ws ({ x with pc := pc }, n) = ({ (landList ws (x, n)).1 with pc := pc }, (landList ws (x, n)).2) := by
  induction ws generalizing x n with
  | nil => rfl
  | cons a ws ih => exact (congrArg (landList ws) (landOne_atPc x n pc a)).trans (ih _ _)

theorem landOne_kept (p : Ctx × Nat) (a : PWrite) : (landOne p a).1.inT = p.1.inT ∧ (landOne p a).1.pc = p.1.pc := by
  unfold landOne
  cases a.tgt with
  | rsp => dsimp only; split <;> exact ⟨rfl, rfl⟩
  | _ => exact ⟨rfl, rfl⟩

theorem landList_kept (ws : List PWrite) (p : Ctx × Nat) :
    (landList ws p).1.inT = p.1.inT ∧ (landList ws p).1.pc = p.1.pc := by
  induction ws generalizing p with
  | nil => exact ⟨rfl, rfl⟩
  | cons a ws ih => exact ⟨(ih _).1.trans (landOne_kept p a).1, (ih _).2.trans (landOne_kept p a).2⟩

theorem landed_inT (s : State) (w : SlotId) : (s.landed w).inT = (s.slot w).ctx.inT := (landList_kept _ _).1

/-! ### Registers and flags of a thread -/

theorem Ctx.preg_setPreg (x : Ctx) (p q : Nat) (v : W32) : (x.setPreg p v).preg q = if q = p then v else x.preg q :=
  SMap.get_set _ _ _ _ _

theorem FlagsAre.refl (f : W32) : FlagsAre {} f f := ⟨rfl, rfl, rfl, rfl, (Bool.or_false _).symm, rfl⟩

theorem FlagsAre.trans {fs : FlagSet} {f g h : W32} (h1 : FlagsAre {} f g) (h2 : FlagsAre fs g h) : FlagsAre fs f h := by
  obtain ⟨c, v, z, n, sat, o⟩ := h1
  obtain ⟨c', v', z', n', sat', o'⟩ := h2
  exact ⟨c'.trans (congrArg _ c), v'.trans (congrArg _ v), z'.trans (congrArg _ z), n'.trans (congrArg _ n),
    sat'.trans (congrArg (· || _) (sat.trans (Bool.or_false _))), o'.trans (congrArg _ o)⟩

theorem CtxWrote.refl (x : Ctx) : CtxWrote x x noReg {} x.pc := ⟨fun _ => rfl, .refl _, rfl⟩

theorem CtxWrote.trans {x y z : Ctx} {r q : Nat → Option W32} {fs : FlagSet} {pc pc' : W32}
    (h : CtxWrote x y r {} pc) (k : CtxWrote y z q fs pc') : CtxWrote x z (fun p => (q p).or (r p)) fs pc' := by
  obtain ⟨hr, hf, hx⟩ := h
  obtain ⟨kr, kf, kx⟩ := k
  refine ⟨fun p => ?_, hf.trans kf, by rw [hx] at kx; exact kx⟩
  rw [kr, hr]
  exact Option.getD_or.symm

theorem CtxWrote.regs_congr {x y : Ctx} {r q : Nat → Option W32} {fs : FlagSet} {pc : W32} (h : CtxWrote x y r fs pc)
    (hq : ∀ p, r p = q p) : CtxWrote x y q fs pc := funext hq ▸ h

/-- A write under a mask is the write of a field. -/
theorem CtxWrote.ostat (x : Ctx) (st : Status) : CtxWrote x
    { x with flags := (x.flags &&& ~~~0xFF00#32) ||| (w32 (st.code * 0x100) &&& 0xFF00#32) } noReg
      { ostat := some st.code } x.pc := by
  have hw : (x.flags &&& ~~~0xFF00#32) ||| (w32 (st.code * 0x100) &&& 0xFF00#32) = setBits x.flags 15 8 st.code := by
    rw [setBits, Nat.shiftLeft_eq]
    rfl
  have hcode : st.code < 2 ^ 8 := by cases st <;> decide
  rw [hw]
  refine ⟨fun _ => rfl, ⟨?_, ?_, ?_, ?_, ?_, ?_⟩, rfl⟩
  case refine_6 => exact (bits_setBits_same _ _ _ _ (by decide)).trans (Nat.mod_eq_of_lt hcode)
  case refine_5 => exact (bit_setBits _ _ _ _ _ (by decide)).trans (Bool.or_false _).symm
  all_goals exact bit_setBits _ _ _ _ _ (by decide)

/-! ### Lists of writes -/

/-- Landing the writes `ws` writes the registers `res` and the flags of `fs`, in every thread, and uses no free value. -/
def Lands (ws : List PWrite) (res : Nat → Option W32) (fs : FlagSet) : Prop :=
  ∀ (x : Ctx) (n : Nat), (landList ws (x, n)).2 = n ∧ CtxWrote x (landList ws (x, n)).1 res fs x.pc

theorem Lands.nil : Lands [] noReg {} := fun x _ => ⟨rfl, .refl x⟩

theorem Lands.ostat (st : Status) : Lands [ostatWrite st] noReg { ostat := some st.code } :=
  fun x _ => ⟨rfl, .ostat x st⟩

theorem Lands.dst (x : Ctx) (c : RegCode) (v : W32) : Lands (x.dst c v) (oneReg x c v) {} := by
  unfold Ctx.dst oneReg
  intro y n
  cases x.phys c.toNat with
  | none => exact ⟨rfl, .refl y⟩
  | some k =>
    refine ⟨rfl, fun p => ?_, .refl _, rfl⟩
    refine (Ctx.preg_setPreg y k p v).trans ?_
    by_cases h : p = k
    · subst h; simp
    · simp [h, Ne.symm h]

theorem Lands.append {a b : List PWrite} {r q : Nat → Option W32} {fs : FlagSet} (ha : Lands a r {}) (hb : Lands b q fs) :
    Lands (a ++ b) (fun p => (q p).or (r p)) fs := by
  intro x n
  obtain ⟨han, hax⟩ := ha x n
  obtain ⟨hbn, hbx⟩ := hb (landList a (x, n)).1 (landList a (x, n)).2
  rw [landList_append]
  refine ⟨hbn.trans han, ?_⟩
  have hpc := (landList_kept a (x, n)).2
  rw [← show (landList a (x, n)).1.pc = x.pc from hpc]
  exact hax.trans hbx

theorem Lands.congr {ws : List PWrite} {r q : Nat → Option W32} {fs : FlagSet} (h : Lands ws r fs) (hq : ∀ p, r p = q p) :
    Lands ws q fs := funext hq ▸ h

/-- A result to one register with a status in OSTAT (R180). -/
theorem Lands.dstOstat (x : Ctx) (c : RegCode) (v : W32) (st : Status) :
    Lands (x.dst c v ++ [ostatWrite st]) (oneReg x c v) { ostat := some st.code } :=
  ((Lands.dst x c v).append (.ostat st)).congr fun _ => rfl

end Sys2Proof.Machine
end

section
/-! SUPPORT. How a slot issues, retires, holds and traps (R146, R210, R215 to R217, R235): one rule for each, in the words
of the statements. -/

namespace Sys2Proof.Machine

/-! ### What changes one slot only -/

theorem OnlySlot.refl (s : State) (w : SlotId) : OnlySlot s w s := ⟨rfl, fun _ _ => rfl⟩

theorem OnlySlot.trans {s t u : State} {w : SlotId} (h : OnlySlot s w t) (k : OnlySlot t w u) : OnlySlot s w u := by
  obtain ⟨hs, hslot⟩ := h
  obtain ⟨ks, kslot⟩ := k
  exact ⟨by rw [hs] at ks; exact ks, fun j hj => (kslot j hj).trans (hslot j hj)⟩

theorem OnlySlot.setSlot (s : State) (w : SlotId) (x : Slot) : OnlySlot s w (s.setSlot w x) :=
  ⟨rfl, fun _ hj => State.slot_setSlot_ne s x hj⟩

theorem OnlySlot.land (s : State) (w : SlotId) (ws : List PWrite) : OnlySlot s w (s.land w ws) :=
  ⟨rfl, fun _ hj => State.slot_setSlot_ne _ _ hj⟩

theorem OnlySlot.landAll (s : State) (w : SlotId) : OnlySlot s w (s.landAll w) := (OnlySlot.land s w _).trans (.setSlot _ w _)

theorem OnlySlot.retire (s : State) (w : SlotId) (d1 d2 : List PWrite) (pc : W32) : OnlySlot s w (s.retire w d1 d2 pc) :=
  (OnlySlot.land s w _).trans (.setSlot _ w _)

theorem OnlySlot.endHold (s : State) (w : SlotId) (ws : List PWrite) : OnlySlot s w (s.endHold w ws) :=
  ((OnlySlot.landAll s w).trans (.land _ w ws)).trans (.setSlot _ w _)

theorem OnlySlotAndMemory.trans_only {s t u : State} {w : SlotId} (h : OnlySlotAndMemory s w t) (k : OnlySlot t w u) :
    OnlySlotAndMemory s w u := by
  obtain ⟨hs, hslot⟩ := h
  obtain ⟨ks, kslot⟩ := k
  exact ⟨by rw [hs] at ks; rw [ks], fun j hj => (kslot j hj).trans (hslot j hj)⟩

/-! ### Issue -/

/-- The state in which an instruction that slot `w` issues acts. -/
def State.issuing (s : State) (w : SlotId) : State := s.setSlot w (s.slot w).issued

@[simp] theorem slot_issuing (s : State) (w : SlotId) : (s.issuing w).slot w = (s.slot w).issued :=
  State.slot_setSlot_same s w _

theorem OnlySlot.issuing (s : State) (w : SlotId) : OnlySlot s w (s.issuing w) := .setSlot s w _

@[simp] theorem landed_issuing (s : State) (w : SlotId) : (s.issuing w).landed w = s.landed w := by
  unfold State.landed
  rw [slot_issuing]
  rfl

theorem State.landed_congr {s t : State} {w : SlotId} (hc : (t.slot w).ctx = (s.slot w).ctx)
    (hl : (t.slot w).late = (s.slot w).late) (hf : t.free = s.free) : t.landed w = s.landed w := by
  unfold State.landed
  rw [hc, hl, hf]

/-- A slot that issues performs what its instruction does. -/
theorem Issues.issue {s : State} {w : SlotId} (h : Issues s w) {ok : Bool} (hok : ok = true) (f : Slot → State → State) :
    s.issue w ok f = .next (f (s.slot w).issued (s.issuing w)) := by
  obtain ⟨hthread, hheld, hrun, hshadow, hpc⟩ := h
  obtain ⟨n, hn⟩ := Option.isSome_iff_exists.mp hthread
  have hhalt : ((s.slot w).halted && !(s.slot w).stepOne) = false := by
    rcases hrun with h | h <;> simp [h]
  unfold State.issue
  dsimp only
  rw [hn, hheld, hhalt, hshadow]
  simp only [Option.isNone_some, Option.isSome_none, Bool.or_false, Bool.false_eq_true, if_false, if_neg (Nat.not_le.mpr hpc),
    hok, if_true]
  rfl

theorem Completes.issues {c : Instr} {s : State} {w : SlotId} {ok : Bool} {f : Slot → State → State} {P : State → Prop}
    (h : Issues s w) (hx : exec c s = s.issue w ok f) (hok : ok = true) (hp : P (f (s.slot w).issued (s.issuing w))) :
    Completes c s P :=
  .next (hx.trans (h.issue hok f)) hp

/-- The same, where what the instruction does is known. -/
theorem Completes.issues_to {c : Instr} {s t : State} {w : SlotId} {ok : Bool} {f : Slot → State → State} {P : State → Prop}
    (h : Issues s w) (hx : exec c s = s.issue w ok f) (hok : ok = true) (hf : f (s.slot w).issued (s.issuing w) = t)
    (hp : P t) : Completes c s P :=
  .issues h hx hok (hf ▸ hp)

/-! ### Retirement -/

theorem slot_land (s : State) (w : SlotId) (ws : List PWrite) : (s.land w ws).slot w =
    { s.slot w with ctx := (landList ws ((s.slot w).ctx, s.free)).1 } :=
  State.slot_setSlot_same _ w _

theorem slot_retire (s : State) (w : SlotId) (d1 d2 : List PWrite) (pc : W32) : (s.retire w d1 d2 pc).slot w =
    { s.slot w with
      late := d2
      ctx := { (landList ((s.slot w).late ++ d1) ((s.slot w).ctx, s.free)).1 with pc := pc } } := by
  rw [State.retire, State.slot_setSlot_same, slot_land]

theorem CtxWrote.atPc {x y : Ctx} {r : Nat → Option W32} {fs : FlagSet} {pc : W32} (h : CtxWrote x y r fs pc) (pc' : W32) :
    CtxWrote x { y with pc := pc' } r fs pc' := by
  obtain ⟨hr, hf, hy⟩ := h
  exact ⟨hr, hf, by rw [hy]⟩

section
variable {s : State} {w : SlotId} {d1 d2 ws : List PWrite} {r q : Nat → Option W32} {fs : FlagSet}

/-- What the next instruction finds: the earlier writes and those of distance 1. -/
theorem Lands.slot_retire (h : Lands d1 r fs) (d2 : List PWrite) (pc : W32) :
    CtxWrote (s.landed w) ((s.retire w d1 d2 pc).slot w).ctx r fs pc := by
  rw [Machine.slot_retire, landList_append]
  exact (h _ _).2.atPc pc

/-- What the instruction after it finds: the writes of distance 2 too. -/
theorem Lands.landed_retire (h1 : Lands d1 r {}) (h2 : Lands d2 q fs) (pc : W32) :
    CtxWrote (s.landed w) ((s.retire w d1 d2 pc).landed w) (fun p => (q p).or (r p)) fs pc := by
  have hlate : ((s.retire w d1 d2 pc).slot w).late = d2 := by rw [Machine.slot_retire]
  have hpc : ((s.retire w d1 d2 pc).slot w).ctx.pc = pc := by rw [Machine.slot_retire]
  have h := (h1.slot_retire (s := s) (w := w) d2 pc).trans (h2 _ (s.retire w d1 d2 pc).free).2
  rw [hpc] at h
  rw [State.landed.eq_def (s.retire w d1 d2 pc), hlate]
  exact h

/-- An instruction of distance 1. -/
theorem Lands.wrote (h : Lands ws r fs) (pc : W32) : Wrote s w r fs pc ((s.issuing w).retire w ws [] pc) := by
  refine ⟨?_, by rw [Machine.slot_retire], (OnlySlot.issuing s w).trans (.retire _ w _ _ _)⟩
  have := h.slot_retire (s := s.issuing w) (w := w) [] pc
  rwa [landed_issuing] at this

theorem Lands.wroteLate_of_only {u : State} (h : Lands ws r fs) (hu : OnlySlot s w u) (hl : u.landed w = s.landed w)
    (pc : W32) : WroteLate s w r fs pc (u.retire w [] ws pc) := by
  refine ⟨?_, ?_, hu.trans (.retire _ w _ _ _)⟩
  · rw [Machine.slot_retire, List.append_nil, ← hl]
    rfl
  · rw [← hl]
    exact (Lands.nil.landed_retire h pc).regs_congr fun p => Option.or_none

/-- An instruction of distance 2. -/
theorem Lands.wroteLate (h : Lands ws r fs) (pc : W32) : WroteLate s w r fs pc ((s.issuing w).retire w [] ws pc) :=
  h.wroteLate_of_only (.issuing s w) (landed_issuing s w) pc

/-! ### Holds -/

theorem slot_endHold (s : State) (w : SlotId) (ws : List PWrite) : (s.endHold w ws).slot w =
    { s.slot w with
      held := none, late := []
      ctx := (landList ((s.slot w).late ++ ws) ((s.slot w).ctx, s.free)).1 } := by
  have hall : (s.landAll w).slot w =
      { s.slot w with late := [], ctx := (landList (s.slot w).late ((s.slot w).ctx, s.free)).1 } := by
    rw [State.landAll, State.slot_setSlot_same, slot_land]
  rw [State.endHold, State.slot_setSlot_same, slot_land, hall, landList_append]
  rfl

/-- The end of a hold that awaits nothing. -/
theorem exec_holdComplete {h : Hold} (hh : (s.slot w).held = some h) (hp : h.poisoned = false) (hs : h.submit = none)
    (hw : NoWaits s w) : exec (.holdComplete w) s = .next (s.endHold w h.writes) := by
  show execHoldComplete w s = _
  unfold NoWaits at hw
  unfold execHoldComplete
  simp only [hh, hw, hp, hs, Bool.false_eq_true, if_false]

@[simp] theorem slot_hold (s : State) (w : SlotId) (ws : List PWrite) (submit : Option UnitReq)
    (addr : Option (W32 × Nat)) (cluster : Bool) (pc : W32) : (s.hold w ws submit addr cluster pc).slot w =
      { s.slot w with
        held := some { writes := ws, submit := submit, addr := addr, poisoned := false, cluster := cluster }
        ctx := { (s.slot w).ctx with pc := pc } } :=
  State.slot_setSlot_same s w _

theorem landed_hold (s : State) (w : SlotId) (ws : List PWrite) (submit : Option UnitReq) (addr : Option (W32 × Nat))
    (cluster : Bool) (pc : W32) : (s.hold w ws submit addr cluster pc).landed w = { s.landed w with pc := pc } := by
  unfold State.landed
  rw [slot_hold]
  exact congrArg Prod.fst (landList_atPc _ _ _ pc)

/-- What the end of a hold leaves in the thread. -/
theorem ctx_endHold (s : State) (w : SlotId) (ws : List PWrite) :
    ∃ n, ((s.endHold w ws).slot w).ctx = (landList ws (s.landed w, n)).1 := by
  refine ⟨(landList (s.slot w).late ((s.slot w).ctx, s.free)).2, ?_⟩
  rw [slot_endHold, landList_append]
  rfl

/-- An access that holds writes its results at the end of the hold. -/
theorem Lands.holdsThen {u : State} (h : Lands ws r fs) (hl : u.landed w = s.landed w) (hw : NoWaits u w)
    (addr : Option (W32 × Nat)) (cluster : Bool) (pc : W32) :
    HoldsThen s w r fs pc (u.hold w ws none addr cluster pc) := by
  refine ⟨by rw [slot_hold]; rfl, .next (exec_holdComplete (by rw [slot_hold]) rfl rfl hw) ⟨?_, by rw [slot_endHold]⟩⟩
  obtain ⟨n, hn⟩ := ctx_endHold (u.hold w ws none addr cluster pc) w ws
  have hb := landed_hold u w ws none addr cluster pc
  obtain ⟨hr, hf, hy⟩ := (h ((u.hold w ws none addr cluster pc).landed w) n).2
  rw [hn]
  rw [hb, hl] at hr hf hy ⊢
  exact ⟨hr, hf, hy⟩

end

/-! ### Traps and access faults -/

/-- The vectors but the window traps report a status the spec gives (Table 7-12). -/
theorem trapStatus_eq (s : State) {vec : Nat} (h3 : vec ≠ 3) (h4 : vec ≠ 4) (st : Status) :
    ∃ st' : Status, s.trapStatus vec st = (st'.code, s) := by
  unfold State.trapStatus
  rw [if_neg (by omega)]
  split
  · exact ⟨_, rfl⟩
  · exact ⟨_, rfl⟩

theorem status_code_lt (st : Status) : st.code < 256 := by cases st <;> decide

theorem slot_landAll (s : State) (w : SlotId) : (s.landAll w).slot w = { s.slot w with late := [], ctx := s.landed w } := by
  rw [State.landAll, State.slot_setSlot_same, slot_land]
  rfl

section
variable {s : State} {w : SlotId}

/-- Outside T a trap lands what is pending and enters T at its vector (R210, R217, R235). -/
theorem trap_eq (hT : (s.slot w).ctx.inT = false) {vec : Nat} (h3 : vec ≠ 3) (h4 : vec ≠ 4) (st : Status) (pc : W32) :
    ∃ st' : Status, s.trap w vec st pc = (s.landAll w).setSlot w
      { s.slot w with
        late := []
        ctx := { ((s.landed w).setPreg 62 pc).setPreg 63 (w32 (st'.code + vec * 0x100)) with
          inT := true, pc := w32 (vec * 16) }
        winsel := (s.landed w).win, saveWait := false, shadow := none } := by
  obtain ⟨st', hst⟩ := trapStatus_eq (s.landAll w) h3 h4 st
  refine ⟨st', ?_⟩
  unfold State.trap
  dsimp only
  rw [hst, slot_landAll]
  dsimp only
  rw [if_neg (by rw [landed_inT, hT]; decide)]
  rfl

theorem trapped_trap (hT : (s.slot w).ctx.inT = false) {vec : Nat} (h3 : vec ≠ 3) (h4 : vec ≠ 4) (hvec : vec < 256)
    (st : Status) (pc : W32) : Trapped s w vec pc (s.trap w vec st pc) := by
  obtain ⟨st', h⟩ := trap_eq hT h3 h4 st pc
  have hcode := status_code_lt st'
  have hslot := State.slot_setSlot_same (s.landAll w) w
  unfold Trapped
  rw [h, hslot]
  have hreg : ∀ p, Ctx.preg { ((s.landed w).setPreg 62 pc).setPreg 63 (w32 (st'.code + vec * 0x100)) with
      inT := true, pc := w32 (vec * 16) } p =
        if p = 63 then w32 (st'.code + vec * 0x100) else if p = 62 then pc else (s.landed w).preg p := fun p =>
    (Ctx.preg_setPreg _ 63 p _).trans (congrArg (fun v => if p = 63 then _ else v) (Ctx.preg_setPreg _ 62 p _))
  refine ⟨rfl, rfl, ?_, ?_, rfl, fun p h62 h63 => ?_, rfl, (OnlySlot.landAll s w).trans (.setSlot _ w _)⟩
  · rw [hreg]; rfl
  · rw [hreg, if_pos rfl, bits_w32 _ _ _ (by decide)]
    omega
  · rw [hreg, if_neg h63, if_neg h62]

/-- The words of an access fault: vector 2 is entered from the pc, and the fault ports hold the address, the pc, KIND, the
direction and the space (Table 6-8). -/
def Faulted (s : State) (w : SlotId) (kind space : Nat) (store : Bool) (a : W32) (t : State) : Prop :=
  Trapped s w 2 (s.slot w).ctx.pc t ∧ (t.slot w).faultAddr = a ∧ (t.slot w).faultPc = (s.slot w).ctx.pc ∧
    bits (t.slot w).faultInfo 10 8 = kind ∧ bit (t.slot w).faultInfo 11 = store ∧
      bits (t.slot w).faultInfo 13 12 = space

theorem b2n_cases (b : Bool) : b2n b = 0 ∧ b = false ∨ b2n b = 1 ∧ b = true := by cases b <;> decide

/-- FAULT_INFO of an access fault. -/
theorem faultInfo_fields (st : Status) {kind space : Nat} (hk : kind < 8) (hs : space < 4) (size : Nat) (store : Bool) :
    let info := w32 (st.code + kind * 0x100 + b2n store * 0x800 + space * 0x1000 + size * 0x4000)
    bits info 10 8 = kind ∧ bit info 11 = store ∧ bits info 13 12 = space := by
  intro info
  have hcode := status_code_lt st
  rw [bits_w32 _ _ _ (by decide), bits_w32 _ _ _ (by decide), bit_w32 _ _ (by decide)]
  rcases b2n_cases store with ⟨h, rfl⟩ | ⟨h, rfl⟩ <;> rw [h]
  · exact ⟨by omega, decide_eq_false (by omega), by omega⟩
  · exact ⟨by omega, decide_eq_true (by omega), by omega⟩

theorem pc_and_mask {pc : W32} (h : pc.toNat < 0x8000) : pc &&& 0x7FFF#32 = pc := by
  refine BitVec.eq_of_toNat_eq ?_
  rw [BitVec.toNat_and]
  exact (Nat.and_two_pow_sub_one_eq_mod pc.toNat 15).trans (Nat.mod_eq_of_lt h)

/-- Outside T an access that is refused enters vector 2 and records its fault (R174, R175). -/
theorem Issues.faulted (h : Issues s w) (hT : (s.slot w).ctx.inT = false) {kind space : Nat} (hk : kind < 8) (hs : space < 4)
    (size : Nat) (store : Bool) (a : W32) :
    Faulted s w kind space store a ((s.issuing w).accessFault w kind space size store a (s.slot w).issued.ctx.pc) := by
  obtain ⟨-, -, -, -, hpc⟩ := h
  unfold State.accessFault
  extract_lets st info x
  set u := (s.issuing w).setSlot w
    { x with faultAddr := a, faultInfo := info, faultPc := (s.slot w).issued.ctx.pc &&& 0x7FFF#32 } with hu
  have hslot : u.slot w = { (s.slot w).issued with
      faultAddr := a, faultInfo := info, faultPc := (s.slot w).ctx.pc &&& 0x7FFF#32 } := by
    rw [hu, State.slot_setSlot_same]
    simp only [x, slot_issuing]
    rfl
  have hT' : (u.slot w).ctx.inT = false := by rw [hslot]; exact hT
  have hl : u.landed w = s.landed w := State.landed_congr (by rw [hslot]; rfl) (by rw [hslot]; rfl) rfl
  have honly : OnlySlot s w u := (OnlySlot.issuing s w).trans (.setSlot _ w _)
  obtain ⟨tT, tpc, t62, t63, twin, tregs, tlate, tonly⟩ :=
    trapped_trap hT' (vec := 2) (by decide) (by decide) (by decide) st (s.slot w).issued.ctx.pc
  obtain ⟨st', heq⟩ := trap_eq hT' (vec := 2) (by decide) (by decide) st (s.slot w).issued.ctx.pc
  obtain ⟨ikind, istore, ispace⟩ := faultInfo_fields st hk hs size store
  rw [hl] at twin tregs
  refine ⟨⟨tT, tpc, t62, t63, twin, tregs, tlate, honly.trans tonly⟩, ?_⟩
  rw [heq, State.slot_setSlot_same, hslot]
  exact ⟨rfl, pc_and_mask hpc, ikind, istore, ispace⟩

end

end Sys2Proof.Machine
end

section
/-! SUPPORT. The fault kinds of an access (Tables 6-4 and 6-8): each check gives a kind of three bits, and none reads a slot's
thread but through WINSEL's rule. -/

namespace Sys2Proof.Machine

section
variable (s : State) (w : SlotId)

theorem sharedKind_le (o : Nat) (load store : Bool) : s.sharedKind w o load store ≤ 3 := by
  unfold State.sharedKind State.sramKind
  grind

theorem statusKind_le (st : Status) : statusKind st ≤ 3 := by cases st <;> decide

theorem byteKind_le (a : Nat) (load store : Bool) : s.byteKind w a load store ≤ 3 := by
  have h1 := sharedKind_le s w (a - 0x10000000) load store
  have h2 := sharedKind_le s w (a - 0x18000000) load store
  have h3 := statusKind_le (s.dramCheck (s.winAddr w a).1 (s.winAddr w a).2 1 load (slotWarden w))
  unfold State.byteKind
  grind

theorem lowerKind_le {a b n : Nat} (ha : a ≤ n) (hb : b ≤ n) : lowerKind a b ≤ n := by
  unfold lowerKind
  grind

theorem endsKind_le (a n : Nat) (load store : Bool) : s.endsKind w a n load store ≤ 3 := by
  unfold State.endsKind
  extract_lets k p
  split
  · exact statusKind_le _
  · exact lowerKind_le (byteKind_le s w _ _ _) (byteKind_le s w _ _ _)

theorem accessKind_le (a n : Nat) (load store : Bool) : s.accessKind w a n load store ≤ 4 := by
  have hends := endsKind_le s w a n load store
  exact lowerKind_le (by omega) (by split <;> omega)

theorem amoKind_le (a n : Nat) : s.amoKind w a n ≤ 4 := by
  unfold State.amoKind
  split
  · exact accessKind_le s w a n true true
  · omega

theorem ioWordKind_le (x : Slot) (a : Nat) : s.ioWordKind w x a ≤ 6 := by
  unfold State.ioWordKind
  grind

theorem ioKind_le (x : Slot) (a : Nat) : s.ioKind w x a ≤ 6 :=
  lowerKind_le (lowerKind_le (ioWordKind_le s w x _) (ioWordKind_le s w x _)) (by split <;> omega)

/-! ### The checks of a slot that issues -/

@[simp] theorem ioKind_issuing (a : Nat) : (s.issuing w).ioKind w (s.slot w).issued a = s.ioKind w (s.slot w) a := rfl

end

end Sys2Proof.Machine
end

section
/-! SUPPORT. An access whose check gives a fault kind, instruction by instruction (section 6.6, R174, R175, R200, R201). -/

namespace Sys2Proof.Machine

section
variable {s : State} {w : SlotId} (h : Issues s w) (hT : (s.slot w).ctx.inT = false)
include h hT

/-- An instruction of a slot that issues and ends in an access fault. -/
theorem Completes.faults {c : Instr} {ok : Bool} {f : Slot → State → State} {kind space size : Nat} {store : Bool} {a : W32}
    (hx : exec c s = s.issue w ok f) (hok : ok = true) (hk : kind < 8) (hs : space < 4)
    (hf : f (s.slot w).issued (s.issuing w) =
      (s.issuing w).accessFault w kind space size store a (s.slot w).issued.ctx.pc) :
    Completes c s (Faulted s w kind space store a) :=
  .issues_to h hx hok hf (h.faulted hT hk hs size store a)

theorem Completes.ild_faults {rd ra : RegCode} {imm : BitVec 16} (hok : (regOk rd && regOk ra) = true) {a : W32}
    (ha : (s.slot w).ctx.rd ra + simm imm = a) (hbad : a.toNat % 4 ≠ 0 ∨ 0x7FFC < a.toNat) :
    Completes (.ild w rd ra imm) s (Faulted s w 4 0 false a) := by
  subst ha
  exact .faults h hT (show exec _ s = execIld w rd ra imm s from rfl) hok (by decide) (by decide) (if_pos hbad)

variable {k : Nat} (hk : k ≠ 0)
include hk

/-- A load, LD or LDS, whose check gives a kind. -/
theorem Completes.load_faults {c : Instr} {ok signed : Bool} {rd rb : RegCode} {mode size : BitVec 2} {imm : BitVec 12}
    (hx : exec c s = s.loadIns w ok rd rb mode size imm signed) (hok : ok = true) {a : W32}
    (ha : (s.slot w).ctx.ea rb mode (2 ^ size.toNat) imm = a)
    (hkind : s.accessKind w a.toNat (2 ^ size.toNat) true false = k) :
    Completes c s (Faulted s w k 1 false a) := by
  subst hkind ha
  exact .faults h hT hx hok (Nat.lt_of_le_of_lt (accessKind_le s w _ _ _ _) (by decide)) (by decide) (if_pos hk)

theorem Completes.store_faults {rd rb : RegCode} {mode size : BitVec 2} {imm : BitVec 12}
    (hok : memOk rd rb mode size imm = true) {a : W32} (ha : (s.slot w).ctx.ea rb mode (2 ^ size.toNat) imm = a)
    (hkind : s.accessKind w a.toNat (2 ^ size.toNat) false true = k) :
    Completes (.st w rd rb mode size imm) s (Faulted s w k 1 true a) := by
  subst hkind ha
  exact .faults h hT (show exec _ s = s.storeIns w _ rd rb mode size imm from rfl) hok
    (Nat.lt_of_le_of_lt (accessKind_le s w _ _ _ _) (by decide)) (by decide) (if_pos hk)

/-- An atomic operation on 4 or 8 bytes. -/
theorem Completes.amo_faults {c : Instr} {func size : Nat} {rd rb ra : RegCode}
    (hx : exec c s = s.amoIns w func rd rb ra size) (hok : amoOk func rd rb ra size = true) (hsize : size < 2) {a : W32}
    (ha : (s.slot w).ctx.rd rb = a) (hkind : s.amoKind w a.toNat (4 * 2 ^ size) = k) :
    Completes c s (Faulted s w k 1 true a) := by
  subst hkind ha
  refine .faults h hT hx hok (Nat.lt_of_le_of_lt (amoKind_le s w _ _) (by decide)) (by decide) (size := size + 2)
    ((if_pos hk).trans ?_)
  rw [State.amoSize, if_pos hsize]
  rfl

/-- IN or INX of a port that the check refuses. -/
theorem Completes.in_faults {c : Instr} {ok : Bool} {rd : RegCode} {a : W32} {addr : Ctx → W32}
    (hx : exec c s = s.issue w ok (fun x t => t.ioIn w x rd (addr x.ctx))) (hok : ok = true)
    (ha : addr (s.slot w).ctx = a) (hkind : s.ioKind w (s.slot w) a.toNat = k) :
    Completes c s (Faulted s w k 2 false a) := by
  subst hkind ha
  exact .faults h hT hx hok (Nat.lt_of_le_of_lt (ioKind_le s w _ _) (by decide)) (by decide) (if_pos hk)

theorem Completes.out_faults {c : Instr} {ok : Bool} {v addr : Ctx → W32} {a : W32}
    (hx : exec c s = s.issue w ok (fun x t => t.ioOut w x (v x.ctx) (addr x.ctx))) (hok : ok = true)
    (ha : addr (s.slot w).ctx = a) (hkind : s.ioKind w (s.slot w) a.toNat = k) :
    Completes c s (Faulted s w k 2 true a) := by
  subst hkind ha
  exact .faults h hT hx hok (Nat.lt_of_le_of_lt (ioKind_le s w _ _) (by decide)) (by decide) (if_pos hk)

end

end Sys2Proof.Machine
end

section
/-! PROOFS. O26: the access faults put together. -/

namespace Sys2Proof.Machine

/-- Settles O26: each access whose check gives a kind enters vector 2 with its fault recorded, and moves no byte. -/
theorem accessFaultsEnterVectorTwo : Obligations.AccessFaultsEnterVectorTwo := by
  unfold Obligations.AccessFaultsEnterVectorTwo
  intro s w h hT x faulted
  refine ⟨?_, ?_, ?_, ?_⟩
  · intro rd rb mode size imm hok a
    refine ⟨fun k hkind hk => ⟨.load_faults h hT hk rfl hok rfl hkind, fun hsize => ?_⟩,
      fun k hkind hk => .store_faults h hT hk hok rfl hkind⟩
    have hlds : (memOk rd rb mode size imm && decide (size ≠ 3#2)) = true := by rw [hok, decide_eq_true hsize]; rfl
    exact .load_faults h hT hk rfl hlds rfl hkind
  · intro rd rb ra size hok k hkind hk
    have hsize : size.toNat < 2 := by
      unfold amoOk atomicSized at hok
      simp at hok
      omega
    exact .amo_faults h hT hk rfl hok hsize rfl hkind
  · intro rd ra imm hrd hra a
    have hregs : (regOk rd && regOk ra) = true := by rw [hrd, hra]; rfl
    exact ⟨fun hbad => .ild_faults h hT hregs rfl hbad, fun k hkind hk =>
      ⟨.in_faults (addr := fun x => x.rd ra + simm imm) h hT hk rfl hregs rfl hkind,
        .out_faults (v := fun x => x.rd rd) (addr := fun x => x.rd ra + simm imm) h hT hk rfl hregs rfl hkind⟩⟩
  · intro r word hr k hkind hk
    have ha : (w32 (word.toNat * 4)).toNat = word.toNat * 4 := by
      have := word.isLt
      exact Nat.mod_eq_of_lt (by omega)
    rw [← ha] at hkind
    exact ⟨.in_faults (addr := fun _ => w32 (word.toNat * 4)) h hT hk rfl hr rfl hkind,
      .out_faults (v := fun x => x.rd r) (addr := fun _ => w32 (word.toNat * 4)) h hT hk rfl hr rfl hkind⟩

end Sys2Proof.Machine
end

section
/-! SUPPORT. Reads of registers use no free value (assumption 6): every read answers a view or a record. -/

namespace Sys2Proof.Machine

section
variable (s : State) (ag : Agent) (a : Nat)

@[simp] theorem free_refuseReg (st : Status) : (s.refuseReg ag a st).free = s.free := by
  unfold State.refuseReg
  split <;> simp

@[simp] theorem free_readPlain : (s.readPlain ag a).free = s.free := by
  have hclears : (s.readClears ag a).free = s.free := by
    unfold State.readClears
    split
    · dsimp only; split <;> rfl
    · rfl
  have hlatches : ∀ u : State, (u.readLatches ag a).free = u.free := fun u => by
    unfold State.readLatches State.setLatch
    grind
  unfold State.readPlain
  dsimp only
  rw [State.free_answer, hlatches]
  split
  · rfl
  · exact hclears

theorem landed_next (t : State) : landed s (.next t) = t := rfl

theorem free_execTspop (p : Fin 9) : (landed s (execTspop ag p s)).free = s.free := by
  unfold execTspop
  split
  · rw [landed_next, State.free_refuse]
  · rw [landed_next, State.free_answer, State.free_setReg, State.free_setReg, State.free_setReg, State.free_setPort]

theorem free_execCapturePop (n : Fin 16) : (landed s (execCapturePop ag n s)).free = s.free := by
  unfold execCapturePop
  split
  · rw [landed_next, State.free_refuse]
  · rw [landed_next, State.free_answer, State.free_setReg, State.free_setReg]
    rfl

theorem free_execShiftRxPop (n : Fin 24) : (landed s (execShiftRxPop ag n s)).free = s.free := by
  unfold execShiftRxPop State.shfAccess
  split
  · exact State.free_refuse s _ _ _
  split
  · exact State.free_refuse s _ _ _
  · dsimp only [landed]
    split <;> rfl

theorem free_blockRead : (s.blockRead ag a).free = s.free := by
  unfold State.blockRead
  simp only [apply_ite State.free, free_refuseReg, free_readPlain, free_execTspop, free_execCapturePop, free_execShiftRxPop,
    ite_self]

theorem free_windowRead (t o : Nat) : (s.windowRead t o).free = s.free := by
  unfold State.windowRead
  simp only [apply_ite State.free, free_readPlain, State.free_answer, ite_self]

theorem free_readReg : (s.readReg ag a).free = s.free := by
  unfold State.readReg
  simp only [apply_ite State.free, free_refuseReg, free_readPlain, free_windowRead, free_blockRead, State.free_answer, ite_self]

end

end Sys2Proof.Machine
end

section
/-! SUPPORT. IN and OUT at a slot that issues (section 6.7, Tables 6-5 and 8-2, R180, R201, R226, R227): the core-local ports
and the mirror of the block registers. -/

namespace Sys2Proof.Machine

/-! ### The check -/

/-- A core-local port that the slot has passes the check (Tables 6-5 and 6-8, R226). -/
theorem ioKind_port {s : State} {w : SlotId} {x : Slot} {a : Nat} (h4 : a % 4 = 0) (hlt : a < 0x100000)
    (hport : (commonPort a || (flightPort a && !slotWarden w)) = true) (hwin : (windowPort a && !x.ctx.inT) = false) :
    s.ioKind w x a = 0 := by
  have hword : s.ioWordKind w x a = 0 := by
    unfold State.ioWordKind
    rw [if_neg (by omega), if_pos hlt, if_pos hport, hwin]
    rfl
  unfold State.ioKind
  rw [show a / 4 * 4 = a by omega, show (a + 3) % 0x100000000 / 4 * 4 = a by omega, hword, if_neg (by omega)]
  rfl

/-- A lock core has the ports of its flight and of the helper cluster. -/
theorem flightPort_reached {w : SlotId} (hw : w.val < 512) {a : Nat} (ha : flightPort a = true) :
    (commonPort a || (flightPort a && !slotWarden w)) = true := by
  rw [ha, slotWarden, decide_eq_false (Nat.not_le.mpr hw)]
  simp

section
variable {s : State} {w : SlotId}

/-! ### Reads -/

theorem ioDone_thread {u : State} {x : Slot} (h : (u.slot w).thread = x.thread) (d1 d2 : List PWrite) :
    u.ioDone w x d1 d2 = u.retire w d1 d2 x.next :=
  if_neg (not_not_intro h)

/-- A read of a core-local port. -/
theorem ioIn_port {a : W32} (hk : s.ioKind w (s.slot w) a.toNat = 0) (hlt : a.toNat < 0x100000) {v : W32}
    (hv : (s.issuing w).localIn w (s.slot w).issued a.toNat = (v, s.issuing w)) (r : RegCode) :
    WroteLate s w (oneReg (s.slot w).ctx r v) { ostat := some 0 } ((s.slot w).ctx.pc + 4#32)
      ((s.issuing w).ioIn w (s.slot w).issued r a) := by
  have hdone : (s.issuing w).ioIn w (s.slot w).issued r a = (s.issuing w).retire w []
      ((s.slot w).ctx.dst r v ++ [ostatWrite .ok]) ((s.slot w).ctx.pc + 4#32) := by
    unfold State.ioIn
    dsimp only
    rw [ioKind_issuing, if_neg (not_not_intro hk), if_pos hlt, hv]
    exact ioDone_thread (by rw [slot_issuing]) _ _
  rw [hdone]
  exact (Lands.dstOstat _ r v .ok).wroteLate _

/-- A read through the mirror holds and delivers the register's answer with its status (R180). -/
theorem ioIn_mirror {a : W32} (hk : s.ioKind w (s.slot w) a.toNat = 0) (hlo : 0x100000 ≤ a.toNat) (hhi : a.toNat < 0x270000)
    {u : State} (hu : ((s.issuing w).status .ok).readReg (slotAgent w) (a.toNat - 0x100000) = u)
    (hheld : (s.slot w).held = none) (hslot : u.slot w = (s.slot w).issued) (hw : NoWaits u w) (r : RegCode) :
    let t := (s.issuing w).ioIn w (s.slot w).issued r a
    t.regs = u.regs ∧ HoldsThen s w (oneReg (s.slot w).ctx r (lo32 u.reply.value))
      { ostat := some u.reply.status.code } ((s.slot w).ctx.pc + 4#32) t := by
  have hfree : u.free = s.free := by rw [← hu, free_readReg]; rfl
  have hhold : (s.issuing w).ioIn w (s.slot w).issued r a = u.hold w
      ((s.slot w).ctx.dst r (lo32 u.reply.value) ++ [ostatWrite u.reply.status]) none none false
        ((s.slot w).ctx.pc + 4#32) := by
    unfold State.ioIn ioReg
    dsimp only
    rw [ioKind_issuing, if_neg (not_not_intro hk), if_neg (Nat.not_lt.mpr hlo), if_pos hhi, hu, State.ioHold, hslot]
    exact (if_neg (not_not_intro rfl)).trans (if_neg (by rw [show (s.slot w).issued.held = none from hheld]; decide))
  rw [hhold]
  exact ⟨rfl, (Lands.dstOstat _ r _ _).holdsThen (State.landed_congr (by rw [hslot]; rfl) (by rw [hslot]; rfl) hfree) hw
    _ _ _⟩

/-! ### Writes -/

/-- A write of a core-local port that only sets a port of the slot. -/
theorem ioOut_port {a : W32} (hk : s.ioKind w (s.slot w) a.toNat = 0) (hlt : a.toNat < 0x100000) {v : W32} {z : Slot}
    (hv : (s.issuing w).localOut w (s.slot w).issued a.toNat v = (.ok, (s.issuing w).setSlot w z))
    (hwinp : winpWrite (s.slot w).issued a.toNat v = []) (hthread : z.thread = (s.slot w).thread)
    (hctx : z.ctx = (s.slot w).ctx) (hlate : z.late = (s.slot w).late) {P : Slot → Prop}
    (hP : ∀ x l, P { z with ctx := x, late := l }) :
    let t := (s.issuing w).ioOut w (s.slot w).issued v a
    P (t.slot w) ∧ (t.slot w).ctx.pc = (s.slot w).ctx.pc + 4#32 ∧ bits (t.landed w).flags 15 8 = 0 ∧ OnlySlot s w t := by
  have hslot := State.slot_setSlot_same (s.issuing w) w z
  have hdone : (s.issuing w).ioOut w (s.slot w).issued v a =
      ((s.issuing w).setSlot w z).retire w [] [ostatWrite .ok] ((s.slot w).ctx.pc + 4#32) := by
    unfold State.ioOut
    dsimp only
    rw [ioKind_issuing, if_neg (not_not_intro hk), if_pos hlt, hv, hwinp]
    exact ioDone_thread (by rw [hslot]; exact hthread) _ _
  have honly : OnlySlot s w ((s.issuing w).setSlot w z) := (OnlySlot.issuing s w).trans (.setSlot _ w z)
  obtain ⟨-, ⟨-, hflags, -⟩, hall⟩ := (Lands.ostat .ok).wroteLate_of_only honly
    (State.landed_congr (by rw [hslot, hctx]) (by rw [hslot, hlate]) rfl) ((s.slot w).ctx.pc + 4#32)
  obtain ⟨-, -, -, -, -, hostat⟩ := hflags
  rw [hdone]
  refine ⟨?_, by rw [slot_retire], hostat, hall⟩
  rw [slot_retire, hslot]
  exact hP _ _

/-- A write through the mirror comes after every posted store, holds and delivers its status (R169, R180). -/
theorem ioOut_mirror {a : W32} (hk : s.ioKind w (s.slot w) a.toNat = 0) (hlo : 0x100000 ≤ a.toNat) (hhi : a.toNat < 0x270000)
    {v : W32} {u : State}
    (hu : (((s.issuing w).drain w).status .ok).writeReg (slotAgent w) (a.toNat - 0x100000) v = u)
    (hthread : (u.slot w).thread = (s.slot w).thread) (hheld : (u.slot w).held = none) (hl : u.landed w = s.landed w)
    (hw : NoWaits u w) :
    let t := (s.issuing w).ioOut w (s.slot w).issued v a
    t.regs = u.regs ∧ t.mem = u.mem ∧ HoldsThen s w noReg { ostat := some u.reply.status.code }
      ((s.slot w).ctx.pc + 4#32) t := by
  have hhold : (s.issuing w).ioOut w (s.slot w).issued v a =
      u.hold w [ostatWrite u.reply.status] none none false ((s.slot w).ctx.pc + 4#32) := by
    unfold State.ioOut ioReg
    dsimp only
    rw [ioKind_issuing, if_neg (not_not_intro hk), if_neg (Nat.not_lt.mpr hlo), if_pos hhi, hu, State.ioHold]
    exact (if_neg (not_not_intro hthread)).trans (if_neg (by rw [hheld]; decide))
  rw [hhold]
  exact ⟨rfl, rfl, (Lands.ostat _).holdsThen hl hw _ _ _⟩

end

end Sys2Proof.Machine
end

section
/-! PROOFS. O27: the ports and the mirror put together. -/

namespace Sys2Proof.Machine

section
variable {s : State} {w : SlotId} (h : Issues s w) {r ra : RegCode} {imm : BitVec 16} {word : BitVec 21} {a : Nat}
  (hr : regOk r = true) (hra : regOk ra = true) (hword : word.toNat * 4 = a)
  (haddr : ((s.slot w).ctx.rd ra + imm.signExtend 32).toNat = a)
include h hr hra hword haddr

/-- IN and INX of one address do the same. -/
theorem Completes.ins {P : State → Prop} (hp : P ((s.issuing w).ioIn w (s.slot w).issued r (w32 a))) :
    Completes (.inIo w r word) s P ∧ Completes (.inx w r ra imm) s P := by
  have hx : (s.slot w).ctx.rd ra + simm imm = w32 a := by
    rw [w32, ← haddr, BitVec.ofNat_toNat, BitVec.setWidth_eq]
    rfl
  refine ⟨.issues h (f := fun x t => t.ioIn w x r (w32 (word.toNat * 4))) rfl hr (by rw [hword]; exact hp),
    .issues h (f := fun x t => t.ioIn w x r (x.ctx.rd ra + simm imm)) rfl (by rw [hr, hra]; rfl) ?_⟩
  rw [← hx] at hp
  exact hp

/-- OUT and OUTX of one address do the same. -/
theorem Completes.outs {P : State → Prop}
    (hp : P ((s.issuing w).ioOut w (s.slot w).issued ((s.slot w).ctx.rd r) (w32 a))) :
    Completes (.outIo w r word) s P ∧ Completes (.outx w r ra imm) s P := by
  have hx : (s.slot w).ctx.rd ra + simm imm = w32 a := by
    rw [w32, ← haddr, BitVec.ofNat_toNat, BitVec.setWidth_eq]
    rfl
  refine ⟨.issues h (f := fun x t => t.ioOut w x (x.ctx.rd r) (w32 (word.toNat * 4))) rfl hr (by rw [hword]; exact hp),
    .issues h (f := fun x t => t.ioOut w x (x.ctx.rd r) (x.ctx.rd ra + simm imm)) rfl (by rw [hr, hra]; rfl) ?_⟩
  rw [← hx] at hp
  exact hp

end

/-- An IO address as a word. -/
theorem toNat_w32_of_lt {a : Nat} (h : a < 0x270000) : (w32 a).toNat = a := Nat.mod_eq_of_lt (by omega)

/-- Settles O27: the core-local ports answer from the slot, and the mirror performs the register access. -/
theorem portInstructionsReachTheirPort : Obligations.PortInstructionsReachTheirPort := by
  unfold Obligations.PortInstructionsReachTheirPort
  intro s w r ra imm word a h hr hra hword haddr y x pc ins outs reads writes v
  have hreads : ∀ (p : Nat) (val : W32), p < 0x100000 → p % 4 = 0 → windowPort p = false →
      (commonPort p || (flightPort p && !slotWarden w)) = true →
        (s.issuing w).localIn w (s.slot w).issued p = (val, s.issuing w) → a = p → reads val := by
    intro p val hlt h4 hwin hport hval hap
    subst hap
    have hn := toNat_w32_of_lt (a := a) (by omega)
    exact Completes.ins h hr hra hword haddr (ioIn_port (by rw [hn]; exact ioKind_port h4 hlt hport (by rw [hwin]; rfl))
      (by rw [hn]; exact hlt) (by rw [hn]; exact hval) r)
  have hwrites : ∀ (p : Nat) (P : Slot → Prop) (z : Slot), p < 0x100000 → p % 4 = 0 → (windowPort p && !x.inT) = false →
      (commonPort p || (flightPort p && !slotWarden w)) = true →
        (s.issuing w).localOut w (s.slot w).issued p v = (.ok, (s.issuing w).setSlot w z) →
          winpWrite (s.slot w).issued p v = [] → z.thread = y.thread → z.ctx = x → z.late = y.late →
            (∀ c l, P { z with ctx := c, late := l }) → a = p → writes P := by
    intro p P z hlt h4 hwin hport hval hwinp hthread hctx hlate hP hap
    subst hap
    have hn := toNat_w32_of_lt (a := a) (by omega)
    exact Completes.outs h hr hra hword haddr (ioOut_port (by rw [hn]; exact ioKind_port h4 hlt hport hwin)
      (by rw [hn]; exact hlt) (by rw [hn]; exact hval) (by rw [hn]; exact hwinp) hthread hctx hlate hP)
  have hslot := slot_issuing s w
  refine ⟨?_, ?_, ?_, ?_, ?_, ?_, ?_, ?_, ?_, ?_, ?_, ?_, ?_, ?_, ?_⟩
  · intro i hi ha
    interval_cases i
    · exact hreads 0x100 _ (by decide) (by decide) (by decide) rfl rfl ha
    · exact hreads 0x104 _ (by decide) (by decide) (by decide) rfl rfl ha
    · exact hreads 0x108 _ (by decide) (by decide) (by decide) rfl rfl ha
    · exact hreads 0x10C _ (by decide) (by decide) (by decide) rfl rfl ha
  · exact hreads 0x110 _ (by decide) (by decide) (by decide) rfl rfl
  · exact hreads 0x114 _ (by decide) (by decide) (by decide) rfl rfl
  · exact hreads 0x200 _ (by decide) (by decide) (by decide) rfl rfl
  · exact hreads 0x404 _ (by decide) (by decide) (by decide) rfl rfl
  · exact hreads 0x510 _ (by decide) (by decide) (by decide) rfl rfl
  · exact hreads 0x520 _ (by decide) (by decide) (by decide) rfl rfl
  · exact hreads 0x524 _ (by decide) (by decide) (by decide) rfl rfl
  · exact hreads 0x528 _ (by decide) (by decide) (by decide) rfl rfl
  · exact fun ha hw => hreads 0x304 _ (by decide) (by decide) (by decide) (flightPort_reached hw rfl) rfl ha
  · exact fun ha hw => hreads 0x308 _ (by decide) (by decide) (by decide) (flightPort_reached hw rfl) rfl ha
  · exact hwrites 0x120 (fun z => z.waitTmo = v) { y.issued with waitTmo := v } (by decide) (by decide) (by rfl) rfl (by
      rw [← hslot]; rfl) rfl rfl rfl rfl fun _ _ => rfl
  · intro ha hv
    refine hwrites 0x404 (fun z => z.rngTmo = BitVec.ofNat 32 (bits v 15 0)) { y.issued with rngTmo := BitVec.ofNat 32 (bits v 15 0) } (by decide) (by decide) (by rfl) rfl ?_
      rfl rfl rfl rfl (fun _ _ => rfl) ha
    rw [← hslot]
    exact if_neg hv
  · intro ha hT
    refine hwrites 0x280 (fun z => z.winsel = BitVec.ofNat 2 v.toNat) { y.issued with winsel := BitVec.ofNat 2 (bits v 1 0) } (by decide) (by decide)
      (by rw [hT]; rfl) rfl (by rw [← hslot]; rfl) rfl rfl rfl rfl (fun _ _ => ?_) ha
    refine BitVec.eq_of_toNat_eq ?_
    simp [bits]
  · intro hlo hhi hk
    have hn := toNat_w32_of_lt (a := a) hhi
    obtain ⟨-, hidle, -⟩ := id h
    refine ⟨?_, ?_⟩
    · intro u hslot hw
      exact Completes.ins h hr hra hword haddr (ioIn_mirror (by rw [hn]; exact hk) (by rw [hn]; exact hlo) (by rw [hn]; exact hhi)
        (by rw [hn]; rfl) hidle hslot hw r)
    · intro u hthread hheld hctx hlate hfree hw
      exact Completes.outs h hr hra hword haddr (ioOut_mirror (by rw [hn]; exact hk) (by rw [hn]; exact hlo) (by rw [hn]; exact hhi)
        (by rw [hn]; rfl) hthread hheld (State.landed_congr hctx hlate hfree) hw)

end Sys2Proof.Machine
end

section
/-! SUPPORT. Bytes, words and ranges of memory: what is written reads back (R4), in shared SRAM with its watch slots (R58,
R449) and in a DRAM channel (R410, R425). -/

namespace Sys2Proof.Machine

/-! ### Bytes and words -/

@[simp] theorem length_readBytes (s : State) (k n : Nat) : (s.readBytes k n).length = n := by
  rw [State.readBytes, List.length_map, length_rangeFrom]

theorem readBytes_congr {s t : State} (h : t.mem = s.mem) (k n : Nat) : t.readBytes k n = s.readBytes k n :=
  List.map_congr_left fun j _ => readByte_congr h j

theorem readLE_congr {s t : State} (h : t.mem = s.mem) (k n : Nat) : t.readLE k n = s.readLE k n :=
  congrArg leNat (readBytes_congr h k n)

/-- Bytes that are written read back. -/
theorem readBytes_writeBytes (s : State) (k : Nat) (bs : List Byte) : (s.writeBytes k bs).readBytes k bs.length = bs := by
  refine List.ext_getElem (by simp) fun i h1 h2 => ?_
  simp only [State.readBytes, rangeFrom_eq_range', List.getElem_map, List.getElem_range', Nat.one_mul]
  exact State.readByte_writeBytes_in s k i bs h2

theorem two_pow_bytes (n : Nat) : 256 ^ n = 2 ^ (8 * n) := by rw [Nat.pow_mul]

/-- A number that is written reads back in its bytes. -/
theorem readLE_writeBytes (s : State) (k n v : Nat) : (s.writeBytes k (leBytes n v)).readLE k n = v % 2 ^ (8 * n) := by
  have h := readBytes_writeBytes s k (leBytes n v)
  rw [length_leBytes] at h
  rw [State.readLE, h, leNat_leBytes, two_pow_bytes]

theorem getElem_leBytes (n v i : Nat) (h : i < (leBytes n v).length) : (leBytes n v)[i] = BitVec.ofNat 8 (v / 256 ^ i) := by
  induction n generalizing v i with
  | zero => exact absurd h (by simp [leBytes])
  | succ n ih =>
    cases i with
    | zero => simp [leBytes]
    | succ i =>
      refine (ih (v / 256) i (by simpa [leBytes] using h)).trans ?_
      rw [Nat.div_div_eq_div_mul, Nat.pow_succ']

theorem SameMemoryBut.refl (s : State) (k n : Nat) : SameMemoryBut s s k n := fun _ _ => rfl

theorem SameMemoryBut.writeBytes (s : State) (k : Nat) (bs : List Byte) :
    SameMemoryBut s (s.writeBytes k bs) k bs.length := fun j hj => State.readByte_writeBytes_out s k j bs hj

theorem SameMemoryBut.congr {s t s' t' : State} {k n : Nat} (h : SameMemoryBut s t k n) (hs : s'.mem = s.mem)
    (ht : t'.mem = t.mem) : SameMemoryBut s' t' k n := fun j hj =>
  (readByte_congr ht j).trans ((h j hj).trans (readByte_congr hs j).symm)

/-! ### Stores to shared SRAM -/

/-- `t` differs from `s` at most in what events and the watch slots touch. -/
def WatchFrame (s t : State) : Prop :=
  t = { s with regs := t.regs, ctr := t.ctr, lk := t.lk, evr := t.evr, msix := t.msix, sau := t.sau, once := t.once }

section
variable {s t u : State}

theorem WatchFrame.mem (h : WatchFrame s t) : t.mem = s.mem := by rw [h]
theorem WatchFrame.slots (h : WatchFrame s t) : t.slots = s.slots := by rw [h]
theorem WatchFrame.brg (h : WatchFrame s t) : t.brg = s.brg := by rw [h]
theorem WatchFrame.sec (h : WatchFrame s t) : t.sec = s.sec := by rw [h]
theorem WatchFrame.free (h : WatchFrame s t) : t.free = s.free := by rw [h]

theorem WatchFrame.refl (s : State) : WatchFrame s s := rfl

theorem WatchFrame.trans (h : WatchFrame s t) (k : WatchFrame t u) : WatchFrame s u := by
  unfold WatchFrame at *
  rw [h] at k
  exact k

theorem EventFrame.watch (h : EventFrame s t) : WatchFrame s t := by
  unfold WatchFrame
  rw [h]

theorem WatchFrame.postOr {later : State → State} (hl : ∀ v, WatchFrame v (later v)) (s : State) (g : Nat) (v : W32)
    (st : Status) : WatchFrame s (s.postOr g v st later) := by
  have hp := (frame_post s g v st).watch
  unfold State.postOr
  split <;> rename_i h <;> rw [h] at hp
  · exact hp.trans (hl _)
  · exact hp

theorem WatchFrame.watchFire (s : State) (n : Nat) (v : W32) : WatchFrame s (s.watchFire n v) := by
  unfold State.watchFire
  extract_lets c f s1 s2
  have h1 : WatchFrame s s1 :=
    (((EventFrame.setReg s _ _).trans (.setReg _ _ _)).trans (.count _ _)).watch
  have h2 : WatchFrame s s2 := by
    unfold s2
    split
    · refine h1.trans ?_
      apply WatchFrame.postOr
      exact fun _ => rfl
    · exact h1
  split
  · exact h2.trans (frame_raise _ _).watch
  · exact h2

theorem WatchFrame.watchChange (tgt old new : W32) (ws : List Nat) (s : State) :
    WatchFrame s (watchChange tgt old new ws s) := by
  induction ws generalizing s with
  | nil => exact .refl s
  | cons n ws ih =>
    refine WatchFrame.trans ?_ (ih _)
    split
    · exact .watchFire s n new
    · exact .refl s

theorem WatchFrame.watchWords (ws : List Nat) (l : List (Nat × W32)) (s : State) : WatchFrame s (watchWords ws l s) := by
  induction l generalizing s with
  | nil => exact .refl s
  | cons p l ih => exact (WatchFrame.watchChange _ _ _ ws s).trans (ih _)

/-- Outside a loading lock a store to shared SRAM writes its bytes, and may fire watch slots. -/
theorem WatchFrame.sramWrite {o : Nat} {bs : List Byte} (h : s.sramLocked o bs.length = false) :
    WatchFrame (s.writeBytes (kShared + o) bs) (s.sramWrite o bs) := by
  unfold State.sramWrite
  extract_lets ws s1 words
  rw [if_neg (by rw [h]; decide)]
  split
  · exact .refl _
  · exact .watchWords _ _ _

/-- Every store to shared SRAM leaves the slots alone. -/
theorem slots_sramWrite (s : State) (o : Nat) (bs : List Byte) : (s.sramWrite o bs).slots = s.slots := by
  cases h : s.sramLocked o bs.length with
  | false => exact (WatchFrame.sramWrite h).slots
  | true =>
    unfold State.sramWrite
    extract_lets ws s1 words
    rw [if_pos h]

end

/-! ### Accesses to DRAM -/

/-- `t` differs from `s` at most in what events and the DRAM queues touch. -/
def DramFrame (s t : State) : Prop :=
  t = { s with regs := t.regs, ctr := t.ctr, lk := t.lk, evr := t.evr, msix := t.msix, drc := t.drc, once := t.once }

section
variable {s t u : State}

theorem DramFrame.mem (h : DramFrame s t) : t.mem = s.mem := by rw [h]
theorem DramFrame.slots (h : DramFrame s t) : t.slots = s.slots := by rw [h]
theorem DramFrame.brg (h : DramFrame s t) : t.brg = s.brg := by rw [h]
theorem DramFrame.sec (h : DramFrame s t) : t.sec = s.sec := by rw [h]
theorem DramFrame.free (h : DramFrame s t) : t.free = s.free := by rw [h]

theorem DramFrame.trans (h : DramFrame s t) (k : DramFrame t u) : DramFrame s u := by
  unfold DramFrame at *
  rw [h] at k
  exact k

theorem EventFrame.dram (h : EventFrame s t) : DramFrame s t := by
  unfold DramFrame
  rw [h]

theorem DramFrame.touchLine (s : State) (k : Nat) (write : Bool) : DramFrame s (s.touchLine k write) := by
  unfold State.touchLine
  split <;> rfl

theorem DramFrame.dramEnter (s : State) (x : Nat) (ag : Agent) (cls c n : Nat) (write locked : Bool) :
    DramFrame s (s.dramEnter x ag cls c n write locked) := by
  unfold State.dramEnter
  extract_lets r h
  split
  · rfl
  · exact DramFrame.trans (t := (s.setCh x { h with waiting := h.waiting ++ [r] }).count (drcCtr x 7)) rfl
      (frame_raiseFirst _ _).dram

theorem DramFrame.dramAccess (s : State) (x : Nat) (ag : Agent) (c n : Nat) (write locked : Bool) :
    DramFrame s (s.dramAccess x ag c n write locked) := by
  unfold State.dramAccess
  split
  · exact .touchLine s _ _
  · exact .dramEnter s _ _ _ _ _ _ _

end

section
variable {s t : State} {x : Nat}

/-- A key depends on the channel's losses and its size only. -/
theorem dramKey_congr (he : (t.ch x).epoch = (s.ch x).epoch) (hs : t.rankSize x = s.rankSize x) (c : Nat) :
    t.dramKey x c = s.dramKey x c := by
  unfold State.dramKey State.segOf
  rw [he, hs]

theorem rankSize_congr (h8 : t.fld (A.drcStat x) 8 6 = s.fld (A.drcStat x) 8 6)
    (h5 : t.fld (A.drcStat x) 5 5 = s.fld (A.drcStat x) 5 5) : t.rankSize x = s.rankSize x := by
  unfold State.rankSize
  rw [h8, h5]

theorem evrKey_drcStat (hx : x < 2) : ¬ evrKey (A.drcStat x) := by
  unfold evrKey A.drcStat
  omega

/-- A request that enters a channel moves no byte of it. -/
theorem dramKey_dramEnter (hx : x < 2) (ag : Agent) (cls c n : Nat) (write locked : Bool) (k : Nat) :
    (s.dramEnter x ag cls c n write locked).dramKey x k = s.dramKey x k := by
  unfold State.dramEnter
  extract_lets r h
  split
  · have he : ∀ (d : DramCh) (v : Nat), (((s.setCh x d).setFld (A.drcStat x) 22 16 v).ch x) = d := fun d v =>
      State.ch_setCh_same s x d
    refine dramKey_congr (by rw [he]) (rankSize_congr ?_ ?_) k
    all_goals
      rw [State.fld, State.reg_setFld_same, bits_setBits_apart _ _ _ _ _ _ (by decide) (by decide)]
      rfl
  · set v := (s.setCh x { h with waiting := h.waiting ++ [r] }).count (drcCtr x 7) with hv
    have hf := frame_raiseFirst v (drcEvent x 12)
    have hr : (v.raiseFirst (drcEvent x 12)).reg (A.drcStat x) = s.reg (A.drcStat x) :=
      State.reg_raiseFirst v (by unfold drcEvent; omega) (evrKey_drcStat hx)
    have hd : v.ch x = { h with waiting := h.waiting ++ [r] } := State.ch_setCh_same s x _
    have hc : (v.raiseFirst (drcEvent x 12)).ch x = v.ch x := by
      unfold State.ch
      rw [hf.drc]
    refine dramKey_congr (by rw [hc, hd]) (rankSize_congr ?_ ?_) k
    all_goals rw [State.fld, State.fld, hr]

/-! ### Bytes of a channel -/

/-- Writes of consecutive bytes to keys that differ: another key reads as before. -/
theorem get_foldl_set_out (key : Nat → Nat) (bs : List Byte) (m : List Host.Cell) (lo : Nat) {j : Nat}
    (hj : ∀ i, i < bs.length → key (lo + i) ≠ j) :
    SMap.get memDefault (((rangeFrom bs.length lo).zip bs).foldl
      (fun m (p : Nat × Byte) => SMap.set memDefault m (key p.1) p.2) m) j = SMap.get memDefault m j := by
  induction bs generalizing m lo with
  | nil => rfl
  | cons b bs ih =>
    rw [List.length_cons, rangeFrom, List.zip_cons_cons, List.foldl_cons, ih _ (lo + 1) fun i hi => ?_]
    · exact SMap.get_set_ne _ _ _ fun h => hj 0 (by simp) (by rw [h]; rfl)
    · rw [Nat.add_assoc, Nat.add_comm 1 i]
      exact hj (i + 1) (by simpa using hi)

theorem get_foldl_set_in (key : Nat → Nat) (bs : List Byte) (m : List Host.Cell) (lo i : Nat) (hi : i < bs.length)
    (hinj : ∀ a b, a < bs.length → b < bs.length → key (lo + a) = key (lo + b) → a = b) :
    SMap.get memDefault (((rangeFrom bs.length lo).zip bs).foldl
      (fun m (p : Nat × Byte) => SMap.set memDefault m (key p.1) p.2) m) (key (lo + i)) = bs[i] := by
  induction bs generalizing m lo i with
  | nil => exact absurd hi (by simp)
  | cons b bs ih =>
    rw [List.length_cons, rangeFrom, List.zip_cons_cons, List.foldl_cons]
    cases i with
    | zero =>
      rw [get_foldl_set_out key bs _ (lo + 1) fun a ha h => ?_]
      · exact SMap.get_set_same _ _ _ _
      · rw [Nat.add_assoc, Nat.add_comm 1 a] at h
        exact absurd (hinj (a + 1) 0 (by simpa using ha) (by simp) h) (by simp)
    | succ i =>
      rw [show lo + (i + 1) = lo + 1 + i by omega]
      refine ih _ (lo + 1) i (by simpa using hi) fun a c ha hc h => ?_
      rw [Nat.add_assoc, Nat.add_assoc, Nat.add_comm 1 a, Nat.add_comm 1 c] at h
      exact Nat.succ.inj (hinj (a + 1) (c + 1) (by simpa using ha) (by simpa using hc) h)

/-- Different bytes of an access have different keys, whatever their segments have lost. -/
theorem dramKey_inj {c i j : Nat} (hi : i < 0x1000000000000) (hj : j < 0x1000000000000)
    (h : s.dramKey x (c + i) = s.dramKey x (c + j)) : i = j := by
  unfold State.dramKey at h
  omega

theorem reg_dramWrite (c : Nat) (bs : List Byte) (a : Nat) : (s.dramWrite x c bs).reg a = s.reg a := rfl

/-- Bytes stored in a channel move no key of it. -/
theorem dramKey_dramWrite (c : Nat) (bs : List Byte) (k : Nat) : (s.dramWrite x c bs).dramKey x k = s.dramKey x k := by
  refine dramKey_congr ?_ (rankSize_congr ?_ ?_) k
  · rw [State.dramWrite, State.ch_setCh_same]
    rfl
  all_goals rw [State.fld, reg_dramWrite, State.fld]

/-- A number stored in a channel reads back in its bytes. -/
theorem leNat_dramRead_dramWrite (c : Nat) {n : Nat} (hn : n < 0x1000000000000) (v : Nat) :
    leNat ((s.dramWrite x c (leBytes n v)).dramRead x c n) = v % 2 ^ (8 * n) := by
  have hread : (s.dramWrite x c (leBytes n v)).dramRead x c n = leBytes n v := by
    refine List.ext_getElem (by simp [State.dramRead]) fun i h1 h2 => ?_
    have hi : i < n := by simpa using h2
    simp only [State.dramRead, rangeFrom_eq_range', List.getElem_map, List.getElem_range', Nat.one_mul, dramKey_dramWrite]
    have h := get_foldl_set_in (fun i => s.dramKey x (c + i)) (leBytes n v) s.mem 0 i h2 fun a b ha hb h => by
      rw [length_leBytes] at ha hb
      rw [Nat.zero_add, Nat.zero_add] at h
      exact dramKey_inj (by omega) (by omega) h
    rw [Nat.zero_add] at h
    exact h
  rw [hread, leNat_leBytes, two_pow_bytes]

end

end Sys2Proof.Machine
end

section
/-! SUPPORT. Posted stores (section 6.5, R137, R164 to R169): performing one leaves every slot alone, and after a drain a slot
has none. -/

namespace Sys2Proof.Machine

/-! ### A stomp leaves the slots alone -/

section
variable (s : State)

@[simp] theorem slots_checkFinish : s.checkFinish.slots = s.slots := by
  obtain ⟨r, h, -⟩ := checkFinish_eq s
  rw [h]

@[simp] theorem slots_endFrame (k : Nat) : (s.endFrame k).slots = s.slots := by
  rw [State.endFrame, State.slots_matching, slots_checkFinish]
  rfl

theorem BesideFlight.slots {s t : State} (h : BesideFlight s t) : t.slots = s.slots := by rw [h.eq]

@[simp] theorem slots_recordFrame (k : Nat) (f : Frame) (reason detail point : Nat) (ag : Agent) (dcode : Nat) :
    (s.recordFrame k f reason detail point ag dcode).slots = s.slots := by
  unfold State.recordFrame State.logDrop
  extract_lets n cells a bs
  split
  · rfl
  · rw [State.slots_setReg, State.slots_writeBytes]

@[simp] theorem slots_egSettle (e : Nat) : (s.egSettle e).slots = s.slots := by
  unfold State.egSettle
  split
  · rfl
  next x _ =>
    split
    · have hfree : (if x.owned then s.freeBuf x.buf else s).slots = s.slots := by
        split
        · exact (BesideFlight.freeBuf s _).slots
        · rfl
      extract_lets s1 s2
      split
      · exact hfree
      · split <;> exact hfree
    · rfl

@[simp] theorem slots_dropUnsent (e : Nat) : (s.dropUnsent e).slots = s.slots := by
  unfold State.dropUnsent
  split
  · rfl
  next x _ =>
    extract_lets s1
    rw [slots_egSettle, State.slots_setEg]
    exact unqueued_keeps State.slots (fun _ _ _ => rfl) s x e

theorem slots_tryLeave (k : Nat) : (s.tryLeave k).slots = s.slots := by
  unfold State.tryLeave
  split
  · rfl
  next f _ =>
    split
    · extract_lets s1 s2
      have h1 : s1.slots = s.slots := (BesideFlight.learned s f).slots
      rw [slots_endFrame]
      unfold s2
      split
      · split <;> exact h1
      · exact h1
    · rfl

theorem slots_stomp (k detail point : Nat) (ag : Agent) (dcode : Nat) :
    (s.stomp k detail point ag dcode false).slots = s.slots := by
  unfold State.stomp
  split
  · rfl
  next f _ =>
    dsimp only
    rw [slots_checkFinish, slots_tryLeave, if_neg Bool.false_ne_true]
    split
    · rfl
    · split
      · rw [slots_dropUnsent, State.slots_setFrame, State.slots_count, State.slots_count, slots_recordFrame]
      · rw [State.slots_setFrame, State.slots_count, State.slots_count, slots_recordFrame]

/-! ### Performed stores -/

@[simp] theorem slots_dramWrite (x c : Nat) (bs : List Byte) : (s.dramWrite x c bs).slots = s.slots := rfl

theorem slots_performStore (ag : Agent) (p : PStore) : (s.performStore ag p).slots = s.slots := by
  unfold State.performStore
  split
  · split
    · split
      · exact slots_stomp s _ _ _ _ _
      · rfl
    · rfl
  · split
    · exact slots_sramWrite s _ _
    · split
      · rw [slots_dramWrite]
        exact (DramFrame.dramAccess s _ _ _ _ _ _).slots
      · rfl

theorem slots_performAll (ag : Agent) (l : List PStore) : (performAll ag l s).slots = s.slots := by
  induction l generalizing s with
  | nil => rfl
  | cons p l ih => exact (ih _).trans (slots_performStore s ag p)

theorem slot_congr {s t : State} (h : t.slots = s.slots) (j : Nat) : t.slot j = s.slot j := by
  rw [State.slot, State.slot, h]

/-- After a drain a slot has no store left, and is as before otherwise. -/
theorem slot_drain (w : SlotId) : (s.drain w).slot w = { s.slot w with stores := [] } := by
  rw [State.drain, slot_congr (slots_performAll _ _ _) w, State.slot_setSlot_same]

end

section
variable {s : State} {w : SlotId}

/-- A store to shared SRAM outside a loading lock puts its bytes there and moves nothing else (R166). -/
theorem performStore_shared {p : PStore} (hlo : kShared ≤ p.key) (hhi : p.key + p.bytes.length ≤ kShared + 0x400000)
    (hlock : s.sramLocked (p.key - kShared) p.bytes.length = false) (ag : Agent) :
    (s.performStore ag p).mem = (s.writeBytes p.key p.bytes).mem := by
  have hbasin : ¬ (kBasin ≤ p.key ∧ p.key < kBasin + 0x600000) := by
    unfold kShared at hhi; unfold kBasin; omega
  have hdram : ¬ (kDramCh 0 ≤ p.key ∧ p.key < kDramCh 2) := by
    unfold kShared at hhi; unfold kDramCh; omega
  unfold State.performStore
  rw [if_neg hbasin, if_neg hdram]
  split
  · rw [(WatchFrame.sramWrite hlock).mem, show kShared + (p.key - kShared) = p.key by omega]
  · rfl

theorem SameMemoryBut.of_mem {t : State} {k : Nat} {bs : List Byte} (h : t.mem = (s.writeBytes k bs).mem) :
    SameMemoryBut s t k bs.length := (SameMemoryBut.writeBytes s k bs).congr rfl h

/-- POSTED_STORE_PERFORMED of a store that no earlier one of its target precedes (R166, R168). -/
theorem exec_postedStorePerformed {k : Fin 4} {p : PStore} (hp : (s.slot w).stores[k.val]? = some p)
    (hfirst : ∀ q ∈ (s.slot w).stores.take k, storeTarget q ≠ storeTarget p) :
    exec (.postedStorePerformed w k) s = .next ((s.setSlot w
      { s.slot w with stores := (s.slot w).stores.eraseIdx k }).performStore (slotAgent w) p) := by
  have hany : ((s.slot w).stores.take k).any (fun q => decide (storeTarget q = storeTarget p)) = false := by
    rw [List.any_eq_false]
    exact fun q hq => by simpa using hfirst q hq
  show execPostedStorePerformed w k s = _
  unfold execPostedStorePerformed
  simp only [hp, hany, Bool.false_eq_true, if_false]

theorem Completes.postedStore {k : Fin 4} {p : PStore} (hp : (s.slot w).stores[k.val]? = some p)
    (hfirst : ∀ q ∈ (s.slot w).stores.take k, storeTarget q ≠ storeTarget p)
    (hlo : kShared ≤ p.key) (hhi : p.key + p.bytes.length ≤ kShared + 0x400000)
    (hlock : s.sramLocked (p.key - kShared) p.bytes.length = false) :
    Completes (.postedStorePerformed w k) s (fun t =>
      (t.slot w).stores = (s.slot w).stores.eraseIdx k ∧ (t.slot w).ctx = (s.slot w).ctx ∧
        (∀ i (h : i < p.bytes.length), t.readByte (p.key + i) = p.bytes[i]) ∧
          SameMemoryBut s t p.key p.bytes.length) := by
  set u := s.setSlot w { s.slot w with stores := (s.slot w).stores.eraseIdx k } with hu
  have hmem : (u.performStore (slotAgent w) p).mem = (u.writeBytes p.key p.bytes).mem :=
    performStore_shared (s := u) hlo hhi hlock _
  have hslot : (u.performStore (slotAgent w) p).slot w = { s.slot w with stores := (s.slot w).stores.eraseIdx k } :=
    (slot_congr (slots_performStore u _ p) w).trans (State.slot_setSlot_same s w _)
  refine .next (exec_postedStorePerformed hp hfirst) ⟨by rw [← hu, hslot], by rw [← hu, hslot], fun i h => ?_, .of_mem hmem⟩
  exact (readByte_congr hmem _).trans (State.readByte_writeBytes_in u _ i _ h)

end

end Sys2Proof.Machine
end

section
/-! SUPPORT. Numbers in several registers (R184): the registers of a pair or a quad, and what landing a number in them
leaves. -/

namespace Sys2Proof.Machine

/-- The registers that a number written to `n` registers from a code sets, the lowest word first. -/
def multiReg (x : Ctx) : RegCode → Nat → Nat → Nat → Option W32
  | _, 0, _, _ => none
  | c, n + 1, v, p => (multiReg x (c + 1#5) n (v / 0x100000000) p).or (oneReg x c (w32 v) p)

theorem Lands.dstMulti (x : Ctx) (c : RegCode) (n v : Nat) : Lands (x.dstMulti c n v) (multiReg x c n v) {} := by
  induction n generalizing c v with
  | zero => exact Lands.nil
  | succ n ih => exact (Lands.dst x c (w32 v)).append (ih _ _)

/-- A pair is written low word first (R184). -/
theorem multiReg_pair (x : Ctx) (c : RegCode) (v p : Nat) :
    multiReg x c 2 v p = pairReg x c (BitVec.ofNat 32 v) (BitVec.ofNat 32 (v / 2 ^ 32)) p := by
  simp only [multiReg, Option.none_or, oneReg, pairReg, w32, Nat.reducePow]
  split <;> rfl

theorem windowReg_inj {n a b : Nat} (hn : n < 4) (ha : a < 16) (hb : b < 16) (h : windowReg n a = windowReg n b) : a = b := by
  unfold windowReg at h
  split_ifs at h <;> omega

/-- Two codes that name one register are one code (Table 7-2). -/
theorem Ctx.phys_inj {x : Ctx} {a b p : Nat} (ha : x.phys a = some p) (hb : x.phys b = some p) : a = b := by
  have hwin := x.win.isLt
  have hrange : ∀ k, k < 16 → windowReg x.win.toNat k < 48 := fun k hk => by
    unfold windowReg
    split
    · omega
    · split <;> omega
  unfold Ctx.phys at ha hb
  by_cases h1 : a < 16
  · by_cases h2 : b < 16
    · rw [if_pos h1] at ha
      rw [if_pos h2] at hb
      have h := Option.some.inj (ha.trans hb.symm)
      cases hT : x.inT with
      | true => simp only [hT, if_true] at h; omega
      | false =>
        simp only [hT, Bool.false_eq_true, if_false] at h
        exact windowReg_inj hwin h1 h2 h
    · rw [if_pos h1] at ha
      rw [if_neg h2] at hb
      have := hrange a h1
      split at hb
      · cases hb
      · have h := Option.some.inj (ha.trans hb.symm)
        split at h <;> omega
  · rw [if_neg h1] at ha
    split at ha
    · cases ha
    by_cases h2 : b < 16
    · rw [if_pos h2] at hb
      have := hrange b h2
      have h := Option.some.inj (ha.trans hb.symm)
      split at h <;> omega
    · rw [if_neg h2] at hb
      split at hb
      · cases hb
      have h := Option.some.inj (ha.trans hb.symm)
      omega

/-- The code of register `j` of a pair or quad. -/
theorem code_add_succ (c : RegCode) (j : Nat) : c + BitVec.ofNat 5 (j + 1) = c + 1#5 + BitVec.ofNat 5 j := by
  rw [BitVec.add_assoc, Nat.add_comm j 1, BitVec.ofNat_add]

theorem code_toNat {c : RegCode} {n j : Nat} (h : multiOk c n = true) (hn : n = 1 ∨ n = 2 ∨ n = 4) (hj : j < n) :
    (c + BitVec.ofNat 5 j).toNat = c.toNat + j := by
  unfold multiOk regOk at h
  simp only [Bool.and_eq_true, decide_eq_true_eq] at h
  rw [BitVec.toNat_add, BitVec.toNat_ofNat]
  rcases hn with rfl | rfl | rfl <;> omega

/-- A register that no code of the run names is not written. -/
theorem multiReg_none {x : Ctx} {c : RegCode} {n p : Nat} (v : Nat)
    (h : ∀ j, j < n → x.phys (c + BitVec.ofNat 5 j).toNat ≠ some p) : multiReg x c n v p = none := by
  induction n generalizing c v with
  | zero => rfl
  | succ n ih =>
    have h0 : oneReg x c (w32 v) p = none := if_neg (by simpa using h 0 (by omega))
    rw [multiReg, h0, ih _ fun j hj => by rw [← code_add_succ]; exact h (j + 1) (by omega)]
    rfl

/-- The register that code `j` names gets word `j` of the number, where no other code names it. -/
theorem multiReg_some {x : Ctx} {c : RegCode} {n p : Nat} (v : Nat) {j : Nat} (hj : j < n)
    (hp : x.phys (c + BitVec.ofNat 5 j).toNat = some p)
    (hinj : ∀ i, i < n → x.phys (c + BitVec.ofNat 5 i).toNat = some p → i = j) :
    multiReg x c n v p = some (BitVec.ofNat 32 (v / 2 ^ (32 * j))) := by
  induction n generalizing c v j with
  | zero => omega
  | succ n ih =>
    cases j with
    | zero =>
      have h0 : x.phys c.toNat = some p := by simpa using hp
      rw [multiReg, multiReg_none _ fun i hi h => ?_, oneReg, if_pos h0]
      · simp [w32]
      · rw [← code_add_succ] at h
        exact absurd (hinj (i + 1) (by omega) h) (by omega)
    | succ j =>
      rw [code_add_succ] at hp
      have hrest := ih (v / 0x100000000) (by omega) hp fun i hi h => by
        rw [← code_add_succ] at h
        exact Nat.succ.inj (hinj (i + 1) (by omega) h)
      rw [multiReg, hrest, Option.some_or, Nat.div_div_eq_div_mul, Nat.mul_succ, Nat.add_comm (32 * j),
        Nat.pow_add 2 32]

end Sys2Proof.Machine
end

section
/-! SUPPORT. The atomic operations (R200, R411, R451, Table 7-8): the new value of each, and what performing one leaves at its
word. -/

namespace Sys2Proof.Machine

/-! ### New values -/

/-- Equal signed readings have equal low bits. -/
theorem mod_eq_of_sextNat_eq {n a b : Nat} (h : sextNat n a = sextNat n b) : a % 2 ^ n = b % 2 ^ n := by
  have ha := Nat.mod_lt a (Nat.two_pow_pos n)
  have hb := Nat.mod_lt b (Nat.two_pow_pos n)
  unfold sextNat at h
  split at h <;> split at h <;> omega

section
variable (n m x c : Nat)

theorem atomicNew_min : atomicNew 3 n m x c = if sextNat n m ≤ sextNat n x then m else x := by
  change (if sextNat n x < sextNat n m then x else m) = _
  by_cases hlt : sextNat n x < sextNat n m
  · rw [if_pos hlt, if_neg (by omega)]
  · rw [if_neg hlt, if_pos (by omega)]

theorem atomicNew_max : atomicNew 4 n m x c % 2 ^ n = (if sextNat n m ≤ sextNat n x then x else m) % 2 ^ n := by
  change (if sextNat n m < sextNat n x then x else m) % 2 ^ n = _
  by_cases hlt : sextNat n m < sextNat n x
  · rw [if_pos hlt, if_pos hlt.le]
  · rw [if_neg hlt]
    split
    · exact mod_eq_of_sextNat_eq (by omega)
    · rfl

theorem atomicNew_add : atomicNew 0 n m x c % 2 ^ n = (m + x) % 2 ^ n := Nat.mod_mod _ _

theorem atomicNew_wadd : atomicNew 7 n m x c % 2 ^ n = (m + x) % 2 ^ n := Nat.mod_mod _ _

end

/-! ### The word of an atomic operation -/

/-- The number that slot `w` finds at a word of shared SRAM or of the DRAM window. -/
def State.amoWord (s : State) (w : SlotId) (a n : Nat) : Nat :=
  if a < 0x40000000 then s.readLE (kShared + (a - 0x10000000)) n
  else leNat (s.dramRead (s.winAddr w a).1 (s.winAddr w a).2 n)

/-- What an atomic operation leaves. -/
structure AmoDone (s : State) (w : SlotId) (a n new : Nat) (t : State) : Prop where
  word : (if a < 0x40000000 then t.readLE (kShared + (a - 0x10000000)) n
    else leNat (t.dramRead (s.winAddr w a).1 (s.winAddr w a).2 n)) = new % 2 ^ (8 * n)
  slots : t.slots = s.slots
  brg : t.brg = s.brg
  sec : t.sec = s.sec
  free : t.free = s.free

section
variable {s : State} {w : SlotId} {a n : Nat}

theorem amoAct_old (func x c : Nat) : (s.amoAct w a func n x c).1 = s.amoWord w a n := by
  unfold State.amoAct State.amoWord
  split <;> rfl

/-- The new value stands at the word, and no slot and nothing that a hold waits for has changed. -/
theorem amoAct_done (func x c : Nat) (hn : n ≤ 16) (hlock : a < 0x40000000 → s.sramLocked (a - 0x10000000) n = false) :
    AmoDone s w a n (atomicNew func (8 * n) (s.amoWord w a n) x c) (s.amoAct w a func n x c).2 := by
  unfold State.amoAct State.amoWord
  by_cases ha : a < 0x40000000
  · simp only [if_pos ha]
    have hf : WatchFrame _ (s.sramWrite (a - 0x10000000) (leBytes n (atomicNew func (8 * n)
        (s.readLE (kShared + (a - 0x10000000)) n) x c))) := .sramWrite (by rw [length_leBytes]; exact hlock ha)
    refine ⟨?_, hf.slots, hf.brg, hf.sec, hf.free⟩
    rw [if_pos ha]
    exact (readLE_congr hf.mem _ _).trans (readLE_writeBytes s _ _ _)
  · simp only [if_neg ha]
    have hf := DramFrame.dramAccess s (s.winAddr w a).1 (slotAgent w) (s.winAddr w a).2 n true true
    refine ⟨?_, hf.slots, hf.brg, hf.sec, hf.free⟩
    rw [if_neg ha]
    exact leNat_dramRead_dramWrite _ (by omega) _

end

end Sys2Proof.Machine
end

section
/-! SUPPORT. The atomic instructions, SYNC, NOP, ILD and HOLD_COMPLETE (sections 7.6 and 8.2, R155, R169, R200, R217). -/

namespace Sys2Proof.Machine

/-- The writes of Z by CAS come after the old value and leave every register alone. -/
theorem landList_zWrite (ws : List PWrite) (p : Ctx × Nat) (z : Bool) :
    let x := (landList (ws ++ [zWrite z]) p).1
    (∀ k, x.preg k = (landList ws p).1.preg k) ∧ bit x.flags 2 = z := by
  intro x
  have hx : x = { (landList ws p).1 with
      flags := ((landList ws p).1.flags &&& ~~~4#32) ||| (w32 (4 * b2n z) &&& 4#32) } := by
    unfold x
    rw [landList_append]
    rfl
  rw [hx]
  refine ⟨fun _ => rfl, ?_⟩
  have hz : (w32 (4 * b2n z))[2] = z := by cases z <;> decide
  simp [bit, hz]

/-- What an atomic instruction completes with: the new value at its word, a hold, and at the hold's end the old value in the
registers of rd and, for CAS, Z (R200). -/
def AmoCompletes (s : State) (w : SlotId) (i : Instr) (func : Nat) (rd : RegCode) (a n new : Nat) (cmp : Nat) : Prop :=
  let x := (s.slot w).ctx
  let old := s.amoWord w a n
  Completes i s (fun t =>
    (if a < 0x40000000 then t.readLE (kShared + (a - 0x10000000)) n
      else leNat (t.dramRead (s.winAddr w a).1 (s.winAddr w a).2 n)) = new % 2 ^ (8 * n) ∧
    (t.slot w).held.isSome = true ∧
    Completes (.holdComplete w) t (fun u =>
      (∀ j, j < n / 4 → ∀ p, x.phys (rd + BitVec.ofNat 5 j).toNat = some p →
        (u.slot w).ctx.preg p = BitVec.ofNat 32 (old / 2 ^ (32 * j))) ∧
      (∀ p, (∀ j, j < n / 4 → x.phys (rd + BitVec.ofNat 5 j).toNat ≠ some p) →
        (u.slot w).ctx.preg p = (s.landed w).preg p) ∧
      (func = 2 → bit (u.slot w).ctx.flags 2 = decide (old = cmp))))

theorem size_lt_of_amoOk {func size : Nat} {rd rb ra : RegCode} (h : amoOk func rd rb ra size = true) : size < 3 := by
  unfold amoOk atomicSized at h
  simp only [Bool.and_eq_true] at h
  obtain ⟨⟨⟨-, hs⟩, -⟩, -⟩ := h
  split at hs <;> simp at hs <;> omega

theorem multiOk_of_amoOk {func size : Nat} {rd rb ra : RegCode} (h : amoOk func rd rb ra size = true) :
    multiOk rd (4 * 2 ^ size / 4) = true := by
  unfold amoOk at h
  simp only [Bool.and_eq_true] at h
  obtain ⟨⟨-, hrd⟩, -⟩ := h
  rwa [Nat.mul_div_cancel_left _ (by decide)]

/-- A hold of an old value in `n` registers, with Z for CAS, ends with them. -/
theorem amo_holdEnds {s u : State} {w : SlotId} (hl : u.landed w = s.landed w) (hw : NoWaits u w) {rd : RegCode} {n : Nat}
    (hok : multiOk rd n = true) (hn : n = 1 ∨ n = 2 ∨ n = 4) (func old cmp : Nat) (pc : W32) :
    let x := (s.slot w).ctx
    let zw := if func = 2 then [zWrite (decide (old = cmp))] else []
    Completes (.holdComplete w) (u.hold w (x.dstMulti rd n old ++ zw) none none false pc) (fun v =>
      (∀ j, j < n → ∀ p, x.phys (rd + BitVec.ofNat 5 j).toNat = some p →
        (v.slot w).ctx.preg p = BitVec.ofNat 32 (old / 2 ^ (32 * j))) ∧
      (∀ p, (∀ j, j < n → x.phys (rd + BitVec.ofNat 5 j).toNat ≠ some p) →
        (v.slot w).ctx.preg p = (s.landed w).preg p) ∧
      (func = 2 → bit (v.slot w).ctx.flags 2 = decide (old = cmp))) := by
  intro x zw
  refine .next (exec_holdComplete (by rw [slot_hold]) rfl rfl hw) ?_
  obtain ⟨k, hk⟩ := ctx_endHold (u.hold w (x.dstMulti rd n old ++ zw) none none false pc) w (x.dstMulti rd n old ++ zw)
  rw [landed_hold, hl] at hk
  set b : Ctx × Nat := ({ s.landed w with pc := pc }, k) with hb
  have hregs : ∀ p, (landList (x.dstMulti rd n old ++ zw) b).1.preg p =
      (multiReg x rd n old p).getD ((s.landed w).preg p) := by
    intro p
    obtain ⟨-, hr, -⟩ := Lands.dstMulti x rd n old { s.landed w with pc := pc } k
    refine Eq.trans ?_ (hr p)
    by_cases hf : func = 2
    · simp only [zw, if_pos hf]
      exact (landList_zWrite _ b _).1 p
    · simp only [zw, if_neg hf, List.append_nil, hb]
  refine ⟨fun j hj p hp => ?_, fun p hp => ?_, fun hf => ?_⟩
  · have hinj : ∀ i, i < n → x.phys (rd + BitVec.ofNat 5 i).toNat = some p → i = j := fun i hi h => by
      have h := Ctx.phys_inj h hp
      rw [code_toNat hok hn hi, code_toNat hok hn hj] at h
      omega
    rw [hk, hregs, multiReg_some old hj hp hinj]
    rfl
  · rw [hk, hregs, multiReg_none old hp]
    rfl
  · rw [hk]
    simp only [zw, if_pos hf]
    exact (landList_zWrite _ b _).2

section
variable {s : State} {w : SlotId} (h : Issues s w)
include h

/-- An atomic instruction of a slot without posted stores. -/
theorem Completes.amo (hst : (s.slot w).stores = []) (hnw : NoWaits s w) {i : Instr} {func size : Nat} {rd rb ra : RegCode}
    (hx : exec i s = s.amoIns w func rd rb ra size) (hok : amoOk func rd rb ra size = true) {a n : Nat}
    (ha : ((s.slot w).ctx.rd rb).toNat = a) (hn : n = 4 * 2 ^ size) (hkind : s.amoKind w a n = 0)
    (hlock : a < 0x40000000 → s.sramLocked (a - 0x10000000) n = false) {new : Nat}
    (hnew : atomicNew func (8 * n) (s.amoWord w a n) ((s.slot w).ctx.rdMulti ra (n / 4))
      ((s.slot w).ctx.rdMulti rd (n / 4)) % 2 ^ (8 * n) = new % 2 ^ (8 * n)) :
    AmoCompletes s w i func rd a n new ((s.slot w).ctx.rdMulti rd (n / 4)) := by
  subst ha hn
  have hsize := size_lt_of_amoOk hok
  have hregs := multiOk_of_amoOk hok
  have hcount : 4 * 2 ^ size / 4 = 1 ∨ 4 * 2 ^ size / 4 = 2 ∨ 4 * 2 ^ size / 4 = 4 := by
    interval_cases size <;> decide
  set u := (s.issuing w).unposted w with hu
  have hdrain : (s.issuing w).drain w = u := drain_empty (by rw [slot_issuing]; exact hst)
  have huslot : u.slot w = { (s.slot w).issued with stores := [] } := by
    rw [hu, State.unposted, State.slot_setSlot_same, slot_issuing]
  have hul : u.landed w = s.landed w := State.landed_congr (by rw [huslot]; rfl) (by rw [huslot]; rfl) rfl
  have hdone := amoAct_done (s := u) (w := w) (a := ((s.slot w).ctx.rd rb).toNat) (n := 4 * 2 ^ size) func
    ((s.slot w).ctx.rdMulti ra (4 * 2 ^ size / 4)) ((s.slot w).ctx.rdMulti rd (4 * 2 ^ size / 4))
    (by interval_cases size <;> decide) hlock
  have hold := amoAct_old (s := u) (w := w) (a := ((s.slot w).ctx.rd rb).toNat) (n := 4 * 2 ^ size) func
    ((s.slot w).ctx.rdMulti ra (4 * 2 ^ size / 4)) ((s.slot w).ctx.rdMulti rd (4 * 2 ^ size / 4))
  set p := u.amoAct w ((s.slot w).ctx.rd rb).toNat func (4 * 2 ^ size)
    ((s.slot w).ctx.rdMulti ra (4 * 2 ^ size / 4)) ((s.slot w).ctx.rdMulti rd (4 * 2 ^ size / 4)) with hp
  obtain ⟨hword, hslots, hbrg, hsec, hfree⟩ := hdone
  have hpslot := slot_congr hslots w
  have hpl : p.2.landed w = s.landed w :=
    (State.landed_congr (by rw [hpslot]) (by rw [hpslot]) hfree).trans hul
  have hpw : NoWaits p.2 w := by
    unfold NoWaits State.commitWaits
    rw [hbrg, hsec]
    exact hnw
  have hstep : exec i s = .next (p.2.hold w ((s.slot w).ctx.dstMulti rd (4 * 2 ^ size / 4) p.1 ++
      (if func = 2 then [zWrite (decide (p.1 = (s.slot w).ctx.rdMulti rd (4 * 2 ^ size / 4)))] else [])) none none false
        ((s.slot w).ctx.pc + 4#32)) := by
    refine hx.trans ((h.issue hok _).trans (congrArg Host.Outcome.next ((if_neg (not_not_intro hkind)).trans ?_)))
    rw [hdrain]
    rfl
  have hnewWord := hword.trans (show _ = new % 2 ^ (8 * (4 * 2 ^ size)) from hnew)
  refine .next hstep ⟨hnewWord, by rw [slot_hold]; rfl, ?_⟩
  have hends := amo_holdEnds (n := 4 * 2 ^ size / 4) hpl hpw hregs hcount func p.1
    ((s.slot w).ctx.rdMulti rd (4 * 2 ^ size / 4)) ((s.slot w).ctx.pc + 4#32)
  rw [hold] at hends
  rw [hold]
  exact hends

theorem Completes.nop : Completes (.nop w) s (Wrote s w noReg {} ((s.slot w).ctx.pc + 4#32)) :=
  .issues h (show exec _ s = execNop w s from rfl) rfl (Lands.nil.wrote _)

/-- SYNC leaves no store posted and holds (R169). -/
theorem Completes.sync : Completes (.sync w) s (fun t => (t.slot w).stores = [] ∧ (t.slot w).held.isSome = true) := by
  refine .issues h (show exec _ s = execSync w s from rfl) rfl ?_
  rw [slot_hold, slot_drain]
  exact ⟨rfl, rfl⟩

/-- ILD reads an aligned word of I-space at distance 2 (R155). -/
theorem Completes.ild {rd ra : RegCode} {imm : BitVec 16} (hok : (regOk rd && regOk ra) = true) {a : W32}
    (ha : (s.slot w).ctx.rd ra + simm imm = a) (hal : a.toNat % 4 = 0) (hle : a.toNat ≤ 0x7FFC) :
    Completes (.ild w rd ra imm) s (WroteLate s w
      (oneReg (s.slot w).ctx rd (BitVec.ofNat 32 (s.readLE (kIram (slotCore w) + a.toNat) 4))) {}
        ((s.slot w).ctx.pc + 4#32)) := by
  subst ha
  have hgood : ¬ (((s.slot w).ctx.rd ra + simm imm).toNat % 4 ≠ 0 ∨ 0x7FFC < ((s.slot w).ctx.rd ra + simm imm).toNat) := by
    omega
  exact .issues_to h (show exec _ s = execIld w rd ra imm s from rfl) hok (if_neg hgood)
    ((Lands.dst _ rd _).wroteLate _)

end

/-- The end of a hold that awaits nothing lands all that is pending, and then the hold's writes (R217). -/
theorem Completes.holdComplete {s : State} {w : SlotId} {h : Hold} (hh : (s.slot w).held = some h)
    (hp : h.poisoned = false) (hs : h.submit = none) (hw : NoWaits s w) : Completes (.holdComplete w) s (fun t =>
      (t.slot w).ctx = (landList ((s.slot w).late ++ h.writes) ((s.slot w).ctx, s.free)).1 ∧
        (t.slot w).held = none ∧ (t.slot w).late = [] ∧ OnlySlot s w t) := by
  refine .next (exec_holdComplete hh hp hs hw) ?_
  rw [slot_endHold]
  exact ⟨rfl, rfl, rfl, .endHold s w _⟩

end Sys2Proof.Machine
end

section
/-! PROOFS. O23: the atomic operations and holds put together. -/

namespace Sys2Proof.Machine

/-- Settles O23: each atomic operation leaves its new value and returns the old one; SYNC, NOP, ILD and the end of a
hold. -/
theorem atomicsSyncAndHoldsComplete : Obligations.AtomicsSyncAndHoldsComplete := by
  unfold Obligations.AtomicsSyncAndHoldsComplete
  refine ⟨fun s w rd rb ra size h hst hnw => ?_, fun s w h => ⟨.nop h, .sync h⟩, ?_, ?_⟩
  · intro x a done sgn nb
    refine ⟨?_, ?_, ?_, ?_, ?_, ?_, ?_, ?_⟩
    · exact fun hok hkind hlock => .amo h hst hnw rfl hok rfl rfl hkind hlock (atomicNew_add _ _ _ _)
    · exact fun hok hkind hlock => .amo h hst hnw rfl hok rfl rfl hkind hlock rfl
    · exact fun hok hkind hlock => .amo h hst hnw rfl hok rfl rfl hkind hlock rfl
    · exact fun hok hkind hlock => .amo h hst hnw rfl hok rfl rfl hkind hlock (by rw [atomicNew_min]; rfl)
    · exact fun hok hkind hlock => .amo h hst hnw rfl hok rfl rfl hkind hlock (atomicNew_max _ _ _ _)
    · exact fun hok hkind hlock => .amo h hst hnw rfl hok rfl rfl hkind hlock rfl
    · exact fun hok hkind hlock => .amo h hst hnw rfl hok rfl rfl hkind hlock rfl
    · exact fun hok hkind hlock => .amo h hst hnw rfl hok rfl rfl hkind hlock (atomicNew_wadd _ _ _ _)
  · intro s w rd ra imm h hrd hra x a hal hle
    exact .ild h (by rw [hrd, hra]; rfl) rfl hal hle
  · intro s w h hh hp hs hw
    exact .holdComplete hh hp hs hw

end Sys2Proof.Machine
end

section
/-! SUPPORT. Stores and the claim words of section 15.4 (sections 6.4 and 6.5, R162, R164, R165, R445): the base that an access
writes back, and one rule for each place a store goes to. -/

namespace Sys2Proof.Machine

/-! ### The base -/

/-- The register that modes 1 and 2 write back (R162). -/
def movedBase (x : Ctx) (rb : RegCode) (mode : BitVec 2) (n : Nat) (p : Nat) : Option W32 :=
  if mode = 1#2 ∨ mode = 2#2 then
    oneReg x rb (if mode = 1#2 then x.rd rb + BitVec.ofNat 32 n else x.rd rb - BitVec.ofNat 32 n) p
  else none

theorem writeback_eq (x : Ctx) (rb : RegCode) (mode : BitVec 2) (n : Nat) : x.writeback rb mode n =
    if mode = 1#2 ∨ mode = 2#2 then
      x.dst rb (if mode = 1#2 then x.rd rb + BitVec.ofNat 32 n else x.rd rb - BitVec.ofNat 32 n)
    else [] := by
  unfold Ctx.writeback
  split
  · rfl
  · rfl
  · next h1 h2 => rw [if_neg (by rintro (h | h); exacts [h1 h, h2 h])]

theorem Lands.writeback (x : Ctx) (rb : RegCode) (mode : BitVec 2) (n : Nat) :
    Lands (x.writeback rb mode n) (movedBase x rb mode n) {} := by
  rw [writeback_eq]
  unfold movedBase
  split
  · exact .dst x rb _
  · exact .nil

/-! ### The value -/

theorem storeBytes_eq (x : Ctx) (rd : RegCode) (size : BitVec 2) : x.storeBytes rd size = leBytes (2 ^ size.toNat)
    ((x.rd rd).toNat + (if size = 3#2 then 2 ^ 32 * (x.rd (rd + 1#5)).toNat else 0)) := by
  unfold Ctx.storeBytes sizeBytes
  split <;> simp only [Ctx.rdMulti, Nat.mul_zero, Nat.add_zero, Nat.reducePow]

section
variable {s : State} {w : SlotId}

@[simp] theorem dKey_issuing (a : Nat) : (s.issuing w).dKey w a = s.dKey w a := rfl

/-! ### Stores that are posted -/

/-- A store elsewhere than to D-RAM joins the queue (R164). -/
theorem postStore_posts {a : Nat} (ha : 0x4000 ≤ a) (hlen : (s.slot w).stores.length < 4) (bs : List Byte) :
    s.postStore w a bs = s.setSlot w
      { s.slot w with stores := (s.slot w).stores ++ [{ key := s.dKey w a, bytes := bs }] } := by
  unfold State.postStore
  dsimp only
  rw [if_neg (by omega)]
  split
  · rw [if_neg (by omega)]
  · next h => rw [h]; rfl

/-- An entry leaves a full queue first (R165). -/
theorem postStore_full {a : Nat} (ha : 0x4000 ≤ a) (hlen : (s.slot w).stores.length = 4) (bs : List Byte) :
    ((s.postStore w a bs).slot w).stores = (s.slot w).stores.tail ++ [{ key := s.dKey w a, bytes := bs }] := by
  unfold State.postStore
  dsimp only
  rw [if_neg (by omega)]
  split
  · next p rest h =>
    rw [if_pos (by omega), State.slot_setSlot_same, h]
    rfl
  · next h => rw [h] at hlen; exact absurd hlen (by decide)

variable (h : Issues s w) {rd rb : RegCode} {mode size : BitVec 2} {imm : BitVec 12}
  (hok : memOk rd rb mode size imm = true) {a : W32} (ha : (s.slot w).ctx.ea rb mode (2 ^ size.toNat) imm = a)
  (hkind : s.accessKind w a.toNat (2 ^ size.toNat) false true = 0)
include h hok ha hkind

/-- An allowed store acts at its address. -/
theorem Completes.store {c : Instr} {P : State → Prop} (hx : exec c s = s.storeIns w (memOk rd rb mode size imm) rd rb mode size imm)
    (hp : P ((s.issuing w).storeAct w (s.slot w).issued rd size a ((s.slot w).ctx.writeback rb mode (2 ^ size.toNat)))) :
    Completes c s P := by
  subst ha
  exact .issues_to h hx hok (if_neg (not_not_intro hkind)) hp

/-- A store outside the claim words, with its base written at distance 1. -/
theorem Completes.plainStore {P : State → Prop} (halias : a.toNat < 0x18000000 ∨ 0x20000000 ≤ a.toNat)
    (hp : P (((s.issuing w).postStore w a.toNat ((s.slot w).ctx.storeBytes rd size)).retire w
      ((s.slot w).ctx.writeback rb mode (2 ^ size.toNat)) [] ((s.slot w).ctx.pc + 4#32))) :
    Completes (.st w rd rb mode size imm) s P :=
  .store h hok ha hkind rfl (by rw [State.storeAct, if_neg (by omega)]; exact hp)

/-- A store to D-RAM writes its bytes at once (R164). -/
theorem Completes.store_dram (hlt : a.toNat < 0x4000) {v : Nat}
    (hv : (s.slot w).ctx.storeBytes rd size = leBytes (2 ^ size.toNat) v) :
    Completes (.st w rd rb mode size imm) s (fun t =>
      CtxWrote (s.landed w) (t.slot w).ctx (movedBase (s.slot w).ctx rb mode (2 ^ size.toNat)) {}
        ((s.slot w).ctx.pc + 4#32) ∧ OnlySlotAndMemory s w t ∧
          (∀ i, i < 2 ^ size.toNat → t.readByte (kDram (slotCore w) + a.toNat + i) = BitVec.ofNat 8 (v / 256 ^ i)) ∧
            SameMemoryBut s t (kDram (slotCore w) + a.toNat) (2 ^ size.toNat)) := by
  have hkey : (s.issuing w).dKey w a.toNat = kDram (slotCore w) + a.toNat := if_pos hlt
  have hpost : (s.issuing w).postStore w a.toNat ((s.slot w).ctx.storeBytes rd size) =
      (s.issuing w).writeBytes (kDram (slotCore w) + a.toNat) (leBytes (2 ^ size.toNat) v) := by
    rw [State.postStore, hkey, if_pos hlt, hv]
  refine .plainStore h hok ha hkind (by omega) ?_
  rw [hpost]
  set u := (s.issuing w).writeBytes (kDram (slotCore w) + a.toNat) (leBytes (2 ^ size.toNat) v) with hu
  have hl : u.landed w = s.landed w := landed_issuing s w
  have hctx := (Lands.writeback (s.slot w).ctx rb mode (2 ^ size.toNat)).slot_retire (s := u) (w := w) []
    ((s.slot w).ctx.pc + 4#32)
  rw [hl] at hctx
  have hbut : SameMemoryBut s u (kDram (slotCore w) + a.toNat) (leBytes (2 ^ size.toNat) v).length :=
    (SameMemoryBut.writeBytes (s.issuing w) _ _).congr rfl rfl
  rw [length_leBytes] at hbut
  refine ⟨hctx, OnlySlotAndMemory.trans_only ⟨rfl, ?_⟩ (.retire u w _ _ _), fun i hi => ?_, hbut⟩
  · exact fun j hj => State.slot_setSlot_ne s _ hj
  · exact (State.readByte_writeBytes_in (s.issuing w) _ i _ (by rw [length_leBytes]; exact hi)).trans (getElem_leBytes _ _ _ _)

/-- A store elsewhere joins the slot's queue of posted stores; an entry leaves first when four wait (R164, R165). -/
theorem Completes.store_posted (hlo : 0x4000 ≤ a.toNat) (halias : a.toNat < 0x18000000 ∨ 0x20000000 ≤ a.toNat) {v : Nat}
    (hv : (s.slot w).ctx.storeBytes rd size = leBytes (2 ^ size.toNat) v) :
    Completes (.st w rd rb mode size imm) s (fun t =>
      ((s.slot w).stores.length < 4 → CtxWrote (s.landed w) (t.slot w).ctx
        (movedBase (s.slot w).ctx rb mode (2 ^ size.toNat)) {} ((s.slot w).ctx.pc + 4#32) ∧ OnlySlot s w t ∧
          (t.slot w).stores = (s.slot w).stores ++ [{ key := s.dKey w a.toNat, bytes := leBytes (2 ^ size.toNat) v }]) ∧
      ((s.slot w).stores.length = 4 → (t.slot w).stores = (s.slot w).stores.tail ++
        [{ key := s.dKey w a.toNat, bytes := leBytes (2 ^ size.toNat) v }])) := by
  refine .plainStore h hok ha hkind halias ?_
  rw [hv]
  have hstores : ((s.issuing w).slot w).stores = (s.slot w).stores := by rw [slot_issuing]; rfl
  refine ⟨fun hlen => ?_, fun hlen => ?_⟩
  · rw [postStore_posts hlo (by rw [hstores]; exact hlen), hstores, dKey_issuing]
    set u := (s.issuing w).setSlot w { (s.issuing w).slot w with
      stores := (s.slot w).stores ++ [{ key := s.dKey w a.toNat, bytes := leBytes (2 ^ size.toNat) v }] } with hu
    have huslot : u.slot w = { (s.slot w).issued with
        stores := (s.slot w).stores ++ [{ key := s.dKey w a.toNat, bytes := leBytes (2 ^ size.toNat) v }] } := by
      rw [hu, State.slot_setSlot_same, slot_issuing]
    have hl : u.landed w = s.landed w := State.landed_congr (by rw [huslot]; rfl) (by rw [huslot]; rfl) rfl
    have hctx := (Lands.writeback (s.slot w).ctx rb mode (2 ^ size.toNat)).slot_retire (s := u) (w := w) []
      ((s.slot w).ctx.pc + 4#32)
    rw [hl] at hctx
    refine ⟨hctx, ((OnlySlot.issuing s w).trans (.setSlot _ w _)).trans (.retire u w _ _ _), ?_⟩
    rw [slot_retire, huslot]
  · rw [slot_retire]
    dsimp only
    rw [postStore_full hlo (by rw [hstores]; exact hlen), hstores, dKey_issuing]

end

/-! ### Claims and releases (R445) -/

section
variable {s : State} {ag : Agent} {o : Nat} {v : W32} (hres : bits v 29 16 = 0) (hlock : s.sramLocked o 4 = false)
include hres hlock

/-- The word that a claim or release leaves. -/
def State.aliasWord (s : State) (ag : Agent) (o : Nat) (v : W32) : Nat :=
  let m := s.readLE (kShared + o) 4
  let mine := bits v 15 0 * 0x10000 + ag.toNat
  if bits v 31 30 = 0 ∧ m % 0x1000 = 0 then mine else if bits v 31 30 = 2 ∧ m = mine then 0 else m

omit hres in
theorem aliasStore_write {n : Nat} (hn : n < 2 ^ 32) :
    (s.sramWrite o (leBytes 4 n)).readLE (kShared + o) 4 = n ∧ SameMemoryBut s (s.sramWrite o (leBytes 4 n)) (kShared + o) 4 ∧
      (s.sramWrite o (leBytes 4 n)).slots = s.slots := by
  have hf := WatchFrame.sramWrite (s := s) (o := o) (bs := leBytes 4 n) (by rw [length_leBytes]; exact hlock)
  have hbut := SameMemoryBut.of_mem hf.mem
  rw [length_leBytes] at hbut
  refine ⟨?_, hbut, hf.slots⟩
  rw [readLE_congr hf.mem, readLE_writeBytes]
  exact Nat.mod_eq_of_lt hn

/-- A store through the claim words changes its word only. -/
theorem aliasStore_spec : (s.aliasStore ag o v).readLE (kShared + o) 4 = s.aliasWord ag o v ∧
    SameMemoryBut s (s.aliasStore ag o v) (kShared + o) 4 ∧ (s.aliasStore ag o v).slots = s.slots := by
  have hmine : bits v 15 0 * 0x10000 + ag.toNat < 2 ^ 32 := by
    have hag := ag.isLt
    have hv : bits v 15 0 < 2 ^ 16 := Nat.mod_lt _ (by decide)
    omega
  unfold State.aliasStore State.aliasWord
  extract_lets m mine
  rw [if_neg (not_not_intro hres)]
  split
  · exact aliasStore_write hlock hmine
  · split
    · exact aliasStore_write hlock (by decide)
    · exact ⟨rfl, .refl s _ _, rfl⟩

end

section
variable {s : State} {w : SlotId} (h : Issues s w) {rs rb : RegCode} {disp : BitVec 12} (hrs : regOk rs = true)
  (hrb : regOk rb = true) (hst : (s.slot w).stores = []) {a : W32} (ha : (s.slot w).ctx.rd rb + simm disp = a)
  (hkind : s.accessKind w a.toNat 4 false true = 0) (hlo : 0x18000000 ≤ a.toNat) (hhi : a.toNat < 0x18400000)
  (hres : bits ((s.slot w).ctx.rd rs) 29 16 = 0) (hlock : s.sramLocked (a.toNat - 0x18000000) 4 = false)
include h hrs hrb hst ha hkind hlo hhi hres hlock

/-- A claim or release of a slot without posted stores changes its word only, and holds. -/
theorem Completes.aliasIns {c : Instr} {op : Nat} (hx : exec c s = s.aliasIns w rs rb disp op)
    (hop : bits ((s.slot w).ctx.rd rs) 31 30 = op) : Completes c s (fun t => (t.slot w).held.isSome = true ∧
      t.readLE (kShared + (a.toNat - 0x18000000)) 4 =
        s.aliasWord (slotAgent w) (a.toNat - 0x18000000) ((s.slot w).ctx.rd rs) ∧
          SameMemoryBut s t (kShared + (a.toNat - 0x18000000)) 4) := by
  have hea : (s.slot w).ctx.ea rb 0#2 4 disp = a := ha
  have hok : memOk rs rb 0#2 2#2 disp = true := by
    unfold memOk
    rw [hrs, hrb]
    rfl
  have hx' : exec c s = s.storeIns w (memOk rs rb 0#2 2#2 disp) rs rb 0#2 2#2 disp := by
    refine hx.trans (if_pos ?_)
    rw [hea, decide_eq_true ⟨hlo, hhi⟩, decide_eq_true hop]
    rfl
  refine .store h hok hea hkind hx' ?_
  rw [State.storeAct, if_pos ⟨hlo, by omega⟩, drain_empty (by rw [slot_issuing]; exact hst)]
  obtain ⟨hword, hbut, -⟩ := aliasStore_spec (s := (s.issuing w).unposted w) (ag := slotAgent w) hres hlock
  exact ⟨by rw [slot_hold]; rfl, hword, hbut⟩

end

end Sys2Proof.Machine
end

section
/-! PROOFS. O22: the stores, the posted stores and the claim words put together. -/

namespace Sys2Proof.Machine

/-- Settles O22: a store writes or posts its bytes, a posted store is performed in order, and the claim words claim and
release. -/
theorem storesAndClaimAliasWriteTheirAddress : Obligations.StoresAndClaimAliasWriteTheirAddress := by
  unfold Obligations.StoresAndClaimAliasWriteTheirAddress
  refine ⟨?_, fun s w k p hp hfirst hlo hhi hlock => .postedStore hp hfirst hlo hhi hlock, ?_⟩
  · intro s w rd rb mode size imm h hok x n base a nb moved v hkind
    exact ⟨fun hlt => .store_dram h hok rfl hkind hlt (storeBytes_eq _ _ _),
      fun hlo halias => .store_posted h hok rfl hkind hlo halias (storeBytes_eq _ _ _)⟩
  · intro s w rs rb disp h hrs hrb x a v o m mine hst hkind hlo hhi hlock hres
    refine ⟨fun hop => ?_, fun hop => ?_⟩
    · have hc := Completes.aliasIns (c := .aliasClaim w rs rb disp) h hrs hrb hst rfl hkind hlo hhi hres hlock rfl hop
      have hword : s.aliasWord (slotAgent w) o v = if m % 0x1000 = 0 then mine else m := by
        simp [State.aliasWord, hop, m, mine]
      rw [← hword]
      exact hc
    · have hc := Completes.aliasIns (c := .aliasRelease w rs rb disp) h hrs hrb hst rfl hkind hlo hhi hres hlock rfl hop
      have hword : s.aliasWord (slotAgent w) o v = if m = mine then 0 else m := by
        simp [State.aliasWord, hop, m, mine]
      rw [← hword]
      exact hc

end Sys2Proof.Machine
end

section
/-! SUPPORT. Loads (section 6.4, Table 6-6, R162, R167, R187, R199, R217): the registers that a load writes, the base that it
keeps, and one rule for D-RAM and one for everywhere else. -/

namespace Sys2Proof.Machine

/-! ### Registers of a load -/

/-- The low word of a loaded number: zero- or sign-extended (R199). -/
def loadedLow (n v : Nat) (signed : Bool) : W32 :=
  if signed = true then (BitVec.ofNat (8 * n) v).signExtend 32 else BitVec.ofNat 32 v

/-- The registers that a load of the number `v` writes: a pair for 8 bytes. -/
def loadedRegs (x : Ctx) (rd : RegCode) (size : BitVec 2) (signed : Bool) (v : Nat) : Nat → Option W32 :=
  if size = 3#2 then pairReg x rd (loadedLow (2 ^ size.toNat) v signed) (BitVec.ofNat 32 (v / 2 ^ 32))
  else oneReg x rd (loadedLow (2 ^ size.toNat) v signed)

theorem sextNat_eq_toInt {n : Nat} (hn : 0 < n) (v : Nat) : sextNat n v = (BitVec.ofNat n v).toInt := by
  obtain ⟨k, rfl⟩ : ∃ k, n = k + 1 := ⟨n - 1, by omega⟩
  have hpow : 2 ^ (k + 1) = 2 * 2 ^ k := Nat.pow_succ'
  rw [BitVec.toInt_eq_toNat_cond, BitVec.toNat_ofNat]
  unfold sextNat
  rw [Nat.add_sub_cancel]
  split <;> split <;> omega

theorem loadWrites_one {x : Ctx} {rd : RegCode} {size : BitVec 2} (h3 : size ≠ 3#2) (signed : Bool) (bs : List Byte) :
    x.loadWrites rd size signed bs = x.dst rd (loadedLow (2 ^ size.toNat) (leNat bs) signed) := by
  unfold Ctx.loadWrites loadedLow sizeBytes
  dsimp only
  rw [if_neg h3, sextNat_eq_toInt (by have := Nat.two_pow_pos size.toNat; omega)]
  rfl

/-- What a load writes (R199). -/
theorem Lands.loadWrites (x : Ctx) (rd : RegCode) {size : BitVec 2} {signed : Bool} (hs : signed = true → size ≠ 3#2)
    (bs : List Byte) : Lands (x.loadWrites rd size signed bs) (loadedRegs x rd size signed (leNat bs)) {} := by
  unfold loadedRegs
  by_cases h3 : size = 3#2
  · have hsigned : signed = false := by
      cases signed with
      | true => exact absurd h3 (hs rfl)
      | false => rfl
    rw [if_pos h3, Ctx.loadWrites, if_pos h3, hsigned]
    exact (Lands.dstMulti x rd 2 _).congr (multiReg_pair x rd _)
  · rw [if_neg h3, loadWrites_one h3]
    exact .dst x rd _

/-! ### The base that a load keeps -/

/-- A list of writes names register `p`. -/
def namesReg (ws : List PWrite) (p : Nat) : Bool := ws.any (fun b => decide (b.tgt = .reg p))

theorem namesReg_dst (x : Ctx) (c : RegCode) (v : W32) (p : Nat) : namesReg (x.dst c v) p = (oneReg x c v p).isSome := by
  unfold namesReg Ctx.dst oneReg
  cases x.phys c.toNat with
  | none => simp
  | some k => by_cases hk : k = p <;> simp [hk]

theorem namesReg_dstMulti (x : Ctx) (c : RegCode) (n v p : Nat) :
    namesReg (x.dstMulti c n v) p = (multiReg x c n v p).isSome := by
  induction n generalizing c v with
  | zero => rfl
  | succ n ih =>
    have hsplit : namesReg (x.dstMulti c (n + 1) v) p =
        (namesReg (x.dst c (w32 v)) p || namesReg (x.dstMulti (c + 1#5) n (v / 0x100000000)) p) := List.any_append
    rw [hsplit, namesReg_dst, ih, multiReg, Bool.or_comm, Option.isSome_or]

theorem namesReg_loadWrites (x : Ctx) (rd : RegCode) (size : BitVec 2) (signed : Bool) (bs : List Byte) (p : Nat) :
    namesReg (x.loadWrites rd size signed bs) p = (loadedRegs x rd size signed (leNat bs) p).isSome := by
  unfold loadedRegs
  by_cases h3 : size = 3#2
  · rw [if_pos h3, Ctx.loadWrites, if_pos h3]
    refine (namesReg_dstMulti x rd 2 _ p).trans ?_
    rw [multiReg_pair]
    unfold pairReg
    split
    · rfl
    · split <;> rfl
  · rw [if_neg h3, loadWrites_one h3, namesReg_dst]

/-- The write of a register is kept unless the load names it too (R162). -/
theorem Lands.keepBase_dst (x : Ctx) (c : RegCode) (v : W32) (ld : List PWrite) :
    Lands (keepBase (x.dst c v) ld) (fun p => if namesReg ld p then none else oneReg x c v p) {} := by
  unfold Ctx.dst oneReg
  cases hk : x.phys c.toNat with
  | none => exact Lands.nil.congr fun p => by simp [noReg]
  | some k =>
    have hfilter : keepBase [{ tgt := .reg k, val := v }] ld =
        if namesReg ld k then [] else [{ tgt := .reg k, val := v }] := by
      unfold keepBase namesReg
      cases h : ld.any (fun b => decide (b.tgt = .reg k)) <;> simp [h]
    dsimp only
    rw [hfilter]
    split
    · next hn =>
      refine Lands.nil.congr fun p => ?_
      by_cases hp : k = p
      · subst hp; simp [noReg, hn]
      · simp [noReg, hp]
    · next hn =>
      have hone : Lands [{ tgt := .reg k, val := v }] (oneReg x c v) {} := by
        have := Lands.dst x c v
        rwa [Ctx.dst, hk] at this
      refine hone.congr fun p => ?_
      by_cases hp : k = p
      · subst hp; simp [oneReg, hk, hn]
      · simp [oneReg, hk, hp]

/-- The base as a load leaves it. -/
theorem Lands.keepBase (x : Ctx) (rb : RegCode) (mode : BitVec 2) (n : Nat) (ld : List PWrite) :
    Lands (keepBase (x.writeback rb mode n) ld)
      (fun p => if namesReg ld p then none else movedBase x rb mode n p) {} := by
  rw [writeback_eq]
  unfold movedBase
  split
  · exact .keepBase_dst x rb _ ld
  · exact Lands.nil.congr fun p => by simp [noReg]

/-- The base that a load leaves, where it writes the registers `loaded`. -/
def baseBut (x : Ctx) (loaded : Nat → Option W32) (rb : RegCode) (mode : BitVec 2) (n : Nat) (p : Nat) : Option W32 :=
  if (loaded p).isSome then none else movedBase x rb mode n p

theorem Lands.loadBase (x : Ctx) (rd rb : RegCode) (mode size : BitVec 2) (signed : Bool) (n : Nat) (bs : List Byte) :
    Lands (Machine.keepBase (x.writeback rb mode n) (x.loadWrites rd size signed bs))
      (baseBut x (loadedRegs x rd size signed (leNat bs)) rb mode n) {} :=
  (Lands.keepBase x rb mode n _).congr fun p => by rw [namesReg_loadWrites]; rfl

/-! ### The instructions -/

section
variable {s : State} {w : SlotId}

/-- What a load finds does not depend on its issue, nor on a drain of no store (R167, R169). -/
theorem load_source {e : Nat} (n : Nat) (hst : 0x18000000 ≤ e ∧ e < 0x20000000 → (s.slot w).stores = []) :
    ∃ u : State, (if 0x18000000 ≤ e ∧ e < 0x20000000 then (s.issuing w).drain w else s.issuing w) = u ∧
      u.loadBytes w e n = s.loadBytes w e n ∧ u.landed w = s.landed w ∧ OnlySlot s w u ∧ (NoWaits s w → NoWaits u w) := by
  by_cases hc : 0x18000000 ≤ e ∧ e < 0x20000000
  · have hslot : ((s.issuing w).unposted w).slot w = { (s.slot w).issued with stores := [] } := by
      rw [State.unposted, State.slot_setSlot_same, slot_issuing]
    refine ⟨(s.issuing w).unposted w, (if_pos hc).trans (drain_empty (by rw [slot_issuing]; exact hst hc)), ?_, ?_,
      (OnlySlot.issuing s w).trans (.setSlot _ w _), id⟩
    · rw [State.loadBytes, State.loadBytes, hslot, hst hc]
      rfl
    · exact State.landed_congr (by rw [hslot]; rfl) (by rw [hslot]; rfl) rfl
  · refine ⟨s.issuing w, if_neg hc, ?_, landed_issuing s w, .issuing s w, id⟩
    rw [State.loadBytes, State.loadBytes, slot_issuing]
    rfl

variable (h : Issues s w) {c : Instr} {ok signed : Bool} {rd rb : RegCode}
  {mode size : BitVec 2} {imm : BitVec 12} (hx : exec c s = s.loadIns w ok rd rb mode size imm signed) (hok : ok = true)
  (hsigned : signed = true → size ≠ 3#2) {a : W32} (ha : (s.slot w).ctx.ea rb mode (2 ^ size.toNat) imm = a)
  (hkind : s.accessKind w a.toNat (2 ^ size.toNat) true false = 0) {loaded : Nat → Option W32}
  (hloaded : loadedRegs (s.slot w).ctx rd size signed (leNat (s.loadBytes w a.toNat (2 ^ size.toNat))) = loaded)
include h hx hok hsigned ha hkind hloaded

/-- A load from D-RAM: the base at distance 1, the value at distance 2 (R187). -/
theorem Completes.load_dram (hlt : a.toNat < 0x4000) : Completes c s (fun t =>
    CtxWrote (s.landed w) (t.slot w).ctx (baseBut (s.slot w).ctx loaded rb mode (2 ^ size.toNat)) {}
      ((s.slot w).ctx.pc + 4#32) ∧
    CtxWrote (s.landed w) (t.landed w)
      (fun p => (loaded p).or (baseBut (s.slot w).ctx loaded rb mode (2 ^ size.toNat) p)) {} ((s.slot w).ctx.pc + 4#32) ∧
    OnlySlot s w t) := by
  subst ha hloaded
  obtain ⟨u, hu, hbytes, hul, honly, -⟩ := load_source (s := s) (w := w) (2 ^ size.toNat)
    (e := ((s.slot w).ctx.ea rb mode (2 ^ size.toNat) imm).toNat) fun hc => absurd hc (by omega)
  set bs := s.loadBytes w ((s.slot w).ctx.ea rb mode (2 ^ size.toNat) imm).toNat (2 ^ size.toNat)
  have hld := Lands.loadWrites (s.slot w).ctx rd hsigned bs
  have hwb := Lands.loadBase (s.slot w).ctx rd rb mode size signed (2 ^ size.toNat) bs
  refine .issues_to h hx hok (t := u.retire w (Machine.keepBase ((s.slot w).ctx.writeback rb mode (2 ^ size.toNat))
    ((s.slot w).ctx.loadWrites rd size signed bs)) ((s.slot w).ctx.loadWrites rd size signed bs)
      ((s.slot w).ctx.pc + 4#32)) ?_ ?_
  · refine (if_neg (not_not_intro hkind)).trans ((if_pos hlt).trans ?_)
    rw [← hbytes, ← hu]
    rfl
  · have hctx := hwb.slot_retire (s := u) (w := w) ((s.slot w).ctx.loadWrites rd size signed bs)
      ((s.slot w).ctx.pc + 4#32)
    have hlanded := hwb.landed_retire hld (s := u) (w := w) ((s.slot w).ctx.pc + 4#32)
    rw [hul] at hctx hlanded
    exact ⟨hctx, hlanded, honly.trans (.retire u w _ _ _)⟩

/-- A load from elsewhere holds, and the end of the hold writes the value and the base (R217). -/
theorem Completes.load_outside (hlo : 0x4000 ≤ a.toNat)
    (halias : a.toNat < 0x18000000 ∨ 0x20000000 ≤ a.toNat ∨ (s.slot w).stores = []) (hnw : NoWaits s w) :
    Completes c s (HoldsThen s w
      (fun p => (loaded p).or (baseBut (s.slot w).ctx loaded rb mode (2 ^ size.toNat) p)) {} ((s.slot w).ctx.pc + 4#32)) := by
  subst ha hloaded
  obtain ⟨u, hu, hbytes, hul, -, huw⟩ := load_source (s := s) (w := w) (2 ^ size.toNat)
    (e := ((s.slot w).ctx.ea rb mode (2 ^ size.toNat) imm).toNat) fun hc =>
      (halias.resolve_left (by omega)).resolve_left (by omega)
  set e := ((s.slot w).ctx.ea rb mode (2 ^ size.toNat) imm).toNat
  set bs := s.loadBytes w e (2 ^ size.toNat)
  have hld := Lands.loadWrites (s.slot w).ctx rd hsigned bs
  have hwb := Lands.loadBase (s.slot w).ctx rd rb mode size signed (2 ^ size.toNat) bs
  have hreach : DramFrame u (u.loadReach w e (2 ^ size.toNat)) := by
    unfold State.loadReach
    split
    · exact .dramAccess u _ _ _ _ _ _
    · rfl
  have hslot := slot_congr hreach.slots w
  refine .issues_to h hx hok (t := (u.loadReach w e (2 ^ size.toNat)).hold w
    (Machine.keepBase ((s.slot w).ctx.writeback rb mode (2 ^ size.toNat)) ((s.slot w).ctx.loadWrites rd size signed bs) ++
      (s.slot w).ctx.loadWrites rd size signed bs) none
        (some ((s.slot w).ctx.ea rb mode (2 ^ size.toNat) imm, size.toNat)) false ((s.slot w).ctx.pc + 4#32)) ?_ ?_
  · refine (if_neg (not_not_intro hkind)).trans ((if_neg (Nat.not_lt.mpr hlo)).trans ?_)
    rw [← hbytes, ← hu]
    rfl
  · refine (hwb.append hld).holdsThen ?_ ?_ _ _ _
    · exact (State.landed_congr (by rw [hslot]) (by rw [hslot]) hreach.free).trans hul
    · unfold NoWaits State.commitWaits
      rw [hreach.brg, hreach.sec]
      exact huw hnw

end

end Sys2Proof.Machine
end

section
/-! PROOFS. O21: the loads put together. -/

namespace Sys2Proof.Machine

/-- The effective address by mode (Table 6-6). -/
theorem ea_eq (x : Ctx) (rb : RegCode) (mode : BitVec 2) (n : Nat) (imm : BitVec 12) : x.ea rb mode n imm =
    if mode = 0#2 then x.rd rb + imm.signExtend 32 else if mode = 1#2 then x.rd rb
      else if mode = 2#2 then x.rd rb - BitVec.ofNat 32 n
      else x.rd rb + (x.rd (idxReg imm) <<< (imm.toNat / 32 % 4)) := by
  unfold Ctx.ea
  split
  · rfl
  · rfl
  · rfl
  · next h0 h1 h2 => rw [if_neg h0, if_neg h1, if_neg h2]

theorem isSome_or_eq (a b : Option W32) : a.or b = if a.isSome then a else b := by cases a <;> rfl

/-- Settles O21: a load takes its address by its mode and writes the value and the base. -/
theorem loadsReadTheirAddress : Obligations.LoadsReadTheirAddress := by
  unfold Obligations.LoadsReadTheirAddress
  intro s w rd rb mode size imm signed h hok hsigned x n base a nb v lo loaded moved both i hkind
  have hx : exec i s = s.loadIns w (memOk rd rb mode size imm && decide (signed = true → size ≠ 3#2)) rd rb mode size imm
      signed := by
    unfold i
    cases signed with
    | true => simp only [if_true, true_implies]; rfl
    | false => simp only [Bool.false_eq_true, if_false, false_implies, decide_true, Bool.and_true]; rfl
  have hok' : (memOk rd rb mode size imm && decide (signed = true → size ≠ 3#2)) = true := by
    rw [hok, decide_eq_true hsigned]
    rfl
  have ha : x.ea rb mode (2 ^ size.toNat) imm = a := ea_eq x rb mode _ imm
  have hmoved : moved = baseBut x loaded rb mode n := by
    funext p
    unfold moved baseBut movedBase
    by_cases hm : mode = 1#2 ∨ mode = 2#2
    · simp only [if_pos hm]
      rfl
    · simp only [if_neg hm, ite_self]
  have hboth : both = fun p => (loaded p).or (baseBut x loaded rb mode n p) := by
    funext p
    rw [isSome_or_eq, ← hmoved]
  rw [hboth, hmoved]
  exact ⟨fun hlt => .load_dram h hx hok' hsigned ha hkind rfl hlt,
    fun hlo halias hnw => .load_outside h hx hok' hsigned ha hkind rfl hlo halias hnw⟩

end Sys2Proof.Machine
end

section
/-! SUPPORT. Results with flags (Table 7-3, R149, R187, R190, R191): the flags that a write under a mask leaves, what each
kind of ALU result leaves once it lands, and one rule for the instructions at distance 1 and one for those at
distance 2. -/

namespace Sys2Proof.Machine

/-! ### Flags under a mask -/

/-- A bit of a word written under a mask. -/
theorem bit_masked (f v m : W32) (i : Nat) :
    bit ((f &&& ~~~m) ||| (v &&& m)) i = if bit m i then bit v i else bit f i := by
  unfold bit
  rw [BitVec.getLsbD_or, BitVec.getLsbD_and, BitVec.getLsbD_and, BitVec.getLsbD_not]
  by_cases hi : i < 32
  · cases m.getLsbD i <;> simp [hi]
  · have h32 : ∀ u : W32, u.getLsbD i = false := fun u => BitVec.getLsbD_of_ge u i (Nat.not_lt.mp hi)
    simp [h32]

/-- A field that the mask does not name stays. -/
theorem bits_masked (f v : W32) {m : W32} {hi lo : Nat} (hm : bits m hi lo = 0) :
    bits ((f &&& ~~~m) ||| (v &&& m)) hi lo = bits f hi lo := by
  refine Nat.eq_of_testBit_eq fun j => ?_
  have hj := testBit_bits m hi lo j
  rw [hm, Nat.zero_testBit] at hj
  rw [testBit_bits, testBit_bits, bit_masked]
  cases hd : decide (j < hi + 1 - lo) with
  | false => rfl
  | true =>
    rw [hd, Bool.true_and] at hj
    rw [← hj]
    rfl

/-- The word of the flags C, V, Z and N. -/
def flagWord (c v z n : Bool) : Nat := b2n c + 2 * b2n v + (4 * b2n z + 8 * b2n n)

theorem bit_flagWord : ∀ c v z n : Bool, bit (w32 (flagWord c v z n)) 0 = c ∧ bit (w32 (flagWord c v z n)) 1 = v ∧
    bit (w32 (flagWord c v z n)) 2 = z ∧ bit (w32 (flagWord c v z n)) 3 = n := by decide

theorem nzFlags_eq (r : W32) : nzFlags r = flagWord false false (decide (r = 0#32)) r.msb := (Nat.zero_add _).symm

section
variable (f r : W32)

/-- All four flags. -/
theorem FlagsAre.full (c v : Bool) : FlagsAre { c := some c, v := some v, nz := some r } f
    ((f &&& ~~~0xF#32) ||| (allFlags r c v &&& 0xF#32)) := by
  obtain ⟨hc, hv, hz, hn⟩ := bit_flagWord c v (decide (r = 0#32)) r.msb
  exact ⟨(bit_masked f _ 0xF#32 0).trans hc, (bit_masked f _ 0xF#32 1).trans hv, (bit_masked f _ 0xF#32 2).trans hz,
    (bit_masked f _ 0xF#32 3).trans hn, (bit_masked f _ 0xF#32 4).trans (Bool.or_false _).symm,
    bits_masked f _ (by decide)⟩

/-- N and Z of a result, and V cleared. -/
theorem FlagsAre.logic : FlagsAre { v := some false, nz := some r } f
    ((f &&& ~~~0xE#32) ||| (w32 (nzFlags r) &&& 0xE#32)) := by
  obtain ⟨-, hv, hz, hn⟩ := bit_flagWord false false (decide (r = 0#32)) r.msb
  rw [nzFlags_eq]
  exact ⟨bit_masked f _ 0xE#32 0, (bit_masked f _ 0xE#32 1).trans hv, (bit_masked f _ 0xE#32 2).trans hz,
    (bit_masked f _ 0xE#32 3).trans hn, (bit_masked f _ 0xE#32 4).trans (Bool.or_false _).symm,
    bits_masked f _ (by decide)⟩

/-- N and Z of a result. -/
theorem FlagsAre.result : FlagsAre { nz := some r } f ((f &&& ~~~0xC#32) ||| (w32 (nzFlags r) &&& 0xC#32)) := by
  obtain ⟨-, -, hz, hn⟩ := bit_flagWord false false (decide (r = 0#32)) r.msb
  rw [nzFlags_eq]
  exact ⟨bit_masked f _ 0xC#32 0, bit_masked f _ 0xC#32 1, (bit_masked f _ 0xC#32 2).trans hz,
    (bit_masked f _ 0xC#32 3).trans hn, (bit_masked f _ 0xC#32 4).trans (Bool.or_false _).symm,
    bits_masked f _ (by decide)⟩

/-- C alone. -/
theorem FlagsAre.carry (c : Bool) : FlagsAre { c := some c } f ((f &&& ~~~1#32) ||| (w32 (b2n c) &&& 1#32)) := by
  have hc : bit (w32 (b2n c)) 0 = c := by cases c <;> decide
  exact ⟨(bit_masked f _ 1#32 0).trans hc, bit_masked f _ 1#32 1, bit_masked f _ 1#32 2, bit_masked f _ 1#32 3,
    (bit_masked f _ 1#32 4).trans (Bool.or_false _).symm, bits_masked f _ (by decide)⟩

/-- SAT, which is sticky. -/
theorem FlagsAre.clipped : FlagsAre { sat := true } f ((f &&& ~~~0x10#32) ||| (0x10#32 &&& 0x10#32)) :=
  ⟨bit_masked f _ 0x10#32 0, bit_masked f _ 0x10#32 1, bit_masked f _ 0x10#32 2, bit_masked f _ 0x10#32 3,
    (bit_masked f _ 0x10#32 4).trans (Bool.or_true _).symm, bits_masked f _ (by decide)⟩

end

/-! ### Writes with flags -/

/-- One write of flags. -/
theorem Lands.flags {m v : W32} {fs : FlagSet} (h : ∀ f, FlagsAre fs f ((f &&& ~~~m) ||| (v &&& m))) :
    Lands [{ tgt := .flags m, val := v }] noReg fs := fun x _ => ⟨rfl, fun _ => rfl, h x.flags, rfl⟩

theorem Lands.carry (c : Bool) : Lands [cWrite c] noReg { c := some c } := .flags fun f => .carry f c

theorem Lands.satWrites (sat : Bool) : Lands (satWrites sat) noReg { sat := sat } := by
  cases sat with
  | false => exact .nil
  | true => exact .flags fun f => .clipped f

/-- A result to one register, with flags. -/
theorem Lands.dstFlags (x : Ctx) (rd : RegCode) (r : W32) {ws : List PWrite} {fs : FlagSet} (h : Lands ws noReg fs) :
    Lands (x.dst rd r ++ ws) (oneReg x rd r) fs := ((Lands.dst x rd r).append h).congr fun _ => rfl

section
variable (x : Ctx) (rd : RegCode) (r : W32)

/-- A result with all four flags. -/
def aluFull (r : W32) (c v : Bool) : Alu := { val := r, fl := allFlags r c v, mask := 0xF#32 }

theorem Lands.aluFull (c v : Bool) : Lands (x.aluWrites rd (aluFull r c v)) (oneReg x rd r)
    { c := some c, v := some v, nz := some r } := .dstFlags x rd r (.flags fun f => .full f r c v)

theorem Lands.aluLogic : Lands (x.aluWrites rd (aluLogic r)) (oneReg x rd r) { v := some false, nz := some r } :=
  .dstFlags x rd r (.flags fun f => .logic f r)

theorem Lands.aluMul : Lands (x.aluWrites rd (aluMul r)) (oneReg x rd r) { nz := some r } :=
  .dstFlags x rd r (.flags fun f => .result f r)

theorem Lands.aluPlain : Lands (x.aluWrites rd (aluPlain r)) (oneReg x rd r) {} := .dstFlags x rd r .nil

/-- A shift leaves C alone where it shifts by 0 (R191). -/
theorem Lands.aluShift (n : Nat) (out : Bool) : Lands (x.aluWrites rd (aluShift r n out)) (oneReg x rd r)
    { c := if n = 0 then none else some out, v := some false, nz := some r } := by
  unfold Machine.aluShift
  split
  · exact .aluLogic x rd r
  · exact .aluFull x rd r out false

end

/-! ### Addition and subtraction -/

theorem aluAdd_eq (a b : W32) (cin : Bool) : aluAdd a b cin = aluFull (a + b + BitVec.ofNat 32 (b2n cin))
    (decide (2 ^ 32 ≤ a.toNat + b.toNat + b2n cin))
    (decide ((a + b + BitVec.ofNat 32 (b2n cin)).toInt ≠ a.toInt + b.toInt + (b2n cin : Int))) := by
  have hr : w32 (a.toNat + b.toNat + b2n cin) = a + b + BitVec.ofNat 32 (b2n cin) := by
    rw [w32, BitVec.ofNat_add, BitVec.ofNat_add, BitVec.ofNat_toNat, BitVec.ofNat_toNat, BitVec.setWidth_eq,
      BitVec.setWidth_eq]
  unfold aluAdd aluFull
  dsimp only
  rw [hr]

theorem aluAdd_plain (a b : W32) : aluAdd a b false = aluFull (a + b) (decide (2 ^ 32 ≤ a.toNat + b.toNat))
    (decide ((a + b).toInt ≠ a.toInt + b.toInt)) := by
  have h := aluAdd_eq a b false
  rwa [show b2n false = 0 from rfl, BitVec.add_zero, Nat.add_zero, Nat.cast_zero, Int.add_zero] at h

/-- A subtraction sets C when no borrow occurs (R190). -/
theorem aluSub_eq (a b : W32) (cin : Bool) : aluSub a b cin = aluFull (a - b - BitVec.ofNat 32 (1 - b2n cin))
    (decide (b.toNat + (1 - b2n cin) ≤ a.toNat))
    (decide ((a - b - BitVec.ofNat 32 (1 - b2n cin)).toInt ≠ a.toInt - b.toInt - ((1 - b2n cin : Nat) : Int))) := by
  have hnot : (~~~b).toNat = 2 ^ 32 - 1 - b.toNat := BitVec.toNat_not
  have hint : (~~~b).toInt = -1 - b.toInt := by
    have := b.isLt
    rw [BitVec.toInt_eq_toNat_cond, BitVec.toInt_eq_toNat_cond, hnot]
    split <;> split <;> omega
  have hr : a + ~~~b + BitVec.ofNat 32 (b2n cin) = a - b - BitVec.ofNat 32 (1 - b2n cin) := by
    cases cin <;> simp [b2n] <;> bv_omega
  have hc : (2 ^ 32 ≤ a.toNat + (~~~b).toNat + b2n cin) = (b.toNat + (1 - b2n cin) ≤ a.toNat) := by
    have := b.isLt
    cases cin <;> simp only [b2n, hnot, eq_iff_iff] <;> simp <;> omega
  have hv : a.toInt + (~~~b).toInt + (b2n cin : Int) = a.toInt - b.toInt - ((1 - b2n cin : Nat) : Int) := by
    cases cin <;> simp [b2n, hint] <;> omega
  rw [aluSub, aluAdd_eq, hr, hv]
  simp only [hc]

theorem aluSub_plain (a b : W32) : aluSub a b true = aluFull (a - b) (decide (b.toNat ≤ a.toNat))
    (decide ((a - b).toInt ≠ a.toInt - b.toInt)) := by
  have h := aluSub_eq a b true
  rwa [show 1 - b2n true = 0 from rfl, BitVec.sub_zero, Nat.add_zero, Nat.cast_zero, Int.sub_zero] at h

/-! ### The instructions -/

section
variable {s : State} {w : SlotId} (h : Issues s w) {c : Instr} {ok : Bool} {rd : RegCode} {f : Ctx → Alu}
  {res : Nat → Option W32} {fs : FlagSet}
include h

/-- An ALU instruction at distance 1 (R187). -/
theorem Completes.alu1 (hx : exec c s = s.alu1 w ok rd f) (hok : ok = true) {a : Alu} (hf : f (s.slot w).ctx = a)
    (hl : Lands ((s.slot w).ctx.aluWrites rd a) res fs) :
    Completes c s (Wrote s w res fs ((s.slot w).ctx.pc + 4#32)) :=
  .issues h hx hok ((hf ▸ hl).wrote _)

/-- An ALU instruction at distance 2 (R187). -/
theorem Completes.alu2 (hx : exec c s = s.alu2 w ok rd f) (hok : ok = true) {a : Alu} (hf : f (s.slot w).ctx = a)
    (hl : Lands ((s.slot w).ctx.aluWrites rd a) res fs) :
    Completes c s (WroteLate s w res fs ((s.slot w).ctx.pc + 4#32)) :=
  .issues h hx hok ((hf ▸ hl).wroteLate _)

end

end Sys2Proof.Machine
end

section
/-! PROOFS. O18: the register forms of the ALU group put together. -/

namespace Sys2Proof.Machine

/-- Settles O18: each register form writes its result and the flags of Table 7-3. -/
theorem aluRegisterFormsWriteResultAndFlags : Obligations.AluRegisterFormsWriteResultAndFlags := by
  unfold Obligations.AluRegisterFormsWriteResultAndFlags
  intro s w rd ra rb h hrd hra hrb x a b ci n go flagsOnly late out
  have hok3 : ok3 rd ra rb = true := by rw [ok3, hrd, hra, hrb]; rfl
  have hok2 : (regOk ra && regOk rb) = true := by rw [hra, hrb]; rfl
  have hn : bits b 4 0 = n := by simp [bits, n]
  refine ⟨?_, ?_, ?_, ?_, ?_, ?_, ?_, ?_, ?_, ?_, ?_, ?_, ?_, ?_, ?_, ?_, ?_⟩
  · exact .alu1 h (show exec _ s = execAdd w rd ra rb s from rfl) hok3 (aluAdd_plain a b) (.aluFull x rd _ _ _)
  · exact .alu1 h (show exec _ s = execAddc w rd ra rb s from rfl) hok3 (aluAdd_eq a b (bit x.flags 0))
      (.aluFull x rd _ _ _)
  · exact .alu1 h (show exec _ s = execSub w rd ra rb s from rfl) hok3 (aluSub_plain a b) (.aluFull x rd _ _ _)
  · exact .alu1 h (show exec _ s = execSubc w rd ra rb s from rfl) hok3 (aluSub_eq a b (bit x.flags 0))
      (.aluFull x rd _ _ _)
  · exact .alu1 h (show exec _ s = execAndR w rd ra rb s from rfl) hok3 rfl (.aluLogic x rd _)
  · exact .alu1 h (show exec _ s = execOrR w rd ra rb s from rfl) hok3 rfl (.aluLogic x rd _)
  · exact .alu1 h (show exec _ s = execXor w rd ra rb s from rfl) hok3 rfl (.aluLogic x rd _)
  · exact .alu1 h (show exec _ s = execAndn w rd ra rb s from rfl) hok3 rfl (.aluLogic x rd _)
  · exact .alu1 h (show exec _ s = execShl w rd ra rb s from rfl) hok3 (by rw [← hn]; rfl) (.aluShift x rd _ _ _)
  · exact .alu1 h (show exec _ s = execShr w rd ra rb s from rfl) hok3 (by rw [← hn]; rfl) (.aluShift x rd _ _ _)
  · exact .alu1 h (show exec _ s = execSar w rd ra rb s from rfl) hok3 (by rw [← hn]; rfl) (.aluShift x rd _ _ _)
  · exact .alu1 h (show exec _ s = execRor w rd ra rb s from rfl) hok3 (by rw [← hn]; rfl) (.aluShift x rd _ _ _)
  · exact .alu2 h (show exec _ s = execMul w rd ra rb s from rfl) hok3 rfl (.aluMul x rd _)
  · exact .alu2 h (show exec _ s = execMulh w rd ra rb s from rfl) hok3 rfl (.aluMul x rd _)
  · exact .alu2 h (show exec _ s = execMulhu w rd ra rb s from rfl) hok3 rfl (.aluMul x rd _)
  · exact .alu1 h (show exec _ s = execCmp w ra rb s from rfl) hok2 (aluSub_plain a b) (.aluFull x 16#5 _ _ _)
  · exact .alu1 h (show exec _ s = execTst w ra rb s from rfl) hok2 rfl (.aluLogic x 16#5 _)

end Sys2Proof.Machine
end

section
/-! PROOFS. O19: the immediate and count forms put together. -/

namespace Sys2Proof.Machine

theorem clz_le (v : W32) : clz v ≤ 32 := Nat.sub_le _ _

/-- The bits that CLZ counts are zero. -/
theorem getLsbD_of_clz_le {v : W32} {k : Nat} (hk : 32 - clz v ≤ k) : v.getLsbD k = false := by
  unfold clz at hk
  by_cases hv : v = 0#32
  · rw [hv]; exact BitVec.getLsbD_zero
  · have hv' : v.toNat ≠ 0 := fun h0 => hv (BitVec.eq_of_toNat_eq h0)
    rw [if_neg hv] at hk
    have hlog : Nat.log2 v.toNat < 32 := (Nat.log2_lt hv').mpr v.isLt
    refine Nat.testBit_lt_two_pow ((Nat.log2_lt hv').mp ?_)
    omega

/-- The first bit after them is set. -/
theorem getLsbD_clz {v : W32} (h : clz v < 32) : v.getLsbD (31 - clz v) = true := by
  unfold clz at h ⊢
  by_cases hv : v = 0#32
  · rw [if_pos hv] at h; omega
  · have hv' : v.toNat ≠ 0 := fun h0 => hv (BitVec.eq_of_toNat_eq h0)
    have hlog : Nat.log2 v.toNat < 32 := (Nat.log2_lt hv').mpr v.isLt
    rw [if_neg hv, show 31 - (32 - (Nat.log2 v.toNat + 1)) = Nat.log2 v.toNat by omega]
    exact Nat.testBit_log2 hv'

/-- Settles O19: each immediate form and each shift by a constant writes its result and flags. -/
theorem immediateAndCountFormsWriteResultAndFlags : Obligations.ImmediateAndCountFormsWriteResultAndFlags := by
  unfold Obligations.ImmediateAndCountFormsWriteResultAndFlags
  intro s w rd ra imm sh h hrd hra x a i u n go out
  have hok : (regOk rd && regOk ra) = true := by rw [hrd, hra]; rfl
  refine ⟨?_, ?_, ?_, ?_, ?_, ?_, ?_, ?_, ?_, ?_, clz a, clz_le a, fun k => getLsbD_of_clz_le, getLsbD_clz, ?_⟩
  · exact .alu1 h (show exec _ s = execAddi w rd ra imm s from rfl) hok (aluAdd_plain a i) (.aluFull x rd _ _ _)
  · exact .alu1 h (show exec _ s = execCmpi w ra imm s from rfl) hra (aluSub_plain a i) (.aluFull x 16#5 _ _ _)
  · exact .alu1 h (show exec _ s = execAndi w rd ra imm s from rfl) hok rfl (.aluLogic x rd _)
  · exact .alu1 h (show exec _ s = execOri w rd ra imm s from rfl) hok rfl (.aluLogic x rd _)
  · exact .alu1 h (show exec _ s = execXori w rd ra imm s from rfl) hok rfl (.aluLogic x rd _)
  · exact .alu1 h (show exec _ s = execLui w rd imm s from rfl) hrd rfl (.aluPlain x rd _)
  · exact .alu1 h (show exec _ s = execShli w rd ra sh s from rfl) hok rfl (.aluShift x rd _ _ _)
  · exact .alu1 h (show exec _ s = execShri w rd ra sh s from rfl) hok rfl (.aluShift x rd _ _ _)
  · exact .alu1 h (show exec _ s = execSari w rd ra sh s from rfl) hok rfl (.aluShift x rd _ _ _)
  · exact .alu1 h (show exec _ s = execRori w rd ra sh s from rfl) hok rfl (.aluShift x rd _ _ _)
  · exact .alu1 h (show exec _ s = execClz w rd ra s from rfl) hok rfl (.aluLogic x rd _)

end Sys2Proof.Machine
end

section
/-! SUPPORT. The fused units (section 7.7, R205, R206, Table 7-10, Table 12-5): bit fields, the clip of MACS, and the codes of
the delta coder with what they decode to. -/

namespace Sys2Proof.Machine

/-! ### Bytes and bit fields -/

/-- Fewer bytes of a number are the first of more. -/
theorem take_leBytes {n m : Nat} (h : n ≤ m) (v : Nat) : (leBytes m v).take n = leBytes n v := by
  induction n generalizing m v with
  | zero => rfl
  | succ n ih =>
    obtain ⟨k, rfl⟩ : ∃ k, m = k + 1 := ⟨m - 1, by omega⟩
    rw [leBytes, leBytes, List.take_succ_cons, ih (by omega)]

section
variable (a : W32) (pos lenm1 : Nat)

/-- A field of `lenm1 + 1` bits. -/
theorem bits_field : bits a (pos + lenm1) pos = a.toNat / 2 ^ pos % 2 ^ (lenm1 + 1) := by
  rw [bits, Nat.shiftRight_eq_div_pow, show pos + lenm1 + 1 - pos = lenm1 + 1 by omega]

/-- The sign extension of a field is two shifts. -/
theorem wInt_sextNat_field (h : pos + lenm1 + 1 ≤ 32) : wInt (sextNat (lenm1 + 1) (bits a (pos + lenm1) pos)) =
    (a <<< (32 - pos - (lenm1 + 1))).sshiftRight (32 - (lenm1 + 1)) := by
  rw [sextNat_eq_toInt (Nat.succ_pos _)]
  show (BitVec.ofNat (lenm1 + 1) (bits a (pos + lenm1) pos)).signExtend 32 = _
  have hbit : ∀ i, i < lenm1 + 1 → (BitVec.ofNat (lenm1 + 1) (bits a (pos + lenm1) pos)).getLsbD i = bit a (pos + i) := by
    intro i hi
    rw [BitVec.getLsbD_ofNat, testBit_bits, decide_eq_true hi, decide_eq_true (show i < pos + lenm1 + 1 - pos by omega)]
    rfl
  refine BitVec.eq_of_getLsbD_eq fun i hi => ?_
  have hshift : ∀ j, j < 32 → 32 - (lenm1 + 1) ≤ j →
      (a <<< (32 - pos - (lenm1 + 1))).getLsbD j = bit a (pos + (j - (32 - (lenm1 + 1)))) := by
    intro j hj hle
    rw [BitVec.getLsbD_shiftLeft, decide_eq_true hj, decide_eq_false (by omega),
      show j - (32 - pos - (lenm1 + 1)) = pos + (j - (32 - (lenm1 + 1))) by omega]
    rfl
  rw [BitVec.getLsbD_signExtend, BitVec.getLsbD_sshiftRight, BitVec.msb_eq_getLsbD_last, BitVec.msb_eq_getLsbD_last,
    decide_eq_true hi, decide_eq_false (Nat.not_le.mpr hi), Bool.true_and, Bool.not_false, Bool.true_and]
  by_cases hlt : i < lenm1 + 1
  · rw [if_pos hlt, if_pos (by omega), hbit i hlt, hshift _ (by omega) (by omega)]
    congr 1
    omega
  · rw [if_neg hlt, if_neg (by omega), hbit _ (by omega), hshift _ (by omega) (by omega)]
    congr 1
    omega

end

/-- BFI replaces the bits of its field. -/
theorem getLsbD_setBits_field (d a : W32) {pos lenm1 i : Nat} (h : pos + lenm1 + 1 ≤ 32) :
    (setBits d (pos + lenm1) pos (bits a lenm1 0)).getLsbD i =
      if pos ≤ i ∧ i < pos + (lenm1 + 1) then a.getLsbD (i - pos) else d.getLsbD i := by
  refine (bit_setBits d (pos + lenm1) pos _ i (by omega)).trans ?_
  by_cases hi : pos ≤ i ∧ i ≤ pos + lenm1
  · rw [if_pos hi, if_pos (by omega), testBit_bits, decide_eq_true (by omega), Nat.zero_add]
    rfl
  · rw [if_neg hi, if_neg (by omega)]
    rfl

/-! ### Minimum and maximum -/

theorem ite_decide_eq_true (p : Prop) [Decidable p] (a b : W32) :
    (if decide p = true then a else b) = if p then a else b := by
  simp only [decide_eq_true_eq]

theorem ite_decide_eq_false (p : Prop) [Decidable p] (a b : W32) :
    (if decide p = false then a else b) = if p then b else a := by
  simp only [decide_eq_false_iff_not, ite_not]

/-! ### The clip of MACS and DIVQ -/

/-- Clipping takes the nearest signed word. -/
theorem clip32_eq (v : Int) : clip32 v = (BitVec.ofInt 32 (max (-(2 ^ 31)) (min (2 ^ 31 - 1) v)),
    decide (max (-(2 ^ 31)) (min (2 ^ 31 - 1) v) ≠ v)) := by
  unfold clip32
  split
  next h =>
    rw [min_eq_left (by omega), max_eq_right (by decide), decide_eq_true (by omega)]
    rfl
  next h =>
    rw [min_eq_right (by omega)]
    split
    next h' =>
      rw [max_eq_left (by omega), decide_eq_true (by omega)]
      rfl
    next h' =>
      rw [max_eq_right (by omega), decide_eq_false (not_not_intro rfl)]
      rfl

/-- The sum that MACS clips. -/
theorem macSum_eq (d a b : W32) (sh : Nat) (round : Bool) : macSum d a b sh round =
    d.toInt + (a.toInt * b.toInt + (if round = true ∧ 0 < sh then 2 ^ (sh - 1) else 0)) / 2 ^ sh := by
  unfold macSum
  simp only [Bool.and_eq_true, decide_eq_true_eq]
  split
  · rfl
  · rw [Int.add_zero]

/-! ### The delta coder -/

/-- A difference that the codes of table `t` do not carry. -/
def deltaEscapes (t : Nat) (d : W32) : Bool :=
  decide (d ≠ 0#32 ∧ ¬ (-(2 ^ (4 + 4 * t - 1)) ≤ d.toInt ∧ d.toInt < 2 ^ (4 + 4 * t - 1)))

/-- The word that DCE yields for a difference (Table 12-5). -/
def deltaWord (t : Nat) (d : W32) : W32 :=
  if d = 0#32 then 0x08000000#32 else if deltaEscapes t d then 0x10000003#32
  else BitVec.ofNat 32 ((2 + (4 + 4 * t)) * 2 ^ 27 + 2 * 2 ^ (4 + 4 * t) + d.toNat % 2 ^ (4 + 4 * t))

theorem deltaCode_eq (t : Nat) (d : W32) : deltaCode t d = if deltaEscapes t d then none else some (deltaWord t d) := by
  unfold deltaCode deltaWord deltaEscapes codeWidth
  by_cases h0 : d = 0#32
  · simp [h0]
  · dsimp only
    rw [if_neg h0, if_neg h0]
    by_cases hr : -(2 ^ (4 + 4 * t - 1)) ≤ d.toInt ∧ d.toInt < 2 ^ (4 + 4 * t - 1)
    · rw [if_pos ⟨hr.1, Int.le_sub_one_of_lt hr.2⟩, decide_eq_false fun h => h.2 hr]
      rfl
    · rw [if_neg fun h => hr ⟨h.1, Int.lt_of_le_sub_one h.2⟩, decide_eq_true ⟨h0, hr⟩]
      rfl

theorem deltaWord_of_escapes {t : Nat} {d : W32} (h : deltaEscapes t d = true) : deltaWord t d = escapeCode := by
  obtain ⟨h0, -⟩ := of_decide_eq_true h
  rw [deltaWord, if_neg h0, if_pos h]
  rfl

/-- A short code decodes to its difference. -/
theorem deltaDecode_short {t : Nat} (ht : t < 4) {d : W32} (hlo : -(2 ^ (4 + 4 * t - 1)) ≤ d.toInt)
    (hhi : d.toInt < 2 ^ (4 + 4 * t - 1)) :
    deltaDecode t (w32 ((2 + (4 + 4 * t)) * 2 ^ 27 + 2 * 2 ^ (4 + 4 * t) + d.toNat % 2 ^ (4 + 4 * t))) = some (some d) := by
  set m := d.toNat % 2 ^ (4 + 4 * t) with hm
  have hlt : m < 2 ^ (4 + 4 * t) := Nat.mod_lt _ (Nat.two_pow_pos _)
  have hl : bits (w32 ((2 + (4 + 4 * t)) * 2 ^ 27 + 2 * 2 ^ (4 + 4 * t) + m)) 31 27 = 2 + (4 + 4 * t) := by
    rw [bits_w32 _ _ _ (by decide)]
    interval_cases t <;> omega
  have hc : bits (w32 ((2 + (4 + 4 * t)) * 2 ^ 27 + 2 * 2 ^ (4 + 4 * t) + m)) 26 0 = 2 * 2 ^ (4 + 4 * t) + m := by
    rw [bits_w32 _ _ _ (by decide)]
    interval_cases t <;> omega
  have hs : sextNat (4 + 4 * t) m = d.toInt := by
    rw [BitVec.toInt_eq_toNat_cond] at hlo hhi ⊢
    have := d.isLt
    unfold sextNat
    interval_cases t <;>
      (simp only [Nat.reduceMul, Nat.reduceAdd, Nat.reducePow, Nat.reduceSub] at *; split at * <;> omega)
  set v := w32 ((2 + (4 + 4 * t)) * 2 ^ 27 + 2 * 2 ^ (4 + 4 * t) + m)
  have hzero : v ≠ 0x08000000#32 := fun h => by
    rw [h, show bits 0x08000000#32 31 27 = 1 by decide] at hl
    omega
  have hescape : v ≠ escapeCode := fun h => by
    rw [h, show bits escapeCode 31 27 = 2 by decide] at hl
    omega
  have htag : (2 * 2 ^ (4 + 4 * t) + m) / 2 ^ (4 + 4 * t) = 2 := by
    rw [Nat.mul_comm, Nat.mul_add_div (Nat.two_pow_pos _), Nat.div_eq_of_lt hlt]
  have hval : (2 * 2 ^ (4 + 4 * t) + m) % 2 ^ (4 + 4 * t) = m := by
    rw [Nat.mul_comm, Nat.mul_add_mod, Nat.mod_eq_of_lt hlt]
  unfold deltaDecode codeWidth
  dsimp only
  rw [if_neg hzero, if_neg hescape, hl, hc, htag, hval, if_pos ⟨rfl, rfl⟩, hs, wInt, BitVec.ofInt_toInt]

/-- What DCE yields decodes to its difference, or to the escape (R206). -/
theorem deltaDecode_deltaWord {t : Nat} (ht : t < 4) (d : W32) :
    deltaDecode t (deltaWord t d) = some (if deltaEscapes t d then none else some d) := by
  unfold deltaWord
  by_cases h0 : d = 0#32
  · have hno : deltaEscapes t d = false := decide_eq_false fun h => h.1 h0
    rw [if_pos h0, hno, h0]
    rfl
  rw [if_neg h0]
  cases he : deltaEscapes t d with
  | true => rfl
  | false =>
    have hr : -(2 ^ (4 + 4 * t - 1)) ≤ d.toInt ∧ d.toInt < 2 ^ (4 + 4 * t - 1) :=
      not_not.mp fun h => of_decide_eq_false he ⟨h0, h⟩
    exact deltaDecode_short ht hr.1 hr.2

/-! ### The instructions -/

section
variable {s t : State} {w : SlotId} {res : Nat → Option W32} {fs : FlagSet} {pc : W32}

/-- A change of the slot beside its thread leaves what an instruction of distance 2 has done. -/
theorem WroteLate.setSlot (h : WroteLate s w res fs pc t) {z : Slot} (hc : z.ctx = (t.slot w).ctx)
    (hl : z.late = (t.slot w).late) : WroteLate s w res fs pc (t.setSlot w z) := by
  obtain ⟨hctx, hland, honly⟩ := h
  have hslot := State.slot_setSlot_same t w z
  refine ⟨?_, ?_, honly.trans (.setSlot t w z)⟩
  · rw [hslot, hc, hctx]
  · have hsame : (t.setSlot w z).landed w = t.landed w :=
      State.landed_congr (by rw [hslot, hc]) (by rw [hslot, hl]) rfl
    rwa [hsame]

/-- A result of the delta coder: rd and C at distance 2, and FU_DCCOUNT (R206). -/
theorem dcDone_wroteLate (rd : RegCode) (v : W32) (escape : Bool) :
    let t := (s.issuing w).dcDone w (s.slot w).issued rd v escape
    WroteLate s w (oneReg (s.slot w).ctx rd v) { c := some escape } ((s.slot w).ctx.pc + 4#32) t ∧
      (t.slot w).dcCount = dcCountNext (s.slot w).dcCount escape := by
  have hl : Lands ((s.slot w).ctx.dst rd v ++ [cWrite escape]) (oneReg (s.slot w).ctx rd v) { c := some escape } :=
    .dstFlags _ rd v (.carry escape)
  refine ⟨(hl.wroteLate _).setSlot rfl rfl, ?_⟩
  rw [State.dcDone, State.slot_setSlot_same]
  dsimp only
  rw [State.done2, slot_retire, slot_issuing]
  rfl

end

end Sys2Proof.Machine
end

section
/-! PROOFS. O20: the fused units put together. -/

namespace Sys2Proof.Machine

/-- Settles O20: each fused unit writes its result, MACS its SAT and the delta coder its C and its count. -/
theorem fusedUnitsWriteTheirResult : Obligations.FusedUnitsWriteTheirResult := by
  unfold Obligations.FusedUnitsWriteTheirResult
  intro s w rd ra rb h hrd hra hrb x a b d go
  have hregs : (regOk rd && regOk ra && regOk rb) = true := by rw [hrd, hra, hrb]; rfl
  refine ⟨?_, ?_, ?_, ?_, ?_, ?_, ?_, ?_, ?_⟩
  · intro count ieee hcount
    have hok : (regOk rd && regOk ra && regOk rb && decide (count ≠ 3#2)) = true := by
      rw [hregs, decide_eq_true hcount]; rfl
    have hle : 2 ^ count.toNat ≤ 4 := by
      have := count.isLt
      have : count.toNat ≠ 3 := fun h => hcount (BitVec.eq_of_toNat_eq h)
      exact Nat.pow_le_pow_right (i := count.toNat) (j := 2) (by decide : 0 < 2) (by omega)
    rw [take_leBytes hle]
    exact .alu1 h (show exec _ s = execCrc w rd ra rb count ieee s from rfl) hok rfl (.aluPlain x rd _)
  · intro pos lenm1 hfield len
    have hok : bfOk rd ra pos lenm1 = true := by
      rw [bfOk, hrd, hra, decide_eq_true hfield]; rfl
    refine ⟨?_, ?_, _, fun i _ => getLsbD_setBits_field d a hfield, ?_⟩
    · exact .alu1 h (show exec _ s = execBfxu w rd ra pos lenm1 s from rfl) hok
        (congrArg (fun v => aluPlain (w32 v)) (bits_field a _ _)) (.aluPlain x rd _)
    · exact .alu1 h (show exec _ s = execBfxs w rd ra pos lenm1 s from rfl) hok
        (congrArg aluPlain (wInt_sextNat_field a _ _ hfield)) (.aluPlain x rd _)
    · exact .alu1 h (show exec _ s = execBfi w rd ra pos lenm1 s from rfl) hok rfl (.aluPlain x rd _)
  · intro cond hcond
    have hok : (regOk rd && regOk ra && regOk rb && decide (cond ≠ 15#4)) = true := by
      rw [hregs, decide_eq_true hcond]; rfl
    exact .alu1 h (show exec _ s = execCselSel w rd ra rb cond s from rfl) hok rfl (.aluPlain x rd _)
  · exact .alu1 h (show exec _ s = execCselMinmax w rd ra rb 0#2 s from rfl) hregs
      (congrArg aluPlain (ite_decide_eq_true (a.toInt ≤ b.toInt) a b)) (.aluPlain x rd _)
  · exact .alu1 h (show exec _ s = execCselMinmax w rd ra rb 1#2 s from rfl) hregs
      (congrArg aluPlain (ite_decide_eq_false (a.toInt ≤ b.toInt) a b)) (.aluPlain x rd _)
  · exact .alu1 h (show exec _ s = execCselMinmax w rd ra rb 2#2 s from rfl) hregs
      (congrArg aluPlain (ite_decide_eq_true (a.toNat ≤ b.toNat) a b)) (.aluPlain x rd _)
  · exact .alu1 h (show exec _ s = execCselMinmax w rd ra rb 3#2 s from rfl) hregs
      (congrArg aluPlain (ite_decide_eq_false (a.toNat ≤ b.toNat) a b)) (.aluPlain x rd _)
  · intro sh round k sum r
    have hclip : clip32 (macSum d a b sh.toNat round) = (BitVec.ofInt 32 r, decide (r ≠ sum)) :=
      macSum_eq d a b sh.toNat round ▸ clip32_eq sum
    have hl : Lands (x.dst rd (BitVec.ofInt 32 r) ++ satWrites (decide (r ≠ sum))) (oneReg x rd (BitVec.ofInt 32 r))
        { sat := decide (r ≠ sum) } := .dstFlags x rd _ (.satWrites _)
    refine .issues_to h (show exec _ s = execMacs w rd ra rb sh round s from rfl) hregs ?_ (hl.wroteLate (x.pc + 4#32))
    exact congrArg (fun p : W32 × Bool => (s.issuing w).done2 w (s.slot w).issued (x.dst rd p.1 ++ satWrites p.2)) hclip
  · intro table diff width escape code
    have ht : table.toNat < 4 := table.isLt
    have hescape : deltaEscapes table.toNat diff = escape := rfl
    have hcode : deltaWord table.toNat diff = code := rfl
    refine ⟨fun hd => ?_, fun ha => ?_⟩
    · refine .issues_to h (show exec _ s = execDce w rd ra rb table s from rfl) hregs
        (t := (s.issuing w).dcDone w (s.slot w).issued rd code escape) ?_ (dcDone_wroteLate rd code escape)
      have hc : deltaCode table.toNat ((s.slot w).issued.ctx.rd ra - (s.slot w).issued.ctx.rd rb) =
          if escape then none else some code := by
        rw [← hescape, ← hcode, ← deltaCode_eq, ← hd]
        rfl
      rw [hc]
      cases he : escape with
      | true => rw [← hcode, deltaWord_of_escapes (hescape.trans he)]; rfl
      | false => rfl
    · refine .issues_to h (show exec _ s = execDcd w rd ra rb table s from rfl) hregs
        (t := (s.issuing w).dcDone w (s.slot w).issued rd (if escape then b else b + diff) escape) ?_
        (dcDone_wroteLate rd _ escape)
      have hc : deltaDecode table.toNat ((s.slot w).issued.ctx.rd ra) = some (if escape then none else some diff) := by
        rw [← hescape, ← deltaDecode_deltaWord ht, hcode, ← ha]
        rfl
      rw [hc]
      cases escape with
      | true => rfl
      | false => rfl

end Sys2Proof.Machine
end

section
/-! SUPPORT. Traps and moves of a thread (R194, R195, R210, R217, R235, section 6.3): a trap from any state that differs from
the one before in its slot only, the window traps, and what an instruction leaves that edits its thread as it
retires. -/

namespace Sys2Proof.Machine

/-! ### Traps -/

section
variable {s u t : State} {w : SlotId} {vec : Nat} {pc : W32}

/-- A trap from a state that differs in its slot only, with the same registers once the pending writes have landed. -/
theorem Trapped.of_landed (h : Trapped u w vec pc t) (honly : OnlySlot s w u)
    (hregs : ∀ p, (u.landed w).preg p = (s.landed w).preg p) (hwin : (u.landed w).win = (s.landed w).win) :
    Trapped s w vec pc t := by
  obtain ⟨tT, tpc, t62, t63, twin, tregs, tlate, tonly⟩ := h
  exact ⟨tT, tpc, t62, t63, twin.trans hwin, fun p h62 h63 => (tregs p h62 h63).trans (hregs p), tlate, honly.trans tonly⟩

theorem Trapped.of_issuing (h : Trapped (s.issuing w) w vec pc t) : Trapped s w vec pc t :=
  h.of_landed (.issuing s w) (fun _ => by rw [landed_issuing]) (by rw [landed_issuing])

/-- What a trap leaves in its slot beside the thread. -/
theorem slot_trap (hT : (s.slot w).ctx.inT = false) (h3 : vec ≠ 3) (h4 : vec ≠ 4) (st : Status) (pc : W32) :
    ∃ c n, (s.trap w vec st pc).slot w =
      { s.slot w with late := [], ctx := c, winsel := n, saveWait := false, shadow := none } := by
  obtain ⟨st', h⟩ := trap_eq hT h3 h4 st pc
  rw [h, State.slot_setSlot_same]
  exact ⟨_, _, rfl⟩

/-- The window traps enter T as every trap does, but the status byte is a free value (Table 7-12, assumption 6). -/
theorem trapped_windowTrap (hT : (s.slot w).ctx.inT = false) (hvec : vec = 3 ∨ vec = 4) (st : Status) (pc : W32) :
    Trapped s w vec pc (s.trap w vec st pc) := by
  have hvec' : vec < 256 := by omega
  set code := ((s.landAll w).fresh).1.toNat % 256 with hcode
  have hlt : code < 256 := Nat.mod_lt _ (by decide)
  have htrap : s.trap w vec st pc = ((s.landAll w).fresh).2.setSlot w
      { s.slot w with
        late := []
        ctx := { ((s.landed w).setPreg 62 pc).setPreg 63 (w32 (code + vec * 0x100)) with
          inT := true, pc := w32 (vec * 16) }
        winsel := (s.landed w).win, saveWait := false, shadow := none } := by
    unfold State.trap State.trapStatus
    dsimp only
    rw [slot_landAll, if_pos hvec]
    dsimp only
    rw [if_neg (by rw [landed_inT, hT]; decide)]
    rfl
  have hreg : ∀ p, Ctx.preg { ((s.landed w).setPreg 62 pc).setPreg 63 (w32 (code + vec * 0x100)) with
      inT := true, pc := w32 (vec * 16) } p =
        if p = 63 then w32 (code + vec * 0x100) else if p = 62 then pc else (s.landed w).preg p := fun p =>
    (Ctx.preg_setPreg _ 63 p _).trans (congrArg (fun v => if p = 63 then _ else v) (Ctx.preg_setPreg _ 62 p _))
  have honly : OnlySlot s w ((s.landAll w).fresh).2 := (OnlySlot.landAll s w).trans ⟨rfl, fun _ _ => rfl⟩
  unfold Trapped
  rw [htrap, State.slot_setSlot_same]
  refine ⟨rfl, rfl, ?_, ?_, rfl, fun p h62 h63 => ?_, rfl, honly.trans (.setSlot _ w _)⟩
  · rw [hreg]; rfl
  · rw [hreg, if_pos rfl, bits_w32 _ _ _ (by decide)]
    omega
  · rw [hreg, if_neg h63, if_neg h62]

/-- An access fault from any state outside T. -/
theorem trapped_accessFault (hT : (u.slot w).ctx.inT = false) {kind space : Nat} (hk : kind < 8) (hs : space < 4)
    (size : Nat) (store : Bool) (a pc : W32) :
    let t := u.accessFault w kind space size store a pc
    Trapped u w 2 pc t ∧ (t.slot w).faultAddr = a ∧ (t.slot w).faultPc = pc &&& 0x7FFF#32 ∧
      bits (t.slot w).faultInfo 10 8 = kind := by
  intro t
  obtain ⟨hkind, -, -⟩ := faultInfo_fields (kindStatus kind) hk hs size store
  set info := w32 ((kindStatus kind).code + kind * 0x100 + b2n store * 0x800 + space * 0x1000 + size * 0x4000)
  set v := u.setSlot w { u.slot w with faultAddr := a, faultInfo := info, faultPc := pc &&& 0x7FFF#32 }
  have hv : v.slot w = { u.slot w with faultAddr := a, faultInfo := info, faultPc := pc &&& 0x7FFF#32 } :=
    State.slot_setSlot_same _ _ _
  have hvT : (v.slot w).ctx.inT = false := by rw [hv]; exact hT
  have hl : v.landed w = u.landed w := State.landed_congr (by rw [hv]) (by rw [hv]) rfl
  have ht : t = v.trap w 2 (kindStatus kind) pc := rfl
  obtain ⟨c, n, hslot⟩ := slot_trap hvT (vec := 2) (by decide) (by decide) (kindStatus kind) pc
  refine ⟨?_, ?_⟩
  · exact (trapped_trap hvT (by decide) (by decide) (by decide) _ pc).of_landed (.setSlot u w _) (fun _ => by rw [hl])
      (by rw [hl])
  · rw [ht, hslot, hv]
    exact ⟨rfl, rfl, hkind⟩

end

section
variable {s : State} {w : SlotId} (h : Issues s w)
include h

/-- A word that is not defined traps to vector 1 (R185). -/
theorem Issues.issue_undef {ok : Bool} (hok : ok = false) (f : Slot → State → State) :
    s.issue w ok f = .next ((s.issuing w).undef w) := by
  obtain ⟨hthread, hheld, hrun, hshadow, hpc⟩ := h
  obtain ⟨n, hn⟩ := Option.isSome_iff_exists.mp hthread
  have hhalt : ((s.slot w).halted && !(s.slot w).stepOne) = false := by
    rcases hrun with h | h <;> simp [h]
  unfold State.issue
  dsimp only
  rw [hn, hheld, hhalt, hshadow]
  simp only [Option.isNone_some, Option.isSome_none, Bool.or_false, Bool.false_eq_true, if_false, if_neg (Nat.not_le.mpr hpc),
    hok]
  rfl

variable (hT : (s.slot w).ctx.inT = false)
include hT

theorem Completes.undefs {c : Instr} {ok : Bool} {f : Slot → State → State} (hx : exec c s = s.issue w ok f)
    (hok : ok = false) : Completes c s (Trapped s w 1 (s.slot w).ctx.pc) := by
  have hT' : ((s.issuing w).slot w).ctx.inT = false := by rw [slot_issuing]; exact hT
  have hpc : ((s.issuing w).slot w).ctx.pc = (s.slot w).ctx.pc := by rw [slot_issuing]; rfl
  refine .next (hx.trans (h.issue_undef hok f)) ?_
  rw [State.undef, hpc]
  exact (trapped_trap hT' (by decide) (by decide) (by decide) _ _).of_issuing

/-- An instruction that ends in a trap. -/
theorem Completes.traps {c : Instr} {ok : Bool} {f : Slot → State → State} {vec : Nat} (hx : exec c s = s.issue w ok f)
    (hok : ok = true) (h3 : vec ≠ 3) (h4 : vec ≠ 4) (hvec : vec < 256) {st : Status}
    (hf : f (s.slot w).issued (s.issuing w) = (s.issuing w).trap w vec st (s.slot w).ctx.pc) :
    Completes c s (Trapped s w vec (s.slot w).ctx.pc) :=
  .issues_to h hx hok hf (trapped_trap (by rw [slot_issuing]; exact hT) h3 h4 hvec st _).of_issuing

/-- A jump to an address outside I-space (R193, section 6.3). -/
theorem Completes.fetchFaults {c : Instr} {ok : Bool} {f : Slot → State → State} {a : W32} (hx : exec c s = s.issue w ok f)
    (hok : ok = true) (hf : f (s.slot w).issued (s.issuing w) = (s.issuing w).fetchFault w a (s.slot w).ctx.pc) :
    Completes c s (fun t => Trapped s w 2 (s.slot w).ctx.pc t ∧ (t.slot w).faultAddr = a ∧
      bits (t.slot w).faultInfo 10 8 = 5) := by
  obtain ⟨htrap, haddr, -, hkind⟩ := trapped_accessFault (u := s.issuing w) (w := w) (by rw [slot_issuing]; exact hT)
    (kind := 5) (space := 0) (by decide) (by decide) 2 false a (s.slot w).ctx.pc
  exact .issues_to h hx hok hf ⟨htrap.of_issuing, haddr, hkind⟩

end

/-! ### Edits of the thread as an instruction retires -/

section
variable {s t : State} {w : SlotId}

theorem OnlySlot.saved (s : State) (w : SlotId) : OnlySlot s w (s.saved w) := by
  unfold State.saved
  split
  · exact (OnlySlot.landAll s w).trans (.setSlot _ w _)
  · exact .refl s w

/-- Save-area state that has arrived changes nothing in a thread without pending writes. -/
theorem slot_saved (hl : (s.slot w).late = []) :
    ((s.saved w).slot w).ctx = (s.slot w).ctx ∧ ((s.saved w).slot w).late = [] := by
  unfold State.saved
  split
  · rw [State.slot_setSlot_same, slot_landAll]
    refine ⟨?_, rfl⟩
    unfold State.landed
    rw [hl]
    rfl
  · exact ⟨rfl, hl⟩

/-- The thread of slot `w` edited by `g`, with save-area state there. -/
def State.editSaved (s : State) (w : SlotId) (g : Ctx → Ctx) : State :=
  (s.setSlot w { s.slot w with ctx := g (s.slot w).ctx }).saved w

theorem slot_editSaved (hl : (s.slot w).late = []) (g : Ctx → Ctx) :
    ((s.editSaved w g).slot w).ctx = g (s.slot w).ctx ∧ ((s.editSaved w g).slot w).late = [] := by
  have hslot := State.slot_setSlot_same s w { s.slot w with ctx := g (s.slot w).ctx }
  obtain ⟨hc, hlate⟩ := slot_saved (s := s.setSlot w { s.slot w with ctx := g (s.slot w).ctx }) (w := w) (by rw [hslot, hl])
  exact ⟨hc.trans (by rw [hslot]), hlate⟩

theorem OnlySlot.editSaved (s : State) (w : SlotId) (g : Ctx → Ctx) : OnlySlot s w (s.editSaved w g) :=
  (OnlySlot.setSlot s w _).trans (.saved _ w)

/-- An instruction that writes at distance 1, and then edits its thread (R194, R195). -/
theorem retire_editSaved (ws : List PWrite) (pc : W32) (g : Ctx → Ctx) :
    let t := ((s.issuing w).retire w ws [] pc).editSaved w g
    (t.slot w).ctx = g (((s.issuing w).retire w ws [] pc).slot w).ctx ∧ (t.slot w).late = [] ∧ OnlySlot s w t := by
  obtain ⟨hc, hl⟩ := slot_editSaved (s := (s.issuing w).retire w ws [] pc) (w := w) (by rw [slot_retire]) g
  exact ⟨hc, hl, ((OnlySlot.issuing s w).trans (.retire _ w _ _ _)).trans (.editSaved _ w g)⟩

/-- What an instruction without writes at distance 1 leaves in its thread. -/
theorem ctx_retire_late (ws : List PWrite) (pc : W32) :
    (((s.issuing w).retire w [] ws pc).slot w).ctx = { s.landed w with pc := pc } := by
  rw [slot_retire, List.append_nil, ← landed_issuing]
  rfl

/-- An instruction that writes no register and edits its thread. -/
theorem Completes.edits {c : Instr} {ok : Bool} {f : Slot → State → State} (h : Issues s w) (hx : exec c s = s.issue w ok f)
    (hok : ok = true) (pc : W32) (g : Ctx → Ctx)
    (hf : f (s.slot w).issued (s.issuing w) = ((s.issuing w).retire w [] [] pc).editSaved w g) :
    Completes c s (fun t => (t.slot w).ctx = g { s.landed w with pc := pc } ∧ (t.slot w).late = [] ∧ OnlySlot s w t) := by
  obtain ⟨hc, hl, honly⟩ := retire_editSaved (s := s) (w := w) [] pc g
  exact .issues_to h hx hok hf ⟨hc.trans (congrArg g (ctx_retire_late [] pc)), hl, honly⟩

/-- A change of the slot beside its thread leaves what an instruction of distance 1 has done. -/
theorem Wrote.setSlot {res : Nat → Option W32} {fs : FlagSet} {pc : W32} (h : Wrote s w res fs pc t) {z : Slot}
    (hc : z.ctx = (t.slot w).ctx) (hl : z.late = (t.slot w).late) : Wrote s w res fs pc (t.setSlot w z) := by
  obtain ⟨hctx, hlate, honly⟩ := h
  have hslot := State.slot_setSlot_same t w z
  exact ⟨by rw [hslot, hc]; exact hctx, by rw [hslot, hl]; exact hlate, honly.trans (.setSlot t w z)⟩

end

end Sys2Proof.Machine
end

section
/-! SUPPORT. Branches (R192, R193, R219, R220): the prediction of BCC, each of its outcomes, and the squash of the shadow of a
wrong prediction. -/

namespace Sys2Proof.Machine

/-- The prediction by the hint: backward branches, always, or never (R192). -/
theorem bccPredict_eq {hint : BitVec 2} (h : hint ≠ 3#2) (off : BitVec 16) :
    bccPredict hint off = if hint = 0#2 then off.msb else decide (hint = 1#2) := by
  unfold bccPredict
  split
  · rfl
  · rfl
  next h0 h1 => rw [if_neg h0, decide_eq_false h1]

section
variable {s : State} {w : SlotId}

/-- The issue of a slot with the shadow of a wrong prediction is squashed, and ends at the shadow's address (R220). -/
theorem issue_shadow {n : Nat} (hthread : (s.slot w).thread = some n) (hheld : (s.slot w).held = none)
    (hhalt : (s.slot w).halted = false) {sh : Shadow} (hsh : (s.slot w).shadow = some sh) {a : W32}
    (ha : sh.target = some a) (ok : Bool) (f : Slot → State → State) : s.issue w ok f =
      .next ((s.issuing w).setSlot w { (s.slot w).issued with ctx := { (s.slot w).ctx with pc := a } }) := by
  unfold State.issue
  simp only [hthread, hheld, hhalt, hsh, ha, Option.isNone_some, Option.isSome_none, Bool.or_false, Bool.false_and,
    Bool.false_eq_true, if_false]
  rfl

variable (h : Issues s w) {cond : BitVec 4} {hint : BitVec 2} {off : BitVec 16}
  (hok : (decide (cond ≠ 15#4) && decide (hint ≠ 3#2)) = true) {taken predicted : Bool}
  (htaken : condHolds cond.toNat (s.slot w).ctx.flags = taken) (hpred : bccPredict hint off = predicted) {target : W32}
  (htarget : (s.slot w).ctx.pc + 4#32 + (off.signExtend 32 <<< 2) = target)
include h hok htaken hpred htarget

/-- A right prediction goes on where the branch does. -/
theorem Completes.bcc_right (hin : taken = true → target.toNat < 0x8000) (hp : predicted = taken) :
    Completes (.bcc w cond hint off) s (Wrote s w noReg {} (if taken then target else (s.slot w).ctx.pc + 4#32)) := by
  subst htaken hpred htarget
  have hinside : ¬ ((condHolds cond.toNat (s.slot w).ctx.flags &&
      !decide (((s.slot w).ctx.pc + 4#32 + (off.signExtend 32 <<< 2)).toNat < 0x8000)) = true) := fun ha => by
    rw [Bool.and_eq_true, Bool.not_eq_true', decide_eq_false_iff_not] at ha
    exact ha.2 (hin ha.1)
  exact .issues_to h (show exec _ s = execBcc w cond hint off s from rfl) hok
    ((if_pos hp).trans ((if_neg hinside).trans rfl)) (Lands.nil.wrote _)

/-- A prediction towards a target outside I-space issues nothing, and the branch is not taken (R193). -/
theorem Completes.bcc_outside (hout : 0x8000 ≤ target.toNat) (hp : predicted = true) (ht : taken = false) :
    Completes (.bcc w cond hint off) s (Wrote s w noReg {} ((s.slot w).ctx.pc + 4#32)) := by
  subst hpred htarget
  have hwrong : ¬ (bccPredict hint off = condHolds cond.toNat (s.slot w).ctx.flags) := by
    rw [hp, htaken, ht]; decide
  have hinside : (bccPredict hint off &&
      !decide (((s.slot w).ctx.pc + 4#32 + (off.signExtend 32 <<< 2)).toNat < 0x8000)) = true := by
    rw [hp, decide_eq_false (Nat.not_lt.mpr hout)]; rfl
  exact .issues_to h (show exec _ s = execBcc w cond hint off s from rfl) hok
    ((if_neg hwrong).trans ((if_pos hinside).trans rfl)) (Lands.nil.wrote _)

/-- A taken branch to a target outside I-space faults (R193, section 6.3). -/
theorem Completes.bcc_faults (hout : 0x8000 ≤ target.toNat) (hp : predicted = true) (ht : taken = true)
    (hT : (s.slot w).ctx.inT = false) : Completes (.bcc w cond hint off) s (fun t =>
      Trapped s w 2 (s.slot w).ctx.pc t ∧ (t.slot w).faultAddr = target ∧ (t.slot w).faultPc = (s.slot w).ctx.pc ∧
        bits (t.slot w).faultInfo 10 8 = 5) := by
  subst hpred htarget
  have hright : bccPredict hint off = condHolds cond.toNat (s.slot w).ctx.flags := by rw [hp, htaken, ht]
  have hinside : (condHolds cond.toNat (s.slot w).ctx.flags &&
      !decide (((s.slot w).ctx.pc + 4#32 + (off.signExtend 32 <<< 2)).toNat < 0x8000)) = true := by
    rw [htaken, ht, decide_eq_false (Nat.not_lt.mpr hout)]; rfl
  obtain ⟨-, -, -, -, hpc⟩ := id h
  have hgone := ctx_retire_late (s := s) (w := w) [] ((s.slot w).ctx.pc + 4#32)
  set u := (s.issuing w).retire w [] [] ((s.slot w).ctx.pc + 4#32) with hu
  have hl : u.landed w = (u.slot w).ctx := by
    unfold State.landed
    rw [hu, slot_retire]
    rfl
  have huT : (u.slot w).ctx.inT = false := by
    rw [hgone]
    exact (landed_inT s w).trans hT
  obtain ⟨htrap, haddr, hfpc, hkind⟩ := trapped_accessFault huT (kind := 5) (space := 0) (by decide) (by decide) 2 false
    ((s.slot w).ctx.pc + 4#32 + (off.signExtend 32 <<< 2)) (s.slot w).ctx.pc
  refine .issues_to h (show exec _ s = execBcc w cond hint off s from rfl) hok
    ((if_pos hright).trans ((if_pos hinside).trans rfl)) ⟨?_, haddr, hfpc.trans (pc_and_mask hpc), hkind⟩
  exact htrap.of_landed ((OnlySlot.issuing s w).trans (.retire _ w _ _ _)) (fun p => by rw [hl, hgone]; rfl)
    (by rw [hl, hgone])

/-- A wrong prediction: the next issue of the slot is squashed, and ends where the branch goes (R219, R220). -/
theorem Completes.bcc_wrong (hin : target.toNat < 0x8000) (hp : predicted ≠ taken) :
    Completes (.bcc w cond hint off) s (fun t =>
      Wrote s w noReg {} (if predicted then target else (s.slot w).ctx.pc + 4#32) t ∧
        ((s.slot w).halted = false → Completes (.nop w) t (fun u =>
          (u.slot w).ctx = { (t.slot w).ctx with pc := if taken then target else (s.slot w).ctx.pc + 4#32 } ∧
            OnlySlot s w u))) := by
  subst htaken hpred htarget
  set target := (s.slot w).ctx.pc + 4#32 + (off.signExtend 32 <<< 2)
  set taken := condHolds cond.toNat (s.slot w).ctx.flags
  set predicted := bccPredict hint off
  have hinside : ¬ ((predicted && !decide (target.toNat < 0x8000)) = true) := by
    rw [decide_eq_true hin, Bool.not_true, Bool.and_false]; decide
  set t1 := (s.issuing w).retire w [] [] (if predicted then target else (s.slot w).ctx.pc + 4#32) with ht1
  set sh : Shadow :=
    { target := if taken then (if decide (target.toNat < 0x8000) then some target else none)
        else some ((s.slot w).ctx.pc + 4#32)
      pcB := (s.slot w).ctx.pc
      raw := target }
  have hsh : sh.target = some (if taken then target else (s.slot w).ctx.pc + 4#32) := by
    simp only [sh, decide_eq_true hin, if_true]
    split <;> rfl
  set t := t1.setSlot w { t1.slot w with shadow := some sh } with htdef
  have hslot : t.slot w = { t1.slot w with shadow := some sh } := State.slot_setSlot_same _ _ _
  have hwrote : Wrote s w noReg {} (if predicted then target else (s.slot w).ctx.pc + 4#32) t :=
    (Lands.nil.wrote _).setSlot rfl rfl
  refine .issues_to h (show exec _ s = execBcc w cond hint off s from rfl) hok
    (t := t) ((if_neg hp).trans ((if_neg hinside).trans rfl)) ⟨hwrote, fun hhalt => ?_⟩
  obtain ⟨hthread, hheld, -, -, -⟩ := h
  obtain ⟨n, hn⟩ := Option.isSome_iff_exists.mp hthread
  have hslot1 : t1.slot w = { (s.slot w).issued with late := [], ctx := (t1.slot w).ctx } := by
    rw [ht1, slot_retire, slot_issuing]
  obtain ⟨-, -, honly⟩ := hwrote
  have hsquash : exec (.nop w) t = .next _ := issue_shadow (s := t) (n := n) (by rw [hslot, hslot1]; exact hn)
    (by rw [hslot, hslot1]; exact hheld) (by rw [hslot, hslot1]; exact hhalt) (by rw [hslot]) hsh true
    (fun x t => t.done1 w x [])
  refine .next hsquash ⟨?_, honly.trans ((OnlySlot.issuing t w).trans (.setSlot _ w _))⟩
  rw [State.slot_setSlot_same]

end

end Sys2Proof.Machine
end

section
/-! PROOFS. O24: the branches, jumps, calls and returns put together. -/

namespace Sys2Proof.Machine

section
variable {s : State} {w : SlotId} (h : Issues s w) {c : Instr} {ok : Bool}
include h

/-- A call that does not overflow the return stack, or drops its oldest entry (R194, R238). -/
theorem Completes.calls {f : Slot → State → State} (hx : exec c s = s.issue w ok f) (hok : ok = true) {a : W32}
    (hroom : (s.slot w).ctx.rs.length < 8 ∨ (s.slot w).ctx.rsTrap = false)
    (hf : f (s.slot w).issued (s.issuing w) = (s.issuing w).callTo w (s.slot w).issued a) :
    Completes c s (fun t => (t.slot w).late = [] ∧ OnlySlot s w t ∧ (t.slot w).ctx =
      { s.landed w with pc := a, rs := (((s.slot w).ctx.pc + 4#32) :: (s.landed w).rs).take 8 }) := by
  have hfits : ¬ ((decide (8 ≤ (s.slot w).issued.ctx.rs.length) && (s.slot w).issued.ctx.rsTrap) = true) := fun ha => by
    rw [Bool.and_eq_true, decide_eq_true_eq] at ha
    rcases hroom with hlt | hwrap
    · exact Nat.not_le.mpr hlt ha.1
    · exact absurd ha.2 (by rw [show (s.slot w).issued.ctx.rsTrap = false from hwrap]; decide)
  obtain ⟨t, ht, hctx, hlate, honly⟩ := Completes.edits h hx hok a
    (fun y => { y with rs := pushRs y.rs ((s.slot w).ctx.pc + 4#32) }) (hf.trans ((if_neg hfits).trans rfl))
  exact ⟨t, ht, hlate, honly, hctx⟩

/-- A call that overflows the return stack in TRAP mode (R194). -/
theorem Completes.call_traps {f : Slot → State → State} (hT : (s.slot w).ctx.inT = false) (hx : exec c s = s.issue w ok f)
    (hok : ok = true) {a : W32} (hfull : 8 ≤ (s.slot w).ctx.rs.length) (htrap : (s.slot w).ctx.rsTrap = true)
    (hf : f (s.slot w).issued (s.issuing w) = (s.issuing w).callTo w (s.slot w).issued a) :
    Completes c s (Trapped s w 5 (s.slot w).ctx.pc) := by
  have hover : (decide (8 ≤ (s.slot w).issued.ctx.rs.length) && (s.slot w).issued.ctx.rsTrap) = true := by
    rw [Bool.and_eq_true, decide_eq_true_eq]
    exact ⟨hfull, htrap⟩
  exact .traps h hT hx hok (by decide) (by decide) (by decide) (hf.trans (if_pos hover))

end

/-- A jump to a register's address inside I-space. -/
theorem jumpTo_inside {s : State} {w : SlotId} {a : W32} (ha : a.toNat ≤ 0x7FFF) (pc : W32) (f : W32 → State) :
    s.jumpTo w a pc f = f (a &&& 0x7FFC#32) := if_neg (Nat.not_lt.mpr ha)

/-- Settles O24: where each branch, jump, call and return leads, and what it does to the return stack. -/
theorem branchesAndCallsMoveThePc : Obligations.BranchesAndCallsMoveThePc := by
  unfold Obligations.BranchesAndCallsMoveThePc
  refine ⟨?_, ?_⟩
  · intro s w cond hint off h hcond hhint x target taken predicted
    have hok : (decide (cond ≠ 15#4) && decide (hint ≠ 3#2)) = true := by
      rw [decide_eq_true hcond, decide_eq_true hhint]; rfl
    have hpred : bccPredict hint off = predicted := bccPredict_eq hhint off
    refine ⟨fun hin hp => .bcc_right h hok rfl hpred rfl (fun _ => hin) hp,
      fun hin hp => .bcc_wrong h hok rfl hpred rfl hin hp, fun hout ht => ?_,
      fun hout ht hp hT => .bcc_faults h hok rfl hpred rfl hout hp ht hT⟩
    cases hp : predicted with
    | true => exact .bcc_outside h hok rfl (hpred.trans hp) rfl hout rfl ht
    | false =>
      have hright := Completes.bcc_right h hok rfl (hpred.trans hp) (target := target) rfl
        (fun hc => absurd (ht.symm.trans hc) (by decide)) ht.symm
      rw [show condHolds cond.toNat (s.slot w).ctx.flags = false from ht] at hright
      exact hright
  · intro s w ra word h hra x b jump dest pushed
    refine ⟨?_, fun hle => ?_, fun hgt hT => ?_, fun hroom => ?_, fun hroom hle => ?_,
      fun hfull htrap hT => ⟨?_, fun hle => ?_⟩,
      fun a rest hrs => ⟨fun hle => ?_, fun hgt hT => ?_⟩, fun hrs hT => ?_⟩
    · exact .issues h (show exec _ s = execJmp w word s from rfl) rfl (Lands.nil.wrote _)
    · exact .issues_to h (show exec _ s = execJmpr w ra s from rfl) hra (jumpTo_inside hle _ _) (Lands.nil.wrote _)
    · exact .fetchFaults h hT (show exec _ s = execJmpr w ra s from rfl) hra (if_pos hgt)
    · exact .calls h (show exec _ s = execCall w word s from rfl) rfl hroom rfl
    · exact .calls h (show exec _ s = execCallr w ra s from rfl) hra hroom (jumpTo_inside hle _ _)
    · exact .call_traps h hT (show exec _ s = execCall w word s from rfl) rfl hfull htrap rfl
    · exact .call_traps h hT (show exec _ s = execCallr w ra s from rfl) hra hfull htrap (jumpTo_inside hle _ _)
    · refine .edits h (show exec _ s = execRet w s from rfl) rfl a (fun y => { y with rs := rest }) ?_
      rw [show (s.slot w).issued.ctx.rs = a :: rest from hrs]
      exact if_neg (Nat.not_lt.mpr hle)
    · refine .fetchFaults h hT (show exec _ s = execRet w s from rfl) rfl (a := a) ?_
      rw [show (s.slot w).issued.ctx.rs = a :: rest from hrs]
      exact if_pos hgt
    · refine .traps h hT (show exec _ s = execRet w s from rfl) rfl (vec := 6) (st := .ok) (by decide) (by decide) (by decide) ?_
      rw [show (s.slot w).issued.ctx.rs = [] from hrs]
      rfl

end Sys2Proof.Machine
end

section
/-! SUPPORT. Windows, special registers and the way out of T (Tables 6-3 and 7-7, R150, R195, R197, R198, R217, R236). -/

namespace Sys2Proof.Machine

theorem length_freeEntries (d k : Nat) : (freeEntries d k).length = d := by
  induction d generalizing k with
  | zero => rfl
  | succ d ih => rw [freeEntries, List.length_cons, ih]

/-- The low bits of a word as a shorter one. -/
theorem ofNat_bits (v : W32) (hi : Nat) : BitVec.ofNat (hi + 1) (bits v hi 0) = BitVec.ofNat (hi + 1) v.toNat := by
  refine BitVec.eq_of_toNat_eq ?_
  rw [BitVec.toNat_ofNat, BitVec.toNat_ofNat, bits, Nat.shiftRight_zero, Nat.sub_zero, Nat.mod_mod]

theorem wcurWord_eq (x : Ctx) : x.wcurWord = BitVec.ofNat 32 (x.win.toNat + (if x.inT then 4 else 0)) := by
  unfold Ctx.wcurWord b2n
  split <;> rfl

theorem rspWord_eq (x : Ctx) : x.rspWord = BitVec.ofNat 32 (x.rs.length + (if x.rsTrap then 256 else 0)) := by
  unfold Ctx.rspWord b2n
  split <;> rfl

/-- A write of rsp sets DEPTH and MODE. -/
theorem landOne_rsp (p : Ctx × Nat) (v : W32) : (landOne p { tgt := .rsp, val := v }).1.rs.length = min 8 (bits v 3 0) ∧
    (landOne p { tgt := .rsp, val := v }).1.rsTrap = bit v 8 := by
  unfold landOne
  dsimp only
  split
  next hd => exact ⟨hd.symm, rfl⟩
  next => exact ⟨length_freeEntries _ _, rfl⟩

/-- The pending write of WRS to a special register (Table 6-3). -/
def wrsWrites (sr : Nat) (v : W32) : List PWrite :=
  match sr with
  | 1 => [{ tgt := .wcur, val := v }]
  | 2 => [{ tgt := .wlive, val := v }]
  | 3 => [{ tgt := .rsp, val := v }]
  | 4 => [{ tgt := .flags flagsMask, val := v }]
  | _ => []

/-- WRS is defined for flags and tid, and in T for wcur, wlive and rsp (R150). -/
def wrsDefined (sr : Nat) (inT : Bool) : Bool :=
  decide (sr = 4) || decide (sr = 5) || (decide (1 ≤ sr ∧ sr ≤ 3) && inT)

theorem exec_wrs (s : State) (w : SlotId) (sr : BitVec 5) (ra : RegCode) : exec (.wrs w sr ra) s =
    s.issue w (regOk ra && wrsDefined sr.toNat (s.slot w).ctx.inT)
      (fun x t => t.done2 w x (wrsWrites sr.toNat (x.ctx.rd ra))) := rfl

theorem exec_rspush (s : State) (w : SlotId) (ra : RegCode) : exec (.rspush w ra) s =
    s.issue w (regOk ra && (s.slot w).ctx.inT && decide ((s.slot w).ctx.rs.length < 8)) (fun x t =>
      (t.done1 w x []).editSaved w (fun y => { y with rs := pushRs y.rs (x.ctx.rd ra &&& 0x7FFC#32) })) := rfl

theorem exec_rspop (s : State) (w : SlotId) (rd : RegCode) : exec (.rspop w rd) s =
    s.issue w (regOk rd && (s.slot w).ctx.inT && decide ((s.slot w).ctx.rs ≠ [])) (fun x t =>
      (t.done1 w x (x.ctx.dst rd (x.ctx.rs.headD 0#32))).editSaved w (fun y => { y with rs := y.rs.tail })) := rfl

section
variable {s : State} {w : SlotId} (h : Issues s w) {c : Instr} {ok : Bool} {f : Slot → State → State}
include h

/-- ENTER or LEAVE without a window to go to (R195). -/
theorem Completes.windowTraps (hT : (s.slot w).ctx.inT = false) (hx : exec c s = s.issue w ok f) (hok : ok = true)
    {vec : Nat} (hvec : vec = 3 ∨ vec = 4) {st : Status}
    (hf : f (s.slot w).issued (s.issuing w) = (s.issuing w).trap w vec st (s.slot w).ctx.pc) :
    Completes c s (Trapped s w vec (s.slot w).ctx.pc) :=
  .issues_to h hx hok hf (trapped_windowTrap (by rw [slot_issuing]; exact hT) hvec st _).of_issuing

/-- TEXIT leaves T once every pending write has landed (R197, R217). -/
theorem Completes.texit {ra : RegCode} (hT : (s.slot w).ctx.inT = true) (hra : regOk ra = true)
    (hle : ((s.slot w).ctx.rd ra).toNat ≤ 0x7FFF) : Completes (.texit w ra) s (fun t =>
      (t.slot w).ctx = { s.landed w with inT := false, pc := (s.slot w).ctx.rd ra &&& 0x7FFC#32 } ∧
        (t.slot w).late = [] ∧ OnlySlot s w t) := by
  have hok : (regOk ra && (s.slot w).ctx.inT) = true := by rw [hra, hT]; rfl
  refine .issues_to h (show exec _ s = execTexit w ra s from rfl) hok (jumpTo_inside hle _ _) ?_
  rw [State.slot_setSlot_same, slot_landAll, landed_issuing]
  exact ⟨rfl, rfl, ((OnlySlot.issuing s w).trans (.landAll _ w)).trans (.setSlot _ w _)⟩

/-- RDS of a special register (Table 6-3). -/
theorem Completes.rds {rd : RegCode} (hrd : regOk rd = true) {sr : BitVec 5} (hsr : sr.toNat < 6) {v : W32}
    (hv : (s.slot w).issued.special w sr.toNat = v) :
    Completes (.rds w rd sr) s (Wrote s w (oneReg (s.slot w).ctx rd v) {} ((s.slot w).ctx.pc + 4#32)) := by
  have hok : (regOk rd && decide (sr.toNat < 6)) = true := by rw [hrd, decide_eq_true hsr]; rfl
  refine .issues_to h (show exec _ s = execRds w rd sr s from rfl) hok
    (t := (s.issuing w).retire w ((s.slot w).ctx.dst rd v) [] ((s.slot w).ctx.pc + 4#32)) ?_ ((Lands.dst _ rd v).wrote _)
  rw [← hv]
  rfl

/-- RSPOP writes the newest entry to rd and drops it (Table 7-7). -/
theorem Completes.rspop {rd : RegCode} (hT : (s.slot w).ctx.inT = true) (hrd : regOk rd = true) {a : W32} {rest : List W32}
    (hrs : (s.slot w).ctx.rs = a :: rest) : Completes (.rspop w rd) s (fun t =>
      (∀ p, (t.slot w).ctx.preg p = (oneReg (s.slot w).ctx rd a p).getD ((s.landed w).preg p)) ∧
        (t.slot w).ctx.rs = (s.landed w).rs.tail ∧ (t.slot w).ctx.pc = (s.slot w).ctx.pc + 4#32 ∧ OnlySlot s w t) := by
  have htop : (s.slot w).ctx.rs.headD 0#32 = a := by rw [hrs]; rfl
  obtain ⟨hctx, -, honly⟩ := retire_editSaved (s := s) (w := w) ((s.slot w).ctx.dst rd a) ((s.slot w).ctx.pc + 4#32)
    (fun y => { y with rs := y.rs.tail })
  obtain ⟨hregs, -, hrest⟩ := (Lands.dst (s.slot w).ctx rd a).slot_retire (s := s.issuing w) (w := w) []
    ((s.slot w).ctx.pc + 4#32)
  rw [landed_issuing] at hregs hrest
  generalize (((s.issuing w).retire w ((s.slot w).ctx.dst rd a) [] ((s.slot w).ctx.pc + 4#32)).slot w).ctx = y
    at hctx hregs hrest
  have hok : (regOk rd && (s.slot w).ctx.inT && decide ((s.slot w).ctx.rs ≠ [])) = true := by
    rw [hrd, hT, hrs]; rfl
  refine .issues_to h (exec_rspop s w rd) hok (t := ((s.issuing w).retire w ((s.slot w).ctx.dst rd a) []
    ((s.slot w).ctx.pc + 4#32)).editSaved w (fun y => { y with rs := y.rs.tail })) ?_ ?_
  · rw [← htop]
    rfl
  · rw [hctx]
    exact ⟨hregs, by rw [hrest], by rw [hrest], honly⟩

/-- What WRS leaves: its write lands after the next instruction (R187). -/
theorem Completes.wrs {sr : BitVec 5} {ra : RegCode} (hra : regOk ra = true)
    (hok : wrsDefined sr.toNat (s.slot w).ctx.inT = true) {ws : List PWrite}
    (hws : wrsWrites sr.toNat ((s.slot w).ctx.rd ra) = ws) : Completes (.wrs w sr ra) s (fun t =>
      (t.slot w).ctx = { s.landed w with pc := (s.slot w).ctx.pc + 4#32 } ∧
        (∃ n, t.landed w = (landList ws ({ s.landed w with pc := (s.slot w).ctx.pc + 4#32 }, n)).1) ∧ OnlySlot s w t) := by
  subst hws
  set ws := wrsWrites sr.toNat ((s.slot w).ctx.rd ra)
  have hctx := ctx_retire_late (s := s) (w := w) ws ((s.slot w).ctx.pc + 4#32)
  set u := (s.issuing w).retire w [] ws ((s.slot w).ctx.pc + 4#32) with hu
  have hlate : (u.slot w).late = ws := by rw [hu, slot_retire]
  refine .issues_to h (exec_wrs s w sr ra) (by rw [hra, hok]; rfl) (t := u) rfl ⟨hctx, ⟨u.free, ?_⟩,
    (OnlySlot.issuing s w).trans (.retire _ w _ _ _)⟩
  rw [← hctx, ← hlate]
  rfl

end

end Sys2Proof.Machine
end

section
/-! PROOFS. O25: windows, traps, special registers and undefined words put together. -/

namespace Sys2Proof.Machine

/-- Settles O25: ENTER and LEAVE, the traps and TEXIT, RDS and WRS, RSPUSH and RSPOP, and words that are no instruction. -/
theorem windowsTrapsAndSpecialRegisters : Obligations.WindowsTrapsAndSpecialRegisters := by
  unfold Obligations.WindowsTrapsAndSpecialRegisters
  intro s w h x b up down
  refine ⟨fun hT hfree => ?_, fun hT hlive => ?_, fun hT hlive => ?_, fun hT hdead => ?_, fun k hT => ?_, fun v hT hv => ?_,
    fun ra hT hra hle => .texit h hT hra hle, fun ra hT hra => ?_, fun rd hrd => ?_, fun ra hra => ?_⟩
  · have hgo : ¬ ((x.inT || x.wlive.getLsbD up.toNat) = true) := by rw [hT, hfree]; decide
    exact .edits h (show exec _ s = execEnter w s from rfl) rfl (x.pc + 4#32)
      (fun y => { y with win := up, wlive := y.wlive ||| (1#4 <<< up.toNat) }) ((if_neg hgo).trans rfl)
  · have hstop : (x.inT || x.wlive.getLsbD up.toNat) = true := by rw [hT, hlive]; rfl
    exact .windowTraps h hT (show exec _ s = execEnter w s from rfl) rfl (.inl rfl) (if_pos hstop)
  · have hgo : ¬ ((x.inT || !x.wlive.getLsbD down.toNat) = true) := by rw [hT, hlive]; decide
    exact .edits h (show exec _ s = execLeave w s from rfl) rfl (x.pc + 4#32)
      (fun y => { y with win := down, wlive := y.wlive &&& ~~~(1#4 <<< x.win.toNat) }) ((if_neg hgo).trans rfl)
  · have hstop : (x.inT || !x.wlive.getLsbD down.toNat) = true := by rw [hT, hdead]; rfl
    exact .windowTraps h hT (show exec _ s = execLeave w s from rfl) rfl (.inr rfl) (if_pos hstop)
  · have hk := k.isLt
    exact .traps h hT (show exec _ s = execTrap w k s from rfl) rfl (by omega) (by omega) (by omega) rfl
  · have hword : ¬ (wordDefined (slotWarden w) v = true) := by rw [hv]; decide
    exact .undefs h hT ((show exec _ s = execUndefinedInstruction w v s from rfl).trans (if_neg hword)) rfl
  · exact .undefs h hT (show exec _ s = execTexit w ra s from rfl) (by rw [hra, hT]; rfl)
  · exact ⟨.rds h hrd (by decide) rfl, .rds h hrd (by decide) (wcurWord_eq x), .rds h hrd (by decide) rfl,
      .rds h hrd (by decide) (rspWord_eq x), .rds h hrd (by decide) rfl, .rds h hrd (by decide) rfl,
      fun hT a rest hrs => .rspop h hT hrd hrs⟩
  · intro v
    refine ⟨?_, ?_, fun hT => ?_, fun hT => ?_, fun hT => ?_, fun hT => ?_, fun hT hroom => ?_⟩
    · obtain ⟨t, ht, hctx, ⟨n, hl⟩, honly⟩ := Completes.wrs h (sr := 4#5) hra rfl rfl
      exact ⟨t, ht, hctx, by rw [hl]; rfl, honly⟩
    · exact .issues h (exec_wrs s w 5#5 ra) (by rw [hra]; rfl) (Lands.nil.wrote _)
    · obtain ⟨t, ht, -, ⟨n, hl⟩, honly⟩ := Completes.wrs h (sr := 1#5) hra hT rfl
      exact ⟨t, ht, (congrArg Ctx.win hl).trans (ofNat_bits v 1), honly⟩
    · obtain ⟨t, ht, -, ⟨n, hl⟩, honly⟩ := Completes.wrs h (sr := 2#5) hra hT rfl
      exact ⟨t, ht, (congrArg Ctx.wlive hl).trans (ofNat_bits v 3), honly⟩
    · obtain ⟨t, ht, -, ⟨n, hl⟩, honly⟩ := Completes.wrs h (sr := 3#5) hra hT rfl
      obtain ⟨hdepth, hmode⟩ := landOne_rsp ({ b with pc := x.pc + 4#32 }, n) v
      exact ⟨t, ht, (congrArg (fun y : Ctx => y.rs.length) hl).trans hdepth, (congrArg Ctx.rsTrap hl).trans hmode, honly⟩
    · exact .undefs h hT (exec_wrs s w 1#5 ra) (by rw [hra, show (s.slot w).ctx.inT = false from hT]; rfl)
    · have hok : (regOk ra && x.inT && decide (x.rs.length < 8)) = true := by rw [hra, hT, decide_eq_true hroom]; rfl
      obtain ⟨t, ht, hctx, -, honly⟩ := Completes.edits h (exec_rspush s w ra) hok (x.pc + 4#32)
        (fun y => { y with rs := pushRs y.rs (v &&& 0x7FFC#32) }) rfl
      exact ⟨t, ht, hctx, honly⟩

end Sys2Proof.Machine
end

section
/-! SUPPORT. The matching store (sections 9.1 and 9.2, R244 to R252): what matches, posts and raised events leave in the
threads, in the queues of tags that no thread waits for, and in the counters of other blocks; and where a posted token
stands. -/

namespace Sys2Proof.Machine

/-- What matches, posts and raises leave in the lockkeeper: a thread keeps its registers and its wait set, and is at most
made ready; the queue of a tag that no thread waits for only grows at its end (R245, R248). -/
structure KeeperFrame (s t : State) : Prop where
  thread : ∀ n, (t.thread n).ctx = (s.thread n).ctx ∧ (t.thread n).waitSet = (s.thread n).waitSet ∧
    ((t.thread n).st = (s.thread n).st ∨ (t.thread n).st = .ready)
  tokens : ∀ g, Unwanted s g → ∃ l, t.tokens g = s.tokens g ++ l

/-- A counter that matches, posts and raises advance: LKP_MATCHES, LKP_POSTREF and the counters of EVR. -/
def KeeperCtr (a : Nat) : Prop := a = 0x70100 ∨ a = 0x70110 ∨ (0x120E00 ≤ a ∧ a < 0x120F00)

/-- A frame of the lockkeeper that leaves the counters of the other blocks alone. -/
structure MatchFrame (s t : State) : Prop extends KeeperFrame s t where
  counter : ∀ a, ¬ KeeperCtr a → t.counter a = s.counter a

section
variable {s t u : State}

theorem Unwanted.congr {g : Nat} (h : Unwanted s g) (hw : ∀ n, (t.thread n).waitSet = (s.thread n).waitSet) :
    Unwanted t g := fun n => by rw [hw n]; exact h n

theorem KeeperFrame.unwanted (h : KeeperFrame s t) {g : Nat} (hg : Unwanted s g) : Unwanted t g :=
  hg.congr fun n => (h.thread n).2.1

theorem KeeperFrame.of_lk (h : t.lk = s.lk) : KeeperFrame s t := by
  have ht : ∀ n, t.thread n = s.thread n := fun n => by rw [State.thread, State.thread, h]
  exact ⟨fun n => by rw [ht]; exact ⟨rfl, rfl, .inl rfl⟩,
    fun g _ => ⟨[], by rw [State.tokens, State.tokens, h, List.append_nil]⟩⟩

theorem KeeperFrame.trans (h : KeeperFrame s t) (k : KeeperFrame t u) : KeeperFrame s u := by
  refine ⟨fun n => ?_, fun g hg => ?_⟩
  · obtain ⟨hc, hw, hs⟩ := h.thread n
    obtain ⟨kc, kw, ks⟩ := k.thread n
    refine ⟨kc.trans hc, kw.trans hw, ?_⟩
    rcases ks with ks | ks
    · rw [ks]; exact hs
    · exact .inr ks
  · obtain ⟨l, hl⟩ := h.tokens g hg
    obtain ⟨m, hm⟩ := k.tokens g (h.unwanted hg)
    exact ⟨l ++ m, by rw [hm, hl, List.append_assoc]⟩

theorem MatchFrame.of_lk (h : t.lk = s.lk) (hc : t.ctr = s.ctr) : MatchFrame s t :=
  ⟨.of_lk h, fun a _ => by rw [State.counter, State.counter, hc]⟩

theorem MatchFrame.refl (s : State) : MatchFrame s s := .of_lk rfl rfl

theorem MatchFrame.trans (h : MatchFrame s t) (k : MatchFrame t u) : MatchFrame s u :=
  ⟨h.toKeeperFrame.trans k.toKeeperFrame, fun a ha => (k.counter a ha).trans (h.counter a ha)⟩

end

/-! ### Matches -/

/-- Matching takes tokens of the tags of a wait set only (R248). -/
theorem get_takeTokens {arr : Option W32} {ws : List Nat} {m m' : SMap (List Token)} {ks : List Token}
    (h : takeTokens arr m ws = some (ks, m')) {g : Nat} (hg : g ∉ ws) :
    SMap.get (fun _ => []) m' g = SMap.get (fun _ => []) m g := by
  induction ws generalizing m ks with
  | nil => cases h; rfl
  | cons t ws ih =>
    have hgt : g ≠ t := fun he => hg (he ▸ List.mem_cons_self)
    have hgw : g ∉ ws := fun he => hg (List.mem_cons_of_mem t he)
    unfold takeTokens at h
    split at h
    · dsimp only at h
      split at h
      · cases h
      · split at h
        · cases h
        next k _ ks' m'' hrest =>
          cases h
          rw [ih hrest hgw, SMap.get_set_ne _ _ _ hgt]
    · split at h
      · cases h
      next ks' m'' hrest =>
        cases h
        exact ih hrest hgw

section
variable (s : State)

theorem MatchFrame.count {a : Nat} (ha : KeeperCtr a) : MatchFrame s (s.count a) :=
  ⟨.of_lk rfl, fun _ hb => State.counter_count_ne s fun hab => hb (hab ▸ ha)⟩

theorem MatchFrame.matchThread {n : Nat} {ks : List Token} {m : SMap (List Token)}
    (h : s.satisfied (s.thread n) = some (ks, m)) : MatchFrame s (s.matchThread n ks m) := by
  have htoks : ∀ g, g ∉ (s.thread n).waitSet → SMap.get (fun _ => []) m g = s.tokens g := by
    intro g hg
    unfold State.satisfied at h
    split at h
    · exact get_takeTokens h hg
    · cases h
  refine ⟨⟨fun j => ?_, fun g hg => ⟨[], ?_⟩⟩, fun a ha => State.counter_count_ne _ fun hab => ha (.inl hab)⟩
  · by_cases hj : j = n
    · subst hj
      unfold State.matchThread
      dsimp only
      rw [State.thread_count, State.thread_setThread_same]
      exact ⟨rfl, rfl, .inr rfl⟩
    · unfold State.matchThread
      dsimp only
      rw [State.thread_count, State.thread_setThread_ne _ _ hj]
      exact ⟨rfl, rfl, .inl rfl⟩
  · rw [List.append_nil]
    exact htoks g (hg n)

theorem MatchFrame.matchLoop (k : Nat) : MatchFrame s (matchLoop k s) := by
  induction k generalizing s with
  | zero => exact .refl s
  | succ k ih =>
    unfold Machine.matchLoop
    split
    · exact .refl s
    · split
      · exact .refl s
      next ks m h => exact (MatchFrame.matchThread s h).trans (ih _)

theorem MatchFrame.matching : MatchFrame s s.matching := .matchLoop s _

/-! ### Posts -/

/-- Only the queue of the tag differs before the match. -/
theorem MatchFrame.setTokens (t : Nat) (k : Token) : MatchFrame s (s.setTokens t (s.tokens t ++ [k])) := by
  refine ⟨⟨fun n => ⟨rfl, rfl, .inl rfl⟩, fun g _ => ?_⟩, fun _ _ => rfl⟩
  by_cases hg : g = t
  · subst hg
    exact ⟨[k], State.tokens_setTokens_same s g _⟩
  · exact ⟨[], by rw [State.tokens_setTokens_ne _ _ hg, List.append_nil]⟩

theorem MatchFrame.enqueue (t : Nat) (k : Token) : MatchFrame s (s.enqueue t k) :=
  (MatchFrame.setTokens s t k).trans (.matching _)

theorem MatchFrame.postQuiet (t : Nat) (v : W32) (st : Status) : MatchFrame s (s.postQuiet t v st).2 := by
  unfold State.postQuiet
  split
  · exact .refl s
  · split
    · exact .count s (.inr (.inl rfl))
    · exact .enqueue s t _

/-! ### Events -/

theorem MatchFrame.sendMsix (v : Nat) : MatchFrame s (s.sendMsix v) := by
  unfold State.sendMsix
  extract_lets gone
  split
  · exact .count s (by unfold KeeperCtr; decide)
  · split <;> exact .of_lk rfl rfl

theorem MatchFrame.deliverToken (e t : Nat) : MatchFrame s (s.deliverToken e t) := by
  have hp := MatchFrame.postQuiet s t (s.eventValue e) .ok
  unfold State.deliverToken
  split
  · exact .refl s
  · split <;> rename_i he <;> rw [he] at hp
    · exact hp.trans (.of_lk rfl rfl)
    · exact hp.trans (.count _ (by unfold KeeperCtr; decide))

theorem MatchFrame.deliverPin (p : Nat) : MatchFrame s (s.deliverPin p) := by
  have hc : MatchFrame s (s.count 0x120E08) := .count s (by unfold KeeperCtr; decide)
  unfold State.deliverPin
  extract_lets c s1
  split
  · exact hc.trans (.of_lk rfl rfl)
  · exact hc

theorem MatchFrame.deliver (e : Nat) : MatchFrame s (s.deliver e) := by
  have h0 : MatchFrame s { s with evr := { s.evr with delivered := s.evr.delivered ++ [e] } } := .of_lk rfl rfl
  unfold State.deliver
  dsimp only
  split
  · exact h0.trans (.deliverToken _ e _)
  · exact (h0.trans (.sendMsix _ _)).trans (.count _ (by unfold KeeperCtr; decide))
  · exact h0.trans (.deliverToken _ e _)
  · exact h0.trans (.deliverPin _ _)
  · exact h0

theorem MatchFrame.raiseOne (e : Nat) : MatchFrame s (s.raiseOne e) := by
  have hr : MatchFrame s (s.recordRaise e) := by
    rw [recordRaise_eq]
    refine MatchFrame.trans (MatchFrame.of_lk ?_ ?_) (.count _ (by unfold KeeperCtr; decide)) <;> rfl
  unfold State.raiseOne
  extract_lets s1
  split
  · exact hr.trans (.deliver s1 e)
  · exact hr

theorem MatchFrame.raiseMirror (e : Nat) : MatchFrame s (s.raiseMirror e) := by
  unfold State.raiseMirror
  extract_lets s1
  split
  · exact (MatchFrame.raiseOne s e).trans (MatchFrame.trans
      (t := s1.setReg A.evrSecnote (setBit (s1.reg A.evrSecnote) (e - 720) true)) (.of_lk rfl rfl) (.raiseOne _ 764))
  · exact .raiseOne s e

theorem MatchFrame.raiseFirst0 (e : Nat) : MatchFrame s (s.raiseFirst0 e) := by
  unfold State.raiseFirst0
  split
  · exact .refl s
  · exact MatchFrame.trans (t := { s with once := s.once ++ [e] }) (.of_lk rfl rfl) (.raiseMirror _ e)

theorem MatchFrame.tokenWatch (b : W64) : MatchFrame s (s.tokenWatch b) := by
  have hraise : ∀ (c : Prop) [Decidable c] (u : State) (e : Nat), MatchFrame u (if c then u.raiseFirst0 e else u) := by
    intro c _ u e
    split
    · exact .raiseFirst0 u e
    · exact .refl u
  exact (hraise _ s _).trans (hraise _ _ _)

theorem MatchFrame.raise (e : Nat) : MatchFrame s (s.raise e) := (MatchFrame.raiseMirror s e).trans (.tokenWatch _ _)

theorem MatchFrame.raiseFirst (e : Nat) : MatchFrame s (s.raiseFirst e) := by
  unfold State.raiseFirst
  split
  · exact .refl s
  · exact MatchFrame.trans (t := { s with once := s.once ++ [e] }) (.of_lk rfl rfl) (.raise _ e)

theorem MatchFrame.unreserve (t : Nat) : MatchFrame s (s.unreserve t) := by
  unfold State.unreserve
  split <;> exact ⟨⟨fun _ => ⟨rfl, rfl, .inl rfl⟩, fun _ _ => ⟨[], (List.append_nil _).symm⟩⟩, fun _ _ => rfl⟩

theorem MatchFrame.postReserved (t : Nat) (v : W32) (st : Status) : MatchFrame s (s.postReserved t v st) :=
  ((MatchFrame.unreserve s t).trans (.enqueue _ t _)).trans (.tokenWatch _ _)

/-! ### Where a posted token stands -/

variable {s}

/-- A token that joins a queue stands behind the earlier ones, whatever is matched or raised afterwards. -/
theorem KeeperFrame.queued {t : State} {g : Nat} {k : Token} (h : KeeperFrame (s.setTokens g (s.tokens g ++ [k])) t)
    (hg : Unwanted s g) : Queued s t g k := by
  obtain ⟨l, hl⟩ := h.tokens g hg
  refine ⟨l, ?_⟩
  rw [hl, State.tokens_setTokens_same, List.append_assoc]
  rfl

/-- The status of a post (R244, R246). -/
theorem post_status (g : Nat) (v : W32) (st : Status) : (s.post g v st).1 =
    if isPostable g = false then .refusedRange else if s.entryFree g then .ok else .refusedCapacity := by
  unfold State.post State.postQuiet
  cases isPostable g <;> cases s.entryFree g <;> rfl

/-- A post that is accepted. -/
theorem queued_post {g : Nat} (hp : isPostable g = true) (he : s.entryFree g = true) (hg : Unwanted s g) (v : W32)
    (st : Status) : Queued s (s.post g v st).2 g { value := v, status := st, turn := false } := by
  have hpost : (s.post g v st).2 =
      (s.enqueue g { value := v, status := st, turn := false }).tokenWatch (s.counter 0x70110) := by
    unfold State.post State.postQuiet
    rw [hp, he]
    rfl
  rw [hpost]
  exact KeeperFrame.queued ((MatchFrame.matching _).trans (.tokenWatch _ _)).toKeeperFrame hg

/-- A post with a reserved entry (R247). -/
theorem queued_postReserved {g : Nat} (hg : Unwanted s g) (v : W32) (st : Status) :
    Queued s (s.postReserved g v st) g { value := v, status := st, turn := false } := by
  have htoks : (s.unreserve g).tokens g = s.tokens g := by
    unfold State.unreserve
    split <;> rfl
  obtain ⟨l, hl⟩ := KeeperFrame.queued (s := s.unreserve g) (k := { value := v, status := st, turn := false })
    ((MatchFrame.matching _).trans (.tokenWatch _ (s.counter 0x70110))).toKeeperFrame
    ((MatchFrame.unreserve s g).unwanted hg)
  exact ⟨l, by rw [← htoks]; exact hl⟩

end

/-- The tags of the main store that any poster may post to (Table 9-1). -/
theorem isPostable_eq {g : Nat} (h : g < 0x10000) : isPostable g = decide (0x2000 ≤ g ∧ g ≤ 0xFFFF) := by
  unfold isPostable tagKind
  split_ifs <;> simp <;> omega

end Sys2Proof.Machine
end

section
/-! SUPPORT. Blocking (sections 9.2 and 9.7, R202, R203, R249, R265, R276): what the pager's misses leave alone, what a thread
that begins to wait is left with, and TAKE and WAIT of a slot without posted stores. -/

namespace Sys2Proof.Machine

/-! ### Misses -/

section
variable (s : State)

theorem KeeperFrame.dramEnter (x : Nat) (ag : Agent) (cls c n : Nat) (write locked : Bool) :
    KeeperFrame s (s.dramEnter x ag cls c n write locked) := by
  unfold State.dramEnter
  extract_lets r h
  split
  · exact .of_lk rfl
  · exact KeeperFrame.trans (t := (s.setCh x { h with waiting := h.waiting ++ [r] }).count (drcCtr x 7)) (.of_lk rfl)
      (MatchFrame.raiseFirst _ _).toKeeperFrame

/-- A change of the pager's lists only. -/
theorem KeeperFrame.of_threads {t : State} (ht : t.lk.threads = s.lk.threads) (hk : t.lk.toks = s.lk.toks) :
    KeeperFrame s t := by
  have hthread : ∀ n, t.thread n = s.thread n := fun n => by rw [State.thread, State.thread, ht]
  exact ⟨fun n => by rw [hthread]; exact ⟨rfl, rfl, .inl rfl⟩,
    fun g _ => ⟨[], by rw [State.tokens, State.tokens, hk, List.append_nil]⟩⟩

theorem KeeperFrame.startMiss (m : Miss) : KeeperFrame s (s.startMiss m) := by
  unfold State.startMiss
  split
  · exact .of_lk rfl
  next x a _ =>
    split
    · exact .of_threads s rfl rfl
    · split
      · exact KeeperFrame.trans (t := State.count { s with lk := { s.lk with misses := s.lk.misses ++ [m] } } 0x70128)
          (.of_threads s rfl rfl) (.dramEnter _ _ _ _ _ _ _ _)
      · exact .of_threads s rfl rfl

theorem KeeperFrame.startMisses (l : List Miss) : KeeperFrame s (startMisses l s) := by
  induction l generalizing s with
  | nil => exact .of_lk rfl
  | cons m l ih => exact (KeeperFrame.startMiss s m).trans (ih _)

theorem DramFrame.startMiss (m : Miss) : DramFrame s (s.startMiss m) := by
  unfold State.startMiss
  split
  · rfl
  next x a _ =>
    split
    · rfl
    · split
      · exact DramFrame.trans (t := State.count { s with lk := { s.lk with misses := s.lk.misses ++ [m] } } 0x70128) rfl
          (.dramEnter _ _ _ _ _ _ _ _)
      · rfl

theorem DramFrame.startMisses (l : List Miss) : DramFrame s (startMisses l s) := by
  induction l generalizing s with
  | nil => rfl
  | cons m l ih => exact (DramFrame.startMiss s m).trans (ih _)

/-! ### A thread that begins to wait -/

/-- A thread's record while it waits (R252). -/
def Thread.waits (x : Thread) (ws : List Nat) (seq : Nat) (dl : Option Nat) : Thread :=
  { x with st := .waiting, waitSet := ws, waitSeq := seq, deadline := dl }

/-- What a wait changes before its misses and its match: the thread's record and the holds of the lines present. -/
def State.waitBegun (s : State) (n : Nat) (x : Thread) (lines : List Line) : State :=
  let s1 := State.setThread { s with lk := { s.lk with seq := s.lk.seq + 1 } } n x
  { s1 with lk := { s1.lk with lines := lines } }

theorem thread_waitBegun (n : Nat) (x : Thread) (lines : List Line) : (s.waitBegun n x lines).thread n = x := by
  change (State.setThread _ n x).thread n = x
  exact State.thread_setThread_same _ n x

theorem beginWait_eq (n : Nat) (ws : List Nat) (tmo : Nat) : ∃ lines l dl,
    s.beginWait n ws tmo = (startMisses l (s.waitBegun n ((s.thread n).waits ws s.lk.seq dl) lines)).matching :=
  ⟨_, _, _, rfl⟩

/-- A thread that begins to wait keeps its registers, and waits or is matched at once (R252, R266). -/
theorem beginWait_thread (n : Nat) (ws : List Nat) (tmo : Nat) :
    ((s.beginWait n ws tmo).thread n).ctx = (s.thread n).ctx ∧ ((s.beginWait n ws tmo).thread n).waitSet = ws ∧
      (((s.beginWait n ws tmo).thread n).st = .waiting ∨ ((s.beginWait n ws tmo).thread n).st = .ready) := by
  obtain ⟨lines, l, dl, heq⟩ := beginWait_eq s n ws tmo
  have hthread := ((KeeperFrame.startMisses (s.waitBegun n ((s.thread n).waits ws s.lk.seq dl) lines) l).trans
    (MatchFrame.matching _).toKeeperFrame).thread n
  rw [thread_waitBegun] at hthread
  rw [heq]
  exact hthread

theorem slots_beginWait (n : Nat) (ws : List Nat) (tmo : Nat) : (s.beginWait n ws tmo).slots = s.slots := by
  obtain ⟨lines, l, dl, heq⟩ := beginWait_eq s n ws tmo
  rw [heq, State.slots_matching, (DramFrame.startMisses _ l).slots]
  rfl

/-- A thread that blocks begins to wait from a state in which its slot is idle and its record holds its registers. -/
theorem block_eq (w : SlotId) (n : Nat) (ws : List Nat) (tmo : Nat) (used : Bool) (pc : W32) :
    ∃ y : State, s.block w n ws tmo used pc = y.beginWait n ws tmo ∧ (y.slot w).thread = none ∧
      (y.thread n).ctx = { (((s.drain w).landAll w).slot w).ctx with pc := pc } := by
  refine ⟨_, rfl, ?_, ?_⟩
  · exact congrArg Slot.thread (State.slot_setSlot_same _ _ _)
  · exact congrArg Thread.ctx (State.thread_setThread_same _ n _)

end

/-! ### A slot without posted stores -/

/-- Thread `n` of slot `w` blocks on a wait set: the slot is idle, and the thread waits, or is matched already, to continue
at `pc` with every pending write landed (R202, R203). -/
def Blocked (s : State) (w : SlotId) (n : Nat) (ws : List Nat) (pc : W32) (t : State) : Prop :=
  (t.slot w).thread = none ∧ (t.thread n).ctx = { s.landed w with pc := pc } ∧ (t.thread n).waitSet = ws ∧
    ((t.thread n).st = .waiting ∨ (t.thread n).st = .ready)

/-- Thread `n` of slot `w` goes on at `pc`, with the status of a refused wait in OSTAT (R249). -/
def GoesOn (s : State) (w : SlotId) (n : Nat) (st : Status) (pc : W32) (t : State) : Prop :=
  (t.slot w).thread = some n ∧ CtxWrote (s.landed w) (t.slot w).ctx noReg { ostat := some st.code } pc

section
variable {s : State} {w : SlotId} (hst : (s.slot w).stores = [])
include hst

/-- The state of an issue with every store performed and every pending write landed (R166, R217). -/
theorem slot_issuing_drained : (((s.issuing w).drain w).landAll w).slot w =
    { (s.slot w).issued with stores := [], late := [], ctx := s.landed w } := by
  have hslot : ((s.issuing w).unposted w).slot w = { (s.slot w).issued with stores := [] } := by
    rw [State.unposted, State.slot_setSlot_same, slot_issuing]
  rw [drain_empty (by rw [slot_issuing]; exact hst), slot_landAll, hslot]
  have hl : ((s.issuing w).unposted w).landed w = s.landed w :=
    State.landed_congr (by rw [hslot]; rfl) (by rw [hslot]; rfl) rfl
  rw [hl]

/-- A thread that blocks leaves its slot idle (R202, R265). -/
theorem block_leaves (n : Nat) (ws : List Nat) (tmo : Nat) (used : Bool) (pc : W32) :
    Blocked s w n ws pc ((s.issuing w).block w n ws tmo used pc) := by
  have hctx := congrArg Slot.ctx (slot_issuing_drained hst)
  obtain ⟨y, heq, hslot, hthread⟩ := block_eq (s.issuing w) w n ws tmo used pc
  obtain ⟨hc, hw, hwait⟩ := beginWait_thread y n ws tmo
  rw [heq]
  refine ⟨?_, ?_, hw, hwait⟩
  · rw [slot_congr (slots_beginWait y n ws tmo) w]
    exact hslot
  · rw [hc, hthread, hctx]

/-- A wait that fails a check of R249 leaves its thread running, with the refusal in OSTAT. -/
theorem noBlock_leaves {n : Nat} (hn : (s.slot w).thread = some n) (st : Status) :
    GoesOn s w n st ((s.slot w).ctx.pc + 4#32) ((s.issuing w).noBlock w (s.slot w).issued st) := by
  have hslot := slot_issuing_drained hst
  set v := ((s.issuing w).drain w).landAll w with hv
  have hl : v.landed w = s.landed w := by
    unfold State.landed at hslot ⊢
    rw [hslot]
    rfl
  have ht : (s.issuing w).noBlock w (s.slot w).issued st = v.retire w [ostatWrite st] [] ((s.slot w).ctx.pc + 4#32) := rfl
  rw [ht]
  refine ⟨?_, ?_⟩
  · rw [slot_retire, hslot]
    exact hn
  · rw [← hl]
    exact (Lands.ostat st).slot_retire [] _

end

/-! ### The tags of a lock core's program -/

/-- A lock core's slot is no warden slot. -/
theorem slotWarden_eq_false {w : SlotId} (hw : w.val < 512) : slotWarden w = false :=
  decide_eq_false (Nat.not_le.mpr hw)

/-- The tags of a program of a lock core are the tags it names. -/
theorem map_tagFor_false (l : List Nat) : l.map (tagFor false) = l := List.map_id' l

/-- The tags that WAIT names: the first `c` of the halves of ra and rb (R203). -/
def waitTags (w : Nat) (x : Ctx) (ra rb : RegCode) (c : BitVec 3) : List Nat :=
  ([bits (x.rd ra) 15 0, bits (x.rd ra) 31 16, bits (x.rd rb) 15 0, bits (x.rd rb) 31 16].map
    (tagFor (slotWarden w))).take c.toNat

end Sys2Proof.Machine
end

section
/-! PROOFS. O28: TAKE, WAIT and GIVE put together. -/

namespace Sys2Proof.Machine

section
variable {s : State} {w : SlotId} {n : Nat} (h : Issues s w) (hst : (s.slot w).stores = [])
  (hn : (s.slot w).thread = some n)
include h hst hn

/-- TAKE blocks on a standing set that passes R249 (R202). -/
theorem Completes.take_blocks (hok : s.waitCheck n (s.thread n).stand = .ok) : Completes (.take w) s
    (Blocked s w n (s.thread n).stand ((s.slot w).ctx.pc + 4#32)) := by
  refine .issues_to h (show exec _ s = execTake w s from rfl) rfl
    (t := (s.issuing w).block w n (s.thread n).stand (s.thread n).standTmo false ((s.slot w).ctx.pc + 4#32)) ?_
    (block_leaves hst n _ _ _ _)
  rw [show (s.slot w).issued.thread = some n from hn]
  exact if_pos hok

/-- TAKE goes on where its standing set fails R249 (R249). -/
theorem Completes.take_goesOn (hbad : s.waitCheck n (s.thread n).stand ≠ .ok) : Completes (.take w) s
    (GoesOn s w n (s.waitCheck n (s.thread n).stand) ((s.slot w).ctx.pc + 4#32)) := by
  refine .issues_to h (show exec _ s = execTake w s from rfl) rfl
    (t := (s.issuing w).noBlock w (s.slot w).issued (s.waitCheck n (s.thread n).stand)) ?_ (noBlock_leaves hst hn _)
  rw [show (s.slot w).issued.thread = some n from hn]
  exact if_neg hbad

section
variable {ra rb : RegCode} {c : BitVec 3} (hok : (regOk ra && regOk rb && decide (c.toNat ≤ 4)) = true)
include hok

/-- WAIT blocks on tags that pass R249 (R203, R266). -/
theorem Completes.wait_blocks (hpass : s.waitCheck n (waitTags w (s.slot w).ctx ra rb c) = .ok) :
    Completes (.wait w ra rb c) s
      (Blocked s w n (waitTags w (s.slot w).ctx ra rb c) ((s.slot w).ctx.pc + 4#32)) := by
  refine .issues_to h (show exec _ s = execWait w ra rb c s from rfl) hok
    (t := (s.issuing w).block w n (waitTags w (s.slot w).ctx ra rb c) (s.slot w).waitTmo.toNat true
      ((s.slot w).ctx.pc + 4#32)) ?_ (block_leaves hst n _ _ _ _)
  rw [show (s.slot w).issued.thread = some n from hn]
  exact if_pos hpass

/-- WAIT goes on where its tags fail R249; it consumes the timeout of LK_WAITTMO all the same. -/
theorem Completes.wait_goesOn (hbad : s.waitCheck n (waitTags w (s.slot w).ctx ra rb c) ≠ .ok) :
    Completes (.wait w ra rb c) s
      (GoesOn s w n (s.waitCheck n (waitTags w (s.slot w).ctx ra rb c)) ((s.slot w).ctx.pc + 4#32)) := by
  obtain ⟨hthread, hctx⟩ := noBlock_leaves hst hn (s.waitCheck n (waitTags w (s.slot w).ctx ra rb c))
  set st := s.waitCheck n (waitTags w (s.slot w).ctx ra rb c)
  refine .issues_to h (show exec _ s = execWait w ra rb c s from rfl) hok ?_ ?_
    (t := ((s.issuing w).noBlock w (s.slot w).issued st).setSlot w
      { ((s.issuing w).noBlock w (s.slot w).issued st).slot w with waitTmo := 0#32 })
  · rw [show (s.slot w).issued.thread = some n from hn]
    exact if_neg hbad
  · generalize (s.issuing w).noBlock w (s.slot w).issued st = u at hthread hctx ⊢
    unfold GoesOn
    rw [State.slot_setSlot_same]
    exact ⟨hthread, hctx⟩

end

end

section
variable {s : State} {w : SlotId} (h : Issues s w) (hst : (s.slot w).stores = []) (hw : w.val < 512)
include h hst hw

/-- GIVE posts its token, holds, and reports the status of the post (R170, R204). -/
theorem Completes.give (hnw : NoWaits s w) {ra rb : RegCode} (hok : (regOk ra && regOk rb) = true) {g : Nat}
    (hg : bits ((s.slot w).ctx.rd ra) 15 0 = g) {st : Status}
    (hstatus : (if isPostable g = false then .refusedRange else if s.entryFree g then .ok else .refusedCapacity) = st) :
    Completes (.give w ra rb) s (fun t =>
      HoldsThen s w noReg { ostat := some st.code } ((s.slot w).ctx.pc + 4#32) t ∧ t.mem = s.mem ∧
        (st = .ok → Unwanted s g →
          Queued s t g { value := (s.slot w).ctx.rd rb, status := .ok, turn := false })) := by
  subst hg
  set g := bits ((s.slot w).ctx.rd ra) 15 0
  set u := (s.issuing w).unposted w with hu
  have hslot : u.slot w = { (s.slot w).issued with stores := [] } := by
    rw [hu, State.unposted, State.slot_setSlot_same, slot_issuing]
  have hul : u.landed w = s.landed w := State.landed_congr (by rw [hslot]; rfl) (by rw [hslot]; rfl) rfl
  have htag : tagFor (slotWarden w) g = g := by rw [slotWarden_eq_false hw]; rfl
  have hres : (u.post g ((s.slot w).ctx.rd rb) .ok).1 = st := (post_status g _ _).trans hstatus
  have hf := frame_post u g ((s.slot w).ctx.rd rb) .ok
  set p := u.post g ((s.slot w).ctx.rd rb) .ok with hp
  have hpslot := slot_congr hf.slots w
  have hpl : p.2.landed w = s.landed w := (State.landed_congr (by rw [hpslot]) (by rw [hpslot]) hf.free).trans hul
  have hpw : NoWaits p.2 w := by
    unfold NoWaits State.commitWaits
    rw [hf.brg, hf.sec]
    exact hnw
  refine .issues_to h (show exec _ s = execGive w ra rb s from rfl) hok
    (t := p.2.hold w [ostatWrite st] none none false ((s.slot w).ctx.pc + 4#32)) ?_
    ⟨(Lands.ostat st).holdsThen hpl hpw _ _ _, hf.mem, fun hok hunw => ?_⟩
  · rw [drain_empty (by rw [slot_issuing]; exact hst), ← hres, hp, ← htag]
    rfl
  · have hpost : isPostable g = true ∧ s.entryFree g = true := by
      rw [hok] at hstatus
      split_ifs at hstatus with h1 h2
      exact ⟨by simpa using h1, h2⟩
    exact queued_post (s := u) hpost.1 hpost.2 hunw _ _

end

/-- Settles O28: TAKE and WAIT block or go on, and GIVE posts its token. -/
theorem tokenInstructionsBlockAndPost : Obligations.TokenInstructionsBlockAndPost := by
  unfold Obligations.TokenInstructionsBlockAndPost
  intro s w n h hst hn hw x pc blocked goesOn stand
  refine ⟨.take_blocks h hst hn, fun st hcheck hbad => ?_, fun ra rb c hra hrb hc => ?_, fun ra rb hra hrb hnw => ?_⟩
  · subst hcheck
    exact .take_goesOn h hst hn hbad
  · intro tags
    have hok : (regOk ra && regOk rb && decide (c.toNat ≤ 4)) = true := by rw [hra, hrb, decide_eq_true hc]; rfl
    have htags : tags = waitTags w x ra rb c := by
      rw [waitTags, slotWarden_eq_false hw, map_tagFor_false]
    rw [htags]
    refine ⟨.wait_blocks h hst hn hok, fun st hcheck hbad => ?_⟩
    subst hcheck
    exact .wait_goesOn h hst hn hok hbad
  · intro g st
    have hg : g < 0x10000 := Nat.mod_lt _ (by decide)
    refine .give h hst hw hnw (by rw [hra, hrb]; rfl) rfl ?_
    rw [isPostable_eq hg]
    by_cases hr : 0x2000 ≤ g ∧ g ≤ 0xFFFF <;> simp only [st, hr] <;> rfl

end Sys2Proof.Machine
end

section
/-! SUPPORT. The helper units (sections 7.8 and 8.4, R207, R209, R233): unit refusals, the holds of DVSQ, and its square
root. -/

namespace Sys2Proof.Machine

/-! ### Refusals -/

/-- A unit refusal enters T at vector 7 with unit, reason and operand recorded (R233, Table 8-6). -/
def UnitRefused (s : State) (w : SlotId) (unit reason : Nat) (arg : W32) (t : State) : Prop :=
  Trapped s w 7 (s.slot w).ctx.pc t ∧ (t.slot w).unitDetail = BitVec.ofNat 32 (0x41 + unit * 0x100 + reason * 0x1000) ∧
    (t.slot w).unitArg = arg

theorem unitRefuse_refused {s : State} {w : SlotId} (hT : (s.slot w).ctx.inT = false) (unit reason : Nat) (arg : W32) :
    UnitRefused s w unit reason arg ((s.issuing w).unitRefuse w (s.slot w).issued unit reason arg) := by
  set v := (s.issuing w).setSlot w { (s.issuing w).slot w with
    unitDetail := w32 (0x41 + unit * 0x100 + reason * 0x1000), unitArg := arg } with hv
  have hslot : v.slot w = { (s.slot w).issued with
      unitDetail := w32 (0x41 + unit * 0x100 + reason * 0x1000), unitArg := arg } := by
    rw [hv, State.slot_setSlot_same, slot_issuing]
  have hl : v.landed w = s.landed w := State.landed_congr (by rw [hslot]; rfl) (by rw [hslot]; rfl) rfl
  have hvT : (v.slot w).ctx.inT = false := by rw [hslot]; exact hT
  have ht : (s.issuing w).unitRefuse w (s.slot w).issued unit reason arg = v.trap w 7 .ok (s.slot w).ctx.pc := rfl
  obtain ⟨c, n, htrap⟩ := slot_trap hvT (vec := 7) (by decide) (by decide) .ok (s.slot w).ctx.pc
  unfold UnitRefused
  rw [ht, htrap, hslot]
  exact ⟨(trapped_trap hvT (by decide) (by decide) (by decide) _ _).of_landed ((OnlySlot.issuing s w).trans (.setSlot _ w _))
    (fun _ => by rw [hl]) (by rw [hl]), rfl, rfl⟩

/-- A refusal of an instruction outside T. -/
theorem Completes.outside {s : State} {w : SlotId} {c : Instr} {P : State → Prop}
    (h : Completes c s (fun t => (s.slot w).ctx.inT = false → P t)) (hT : (s.slot w).ctx.inT = false) : Completes c s P := by
  obtain ⟨t, hx, hP⟩ := h
  exact ⟨t, hx, hP hT⟩

/-! ### Units of a lock core -/

section
variable {s : State} {w : SlotId} (h : Issues s w) (hw : w.val < 512)
include h hw

theorem Completes.unit_issues {c : Instr} {ok : Bool} {f : Slot → State → State} {t : State} {P : State → Prop}
    (hx : exec c s = s.unitIns w ok f) (hok : ok = true) (hf : f (s.slot w).issued (s.issuing w) = t) (hP : P t) :
    Completes c s P :=
  .issues_to h hx (by rw [hok, slotWarden_eq_false hw]; rfl) hf hP

variable {c : Instr} {ok : Bool} {f : Slot → State → State} (hx : exec c s = s.unitIns w ok f) (hok : ok = true)
include hx hok

theorem Completes.unit_refuses {unit reason : Nat} {arg : W32}
    (hf : f (s.slot w).issued (s.issuing w) = (s.issuing w).unitRefuse w (s.slot w).issued unit reason arg) :
    Completes c s (fun t => (s.slot w).ctx.inT = false → UnitRefused s w unit reason arg t) :=
  .unit_issues h hw hx hok hf fun hT => unitRefuse_refused hT unit reason arg

theorem Completes.unit_holds (hnw : NoWaits s w) {ws : List PWrite} {r : Nat → Option W32} {fs : FlagSet}
    (hl : Lands ws r fs)
    (hf : f (s.slot w).issued (s.issuing w) = (s.issuing w).hold w ws none none true ((s.slot w).ctx.pc + 4#32)) :
    Completes c s (HoldsThen s w r fs ((s.slot w).ctx.pc + 4#32)) :=
  .unit_issues h hw hx hok hf (hl.holdsThen (landed_issuing s w) hnw none true _)

variable {ra : RegCode} {byZero : Bool} {ws : List PWrite}
  (hf : f (s.slot w).issued (s.issuing w) = (s.issuing w).dvsq w (s.slot w).issued ra byZero ws)
include hf

/-- DVSQ answers when its cluster is ON and its divisor is not zero (R209). -/
theorem Completes.dvsq_holds (hon : s.clusterOn w = true) (hz : byZero = false) (hnw : NoWaits s w) {r : Nat → Option W32}
    {fs : FlagSet} (hl : Lands ws r fs) : Completes c s (HoldsThen s w r fs ((s.slot w).ctx.pc + 4#32)) := by
  refine .unit_holds h hw hx hok hnw hl (hf.trans ?_)
  have hon' : (s.issuing w).clusterOn w = true := hon
  rw [State.dvsq, hon', hz]
  rfl

/-- DVSQ refuses a zero divisor (R209, Table 8-6). -/
theorem Completes.dvsq_zero (hon : s.clusterOn w = true) (hz : byZero = true) :
    Completes c s (fun t => (s.slot w).ctx.inT = false → UnitRefused s w 2 2 ((s.slot w).ctx.rd ra) t) := by
  refine .unit_refuses h hw hx hok (hf.trans ?_)
  have hon' : (s.issuing w).clusterOn w = true := hon
  rw [State.dvsq, hon', hz]
  rfl

/-- DVSQ refuses while its cluster is not ON (R207, Table 8-6). -/
theorem Completes.dvsq_off (hoff : s.clusterOn w = false) :
    Completes c s (fun t => (s.slot w).ctx.inT = false → UnitRefused s w 2 1 ((s.slot w).ctx.rd ra) t) := by
  refine .unit_refuses h hw hx hok (hf.trans ?_)
  have hoff' : (s.issuing w).clusterOn w = false := hoff
  rw [State.dvsq, hoff']
  rfl

end

/-! ### Results -/

/-- A pair of results, with flags (R184). -/
theorem Lands.pair (x : Ctx) (rd : RegCode) (lo hi : W32) {ws : List PWrite} {fs : FlagSet} (h : Lands ws noReg fs) :
    Lands (x.dst rd lo ++ x.dst (rd + 1#5) hi ++ ws) (pairReg x rd lo hi) fs := by
  refine (((Lands.dst x rd lo).append (.dst x (rd + 1#5) hi)).append h).congr fun p => ?_
  unfold noReg oneReg pairReg
  split <;> rfl

/-- A pair of results, and no flag. -/
theorem Lands.pairOnly (x : Ctx) (rd : RegCode) (lo hi : W32) :
    Lands (x.dst rd lo ++ x.dst (rd + 1#5) hi) (pairReg x rd lo hi) {} :=
  List.append_nil (x.dst rd lo ++ x.dst (rd + 1#5) hi) ▸ Lands.pair x rd lo hi .nil

/-- The square root's steps keep a root whose square fits and whose next power of two does not. -/
theorem sqrtFrom_spec (v k r : Nat) (hlo : r * r ≤ v) (hhi : v < (r + 2 ^ k) * (r + 2 ^ k)) :
    sqrtFrom v k r * sqrtFrom v k r ≤ v ∧ v < (sqrtFrom v k r + 1) * (sqrtFrom v k r + 1) := by
  induction k generalizing r with
  | zero => exact ⟨hlo, hhi⟩
  | succ k ih =>
    have hp : r + 2 ^ (k + 1) = r + 2 ^ k + 2 ^ k := by rw [Nat.pow_succ]; omega
    unfold sqrtFrom
    by_cases hfit : (r + 2 ^ k) * (r + 2 ^ k) ≤ v
    · rw [if_pos hfit]
      exact ih _ hfit (hp ▸ hhi)
    · rw [if_neg hfit]
      exact ih _ hlo (Nat.not_le.mp hfit)

/-- The square root of DVSQ is the integer root of a number below 2^48. -/
theorem sqrtFloor_eq {v r : Nat} (hv : v < 2 ^ 48) (hlo : r * r ≤ v) (hhi : v < (r + 1) * (r + 1)) : sqrtFloor v = r := by
  obtain ⟨hlo', hhi'⟩ := sqrtFrom_spec v 24 0 (Nat.zero_le v) (by simpa using hv)
  exact (Nat.eq_sqrt.mpr ⟨hlo', hhi'⟩).trans (Nat.eq_sqrt.mpr ⟨hlo, hhi⟩).symm

end Sys2Proof.Machine
end

section
/-! SUPPORT. Submissions (R230, R231, R495, R496, R498): what the end of a hold leaves when its cluster accepts what the slot
submits, samples of armed streams, and the answer of a lookup. -/

namespace Sys2Proof.Machine

/-! ### The end of a submission's hold -/

section
variable {s t : State} {w : SlotId}

/-- Pending writes land without moving the thread. -/
theorem landed_pc : (s.landed w).pc = (s.slot w).ctx.pc :=
  congrArg (fun p => p.1.pc) (landList_atPc (s.slot w).late (s.slot w).ctx s.free (s.slot w).ctx.pc)

/-- The end of a hold whose submission its cluster accepts (R230, R231). -/
theorem exec_holdComplete_accepted {h : Hold} {r : UnitReq} {u : State} (hh : (s.slot w).held = some h)
    (hp : h.poisoned = false) (hs : h.submit = some r) (hw : NoWaits s w) (hu : s.acceptUnit w r = some u) :
    exec (.holdComplete w) s = .next (u.endHold w h.writes) := by
  show execHoldComplete w s = _
  unfold NoWaits at hw
  unfold execHoldComplete
  simp only [hh, hw, hp, hs, hu, Bool.false_eq_true, if_false]

theorem slots_reserve (g : Nat) : (s.reserve g).slots = s.slots := by
  unfold State.reserve
  split <;> rfl

/-- A tag of the main store that is postable has one entry more reserved (R247). -/
theorem reserved_reserveIf {g : Nat} (hg : g < 0x10000) :
    (if isPostable g then s.reserve g else s).lk.reserved = s.lk.reserved + (if isPostable g then 1 else 0) := by
  rw [State.reserve, if_pos hg]
  split <;> rfl

theorem uni_reserveIf (g : Nat) : (if isPostable g then s.reserve g else s).uni = s.uni := by
  unfold State.reserve
  split_ifs <;> rfl

theorem slots_acceptUnit {r : UnitReq} {u : State} (hu : s.acceptUnit w r = some u) : u.slots = s.slots := by
  have hres : ∀ g, (if isPostable g then s.reserve g else s).slots = s.slots := fun g => by
    split
    · exact slots_reserve g
    · rfl
  cases r with
  | lkup n key g =>
    unfold State.acceptUnit at hu
    dsimp only at hu
    split at hu
    · cases hu
      exact hres g
    · cases hu
  | sprd req g =>
    unfold State.acceptUnit at hu
    dsimp only at hu
    split at hu
    · cases hu
      exact hres g
    · cases hu

/-- A cluster with room accepts a lookup whose result has an entry (R230). -/
theorem acceptUnit_lkup {n g : Nat} {key : List Byte} (hg : g < 0x10000)
    (hroom : (s.uni.lookups.filter (fun l => decide (l.quad = slotQuad w))).length < 96) (he : s.entryFree g = true) :
    ∃ u, s.acceptUnit w (.lkup n key g) = some u ∧
      u.uni.lookups = s.uni.lookups ++ [{ quad := slotQuad w, table := n, key := key, tag := g }] ∧
      u.lk.reserved = s.lk.reserved + (if isPostable g then 1 else 0) := by
  unfold State.acceptUnit
  dsimp only
  rw [if_pos ⟨hroom, .inr he⟩]
  refine ⟨_, rfl, ?_, reserved_reserveIf hg⟩
  dsimp only
  rw [uni_reserveIf]

/-- A cluster accepts a predictor request whose result has an entry (R231). -/
theorem acceptUnit_sprd {g : Nat} {req : List Byte} (he : s.entryFree g = true) :
    ∃ u, s.acceptUnit w (.sprd req g) = some u ∧
      u.uni.preds = s.uni.preds ++ [{ quad := slotQuad w, req := req, tag := g, agent := slotAgent w }] := by
  unfold State.acceptUnit
  dsimp only
  rw [if_pos (.inr he)]
  refine ⟨_, rfl, ?_⟩
  dsimp only
  rw [uni_reserveIf]

/-- The end of a submission's hold ends the hold where the thread stands, and leaves what its cluster accepted. -/
theorem Completes.submission {r : UnitReq} {addr : Option (W32 × Nat)} {cluster : Bool} {pc : W32} {u : State}
    (hnw : NoWaits s w) (hu : (s.hold w [] (some r) addr cluster pc).acceptUnit w r = some u) :
    Completes (.holdComplete w) (s.hold w [] (some r) addr cluster pc) (fun v =>
      (v.slot w).held = none ∧ (v.slot w).ctx.pc = pc ∧ v.uni = u.uni ∧ v.lk = u.lk) := by
  have hslot := slot_congr (slots_acceptUnit hu) w
  obtain ⟨n, hctx⟩ := ctx_endHold u w []
  obtain ⟨honly, -⟩ := OnlySlot.endHold u w []
  refine .next (exec_holdComplete_accepted (by rw [slot_hold]) rfl rfl hnw hu)
    ⟨by rw [slot_endHold], ?_, by rw [honly], by rw [honly]⟩
  rw [hctx]
  change (u.landed w).pc = pc
  rw [landed_pc, hslot, slot_hold]

/-- What an instruction that submits leaves: the slot holds, and nothing of the unit or the lockkeeper differs. -/
theorem hold_leaves (r : Option UnitReq) (ws : List PWrite) (cluster : Bool) (pc : W32) :
    (((s.issuing w).hold w ws r none cluster pc).slot w).held.isSome = true ∧
      ((s.issuing w).hold w ws r none cluster pc).uni = s.uni ∧ ((s.issuing w).hold w ws r none cluster pc).lk = s.lk :=
  ⟨by rw [slot_hold]; rfl, rfl, rfl⟩

end

/-- A key in D-RAM reads the same while its instruction issues (R208). -/
theorem loadBytes_issuing (s : State) (w : SlotId) (a n : Nat) : (s.issuing w).loadBytes w a n = s.loadBytes w a n := by
  rw [State.loadBytes, State.loadBytes, slot_issuing]
  rfl

/-! ### Samples -/

/-- What streams and chunks leave: the slots, and the registers outside EVR. -/
def StreamFrame (s t : State) : Prop := t.slots = s.slots ∧ ∀ a, ¬ evrKey a → t.reg a = s.reg a

section
variable (s : State) {t u : State} {n : Nat}

theorem StreamFrame.trans {s : State} (h : StreamFrame s t) (k : StreamFrame t u) : StreamFrame s u :=
  ⟨k.1.trans h.1, fun a ha => (k.2 a ha).trans (h.2 a ha)⟩

theorem StreamFrame.dropChunk (n : Nat) : StreamFrame s (s.dropChunk n) :=
  ⟨State.slots_raiseFirst _ 642, fun _ ha => State.reg_raiseFirst _ (by decide) ha⟩

theorem StreamFrame.closeChunk (n : Nat) : StreamFrame s (s.closeChunk n) := by
  unfold State.closeChunk
  dsimp only
  split
  · exact ⟨rfl, fun _ _ => rfl⟩
  · split
    · exact StreamFrame.trans (t := s.setStream n _) ⟨rfl, fun _ _ => rfl⟩ (.dropChunk _ n)
    · exact ⟨rfl, fun _ _ => rfl⟩

/-- An accepted sample changes the stream's sequence number and no other register outside EVR (R496, R498). -/
theorem StreamFrame.acceptSample (v : W32) :
    StreamFrame (s.setReg (A.fulSseq n) (s.reg (A.fulSseq n) + 1#32)) (s.acceptSample n v) := by
  have h1 : StreamFrame (s.setReg (A.fulSseq n) (s.reg (A.fulSseq n) + 1#32))
      ((s.setReg (A.fulSseq n) (s.reg (A.fulSseq n) + 1#32)).count 0xF0900) := ⟨rfl, fun _ _ => rfl⟩
  unfold State.acceptSample
  extract_lets _ s1 s2 c d _ s3
  have h2 : StreamFrame (s.setReg (A.fulSseq n) (s.reg (A.fulSseq n) + 1#32)) s2 := by
    dsimp only [s2]
    split
    · split
      · exact h1.trans (.closeChunk s1 n)
      · exact h1
    · exact h1
  have h3 : StreamFrame (s.setReg (A.fulSseq n) (s.reg (A.fulSseq n) + 1#32)) s3 := h2.trans ⟨rfl, fun _ _ => rfl⟩
  split
  · exact h3.trans (.closeChunk s3 n)
  · exact h3

theorem reg_fulSseq_acceptSample (hn : n < 64) (v : W32) :
    (s.acceptSample n v).reg (A.fulSseq n) = s.reg (A.fulSseq n) + 1#32 := by
  have hkey : ¬ evrKey (A.fulSseq n) := by unfold evrKey A.fulSseq; omega
  rw [(StreamFrame.acceptSample s v).2 _ hkey, State.reg_setReg_same]

end

/-! ### Answers of lookups -/

section
variable (s : State) (n : Nat) (hit : Bool)

theorem countLookup_frame : (s.countLookup n hit).lk = s.lk ∧ (s.countLookup n hit).uni = s.uni ∧
    (s.countLookup n hit).mem = s.mem := by
  unfold State.countLookup
  cases hit <;> exact ⟨rfl, rfl, rfl⟩

theorem counter_countLookup :
    (s.countLookup n hit).counter (0x90200 + 8 * n) = s.counter (0x90200 + 8 * n) + 1#64 := by
  unfold State.countLookup
  cases hit with
  | false => exact State.counter_count_same s _
  | true => exact (State.counter_count_ne _ (by omega)).trans (State.counter_count_same s _)

end

/-- The lookup `l`, accepted as the `k`-th, has ended and is counted (R231). -/
def State.lookupEnded (s : State) (k : Nat) (l : LkupOut) : State :=
  State.countLookup { s with uni := { s.uni with lookups := s.uni.lookups.eraseIdx k } } l.table
    (s.tblLookup l.table l.key none).2.2.isSome

theorem lookupEnded_frame (s : State) (k : Nat) (l : LkupOut) : (s.lookupEnded k l).lk = s.lk ∧
    (s.lookupEnded k l).uni.lookups = s.uni.lookups.eraseIdx k ∧ (s.lookupEnded k l).mem = s.mem ∧
      (s.lookupEnded k l).counter (0x90200 + 8 * l.table) = s.counter (0x90200 + 8 * l.table) + 1#64 := by
  obtain ⟨hlk, huni, hmem⟩ := countLookup_frame { s with uni := { s.uni with lookups := s.uni.lookups.eraseIdx k } } l.table
    (s.tblLookup l.table l.key none).2.2.isSome
  exact ⟨hlk, congrArg Uni.lookups huni, hmem, counter_countLookup _ _ _⟩

end Sys2Proof.Machine
end

section
/-! PROOFS. O29: the helper units put together. -/

namespace Sys2Proof.Machine

section
variable {s : State} {w : SlotId} (h : Issues s w) (hw : w.val < 512) {rd ra rb : RegCode}
include h hw

/-! ### DVSQ -/

section
variable (hok : (multiOk rd 2 && regOk ra && regOk rb) = true) (hon : s.clusterOn w = true)
include hok hon

/-- DIVS (R209). -/
theorem Completes.divs_holds (hnw : NoWaits s w) (hb : (s.slot w).ctx.rd rb ≠ 0#32) {a b : W32}
    (hea : (s.slot w).ctx.rd ra = a) (heb : (s.slot w).ctx.rd rb = b) :
    Completes (.divs w rd ra rb) s (HoldsThen s w
      (pairReg (s.slot w).ctx rd (BitVec.ofInt 32 (a.toInt.tdiv b.toInt)) (BitVec.ofInt 32 (a.toInt.tmod b.toInt)))
      { sat := decide (a = 0x80000000#32 ∧ b = 0xFFFFFFFF#32) } ((s.slot w).ctx.pc + 4#32)) := by
  subst hea heb
  rw [Bool.decide_and]
  exact .dvsq_holds h hw (show exec _ s = execDivs w rd ra rb s from rfl) hok (ra := ra) rfl hon (decide_eq_false hb) hnw
    (.pair _ rd _ _ (.satWrites _))

/-- DIVU (R209). -/
theorem Completes.divu_holds (hnw : NoWaits s w) (hb : (s.slot w).ctx.rd rb ≠ 0#32) :
    Completes (.divu w rd ra rb) s (HoldsThen s w
      (pairReg (s.slot w).ctx rd ((s.slot w).ctx.rd ra / (s.slot w).ctx.rd rb) ((s.slot w).ctx.rd ra % (s.slot w).ctx.rd rb))
      {} ((s.slot w).ctx.pc + 4#32)) := by
  rw [BitVec.udiv_def, BitVec.umod_def]
  exact .dvsq_holds h hw (show exec _ s = execDivu w rd ra rb s from rfl) hok (ra := ra) rfl hon
    (decide_eq_false fun hz => hb (BitVec.eq_of_toNat_eq hz)) hnw (.pairOnly _ rd _ _)

/-- DIVS and DIVU refuse a zero divisor. -/
theorem Completes.divides_zero (hb : (s.slot w).ctx.rd rb = 0#32) :
    Completes (.divs w rd ra rb) s
        (fun t => (s.slot w).ctx.inT = false → UnitRefused s w 2 2 ((s.slot w).ctx.rd ra) t) ∧
      Completes (.divu w rd ra rb) s
        (fun t => (s.slot w).ctx.inT = false → UnitRefused s w 2 2 ((s.slot w).ctx.rd ra) t) :=
  ⟨.dvsq_zero h hw (show exec _ s = execDivs w rd ra rb s from rfl) hok rfl hon (decide_eq_true hb),
    .dvsq_zero h hw (show exec _ s = execDivu w rd ra rb s from rfl) hok rfl hon
      (decide_eq_true (congrArg BitVec.toNat hb))⟩

end

section
variable (hok : (regOk rd && regOk ra && regOk rb) = true) (hon : s.clusterOn w = true)
include hok hon

/-- DIVQ (R209). -/
theorem Completes.divq_holds (hnw : NoWaits s w) (hb : (s.slot w).ctx.rd rb ≠ 0#32) {q r : Int}
    (hq : (((s.slot w).ctx.rd ra).toInt * 0x10000).tdiv ((s.slot w).ctx.rd rb).toInt = q)
    (hr : max (-(2 ^ 31)) (min (2 ^ 31 - 1) q) = r) :
    Completes (.divq w rd ra rb) s (HoldsThen s w (oneReg (s.slot w).ctx rd (BitVec.ofInt 32 r)) { sat := decide (r ≠ q) }
      ((s.slot w).ctx.pc + 4#32)) := by
  have hclip : clip32 q = (BitVec.ofInt 32 r, decide (r ≠ q)) := hr ▸ clip32_eq q
  refine .dvsq_holds h hw (show exec _ s = execDivq w rd ra rb s from rfl) hok (ra := ra)
    (ws := (s.slot w).ctx.dst rd (clip32 q).1 ++ satWrites (clip32 q).2) (hq ▸ rfl) hon (decide_eq_false hb) hnw ?_
  rw [hclip]
  exact .dstFlags _ rd _ (.satWrites _)

theorem Completes.divq_zero (hb : (s.slot w).ctx.rd rb = 0#32) : Completes (.divq w rd ra rb) s
    (fun t => (s.slot w).ctx.inT = false → UnitRefused s w 2 2 ((s.slot w).ctx.rd ra) t) :=
  .dvsq_zero h hw (show exec _ s = execDivq w rd ra rb s from rfl) hok rfl hon (decide_eq_true hb)

end

section
variable (hok : (regOk rd && regOk ra) = true)
include hok

/-- SQRTU (R209). -/
theorem Completes.sqrtu_holds (hon : s.clusterOn w = true) (hnw : NoWaits s w) {r : Nat}
    (hlo : r * r ≤ ((s.slot w).ctx.rd ra).toNat) (hhi : ((s.slot w).ctx.rd ra).toNat < (r + 1) * (r + 1)) :
    Completes (.sqrtu w rd ra) s
      (HoldsThen s w (oneReg (s.slot w).ctx rd (BitVec.ofNat 32 r)) {} ((s.slot w).ctx.pc + 4#32)) := by
  have hv := ((s.slot w).ctx.rd ra).isLt
  rw [← sqrtFloor_eq (by omega) hlo hhi]
  exact .dvsq_holds h hw (show exec _ s = execSqrtu w rd ra s from rfl) hok rfl hon rfl hnw (.dst _ rd _)

/-- SQRTQ (R209). -/
theorem Completes.sqrtq_holds (hon : s.clusterOn w = true) (hnw : NoWaits s w) {r : Nat}
    (hlo : r * r ≤ ((s.slot w).ctx.rd ra).toNat * 0x10000) (hhi : ((s.slot w).ctx.rd ra).toNat * 0x10000 < (r + 1) * (r + 1)) :
    Completes (.sqrtq w rd ra) s
      (HoldsThen s w (oneReg (s.slot w).ctx rd (BitVec.ofNat 32 r)) {} ((s.slot w).ctx.pc + 4#32)) := by
  have hv := ((s.slot w).ctx.rd ra).isLt
  rw [← sqrtFloor_eq (by omega) hlo hhi]
  exact .dvsq_holds h hw (show exec _ s = execSqrtq w rd ra s from rfl) hok rfl hon rfl hnw (.dst _ rd _)

theorem Completes.sqrtu_off (hoff : s.clusterOn w = false) : Completes (.sqrtu w rd ra) s
    (fun t => (s.slot w).ctx.inT = false → UnitRefused s w 2 1 ((s.slot w).ctx.rd ra) t) :=
  .dvsq_off h hw (show exec _ s = execSqrtu w rd ra s from rfl) hok rfl hoff

end

/-! ### HASH, LKUP and SPRD -/

/-- HASH (R314, R339). -/
theorem Completes.hash_holds {table : BitVec 2} (hok : (multiOk rd 2 && regOk ra && decide (table ≠ 3#2)) = true)
    (hon : s.clusterOn w = true) (hnw : NoWaits s w)
    (hin : ((s.slot w).ctx.rd ra).toNat + keyBytes table.toNat ≤ 0x4000) (hsize : s.tblSize table.toNat ≠ 0)
    {key : List Byte} (hkey : s.loadBytes w ((s.slot w).ctx.rd ra).toNat (keyBytes table.toNat) = key) :
    Completes (.hash w rd ra table) s (HoldsThen s w
      (pairReg (s.slot w).ctx rd (keyHash (s.placeSeeds table.toNat).1 key) (keyHash (s.placeSeeds table.toNat).2 key)) {}
      ((s.slot w).ctx.pc + 4#32)) := by
  refine .unit_holds h hw (show exec _ s = execHash w rd ra table s from rfl) hok hnw (.pairOnly _ rd _ _) ?_
  have hon' : (s.issuing w).clusterOn w = true := hon
  have hsize' : (s.issuing w).tblSize table.toNat ≠ 0 := hsize
  have hin' : inDram ((s.slot w).issued.ctx.rd ra) (keyBytes table.toNat) = true := decide_eq_true hin
  dsimp only
  rw [hin', hon', if_neg hsize', loadBytes_issuing]
  subst hkey
  rfl

section
variable {table : BitVec 2} (hok : (regOk ra && regOk rb && decide (table ≠ 3#2)) = true)
  (hin : ((s.slot w).ctx.rd ra).toNat + keyBytes table.toNat ≤ 0x4000)
include hok hin

/-- LKUP submits a lookup, and its hold ends when the cluster accepts it (R230, R231). -/
theorem Completes.lkup_submits (hon : s.clusterOn w = true) (hnw : NoWaits s w) {key : List Byte} {g : Nat}
    (hkey : s.loadBytes w ((s.slot w).ctx.rd ra).toNat (keyBytes table.toNat) = key)
    (hg : bits ((s.slot w).ctx.rd rb) 15 0 = g) :
    Completes (.lkup w ra rb table) s (fun t => (t.slot w).held.isSome = true ∧ t.uni = s.uni ∧ t.lk = s.lk ∧
      ((s.uni.lookups.filter (fun l => decide (l.quad = slotQuad w))).length < 96 → s.entryFree g = true →
        Completes (.holdComplete w) t (fun u => (u.slot w).held = none ∧ (u.slot w).ctx.pc = (s.slot w).ctx.pc + 4#32 ∧
          u.uni.lookups = s.uni.lookups ++ [{ quad := slotQuad w, table := table.toNat, key := key, tag := g }] ∧
            u.lk.reserved = s.lk.reserved + (if isPostable g then 1 else 0)))) := by
  have hlt : g < 0x10000 := hg ▸ Nat.mod_lt _ (by decide)
  set t := (s.issuing w).hold w [] (some (.lkup table.toNat key g)) none true ((s.slot w).ctx.pc + 4#32) with ht
  refine .unit_issues h hw (show exec _ s = execLkup w ra rb table s from rfl) hok (t := t) ?_ ?_
  · have hon' : (s.issuing w).clusterOn w = true := hon
    have hin' : inDram ((s.slot w).issued.ctx.rd ra) (keyBytes table.toNat) = true := decide_eq_true hin
    dsimp only
    rw [hin', hon', loadBytes_issuing, ht, ← hkey, ← hg]
    rfl
  · obtain ⟨hheld, huni, hlk⟩ := hold_leaves (s := s) (w := w) (some (.lkup table.toNat key g)) [] true
      ((s.slot w).ctx.pc + 4#32)
    refine ⟨hheld, huni, hlk, fun hroom he => ?_⟩
    obtain ⟨u, hu, hlook, hres⟩ := acceptUnit_lkup (s := t) (n := table.toNat) (key := key) hlt hroom he
    obtain ⟨v, hx, h1, h2, h3, h4⟩ := Completes.submission (s := s.issuing w) hnw hu
    exact ⟨v, hx, h1, h2, by rw [h3]; exact hlook, by rw [h4]; exact hres⟩

theorem Completes.lkup_off (hoff : s.clusterOn w = false) : Completes (.lkup w ra rb table) s
    (fun t => (s.slot w).ctx.inT = false → UnitRefused s w 4 1 ((s.slot w).ctx.rd ra) t) := by
  refine .unit_refuses h hw (show exec _ s = execLkup w ra rb table s from rfl) hok ?_
  have hoff' : (s.issuing w).clusterOn w = false := hoff
  have hin' : inDram ((s.slot w).issued.ctx.rd ra) (keyBytes table.toNat) = true := decide_eq_true hin
  dsimp only
  rw [hin', hoff']
  rfl

end

section
variable (hok : (regOk ra && regOk rb) = true)
include hok

section
variable (hin : ((s.slot w).ctx.rd ra).toNat + 32 ≤ 0x4000)
include hin

/-- SPRD submits a request, and its hold ends when the cluster accepts it (R231). -/
theorem Completes.sprd_submits (hon : s.clusterOn w = true) (hnw : NoWaits s w) {req : List Byte} {g : Nat}
    (hreq : s.loadBytes w ((s.slot w).ctx.rd ra).toNat 32 = req) (hg : bits ((s.slot w).ctx.rd rb) 15 0 = g) :
    Completes (.sprd w ra rb) s (fun t => (t.slot w).held.isSome = true ∧ t.uni = s.uni ∧
      (s.entryFree g = true → Completes (.holdComplete w) t (fun u => (u.slot w).held = none ∧
        u.uni.preds = s.uni.preds ++ [{ quad := slotQuad w, req := req, tag := g, agent := slotAgent w }]))) := by
  set t := (s.issuing w).hold w [] (some (.sprd req g)) none true ((s.slot w).ctx.pc + 4#32) with ht
  refine .unit_issues h hw (show exec _ s = execSprd w ra rb s from rfl) hok (t := t) ?_ ?_
  · have hon' : (s.issuing w).clusterOn w = true := hon
    have hin' : inDram ((s.slot w).issued.ctx.rd ra) 32 = true := decide_eq_true hin
    dsimp only
    rw [hin', hon', loadBytes_issuing, ht, ← hreq, ← hg]
    rfl
  · obtain ⟨hheld, huni, -⟩ := hold_leaves (s := s) (w := w) (some (.sprd req g)) [] true ((s.slot w).ctx.pc + 4#32)
    refine ⟨hheld, huni, fun he => ?_⟩
    obtain ⟨u, hu, hpreds⟩ := acceptUnit_sprd (s := t) (req := req) he
    obtain ⟨v, hx, h1, -, h3, -⟩ := Completes.submission (s := s.issuing w) hnw hu
    exact ⟨v, hx, h1, by rw [h3]; exact hpreds⟩

theorem Completes.sprd_off (hoff : s.clusterOn w = false) : Completes (.sprd w ra rb) s
    (fun t => (s.slot w).ctx.inT = false → UnitRefused s w 6 1 ((s.slot w).ctx.rd ra) t) := by
  refine .unit_refuses h hw (show exec _ s = execSprd w ra rb s from rfl) hok ?_
  have hoff' : (s.issuing w).clusterOn w = false := hoff
  have hin' : inDram ((s.slot w).issued.ctx.rd ra) 32 = true := decide_eq_true hin
  dsimp only
  rw [hin', hoff']
  rfl

end

/-! ### FSUB -/

/-- FSUB to an armed stream (R495, R496). -/
theorem Completes.fsub_accepted (hon : s.clusterOn w = true) {n : Nat} (hn : bits ((s.slot w).ctx.rd ra) 5 0 = n)
    (harmed : s.armed n = true) : Completes (.fsub w ra rb) s (fun t => (t.slot w).held.isSome = true ∧
      (t.slot w).ctx.pc = (s.slot w).ctx.pc + 4#32 ∧ t.reg (A.fulSseq n) = s.reg (A.fulSseq n) + 1#32) := by
  subst hn
  set n := bits ((s.slot w).ctx.rd ra) 5 0
  have hn : n < 64 := Nat.mod_lt _ (by decide)
  set u := (s.issuing w).hold w [] none none true ((s.slot w).ctx.pc + 4#32) with hu
  have hslot : (u.acceptSample n ((s.slot w).ctx.rd rb)).slot w = u.slot w :=
    slot_congr (StreamFrame.acceptSample u _).1 w
  refine .unit_issues h hw (show exec _ s = execFsub w ra rb s from rfl) hok
    (t := u.acceptSample n ((s.slot w).ctx.rd rb)) ?_ ?_
  · have hon' : (s.issuing w).clusterOn w = true := hon
    have harmed' : (s.issuing w).armed (bits ((s.slot w).issued.ctx.rd ra) 5 0) = true := harmed
    dsimp only
    rw [hon', harmed']
    rfl
  · rw [hslot, reg_fulSseq_acceptSample u hn, hu, slot_hold]
    exact ⟨rfl, rfl, rfl⟩

theorem Completes.fsub_unarmed (hon : s.clusterOn w = true) (harmed : s.armed (bits ((s.slot w).ctx.rd ra) 5 0) = false) :
    Completes (.fsub w ra rb) s
      (fun t => (s.slot w).ctx.inT = false → UnitRefused s w 5 4 ((s.slot w).ctx.rd ra) t) := by
  refine .unit_refuses h hw (show exec _ s = execFsub w ra rb s from rfl) hok ?_
  have hon' : (s.issuing w).clusterOn w = true := hon
  have harmed' : (s.issuing w).armed (bits ((s.slot w).issued.ctx.rd ra) 5 0) = false := harmed
  dsimp only
  rw [hon', harmed']
  rfl

theorem Completes.fsub_off (hoff : s.clusterOn w = false) : Completes (.fsub w ra rb) s
    (fun t => (s.slot w).ctx.inT = false → UnitRefused s w 5 1 ((s.slot w).ctx.rd ra) t) := by
  refine .unit_refuses h hw (show exec _ s = execFsub w ra rb s from rfl) hok ?_
  have hoff' : (s.issuing w).clusterOn w = false := hoff
  dsimp only
  rw [hoff']
  rfl

end

end

/-! ### The answer of a lookup -/

/-- LKUP_RESULT ends its lookup, counts it, and posts the result with the entry reserved for it (R231, R322). -/
theorem Completes.lkupResult {s : State} {k : Nat} {l : LkupOut} (hl : s.uni.lookups[k]? = some l) (ht : l.table < 3) :
    Completes (.lkupResult k) s (fun t => t.uni.lookups = s.uni.lookups.eraseIdx k ∧
      t.counter (0x90200 + 8 * l.table) = s.counter (0x90200 + 8 * l.table) + 1#64 ∧ t.mem = s.mem ∧
      (isPostable l.tag = true → Unwanted s l.tag →
        Queued s t l.tag { value := (s.tblLookup l.table l.key none).1, status := .ok, turn := false })) := by
  have hx : exec (.lkupResult k) s = .next (if isPostable l.tag then
      (s.lookupEnded k l).postReserved l.tag (s.tblLookup l.table l.key none).1 .ok else s.lookupEnded k l) := by
    show execLkupResult k s = _
    unfold execLkupResult
    rw [hl]
    rfl
  obtain ⟨hlk, huni, hmem, hctr⟩ := lookupEnded_frame s k l
  generalize s.lookupEnded k l = v at *
  cases hp : isPostable l.tag with
  | false =>
    rw [hp] at hx
    exact .next hx ⟨huni, hctr, hmem, fun h => absurd h (by decide)⟩
  | true =>
    rw [hp] at hx
    have hf := frame_postReserved v l.tag (s.tblLookup l.table l.key none).1 .ok
    have hkey : ¬ KeeperCtr (0x90200 + 8 * l.table) := by unfold KeeperCtr; omega
    refine .next hx ⟨(congrArg Uni.lookups hf.uni).trans huni,
      ((MatchFrame.postReserved v _ _ _).counter _ hkey).trans hctr, hf.mem.trans hmem, fun _ hunw => ?_⟩
    have hunw' : Unwanted v l.tag := hunw.congr fun n => by rw [State.thread, State.thread, hlk]
    obtain ⟨ks, hks⟩ := queued_postReserved hunw' (s.tblLookup l.table l.key none).1 .ok
    exact ⟨ks, hks.trans (by rw [State.tokens, State.tokens, hlk])⟩

/-- Settles O29: results and refusals of DVSQ, HASH, LKUP, SPRD and FSUB, and the answer of a lookup. -/
theorem helperUnitsAnswerOrRefuse : Obligations.HelperUnitsAnswerOrRefuse := by
  unfold Obligations.HelperUnitsAnswerOrRefuse
  refine ⟨fun s w rd ra rb h hw hrd hra hrb hon hnw => ?_, fun s w rd ra rb h hw hrd hra hrb hoff hT => ?_,
    fun s k l hl ht => .lkupResult hl ht⟩
  · intro x a b pc refused
    have hpair : rd.toNat % 2 = 0 → (multiOk rd 2 && regOk ra) = true := fun heven => by
      rw [multiOk, hrd, hra, decide_eq_true heven]
      rfl
    have hpair2 : rd.toNat % 2 = 0 → (multiOk rd 2 && regOk ra && regOk rb) = true := fun heven => by
      rw [hpair heven, hrb]
      rfl
    have hone : (regOk rd && regOk ra) = true := by rw [hrd, hra]; rfl
    have htwo : (regOk ra && regOk rb) = true := by rw [hra, hrb]; rfl
    have hthree : (regOk rd && regOk ra && regOk rb) = true := by rw [hone, hrb]; rfl
    refine ⟨fun heven hb =>
        ⟨.divs_holds h hw (hpair2 heven) hon hnw hb rfl rfl, .divu_holds h hw (hpair2 heven) hon hnw hb⟩,
      fun hb => .divq_holds h hw hthree hon hnw hb rfl rfl,
      fun hb => ⟨.divq_zero h hw hthree hon hb, fun heven => Completes.divides_zero h hw (hpair2 heven) hon hb⟩,
      fun r hlo hhi => .sqrtu_holds h hw hone hon hnw hlo hhi, fun r hlo hhi => .sqrtq_holds h hw hone hon hnw hlo hhi,
      fun table htable hin => ?_, fun hin => .sprd_submits h hw htwo hin hon hnw rfl rfl,
      fun harmed => .fsub_accepted h hw htwo hon rfl harmed, fun harmed => .fsub_unarmed h hw htwo hon harmed⟩
    exact ⟨fun heven hsize => .hash_holds h hw (by rw [hpair heven, decide_eq_true htable]; rfl) hon hnw hin hsize rfl,
      .lkup_submits h hw (by rw [htwo, decide_eq_true htable]; rfl) hin hon hnw rfl rfl⟩
  · intro x off
    have hone : (regOk rd && regOk ra) = true := by rw [hrd, hra]; rfl
    have htwo : (regOk ra && regOk rb) = true := by rw [hra, hrb]; rfl
    refine ⟨(Completes.sqrtu_off h hw hone hoff).outside hT, (Completes.fsub_off h hw htwo hoff).outside hT, fun hin => ?_⟩
    have h32 : (x.rd ra).toNat + 32 ≤ 0x4000 := of_decide_eq_true hin
    have h8 : (x.rd ra).toNat + 8 ≤ 0x4000 := by omega
    exact ⟨(Completes.sprd_off h hw htwo h32 hoff).outside hT,
      (Completes.lkup_off (table := 0#2) h hw (by rw [htwo]; rfl) h8 hoff).outside hT⟩

end Sys2Proof.Machine
end
